-- ==== Sys2Proof/Word.lean ====
section
/-! DEFINITION. Sys2Proof/Word.lean: the word types of the Gorpodel and their plainest arithmetic. -/

namespace Sys2Proof

/-- A byte of memory, of scratchpad, of a record or of a message (R11). -/
abbrev Byte := BitVec 8

/-- A 64-bit word: a scalar register, an instruction word, a register slot (R197, R611). -/
abbrev Word := BitVec 64

/-- A string of bytes, lowest address first. -/
abbrev Bytes := List Byte

/-- A table: key and value pairs, keys strictly rising (see `Tbl.wf`). Memory is one, with bytes as its values. -/
abbrev Tbl (α : Type) := List (Nat × α)

end Sys2Proof
end

