-- ==== Sys2Proof/Syntax.lean ====
section
/-! DEFINITION. Sys2Proof/Syntax.lean: the commands of the block, one constructor per row of spec/opcode_table.json. -/

namespace Sys2Proof

/-- One command: one row of the table of operations and events, with the operands that fix its occurrence.
What the outside supplies (measured values, arriving data, host writes) stands in the operands. -/
inductive Instr where
  /-- ALU: Scalar register-register operation (R199); `w` is the instruction word that physical core `core` issues. -/
  | alu (core : Nat) (w : Word)
  /-- ALUI: Scalar register-immediate operation (R199); `w` is the instruction word that physical core `core` issues. -/
  | alui (core : Nat) (w : Word)
  /-- LD: Scalar load (R201); `w` is the instruction word that physical core `core` issues. -/
  | ld (core : Nat) (w : Word)
  /-- ST: Posted scalar store (R202); `w` is the instruction word that physical core `core` issues. -/
  | st (core : Nat) (w : Word)
  /-- AMO: Scalar atomic (R203); `w` is the instruction word that physical core `core` issues. -/
  | amo (core : Nat) (w : Word)
  /-- BR: Conditional branch (R199); `w` is the instruction word that physical core `core` issues. -/
  | br (core : Nat) (w : Word)
  /-- JMP: Jump (R199); `w` is the instruction word that physical core `core` issues. -/
  | jmp (core : Nat) (w : Word)
  /-- SRD: Special-register read (R204); `w` is the instruction word that physical core `core` issues. -/
  | srd (core : Nat) (w : Word)
  /-- VOP: Vector operation (R217); `w` is the instruction word that physical core `core` issues. -/
  | vop (core : Nat) (w : Word)
  /-- VLS: Vector load or store (R218); `w` is the instruction word that physical core `core` issues. -/
  | vls (core : Nat) (w : Word)
  /-- MMA: Enters a matrix multiply-accumulate into the matrix queue (R205); `w` is the instruction word that physical core `core` issues. -/
  | mma (core : Nat) (w : Word)
  /-- MMA_EXECUTE: The matrix unit runs the queued MMA at its head (R110). -/
  | mmaExecute (core : Nat)
  /-- RQ: Enters a requantize instruction into the matrix queue (R211). -/
  | rq (core : Nat) (w : Word)
  /-- RQ_EXECUTE: The matrix unit runs the queued RQ at its head (R212). -/
  | rqExecute (core : Nat)
  /-- TDMA: Reads, checks and translates a tile descriptor and issues its bursts (R221). -/
  | tdma (core : Nat) (w : Word)
  /-- TILE_DMA_BURST_COMPLETE: The tile-DMA burst that is request `req` completes (R176). -/
  | tileDmaBurstComplete (req : Nat)
  /-- DWAIT: Waits for completion groups (R220). -/
  | dwait (core : Nat) (w : Word)
  /-- SLAUNCH: Starts a prefetch-script lane (R177). -/
  | slaunch (core : Nat) (w : Word)
  /-- SCRIPT_ENTRY_ISSUE: A script lane issues its next entry (R179). -/
  | scriptEntryIssue (core slot lane : Nat)
  /-- SREL: Releases a lane's oldest issued entries (R179). -/
  | srel (core : Nat) (w : Word)
  /-- FSIG: Posts a fence signal (R227). -/
  | fsig (core : Nat) (w : Word)
  /-- FENCE_OFFER: Posted offer `offer` reaches its fence word (R227). -/
  | fenceOffer (offer : Nat)
  /-- FWAIT: Reads a fence word and completes or waits (R228). -/
  | fwait (core : Nat) (w : Word)
  /-- FWAIT_TIMEOUT: The time limit of an FWAIT passes (R228). -/
  | fwaitTimeout (core slot : Nat)
  /-- FWAIT_POLL: A wait without a home watch entry re-reads its word (R229, R658). -/
  | fwaitPoll (core slot : Nat)
  /-- FENCE: Ordering fence (R230). -/
  | fence (core : Nat) (w : Word)
  /-- BAR: Barrier (R231). -/
  | bar (core : Nat) (w : Word)
  /-- BARRIER_ARRIVAL: Barrier arrival message `msg` is delivered (R233). -/
  | barrierArrival (msg : Nat)
  /-- SIFT: Sends a sift request (R245); `w` is the instruction word. -/
  | sift (core : Nat) (w : Word)
  /-- HALT: Ends the rank (R236); `w` is the instruction word. -/
  | halt (core : Nat) (w : Word)
  /-- YIELD: Offers the core (R236); `w` is the instruction word. -/
  | yield (core : Nat) (w : Word)
  /-- SEG: Marks a WCET segment (R236); `w` is the instruction word. -/
  | seg (core : Nat) (w : Word)
  /-- GRET: Returns from the guard handler (R214); `w` is the instruction word. -/
  | gret (core : Nat) (w : Word)
  /-- TRAP: Software fault (R236); `w` is the instruction word. -/
  | trap (core : Nat) (w : Word)
  /-- BKPT: Debugger stop (R236); `w` is the instruction word. -/
  | bkpt (core : Nat) (w : Word)
  /-- CINV: Writes back and invalidates cached lines of a range (R237); `w` is the instruction word. -/
  | cinv (core : Nat) (w : Word)
  /-- CWB: Writes back dirty cached lines of a range (R237); `w` is the instruction word. -/
  | cwb (core : Nat) (w : Word)
  /-- STORE_COMPLETION: Posted store `req` completes (R202). -/
  | storeCompletion (req : Nat)
  /-- CTX_FAULT: The pending fault of a slot stops its context everywhere (R593). -/
  | ctxFault (core slot : Nat)
  /-- FAULT_HOLD_EXPIRY: HOLD_US expires for a faulted context (R593). -/
  | faultHoldExpiry (ctx : Nat)
  /-- SAFEGUARD_UPDATE_COMPLETE: A fetch-and-add into a safeguard block completes (R131). -/
  | safeguardUpdateComplete (upd : Nat)
  /-- CONTEXT_SWITCH: The core switches to the chosen context (R512). -/
  | contextSwitch (core : Nat)
  /-- QUANTUM_EXPIRY: The running context has run QUANTUM cycles (R511). -/
  | quantumExpiry (core : Nat)
  /-- WAIT_SW_EXPIRY: The running context has waited WAIT_SW cycles (R511). -/
  | waitSwExpiry (core : Nat)
  /-- RT_CONTEXT_READY: A real-time context becomes ready (R511). -/
  | rtContextReady (core slot : Nat)
  /-- RT_MISS: An admitted activation misses its deadline (R523). -/
  | rtMiss (ctx : Nat)
  /-- DOORBELL_SNOOP: The host writes the 64 bytes `line` to a watched doorbell line (R475). -/
  | doorbellSnoop (queue : Nat) (line : Bytes)
  /-- DOORBELL_REFETCH: Refetched doorbell data arrives (R476). -/
  | doorbellRefetch (queue : Nat)
  /-- DOORBELL_POLL: The hub reads an unwatched doorbell line (R475). -/
  | doorbellPoll (queue : Nat)
  /-- COMMAND_FETCH: Fetched ring entries arrive (R476). -/
  | commandFetch (queue : Nat)
  /-- COMMAND_WAIT_SATISFIED: The WAIT of the queue's first command is satisfied (R481). -/
  | commandWaitSatisfied (queue : Nat)
  /-- COMMAND_COMPLETE: The queue's command reaches its completion point (R480). -/
  | commandComplete (queue : Nat)
  /-- REF_COUNT_SUBTRACT: The subtraction of a reference count returns (R493). -/
  | refCountSubtract (sub : Nat) (hostError : Bool)
  /-- NOP: Queue command at the head of `queue` (R484). -/
  | nop (queue : Nat)
  /-- SIGNAL: Queue command at the head of `queue` (R484). -/
  | signal (queue : Nat)
  /-- LAUNCH: Queue command at the head of `queue` (R485). -/
  | launch (queue : Nat)
  /-- LAUNCH_START: The waiting launch of `queue` starts (R656). -/
  | launchStart (queue : Nat)
  /-- ACTIVATION_COMPLETE: Every rank has halted and its work completed (R480). -/
  | activationComplete (ctx : Nat)
  /-- COPY: Queue command at the head of `queue` (R383). -/
  | copy (queue : Nat)
  /-- SIEVE_FLUSH: Queue command at the head of `queue` (R131). -/
  | sieveFlush (queue : Nat)
  /-- SAFE_SET: Queue command at the head of `queue` (R123). -/
  | safeSet (queue : Nat)
  /-- RESEED: Queue command at the head of `queue` (R117). -/
  | reseed (queue : Nat)
  /-- PROG_LOAD: Queue command at the head of `queue` (R185). -/
  | progLoad (queue : Nat)
  /-- PROG_UNLOAD: Queue command at the head of `queue` (R484). -/
  | progUnload (queue : Nat)
  /-- CTX_CREATE: Queue command at the head of `queue` (R488). -/
  | ctxCreate (queue : Nat)
  /-- CTX_DESTROY: Queue command at the head of `queue` (R469). -/
  | ctxDestroy (queue : Nat)
  /-- CTX_RESET: Queue command at the head of `queue` (R600). -/
  | ctxReset (queue : Nat)
  /-- RESUME: Queue command at the head of `queue` (R370). -/
  | resume (queue : Nat)
  /-- QUEUE_CREATE: Queue command at the head of `queue` (R489). -/
  | queueCreate (queue : Nat)
  /-- QUEUE_DESTROY: Queue command at the head of `queue` (R484). -/
  | queueDestroy (queue : Nat)
  /-- EVRING_CREATE: Queue command at the head of `queue` (R489). -/
  | evringCreate (queue : Nat)
  /-- EVRING_DESTROY: Queue command at the head of `queue` (R484). -/
  | evringDestroy (queue : Nat)
  /-- INVALIDATE: Queue command at the head of `queue` (R364). -/
  | invalidate (queue : Nat)
  /-- INVALIDATE_DRAINED: The last use in flight of the queue's INVALIDATE completes (R364). -/
  | invalidateDrained (queue : Nat)
  /-- INV_SLOW: The INVALIDATE threshold passes with uses in flight (R367). -/
  | invSlow (queue : Nat)
  /-- MIGRATE: Queue command (R373). -/
  | migrate (queue : Nat)
  /-- MIGRATE_COPY_COMPLETE: The pages of the queue's MIGRATE are copied (R373). -/
  | migrateCopyComplete (queue : Nat)
  /-- ADVISE: Queue command (R375). -/
  | advise (queue : Nat)
  /-- FRAME_SET: Queue command (R379). -/
  | frameSet (queue : Nat)
  /-- BIAS_TAKEBACK_DONE: All lines of the frame are back from the host (R462). -/
  | biasTakebackDone (queue : Nat)
  /-- CHAN_ASSIGN: Queue command at the head of `queue` (R382). -/
  | chanAssign (queue : Nat)
  /-- FOLIO_CREATE: Queue command at the head of `queue` (R409). -/
  | folioCreate (queue : Nat)
  /-- FOLIO_DESTROY: Queue command at the head of `queue` (R408). -/
  | folioDestroy (queue : Nat)
  /-- SLICE_ATTACH: Queue command at the head of `queue` (R424). -/
  | sliceAttach (queue : Nat)
  /-- SLICE_DETACH: Queue command at the head of `queue` (R422). -/
  | sliceDetach (queue : Nat)
  /-- SLICE_TRANSFER: Queue command at the head of `queue` (R422). -/
  | sliceTransfer (queue : Nat)
  /-- SLICE_MOVE: Queue command at the head of `queue` (R425). -/
  | sliceMove (queue : Nat)
  /-- SLICE_MOVE_COPY_COMPLETE: The move copy of memory slice `slice` finishes (R425). -/
  | sliceMoveCopyComplete (slice : Nat)
  /-- SET_PROTECT: Queue command at the head of `queue` (R439). -/
  | setProtect (queue : Nat)
  /-- PEER_SET: Queue command at the head of `queue` (R431). -/
  | peerSet (queue : Nat)
  /-- LINK_SHARE: Queue command at the head of `queue` (R433). -/
  | linkShare (queue : Nat)
  /-- FOLIO_QUERY: Queue command at the head of `queue` (R484). -/
  | folioQuery (queue : Nat)
  /-- FOLIO_RING: Queue command at the head of `queue` (R487). -/
  | folioRing (queue : Nat)
  /-- EPOCH_IN_FORCE: A folio's new epoch has been pushed everywhere (R413). -/
  | epochInForce (folio : Nat)
  /-- DRAIN_ZERO: A departing slice's drain counter reaches zero (R419); kind 0 core, 1 memory, 2 link. -/
  | drainZero (kind slice : Nat)
  /-- DRAIN_LIMIT_EXPIRY: DRAIN_LIM passes with the drain counter above zero (R428). -/
  | drainLimitExpiry (kind slice : Nat)
  /-- SCRUB_COMPLETE: A memory slice finishes being zeroed (R426). -/
  | scrubComplete (slice : Nat)
  /-- CONF_SLICE_INIT_COMPLETE: A slice joining a confidential folio finishes its initialisation (R575). -/
  | confSliceInitComplete (slice : Nat)
  /-- MIRROR_MEMBER_LOSS: A member of a mirrored pair is lost (R441). -/
  | mirrorMemberLoss (slice : Nat)
  /-- CODED_MEMBER_LOSS: A member of a coded set is lost (R443). -/
  | codedMemberLoss (slice : Nat)
  /-- SECOND_LOSS: A second loss in an unprotected set (R444). -/
  | secondLoss (slice : Nat)
  /-- STITCH_LINK_IDLE: Every link to a peer shows electrical idle (R438). -/
  | stitchLinkIdle (peer : Nat)
  /-- PEER_LOSS_DRAIN_EXPIRY: DRAIN_LIM passes after peer loss (R438). -/
  | peerLossDrainExpiry (peer folio : Nat)
  /-- STITCH_READ: A read packet arrives (R435). -/
  | stitchRead (link : Nat) (hdr payload : Bytes)
  /-- STITCH_WRITE: A write packet arrives (R435). -/
  | stitchWrite (link : Nat) (hdr payload : Bytes)
  /-- STITCH_ATOMIC: An atomic packet arrives (R435). -/
  | stitchAtomic (link : Nat) (hdr payload : Bytes)
  /-- STITCH_FENCE_OFFER: A fence offer packet arrives (R435). -/
  | stitchFenceOffer (link : Nat) (hdr payload : Bytes)
  /-- STITCH_BARRIER: A barrier packet arrives (R435). -/
  | stitchBarrier (link : Nat) (hdr payload : Bytes)
  /-- STITCH_MIRROR_WRITE: A mirror write packet arrives (R435). -/
  | stitchMirrorWrite (link : Nat) (hdr payload : Bytes)
  /-- STITCH_COMPLETION_DATA: A completion with data arrives (R435). -/
  | stitchCompletionData (link : Nat) (hdr payload : Bytes)
  /-- STITCH_COMPLETION: A completion without data arrives (R435). -/
  | stitchCompletion (link : Nat) (hdr payload : Bytes)
  /-- STITCH_CREDIT_RETURN: A credit return packet arrives (R435). -/
  | stitchCreditReturn (link : Nat) (hdr payload : Bytes)
  /-- STITCH_DISCARD: A packet of unknown type arrives (R435). -/
  | stitchDiscard (link : Nat) (hdr payload : Bytes)
  /-- REPORT: A power-group REPORT arrives (R553, R554). -/
  | report (link : Nat) (payload : Bytes)
  /-- ASSIGN: A power-group ASSIGN arrives (R553, R554). -/
  | assign (link : Nat) (payload : Bytes)
  /-- REPORT_PERIOD: The 10 ms period expires (R553). -/
  | reportPeriod
  /-- LEADER_ASSIGN: The leader runs its procedure (R553). -/
  | leaderAssign
  /-- ASSIGN_TIMEOUT: 50 ms pass without ASSIGN (R555). -/
  | assignTimeout
  /-- SHARE_SET: Queue command at the head of `queue` (R509). -/
  | shareSet (queue : Nat)
  /-- ACCT_READ: Queue command at the head of `queue` (R514). -/
  | acctRead (queue : Nat)
  /-- RT_ADMIT: Queue command at the head of `queue` (R518). -/
  | rtAdmit (queue : Nat)
  /-- RT_RELEASE: Queue command at the head of `queue` (R520). -/
  | rtRelease (queue : Nat)
  /-- CYCLIC_LOAD: Queue command at the head of `queue` (R527). -/
  | cyclicLoad (queue : Nat)
  /-- CYCLIC_ENTER: Queue command at the head of `queue` (R526). -/
  | cyclicEnter (queue : Nat)
  /-- CYCLIC_EXIT: Queue command at the head of `queue` (R526). -/
  | cyclicExit (queue : Nat)
  /-- MINOR_FRAME_BOUNDARY: A 62.5 microsecond minor frame starts (R528). -/
  | minorFrameBoundary
  /-- CYCLIC_ENTRY_START: A due cyclic entry starts (R528); `pass`, `code` and `unit` are what a self-test entry finds (R608). -/
  | cyclicEntryStart (entry : Nat) (pass : Bool) (code unit : Nat)
  /-- CYCLIC_OVERRUN: An entry's budget expires with its activation running (R528). -/
  | cyclicOverrun (entry : Nat)
  /-- POWER_SET: Queue command (R557). -/
  | powerSet (queue : Nat)
  /-- ENERGY_WATCH: Queue command (R557). -/
  | energyWatch (queue : Nat)
  /-- ENERGY_ESTIMATE: Every 10 ms: the energy blocks are written (R556). -/
  | energyEstimate
  /-- CONF_KEYS: Queue command (R571). -/
  | confKeys (queue : Nat)
  /-- KEY_ROTATE: Queue command (R582). -/
  | keyRotate (queue : Nat)
  /-- KEY_ROTATE_DONE: Every frame has flipped and no old-key request remains (R582). -/
  | keyRotateDone (folio : Nat)
  /-- ATTEST: Queue command (R572). -/
  | attest (queue : Nat)
  /-- ENGINE_RESET: Queue command at the head of `queue` (R601). -/
  | engineReset (queue : Nat)
  /-- FOLIO_RESET: Queue command at the head of `queue` (R602). -/
  | folioReset (queue : Nat)
  /-- PKG_RESET: Queue command at the head of `queue` (R603). -/
  | pkgReset (queue : Nat)
  /-- PKG_STANDBY: Queue command at the head of `queue` (R606). -/
  | pkgStandby (queue : Nat)
  /-- STANDBY_EXIT: The part leaves package standby (R606). -/
  | standbyExit
  /-- WATCHDOG_ACT: ACT_MS passes for a running LAUNCH (R595). -/
  | watchdogAct (ctx : Nat)
  /-- WATCHDOG_CMDWAIT: WAIT_MS passes for a waiting command (R595). -/
  | watchdogCmdwait (queue : Nat)
  /-- WATCHDOG_CORE: CORE_US passes with nothing retired (R595). -/
  | watchdogCore (core : Nat)
  /-- WATCHDOG_REQ: REQ_MS passes for a request (R595). -/
  | watchdogReq (req : Nat)
  /-- WATCHDOG_MGMT: The management processor's heartbeat stops (R595). -/
  | watchdogMgmt
  /-- WATCHDOG_CLASP: The Clasp stops (R595). -/
  | watchdogClasp
  /-- WATCHDOG_STEP: Reset step `step` of `target` runs past its bound (R599): the context of step 1; of step 2 the engine, ENGINE_RESET's ID with
  its KIND from bit 32 up. -/
  | watchdogStep (step target : Nat)
  /-- BOOKS_CHECK: The hub checks its books (R605). -/
  | booksCheck
  /-- DIE_FAILURE: A die fails in service (R49). -/
  | dieFailure (die cause : Nat)
  /-- WALK_COMPLETE: Page walk `walk` finishes (R353). -/
  | walkComplete (walk : Nat)
  /-- COPY_DESCRIPTOR_START: Channel `chan` (16 e + c) reads and checks its next descriptor (R398). -/
  | copyDescriptorStart (chan : Nat)
  /-- COPY_WAIT_SATISFIED: A descriptor's WAIT is satisfied (R390). -/
  | copyWaitSatisfied (chan : Nat)
  /-- COPY_BURST_ISSUE: A free buffer goes to the chosen channel (R394). -/
  | copyBurstIssue (engine : Nat)
  /-- COPY_BURST_COMPLETE: A copy burst completes (R392). -/
  | copyBurstComplete (chan burst : Nat)
  /-- COPY_DESCRIPTOR_END: A descriptor ends (R391). -/
  | copyDescriptorEnd (chan : Nat)
  /-- SIFT_ACCEPT: Sift request `sift` enters its unit's queue (R259). -/
  | siftAccept (sift : Nat)
  /-- SIFT_START: A sift unit starts its next request (R259). -/
  | siftStart (unit : Nat)
  /-- SIFT_COMPLETE: The running sift request finishes (R250). -/
  | siftComplete (unit : Nat)
  /-- GET_SHARE: The home serves a request for a shared copy (R311) for request `req`. -/
  | getShare (req : Nat)
  /-- GET_OWN: The home serves a request for an owned copy (R311) for request `req`. -/
  | getOwn (req : Nat)
  /-- UPGRADE: The home grants ownership without data (R315) for request `req`. -/
  | upgrade (req : Nat)
  /-- GLANCE: The home returns current data (R308) for request `req`. -/
  | glance (req : Nat)
  /-- PUT_HOME: The home performs a coherent write (R321) for request `req`. -/
  | putHome (req : Nat)
  /-- RAW_GET: The home performs a non-snooping read (R318) for request `req`. -/
  | rawGet (req : Nat)
  /-- RAW_PUT: The home performs a non-snooping write (R318) for request `req`. -/
  | rawPut (req : Nat)
  /-- RETIRE_DIRTY: A dirty eviction of core slice `slice` reaches the home (R314). -/
  | retireDirty (slice line : Nat)
  /-- RETIRE_CLEAN: A clean eviction reaches the home (R314). -/
  | retireClean (slice line : Nat)
  /-- GRANT_ACK: GrantAck ends the line's transaction (R309). -/
  | grantAck (line : Nat)
  /-- PRB_MISS: A snooped cache reports no copy (R312). -/
  | prbMiss (slice line : Nat)
  /-- GRANT_DATA: A grant arrives at the cache; `victim` is the line the replacement takes when the set is full (R308, R299). -/
  | grantData (slice line victim : Nat)
  /-- RETIRE_ACK: RetireAck frees the writeback buffer entry (R303). -/
  | retireAck (slice line : Nat)
  /-- PRB_SHARE: PrbShare reaches the cache (R310). -/
  | prbShare (slice line : Nat)
  /-- PRB_OWN: PrbOwn reaches the cache (R310). -/
  | prbOwn (slice line : Nat)
  /-- PRB_GLANCE: PrbGlance reaches the cache (R310). -/
  | prbGlance (slice line : Nat)
  /-- PRB_INV: PrbInv reaches the cache (R310). -/
  | prbInv (slice line : Nat)
  /-- SNP_DATA: Host SnpData of the host line at device physical address `addr` (R455). -/
  | snpData (addr : Nat)
  /-- SNP_INV: Host SnpInv of the host line at device physical address `addr` (R455). -/
  | snpInv (addr : Nat)
  /-- SNP_CUR: Host SnpCur of the host line at device physical address `addr` (R455). -/
  | snpCur (addr : Nat)
  /-- ATS_INVALIDATION: Host ATS invalidation (R457). -/
  | atsInvalidation (fn addr len : Nat)
  /-- CXL_MEM_READ: Host CXL.mem read of a 64-byte line (R460). -/
  | cxlMemRead (hpa : Nat)
  /-- CXL_MEM_WRITE: Host CXL.mem write of `data` at byte `off` of a line (R460). -/
  | cxlMemWrite (hpa off : Nat) (data : Bytes)
  /-- HOST_TIMEOUT: A host request stays unanswered for CTO_MS (R458). -/
  | hostTimeout (req : Nat)
  /-- LINK_TRAINING: The CXL link ends training (R448). -/
  | linkTraining (width speed : Nat) (cxl : Bool)
  /-- HOST_LINK_DOWN: The host link goes down (R448). -/
  | hostLinkDown
  /-- HDM_DECODER_COMMIT: The host commits the HDM decoder (R459). -/
  | hdmDecoderCommit (base : Nat)
  /-- MSIX_UNMASK: A vector is unmasked (R453). -/
  | msixUnmask (fn vector : Nat)
  /-- VF_FLR: Function-level reset of virtual function `fn` (R446). -/
  | vfFlr (fn : Nat)
  /-- PF_FLR: Function-level reset of the physical function (R464). -/
  | pfFlr
  /-- PERST_N_ASSERT: PERST_N asserted (R649). -/
  | perstNAssert
  /-- PERST_N_DEASSERT: PERST_N deasserted (R649). -/
  | perstNDeassert
  /-- DOE_DISCOVERY: DOE discovery (R463). -/
  | doeDiscovery (index : Nat)
  /-- CDAT_ACCESS: DOE CDAT table access (R463). -/
  | cdatAccess (handle : Nat)
  /-- GET_VERSION: SPDM request (R463, R569). -/
  | getVersion (req : Bytes)
  /-- GET_CAPABILITIES: SPDM request (R463, R569). -/
  | getCapabilities (req : Bytes)
  /-- NEGOTIATE_ALGORITHMS: SPDM request (R463, R569). -/
  | negotiateAlgorithms (req : Bytes)
  /-- GET_DIGESTS: SPDM request (R463, R569). -/
  | getDigests (req : Bytes)
  /-- GET_CERTIFICATE: SPDM request (R463, R569). -/
  | getCertificate (req : Bytes)
  /-- CHALLENGE: SPDM request (R463, R569). -/
  | challenge (req : Bytes)
  /-- GET_MEASUREMENTS: SPDM request (R463, R569). -/
  | getMeasurements (req : Bytes)
  /-- SPDM_UNSUPPORTED: SPDM request (R463, R569). -/
  | spdmUnsupported (req : Bytes)
  /-- URGENCY_LEVEL_CHANGE: A master's buffer fill, in sixteenths, is measured (R291). -/
  | urgencyLevelChange (master fill : Nat)
  /-- URGENCY_HELD: A master stays at level 2 for 100 microseconds (R293). -/
  | urgencyHeld (master arbKind arbIndex oldest : Nat)
  /-- SPINE_REPLAY: A spine flit is replayed (R282). -/
  | spineReplay (die lane : Nat)
  /-- SPINE_LANE_REINIT: A spine lane re-initialises (R282). -/
  | spineLaneReinit (lane : Nat)
  /-- SPINE_REINIT_DONE: A re-initialisation ends (R275, R282). -/
  | spineReinitDone (lane : Nat) (ok : Bool)
  /-- POWER_CONTROL_TICK: The controller's millisecond, with measured powers in W (R538). -/
  | powerControlTick (p fixed pinned : Nat)
  /-- RAIL_RAMP_DONE: A rail reaches its voltage (R535). -/
  | railRampDone (island : Nat)
  /-- CLOCK_STEP_DONE: A clock reaches its frequency (R535). -/
  | clockStepDone (island : Nat)
  /-- CORR_EVENT_SAMPLE: An event sample is posted (R40). -/
  | corrEventSample (island : Nat)
  /-- CORR_PERIODIC_SAMPLE: A periodic sample is posted (R42). -/
  | corrPeriodicSample
  /-- CORR_REQ: Writing 1 to REQ posts a sample (R42). -/
  | corrReq
  /-- CORR_PERIOD_RESTART: A write of HUB_CORR_CTL that changes PERIOD or sets EN (R42). -/
  | corrPeriodRestart (w : Word)
  /-- DROOP_ASSERT: Droop asserts (R542). -/
  | droopAssert (island : Nat)
  /-- DROOP_CLEAR: Droop clears (R543). -/
  | droopClear (island : Nat)
  /-- DROOP_LONG: Droop has asserted for 100 microseconds (R544). -/
  | droopLong (island : Nat)
  /-- SUPPLY_WARNING: Supply 0-15 region rail, 16-17 fabric rail, 18 bus input, at `mv` millivolt, falls below its warning level (R546). -/
  | supplyWarning (supply mv : Nat)
  /-- SUPPLY_RELEASE: The supply meets its release condition; `lowest` is the lowest voltage seen (R546). -/
  | supplyRelease (supply lowest : Nat)
  /-- BUS_UNDERVOLTAGE: The bus input falls below 42 V (R547). -/
  | busUndervoltage (mv : Nat)
  /-- RAIL_RESET_TRIP: A rail crosses its reset level (R547). -/
  | railResetTrip (supply : Nat)
  /-- POWER_TRIP: Power or input voltage exceeds a trip limit (R548): 1 10 us, 2 10 ms, 3 overvoltage. -/
  | powerTrip (cause : Nat)
  /-- THERMAL_CAP_FALL: A region reads `temp` degrees, 105 or more (R549). -/
  | thermalCapFall (island temp : Nat)
  /-- THERMAL_CAP_RISE: A region reads below 103 (R549). -/
  | thermalCapRise (island temp : Nat)
  /-- THERMTRIP: A region reads 115 or more (R549). -/
  | thermtrip (island temp : Nat)
  /-- WEAR_GAUGE_READING: Wear gauges of island `domain` call for a shift of `need` mV and have agreed for `agreeHours` (R550). -/
  | wearGaugeReading (domain need agreeHours : Nat)
  /-- HOURS_UPDATE: The Clasp writes HOURS (R644). -/
  | hoursUpdate
  /-- FORERUNNER_REFRESH: The hub rewrites the forerunner window (R502). -/
  | forerunnerRefresh
  /-- CFG_SWEEP_START: A configuration sweep starts (R623). -/
  | cfgSweepStart
  /-- CFG_SWEEP_END: A sweep ends (R625). -/
  | cfgSweepEnd
  /-- CFGCHK_COMMIT: COMMIT is written 1 (R624). -/
  | cfgchkCommit
  /-- CFGCHK_CAPTURE: CAPTURE is written 1 (R624). -/
  | cfgchkCapture
  /-- CFGCHK_EN: EN is written (R624). -/
  | cfgchkEn (v : Bool)
  /-- HOM_CLR_OWN: CLR_OWN is written 1 (R296). -/
  | homClrOwn (home : Nat)
  /-- HOM_CLR_OTH: CLR_OTH is written 1 (R296). -/
  | homClrOth (home : Nat)
  /-- CPY_RESTART: RESTART is written 1 (R400). -/
  | cpyRestart (chan : Nat) (resume : Bool)
  /-- CPY_STREAM: STREAM is written (R396). -/
  | cpyStream (chan : Nat) (v : Bool)
  /-- CPY_MAXBUF: MAXBUF is written (R393). -/
  | cpyMaxbuf (chan v : Nat)
  /-- RGN_PWR_OFF: OFF of HUB_RGN_PWR is written (R621). -/
  | rgnPwrOff (off : BitVec 16)
  /-- REGION_POWER_DOWN: A marked region powers off (R621). -/
  | regionPowerDown (island : Nat)
  /-- REGION_POWER_UP: A region finishes powering up (R621). -/
  | regionPowerUp (island : Nat)
  /-- MGMTQ_ENABLE: EN of HUB_MGMTQ_RING is written (R503). -/
  | mgmtqEnable (v : Bool)
  /-- ERR_LOG_CLEAR: CLEAR of ERR_LOG_STAT is written 1 (R609). -/
  | errLogClear
  /-- CMP_DBG_DATA_ACCESS: CMP_DBG_DATA is read (none) or written (R628). -/
  | cmpDbgDataAccess (core : Nat) (write : Option Word)
  /-- PWR_LIMIT_WRITE: PWR_LIMIT is written (R539, R559). -/
  | pwrLimitWrite (w : BitVec 32)
  /-- FAB_QOS_WT_WRITE: FAB_QOS_WT is written (R289). -/
  | fabQosWtWrite (die : Nat) (w : BitVec 32)
  /-- REGISTER_WRITE: A BAR0 write of `size` bytes at `off` (R17, R610-R617). -/
  | registerWrite (off size : Nat) (v : Word)
  /-- READ_CLEAR: A BAR0 read of `size` bytes at `off`; RC fields clear (R17). -/
  | readClear (off size : Nat)
  /-- REGISTER_ACCESS_TIMEOUT: A register access not done after 20 microseconds (R618). -/
  | registerAccessTimeout (off size : Nat) (write : Option Word)
  /-- STATUS: Management message with its payload and CRC (R641, R642). -/
  | status (payload : Bytes) (crc : BitVec 32)
  /-- EVENT_READ: Management message with its payload and CRC (R641, R642). -/
  | eventRead (payload : Bytes) (crc : BitVec 32)
  /-- LOG_READ: Management message with its payload and CRC (R641, R642). -/
  | logRead (payload : Bytes) (crc : BitVec 32)
  /-- SET_PKG_ID: Management message with its payload and CRC (R641, R642). -/
  | setPkgId (payload : Bytes) (crc : BitVec 32)
  /-- GROUP_TOTAL: Management message with its payload and CRC (R641, R642). -/
  | groupTotal (payload : Bytes) (crc : BitVec 32)
  /-- WAKE: Management message with its payload and CRC (R641, R642). -/
  | wake (payload : Bytes) (crc : BitVec 32)
  /-- CAL_READ: Management message with its payload and CRC (R641, R642). -/
  | calRead (payload : Bytes) (crc : BitVec 32)
  /-- CAL_WRITE: Management message with its payload and CRC (R641, R642). -/
  | calWrite (payload : Bytes) (crc : BitVec 32)
  /-- IMG_BEGIN: Management message with its payload and CRC (R641, R642). -/
  | imgBegin (payload : Bytes) (crc : BitVec 32)
  /-- IMG_DATA: Management message with its payload and CRC (R641, R642). -/
  | imgData (payload : Bytes) (crc : BitVec 32)
  /-- IMG_END: Management message with its payload and CRC (R641, R642). -/
  | imgEnd (payload : Bytes) (crc : BitVec 32)
  /-- FLASH_WRITE_DONE: The recovery image is in flash (R565). -/
  | flashWriteDone
  /-- AUX_POWER_ON: 3.3V_AUX comes within range; level of CLASP_RECOVERY (R646, R565). -/
  | auxPowerOn (claspRecovery : Bool)
  /-- AUX_POWER_LOSS: 3.3V_AUX leaves its range (R650). -/
  | auxPowerLoss
  /-- IMAGE_VERIFIED: The Clasp finishes checking the image (R564). -/
  | imageVerified
  /-- PWRGOOD_ASSERT: VBUS has held above 47 V for 10 ms (R646). -/
  | pwrgoodAssert (busMv : Nat)
  /-- RAILS_UP: Rails up, fuses loaded, calibration page read (R646, R645). -/
  | railsUp
  /-- HBM_TRAINED: The HBM stacks finish training (R647). -/
  | hbmTrained
  /-- STITCH_LINK_TRAINED: A stitch link finishes training with `lanes` lanes (R648, R636). -/
  | stitchLinkTrained (link lanes : Nat)
  /-- STITCH_WAIT_TIMEOUT: 300 ms pass after the calibration read (R648). -/
  | stitchWaitTimeout
  /-- SELF_TEST_COMPLETE: Self-test finishes; the lists name the failed dies, core slices and memory slices (R646, R53). -/
  | selfTestComplete (failDies failCore failMem : List Nat) (hubOk : Bool)
  /-- STITCH_LINK_REINIT: A stitch link re-initialises (R436). -/
  | stitchLinkReinit (link : Nat)
  /-- PRB_DATA: A snooped cache's answer with data reaches the home (R309). -/
  | prbData (slice line : Nat)
  /-- CXL_CACHE_COMPLETION: The host answers a request of the hub (R454). -/
  | cxlCacheCompletion (req : Nat) (err : Bool) (data : Bytes)
  /-- HOST_FENCE_WORD_SNOOP: A host write of `value` snoops away a watched host fence word (R229). -/
  | hostFenceWordSnoop (addr : Nat) (value : Word)
  /-- EVENT_RING_CONSUMED: The consumer word of a ring becomes `count` (R490). -/
  | eventRingConsumed (ring count : Nat)
  /-- FOLIO_RESET_DRAIN_EXPIRY: The 1 ms drain of a folio reset ends (R446). -/
  | folioResetDrainExpiry (folio : Nat)
  /-- UNCORRECTABLE_UNIT_ERROR: An uncorrectable error in a unit (R594). -/
  | uncorrectableUnitError (unit code loc addr : Nat) (fatal : Bool)
  /-- DYNAMIC_ADDRESS_ASSIGN: SETDASA or ENTDAA (R640). -/
  | dynamicAddressAssign (addr : Nat)
  deriving DecidableEq, Repr

end Sys2Proof
end

