-- ==== Sys2Proof/WellFormed.lean ====
section
/-! DEFINITION. Sys2Proof/WellFormed.lean: which commands can be stated of this part: the ranges of their operands. -/

namespace Sys2Proof

/-- The operand ranges of a command: unit numbers of R14 and R21-R24, ids of R467, line addresses, packet sizes of R435 and R641.
Operands without a range take every value. -/
def WellFormed : Instr → Bool
  | .alu core _ => decide (core < 576)
  | .alui core _ => decide (core < 576)
  | .ld core _ => decide (core < 576)
  | .st core _ => decide (core < 576)
  | .amo core _ => decide (core < 576)
  | .br core _ => decide (core < 576)
  | .jmp core _ => decide (core < 576)
  | .srd core _ => decide (core < 576)
  | .vop core _ => decide (core < 576)
  | .vls core _ => decide (core < 576)
  | .mma core _ => decide (core < 576)
  | .mmaExecute core => decide (core < 576)
  | .rq core _ => decide (core < 576)
  | .rqExecute core => decide (core < 576)
  | .tdma core _ => decide (core < 576)
  | .tileDmaBurstComplete _ => true
  | .dwait core _ => decide (core < 576)
  | .slaunch core _ => decide (core < 576)
  | .scriptEntryIssue core slot lane => decide (core < 576) && decide (slot < 4) && decide (lane < 2)
  | .srel core _ => decide (core < 576)
  | .fsig core _ => decide (core < 576)
  | .fenceOffer _ => true
  | .fwait core _ => decide (core < 576)
  | .fwaitTimeout core slot => decide (core < 576) && decide (slot < 4)
  | .fwaitPoll core slot => decide (core < 576) && decide (slot < 4)
  | .fence core _ => decide (core < 576)
  | .bar core _ => decide (core < 576)
  | .barrierArrival _ => true
  | .sift core _ => decide (core < 576)
  | .halt core _ => decide (core < 576)
  | .yield core _ => decide (core < 576)
  | .seg core _ => decide (core < 576)
  | .gret core _ => decide (core < 576)
  | .trap core _ => decide (core < 576)
  | .bkpt core _ => decide (core < 576)
  | .cinv core _ => decide (core < 576)
  | .cwb core _ => decide (core < 576)
  | .storeCompletion _ => true
  | .ctxFault core slot => decide (core < 576) && decide (slot < 4)
  | .faultHoldExpiry ctx => decide (ctx < 4096)
  | .safeguardUpdateComplete _ => true
  | .contextSwitch core => decide (core < 576)
  | .quantumExpiry core => decide (core < 576)
  | .waitSwExpiry core => decide (core < 576)
  | .rtContextReady core slot => decide (core < 576) && decide (slot < 4)
  | .rtMiss ctx => decide (ctx < 4096)
  | .doorbellSnoop queue line => decide (queue < 16384) && decide (line.length = 64)
  | .doorbellRefetch queue => decide (queue < 16384)
  | .doorbellPoll queue => decide (queue < 16384)
  | .commandFetch queue => decide (queue < 16384)
  | .commandWaitSatisfied queue => decide (queue < 16384)
  | .commandComplete queue => decide (queue < 16384)
  | .refCountSubtract _ _ => true
  | .nop queue => decide (queue < 16384)
  | .signal queue => decide (queue < 16384)
  | .launch queue => decide (queue < 16384)
  | .launchStart queue => decide (queue < 16384)
  | .activationComplete ctx => decide (ctx < 4096)
  | .copy queue => decide (queue < 16384)
  | .sieveFlush queue => decide (queue < 16384)
  | .safeSet queue => decide (queue < 16384)
  | .reseed queue => decide (queue < 16384)
  | .progLoad queue => decide (queue < 16384)
  | .progUnload queue => decide (queue < 16384)
  | .ctxCreate queue => decide (queue < 16384)
  | .ctxDestroy queue => decide (queue < 16384)
  | .ctxReset queue => decide (queue < 16384)
  | .resume queue => decide (queue < 16384)
  | .queueCreate queue => decide (queue < 16384)
  | .queueDestroy queue => decide (queue < 16384)
  | .evringCreate queue => decide (queue < 16384)
  | .evringDestroy queue => decide (queue < 16384)
  | .invalidate queue => decide (queue < 16384)
  | .invalidateDrained queue => decide (queue < 16384)
  | .invSlow queue => decide (queue < 16384)
  | .migrate queue => decide (queue < 16384)
  | .migrateCopyComplete queue => decide (queue < 16384)
  | .advise queue => decide (queue < 16384)
  | .frameSet queue => decide (queue < 16384)
  | .biasTakebackDone queue => decide (queue < 16384)
  | .chanAssign queue => decide (queue < 16384)
  | .folioCreate queue => decide (queue < 16384)
  | .folioDestroy queue => decide (queue < 16384)
  | .sliceAttach queue => decide (queue < 16384)
  | .sliceDetach queue => decide (queue < 16384)
  | .sliceTransfer queue => decide (queue < 16384)
  | .sliceMove queue => decide (queue < 16384)
  | .sliceMoveCopyComplete slice => decide (slice < 64)
  | .setProtect queue => decide (queue < 16384)
  | .peerSet queue => decide (queue < 16384)
  | .linkShare queue => decide (queue < 16384)
  | .folioQuery queue => decide (queue < 16384)
  | .folioRing queue => decide (queue < 16384)
  | .epochInForce folio => decide (folio < 64)
  | .drainZero kind slice => decide (kind < 3) && decide (slice < 128)
  | .drainLimitExpiry kind slice => decide (kind < 3) && decide (slice < 128)
  | .scrubComplete slice => decide (slice < 64)
  | .confSliceInitComplete slice => decide (slice < 64)
  | .mirrorMemberLoss slice => decide (slice < 64)
  | .codedMemberLoss slice => decide (slice < 64)
  | .secondLoss slice => decide (slice < 64)
  | .stitchLinkIdle peer => decide (peer < 15)
  | .peerLossDrainExpiry peer folio => decide (peer < 15) && decide (folio < 64)
  | .stitchRead link hdr payload => decide (link < 12) && decide (hdr.length = 16) && decide (payload.length ≤ 256)
  | .stitchWrite link hdr payload => decide (link < 12) && decide (hdr.length = 16) && decide (payload.length ≤ 256)
  | .stitchAtomic link hdr payload => decide (link < 12) && decide (hdr.length = 16) && decide (payload.length ≤ 256)
  | .stitchFenceOffer link hdr payload => decide (link < 12) && decide (hdr.length = 16) && decide (payload.length ≤ 256)
  | .stitchBarrier link hdr payload => decide (link < 12) && decide (hdr.length = 16) && decide (payload.length ≤ 256)
  | .stitchMirrorWrite link hdr payload => decide (link < 12) && decide (hdr.length = 16) && decide (payload.length ≤ 256)
  | .stitchCompletionData link hdr payload => decide (link < 12) && decide (hdr.length = 16) && decide (payload.length ≤ 256)
  | .stitchCompletion link hdr payload => decide (link < 12) && decide (hdr.length = 16) && decide (payload.length ≤ 256)
  | .stitchCreditReturn link hdr payload => decide (link < 12) && decide (hdr.length = 16) && decide (payload.length ≤ 256)
  | .stitchDiscard link hdr payload => decide (link < 12) && decide (hdr.length = 16) && decide (payload.length ≤ 256)
  | .report link _ => decide (link < 12)
  | .assign link _ => decide (link < 12)
  | .reportPeriod => true
  | .leaderAssign => true
  | .assignTimeout => true
  | .shareSet queue => decide (queue < 16384)
  | .acctRead queue => decide (queue < 16384)
  | .rtAdmit queue => decide (queue < 16384)
  | .rtRelease queue => decide (queue < 16384)
  | .cyclicLoad queue => decide (queue < 16384)
  | .cyclicEnter queue => decide (queue < 16384)
  | .cyclicExit queue => decide (queue < 16384)
  | .minorFrameBoundary => true
  | .cyclicEntryStart entry _ code unit => decide (entry < 256) && decide (code < 256) && decide (unit < 2 ^ 32)
  | .cyclicOverrun entry => decide (entry < 256)
  | .powerSet queue => decide (queue < 16384)
  | .energyWatch queue => decide (queue < 16384)
  | .energyEstimate => true
  | .confKeys queue => decide (queue < 16384)
  | .keyRotate queue => decide (queue < 16384)
  | .keyRotateDone folio => decide (folio < 64)
  | .attest queue => decide (queue < 16384)
  | .engineReset queue => decide (queue < 16384)
  | .folioReset queue => decide (queue < 16384)
  | .pkgReset queue => decide (queue < 16384)
  | .pkgStandby queue => decide (queue < 16384)
  | .standbyExit => true
  | .watchdogAct ctx => decide (ctx < 4096)
  | .watchdogCmdwait queue => decide (queue < 16384)
  | .watchdogCore core => decide (core < 576)
  | .watchdogReq _ => true
  | .watchdogMgmt => true
  | .watchdogClasp => true
  | .watchdogStep step target => decide (1 ≤ step ∧ step ≤ 4) && decide (target / 2 ^ 32 < 3)
  | .booksCheck => true
  | .dieFailure die cause => decide (die < 2) && decide (cause < 256)
  | .walkComplete _ => true
  | .copyDescriptorStart chan => decide (chan < 128)
  | .copyWaitSatisfied chan => decide (chan < 128)
  | .copyBurstIssue engine => decide (engine < 8)
  | .copyBurstComplete chan _ => decide (chan < 128)
  | .copyDescriptorEnd chan => decide (chan < 128)
  | .siftAccept _ => true
  | .siftStart unit => decide (unit < 64)
  | .siftComplete unit => decide (unit < 64)
  | .getShare _ => true
  | .getOwn _ => true
  | .upgrade _ => true
  | .glance _ => true
  | .putHome _ => true
  | .rawGet _ => true
  | .rawPut _ => true
  | .retireDirty slice line => decide (slice < 128) && decide (line % 64 = 0)
  | .retireClean slice line => decide (slice < 128) && decide (line % 64 = 0)
  | .grantAck line => decide (line % 64 = 0)
  | .prbMiss slice line => decide (slice < 128) && decide (line % 64 = 0)
  | .grantData slice line victim => decide (slice < 128) && decide (line % 64 = 0) && decide (victim % 64 = 0)
  | .retireAck slice line => decide (slice < 128) && decide (line % 64 = 0)
  | .prbShare slice line => decide (slice < 128) && decide (line % 64 = 0)
  | .prbOwn slice line => decide (slice < 128) && decide (line % 64 = 0)
  | .prbGlance slice line => decide (slice < 128) && decide (line % 64 = 0)
  | .prbInv slice line => decide (slice < 128) && decide (line % 64 = 0)
  | .snpData addr => decide (addr < 2 ^ 46)
  | .snpInv addr => decide (addr < 2 ^ 46)
  | .snpCur addr => decide (addr < 2 ^ 46)
  | .atsInvalidation fn _ _ => decide (fn < 64)
  | .cxlMemRead hpa => decide (hpa % 64 = 0)
  | .cxlMemWrite hpa off _ => decide (hpa % 64 = 0) && decide (off < 64)
  | .hostTimeout _ => true
  | .linkTraining _ _ _ => true
  | .hostLinkDown => true
  | .hdmDecoderCommit _ => true
  | .msixUnmask fn vector => decide (fn < 64) && decide (vector < 256)
  | .vfFlr fn => decide (fn < 64)
  | .pfFlr => true
  | .perstNAssert => true
  | .perstNDeassert => true
  | .doeDiscovery _ => true
  | .cdatAccess _ => true
  | .getVersion _ => true
  | .getCapabilities _ => true
  | .negotiateAlgorithms _ => true
  | .getDigests _ => true
  | .getCertificate _ => true
  | .challenge _ => true
  | .getMeasurements _ => true
  | .spdmUnsupported _ => true
  | .urgencyLevelChange master _ => decide (master < 30)
  | .urgencyHeld master _ _ _ => decide (master < 30)
  | .spineReplay die lane => decide (die < 2) && decide (lane < 3)
  | .spineLaneReinit lane => decide (lane < 3)
  | .spineReinitDone lane _ => decide (lane < 3)
  | .powerControlTick _ _ _ => true
  | .railRampDone island => decide (island < 16)
  | .clockStepDone island => decide (island < 16)
  | .corrEventSample island => decide (island < 19)
  | .corrPeriodicSample => true
  | .corrReq => true
  | .corrPeriodRestart _ => true
  | .droopAssert island => decide (island < 16)
  | .droopClear island => decide (island < 16)
  | .droopLong island => decide (island < 16)
  | .supplyWarning supply _ => decide (supply < 19)
  | .supplyRelease supply _ => decide (supply < 19)
  | .busUndervoltage _ => true
  | .railResetTrip supply => decide (supply < 19)
  | .powerTrip cause => decide (1 ≤ cause ∧ cause ≤ 3)
  | .thermalCapFall island _ => decide (island < 16)
  | .thermalCapRise island _ => decide (island < 16)
  | .thermtrip island _ => decide (island < 16)
  | .wearGaugeReading domain _ _ => decide (domain < 18)
  | .hoursUpdate => true
  | .forerunnerRefresh => true
  | .cfgSweepStart => true
  | .cfgSweepEnd => true
  | .cfgchkCommit => true
  | .cfgchkCapture => true
  | .cfgchkEn _ => true
  | .homClrOwn home => decide (home < 64)
  | .homClrOth home => decide (home < 64)
  | .cpyRestart chan _ => decide (chan < 128)
  | .cpyStream chan _ => decide (chan < 128)
  | .cpyMaxbuf chan v => decide (chan < 128) && decide (v < 512)
  | .rgnPwrOff _ => true
  | .regionPowerDown island => decide (island < 16)
  | .regionPowerUp island => decide (island < 16)
  | .mgmtqEnable _ => true
  | .errLogClear => true
  | .cmpDbgDataAccess core _ => decide (core < 576)
  | .pwrLimitWrite _ => true
  | .fabQosWtWrite die _ => decide (die < 2)
  | .registerWrite off _ _ => decide (off < 2 ^ 26)
  | .readClear off _ => decide (off < 2 ^ 26)
  | .registerAccessTimeout off _ _ => decide (off < 2 ^ 26)
  | .status payload _ => decide (payload.length ≤ 256)
  | .eventRead payload _ => decide (payload.length ≤ 256)
  | .logRead payload _ => decide (payload.length ≤ 256)
  | .setPkgId payload _ => decide (payload.length ≤ 256)
  | .groupTotal payload _ => decide (payload.length ≤ 256)
  | .wake payload _ => decide (payload.length ≤ 256)
  | .calRead payload _ => decide (payload.length ≤ 256)
  | .calWrite payload _ => decide (payload.length ≤ 256)
  | .imgBegin payload _ => decide (payload.length ≤ 256)
  | .imgData payload _ => decide (payload.length ≤ 256)
  | .imgEnd payload _ => decide (payload.length ≤ 256)
  | .flashWriteDone => true
  | .auxPowerOn _ => true
  | .auxPowerLoss => true
  | .imageVerified => true
  | .pwrgoodAssert _ => true
  | .railsUp => true
  | .hbmTrained => true
  | .stitchLinkTrained link _ => decide (link < 12)
  | .stitchWaitTimeout => true
  | .selfTestComplete _ _ _ _ => true
  | .stitchLinkReinit link => decide (link < 12)
  | .prbData slice line => decide (slice < 128) && decide (line % 64 = 0)
  | .cxlCacheCompletion _ _ _ => true
  | .hostFenceWordSnoop addr _ => decide (addr % 8 = 0)
  | .eventRingConsumed ring _ => decide (ring < 1024)
  | .folioResetDrainExpiry folio => decide (folio < 64)
  | .uncorrectableUnitError unit code _ _ _ => decide (unit < 11) && decide (code < 256)
  | .dynamicAddressAssign addr => decide (addr < 128)

end Sys2Proof
end

