-- ==== Sys2Proof/Decode.lean ====
section
/-! DEFINITION. Sys2Proof/Decode.lean: the command that a word spells by the bits of the table. -/

namespace Sys2Proof

/-- The command a word of the table spells. No row of the table of operations and events has bits (its rows are steps of
the part, R1-R20), so no word spells one (log 2). Decoding of Loam instruction words (R195) is in Machine/Operands.lean. -/
def decodeTableWord (_nbits _w : Nat) : Option Instr := none

end Sys2Proof
end

