-- ==== Sys2Proof/Config.lean ====
section
/-! DEFINITION. Sys2Proof/Config.lean: what the spec leaves open as a value: constants without a body, so that no proof can see a number. -/

namespace Sys2Proof

/-- The k-th free value of a run, taken modulo the width in which it is used (log 6): the result of an atomic whose
completion is LOST (R49, R428), bytes a rule leaves undefined (R176, R252), measured quantities the spec computes
nowhere. -/
opaque Config.freeValue : Nat → Nat

/-- The choice that the hardware makes for vector function `vfn` on an operand among the results that the accuracy of R182 allows
(RCP, RSQRT, EXP2, LOG2, EXP, LOG, SIN, COS, TANH, SIGM, ERF), and the whole result where the function has no real value and R182
states no case. -/
opaque Config.special : Nat → BitVec 32 → BitVec 32

/-- The micro-exponent byte of a SILT4 block written under R94, which no rule states: a fixed function of the block's source values
as FP32 codes (R120). -/
opaque Config.nanMicro : List Nat → Byte

/-- SHA3-512 (R562, R568): the digest function is named by the spec, not defined there. -/
opaque Config.sha3 : Bytes → Bytes

/-- The fuse VENDOR_KEY_HASH (R562): its value is not in the spec. -/
opaque Config.vendorKeyHash : Bytes

/-- ML-DSA-87 verification: key, digest, signature (R193, R194, R564). -/
opaque Config.mldsaVerify : Bytes → Bytes → Bytes → Bool

/-- The alias key's signature over a digest (R569, R572). -/
opaque Config.aliasSign : Bytes → Bytes

/-- The certificate chain that SPDM returns (R569). -/
opaque Config.certChain : Bytes

/-- The measured values of R569 whose bytes are not given, by index, SVN and FUSE_SVN; index 2: the image fitted at manufacture. -/
opaque Config.measurement : Nat → Nat → Nat → Bytes

/-- A CDAT table entry (R463 names the table, not its contents). -/
opaque Config.cdat : Nat → Bytes

/-- Power in W that the controller predicts for the unpinned powered regions at a step, at its k-th tick (R538). -/
opaque Config.predictedW : Nat → Nat → Nat

/-- The conversion efficiency of R538, in units of 1/1000, from a calibration table whose format the spec does not give. -/
opaque Config.effMilli : Nat

/-- The fused conservative voltage-frequency table of R645: frequency in MHz and voltage in mV. -/
opaque Config.fusedTable : List (Nat × Nat)

/-- The bytes of the calibration page as the factory wrote them (R643 gives their places, not their values). -/
opaque Config.factoryCal : Nat → Byte

/-- Does the factory seal of a calibration page verify (R643, R645)? -/
opaque Config.sealOk : Bytes → Bool

/-- The host's answer to an ATS translation request after its k-th invalidation, for a function and a 4 KiB page; none: denied
(R456). -/
opaque Config.atsPage : Nat → Nat → Nat → Option Nat

/-- The fixed delivery delay of the capture pulse to an island, in its own cycles (R39: listed in the capability table, no value
given). -/
opaque Config.captureDelay : Nat → Nat

end Sys2Proof
end

