-- ==== Sys2Proof/Machine/State.lean ====
section
/-! DEFINITION. Sys2Proof/Machine/State.lean: everything the spec gives the Gorpodel, as plain data, and its value at power-on. -/

namespace Sys2Proof.Machine

/-! ## Completions, requests and messages -/

/-- How a request completes at its issuer (R176, R378, R428, R435, R581, R652, R350, R456). -/
inductive Cpl where
  | ok | refused | lost | hbmErr | integrity | noPeer | hostErr
  deriving DecidableEq, Repr

/-- Line states of R300; a line in I is simply not listed. -/
inductive LineSt where
  | m | o | e | s
  deriving DecidableEq, Repr

/-- Requests of R308 on the Request class. -/
inductive ReqKind where
  | getShare | getOwn | upgrade | glance | putHome | rawGet | rawPut
  deriving DecidableEq, Repr

/-- Who issued a request and owns it until its completion (R418). -/
inductive Issuer where
  /-- a scalar load, AMO or fetch of a slot -/
  | scalar (core slot : Nat)
  /-- a posted scalar store -/
  | store (core slot : Nat)
  /-- a tile-DMA burst of a completion group; `lane` 2 for a TDMA, else the script lane -/
  | burst (core slot group lane : Nat)
  /-- a copy-engine channel -/
  | copy (chan : Nat)
  /-- the hub, for a command of a queue -/
  | hub (queue : Nat)
  /-- a stitch receiver: link, tag of the packet -/
  | stitch (link tag : Nat)
  /-- a fence offer -/
  | offer (id : Nat)
  deriving DecidableEq, Repr

/-- A packet of a request to a peer that is not yet answered (R435): its tag, the offset of its bytes in the request, the link it took. -/
structure Part where
  tag : Nat
  off : Nat
  link : Nat
  deriving DecidableEq, Repr

/-- One outstanding request. `status` is set when the destination has completed it; `grant` when a home has
granted a line state; `squashed` when its context was reset (R600); `arr` when it has reached its home's input queue and waits
there: the fabric cycle, and the requester's rank within a cycle (R313). `dest` are the scratchpad rows of the whole tile of a
burst, `bad` says that another burst of it has failed (R176); `rect` is the rectangle of a multicast, `multi` its receivers (R171, R281). `sent`: it has been handed on and waits for the host's
answer (R454), or for the remote partner of a mirrored pair with its bytes at the home (R440). `parts`: its packets on stitch links that are not yet
answered, at most 256 bytes each (R432, R435); `worst`: the first failure that one of them brought. `bias`: the home has asked the host for the
lines' state (1), and has it (2) (R461); `sentAt`: when the host was asked (R458). -/
structure Req where
  kind : ReqKind
  issuer : Issuer
  slice : Option Nat := none
  ctx : Nat := 0
  folio : Nat := 0
  epoch : Nat := 0
  qos : Nat := 0
  pa : Nat := 0
  len : Nat := 0
  data : Bytes := []
  laddr : Nat := 0
  multi : List (Nat × Nat) := []
  rect : Option Nat := none
  va : Nat := 0
  pc : Word := 0
  born : Nat := 0
  status : Option Cpl := none
  grant : Option LineSt := none
  rdata : Bytes := []
  atomic : Bool := false
  oldKey : Bool := false
  squashed : Bool := false
  dest : List (Nat × Nat) := []
  bad : Bool := false
  sent : Bool := false
  arr : Option (Nat × Nat) := none
  parts : List Part := []
  worst : Option Cpl := none
  bias : Nat := 0
  sentAt : Nat := 0
  deriving DecidableEq, Repr

/-! ## The on-die networks (R264-R276) -/

/-- A router: of the mesh, by die, column and row (R264), or of the ring, by die and place in clockwise order from H0 (R265). -/
inductive Node where
  | mesh (die x y : Nat) | edge (die i : Nat)
  deriving DecidableEq, Repr

/-- The message classes of R272 and R273; `sync` is the sync network. -/
inductive Cls where
  | req | snp | rsp | data | wb | mc | sync
  deriving DecidableEq, Repr

/-- One hop of a path: the router it leads to, and whether it is taken on the detour twin (R271). -/
structure Hop where
  node : Node
  twin : Bool := false
  deriving DecidableEq, Repr

/-- A flit (R273): its packet and class, the hops still before it, the QoS class of its request, the request whose last flit it is; of a multicast the
rectangle with the column and row where the data enters it (R279). `pulse`: the capture pulse (R276). -/
structure Flit where
  pkt : Nat
  cls : Cls
  path : List Hop := []
  qos : Nat := 0
  req : Option Nat := none
  rect : Option (Nat × Nat × Nat) := none
  pulse : Bool := false
  deriving DecidableEq, Repr

/-- A link of the networks in one direction with the input port it leads to (R273, R274), keyed by channel (2 class + twin): credits that its
sender has spent, flits and credits in flight with the cycle of their arrival, the buffers of the port, and per network the channel that
the output port served last (R276). -/
structure Wire where
  spent : Tbl Nat := []
  flight : List (Nat × Nat × Flit) := []
  back : List (Nat × Nat) := []
  buf : Tbl (List Flit) := []
  last : Tbl Nat := []
  deriving DecidableEq, Repr

/-- An arbiter's weighted round (R288): the weights in force for it, the class it stands at and how many of that class it has served. -/
structure Round where
  wt : List Nat := []
  cls : Nat := 0
  n : Nat := 0
  deriving DecidableEq, Repr

/-- The networks of both dies: wires by the codes of their two routers, flits that wait at a router to enter, and the messages that have been
given a packet; `now` counts fabric cycles; `rounds` are those of the spine lanes' ingress (R288). -/
structure Net where
  wires : Tbl Wire := []
  wait : Tbl (List Flit) := []
  known : List (Nat × Nat × Nat) := []
  nextPkt : Nat := 0
  now : Nat := 0
  rounds : Tbl Round := []
  deriving DecidableEq, Repr

/-- Snoop kinds of R308. -/
inductive PrbKind where
  | share | own | glance | inv
  deriving DecidableEq, Repr

/-- A snoop on its way to a cache; `req` is the request it serves, none for a recall. -/
structure Probe where
  kind : PrbKind
  req : Option Nat
  deriving DecidableEq, Repr

/-- What a snooped cache has answered: data from its line or from its writeback buffer, or PrbMiss, or that it has
invalidated a clean copy. `fwd`: the snoop was to forward the line, not only to invalidate it. -/
inductive PrbAns where
  | data (d : Bytes) (dirty : Bool) | buf (d : Bytes) (dirty : Bool) | miss (fwd : Bool) | ack
  deriving DecidableEq, Repr

/-- A cached line and its 64 bytes. -/
structure CLine where
  st : LineSt
  data : Bytes
  deriving DecidableEq, Repr

/-- A writeback buffer entry (R303): `dirty` false for a reported clean eviction; `snooped`: a snoop was answered from it. -/
structure WbEntry where
  dirty : Bool
  data : Bytes
  acked : Bool := false
  snooped : Bool := false
  deriving DecidableEq, Repr

/-- A cluster cache (R299, R303), with the snoops on their way to it and its answers under way. `mru`: the line most recently used of each
set, which pseudo-LRU replacement never gives up. -/
structure Cache where
  lines : Tbl CLine := []
  wb : Tbl WbEntry := []
  probes : Tbl Probe := []
  answers : Tbl PrbAns := []
  mru : Tbl Nat := []
  deriving DecidableEq, Repr

/-- Directory states of R304. -/
inductive DirSt where
  | exclusive | owned | shared
  deriving DecidableEq, Repr

/-- A directory entry (R304). -/
structure DirEntry where
  st : DirSt
  owner : Nat := 0
  sharers : List Nat := []
  deriving DecidableEq, Repr

/-- The transaction in progress on a line (R309): its request (none: a recall) and the slices still to answer. -/
structure Txn where
  req : Option Nat
  waiting : List Nat := []
  snooped : List Nat := []
  deriving DecidableEq, Repr

/-- Who waits on a fence word (R229, R390, R481). -/
inductive Waiter where
  | fwait (core slot : Nat) | command (queue : Nat) | copy (chan : Nat)
  deriving DecidableEq, Repr

/-- A fence watch entry: the word's physical address, its target and who waits. -/
structure WatchEntry where
  pa : Nat
  target : BitVec 32
  who : Waiter
  folio : Nat
  deriving DecidableEq, Repr

/-- A home node: directory with its entries in order of last use (least recent first), transactions, fence watch
table of 512 entries (R304, R309, R229). -/
structure Home where
  dir : Tbl DirEntry := []
  lru : List Nat := []
  txns : Tbl Txn := []
  watch : List WatchEntry := []
  deriving DecidableEq, Repr

/-- A posted offer to a fence word (R227, R250, R391, R481): it waits until `groups` of its slot and the writes in
`after` have completed. `unit`: the sift unit that makes it, which is an engine of its own (R328). -/
structure Offer where
  va : Nat
  pa : Nat
  value : BitVec 32
  scope : Nat
  ctx : Nat
  folio : Nat
  epoch : Nat
  issuer : Waiter
  groups : Nat := 0
  after : List Nat := []
  pc : Word := 0
  unit : Option Nat := none
  qos : Nat := 0
  deriving DecidableEq, Repr

/-- A fetch-and-add into a safeguard block under way (R131): the block's address, field offset, increment, its kind for R132 and the
CTX_THR in force on the core for it (R124). -/
structure SgUpdate where
  ctx : Nat
  core : Nat
  slot : Nat
  base : Nat
  off : Nat
  inc : Nat
  kind : Option Nat
  thr : Nat := 0
  deriving DecidableEq, Repr

/-- A barrier arrival message on the sync network or on stitch links (R233). -/
structure BarMsg where
  ctx : Nat
  rank : Nat
  id : Nat
  phase : Nat
  scope : Nat
  groups : Nat := 0
  after : List Nat := []
  core : Nat := 0
  slot : Nat := 0
  deriving DecidableEq, Repr

/-! ## Translation -/

/-- Permissions of a leaf (R354). -/
structure Perm where
  r : Bool
  w : Bool
  x : Bool
  nc : Bool
  deriving DecidableEq, Repr

/-- A TLB or leaf-cache entry: one page of one context (R359). `big`: 2 GiB page. -/
structure TlbEntry where
  ctx : Nat
  vpage : Nat
  big : Bool
  ppage : Nat
  perm : Perm
  deriving DecidableEq, Repr

/-- A level-1 or level-2 entry of a walk cache (R361): index is VA[51:41] or VA[51:31]. -/
structure WalkCEntry where
  ctx : Nat
  level : Nat
  index : Nat
  next : Nat
  deriving DecidableEq, Repr

/-- Who asked for a walk, in the codes of SOURCE of R371; `prefetch`: for a cache prefetch, which drops a page it cannot
read (R169). -/
structure WalkFor where
  source : Nat
  core : Nat := 0
  slot : Nat := 0
  chan : Nat := 0
  queue : Nat := 0
  index : Nat := 0
  pc : Word := 0
  prefetch : Bool := false
  deriving DecidableEq, Repr

/-- A walk at a page walker (R361); `access`: 0 read, 1 write, 2 fetch, 3 AMO or fence offer; `again`: an INVALIDATE
struck its range, so its result is discarded (R364). -/
structure Walk where
  die : Nat
  ctx : Nat
  va : Nat
  access : Nat
  asker : WalkFor
  again : Bool := false
  deriving DecidableEq, Repr

/-- The caches of a die's walker (R361). -/
structure Walker where
  leaves : List TlbEntry := []
  upper : List WalkCEntry := []
  deriving DecidableEq, Repr

/-! ## Cores -/

/-- A pending context fault (R238, R592). -/
structure FaultInfo where
  cause : Nat
  pc : Word := 0
  addr : Nat := 0
  status : Nat := 0
  info : Nat := 0
  frame : Nat := 0xFFFF
  deriving DecidableEq, Repr

/-- An FWAIT that waits (R228, R229, R658): its word, target, destination register and deadline; `poll`: the core reads the word again
itself, last at `last`; `ask`: the read on its way to the word's home; `met`: its watch has seen the word satisfied while the context
was away, which is checked again when it resumes (R240); `useNo`: its number among the uses of translations (R365). -/
structure FenceWait where
  va : Nat
  pa : Nat
  target : BitVec 32
  rd : Nat
  deadline : Option Nat := none
  poll : Bool := false
  scope : Nat := 0
  last : Nat := 0
  ask : Option Nat := none
  met : Bool := false
  useNo : Nat := 0
  deriving DecidableEq, Repr

/-- What a slot's instruction stream waits for. -/
inductive Wait where
  | none
  | mem (req : Nat)
  | walk (id : Nat)
  | groups (mask : Nat)
  | fence (f : FenceWait)
  | bar (id phase since : Nat)
  | rq
  | resource
  | halting
  deriving DecidableEq, Repr

/-- A script lane (R177-R179). -/
structure Lane where
  walking : Bool := false
  scriptVa : Nat := 0
  bases : List Nat := []
  depth : Nat := 1
  group : Nat := 0
  next : Nat := 0
  unreleased : Nat := 0
  nEntry : Nat := 0
  repeating : Bool := false
  faulted : Bool := false
  pc : Word := 0
  deriving DecidableEq, Repr

/-- The output operands of an RQ, kept for ORIG (R211, R213). -/
structure RqOut where
  fmt : Nat
  dim : Bool
  sr : Bool
  sat : Bool
  sd : Word
  stg : Word
  deriving DecidableEq, Repr

/-- The guard save area and the promotion in progress (R142, R214). -/
structure Guard where
  saved : List Word
  origPc : Word
  orig : RqOut
  way : Nat
  tag : BitVec 32
  outcome : Nat := 1
  record : Bytes := []
  deriving DecidableEq, Repr

/-- Safeguard settings in force (R123), already with the rules of the table applied where they are used. -/
structure Settings where
  assayN : Nat := 0
  action : Nat := 0
  tolT : Nat := 0
  seed : Word := 0
  tileThr : List Nat := [0, 0, 0, 0, 0, 0]
  ctxThr : List Nat := [0, 0, 0, 0, 0, 0]
  deriving DecidableEq, Repr

/-- A resident slot (R153, R157, R197, R198, R204, R214, R509-R511, R131). `ran`: core cycles since it was chosen, up to the
region count `charged` at which its cycles were last charged; `set`: the safeguard settings that apply on this core, those of the
last accumulate-clear MMA it issued (R124). -/
structure Slot where
  ctx : Nat
  rank : Nat := 0
  nrank : Nat := 0
  sregs : Tbl Word := []
  vregs : Tbl (BitVec 32) := []
  pc : Word := 0
  spWays : List Nat := []
  accWays : List Nat := []
  wait : Wait := .none
  halted : Bool := true
  fault : Option FaultInfo := none
  lanes : List Lane := [{}, {}]
  groupErr : List Nat := []
  barWait : Nat := 0
  barPhase : Tbl Nat := []
  barSeen : Tbl Nat := []
  partials : Tbl Nat := []
  lastFlush : Nat := 0
  guard : Option Guard := none
  sifts : Nat := 0
  vt : Nat := 0
  ran : Nat := 0
  charged : Nat := 0
  seg : Nat := 0xFFFF
  qos : Nat := 0
  set : Settings := {}
  needZero : Bool := true
  dropped : List Nat := []
  lastProg : Option (Nat × Nat) := none
  deriving DecidableEq, Repr

/-- The assay of an accumulator way (R135-R139): the sub-block, who chose it, its shadow sums per cell
(index 8 row + column), the class and guard index of its accumulate-clear MMA. -/
structure Assay where
  tag : BitVec 32 := 0
  guardIx : Nat := 0
  promoted : Bool := false
  cls : Nat := 0
  allPromo : Bool := true
  chosenCtx : Bool := false
  floorOnly : Bool := false
  sub : Nat := 0
  live : Bool := false
  tolT : Nat := 4
  action : Nat := 0
  tileThr : List Nat := []
  s : List (BitVec 32) := []
  m : List (BitVec 32) := []
  deriving DecidableEq, Repr

/-- An entry of the matrix queue (R210): the slot, the address and the word of its instruction, and the register
values it read when it issued (R197), with the safeguard settings and FLOOR_N of its issue (R124). `done`: blocks an MMA has
committed, or rows an RQ has written (R240); `compared`: the assay comparison has been made, with the cells in `missed` (R138). -/
structure MatOp where
  slot : Nat
  pc : Word
  w : Word
  sa : Word := 0
  sb : Word := 0
  st : Word := 0
  set : Settings := {}
  floorN : Nat := 0
  done : Nat := 0
  compared : Bool := false
  missed : List Nat := []
  deriving DecidableEq, Repr

/-- A Loam core. `sp` and `acc` are keyed by physical byte (R163) and by 4096 way + 64 row + column (R164); `retAt`, `lastRet`: the core's and the hub
count at which it last retired an instruction or switched (R595); `tdma`: bursts of retired tiles and issued entries that wait for one of the 64
to free (R222). -/
structure Core where
  slots : Tbl Slot := []
  running : Option Nat := none
  choice : Option Nat := none
  mq : List MatOp := []
  sp : Tbl Byte := []
  acc : Tbl (BitVec 32) := []
  tileCnt : Tbl Nat := []
  assay : Tbl Assay := []
  tlb : List TlbEntry := []
  lastRet : Nat := 0
  retAt : Nat := 0
  tdma : List Req := []
  deriving DecidableEq, Repr

/-! ## Sift units -/

/-- A sift request (R242-R245), with the inputs read at issue and the physical base of each 32 MiB page of its rows. `issued`: when SIFT
retired; `born`: when its unit accepted it. -/
structure SiftReq where
  core : Nat
  slot : Nat
  ctx : Nat
  folio : Nat
  epoch : Nat
  qos : Nat
  desc : Bytes
  map : Tbl Nat
  unit : Nat
  qvec : Bytes
  resIn : Bytes
  fencePa : Nat
  pc : Word
  accepted : Bool := false
  issued : Nat := 0
  born : Nat := 0
  lost : Bool := false
  deriving DecidableEq, Repr

/-- A sift unit (R259): its queue in arrival order and the running request. -/
structure SiftUnit where
  queue : List Nat := []
  running : Option Nat := none
  deriving DecidableEq, Repr

/-! ## Copy engines -/

/-- Channel states of R397. -/
inductive ChSt where
  | idle | wait | run | stopBad | stopFault | drain
  deriving DecidableEq, Repr

/-- A burst of a channel: traversal offset, length, and the requests that carry it; `dpa`: its destination as translated at its issue; `away`: its write has been accepted by
the stitch or hub port, so that it holds no buffer any more (R392). -/
structure CpBurst where
  off : Nat
  len : Nat
  reads : List Nat := []
  writes : List Nat := []
  away : Bool := false
  dpa : Nat := 0
  deriving DecidableEq, Repr

/-- A copy channel (R382, R383, R397). Its list of descriptors, the current descriptor and its progress; `useNo`: the number of the current descriptor
among the uses of translations (R365). -/
structure Chan where
  folio : Nat := 0
  queue : Option Nat := none
  st : ChSt := .idle
  list : Nat := 0
  count : Nat := 0
  index : Nat := 0
  desc : Bytes := []
  epoch : Nat := 0
  issued : Nat := 0
  done : Nat := 0
  first : Option Nat := none
  mismatches : Nat := 0
  status : Nat := 0
  detail : Nat := 0
  failOff : Option Nat := none
  ending : Bool := false
  bursts : Tbl CpBurst := []
  nextBurst : Nat := 0
  stream : Option Nat := none
  served : Nat := 0
  useNo : Nat := 0
  far : Bool := false
  deriving DecidableEq, Repr

/-! ## Objects of the hub -/

/-- A loaded program (R185-R190): quire address and image bytes. -/
structure Program where
  va : Nat
  image : Bytes
  deriving DecidableEq, Repr

/-- A running activation (R485, R521). -/
structure Activation where
  queue : Option Nat
  prog : Nat
  placement : Nat
  cores : List Nat
  release : Nat
  deadline : Option Nat := none
  missed : Bool := false
  slowed : Bool := false
  entry : Option Nat := none
  deriving DecidableEq, Repr

/-- Accounting totals of R514. -/
structure Acct where
  engineCycles : Nat := 0
  engineNs : Nat := 0
  matrixCycles : Nat := 0
  qwaitNs : Nat := 0
  preempt : Nat := 0
  launches : Nat := 0
  suspendNs : Nat := 0
  rtMiss : Nat := 0
  deriving DecidableEq, Repr

/-- A context (R469, R488, R117, R123, R509, R514, R520). -/
structure Context where
  folio : Nat
  rt : Bool := false
  share : Nat := 1
  root : Nat := 0
  seed : Word := 0
  safeVa : Nat := 0
  evring : Nat := 0
  set : Settings := {}
  stale : Nat := 0
  resident : Option Nat := none
  suspended : Option Nat := none
  held : Option Nat := none
  bkpt : Bool := false
  programs : Tbl Program := []
  act : Option Activation := none
  acct : Acct := {}
  admitted : Option (Nat × Nat) := none
  idleSince : Nat := 0
  suppressed : Nat := 0
  sieveWindow : Nat := 0
  sieveCount : Nat := 0
  far : Bool := false
  deriving DecidableEq, Repr

/-- Queue types of R471. -/
inductive QType where
  | mgmt | compute | copy
  deriving DecidableEq, Repr

/-- A fetched command descriptor (R479): 64 bytes, ring index (none: express), hub count of its fetch. -/
structure Cmd where
  bytes : Bytes
  index : Option Nat
  fetched : Nat
  deriving DecidableEq, Repr

/-- How far the queue's first command has come: waiting for its WAIT word, waiting for a resource, running with
something outstanding, or at its completion point with a status and a DETAIL (R480, R482). -/
inductive CmdPhase where
  | fresh | waiting | waitDone | held | running (phase : Nat) | done (status detail : Nat)
  deriving DecidableEq, Repr

/-- A queue (R471-R477, R489). `uses`: the uses of translations that its running command waits for (R364); `mig`: the range of its running MIGRATE,
contexts, first address and length (R373). -/
structure Queue where
  type : QType
  ctx : Nat
  log : Nat := 6
  qos : Nat := 0
  ringPa : Nat := 0
  dbPa : Nat := 0
  headPa : Nat := 0
  evring : Nat := 0
  chan : Nat := 0
  watched : Bool := false
  snooped : Bool := false
  head : Nat := 0
  tail : Nat := 0
  xseq : Nat := 0
  xseqNew : Nat := 0
  xslot : Bytes := []
  stopped : Bool := false
  dying : Bool := false
  cmds : List Cmd := []
  phase : CmdPhase := .fresh
  started : Nat := 0
  qwaitFrom : Nat := 0
  waitNoted : Bool := false
  uses : List Nat := []
  mig : Option (List Nat × Nat × Nat) := none
  refs : List (Nat × Nat) := []
  passed : Bool := false
  deriving DecidableEq, Repr

/-- A subtraction of a reference count under way (R493): the COUNT's address, and where it lies; it follows the fence offers
made before `after`. -/
structure RefSub where
  count : Nat
  pa : Nat
  after : Nat
  queue : Nat
  evring : Nat
  opcode : Nat
  deriving DecidableEq, Repr

/-- An event ring (R489, R490): records written and dropped, consumed, and those held for a full ring. -/
structure EvRing where
  folio : Nat
  vector : Nat
  log : Nat
  base : Nat
  produced : Nat := 0
  dropped : Nat := 0
  consumed : Nat := 0
  held : List Bytes := []
  deriving DecidableEq, Repr

/-! ## Composition -/

/-- Slice states of R407. -/
inductive SliceSt where
  | free | owned | transit | quarantined
  deriving DecidableEq, Repr

/-- A slice's entry of the binding map (R413) and the command that moves it. `keep`: the position that it has stopped serving
and takes up again when it is FREE or joins (R423, R425, R439). -/
structure SliceE where
  st : SliceSt := .free
  owner : Nat := 0
  dest : Nat := 0x3F
  scrub : Bool := false
  serve : Option Nat := none
  epochOut : Nat := 0
  shared : List Nat := []
  dieLost : Bool := false
  init : Bool := false
  moveTo : Option Nat := none
  moveFrom : Option Nat := none
  queue : Option Nat := none
  started : Nat := 0
  keep : Option Nat := none
  moved : Option Nat := none
  rotAt : Option Nat := none
  deriving DecidableEq, Repr

/-- A protection set (R439): a mirrored pair (two members) or a coded set (five members, the last the parity). A member
is a package id (0: this one) and a slice. `pos`: the position that a remote partner serves after its primary was lost (R441). -/
structure ProtSet where
  members : List (Nat × Nat)
  lost : List Nat := []
  pos : Option Nat := none
  deriving DecidableEq, Repr

/-- The keys of a confidential folio, 256 bits each (R574): data, tweak and tag key. -/
structure Keys where
  k1 : Nat := 0
  k2 : Nat := 0
  kt : Nat := 0
  deriving DecidableEq, Repr

/-- A folio record (R410), less the masks, which follow from the slice entries; its keys (R571, R582) and watches. -/
structure Folio where
  valid : Bool := false
  conf : Bool := false
  fixfreq : Bool := false
  guest : Bool := false
  epoch : Nat := 0
  drainLim : Nat := 20
  floorMhz : Nat := 0
  evring : Nat := 0
  guestOf : Nat := 0
  corrBase : Nat := 0
  epochPend : List Nat := []
  qkeys : Tbl Bytes := []
  keyEpoch : Nat := 0
  keys : Keys := {}
  oldKeys : Keys := {}
  prevKeys : Bool := false
  rotQueue : Option Nat := none
  energy : Option (Nat × Nat × Nat) := none
  resetting : Option (Nat × Option Nat × Nat) := none
  destroying : Option Nat := none
  deriving DecidableEq, Repr

/-- A packet this package sends (R435). -/
structure Packet where
  link : Nat
  hdr : Bytes
  payload : Bytes
  deriving DecidableEq, Repr

/-- A stitch link (R436, R626): free entries of its two receive pools and of the peer's as its credit counters say; packets that wait for a
credit, or for the link. -/
structure Link where
  up : Bool := false
  idle : Bool := false
  lanes : Nat := 0
  reqPool : Nat := 256
  cplPool : Nat := 256
  reqCredit : Nat := 256
  cplCredit : Nat := 256
  waiting : List Packet := []
  deriving DecidableEq, Repr

/-! ## Clocks and power -/

/-- A region's clock and voltage island (R30, R36, R533-R551, R621). `frac` counts thousandths of a cycle. -/
structure Region where
  count : Nat := 0
  frac : Nat := 0
  setMhz : Nat := 0
  ratedMhz : Nat := 4000
  floorMhz : Nat := 0
  voltMv : Nat := 0
  marginMv : Nat := 45
  shiftMv : Nat := 0
  powered : Bool := false
  thermalCap : Nat := 4000
  target : Option Nat := none
  railUp : Bool := false
  droop : Bool := false
  droopSince : Nat := 0
  droopLong : Bool := false
  warned : List Nat := []
  loopMhz : Nat := 0
  steppingUp : Bool := false
  capAt : Nat := 0
  gauge : Option Nat := none
  deriving DecidableEq, Repr

/-- A die's fabric island (R31, R34). -/
structure Fabric where
  count : Nat := 0
  running : Bool := false
  shiftMv : Nat := 0
  marginMv : Nat := 45
  failed : Bool := false
  passed : Bool := false
  voltMv : Nat := 0
  gauge : Option Nat := none
  deriving DecidableEq, Repr

/-- A spine lane (R282): in service, replays in the present 1 ms window, failed re-initialisations in a row. -/
structure Lane3 where
  up : Bool := false
  replays : Nat := 0
  window : Nat := 0
  fails : Nat := 0
  deriving DecidableEq, Repr

/-- The power controller (R532, R537-R541, R552-R555): averages in mW, the last ten readings, the group books. -/
structure PowerCtl where
  avgMw : Nat := 0
  last : List Nat := []
  pinMet : Nat := 0
  busMv : Nat := 0
  warns : Tbl Nat := []
  tripped : Option Nat := none
  totalW : Nat := 0
  totalChanged : Bool := false
  reports : Tbl (Nat × Nat) := []
  reportSeq : Nat := 0
  barBase : Nat := 0
  cycBase : Nat := 0
  members : Nat := 0
  leader : Bool := false
  lastAssign : Nat := 0
  tickAt : Nat := 0
  reportAt : Nat := 0
  energyAt : Nat := 0
  deriving DecidableEq, Repr

/-! ## Hub units -/

/-- The configuration check (R622-R625). -/
structure CfgChk where
  sweeping : Bool := false
  void : Bool := false
  capArmed : Bool := false
  capSweep : Bool := false
  commitPend : Bool := false
  differed : Bool := false
  deriving DecidableEq, Repr

/-- An entry of the cyclic table in force and its run (R527, R528). -/
structure CycEntry where
  bytes : Bytes
  due : Bool := false
  began : Nat := 0
  running : Bool := false
  ended : Bool := false
  deriving DecidableEq, Repr

/-- The cyclic dispatcher (R526). -/
structure Cyclic where
  mode : Bool := true
  minor : Nat := 0
  frameStart : Nat := 0
  major : Nat := 0
  table : List CycEntry := []
  newTable : Option (Bytes × Nat) := none
  enterQ : Option Nat := none
  exitQ : Option Nat := none
  deriving DecidableEq, Repr

/-- Boot states of SEC_STAT.BOOT (R588). -/
inductive Boot where
  | rom | verifying | running | recovery | flashing
  deriving DecidableEq, Repr

/-- The Clasp and start-up (R562-R566, R640-R650). `flash` none: the image fitted at manufacture (its bytes are not in
the spec); `hubBad`: the hub has failed self-test (R54). -/
structure Clasp where
  aux : Bool := false
  boot : Boot := .rom
  forced : Bool := false
  fail : Nat := 0
  svn : Nat := 0
  fuseSvn : Nat := 0
  lc : Nat := 2
  confEn : Bool := true
  commitSvn : Bool := false
  flash : Option Bytes := none
  imgSize : Nat := 0
  img : Tbl Byte := []
  cal : Tbl Byte := []
  calState : Nat := 0
  hours : Nat := 0
  pwrgood : Bool := false
  rails : Bool := false
  hbmUp : Bool := false
  stitchWait : Bool := false
  inReset : Bool := true
  pkgId : Nat := 0
  dynAddr : Option Nat := none
  addrSel : Nat := 0
  unread : List Bytes := []
  cycleReq : Bool := false
  alertN : Bool := true
  thermtripN : Bool := true
  statusRead : Bool := true
  wake : Bool := false
  hubBad : Bool := false
  deriving DecidableEq, Repr

/-- The host link (R448-R466): decoder, ATS translations (function, host page, page) and how often the host has invalidated some,
MSI-X books. -/
structure HostLink where
  perstN : Bool := true
  up : Bool := false
  cxl : Bool := false
  width : Nat := 0
  speed : Nat := 0
  hdmBase : Option Nat := none
  ats : List (Nat × Nat × Nat) := []
  atsGen : Nat := 0
  atsWait : List (Nat × Nat × List Nat) := []
  viral : Bool := false
  unmasked : List (Nat × Nat) := []
  msixPend : List (Nat × Nat) := []
  refused : Nat := 0
  refWindow : Nat := 0
  refSupp : Nat := 0
  retry : Bool := true
  deriving DecidableEq, Repr

/-- Fuses other than those of the Clasp (R23, R268, R450, R619, R657): dark physical cluster of each region
(8 die + region), bad routers, STEP, ECO and the subsystem ids. -/
structure Fuses where
  dark : List Nat := List.replicate 16 8
  badRouters : List (List (Nat × Nat)) := [[], []]
  step : Nat := 0x10
  eco : Nat := 0
  subVendor : Nat := 0x1E6C
  subDevice : Nat := 0x0840
  deriving DecidableEq, Repr

/-- What leaves the part in answer to a command: the model's own record of it (log 8). -/
inductive Out where
  | regRead (off : Nat) (value : Word)
  | regReadAll1 (off size : Nat)
  | memRead (hpa : Nat) (poison : Bool) (data : Bytes)
  | msix (fn vector : Nat)
  | snoopAnswer (addr : Nat) (dirty : Bool) (data : Bytes)
  | mgmt (op status : Nat) (payload : Bytes)
  | doe (payload : Bytes)
  | packet (p : Packet)
  | d2h (kind : Nat) (pa : Nat)
  | atsDone (fn addr : Nat)
  | queueWrite (qos pa : Nat)
  | flrDone (fn : Nat)
  | biasTakeback (frame : Nat)
  | linkOutcome (width speed : Nat)
  deriving DecidableEq, Repr

/-! ## The state -/

/-- Everything the spec gives the block, and the queue of commands that wait. `free` is the model's own counter for
free values (log 6). Registers that hold their own value stand in `regs` (keyed by canonical BAR0 offset, unlisted:
reset value). `tags`: stored integrity tags by the physical address of their unit; an unlisted unit's is the one that its contents have (log 53).
Read-only fields that mirror live state are computed where a register is read (Machine/Regs.lean). `kept`: during
a package reset, folio 0's core slices, its memory slices and the post-mortem slice (R603). -/
structure State where
  pending : List Instr := []
  free : Nat := 0
  hubCount : Nat := 0
  regs : Tbl Word := []
  hbm : List Host.Cell := []
  host : List Host.Cell := []
  poison : List Nat := []
  tags : Tbl Word := []
  frames : Tbl Word := []
  regions : Tbl Region := []
  fabrics : Tbl Fabric := []
  spine : Tbl Lane3 := []
  spineFailed : Bool := false
  cores : Tbl Core := []
  caches : Tbl Cache := []
  homes : Tbl Home := []
  hostHome : Home := {}
  hostLines : Tbl CLine := []
  hubWatch : List WatchEntry := []
  booksAt : Nat := 0
  foreAt : Nat := 0
  reqs : Tbl Req := []
  nextId : Nat := 1
  offers : Tbl Offer := []
  updates : Tbl SgUpdate := []
  bars : Tbl BarMsg := []
  sifts : Tbl SiftReq := []
  units : Tbl SiftUnit := []
  walks : Tbl Walk := []
  walkers : Tbl Walker := []
  hubTlb : List TlbEntry := []
  cpyTlb : Tbl (List TlbEntry) := []
  chans : Tbl Chan := []
  ctxs : Tbl Context := []
  folios : Tbl Folio := []
  coreSl : Tbl SliceE := []
  memSl : Tbl SliceE := []
  linkSl : Tbl SliceE := []
  prots : List ProtSet := []
  links : Tbl Link := []
  queues : Tbl Queue := []
  evrings : Tbl EvRing := []
  refSubs : Tbl RefSub := []
  lastRefs : Tbl (List (Nat × Nat)) := []
  cyclic : Cyclic := {}
  corrSeq : Nat := 0
  corrFrom : Nat := 0
  corrDue : List (Nat × Nat) := []
  cfg : CfgChk := {}
  power : PowerCtl := {}
  net : Net := {}
  rounds : Tbl Round := []
  urgency : Tbl Nat := []
  urgSince : Tbl Nat := []
  urgNoted : List Nat := []
  clasp : Clasp := {}
  link : HostLink := {}
  fuses : Fuses := {}
  capState : Nat := 1
  capGen : Nat := 0
  fore : Tbl Bytes := []
  standby : Option (Tbl Word) := none
  peerLost : Tbl Nat := []
  kept : Option (List Nat × List Nat × Option Nat) := none
  darkNoted : Tbl Nat := []
  out : List Out := []
  deriving DecidableEq, Repr

/-- Why the machine can stop: it never does by a fault of the model's own; a fault of the part is a next state. -/
inductive Fault where
  /-- nothing raises this; the type has a name so that the outcome is total. Safe. -/
  | never
  deriving DecidableEq, Repr

/-- Why a command is not carried out. -/
inductive Refusal where
  /-- an arm of `exec` that has no meaning yet (none is left); it is safe: nothing is claimed of such a command. -/
  | notModelled (mnemonic : String)
  deriving DecidableEq, Repr

/-- The part before 3.3V_AUX is applied: every field at its reset value (R17 tables, R607 power-on column); a run starts
with AUX_POWER_ON. Values the spec does not give are named in the log (4, 5). -/
def State.reset : State := {}

end Sys2Proof.Machine
end

