-- ==== Sys2Proof/Machine/Ops.lean ====
section
/-! DEFINITION. Sys2Proof/Machine/Ops.lean: tables, bytes, memory and the accessors of State: the named operations everything else is written with. -/

namespace Sys2Proof.Machine

/-! ## Tables -/

variable {α : Type}

/-- The value at key `k`, if listed. -/
def tget (k : Nat) : Tbl α → Option α
  | [] => none
  | (a, v) :: t => if a = k then some v else tget k t

/-- Lists `v` at key `k`, keeping keys strictly rising. -/
def tput (k : Nat) (v : α) : Tbl α → Tbl α
  | [] => [(k, v)]
  | (a, u) :: t => if k < a then (k, v) :: (a, u) :: t else if a = k then (k, v) :: t else (a, u) :: tput k v t

/-- Unlists key `k`. -/
def tdel (k : Nat) (t : Tbl α) : Tbl α := t.filter (fun e => decide (e.1 ≠ k))

/-- The value at key `k`, `d` where unlisted. -/
def tgetD (d : α) (k : Nat) (t : Tbl α) : α := (tget k t).getD d

/-- Writes `v` at `k` in a table whose unlisted keys read as `d`: writing `d` unlists the key. -/
def tputD [DecidableEq α] (d : α) (k : Nat) (v : α) (t : Tbl α) : Tbl α := if v = d then tdel k t else tput k v t

/-- Keys strictly rising, the first above `lo`. -/
def risingFrom : Option Nat → Tbl α → Bool
  | _, [] => true
  | lo, (a, _) :: t => (match lo with | none => true | some l => decide (l < a)) && risingFrom (some a) t

/-- The canonical form of a table with default `d`: keys strictly rising, no entry equal to `d`. -/
def tblWf [DecidableEq α] (d : α) (t : Tbl α) : Bool := risingFrom none t && t.all (fun p => decide (p.2 ≠ d))

/-- The entries whose value satisfies `p`. -/
def tfilter (p : Nat → α → Bool) (t : Tbl α) : Tbl α := t.filter (fun e => p e.1 e.2)

/-- Every value changed by `f`. -/
def tmap {β : Type} (f : Nat → α → β) (t : Tbl α) : Tbl β := t.map (fun e => (e.1, f e.1 e.2))

/-! ## Numbers and bytes -/

/-- Bits [lo + w - 1 : lo] of a number. -/
def bits (n lo w : Nat) : Nat := (n >>> lo) % 2 ^ w

/-- Bit `i` of a number. -/
def bit (n i : Nat) : Bool := n.testBit i

/-- `n` with bits [lo + w - 1 : lo] replaced by `v`. -/
def setBits (n lo w v : Nat) : Nat := n - (bits n lo w) * 2 ^ lo + (v % 2 ^ w) * 2 ^ lo

/-- A Bool as a number. -/
def b2n (b : Bool) : Nat := if b then 1 else 0

/-- Addition that stops at `top` (the counters of the register tables). -/
def satAdd (top n k : Nat) : Nat := min top (n + k)

/-- The two's-complement value of the low `w` bits of `n`. -/
def sext (n w : Nat) : Int := if bits n 0 w < 2 ^ (w - 1) then (bits n 0 w : Int) else (bits n 0 w : Int) - (2 ^ w : Nat)

/-- A mathematical integer as a 64-bit word. -/
def iword (i : Int) : Word := BitVec.ofInt 64 i

/-- `n` little-endian bytes of a number (R11). -/
def le (n v : Nat) : Bytes := (List.range n).map (fun i => BitVec.ofNat 8 (v >>> (8 * i)))

/-- The number whose little-endian bytes these are (R11). -/
def unle : Bytes → Nat
  | [] => 0
  | b :: t => b.toNat + 256 * unle t

/-- `n` zero bytes. -/
def zeros (n : Nat) : Bytes := List.replicate n 0

/-- Exactly `n` bytes: cut, or filled up with zeros. -/
def fit (n : Nat) (b : Bytes) : Bytes := (b.take n) ++ zeros (n - b.length)

/-- `n` bytes from offset `off`, zeros beyond the end. -/
def slice (b : Bytes) (off n : Nat) : Bytes := fit n ((b.drop off).take n)

/-- The little-endian field of `n` bytes at `off`. -/
def fieldLe (b : Bytes) (off n : Nat) : Nat := unle (slice b off n)

/-- `b` with the bytes `v` laid over it at `off` (its length kept). -/
def patch (b : Bytes) (off : Nat) (v : Bytes) : Bytes :=
  (b.take off) ++ (v.take (b.length - off)) ++ b.drop (off + v.length)

/-- Are all these bytes zero? -/
def allZero (b : Bytes) : Bool := b.all (fun x => x == 0)

/-- ceil(a / b). -/
def cdiv (a b : Nat) : Nat := (a + b - 1) / b

/-- CRC-32C, one bit (R622: reflected polynomial 0x82F6_3B78). -/
def crcBit (c : Nat) : Nat := if c.testBit 0 then (c / 2) ^^^ 0x82F63B78 else c / 2

/-- CRC-32C, one byte. -/
def crcByte (c : Nat) (b : Byte) : Nat :=
  crcBit (crcBit (crcBit (crcBit (crcBit (crcBit (crcBit (crcBit (c ^^^ b.toNat))))))))

/-- CRC-32C with initial value and final XOR 0xFFFF_FFFF (R622, R641). -/
def crc32c (b : Bytes) : Nat := (b.foldl crcByte 0xFFFFFFFF) ^^^ 0xFFFFFFFF

/-! ## Byte memories -/

/-- One byte; an unlisted byte reads 0 (log 4). -/
def mbyte (m : List Host.Cell) (a : Nat) : Byte := tgetD 0 a m

/-- Writes one byte, keeping the canonical form. -/
def mset (m : List Host.Cell) (a : Nat) (v : Byte) : List Host.Cell := tputD 0 a v m

/-- `n` bytes from `a` up. -/
def mread (m : List Host.Cell) (a : Nat) : Nat → Bytes
  | 0 => []
  | n + 1 => mbyte m a :: mread m (a + 1) n

/-- Writes a string of bytes from `a` up. -/
def mwrite (m : List Host.Cell) (a : Nat) : Bytes → List Host.Cell
  | [] => m
  | b :: t => mwrite (mset m a b) (a + 1) t

/-- The canonical form of a byte memory: addresses strictly rising, no entry equal to what an unlisted address reads as. -/
abbrev Memory.wf (m : List Host.Cell) : Bool := tblWf (0 : Byte) m

/-- Unlists every byte in [a, a + n): a scrub or a way's zeroing. -/
def mzero (m : List Host.Cell) (a n : Nat) : List Host.Cell := m.filter (fun c => decide (c.1 < a ∨ a + n ≤ c.1))

/-- Removes a number from a sorted list. -/
def sdel (k : Nat) (l : List Nat) : List Nat := l.filter (fun x => x != k)

/-- Adds a number to a list without repeats. -/
def sadd (k : Nat) (l : List Nat) : List Nat := if l.contains k then l else k :: l

/-! ## Unit numbers (R14, R22-R24) -/

/-- Region island (8 die + region) of a physical core number ((die * 8 + region) * 9 + cluster) * 4 + core. -/
def coreIsland (c : Nat) : Nat := c / 36

/-- Die of a physical core. -/
def coreDie (c : Nat) : Nat := c / 288

/-- Physical cluster within its region, and core within its cluster. -/
def coreCluster (c : Nat) : Nat := c / 4 % 9

/-- Core within its cluster. -/
def coreInCluster (c : Nat) : Nat := c % 4

/-- The dark physical cluster of a region island (fuses). -/
def State.darkOf (s : State) (isl : Nat) : Nat := (s.fuses.dark[isl]?).getD 8

/-- Does a physical core belong to an enabled cluster? -/
def State.coreEnabled (s : State) (c : Nat) : Bool :=
  decide (c < 576) && decide (coreCluster c ≠ s.darkOf (coreIsland c))

/-- Core slice of a physical core: 64 die + 8 region + rank of its cluster among the enabled ones (R23). -/
def State.sliceOf (s : State) (c : Nat) : Nat :=
  8 * coreIsland c + (if coreCluster c < s.darkOf (coreIsland c) then coreCluster c else coreCluster c - 1)

/-- The four physical cores of a core slice, ascending (R23, R14). -/
def State.coresOf (s : State) (n : Nat) : List Nat :=
  let cl := if n % 8 < s.darkOf (n / 8) then n % 8 else n % 8 + 1
  [0, 1, 2, 3].map (fun k => ((n / 8) * 9 + cl) * 4 + k)

/-- Position of a physical cluster on its die (R264). -/
def clusterXY (isl cl : Nat) : Nat × Nat := (3 * (isl % 4) + cl % 3, 3 * (isl % 8 / 4) + cl / 3)

/-- Does the rectangle contain the cluster of a core slice? -/
def State.inRect (s : State) (r n : Nat) : Bool :=
  match s.coresOf n with
  | c :: _ =>
    let p := clusterXY (coreIsland c) (coreCluster c)
    bit r (14 + coreDie c) && decide (bits r 0 4 ≤ p.1 ∧ p.1 ≤ bits r 4 4 ∧ bits r 8 3 ≤ p.2 ∧ p.2 ≤ bits r 11 3)
  | [] => false

/-- ENGINE of a physical core in the form of R204 and R592: die, region, cluster, core, one byte each. -/
def engineWord (c : Nat) : Nat :=
  coreDie c * 2 ^ 24 + (coreIsland c % 8) * 2 ^ 16 + coreCluster c * 2 ^ 8 + coreInCluster c

/-- ENGINE as the four bytes of a record: die first (R148). -/
def engineBytes (c : Nat) : Bytes :=
  [BitVec.ofNat 8 (coreDie c), BitVec.ofNat 8 (coreIsland c % 8), BitVec.ofNat 8 (coreCluster c),
   BitVec.ofNat 8 (coreInCluster c)]

/-- The physical core named by ENGINE form (R598). -/
def engineCore (e : Nat) : Nat :=
  ((bits e 24 8 * 8 + bits e 16 8) * 9 + bits e 8 8) * 4 + bits e 0 8

/-! ## Accessors of State -/

def State.core (s : State) (c : Nat) : Core := tgetD {} c s.cores
def State.setCore (s : State) (c : Nat) (v : Core) : State := { s with cores := tputD {} c v s.cores }
def State.slot? (s : State) (c k : Nat) : Option Slot := tget k (s.core c).slots
def State.setSlot (s : State) (c k : Nat) (v : Slot) : State :=
  s.setCore c { s.core c with slots := tput k v (s.core c).slots }
def State.cache (s : State) (n : Nat) : Cache := tgetD {} n s.caches
def State.setCache (s : State) (n : Nat) (v : Cache) : State := { s with caches := tputD {} n v s.caches }
def State.home (s : State) (h : Nat) : Home := if h = 64 then s.hostHome else tgetD {} h s.homes
def State.setHome (s : State) (h : Nat) (v : Home) : State :=
  if h = 64 then { s with hostHome := v } else { s with homes := tputD {} h v s.homes }
def State.region (s : State) (i : Nat) : Region := tgetD {} i s.regions
def State.setRegion (s : State) (i : Nat) (v : Region) : State := { s with regions := tputD {} i v s.regions }
def State.fabric (s : State) (d : Nat) : Fabric := tgetD {} d s.fabrics
def State.setFabric (s : State) (d : Nat) (v : Fabric) : State := { s with fabrics := tputD {} d v s.fabrics }
/-- Does a die's fabric domain run, and its engines with it (R31, R52)? -/
def State.fabricUp (s : State) (d : Nat) : Bool := (s.fabric d).running && !(s.fabric d).failed
def State.ctx? (s : State) (i : Nat) : Option Context := tget i s.ctxs
def State.setCtx (s : State) (i : Nat) (v : Context) : State := { s with ctxs := tput i v s.ctxs }
def State.folio (s : State) (f : Nat) : Folio := tgetD {} f s.folios
def State.setFolio (s : State) (f : Nat) (v : Folio) : State := { s with folios := tputD {} f v s.folios }
def State.queue? (s : State) (q : Nat) : Option Queue := tget q s.queues
def State.setQueue (s : State) (q : Nat) (v : Queue) : State := { s with queues := tput q v s.queues }
def State.chan (s : State) (c : Nat) : Chan := tgetD {} c s.chans
def State.setChan (s : State) (c : Nat) (v : Chan) : State := { s with chans := tputD {} c v s.chans }
def State.stitch (s : State) (l : Nat) : Link := tgetD {} l s.links
def State.setStitch (s : State) (l : Nat) (v : Link) : State := { s with links := tputD {} l v s.links }
def State.unit (s : State) (u : Nat) : SiftUnit := tgetD {} u s.units
def State.setUnit (s : State) (u : Nat) (v : SiftUnit) : State := { s with units := tputD {} u v s.units }
def State.walker (s : State) (d : Nat) : Walker := tgetD {} d s.walkers
def State.setWalker (s : State) (d : Nat) (v : Walker) : State := { s with walkers := tputD {} d v s.walkers }
def State.req? (s : State) (r : Nat) : Option Req := tget r s.reqs
def State.setReq (s : State) (r : Nat) (v : Req) : State := { s with reqs := tput r v s.reqs }
def State.dropReq (s : State) (r : Nat) : State := { s with reqs := tdel r s.reqs }

/-- The entry of a core slice: after power-on every slice is FREE until self-test gives folio 0 its slices. -/
def State.coreSlice (s : State) (n : Nat) : SliceE := tgetD {} n s.coreSl
def State.setCoreSlice (s : State) (n : Nat) (v : SliceE) : State := { s with coreSl := tputD {} n v s.coreSl }

/-- The entry of a memory slice; at reset slice s serves position s (R412, R413). -/
def State.memSlice (s : State) (n : Nat) : SliceE := tgetD { serve := some n } n s.memSl
def State.setMemSlice (s : State) (n : Nat) (v : SliceE) : State :=
  { s with memSl := tputD { serve := some n } n v s.memSl }
def State.linkSlice (s : State) (n : Nat) : SliceE := tgetD {} n s.linkSl
def State.setLinkSlice (s : State) (n : Nat) (v : SliceE) : State := { s with linkSl := tputD {} n v s.linkSl }

/-- The entry of slice `n` of a kind: 0 core, 1 memory, 2 link (R430). -/
def State.sliceE (s : State) (kind n : Nat) : SliceE :=
  if kind = 0 then s.coreSlice n else if kind = 1 then s.memSlice n else s.linkSlice n
def State.setSliceE (s : State) (kind n : Nat) (v : SliceE) : State :=
  if kind = 0 then s.setCoreSlice n v else if kind = 1 then s.setMemSlice n v else s.setLinkSlice n v

/-- A new request; its id is the counter's value. -/
def State.addReq (s : State) (r : Req) : State :=
  { s with reqs := tput s.nextId { r with born := s.hubCount } s.reqs, nextId := s.nextId + 1 }

/-- Takes an id from the counter for an offer, a walk, a message. -/
def State.bumpId (s : State) : State := { s with nextId := s.nextId + 1 }

/-- The free value that the next use takes (log 6). -/
def State.freeNat (s : State) : Nat := Config.freeValue s.free

/-- Advances the free-value counter by one. -/
def State.useFree (s : State) : State := { s with free := s.free + 1 }

/-- Fresh keys of the Clasp (R574), from three free values. -/
def State.freeKeys (s : State) : Keys :=
  { k1 := Config.freeValue s.free % 2 ^ 256, k2 := Config.freeValue (s.free + 1) % 2 ^ 256, kt := Config.freeValue (s.free + 2) % 2 ^ 256 }

/-- `n` free bytes. -/
def State.freeBytes (s : State) (n : Nat) : Bytes := le n s.freeNat

/-- Records something that leaves the part (log 8). -/
def State.emit (s : State) (o : Out) : State := { s with out := s.out ++ [o] }

/-- The folio a context belongs to; context 0 belongs to folio 0 (R468), an id not in use to none (0x3F). -/
def State.ctxFolio (s : State) (c : Nat) : Nat :=
  match s.ctx? c with | some x => x.folio | none => if c = 0 then 0 else 0x3F

/-- Is an id in use as a context? Context 0 always is (R468). -/
def State.ctxInUse (s : State) (c : Nat) : Bool := (s.ctx? c).isSome || c == 0

/-- Replaces one field's worth of a slot by a function of it; nothing where the slot is empty. -/
def State.modSlot (s : State) (c k : Nat) (f : Slot → Slot) : State :=
  match s.slot? c k with | some x => s.setSlot c k (f x) | none => s
def State.modCtx (s : State) (i : Nat) (f : Context → Context) : State :=
  match s.ctx? i with | some x => s.setCtx i (f x) | none => s
def State.modQueue (s : State) (q : Nat) (f : Queue → Queue) : State :=
  match s.queue? q with | some x => s.setQueue q (f x) | none => s
def State.modReq (s : State) (r : Nat) (f : Req → Req) : State :=
  match s.req? r with | some x => s.setReq r (f x) | none => s

/-- Every slot of every core, as (core, slot number, slot). -/
def State.allSlots (s : State) : List (Nat × Nat × Slot) :=
  s.cores.flatMap (fun c => c.2.slots.map (fun k => (c.1, k.1, k.2)))

/-- The slots that hold a context. -/
def State.slotsOf (s : State) (ctx : Nat) : List (Nat × Nat × Slot) :=
  s.allSlots.filter (fun x => x.2.2.ctx == ctx)

/-- Runs a change over a list of keys. -/
def foldS {β : Type} (l : List β) (s : State) (f : State → β → State) : State := l.foldl f s

/-- The core slices a folio owns, ascending (R410 CORE_MASK). -/
def State.folioCores (s : State) (f : Nat) : List Nat :=
  (List.range 128).filter (fun n => decide ((s.coreSlice n).st = .owned ∧ (s.coreSlice n).owner = f))

/-- The memory slices a folio owns, ascending (R410 MEM_MASK). -/
def State.folioMems (s : State) (f : Nat) : List Nat :=
  (List.range 64).filter (fun n => decide ((s.memSlice n).st = .owned ∧ (s.memSlice n).owner = f))

/-- The link slices a folio owns or shares (R410 LINK_MASK). -/
def State.folioLinks (s : State) (f : Nat) : List Nat :=
  (List.range 12).filter (fun n => decide ((s.linkSlice n).st = .owned ∧ (s.linkSlice n).owner = f) ||
    (s.linkSlice n).shared.contains f)

/-- The bit mask of a list of bit numbers. -/
def maskOf (l : List Nat) : Nat := l.foldl (fun m n => m ||| 2 ^ n) 0

/-- Stop of an event that cannot occur in this state: nothing changes (log 3). -/
def stay (s : State) : Host.Outcome State Fault Refusal := .next s

end Sys2Proof.Machine
end

