-- ==== Sys2Proof/Machine/Crypt.lean ====
section
/-! DEFINITION. Sys2Proof/Machine/Crypt.lean: how confidential memory is encrypted and tagged (18 R574, R577, R578): AES-256, XTS, and the tag of a 256-byte unit. -/

namespace Sys2Proof.Machine

/-! ## AES-256 (named by R577; FIPS 197) -/

/-- Multiplication by x in AES's field of bytes. -/
def xtime (a : Nat) : Nat := if a < 128 then 2 * a else (2 * a) ^^^ 0x11B

/-- Product of two bytes in AES's field. -/
def byteMul : (fuel a b : Nat) → Nat
  | 0, _, _ => 0
  | fuel + 1, a, b => (if b % 2 = 1 then a else 0) ^^^ byteMul fuel (xtime a) (b / 2)

/-- The inverse of a byte, 0 for 0: its 254th power. -/
def byteInv (a : Nat) : Nat :=
  let m := byteMul 8
  let a2 := m a a
  let a3 := m a2 a
  let a12 := m (m a3 a3) (m a3 a3)
  let a15 := m a12 a3
  let a240 := (List.range 4).foldl (fun x _ => m x x) a15
  m (m a240 a12) a2

/-- The S-box. -/
def subByte (a : Nat) : Nat :=
  let b := byteInv a
  let rot := fun (k : Nat) => (b * 2 ^ k) % 256 + b / 2 ^ (8 - k)
  b ^^^ rot 1 ^^^ rot 2 ^^^ rot 3 ^^^ rot 4 ^^^ 0x63

/-- XOR of two blocks of bytes. -/
def xorBlock (a b : List Nat) : List Nat := List.zipWith (fun x y => x ^^^ y) a b

/-- The next word of the key schedule, from the eighth word before it and the last word: `i` is its number. -/
def keyWord (i : Nat) (old last : List Nat) : List Nat :=
  let t := if i % 8 = 0 then
      (match (last.drop 1 ++ last.take 1).map subByte with
       | a :: r => (a ^^^ 2 ^ (i / 8 - 1)) :: r
       | [] => [])
    else if i % 8 = 4 then last.map subByte else last
  xorBlock old t

/-- The key schedule: `ws` holds the last eight words, oldest first. -/
def keyWords : (fuel i : Nat) → (ws : List (List Nat)) → List (List Nat)
  | 0, _, _ => []
  | fuel + 1, i, ws =>
    let w := keyWord i (ws.headD []) ((ws[7]?).getD [])
    w :: keyWords fuel (i + 1) (ws.drop 1 ++ [w])

/-- The 15 round keys of a 32-byte key. -/
def roundKeys (key : List Nat) : List (List Nat) :=
  let first := (List.range 8).map (fun i => (key.drop (4 * i)).take 4)
  let ws := first ++ keyWords 52 8 first
  (List.range 15).map (fun r => ((ws.drop (4 * r)).take 4).flatten)

/-- ShiftRows of a block in column order. -/
def shiftRows (b : List Nat) : List Nat := (List.range 16).map (fun i => (b[(i + 4 * (i % 4)) % 16]?).getD 0)

/-- MixColumns of one column. -/
def mixColumn : List Nat → List Nat
  | [a, b, c, d] =>
    [xtime a ^^^ (xtime b ^^^ b) ^^^ c ^^^ d, a ^^^ xtime b ^^^ (xtime c ^^^ c) ^^^ d,
     a ^^^ b ^^^ xtime c ^^^ (xtime d ^^^ d), (xtime a ^^^ a) ^^^ b ^^^ c ^^^ xtime d]
  | l => l

/-- MixColumns. -/
def mixColumns (b : List Nat) : List Nat := [0, 1, 2, 3].flatMap (fun i => mixColumn ((b.drop (4 * i)).take 4))

/-- The rounds of AES after the first key: all but the last mix columns. -/
def aesRounds : List (List Nat) → List Nat → List Nat
  | [], b => b
  | [k], b => xorBlock (shiftRows (b.map subByte)) k
  | k :: ks, b => aesRounds ks (xorBlock (mixColumns (shiftRows (b.map subByte))) k)

/-- AES-256 of a 16-byte block. -/
def aes256 (key block : Bytes) : Bytes :=
  match roundKeys (key.map (fun x => x.toNat)) with
  | k :: ks => (aesRounds ks (xorBlock (block.map (fun x => x.toNat)) k)).map (BitVec.ofNat 8)
  | [] => block

/-! ## XTS (R577; IEEE 1619) -/

/-- The next block's tweak: times alpha, bytes little-endian. -/
def nextTweak (t : Bytes) : Bytes :=
  let n := 2 * unle t
  le 16 (if n < 2 ^ 128 then n else (n - 2 ^ 128) ^^^ 0x87)

/-- XOR of two byte strings. -/
def xorBytes (a b : Bytes) : Bytes := List.zipWith (fun x y => x ^^^ y) a b

/-- The blocks of a data unit under running tweaks. -/
def xtsBlocks (k1 : Bytes) : (fuel : Nat) → (tweak data : Bytes) → Bytes
  | 0, _, _ => []
  | fuel + 1, t, d => xorBytes (aes256 k1 (xorBytes (d.take 16) t)) t ++ xtsBlocks k1 fuel (nextTweak t) (d.drop 16)

/-- AES-256-XTS of a 64-byte line; its data-unit number is the line's physical address shifted right by 6 (R577). -/
def xtsLine (k1 k2 : Bytes) (pa : Nat) (d : Bytes) : Bytes := xtsBlocks k1 4 (aes256 k2 (le 16 (pa / 64))) d

/-! ## Tags (R578) -/

/-- Product in GF(2^128) with the bit order of GHASH: bit 127 of a number is the first bit of its block. -/
def ghashMul : (fuel : Nat) → (x v z : Nat) → Nat
  | 0, _, _, z => z
  | fuel + 1, x, v, z =>
    ghashMul fuel (2 * x) (if v % 2 = 1 then (v / 2) ^^^ (0xE1 * 2 ^ 120) else v / 2) (if x.testBit 127 then z ^^^ v else z)

/-- A block as a number, its first byte the most significant. -/
def beNum (b : Bytes) : Nat := unle b.reverse

/-- The sum of R578: c[1] h^17 + ... + c[16] h^2 + a h. -/
def tagSum (h : Nat) (blocks : List Nat) : Nat := blocks.foldl (fun y c => ghashMul 128 (y ^^^ c) h 0) 0

/-- The block `a` of R578: unit address, key epoch, key slot. -/
def tagBlock (addr epoch slot : Nat) : Bytes := le 8 addr ++ le 1 epoch ++ le 1 slot ++ zeros 6

/-- The 64-bit tag of a 256-byte unit of ciphertext (R578). Its low 64 bits are the first eight bytes of the block, little-endian (DEDUCED from R11,
log 53). -/
def tagOf (kt : Bytes) (addr epoch slot : Nat) (cipher : Bytes) : Nat :=
  let h := beNum (aes256 kt (zeros 16))
  let a := tagBlock addr epoch slot
  let y := tagSum h ((List.range 16).map (fun i => beNum ((cipher.drop (16 * i)).take 16)) ++ [beNum a])
  let m := beNum (aes256 kt (a.take 15 ++ [1]))
  unle ((le 16 (y ^^^ m)).reverse.take 8)

end Sys2Proof.Machine
end

