-- ==== Sys2Proof/Machine/Regs.lean ====
section
/-! DEFINITION. Sys2Proof/Machine/Regs.lean: the register interface (20 R610-R630): the BAR0 map and its aliases, every register's fields, access types and reset values, and what its read-only fields mirror. -/

namespace Sys2Proof.Machine

/-- Access types of R17. -/
inductive Acc where
  | rw | ro | wo | w1c | w1s | rws | rwf | rc
  deriving DecidableEq, Repr

/-- A field: low bit, width, access, reset value. -/
structure Fld where
  lo : Nat
  wd : Nat
  acc : Acc
  rst : Nat := 0
  deriving DecidableEq, Repr

/-! ## Canonical offsets (R610, R630): a register is named by its BAR0 offset -/

def rHubIdent : Nat := 0x0000
def rHubRev : Nat := 0x0008
def rCfgCtl : Nat := 0x0010
def rCfgRef : Nat := 0x0018
def rCfgCur : Nat := 0x0020
def rRgnPwr : Nat := 0x0028
def rCorrCtl : Nat := 0x0140
def rCorrBase : Nat := 0x0148
def rCorrSeq : Nat := 0x0150
def rSafeCtl : Nat := 0x0160
def rHostCtl : Nat := 0x0180
def rHostStat : Nat := 0x0188
def rMgmtqRing : Nat := 0x0200
def rMgmtqDb : Nat := 0x0208
def rMgmtqHead : Nat := 0x0210
def rEvr0 : Nat := 0x0218
def rQueueCtl : Nat := 0x0220
def rSchedCtl : Nat := 0x0240
def rRtCtl : Nat := 0x0248
def rCyclicStat : Nat := 0x0250
def rFaultCtl : Nat := 0x0260
def rWdogCtl : Nat := 0x0268
def rPmBase : Nat := 0x0270
def rPmStat : Nat := 0x0278
def rSliceCore (n : Nat) : Nat := 0x1000 + 8 * n
def rSliceMem (n : Nat) : Nat := 0x1400 + 8 * n
def rSliceLink (n : Nat) : Nat := 0x1600 + 8 * n
def rPeer (i : Nat) : Nat := 0x1680 + 8 * i
def rSecStat : Nat := 0x10000
def rSecKey (f : Nat) : Nat := 0x10100 + 8 * f
def rPwrLimit : Nat := 0x20000
def rPwrStat : Nat := 0x20008
def rPwrEvent : Nat := 0x20010
def rPwrGroup : Nat := 0x20040
def rPwrRegion (i : Nat) : Nat := 0x20100 + 8 * i
def rPwrDroop (i : Nat) : Nat := 0x20180 + 8 * i
def rErrStat : Nat := 0x30000
def rErrLog (i : Nat) : Nat := 0x30100 + 16 * i
def rXltWalk (d : Nat) : Nat := 0x40000 + 0x100 * d
def rXltInv : Nat := 0x40200
def rChCtl (ch : Nat) : Nat := 0x50000 + 0x400 * (ch / 16) + 0x20 * (ch % 16)
def rChStat (ch : Nat) : Nat := rChCtl ch + 0x08
def rChDesc (ch : Nat) : Nat := rChCtl ch + 0x10
def rEngStat (e : Nat) : Nat := 0x50000 + 0x400 * e + 0x200
def rSftStat (u : Nat) : Nat := 0x60000 + 0x40 * u
def rSftBytes (u : Nat) : Nat := 0x60008 + 0x40 * u
def rStc (l : Nat) : Nat := 0x70000 + 8 * l
def rQosWt (d : Nat) : Nat := 0x80000 + 0x10000 * d
def rUrgCtl (d : Nat) : Nat := 0x80008 + 0x10000 * d
def rSpine (d : Nat) : Nat := 0x80010 + 0x10000 * d
/-- The slot of the pair HOM_LATMAX_OWN[2k], HOM_LATMAX_OWN[2k + 1] of home h. -/
def rLatOwn (h k : Nat) : Nat := 0x100000 + 0x80 * h + 8 * k
def rLatOth (h k : Nat) : Nat := 0x100020 + 0x80 * h + 8 * k
def rLatCtl (h : Nat) : Nat := 0x100040 + 0x80 * h
def rCoh (h : Nat) : Nat := 0x100048 + 0x80 * h
def rFrame (f : Nat) : Nat := 0x110000 + 8 * f
/-- The core page of a physical core (R615). -/
def corePage (c : Nat) : Nat :=
  0x2000000 + (coreDie c) * 2 ^ 21 + (coreIsland c % 8) * 2 ^ 18 + (coreCluster c) * 2 ^ 14 + (coreInCluster c) * 2 ^ 12
def rCoreStat (c : Nat) : Nat := corePage c
def rDbgAddr (c : Nat) : Nat := corePage c + 8
def rDbgData (c : Nat) : Nat := corePage c + 0x10
/-- The region page of an island (R615). -/
def rRgnCtl (i : Nat) : Nat := 0x2400000 + (i / 8) * 2 ^ 15 + (i % 8) * 2 ^ 12

/-! ## Decoding of offsets (R610, R614) -/

/-- The unit a physical core page offset names, with cluster fields 9-15 folded (R614). -/
def pageCore (o : Nat) : Nat :=
  let cl := bits o 14 4
  ((bits o 21 1 * 8 + bits o 18 3) * 9 + (if 9 ≤ cl then cl - 8 else cl)) * 4 + bits o 12 2

/-- HUB_ offset after its ignored bits and aliases (R614). -/
def hubFold (o : Nat) : Nat :=
  let a := bits o 3 10 * 8
  if a < 0x1000 then a % 0x400
  else
    let b := if 0x1800 ≤ a then a - 0x800 else a
    if 0x1700 ≤ b then b - 0x100 else b

/-- The named slots of HUB_ below 0x400 (R630). -/
def hubLow : List Nat :=
  [0x0, 0x8, 0x10, 0x18, 0x20, 0x28, 0x140, 0x148, 0x150, 0x160, 0x180, 0x188, 0x200, 0x208, 0x210, 0x218, 0x220,
   0x240, 0x248, 0x250, 0x260, 0x268, 0x270, 0x278]

/-- Is a folded HUB_ offset a register? -/
def hubNamed (a : Nat) : Bool :=
  if a < 0x1000 then hubLow.contains a
  else if a < 0x1400 then true
  else if a < 0x1600 then true
  else if a < 0x1660 then true
  else decide (0x1680 ≤ a ∧ a < 0x16F8)

/-- The canonical offset of the 8-byte slot that a BAR0 offset reaches; none for a hole or outside every window. -/
def canon (off : Nat) : Option Nat :=
  let w := off / 0x10000
  let o := off % 0x10000
  if w = 0 then (let a := hubFold o; if a < 0x1400 ∧ 0x1000 ≤ a then some a else if hubNamed a then some a else none)
  else if w = 1 then (let a := bits o 3 9 * 8; if a = 0 ∨ (0x100 ≤ a ∧ a < 0x300) then some (0x10000 + a) else none)
  else if w = 2 then (let a := bits o 3 9 * 8
    if a = 0 ∨ a = 8 ∨ a = 0x10 ∨ a = 0x40 ∨ (0x100 ≤ a ∧ a < 0x200) then some (0x20000 + a) else none)
  else if w = 3 then (let a := bits o 3 9 * 8; if a = 0 ∨ (0x100 ≤ a ∧ a < 0x500) then some (0x30000 + a) else none)
  else if w = 4 then (let a := bits o 3 7 * 8; if a = 0 ∨ a = 0x100 ∨ a = 0x200 then some (0x40000 + a) else none)
  else if w = 5 then (let a := bits o 3 10 * 8
    if a % 0x400 < 0x200 then (if a % 0x20 = 0x18 then none else some (0x50000 + a))
    else if a % 0x400 = 0x200 then some (0x50000 + a) else none)
  else if w = 6 then (let a := bits o 3 9 * 8; if a % 0x40 < 0x10 then some (0x60000 + a) else none)
  else if w = 7 then (let a := bits o 3 4 * 8; if a < 0x60 then some (0x70000 + a) else none)
  else if w = 8 ∨ w = 9 then (let a := bits o 3 2 * 8; if a < 0x18 then some (w * 0x10000 + a) else none)
  else if 0x10 ≤ w ∧ w < 0x20 then
    (let a := bits (off - 0x100000) 3 15 * 8
     if a < 0x10000 then (let b := a % 0x2000; if b % 0x80 < 0x50 then some (0x100000 + b) else none)
     else if a < 0x30000 then some (0x100000 + a) else some (0x100000 + a - 0x10000))
  else if 0x200 ≤ w ∧ w < 0x240 then
    (let a := bits off 3 2 * 8; if a = 0x18 then none else some (corePage (pageCore off) + a))
  else if w = 0x240 then (let a := bits off 3 1 * 8; if a = 8 then none else some (0x2400000 + bits off 12 4 * 2 ^ 12))
  else none

/-- The island of a canonical offset: 0-15 regions, 16-17 fabrics, 18 hub (R610). -/
def regIsland (c : Nat) : Nat :=
  if c < 0x40000 then 18
  else if c < 0x50000 then (if c = 0x40200 then 18 else 16 + (c - 0x40000) / 0x100)
  else if c < 0x60000 then 16 + (c - 0x50000) / 0x400 / 4
  else if c < 0x70000 then 16 + (c - 0x60000) / 0x40 / 32
  else if c < 0x80000 then 16 + (c - 0x70000) / 8 / 6
  else if c < 0x100000 then 16 + (c - 0x80000) / 0x10000
  else if c < 0x110000 then 16 + (c - 0x100000) / 0x80 / 32
  else if c < 0x200000 then 16 + (c - 0x110000) / 8 / 8192
  else if c < 0x2400000 then coreIsland (pageCore c)
  else (c - 0x2400000) / 0x1000

/-! ## Fields -/

/-- The fields of a register, by canonical offset (the tables of the chapters; RSVD bits are not listed). -/
def fieldsOf (c : Nat) : List Fld :=
  if c = rHubIdent then [⟨0, 16, .ro, 0x1E6C⟩, ⟨16, 16, .ro, 0x0840⟩, ⟨32, 8, .ro, 1⟩]
  else if c = rHubRev then [⟨16, 8, .ro, 0⟩, ⟨24, 8, .ro, 0⟩]
  else if c = rCfgCtl then [⟨0, 1, .rw, 0⟩, ⟨1, 1, .wo, 0⟩, ⟨2, 1, .wo, 0⟩, ⟨3, 1, .rws, 0⟩, ⟨4, 1, .ro, 0⟩, ⟨8, 16, .rws, 0⟩]
  else if c = rCfgRef then [⟨0, 32, .rw, 0⟩]
  else if c = rCfgCur then [⟨0, 32, .ro, 0⟩, ⟨32, 32, .ro, 0⟩]
  else if c = rRgnPwr then [⟨0, 16, .rw, 0⟩, ⟨16, 16, .ro, 0⟩, ⟨32, 16, .ro, 0⟩]
  else if c = rCorrCtl then [⟨0, 1, .rw, 1⟩, ⟨1, 1, .wo, 0⟩, ⟨4, 10, .rw, 10⟩, ⟨14, 1, .rw, 1⟩]
  else if c = rCorrBase then [⟨0, 4, .rw, 4⟩, ⟨12, 34, .rw, 0⟩]
  else if c = rCorrSeq then [⟨0, 64, .ro, 0⟩]
  else if c = rSafeCtl then [⟨0, 1, .rw, 1⟩, ⟨1, 1, .rw, 1⟩, ⟨4, 4, .rw, 0⟩]
  else if c = rHostCtl then [⟨0, 1, .rw, 0⟩, ⟨4, 8, .rw, 50⟩]
  else if c = rHostStat then [⟨0, 5, .ro, 0⟩, ⟨5, 3, .ro, 0⟩, ⟨8, 1, .ro, 0⟩, ⟨9, 1, .ro, 0⟩, ⟨16, 16, .rc, 0⟩]
  else if c = rMgmtqRing then [⟨0, 1, .rw, 0⟩, ⟨1, 5, .rw, 6⟩, ⟨12, 34, .rw, 0⟩]
  else if c = rMgmtqDb then [⟨6, 40, .rw, 0⟩]
  else if c = rMgmtqHead then [⟨3, 43, .rw, 0⟩]
  else if c = rEvr0 then [⟨0, 5, .rw, 8⟩, ⟨12, 34, .rw, 0⟩, ⟨46, 8, .rw, 0⟩]
  else if c = rQueueCtl then [⟨0, 16, .rw, 1000⟩, ⟨16, 10, .ro, 1⟩]
  else if c = rSchedCtl then [⟨0, 16, .rw, 256⟩, ⟨16, 12, .rw, 32⟩, ⟨28, 1, .ro, 1⟩]
  else if c = rRtCtl then [⟨0, 14, .rw, 7500⟩]
  else if c = rCyclicStat then [⟨0, 32, .ro, 0⟩, ⟨32, 16, .rc, 0⟩, ⟨48, 8, .ro, 0⟩]
  else if c = rFaultCtl then [⟨0, 16, .rw, 0⟩]
  else if c = rWdogCtl then [⟨0, 16, .rw, 10000⟩, ⟨16, 12, .rw, 1000⟩, ⟨28, 12, .rw, 1000⟩, ⟨40, 10, .rw, 100⟩]
  else if c = rPmBase then [⟨24, 22, .rws, 0⟩]
  else if c = rPmStat then [⟨0, 1, .rws, 0⟩, ⟨1, 1, .rws, 1⟩, ⟨16, 16, .rws, 0⟩, ⟨32, 32, .rws, 0⟩]
  else if c < 0x1680 then
    [⟨0, 2, .ro, 0⟩, ⟨2, 6, .ro, 0⟩, ⟨8, 6, .ro, 0x3F⟩, ⟨14, 1, .ro, 0⟩, ⟨15, 1, .ro, 0⟩, ⟨16, 24, .ro, 0⟩, ⟨40, 7, .ro, 0x7F⟩,
     ⟨48, 16, .ro, 0⟩]
  else if c < 0x10000 then [⟨0, 16, .ro, 0⟩, ⟨16, 12, .ro, 0⟩, ⟨31, 1, .ro, 0⟩]
  else if c = rSecStat then
    [⟨0, 3, .ro, 0⟩, ⟨3, 1, .ro, 0⟩, ⟨4, 2, .ro, 0⟩, ⟨8, 8, .ro, 0⟩, ⟨16, 8, .ro, 0⟩, ⟨24, 8, .ro, 0⟩, ⟨48, 16, .rc, 0⟩]
  else if c < 0x20000 then
    [⟨0, 1, .ro, 0⟩, ⟨1, 1, .ro, 0⟩, ⟨2, 8, .ro, 0⟩, ⟨10, 1, .ro, 0⟩, ⟨16, 14, .ro, 0⟩, ⟨32, 16, .ro, 0⟩]
  else if c = rPwrLimit then [⟨0, 11, .rw, 1350⟩, ⟨11, 5, .rw, 10⟩, ⟨16, 11, .rw, 1700⟩]
  else if c = rPwrStat then [⟨0, 16, .ro, 0⟩, ⟨16, 16, .ro, 0⟩, ⟨32, 10, .ro, 0⟩, ⟨42, 1, .ro, 0⟩]
  else if c = rPwrEvent then
    [⟨0, 1, .rws, 0⟩, ⟨1, 1, .rws, 0⟩, ⟨2, 1, .rws, 0⟩, ⟨3, 1, .rws, 0⟩, ⟨4, 1, .rws, 0⟩, ⟨16, 16, .rws, 0⟩]
  else if c = rPwrGroup then [⟨0, 1, .rw, 0⟩, ⟨4, 12, .rw, 0⟩, ⟨16, 16, .ro, 0⟩, ⟨32, 4, .ro, 0⟩, ⟨36, 1, .ro, 0⟩]
  else if c < 0x20180 then
    [⟨0, 12, .ro, 0⟩, ⟨12, 12, .ro, 0⟩, ⟨24, 12, .ro, 0⟩, ⟨36, 10, .ro, 0⟩, ⟨46, 6, .ro, 45⟩, ⟨52, 7, .ro, 0⟩, ⟨59, 1, .ro, 0⟩]
  else if c < 0x30000 then [⟨0, 24, .rc, 0⟩, ⟨24, 8, .rc, 0⟩, ⟨32, 8, .rw, 30⟩]
  else if c = rErrStat then [⟨0, 6, .rws, 0⟩, ⟨6, 1, .wo, 0⟩, ⟨16, 16, .rws, 0⟩]
  else if c < 0x40000 then
    (if c % 16 = 0 then [⟨0, 16, .rws, 0⟩, ⟨16, 8, .rws, 0⟩, ⟨24, 8, .rws, 0⟩, ⟨32, 32, .rws, 0⟩] else [⟨0, 64, .rws, 0⟩])
  else if c = rXltInv then [⟨0, 16, .rw, 10⟩]
  else if c < 0x50000 then [⟨0, 16, .rc, 0⟩, ⟨16, 5, .ro, 0⟩, ⟨24, 8, .rc, 0⟩]
  else if c < 0x60000 then
    (if c % 0x400 = 0x200 then [⟨0, 9, .ro, 256⟩, ⟨16, 16, .rc, 0⟩]
     else if c % 0x20 = 0 then [⟨0, 2, .rw, 0⟩, ⟨2, 4, .rw, 1⟩, ⟨6, 1, .rw, 0⟩, ⟨8, 9, .rw, 64⟩, ⟨17, 1, .wo, 0⟩, ⟨18, 1, .wo, 0⟩]
     else if c % 0x20 = 8 then [⟨0, 3, .ro, 0⟩, ⟨3, 1, .w1c, 0⟩, ⟨8, 8, .ro, 0⟩, ⟨16, 9, .ro, 0⟩]
     else [⟨0, 64, .ro, 0⟩])
  else if c < 0x70000 then
    (if c % 0x40 = 0 then [⟨0, 1, .ro, 0⟩, ⟨1, 5, .ro, 0⟩, ⟨8, 8, .ro, 0⟩, ⟨16, 16, .rc, 0⟩] else [⟨0, 64, .ro, 0⟩])
  else if c < 0x80000 then [⟨0, 2, .ro, 0⟩, ⟨2, 4, .ro, 0⟩, ⟨8, 8, .rc, 0⟩, ⟨16, 16, .rc, 0⟩, ⟨32, 16, .rc, 0⟩]
  else if c < 0x100000 then
    (if c % 0x20 = 0 then (List.range 8).map (fun k => ⟨4 * k, 4, .rw, k + 1⟩)
     else if c % 0x20 = 8 then
       [⟨0, 4, .rw, 8⟩, ⟨4, 4, .rw, 12⟩, ⟨8, 4, .rw, 8⟩, ⟨12, 4, .rw, 12⟩, ⟨16, 4, .rw, 8⟩, ⟨20, 4, .rw, 12⟩, ⟨24, 4, .rw, 2⟩]
     else [⟨0, 16, .rc, 0⟩, ⟨16, 8, .rc, 0⟩, ⟨24, 3, .ro, 0⟩])
  else if c < 0x110000 then
    (if c % 0x80 < 0x40 then [⟨0, 20, .ro, 0⟩, ⟨32, 20, .ro, 0⟩]
     else if c % 0x80 = 0x40 then [⟨0, 1, .wo, 0⟩, ⟨1, 1, .wo, 0⟩]
     else [⟨0, 16, .rc, 0⟩, ⟨16, 8, .rc, 0⟩, ⟨24, 8, .rc, 0⟩])
  else if c < 0x200000 then [⟨0, 64, .ro, 0⟩]
  else if c < 0x2400000 then
    (if c % 0x20 = 0 then [⟨0, 4, .ro, 0⟩, ⟨4, 4, .ro, 0⟩, ⟨8, 4, .ro, 0⟩, ⟨12, 2, .ro, 0⟩, ⟨14, 1, .ro, 0⟩, ⟨16, 12, .ro, 0⟩]
     else if c % 0x20 = 8 then [⟨0, 1, .rw, 0⟩, ⟨3, 16, .rw, 0⟩] else [⟨0, 64, .rw, 0⟩])
  else [⟨0, 1, .rw, 1⟩, ⟨1, 1, .rw, 0⟩, ⟨2, 1, .rw, 0⟩]

/-- A register's value at reset: its fields' reset values in place. -/
def resetOf (c : Nat) : Nat := (fieldsOf c).foldl (fun v f => v + f.rst * 2 ^ f.lo) 0

/-- A covered register's covered bits (R622, R630): low bit and width of each covered field. -/
def coveredOf (c : Nat) : List (Nat × Nat) :=
  if c = rRgnPwr then [(0, 16)]
  else if c = rCorrCtl then [(0, 1), (4, 10), (14, 1)]
  else if c = rCorrBase then [(0, 4), (12, 34)]
  else if c = rSafeCtl then [(0, 1), (1, 1), (4, 4)]
  else if c = rHostCtl then [(0, 1), (4, 8)]
  else if c = rMgmtqRing then [(0, 1), (1, 5), (12, 34)]
  else if c = rMgmtqDb then [(6, 40)]
  else if c = rMgmtqHead then [(3, 43)]
  else if c = rEvr0 then [(0, 5), (12, 34), (46, 8)]
  else if c = rQueueCtl then [(0, 16)]
  else if c = rSchedCtl then [(0, 16), (16, 12)]
  else if c = rRtCtl then [(0, 14)]
  else if c = rFaultCtl then [(0, 16)]
  else if c = rWdogCtl then [(0, 16), (16, 12), (28, 12), (40, 10)]
  else if c = rPmBase then [(24, 22)]
  else if c = rPwrLimit then [(11, 5), (16, 11)]
  else if c = rPwrGroup then [(0, 1), (4, 12)]
  else if 0x20180 ≤ c ∧ c < 0x20200 then [(32, 8)]
  else if c = rXltInv then [(0, 16)]
  else if 0x50000 ≤ c ∧ c < 0x60000 ∧ c % 0x400 < 0x200 ∧ c % 0x20 = 0 then [(0, 2), (2, 4), (6, 1), (8, 9)]
  else if (c = 0x80000 ∨ c = 0x90000) then [(0, 32)]
  else if (c = 0x80008 ∨ c = 0x90008) then [(0, 28)]
  else if 0x2400000 ≤ c then [(0, 1), (1, 1), (2, 1)]
  else []

/-- The covered register slots in ascending BAR0 offset (R622). -/
def coveredRegs : List Nat :=
  [rRgnPwr, rCorrCtl, rCorrBase, rSafeCtl, rHostCtl, rMgmtqRing, rMgmtqDb, rMgmtqHead, rEvr0, rQueueCtl, rSchedCtl, rRtCtl,
   rFaultCtl, rWdogCtl, rPmBase, rPwrLimit, rPwrGroup] ++ (List.range 16).map rPwrDroop ++ [rXltInv] ++
  (List.range 128).map rChCtl ++ [rQosWt 0, rUrgCtl 0, rQosWt 1, rUrgCtl 1] ++ (List.range 16).map rRgnCtl

/-! ## Stored values -/

/-- The stored value of a register: what was last stored, or its reset value. -/
def State.reg (s : State) (c : Nat) : Nat := (tgetD (BitVec.ofNat 64 (resetOf c)) c s.regs).toNat

/-- Stores a register's value. -/
def State.setReg (s : State) (c v : Nat) : State :=
  { s with regs := tputD (BitVec.ofNat 64 (resetOf c)) c (BitVec.ofNat 64 v) s.regs }

/-- A field's stored value. -/
def State.fld (s : State) (c lo wd : Nat) : Nat := bits (s.reg c) lo wd

/-- Stores a field. -/
def State.setFld (s : State) (c lo wd v : Nat) : State := s.setReg c (setBits (s.reg c) lo wd v)

/-- A covered field is written: a sweep under way is void (R623). -/
def State.voidSweep (s : State) : State := if s.cfg.sweeping then { s with cfg := { s.cfg with void := true } } else s

/-- A write of a covered field by software or by a command. -/
def State.writeFld (s : State) (c lo wd v : Nat) : State := (s.setFld c lo wd v).voidSweep

/-- Adds to a counting field, which stops at its largest value. -/
def State.bumpFld (s : State) (c lo wd k : Nat) : State := s.setFld c lo wd (satAdd (2 ^ wd - 1) (s.fld c lo wd) k)

/-! ## Effective values of settings -/

/-- HOLD_US (R609). -/
def State.holdUs (s : State) : Nat := s.fld rFaultCtl 0 16
/-- Effective RT_CAP (R529). -/
def State.rtCap (s : State) : Nat := min 9000 (s.fld rRtCtl 0 14)
/-- Effective QUANTUM in core cycles (R529). -/
def State.quantum (s : State) : Nat := 256 * max 1 (s.fld rSchedCtl 0 16)
/-- Effective WAIT_SW in core cycles (R529). -/
def State.waitSw (s : State) : Nat := 16 * max 1 (s.fld rSchedCtl 16 12)
/-- Effective sustained limit (R559). -/
def State.limitW (s : State) : Nat := max 700 (min 1500 (s.fld rPwrLimit 0 11))
/-- Effective WINDOW_S (R559). -/
def State.windowS (s : State) : Nat := max 1 (min 30 (s.fld rPwrLimit 11 5))
/-- Effective FAST_W (R559). -/
def State.fastW (s : State) : Nat := max s.limitW (min 1850 (s.fld rPwrLimit 16 11))
/-- Effective MAXBUF of a channel (R404). -/
def State.maxBuf (s : State) (ch : Nat) : Nat := max 1 (min 256 (s.fld (rChCtl ch) 8 9))
/-- Effective correlation period in units of 100 us (R42). -/
def State.corrPeriod (s : State) : Nat := max 1 (min 1000 (s.fld rCorrCtl 4 10))
/-- Effective FLOOR_N (R152). -/
def State.floorN (s : State) : Nat :=
  let n := s.fld rSafeCtl 4 4; if n = 0 then 0 else if n < 6 then 6 else if 12 < n then 12 else n
/-- Effective CTO_MS (R465). -/
def State.ctoMs (s : State) : Nat := max 1 (s.fld rHostCtl 4 8)
/-- Effective REQ_MS (R609). -/
def State.reqMs (s : State) : Nat := max 61 (s.fld rWdogCtl 40 10)
/-- Effective CORE_US (R609). -/
def State.coreUs (s : State) : Nat := max 100 (s.fld rWdogCtl 28 12)
/-- Effective INV_SLOW threshold in hub cycles (R380). -/
def State.invWarn (s : State) : Nat := 100000 * max 1 (s.fld rXltInv 0 16)
/-- Urgency thresholds of a master (R290, R292): levels L1, L2 and the hysteresis. -/
def State.urgThr (s : State) (master : Nat) : Nat × Nat × Nat :=
  let die := if master < 2 then master else if master < 14 then (master - 2) / 6 else (master - 14) / 8
  let sh := if master < 2 then 0 else if master < 14 then 8 else 16
  let l1 := s.fld (rUrgCtl die) sh 4
  let l2 := s.fld (rUrgCtl die) (sh + 4) 4
  (l1, min 15 (if l2 ≤ l1 then l1 + 1 else l2), s.fld (rUrgCtl die) 24 4)
/-- LOG of the management queue (R503). -/
def State.mgmtLog (s : State) : Nat := let l := s.fld rMgmtqRing 1 5; if 6 ≤ l ∧ l ≤ 16 then l else 6
/-- LOG of event ring 0 (R503). -/
def State.evr0Log (s : State) : Nat := let l := s.fld rEvr0 0 5; if 4 ≤ l ∧ l ≤ 16 then l else 8
/-- Is a peer index assigned (R431)? -/
def State.peerValid (s : State) (i : Nat) : Bool := bit (s.reg (rPeer i)) 31
/-- LINKS of a peer index (R431). -/
def State.peerLinks (s : State) (i : Nat) : Nat := s.fld (rPeer i) 16 12

/-! ## Read-only fields that mirror live state -/

/-- Code of a slice state (R407). -/
def sliceCode : SliceSt → Nat
  | .free => 0 | .owned => 1 | .transit => 2 | .quarantined => 3

/-- Is a memory slice in a protection set (R413 PROT)? -/
def State.inSet (s : State) (m : Nat) : Bool := s.prots.any (fun p => p.members.contains (0, m))

/-- Is a request under an epoch for a memory slice's position: that it serves, or, for an old epoch, that it handed over (R415, R425)? -/
def State.atSlice (s : State) (n folio epoch pa : Nat) : Bool :=
  let e := s.memSlice n
  decide (pa < 2 ^ 39) && (some (pa / 2 ^ 33) == e.serve ||
    (some (pa / 2 ^ 33) == e.moved && folio == e.owner && decide (1 ≤ (e.epochOut + 65536 - epoch % 65536) % 65536 ∧
      (e.epochOut + 65536 - epoch % 65536) % 65536 < 2 ^ 15)))

/-- Requests of a folio that count for a slice's drain counter (R419): for a core slice those its cluster issued, for a
memory slice those to its position, for a link slice those with a packet on it that is not answered. -/
def State.reqsAt (s : State) (kind n : Nat) : List Nat :=
  (s.reqs.filter (fun r =>
    if kind = 0 then decide (r.2.slice = some n)
    else if kind = 1 then s.atSlice n r.2.folio r.2.epoch r.2.pa
    else r.2.status.isNone && r.2.parts.any (fun p => p.link == n))).map Prod.fst

/-- The drain counter of a slice (R419): a multicast counts for every core slice inside its rectangle (R281). -/
def State.drain (s : State) (kind n : Nat) : Nat :=
  (s.reqsAt kind n).length +
  (if kind = 0 then
     (s.allSlots.filter (fun x => s.sliceOf x.1 == n && s.ctxFolio x.2.2.ctx == (s.coreSlice n).owner)).length +
     (s.cache n).lines.length + (s.cache n).wb.length +
     (s.sifts.filter (fun x => s.sliceOf x.2.core == n)).length +
     (s.offers.filter (fun o => match o.2.issuer with | .fwait c _ => s.sliceOf c == n | _ => false)).length +
     (s.bars.filter (fun b => s.sliceOf b.2.core == n)).length + (s.updates.filter (fun u => s.sliceOf u.2.core == n)).length +
     (s.reqs.filter (fun r => r.2.rect.any (fun z => s.inRect z n))).length +
     (s.cores.flatMap (fun c => c.2.tdma.filter (fun q => s.sliceOf c.1 == n || q.rect.any (fun z => s.inRect z n)))).length
   else if kind = 1 then
     (s.home n).dir.length + (s.sifts.filter (fun x => x.2.unit == n)).length +
     (s.offers.filter (fun o => s.atSlice n o.2.folio o.2.epoch o.2.pa)).length
   else (256 - (s.stitch n).reqPool) + (256 - (s.stitch n).cplPool))

/-- HUB_SLICE_CORE, HUB_SLICE_MEM and HUB_SLICE_LINK (R413). -/
def State.sliceReg (s : State) (kind n : Nat) : Nat :=
  let e := s.sliceE kind n
  let left := decide (e.st = .transit ∨ e.st = .quarantined)
  sliceCode e.st + (if e.st = .free then 0 else e.owner) * 2 ^ 2 + (if e.st = .transit then e.dest else 0x3F) * 2 ^ 8 +
  b2n e.scrub * 2 ^ 14 + b2n (kind == 1 && s.inSet n) * 2 ^ 15 +
  (if left then min (s.drain kind n) 0xFFFFFF else 0) * 2 ^ 16 +
  (if kind = 1 then e.serve.getD 0x7F else 0x7F) * 2 ^ 40 + (if left then e.epochOut else 0) * 2 ^ 48

/-- Code of SEC_STAT.BOOT (R588). -/
def bootCode : Boot → Nat
  | .rom => 0 | .verifying => 1 | .running => 2 | .recovery => 3 | .flashing => 4

/-- Frames of a folio's memory slices that a rotation has not flipped (R582, R588). -/
def State.framesLeft (s : State) (f : Nat) : Nat :=
  ((s.folioMems f).map (fun m => match (s.memSlice m).rotAt with | some p => 248 - p / 2 ^ 25 | none => 0)).sum

/-- Requests in flight under a folio's old keys (R583). -/
def State.oldInflight (s : State) (f : Nat) : Nat := (s.reqs.filter (fun r => r.2.oldKey && r.2.folio == f)).length

/-- Code of a channel state (R397). -/
def chCode : ChSt → Nat
  | .idle => 0 | .wait => 1 | .run => 2 | .stopBad => 3 | .stopFault => 4 | .drain => 5

/-- The size of a table entry's page. -/
def TlbEntry.size (e : TlbEntry) : Nat := if e.big then 2 ^ 31 else 2 ^ 25

/-- Does an entry map an address of a context? -/
def TlbEntry.hits (e : TlbEntry) (ctx va : Nat) : Bool := e.ctx == ctx && e.vpage == va / e.size

/-- Does a die's leaf cache map an address (R361)? -/
def State.leafHit (s : State) (die ctx va : Nat) : Bool := (s.walker die).leaves.any (fun e => e.hits ctx va)

/-- Two misses that one walk serves: of one page of one context, at one walker (R361). -/
def sameWalk (a b : Walk) : Bool := a.die == b.die && a.ctx == b.ctx && a.va / 2 ^ 25 == b.va / 2 ^ 25

/-- Walks in progress at a die: misses to one page are one walk, and one that the leaf cache answers is none (R361). -/
def State.walksAt (s : State) (die : Nat) : Nat :=
  (s.walks.filter (fun w => w.2.die == die && !s.leafHit die w.2.ctx w.2.va &&
    s.walks.all (fun v => !(decide (v.1 < w.1) && sameWalk v.2 w.2)))).length

/-- Needs a miss at a die's walker no walk of its own? -/
def State.walkShared (s : State) (die ctx va : Nat) : Bool :=
  s.leafHit die ctx va || s.walks.any (fun w => w.2.die == die && w.2.ctx == ctx && w.2.va / 2 ^ 25 == va / 2 ^ 25)

/-- Can a die's walker take a miss: it needs no walk of its own, or one of the 16 is free (R361)? -/
def State.walkRoom (s : State) (die ctx va : Nat) : Bool := s.walkShared die ctx va || decide (s.walksAt die < 16)

/-- WALKS counts the walk that a miss starts (R380). -/
def State.noteWalk (s : State) (die ctx va : Nat) : State := if s.walkShared die ctx va then s else s.bumpFld (rXltWalk die) 0 16 1

/-- Buffers a channel holds (R392): one per burst, two for a compare. -/
def State.held (s : State) (ch : Nat) : Nat :=
  let c := s.chan ch; (c.bursts.filter (fun b => !b.2.away)).length * (if fieldLe c.desc 0 1 = 2 then 2 else 1)

/-- Free buffers of an engine (R393). -/
def State.freeBufs (s : State) (e : Nat) : Nat :=
  256 - ((List.range 16).map (fun k => s.held (16 * e + k))).sum

/-- Regions marked for power-off and still powered; regions powered off (R621). -/
def State.pendMask (s : State) : Nat :=
  maskOf ((List.range 16).filter (fun i => bit (s.fld rRgnPwr 0 16) i && (s.region i).powered))

/-- Is a region powered off under HUB_RGN_PWR (R621 DOWN)? -/
def State.down (s : State) (i : Nat) : Bool :=
  s.clasp.rails && !(s.region i).powered && !(s.fabric (i / 8)).failed

def State.downMask (s : State) : Nat := maskOf ((List.range 16).filter s.down)

/-- Doorbell lines watched, the management queue's included (R503 WATCHED). -/
def State.watchedQueues (s : State) : Nat :=
  (s.queues.filter (fun q => q.2.watched && q.1 != 0)).length + 1

/-- Lines of the doorbell watch unit in use (R475, R229). -/
def State.watchLines (s : State) : Nat := s.watchedQueues + s.hubWatch.length

/-- CMP_CORE_STAT (R627). -/
def State.coreStat (s : State) (c : Nat) : Nat :=
  let k := s.core c
  let run : List (Nat × Slot) := (match k.running with | some r => (k.slots.filter (fun x => x.1 == r)) | none => [])
  maskOf (k.slots.map Prod.fst) + maskOf (k.slots.flatMap (fun x => x.2.spWays)) * 2 ^ 4 +
  maskOf (k.slots.flatMap (fun x => x.2.accWays)) * 2 ^ 8 +
  (match run with | [] => 0 | x :: _ => x.1 * 2 ^ 12 + 2 ^ 14 + x.2.ctx * 2 ^ 16)

/-- The bits of a register that mirror live state: a mask of those bits and their value. Every other bit is the stored
one. -/
def State.live (s : State) (c : Nat) : Option (Nat × Nat) :=
  if c = rHubRev then some (0xFFFF0000, s.fuses.eco * 2 ^ 16 + s.fuses.step * 2 ^ 24)
  else if c = rCfgCtl then some (0x10, b2n (s.cfg.capArmed || s.cfg.capSweep) * 2 ^ 4)
  else if c = rRgnPwr then some (0xFFFFFFFF0000, s.pendMask * 2 ^ 16 + s.downMask * 2 ^ 32)
  else if c = rCorrSeq then some (2 ^ 64 - 1, s.corrSeq - 1)
  else if c = rHostStat then
    some (0x3FF, s.link.width + s.link.speed * 2 ^ 5 + b2n (s.link.up && s.link.cxl) * 2 ^ 8 + b2n s.link.hdmBase.isSome * 2 ^ 9)
  else if c = rQueueCtl then some (0x3FF0000, s.watchedQueues * 2 ^ 16)
  else if c = rSchedCtl then some (0x10000000, b2n s.cyclic.mode * 2 ^ 28)
  else if c = rCyclicStat then
    some (0xFF0000FFFFFFFF, s.cyclic.major % 2 ^ 32 + (s.cyclic.table.length - 1) * 2 ^ 48)
  else if 0x1000 ≤ c ∧ c < 0x1400 then some (2 ^ 64 - 1, s.sliceReg 0 ((c - 0x1000) / 8))
  else if 0x1400 ≤ c ∧ c < 0x1600 then some (2 ^ 64 - 1, s.sliceReg 1 ((c - 0x1400) / 8))
  else if 0x1600 ≤ c ∧ c < 0x1660 then some (2 ^ 64 - 1, s.sliceReg 2 ((c - 0x1600) / 8))
  else if c = rSecStat then
    some (0xFFFFFFFF, bootCode s.clasp.boot + b2n s.clasp.forced * 2 ^ 3 + s.clasp.lc * 2 ^ 4 + s.clasp.fail * 2 ^ 8 +
      s.clasp.svn * 2 ^ 16 + s.clasp.fuseSvn * 2 ^ 24)
  else if 0x10100 ≤ c ∧ c < 0x10300 then
    (let f := (c - 0x10100) / 8
     let x := s.folio f
     some (2 ^ 64 - 1, b2n (x.valid && x.conf) + b2n x.rotQueue.isSome * 2 + x.keyEpoch * 4 + b2n x.prevKeys * 2 ^ 10 +
       min s.framesLeft f 0x3FFF * 2 ^ 16 + min (s.oldInflight f) 0xFFFF * 2 ^ 32))
  else if c = rPwrStat then
    some (0x3FFFFFFFFFF, min 0xFFFF (s.power.avgMw / 1000) + min 0xFFFF (s.power.last.sum / 10) * 2 ^ 16 +
      min 0x3FF (s.power.busMv / 100) * 2 ^ 32)
  else if c = rPwrGroup then
    some (0x1FFFFF0000, s.power.totalW * 2 ^ 16 + min 15 s.power.members * 2 ^ 32 + b2n s.power.leader * 2 ^ 36)
  else if 0x20100 ≤ c ∧ c < 0x20180 then
    (let r := s.region ((c - 0x20100) / 8)
     some (2 ^ 60 - 1, r.setMhz + r.ratedMhz * 2 ^ 12 + r.floorMhz * 2 ^ 24 + min 0x3FF r.voltMv * 2 ^ 36 + r.marginMv * 2 ^ 46 +
       r.shiftMv * 2 ^ 52 + b2n r.powered * 2 ^ 59))
  else if c = 0x40000 ∨ c = 0x40100 then
    some (0x1F0000, s.walksAt ((c - 0x40000) / 0x100) * 2 ^ 16)
  else if 0x50000 ≤ c ∧ c < 0x60000 then
    (if c % 0x400 = 0x200 then some (0x1FF, s.freeBufs ((c - 0x50000) / 0x400))
     else
       let ch := (c - 0x50000) / 0x400 * 16 + (c % 0x400) / 0x20
       if c % 0x20 = 8 then some (0x1FF0007, chCode (s.chan ch).st + s.held ch * 2 ^ 16)
       else if c % 0x20 = 16 then some (2 ^ 64 - 1, (s.chan ch).list + 128 * (s.chan ch).index)
       else none)
  else if 0x60000 ≤ c ∧ c < 0x70000 ∧ c % 0x40 = 0 then
    (let u := s.unit ((c - 0x60000) / 0x40)
     some (0x3F, b2n u.running.isSome + u.queue.length * 2))
  else if 0x70000 ≤ c ∧ c < 0x80000 then
    (let l := s.stitch ((c - 0x70000) / 8)
     some (0x3F, (if l.up then 1 else if l.idle then 2 else 0) + l.lanes * 4))
  else if c = 0x80010 ∨ c = 0x90010 then
    some (0x7000000, maskOf ((List.range 3).filter (fun i => (tgetD {} i s.spine).up)) * 2 ^ 24)
  else if 0x110000 ≤ c ∧ c < 0x200000 then
    some (2 ^ 64 - 1, (tgetD 0 ((c - 0x110000) / 8) s.frames).toNat)
  else if 0x2000000 ≤ c ∧ c < 0x2400000 ∧ c % 0x20 = 0 then some (2 ^ 64 - 1, s.coreStat (pageCore c))
  else none

/-- What a read of the whole slot returns: RO mirrors over stored bits; WO and RSVD bits read 0 (R17, R18). -/
def State.readReg (s : State) (c : Nat) : Nat :=
  let stored := (fieldsOf c).foldl (fun v f => if f.acc = .wo then v else v + s.fld c f.lo f.wd * 2 ^ f.lo) 0
  match s.live c with
  | some (m, v) => (stored - (stored &&& m)) + (v &&& m)
  | none => stored

/-- One field's new stored value under a write of `v` (R17); `oldv` is the stored value. WO fields act where they are
defined. -/
def writeField (f : Fld) (oldv v : Nat) : Nat :=
  match f.acc with
  | .rw => v
  | .rws => v
  | .rwf => v
  | .w1c => oldv &&& (2 ^ f.wd - 1 - v)
  | .w1s => oldv ||| v
  | _ => oldv

/-- The stored value after a write of the bits selected by `mask` (R17). -/
def State.writeStored (s : State) (c v mask : Nat) : Nat :=
  (fieldsOf c).foldl (fun acc f =>
    if bits mask f.lo f.wd = 2 ^ f.wd - 1 then setBits acc f.lo f.wd (writeField f (bits acc f.lo f.wd) (bits v f.lo f.wd))
    else acc) (s.reg c)

/-- The RC fields wholly inside `mask` clear when they are read (R17, R611). -/
def State.clearRc (s : State) (c mask : Nat) : State :=
  s.setReg c ((fieldsOf c).foldl (fun acc f =>
    if f.acc = .rc ∧ bits mask f.lo f.wd = 2 ^ f.wd - 1 then setBits acc f.lo f.wd 0 else acc) (s.reg c))

/-- Does a register hold a field that crosses bit 32 (R612)? -/
def crosses32 (c : Nat) : Bool := (fieldsOf c).any (fun f => decide (f.lo < 32 ∧ 32 < f.lo + f.wd))

/-- Is an island dark (R617)? -/
def State.dark (s : State) (i : Nat) : Bool :=
  if i < 16 then s.down i || (s.fabric (i / 8)).failed || s.standby.isSome
  else if i < 18 then (s.fabric (i - 16)).failed || s.standby.isSome
  else false

end Sys2Proof.Machine
end

