-- ==== Sys2Proof/Machine/Topology.lean ====
section
/-! DEFINITION. Sys2Proof/Machine/Topology.lean: where the routers of a die stand, what is attached to them, and the path of a packet (08 R264-R271, R279, R312). -/

namespace Sys2Proof.Machine

/-- The number of a class; with its twin it gives the channel (R273): REQ 0, SNP 1, RSP 2, DATA 3, WB 4, MC 5, SYNC 6. -/
def Cls.no : Cls → Nat
  | .req => 0 | .snp => 1 | .rsp => 2 | .data => 3 | .wb => 4 | .mc => 5 | .sync => 6

/-! ## Edge routers and what they serve (R265) -/

/-- The mesh routers that an edge router attaches to, first to last. Its number is its place on the ring: H0-H3 0-3, I0-I2 4-6, H7-H4 7-10,
O2-O0 11-13. -/
def attachments (e : Nat) : List (Nat × Nat) :=
  if e < 4 then [0, 1, 2].map (fun j => (3 * e + j, 0))
  else if e < 7 then [(11, 2 * (e - 4)), (11, 2 * (e - 4) + 1)]
  else if e < 11 then [0, 1, 2].map (fun j => (3 * (10 - e) + j, 5))
  else [(0, 2 * (13 - e)), (0, 2 * (13 - e) + 1)]

/-- The edge router of a memory slice's home, channels and sift unit. -/
def homeEdge (m : Nat) : Node := .edge (m / 32) (if m % 32 / 4 < 4 then m % 32 / 4 else 14 - m % 32 / 4)

/-- The edge router of a stitch link. -/
def linkEdge (l : Nat) : Node := .edge (l / 6) (13 - l % 6 / 2)

/-- The edge router of a copy engine (R381). -/
def engineEdge (n : Nat) : Node := .edge (n / 4) (13 - min 2 (n % 4))

/-- The edge router of a die's hub port and page walker: O1. -/
def hubEdge (die : Nat) : Node := .edge die 12

/-- The edge router of a spine lane. -/
def laneEdge (die lane : Nat) : Node := .edge die (4 + lane)

/-- The router of a core slice's cluster (R264). -/
def State.sliceNode (s : State) (n : Nat) : Node :=
  match s.coresOf n with
  | c :: _ => (let p := clusterXY (coreIsland c) (coreCluster c); .mesh (coreDie c) p.1 p.2)
  | [] => .mesh 0 0 0

/-- The die of a router. -/
def Node.die : Node → Nat
  | .mesh d _ _ => d
  | .edge d _ => d

/-- The row that chooses the spine lane of a packet (R270): that of the cluster, or of the edge router's first attachment. -/
def Node.row : Node → Nat
  | .mesh _ _ y => y
  | .edge _ e => match attachments e with | a :: _ => a.2 | [] => 0

/-! ## Paths over the mesh (R270, R271) -/

/-- One step from `a` toward `b`. -/
def toward (a b : Nat) : Nat := if a < b then a + 1 else if b < a then a - 1 else a

/-- The row that a detour steps to: one toward the die's middle. -/
def sideRow (y : Nat) : Nat := if y ≤ 2 then y + 1 else y - 1

/-- The column that a detour in Y steps to: one toward the die's middle. The spec describes no bad router between a packet's turn and its
destination; the packet passes it as R271 passes one in X (DESIGN CHOICE, log 118). -/
def sideCol (x : Nat) : Nat := if x ≤ 5 then x + 1 else x - 1

/-- The routers from (x, y) to (dx, dy): X first, then Y; a bad router in the way is passed on the detour twin, one row or column aside.
`fuel` bounds the path. -/
def meshPath (bad : List (Nat × Nat)) (dx dy : Nat) : (fuel x y : Nat) → List (Nat × Nat × Bool)
  | 0, _, _ => []
  | fuel + 1, x, y =>
    if x ≠ dx then
      let x1 := toward x dx
      if !bad.contains (x1, y) then (x1, y, false) :: meshPath bad dx dy fuel x1 y
      else
        let y1 := sideRow y
        if x1 = dx then (x, y1, true) :: (x1, y1, true) :: meshPath bad dx dy fuel x1 y1
        else
          let x2 := toward x1 dx
          (x, y1, true) :: (x1, y1, true) :: (x2, y1, true) :: (x2, y, true) :: meshPath bad dx dy fuel x2 y
    else if y ≠ dy then
      let y1 := toward y dy
      if !bad.contains (x, y1) ∨ y1 = dy then (x, y1, false) :: meshPath bad dx dy fuel x y1
      else
        let x1 := sideCol x
        let y2 := toward y1 dy
        (x1, y, true) :: (x1, y1, true) :: (x1, y2, true) :: (x, y2, true) :: meshPath bad dx dy fuel x y2
    else []

/-- The bad routers of a die (R268). -/
def State.badAt (s : State) (die : Nat) : List (Nat × Nat) := (s.fuses.badRouters[die]?).getD []

/-- The hops between two mesh routers of a die. -/
def State.meshHops (s : State) (die : Nat) (a b : Nat × Nat) : List Hop :=
  (meshPath (s.badAt die) b.1 b.2 64 a.1 a.2).map (fun p => { node := .mesh die p.1 p.2.1, twin := p.2.2 })

/-- Manhattan distance. -/
def manhattan (a b : Nat × Nat) : Nat := (a.1 - b.1) + (b.1 - a.1) + (a.2 - b.2) + (b.2 - a.2)

/-- The nearest of some routers, ties going to the lower x and then the lower y (R270). -/
def nearestOf (l : List (Nat × Nat)) (p : Nat × Nat) : Option (Nat × Nat) :=
  let better := fun (a b : Nat × Nat) => decide (manhattan a p < manhattan b p) ||
    (manhattan a p == manhattan b p && (decide (a.1 < b.1) || (a.1 == b.1 && decide (a.2 ≤ b.2))))
  l.find? (fun a => l.all (better a))

/-- The attachment that a packet between an edge router and a cluster uses: the nearest that is not bad (R268, R270). -/
def State.attachFor (s : State) (die e : Nat) (p : Nat × Nat) : Nat × Nat :=
  (nearestOf ((attachments e).filter (fun a => !(s.badAt die).contains a)) p).getD p

/-! ## The ring (R265, R270) -/

/-- The ring routers from `a` to `b` the shorter way, ties going clockwise. -/
def ringHops (die a b : Nat) : List Hop :=
  let cw := (b + 14 - a) % 14
  if cw ≤ 7 then (List.range cw).map (fun i => { node := .edge die ((a + i + 1) % 14) })
  else (List.range (14 - cw)).map (fun i => { node := .edge die ((a + 14 - (i + 1)) % 14) })

/-! ## The path of a packet (R270) -/

/-- The hops between two routers of one die. -/
def State.dieHops (s : State) : Node → Node → List Hop
  | .mesh d x y, .mesh _ x' y' => s.meshHops d (x, y) (x', y')
  | .mesh d x y, .edge _ e => (let a := s.attachFor d e (x, y); s.meshHops d (x, y) a ++ [{ node := .edge d e }])
  | .edge d e, .mesh _ x y => (let a := s.attachFor d e (x, y); { node := .mesh d a.1 a.2 } :: s.meshHops d a (x, y))
  | .edge d e, .edge _ e' => ringHops d e e'

/-- The spine lane that a packet to a router of the other die takes (R270). -/
def laneFor (dst : Node) : Nat := dst.row / 2

/-- Every hop of a packet from one router to another: over the spine by the lane of its destination's row when they stand on different dies. -/
def State.hopsTo (s : State) (src dst : Node) : List Hop :=
  if src.die = dst.die then s.dieHops src dst
  else
    let i := laneFor dst
    s.dieHops src (laneEdge src.die i) ++ { node := laneEdge dst.die i } :: s.dieHops (laneEdge dst.die i) dst

/-- The spine lane a packet crosses, if any. -/
def crosses (src dst : Node) : Option Nat := if src.die = dst.die then none else some (laneFor dst)

/-- Is the way between two routers open: it crosses no spine lane that is being re-initialised (R282)? -/
def State.wayOpen (s : State) (src dst : Node) : Bool :=
  match crosses src dst with | none => true | some i => (tgetD {} i s.spine).up

/-- Router hops from a router to a core slice's cluster, detours included: the fused table of R312. -/
def State.hopDist (s : State) (a : Node) (n : Nat) : Nat := (s.dieHops a (s.sliceNode n)).length

/-- The nearest of some core slices on a router's die, ties going to the lower number; never the router's own slice (R311, R312). -/
def State.nearestSlice (s : State) (a : Node) (own : Option Nat) (l : List Nat) : Option Nat :=
  let near := (List.range 128).filter (fun n => l.contains n && n / 64 == a.die && own != some n)
  near.find? (fun n => near.all (fun m => decide (s.hopDist a n ≤ s.hopDist a m)))

end Sys2Proof.Machine
end

