-- ==== Sys2Proof/Machine/Mem.lean ====
section
/-! DEFINITION. Sys2Proof/Machine/Mem.lean: device physical memory (11 R348-R350, R376-R379; 13 R412, R416, R440-R443; 09 R318-R325, R652): positions, frames, checks, raw and coherent access. -/

namespace Sys2Proof.Machine

/-- First device physical address of host memory (R348). -/
def hostBase : Nat := 0x200000000000

/-- Where a device physical address lies (R348). -/
inductive Place where
  | hbm | hole | peer (i off : Nat) | host (a : Nat)
  deriving DecidableEq, Repr

/-- The place of a 46-bit device physical address (R348). -/
def placeOf (pa : Nat) : Place :=
  if pa < 2 ^ 39 then .hbm
  else if 0x080000000000 ≤ pa ∧ pa < 0x0F8000000000 then .peer ((pa - 0x080000000000) / 2 ^ 39) (pa % 2 ^ 39)
  else if hostBase ≤ pa ∧ pa < 2 ^ 46 then .host (pa - hostBase)
  else .hole

/-- The line that holds an address. -/
def lineOf (pa : Nat) : Nat := pa / 64 * 64

/-- The memory slice that serves a position (R412). -/
def State.server (s : State) (p : Nat) : Option Nat := (List.range 64).find? (fun n => (s.memSlice n).serve == some p)

/-- The HBM channel of a local address: stack (8 die + region) and channel 0-15 of it (R22, R349). -/
def State.channelOf (s : State) (pa : Nat) : Option (Nat × Nat) :=
  (s.server (pa / 2 ^ 33)).map (fun m => (m / 4, 4 * (m % 4) + pa / 256 % 4))

/-- The home node of a line: of the slice that serves its position; 64 for host memory (R306). -/
def State.homeOf (s : State) (pa : Nat) : Option Nat :=
  match placeOf pa with
  | .hbm => s.server (pa / 2 ^ 33)
  | .host _ => some 64
  | _ => none

/-- A frame-table entry of memory slice `m`; an unlisted one is 0, its value at reset (R380). -/
def State.frame (s : State) (m i : Nat) : Nat := (tgetD 0 (256 * m + i) s.frames).toNat
def State.setFrame (s : State) (m i v : Nat) : State :=
  { s with frames := tputD 0 (256 * m + i) (BitVec.ofNat 64 v) s.frames }
/-- Writes all 256 entries of a slice. -/
def State.setFrames (s : State) (m : Nat) (f : Nat → Nat) : State :=
  (List.range 256).foldl (fun st i => st.setFrame m i (f i)) s

/-! ## Frame fields (R376) -/
def frOwner (e : Nat) : Nat := bits e 0 6
def frShared (e : Nat) : Bool := bit e 6
def frRoOth (e : Nat) : Bool := bit e 7
def frKeySlot (e : Nat) : Nat := bits e 8 7
def frCarve (e : Nat) : Bool := bit e 15
def frKeyEpoch (e : Nat) : Nat := bits e 16 8
def frBias (e : Nat) : Bool := bit e 24
def frNoown (e : Nat) : Bool := bit e 25

/-- Does context `c` belong to folio `f` (check 1 of R377; context 0 belongs to folio 0, R468)? -/
def State.ctxInFolio (s : State) (c f : Nat) : Bool :=
  match s.ctx? c with | some x => x.folio == f | none => c == 0 && f == 0

/-- Check 2 of R377, as R416 defines it, for the slice that serves the position. -/
def ownedUnder (e : SliceE) (f epoch : Nat) : Bool :=
  match e.st with
  | .owned => true
  | .free => false
  | _ => e.owner == f && decide (1 ≤ (e.epochOut + 65536 - epoch % 65536) % 65536) &&
         decide ((e.epochOut + 65536 - epoch % 65536) % 65536 < 2 ^ 15)

/-- Checks 2 to 4 of R377: ownership under the epoch, CARVE and NOOWN, owner or sharing. -/
def State.admitsFolio (s : State) (folio epoch pa : Nat) (write : Bool) : Bool :=
  match s.server (pa / 2 ^ 33) with
  | none => false
  | some m =>
    let e := s.frame m (pa / 2 ^ 25 % 256)
    ownedUnder (s.memSlice m) folio epoch && !frCarve e && !frNoown e &&
    (frOwner e == folio || (frShared e && (!write || !frRoOth e)))

/-- The home's checks of R377. -/
def State.admits (s : State) (ctx folio epoch pa : Nat) (write : Bool) : Bool :=
  s.ctxInFolio ctx folio && s.admitsFolio folio epoch pa write

/-! ## Stitch packets (R432, R435) -/

/-- The header of R435. -/
def stitchHdr (ty qos epoch ctx folio len addr tag status : Nat) : Bytes :=
  le 1 ty ++ le 1 qos ++ le 2 epoch ++ le 2 ctx ++ le 1 folio ++ le 1 len ++ le 5 addr ++ le 2 tag ++ le 1 status

/-- The link slice a request of folio `f` to window `i` leaves on; none: NOPEER (R432). -/
def State.peerLink (s : State) (f i off : Nat) : Option Nat :=
  if s.peerValid i then
    let ls := (List.range 12).filter (fun l => bit (s.peerLinks i) l && (s.folioLinks f).contains l)
    if ls = [] then none else ls[off / 256 % ls.length]?
  else none

/-- The position of a local address that a remote partner serves after its primary was lost (R441): the partner's package and
slice. -/
def State.remotePos (s : State) (pa : Nat) : Option (Nat × Nat) :=
  s.prots.findSome? (fun p => match p.members, p.pos with
    | [_, m], some k => if pa < 2 ^ 39 ∧ pa / 2 ^ 33 = k then some m else none
    | _, _ => none)

/-- Where a request to an address goes: its place, but a position served by a remote partner lies behind that peer's links
(log 24). -/
def State.route (s : State) (pa : Nat) : Place :=
  match s.remotePos pa with
  | some (pkg, q) =>
    (match (List.range 15).find? (fun i => s.peerValid i && s.fld (rPeer i) 0 16 == pkg) with
     | some i => .peer i (q * 2 ^ 33 + pa % 2 ^ 33)
     | none => .hole)
  | none => placeOf pa

/-- Is a peer lost (R438)? -/
def State.peerGone (s : State) (i : Nat) : Bool := (tget i s.peerLost).isSome

/-- A packet's type (R435). -/
def Packet.ty (p : Packet) : Nat := fieldLe p.hdr 0 1

/-- Does a packet take an entry of the peer's request pool (R436)? The others are completions and credit returns. -/
def Packet.request (p : Packet) : Bool := p.ty != 8 && p.ty != 9 && p.ty != 0x0A

/-- May a packet go out: its link is up, and a request has a credit; completions and credit returns never wait for one (R436)? -/
def Link.takes (l : Link) (p : Packet) : Bool := l.up && (!p.request || decide (0 < l.reqCredit))

/-- A link after a packet has gone out: it has taken an entry of the peer's pool; a credit return is used up on arrival (log 25). -/
def Link.book (l : Link) (p : Packet) : Link :=
  if p.request then { l with reqCredit := l.reqCredit - 1 } else if p.ty = 0x0A then l else { l with cplCredit := l.cplCredit - 1 }

/-- Sends a packet, or lets it wait behind those of its kind (R274, R436). -/
def State.send (s : State) (p : Packet) : State :=
  let l := s.stitch p.link
  if l.takes p && !l.waiting.any (fun w => w.request == p.request) then (s.setStitch p.link (l.book p)).emit (.packet p)
  else s.setStitch p.link { l with waiting := l.waiting ++ [p] }

/-- The packets that wait on a link go out as far as they may. -/
def State.sendWaiting (s : State) (link : Nat) : State :=
  let l := s.stitch link
  foldS l.waiting (s.setStitch link { l with waiting := [] }) State.send

/-- The ranges of at most 256 bytes into which the stitch links cut `n` bytes at offset `o` of a peer window (R432, R435): their offsets from
`o`, and lengths. -/
def cut256 (o n : Nat) : List (Nat × Nat) :=
  (List.range ((o + n + 255) / 256 - o / 256)).map (fun k =>
    let a := max o ((o / 256 + k) * 256)
    (a - o, min (o + n) ((o / 256 + k + 1) * 256) - a))

/-! ## Raw storage of a position -/

/-- The physical byte address of offset `o` in memory slice `m`. -/
def slicePa (m o : Nat) : Nat := m * 2 ^ 33 + o

/-- The protection set that holds a local memory slice (R439). -/
def State.setOf (s : State) (m : Nat) : Option ProtSet := s.prots.find? (fun p => p.members.contains (0, m))

/-- The data members of a coded set other than slice `m` (R442). -/
def codedOthers (p : ProtSet) (m : Nat) : List Nat := ((p.members.take 4).map Prod.snd).filter (fun x => x != m)

/-- The parity slice of a coded set. -/
def codedParity (p : ProtSet) : Nat := ((p.members[4]?).getD (0, 0)).2

/-- Is slice `m` a parity slice that serves a lost member's position, and which member is it (R443)? -/
def State.rebuilds (s : State) (m : Nat) : Option (ProtSet × Nat) :=
  match s.setOf m with
  | some p =>
    if p.members.length = 5 ∧ codedParity p = m then
      (match p.lost with | [d] => if d ≠ m then some (p, d) else none | _ => none)
    else none
  | none => none

/-- `n` bytes at offset `o` of the position that slice `m` serves; a parity slice reconstructs (R443). -/
def State.readSlice (s : State) (m o n : Nat) : Bytes :=
  match s.rebuilds m with
  | some (p, d) => (codedOthers p d).foldl (fun acc k => xorBytes acc (mread s.hbm (slicePa k o) n)) (mread s.hbm (slicePa m o) n)
  | none => mread s.hbm (slicePa m o) n

/-- The packets of a mirror write of `n` bytes to a remote partner (R440): slice `q` of package `pkg`. -/
def State.mirrorParts (s : State) (f pkg o n tag : Nat) : List Part :=
  match (List.range 15).find? (fun i => s.peerValid i && s.fld (rPeer i) 0 16 == pkg) with
  | none => []
  | some i => (cut256 o n).filterMap (fun c => (s.peerLink f i (o + c.1)).map (fun l => ⟨tag, c.1, l⟩))

/-- The mirror write goes out. ADDR names the partner slice, which serves no position, by its number (log 24); TAG is the request's, 0xFFFE
for a write of the hub. -/
def State.mirrorSend (s : State) (f pkg q o : Nat) (d : Bytes) (tag : Nat) : State :=
  foldS (s.mirrorParts f pkg o d.length tag) s (fun st p =>
    let n := min (d.length - p.off) (256 - (o + p.off) % 256)
    st.send ⟨p.link, stitchHdr 6 8 (st.folio f).epoch 0 f (cdiv n 64) (q * 2 ^ 33 + o + p.off) tag 0, slice d p.off n⟩)

/-- Writes bytes at offset `o` of slice `m`, with what its protection set does besides (R440 local partner, R442, R443). -/
def State.writeSlice (s : State) (m o : Nat) (d : Bytes) (tag : Nat := 0xFFFE) : State :=
  match s.rebuilds m with
  | some (p, lostM) =>
    let par := (codedOthers p lostM).foldl (fun acc k => xorBytes acc (mread s.hbm (slicePa k o) d.length)) d
    { s with hbm := mwrite s.hbm (slicePa m o) par }
  | none =>
    match s.setOf m with
    | some p =>
      if p.members.length = 5 ∧ p.lost = [] then
        let old := mread s.hbm (slicePa m o) d.length
        let q := codedParity p
        let par := xorBytes (mread s.hbm (slicePa q o) d.length) (xorBytes old d)
        { s with hbm := mwrite (mwrite s.hbm (slicePa m o) d) (slicePa q o) par }
      else if p.members.length = 2 ∧ p.lost = [] then
        match p.members with
        | [_, (0, q)] => { s with hbm := mwrite (mwrite s.hbm (slicePa m o) d) (slicePa q o) d }
        | [_, (pkg, q)] => ({ s with hbm := mwrite s.hbm (slicePa m o) d }).mirrorSend (s.memSlice m).owner pkg q o d tag
        | _ => { s with hbm := mwrite s.hbm (slicePa m o) d }
      else { s with hbm := mwrite s.hbm (slicePa m o) d }
    | none => { s with hbm := mwrite s.hbm (slicePa m o) d }

/-- Does a write of local memory wait for a remote partner (R440)? -/
def State.remoteMirror (s : State) (pa : Nat) : Bool :=
  match s.server (pa / 2 ^ 33) with
  | none => false
  | some m => (match s.setOf m with
    | some p => (match p.members, p.lost with | [_, (pkg, _)], [] => pkg != 0 | _, _ => false)
    | none => false)

/-- The lines that an access of `n` bytes touches. -/
def linesOf (pa n : Nat) : List Nat :=
  (List.range ((pa + n + 63) / 64 - pa / 64)).map (fun i => (pa / 64 + i) * 64)

/-- Slice-physical address of a local address under the present binding. -/
def State.physOf (s : State) (pa : Nat) : Nat :=
  match s.server (pa / 2 ^ 33) with | some m => slicePa m (pa % 2 ^ 33) | none => pa

/-- Does a local access touch a poisoned line (R652)? -/
def State.poisoned (s : State) (pa n : Nat) : Bool := (linesOf pa n).any (fun l => s.poison.contains (s.physOf l))

/-- The physical address at which offset `o` of slice `m` is reached: that of the position it serves. -/
def State.positionPa (s : State) (m o : Nat) : Nat := (match (s.memSlice m).serve with | some p => p | none => m) * 2 ^ 33 + o

/-- The key epoch of a unit at offset `o` of slice `m` (R583): that of its frame; in the frame being rotated, the new one below the pointer. -/
def State.unitEpoch (s : State) (m o : Nat) : Nat :=
  let e := s.frame m (o / 2 ^ 25)
  match (s.memSlice m).rotAt with
  | some p => if o < p then (s.folio (frKeySlot e - 1)).keyEpoch else frKeyEpoch e
  | none => frKeyEpoch e

/-- The keys of a key slot at a key epoch (R574, R582). -/
def State.keysOf (s : State) (slot epoch : Nat) : Keys :=
  let x := s.folio (slot - 1)
  if epoch = x.keyEpoch then x.keys else x.oldKeys

/-- Is a request decided for the old keys (R583): does it lie at or above the pointer of its slice, past the unit being rotated? -/
def State.oldKeyed (s : State) (q : Req) : Bool :=
  decide (q.pa < 2 ^ 39) && (match (s.server (q.pa / 2 ^ 33)).bind (fun m => (s.memSlice m).rotAt) with
    | some p => decide (p < 248 * 2 ^ 25 ∧ p + 256 ≤ q.pa % 2 ^ 33)
    | none => false)

/-- Does a request wait for the unit at the pointer (R583)? -/
def State.keyWait (s : State) (q : Req) : Bool :=
  !q.oldKey && decide (q.pa < 2 ^ 39) && (match (s.server (q.pa / 2 ^ 33)).bind (fun m => (s.memSlice m).rotAt) with
    | some p => decide (p < 248 * 2 ^ 25 ∧ q.pa % 2 ^ 33 < p + 256 ∧ p < q.pa % 2 ^ 33 + q.len)
    | none => false)

/-- The ciphertext of a 256-byte unit as HBM holds it (R577): the unit at offset `o` of slice `m`, at physical address `pa`. State holds what it
decrypts to (log 53). -/
def State.unitCipher (s : State) (k : Keys) (m pa o : Nat) : Bytes :=
  [0, 64, 128, 192].flatMap (fun i => xtsLine (le 32 k.k1) (le 32 k.k2) (pa + i) (mread s.hbm (slicePa m (o + i)) 64))

/-- The tag that a unit's contents have (R578). -/
def State.unitTag (s : State) (m pa o : Nat) : Nat :=
  let e := s.frame m (o / 2 ^ 25)
  let epoch := s.unitEpoch m o
  let k := s.keysOf (frKeySlot e) epoch
  tagOf (le 32 k.kt) pa epoch (frKeySlot e) (s.unitCipher k m pa o)

/-- How the stored tag of a unit differs from the one its contents have: 0 when they match. -/
def State.tagDiff (s : State) (m pa o : Nat) : Nat :=
  match tget (slicePa m o) s.tags with | some t => t.toNat ^^^ s.unitTag m pa o | none => 0

/-- Does the unit of a line fail its check (R580, R581)? Only frames of confidential folios have tags. -/
def State.tagFails (s : State) (line : Nat) : Bool :=
  match s.server (line / 2 ^ 33) with
  | none => false
  | some m => decide (frKeySlot (s.frame m (line / 2 ^ 25 % 256)) ≠ 0 ∧ s.tagDiff m (line / 256 * 256) (line % 2 ^ 33 / 256 * 256) ≠ 0)

/-- Does a local access touch a unit whose tag mismatches (R581)? -/
def State.badTag (s : State) (pa n : Nat) : Bool := (linesOf pa n).any s.tagFails

/-- Is the frame of a local address one of a confidential folio (R574)? -/
def State.confFrame (s : State) (pa : Nat) : Bool :=
  match s.server (pa / 2 ^ 33) with | some m => decide (frKeySlot (s.frame m (pa / 2 ^ 25 % 256)) ≠ 0) | none => false

/-- Whole lines, and whole 256-byte units in a confidential frame, that one write replaces lose their poison (R652). The tag follows what is written:
set afresh by a whole-unit write, updated by a partial one, which a failing unit refuses (R580, R581). -/
def State.heal (s : State) (pa n : Nat) : State :=
  let conf := s.confFrame pa
  let unit := decide (pa % 256 = 0 ∧ 256 ≤ n)
  let ls := (linesOf pa n).filter (fun l => decide (pa ≤ l ∧ l + 64 ≤ pa + n) && (!conf || unit))
  { s with
    poison := s.poison.filter (fun x => !(ls.any (fun l => s.physOf l == x)))
    tags := if conf then tdel (s.physOf pa / 256 * 256) s.tags else s.tags }

/-- Would this write need an old line it cannot read (a partial write of a poisoned line, or of a unit whose tag fails)? -/
def State.partialBad (s : State) (pa n : Nat) : Option Cpl :=
  let conf := s.confFrame pa
  let unit := decide (pa % 256 = 0 ∧ n % 256 = 0)
  let part := (linesOf pa n).filter (fun l => !(decide (pa ≤ l ∧ l + 64 ≤ pa + n) && (!conf || unit)))
  if part.any (fun l => s.poison.contains (s.physOf l)) then some .hbmErr
  else if conf && !unit && s.badTag pa n then some .integrity
  else none

/-- A non-snooping read of local memory at its home (R318, R320). -/
def State.rawRead (s : State) (pa n : Nat) : Cpl × Bytes :=
  match s.server (pa / 2 ^ 33) with
  | none => (.refused, [])
  | some m =>
    if s.poisoned pa n then (.hbmErr, [])
    else if s.badTag pa n then (.integrity, [])
    else (.ok, s.readSlice m (pa % 2 ^ 33) n)

/-- A non-snooping write of local memory at its home (R318, R324). A move in progress forwards the write to the slice that
receives the copy (R425 step 2). -/
def State.rawWrite (s : State) (pa : Nat) (d : Bytes) (tag : Nat := 0xFFFE) : Cpl × State :=
  match s.server (pa / 2 ^ 33) with
  | none => (.refused, s)
  | some m =>
    match s.partialBad pa d.length with
    | some e => (e, s)
    | none => (.ok, (s.writeSlice m (pa % 2 ^ 33) d tag).heal pa d.length)

/-! ## Host memory -/

/-- The host address that a host place reaches for a function, with ATS when it is on (R456); none: denied. -/
def State.hostAddr (s : State) (fn a : Nat) : Option Nat :=
  if bit (s.reg rHostCtl) 0 then
    match s.link.ats.find? (fun t => t.1 == fn && t.2.1 == a / 4096) with
    | some t => some (t.2.2 * 4096 + a % 4096)
    | none => (Config.atsPage s.link.atsGen fn (a / 4096)).map (fun p => p * 4096 + a % 4096)
  else some a

/-- A translation that a request uses is in the translation cache of 4,096 entries (R456); host memory itself is kept by its
untranslated address (log 33). -/
def State.atsFill (s : State) (fn pa : Nat) : State :=
  match placeOf pa with
  | .host a =>
    if bit (s.reg rHostCtl) 0 then
      (match s.hostAddr fn a with
       | some h =>
         let e := (fn, a / 4096, h / 4096)
         { s with link := { s.link with ats := (e :: s.link.ats.filter (fun t => t != e)).take 4096 } }
       | none => s)
    else s
  | _ => s

/-! ## Coherent view -/

/-- The cluster cache that holds a line in one of some states, if any. -/
def State.lineIn (s : State) (line : Nat) (sts : List LineSt) : Option (Nat × Bytes) :=
  s.caches.findSome? (fun c => match tget line c.2.lines with | some l => if sts.contains l.st then some (c.1, l.data) else none | none => none)

/-- The writeback buffer that holds a line whose data its home has neither taken nor called in. -/
def State.wbIn (s : State) (line : Nat) : Option (Nat × Bytes) :=
  s.caches.findSome? (fun c => match tget line c.2.wb with
    | some w => if w.dirty ∧ ¬ w.acked ∧ ¬ w.snooped then some (c.1, w.data) else none
    | none => none)

/-- The cluster cache that owns a line dirty (state M or O, or a dirty writeback not yet taken), if any. -/
def State.dirtyIn (s : State) (line : Nat) : Option (Nat × Bytes) :=
  match s.lineIn line [.m, .o] with | some x => some x | none => s.wbIn line

/-- The owner of a line (R304): a cache with it in M, O or E, or a dirty writeback not yet taken. -/
def State.ownerIn (s : State) (line : Nat) : Option (Nat × Bytes) :=
  match s.lineIn line [.m, .o, .e] with | some x => some x | none => s.wbIn line

/-- Does a request keep the data of a snoop's answer until it is granted and installed? -/
def Req.keeps (q : Req) : Bool := q.kind == .getShare || q.kind == .getOwn

/-- The data of a snoop's answer whose cache has given the line up with it. -/
def Cache.gave (c : Cache) (line : Nat) : Option Bytes :=
  match tget line c.answers with
  | some (.data d _) => if (tget line c.lines).isNone then some d else none
  | some (.buf d _) => some d
  | _ => none

/-- The data of a line that is under way between caches in the line's transaction (R309): in an answer, or in the grant of the request. -/
def State.moving (s : State) (line : Nat) : Option Bytes :=
  match s.homeOf line with
  | none => none
  | some h =>
    match tget line (s.home h).txns with
    | none => none
    | some t =>
      match t.snooped.findSome? (fun n => (s.cache n).gave line) with
      | some d => some d
      | none =>
        match t.req.bind s.req? with
        | some q => if q.keeps && q.rdata != [] && q.status.isNone then some q.rdata else none
        | none => none

/-- The data of a line that its owner has, or that is on its way to a new one. -/
def State.heldLine (s : State) (line : Nat) : Option Bytes :=
  match s.ownerIn line with | some x => some x.2 | none => s.moving line

/-- The copy that the nearest sharer on a die has of a line (R311): for a requester at router `a`. -/
def State.sharerData (s : State) (a : Node) (line : Nat) : Option Bytes :=
  match s.homeOf line with
  | none => none
  | some h => match tget line (s.home h).dir with
    | none => none
    | some e => (s.nearestSlice a none e.sharers).bind (fun n => (tget line (s.cache n).lines).map (fun l => l.data))

/-- Every byte of a line as a Glance finds it (R311, R339): from its owner; for a requester at a router of a die from the nearest sharer; from
memory or the host-line cache. -/
def State.curLineAt (s : State) (a : Option Node) (line : Nat) : Bytes :=
  match s.heldLine line with
  | some d => d
  | none =>
    match a.bind (fun n => s.sharerData n line) with
    | some d => d
    | none =>
      match placeOf line with
      | .hbm => (match s.server (line / 2 ^ 33) with | some m => s.readSlice m (line % 2 ^ 33) 64 | none => zeros 64)
      | .host a => (match tget line s.hostLines with | some l => l.data | none => mread s.host a 64)
      | _ => zeros 64

/-- A line as the hub's Glance finds it: the hub stands on no die (R21), so no sharer serves it. -/
def State.curLine (s : State) (line : Nat) : Bytes := s.curLineAt none line

/-- `n` coherent bytes at `pa` (a Glance of each line; R308, R361), for a requester at a router. -/
def State.curBytesAt (s : State) (a : Option Node) (pa n : Nat) : Bytes :=
  slice ((linesOf pa n).flatMap (s.curLineAt a)) (pa % 64) n

/-- `n` coherent bytes at `pa`, for the hub. -/
def State.curBytes (s : State) (pa n : Nat) : Bytes := s.curBytesAt none pa n

/-- Removes a line from every cluster cache, writeback buffer, directory and the host-line cache. -/
def State.dropLine (s : State) (line : Nat) : State :=
  let s1 := { s with caches := tmap (fun _ (c : Cache) => ({ c with lines := tdel line c.lines, wb := tdel line c.wb } : Cache)) s.caches,
                     hostLines := tdel line s.hostLines }
  match s1.homeOf line with
  | some h => s1.setHome h { s1.home h with dir := tdel line (s1.home h).dir, lru := sdel line (s1.home h).lru }
  | none => s1

/-- An answer with bytes of its line replaced. -/
def PrbAns.patch (o : Nat) (d : Bytes) : PrbAns → PrbAns
  | .data x b => .data (Machine.patch x o d) b
  | .buf x b => .buf (Machine.patch x o d) b
  | a => a

/-- Bytes written into every copy of a line: a write that is ordered before the transaction in progress on it. -/
def State.patchCopies (s : State) (line o : Nat) (d : Bytes) : State :=
  let put := fun (x : Bytes) => patch x o d
  { s with
    caches := tmap (fun _ (c : Cache) => ({ c with
      lines := match tget line c.lines with | some l => tput line { l with data := put l.data } c.lines | none => c.lines
      wb := match tget line c.wb with | some w => tput line { w with data := put w.data } c.wb | none => c.wb
      answers := match tget line c.answers with | some a => tput line (a.patch o d) c.answers | none => c.answers } : Cache)) s.caches
    hostLines := match tget line s.hostLines with | some l => tput line { l with data := put l.data } s.hostLines | none => s.hostLines
    reqs := tmap (fun _ (q : Req) => if q.keeps && lineOf q.pa == line && q.rdata != [] && q.status.isNone then { q with rdata := put q.rdata } else q) s.reqs }

/-- Has a line a transaction in progress at its home (R309)? -/
def State.lineBusyAt (s : State) (line : Nat) : Bool :=
  match s.homeOf line with | some h => (tget line (s.home h).txns).isSome | none => false

/-- A PutHome of bytes within one line: the owner's data merged, no cache holds the line afterwards (R321, R330). One of the hub that meets a
transaction in progress on the line stands before it in the line's order. -/
def State.putLine (s : State) (pa : Nat) (d : Bytes) (tag : Nat := 0xFFFE) : Cpl × State :=
  let line := lineOf pa
  let whole := patch (s.curLine line) (pa - line) d
  let clean := if s.lineBusyAt line then s.patchCopies line (pa - line) d else s.dropLine line
  match placeOf pa with
  | .hbm =>
    (match s.heldLine line with
     | some _ => clean.rawWrite line whole tag
     | none => clean.rawWrite pa d tag)
  | .host a => (.ok, { clean with host := mwrite clean.host (a - a % 64) whole })
  | _ => (.refused, s)

/-- A PutHome of several lines, one after another (R324: indivisible only line by line). -/
def State.putBytes (s : State) (pa : Nat) : (fuel : Nat) → Bytes → Cpl × State
  | 0, _ => (.ok, s)
  | fuel + 1, d =>
    if d = [] then (.ok, s)
    else
      let n := 64 - pa % 64
      match s.putLine pa (d.take n) with
      | (.ok, s1) => State.putBytes s1 (pa + n) fuel (d.drop n)
      | (e, s1) => (e, s1)

/-- A hub or device write into host memory at a device physical address, seen by every cached copy. -/
def State.hostWrite (s : State) (pa : Nat) (d : Bytes) : State := (s.putBytes pa (d.length + 1) d).2

/-! ## Recalls and the host-line cache (R305-R307) -/

/-- Frees a directory entry. -/
def State.dirDel (s : State) (h line : Nat) : State :=
  s.setHome h { s.home h with dir := tdel line (s.home h).dir, lru := sdel line (s.home h).lru }

/-- Dirty data taken back at the home: into memory, or into the host-line cache (R306). -/
def State.takeBack (s : State) (line : Nat) (d : Bytes) : State :=
  match placeOf line with
  | .hbm => (s.rawWrite line d).2
  | .host _ => { s with hostLines := tput line { st := .m, data := d } s.hostLines }
  | _ => s

/-- Removes every cluster copy of a line and its entry. -/
def State.dropCopies (s : State) (h line : Nat) : State :=
  ({ s with caches := tmap (fun _ (c : Cache) => { c with lines := tdel line c.lines, wb := tdel line c.wb }) s.caches }).dirDel h line

/-- A recall: dirty data goes back to memory, no copy remains (R305, R307). -/
def State.recallLine (s : State) (h line : Nat) : State :=
  let s1 := match s.dirtyIn line with | some (_, d) => s.takeBack line d | none => s
  s1.dropCopies h line

/-- A line that leaves the host-line cache is first recalled from the clusters; dirty data goes to the host (R306, R454). -/
def State.evictHostLine (s : State) (line : Nat) : State :=
  let s1 := s.recallLine 64 line
  match tget line s1.hostLines with
  | none => s1
  | some l =>
    let s2 := { s1 with hostLines := tdel line s1.hostLines }
    if l.st = .m ∨ l.st = .o then ({ s2 with host := mwrite s2.host (line - hostBase) l.data }).emit (.d2h 6 line) else s2.emit (.d2h 7 line)

/-- Set of a line in the host-line cache: 2 MiB in 16 ways (R306). -/
def hostSet (line : Nat) : Nat := line / 64 % 2048

/-- Lines that must stay in the host-line cache: the doorbell watch unit holds them (R229, R306), or a transaction uses them. -/
def State.pinned (s : State) (line : Nat) : Bool :=
  s.hubWatch.any (fun e => lineOf e.pa == line) || s.queues.any (fun x => x.2.watched && lineOf x.2.dbPa == line) ||
  (tget line s.hostHome.txns).isSome

/-- The host-line cache takes a line; a full set gives one up that is not pinned; which one is not stated (log 6). -/
def State.fillHostLine (s : State) (line : Nat) (st : LineSt) (d : Bytes) : State :=
  let same := (s.hostLines.filter (fun e => hostSet e.1 == hostSet line && e.1 != line)).map Prod.fst
  let free := same.filter (fun l => !s.pinned l)
  let from_ := if free = [] then same else free
  let s1 := if 16 ≤ same.length then (s.useFree).evictHostLine ((from_[s.freeNat % from_.length]?).getD line) else s
  { s1 with hostLines := tput line { st, data := d } s1.hostLines }

/-- The doorbell watch unit holds a host line (R306, R454): it is read into the host-line cache, in S, when it is not there. -/
def State.watchLine (s : State) (line : Nat) : State :=
  match placeOf line, tget line s.hostLines with
  | .host a, none => (s.emit (.d2h 0 line)).fillHostLine line .s (mread s.host a 64)
  | _, _ => s

end Sys2Proof.Machine
end

