-- ==== Sys2Proof/Machine/Hub.lean ====
section
/-! DEFINITION. Sys2Proof/Machine/Hub.lean: what the hub does on behalf of others: event records and rings (15 R490, 19 R589-R594), the sticky log, page-table walks (11 R352-R357), accesses to device memory for commands (11 R653), stitch packets (13 R432, R435). -/

namespace Sys2Proof.Machine

/-! ## Counts and time stamps (R36, R37) -/

/-- The cycle count of an island: 0-15 regions, 16-17 fabrics, 18 the hub. -/
def State.count (s : State) (isl : Nat) : Nat :=
  if isl < 16 then (s.region isl).count else if isl < 18 then (s.fabric (isl - 16)).count else s.hubCount

/-- Record types of R590 by their codes. -/
def tyCommandDone : Nat := 0x0011
def tyRefRelease : Nat := 0x0012
def tyQueueStop : Nat := 0x0013
def tyCopyDone : Nat := 0x0014
def tyCtxFault : Nat := 0x0020
def tyXltFault : Nat := 0x0021
def tyInvSlow : Nat := 0x0022
def tyUrgencyHeld : Nat := 0x0031
def tySieveTile : Nat := 0x0041
def tySieveCtx : Nat := 0x0042
def tyAssayMiss : Nat := 0x0043
def tyRebind : Nat := 0x0051
def tyRtMiss : Nat := 0x0061
def tyCyclicOverrun : Nat := 0x0062
def tyPowerEvent : Nat := 0x0071
def tyIntegFail : Nat := 0x0081
def tyHostTimeout : Nat := 0x0091
def tyHostRefused : Nat := 0x0092
def tyWatchdog : Nat := 0x00A1
def tyReset : Nat := 0x00A2
def tyHwError : Nat := 0x00A3

/-- A 64-byte record: the common header of R589, then the payload from 0x10. CTX 0xFFFF and FOLIO 0x3F mean none. -/
def State.record (s : State) (ty folio flags ctx isl : Nat) (payload : Bytes) : Bytes :=
  le 2 ty ++ le 1 folio ++ le 1 flags ++ le 2 ctx ++ le 1 isl ++ le 1 0 ++ le 8 (s.count isl) ++ fit 48 payload

/-- A record with its FLAGS replaced (R589: 1 OPCOPY, 2 REDUCED). -/
def withFlags (r : Bytes) (flags : Nat) : Bytes := patch r 3 (le 1 flags)

/-- A record with `n` bytes at `off` zeroed. -/
def blank (r : Bytes) (off n : Nat) : Bytes := patch r off (zeros n)

/-! ## Event rings (R489, R490, R503, R453) -/

/-- The message of an MSI-X vector, or its pending bit while it is masked (R453). -/
def State.msix (s : State) (fn v : Nat) : State :=
  if s.link.unmasked.contains (fn, v) then s.emit (.msix fn v)
  else if s.link.msixPend.contains (fn, v) then s
  else { s with link := { s.link with msixPend := s.link.msixPend ++ [(fn, v)] } }

/-- A ring as it stands: ring 0 takes its place, size and vector from HUB_EVR0 (R503). None: no such ring, or ring 0 with
BASE 0. -/
def State.ring? (s : State) (r : Nat) : Option EvRing :=
  if r = 0 then
    (let b := s.fld rEvr0 12 34 * 4096
     if b = 0 then none
     else some { (tgetD { folio := 0, vector := 0, log := 8, base := 0 } 0 s.evrings) with
       folio := 0, vector := s.fld rEvr0 46 8, log := s.evr0Log, base := b })
  else tget r s.evrings

/-- Stores a ring and its producer word (R490). -/
def State.putRing (s : State) (r : Nat) (e : EvRing) : State :=
  ({ s with evrings := tput r e s.evrings }).hostWrite (e.base + 64 * 2 ^ e.log) (le 4 e.produced ++ le 4 e.dropped)

/-- The hub puts a record into the ring's memory and raises the vector when the ring was empty. -/
def State.store (s : State) (r : Nat) (e : EvRing) (rec : Bytes) : State :=
  let empty := decide (e.produced = e.consumed)
  let s1 := (s.hostWrite (e.base + 64 * (e.produced % 2 ^ e.log)) rec).putRing r
    { e with produced := (e.produced + 1) % 2 ^ 32 }
  if empty then s1.msix e.folio e.vector else s1

/-- Is the ring full (R490)? -/
def EvRing.full (e : EvRing) : Bool := decide (2 ^ e.log ≤ (e.produced + 2 ^ 32 - e.consumed) % 2 ^ 32)

/-- A record for a ring: written, held while the ring is full, or dropped and counted (R490). -/
def State.ringPut (s : State) (r : Nat) (rec : Bytes) : State :=
  match s.ring? r with
  | none => s
  | some e =>
    if e.held = [] ∧ ¬ e.full then s.store r e rec
    else if e.held.length < 64 then { s with evrings := tput r { e with held := e.held ++ [rec] } s.evrings }
    else s.putRing r { e with dropped := (e.dropped + 1) % 2 ^ 32 }

/-- A record to a ring of folio `f` and its copy, marked OPCOPY, to the folio 0 ring (R589). A record whose own ring is
ring 0 is written once. -/
def State.ringBoth (s : State) (r : Nat) (rec : Bytes) (opcopy : Bytes) : State :=
  if r = 0 then s.ringPut 0 rec else (s.ringPut r rec).ringPut 0 (withFlags opcopy ((fieldLe opcopy 3 1) ||| 1))

/-- Is a folio confidential? -/
def State.isConf (s : State) (f : Nat) : Bool := (s.folio f).valid && (s.folio f).conf

/-- ALERT_N is asserted while an unread record or a power-cycle request is held; it is released once the queue is empty
and STATUS has been read (R642). -/
def State.alert (s : State) : State :=
  let busy := decide (s.clasp.unread ≠ []) || s.clasp.cycleReq
  if busy then { s with clasp := { s.clasp with alertN := false, statusRead := false } }
  else if s.clasp.statusRead then { s with clasp := { s.clasp with alertN := true } }
  else s

/-- Queues a record for EVENT_READ (R642). -/
def State.toTray (s : State) (rec : Bytes) : State :=
  ({ s with clasp := { s.clasp with unread := s.clasp.unread ++ [rec] } }).alert

/-- One entry of the sticky error log (R609). -/
def State.errLog (s : State) (ty code isl wher : Nat) : State :=
  let n := s.fld rErrStat 0 6
  let s1 := s.setReg (rErrLog n) (ty + (code % 256) * 2 ^ 16 + isl * 2 ^ 24 + (wher % 2 ^ 32) * 2 ^ 32)
  let s2 := s1.setReg (rErrLog n + 8) (s.count isl)
  (s2.setFld rErrStat 0 6 ((n + 1) % 64)).bumpFld rErrStat 16 16 1

/-- HW_ERROR (R594): record to the folio 0 ring and a log entry. -/
def State.hwError (s : State) (isl unit code wher addr : Nat) (folio ctx : Nat) : State :=
  let rb := s.record tyHwError folio 0 ctx isl (le 1 unit ++ le 1 code ++ le 2 0 ++ le 4 wher ++ le 8 addr)
  ((s.ringPut 0 rb).errLog tyHwError unit isl wher).toTray rb

/-- WATCHDOG (R595). -/
def State.watchdogRec (s : State) (kind target elapsed folio ctx : Nat) : State :=
  let rb := s.record tyWatchdog folio 0 ctx 18 (le 1 kind ++ le 3 0 ++ le 4 target ++ le 8 elapsed)
  ((s.ringPut 0 rb).errLog tyWatchdog kind 18 target).toTray rb

/-- RESET (R599). -/
def State.resetRec (s : State) (step reason target elapsed folio ctx : Nat) : State :=
  let rb := s.record tyReset folio 0 ctx 18 (le 1 step ++ le 1 reason ++ le 2 0 ++ le 4 target ++ le 8 elapsed)
  ((s.ringPut 0 rb).errLog tyReset step 18 target).toTray rb

/-- POWER_EVENT (R558); `isl` 0x1F names the package and is stamped by the hub. -/
def State.powerEvent (s : State) (kind isl before after lowest dur : Nat) : State :=
  let rb := s.record tyPowerEvent 0x3F 0 0xFFFF (if isl < 19 then isl else 18)
    (le 1 kind ++ le 1 isl ++ le 2 0 ++ le 4 before ++ le 4 after ++ le 4 lowest ++ le 8 dur)
  (s.ringPut 0 rb).toTray rb

/-- The tray is asked for a power cycle (R599 step 5). -/
def State.powerCycle (s : State) : State := ({ s with clasp := { s.clasp with cycleReq := true } }).alert

/-- The ring of a context's fault and safeguard records; context 0 uses ring 0 (R488). -/
def State.ctxRing (s : State) (c : Nat) : Nat := match s.ctx? c with | some x => x.evring | none => 0

/-! ## Page tables (R352-R357) -/

/-- Result of a walk: a leaf with the upper entries used, or a subcode of R368 and the level. -/
inductive WalkOut where
  | leaf (e : TlbEntry) (ups : List WalkCEntry) | fault (sub lvl : Nat)
  deriving DecidableEq, Repr

/-- Word 0 of the entry at `pa`, read by a die's walker with the identity of context 0 by a Glance (R352, R361); none: TABLEERR (R368). -/
def State.ptWord (s : State) (die pa : Nat) : Option Nat :=
  if pa < 2 ^ 39 ∧ s.admits 0 0 (s.folio 0).epoch pa false ∧
      ((s.heldLine (lineOf pa)).isSome ∨ (¬ s.poisoned pa 8 ∧ ¬ s.badTag pa 8)) then
    some (unle (s.curBytesAt (some (hubEdge die)) pa 8))
  else none

/-- Is a valid entry bad (R355)? -/
def badEntry (lvl w : Nat) : Bool :=
  let leaf := bit w 1
  let a := bits w 10 36 * 1024
  decide (bits w 6 4 ≠ 0) || decide (bits w 46 18 ≠ 0) ||
  (if lvl = 1 then leaf else if lvl = 3 then !leaf else false) ||
  (!leaf && decide (bits w 2 4 ≠ 0)) ||
  (!leaf && lvl == 1 && decide (a % 2 ^ 14 ≠ 0)) ||
  (leaf && decide (a % (if lvl = 3 then 2 ^ 25 else 2 ^ 31) ≠ 0)) ||
  decide (placeOf a = .hole) || (!leaf && decide (placeOf a ≠ .hbm))

/-- Permissions of a leaf (R354). -/
def permOf (w : Nat) : Perm := { r := bit w 2, w := bit w 3, x := bit w 4, nc := bit w 5 }

/-- Does a leaf permit an access: 0 read, 1 write, 2 fetch, 3 AMO or fence offer (R357)? -/
def permits (p : Perm) (acc : Nat) : Bool :=
  if acc = 0 then p.r else if acc = 1 then p.w else if acc = 2 then p.x else p.r && p.w

/-- The physical address an entry gives (R353). -/
def TlbEntry.pa (e : TlbEntry) (va : Nat) : Nat := e.ppage + va % e.size

/-- Step 3 of a walk: the level-3 entry. -/
def State.walk3 (s : State) (die ctx va next : Nat) (ups : List WalkCEntry) : WalkOut :=
  match s.ptWord die (next + 16 * bits va 25 6) with
  | none => .fault 5 3
  | some w =>
    if !bit w 0 then .fault 1 3
    else if badEntry 3 w then .fault 3 3
    else .leaf { ctx, vpage := va / 2 ^ 25, big := false, ppage := bits w 10 36 * 1024, perm := permOf w } ups

/-- Step 2: the level-2 entry. -/
def State.walk2 (s : State) (die ctx va next : Nat) (ups : List WalkCEntry) : WalkOut :=
  match s.ptWord die (next + 16 * bits va 31 10) with
  | none => .fault 5 2
  | some w =>
    if !bit w 0 then .fault 1 2
    else if badEntry 2 w then .fault 3 2
    else if bit w 1 then
      .leaf { ctx, vpage := va / 2 ^ 31, big := true, ppage := bits w 10 36 * 1024, perm := permOf w } ups
    else s.walk3 die ctx va (bits w 10 36 * 1024) (ups ++ [{ ctx, level := 2, index := va / 2 ^ 31, next := bits w 10 36 * 1024 }])

/-- The walk of R353 from the root. -/
def State.walk1 (s : State) (die ctx va root : Nat) : WalkOut :=
  match s.ptWord die (root + 16 * bits va 41 11) with
  | none => .fault 5 1
  | some w =>
    if !bit w 0 then .fault 1 1
    else if badEntry 1 w then .fault 3 1
    else s.walk2 die ctx va (bits w 10 36 * 1024) [{ ctx, level := 1, index := va / 2 ^ 41, next := bits w 10 36 * 1024 }]

/-- A walk at a die's walker: leaf cache, then walk cache, then the tables (R361). -/
def State.walkAt (s : State) (die ctx va : Nat) : WalkOut :=
  let w := s.walker die
  match w.leaves.find? (fun e => e.hits ctx va) with
  | some e => .leaf e []
  | none =>
    match w.upper.find? (fun u => u.ctx == ctx && u.level == 2 && u.index == va / 2 ^ 31) with
    | some u => s.walk3 die ctx va u.next []
    | none =>
      match w.upper.find? (fun u => u.ctx == ctx && u.level == 1 && u.index == va / 2 ^ 41) with
      | some u => s.walk2 die ctx va u.next []
      | none => (match s.ctx? ctx with | some c => s.walk1 die ctx va c.root | none => .fault 1 1)

/-- Enters a leaf in a least-recently-used-first-out list of `n` entries, most recent first (R359). -/
def tlbEnter (n : Nat) (l : List TlbEntry) (e : TlbEntry) : List TlbEntry := (e :: l.filter (fun x => x != e)).take n

/-- The walker's caches after a walk (R361: 1,024 leaves, 256 upper entries). -/
def State.fillWalker (s : State) (die : Nat) (e : TlbEntry) (ups : List WalkCEntry) : State :=
  let w := s.walker die
  s.setWalker die { leaves := tlbEnter 1024 w.leaves e, upper := (ups ++ w.upper.filter (fun u => !ups.contains u)).take 256 }

/-- A device virtual address translated. -/
inductive XOut where
  | pa (a : Nat) (nc : Bool) | fault (sub lvl : Nat) | hole
  deriving DecidableEq, Repr

/-- The die whose walker serves the hub (R653). -/
def State.hubDie (s : State) : Nat := if (s.fabric 0).failed then 1 else 0

/-- Is an address in the range of a running MIGRATE, whose new translations wait, but for a use that was in flight before (R373, R374)? -/
def State.migHolds (s : State) (no ctx va : Nat) : Bool :=
  s.queues.any (fun q => match q.2.mig with
    | some (cs, lo, n) => cs.contains ctx && decide (lo ≤ va ∧ va < lo + n) && !q.2.uses.contains no
    | none => false)

/-- The hub's translation for a command (R653, R468). -/
def State.hubXlate (s : State) (ctx va acc : Nat) : XOut × State :=
  if ctx = 0 then (if va < 2 ^ 46 ∧ placeOf va ≠ .hole then (.pa va false, s) else (.hole, s))
  else if 2 ^ 52 ≤ va then (.fault 4 0, s)
  else
    match s.hubTlb.find? (fun e => e.hits ctx va) with
    | some e =>
      if permits e.perm acc then (.pa (e.pa va) e.perm.nc, { s with hubTlb := tlbEnter 128 s.hubTlb e }) else (.fault 2 0, s)
    | none =>
      let d := s.hubDie
      let s0 := s.noteWalk d ctx va
      match s0.walkAt d ctx va with
      | .fault sub lvl => (.fault sub lvl, s0.bumpFld (rXltWalk d) 24 8 1)
      | .leaf e ups =>
        let s1 := s0.fillWalker d e ups
        if permits e.perm acc then (.pa (e.pa va) e.perm.nc, { s1 with hubTlb := tlbEnter 128 s1.hubTlb e })
        else (.fault 2 (if e.big then 2 else 3), s1.bumpFld (rXltWalk d) 24 8 1)

/-- XLT_FAULT (R371), to the context's event ring and, as a copy, to the folio 0 ring; the tenant's copy has ENGINE 0; of a
confidential folio the operator's copy has VA, PC and ENGINE 0 (R585). -/
def State.xltRecord (s : State) (isl ctx va pc sub acc src lvl index : Nat) (engine : Bytes) : State :=
  let f := s.ctxFolio ctx
  let mk (fl : Nat) (v p : Nat) (e : Bytes) := s.record tyXltFault f fl ctx isl
    (le 8 v ++ le 8 p ++ le 1 sub ++ le 1 acc ++ le 1 src ++ le 1 lvl ++ le 4 index ++ e)
  let conf := s.isConf f
  s.ringBoth (s.ctxRing ctx) (mk 0 va pc (if s.ctxRing ctx = 0 then engine else zeros 4))
    (if conf then mk 2 0 0 (zeros 4) else mk 0 va pc engine)

/-- An uncorrectable-tag report (R581): to the folio event ring when it has one, and to the folio 0 ring with the address 0. -/
def State.integFail (s : State) (pa src : Nat) : State :=
  match s.server (pa / 2 ^ 33) with
  | none => s
  | some m =>
    let f := frOwner (s.frame m (pa / 2 ^ 25 % 256))
    let mk (fl a : Nat) := s.record tyIntegFail f fl 0xFFFF (16 + m / 32)
      (le 8 a ++ le 1 src ++ le 1 m ++ le 1 (pa / 2 ^ 25 % 256))
    let r := (s.folio f).evring
    if r = 0 then s.ringPut 0 (mk 2 0) else (s.ringPut r (mk 0 (pa / 256 * 256))).ringPut 0 (mk 3 0)

/-! ## Accesses of the hub on behalf of commands (R653) -/

/-- A coherent read of bytes within one line with the identity of a context (R308 Glance): what completes and the bytes.
Bytes of a peer window come from outside: free values (log 6). -/
def State.readLine (s : State) (ctx folio pa n : Nat) : Cpl × Bytes × State :=
  match s.route pa with
  | .hbm =>
    if ¬ s.admits ctx folio (s.folio folio).epoch pa false then (.refused, [], s)
    else if (s.heldLine (lineOf pa)).isSome then (.ok, s.curBytes pa n, s)
    else (let r := s.rawRead pa n
          if r.1 = .integrity then (r.1, [], s.integFail pa 0) else (r.1, r.2, s))
  | .host _ => (.ok, s.curBytes pa n, s)
  | .peer i off => (match s.peerLink folio i off with
    | none => (.noPeer, [], s)
    | some l => if s.peerGone i then (.lost, [], s) else (.ok, s.freeBytes n, (s.send ⟨l, stitchHdr 1 8 (s.folio folio).epoch ctx folio (cdiv n 64) off 0xFFFF 0, []⟩).useFree))
  | .hole => (.refused, [], s)

/-- A coherent write of bytes within one line with the identity of a context. -/
def State.writeLine (s : State) (ctx folio pa : Nat) (d : Bytes) : Cpl × State :=
  match s.route pa with
  | .hbm => if ¬ s.admits ctx folio (s.folio folio).epoch pa true then (.refused, s) else s.putLine pa d
  | .host _ => s.putLine pa d
  | .peer i off => (match s.peerLink folio i off with
    | none => (.noPeer, s)
    | some l => if s.peerGone i then (.lost, s) else (.ok, s.send ⟨l, stitchHdr 2 8 (s.folio folio).epoch ctx folio (cdiv d.length 64) off 0xFFFF 0, d⟩))
  | .hole => (.refused, s)

/-- Reads `n` bytes of a context's address space line by line; none: BUSERR (R482). `fuel` bounds the lines. -/
def State.hubReadN (s : State) (ctx va : Nat) : (fuel n : Nat) → Option Bytes × State
  | 0, _ => (some [], s)
  | fuel + 1, n =>
    if n = 0 then (some [], s)
    else
      let k := min n (64 - va % 64)
      match s.hubXlate ctx va 0 with
      | (.pa a _, s1) =>
        (match s1.readLine ctx (s1.ctxFolio ctx) a k with
         | (.ok, b, s2) =>
           (match State.hubReadN s2 ctx (va + k) fuel (n - k) with
            | (some t, s3) => (some (b ++ t), s3)
            | (none, s3) => (none, s3))
         | (_, _, s2) => (none, s2))
      | (.fault sub lvl, s1) => (none, s1.xltRecord 18 ctx va 0 sub 0 6 lvl 0 (zeros 4))
      | (.hole, s1) => (none, s1)

/-- Reads `n` bytes at `va` of a context; none: BUSERR. -/
def State.hubRead (s : State) (ctx va n : Nat) : Option Bytes × State := s.hubReadN ctx va (n / 64 + 2) n

/-- Writes bytes line by line; false: BUSERR (R482). `acc` is 1, or 3 for a fetch-and-add (R357). -/
def State.hubWriteN (s : State) (ctx va acc : Nat) : (fuel : Nat) → Bytes → Bool × State
  | 0, _ => (true, s)
  | fuel + 1, d =>
    if d = [] then (true, s)
    else
      let k := 64 - va % 64
      match s.hubXlate ctx va acc with
      | (.pa a _, s1) =>
        (match s1.writeLine ctx (s1.ctxFolio ctx) a (d.take k) with
         | (.ok, s2) => State.hubWriteN s2 ctx (va + k) acc fuel (d.drop k)
         | (_, s2) => (false, s2))
      | (.fault sub lvl, s1) => (false, s1.xltRecord 18 ctx va 0 sub acc 6 lvl 0 (zeros 4))
      | (.hole, s1) => (false, s1)

/-- Writes bytes at `va` of a context; false: BUSERR. -/
def State.hubWrite (s : State) (ctx va : Nat) (d : Bytes) : Bool × State := s.hubWriteN ctx va 1 (d.length / 64 + 2) d

/-- An atomic fetch-and-add of `w` bytes by the hub: the old value, or none when it fails; the kind of failure is in the
first component. -/
def State.hubAdd (s : State) (ctx va w inc : Nat) : Cpl × Nat × State :=
  match s.hubXlate ctx va 3 with
  | (.pa a _, s1) =>
    (match s1.readLine ctx (s1.ctxFolio ctx) a w with
     | (.ok, b, s2) =>
       (match s2.writeLine ctx (s2.ctxFolio ctx) a (le w (unle b + inc)) with
        | (.ok, s3) => (.ok, unle b, s3)
        | (e, s3) => (e, 0, s3))
     | (e, _, s2) => (e, 0, s2))
  | (.fault sub lvl, s1) => (.noPeer, 0, s1.xltRecord 18 ctx va 0 sub 3 6 lvl 0 (zeros 4))
  | (.hole, s1) => (.refused, 0, s1)

end Sys2Proof.Machine
end

