-- ==== Sys2Proof/Machine/Num.lean ====
section
/-! DEFINITION. Sys2Proof/Machine/Num.lean: number formats (02 R55-R97): element codes, rounding, scales, block writing, and FP32 arithmetic, all on exact integers. -/

namespace Sys2Proof.Machine

/-! ## Values and rounding -/

/-- A decoded value: NaN, an infinity, or (-1)^neg * m * 2^e. -/
inductive Val where
  | nan | inf (neg : Bool) | fin (neg : Bool) (m : Nat) (e : Int)
  deriving DecidableEq, Repr

/-- 2^e as a natural factor: e cut at 0. -/
def pow2 (e : Int) : Nat := 2 ^ e.toNat

/-- floor(log2 (m * 2^e)) for m nonzero. -/
def flog2 (m : Nat) (e : Int) : Int := (Nat.log2 m : Int) + e

/-- Is m1 * 2^e1 < m2 * 2^e2? -/
def ltDy (m1 : Nat) (e1 : Int) (m2 : Nat) (e2 : Int) : Bool :=
  let b := min e1 e2
  decide (m1 * pow2 (e1 - b) < m2 * pow2 (e2 - b))

/-- The multiple of 2^q chosen for m * 2^e: nearest, ties to even, or the draw `r` of R115. The result is in units of 2^q. Both
neighbours lie on the grid of R79, whose exponent range is unbounded, also above the largest finite magnitude, where R115 by itself
names the largest representable value as the lower one (DESIGN CHOICE, log 102). -/
def roundAt (m : Nat) (e q : Int) (draw : Option Nat) : Nat :=
  if q ≤ e then m * pow2 (e - q)
  else
    let d := pow2 (q - e)
    let lo := m / d
    let rem := m % d
    match draw with
    | none => if d < 2 * rem ∨ (2 * rem = d ∧ lo % 2 = 1) then lo + 1 else lo
    | some r => if r < rem * 2 ^ 24 / d then lo + 1 else lo

/-- A floating-point element: exponent and mantissa bits, bias; `kind` 0 no specials, 1 E4M3 (NaN only), 2 IEEE (R58). -/
structure Fp where
  eb : Nat
  mb : Nat
  bias : Nat
  kind : Nat
  deriving DecidableEq, Repr

def fpE2M1 : Fp := ⟨2, 1, 1, 0⟩
def fpE2M3 : Fp := ⟨2, 3, 1, 0⟩
def fpE3M2 : Fp := ⟨3, 2, 3, 0⟩
def fpE4M3 : Fp := ⟨4, 3, 7, 1⟩
def fpE5M2 : Fp := ⟨5, 2, 15, 2⟩
def fpFP16 : Fp := ⟨5, 10, 15, 2⟩
def fpBF16 : Fp := ⟨8, 7, 127, 2⟩
def fpFP32 : Fp := ⟨8, 23, 127, 2⟩

/-- Exponent of the format's smallest subnormal: 1 - bias - mb. -/
def Fp.qmin (f : Fp) : Int := 1 - (f.bias : Int) - f.mb

/-- Width of a code. -/
def Fp.width (f : Fp) : Nat := 1 + f.eb + f.mb

/-- The largest finite magnitude as m * 2^e (R58). -/
def Fp.maxM (f : Fp) : Nat := if f.kind = 1 then 14 else 2 ^ (f.mb + 1) - 1
def Fp.maxE (f : Fp) : Int :=
  if f.kind = 1 then 5 else ((2 ^ f.eb - 1 - (if f.kind = 2 then 1 else 0) : Nat) : Int) - f.bias - f.mb

/-- The value of a code (R58, R61, R62). -/
def Fp.decode (f : Fp) (code : Nat) : Val :=
  let neg := bit code (f.eb + f.mb)
  let ex := bits code f.mb f.eb
  let ma := bits code 0 f.mb
  if f.kind = 2 ∧ ex = 2 ^ f.eb - 1 then (if ma = 0 then .inf neg else .nan)
  else if f.kind = 1 ∧ ex = 15 ∧ ma = 7 then .nan
  else if ex = 0 then .fin neg ma f.qmin
  else .fin neg (2 ^ f.mb + ma) ((ex : Int) - f.bias - f.mb)

/-- The sign bit of a code. -/
def Fp.sgn (f : Fp) (neg : Bool) : Nat := b2n neg * 2 ^ (f.eb + f.mb)

/-- The code of a representable magnitude n * 2^q, q at least `qmin`. -/
def Fp.code (f : Fp) (neg : Bool) (n : Nat) (q : Int) : Nat :=
  if n < 2 ^ f.mb then f.sgn neg + n
  else
    let n' := if n = 2 ^ (f.mb + 1) then 2 ^ f.mb else n
    let q' := if n = 2 ^ (f.mb + 1) then q + 1 else q
    f.sgn neg + (q' + f.mb + f.bias).toNat * 2 ^ f.mb + (n' - 2 ^ f.mb)

/-- The code the part writes for NaN (R62); a format without NaN: 0. -/
def Fp.nan (f : Fp) : Nat :=
  if f.kind = 1 then 0x7F else if f.kind = 2 then (2 ^ f.eb - 1) * 2 ^ f.mb + 2 ^ (f.mb - 1) else 0

/-- Codes of infinity and of the largest finite value. -/
def Fp.infCode (f : Fp) (neg : Bool) : Nat := f.sgn neg + (2 ^ f.eb - 1) * 2 ^ f.mb
def Fp.maxCode (f : Fp) (neg : Bool) : Nat := f.code neg f.maxM f.maxE

/-- The quantum at which a magnitude rounds: the format's precision, exponent range unbounded above (R79). -/
def Fp.quantum (f : Fp) (m : Nat) (e : Int) : Int := max (flog2 m e - f.mb) f.qmin

/-- Sieve kinds of R126 by their numbers, as a list of six counts. -/
abbrev Events := List Nat

def noEvents : Events := [0, 0, 0, 0, 0, 0]
def kSat : Nat := 0
def kFtz : Nat := 1
def kBso : Nat := 2
def kBsu : Nat := 3
def kTrit : Nat := 4
def kMxnan : Nat := 5

/-- Adds `n` events of kind `k`. -/
def addEv (ev : Events) (k n : Nat) : Events := ev.zipIdx.map (fun p => if p.2 = k then p.1 + n else p.1)

/-- Adds two lists of counts. -/
def sumEv (a b : Events) : Events := List.zipWith (fun x y => x + y) a b

/-- Conversion to a plain or wide format (R78-R83, R97): code, and the events it counts. -/
def Fp.encode (f : Fp) (sat : Bool) (draw : Option Nat) (v : Val) : Nat × Events :=
  match v with
  | .nan => (f.nan, noEvents)
  | .inf neg =>
    if f.kind = 2 then (f.infCode neg, noEvents)
    else if f.kind = 1 then (if sat then (f.maxCode neg, noEvents) else (f.nan, noEvents))
    else (f.maxCode neg, noEvents)
  | .fin neg m e =>
    if m = 0 then (f.sgn neg, noEvents)
    else
      let q := f.quantum m e
      let n := roundAt m e q draw
      if n = 0 then (f.sgn neg, addEv noEvents kFtz 1)
      else if ltDy f.maxM f.maxE n q then
        (if f.kind = 2 ∧ ¬ sat then (f.infCode neg, addEv noEvents kSat 1) else (f.maxCode neg, addEv noEvents kSat 1))
      else (f.code neg n q, noEvents)

/-! ## FP32 arithmetic (R59, R97, R110, R182): round to nearest even, subnormals honoured -/

/-- An FP32 code rounded from an exact value; infinity beyond the range. -/
def toF32 (v : Val) : Nat := (fpFP32.encode false none v).1

/-- Value of an FP32 code. -/
def f32 (c : Nat) : Val := fpFP32.decode c

/-- Exact sum of two finite values; an exact zero is +0 unless both are negative zeros. -/
def addFin (n1 : Bool) (m1 : Nat) (e1 : Int) (n2 : Bool) (m2 : Nat) (e2 : Int) : Val :=
  let b := min e1 e2
  let x : Int := (if n1 then -1 else 1) * (m1 * pow2 (e1 - b) : Nat) + (if n2 then -1 else 1) * (m2 * pow2 (e2 - b) : Nat)
  if x = 0 then .fin (n1 && n2 && m1 == 0 && m2 == 0) 0 b
  else .fin (decide (x < 0)) x.natAbs b

/-- Exact sum. -/
def Val.add : Val → Val → Val
  | .nan, _ => .nan
  | _, .nan => .nan
  | .inf a, .inf b => if a = b then .inf a else .nan
  | .inf a, _ => .inf a
  | _, .inf b => .inf b
  | .fin n1 m1 e1, .fin n2 m2 e2 => addFin n1 m1 e1 n2 m2 e2

/-- Negation. -/
def Val.neg : Val → Val
  | .nan => .nan
  | .inf a => .inf (!a)
  | .fin n m e => .fin (!n) m e

/-- Exact product. -/
def Val.mul : Val → Val → Val
  | .nan, _ => .nan
  | _, .nan => .nan
  | .inf a, .inf b => .inf (a != b)
  | .inf a, .fin n m _ => if m = 0 then .nan else .inf (a != n)
  | .fin n m _, .inf b => if m = 0 then .nan else .inf (n != b)
  | .fin n1 m1 e1, .fin n2 m2 e2 => .fin (n1 != n2) (m1 * m2) (e1 + e2)

/-- Quotient to 64 bits with a sticky bit: it rounds as the exact quotient does. -/
def Val.div : Val → Val → Val
  | .nan, _ => .nan
  | _, .nan => .nan
  | .inf _, .inf _ => .nan
  | .inf a, .fin n _ _ => .inf (a != n)
  | .fin n _ _, .inf b => .fin (n != b) 0 0
  | .fin n1 m1 e1, .fin n2 m2 e2 =>
    if m2 = 0 then (if m1 = 0 then .nan else .inf (n1 != n2))
    else
      let q := m1 * 2 ^ 64 / m2
      .fin (n1 != n2) (2 * q + (if m1 * 2 ^ 64 % m2 = 0 then 0 else 1)) (e1 - e2 - 65)

/-- Square root to enough bits with a sticky bit. -/
def Val.sqrt : Val → Val
  | .nan => .nan
  | .inf neg => if neg then .nan else .inf false
  | .fin neg m e =>
    if m = 0 then .fin neg 0 e
    else if neg then .nan
    else
      let m' := if e % 2 = 0 then m else 2 * m
      let e' := if e % 2 = 0 then e else e - 1
      let r := Nat.sqrt (m' * 2 ^ 64)
      .fin false (2 * r + (if r * r = m' * 2 ^ 64 then 0 else 1)) (e' / 2 - 33)

/-- FP32 sum, product and fused multiply-add of codes. -/
def fadd (a b : Nat) : Nat := toF32 ((f32 a).add (f32 b))
def fsub (a b : Nat) : Nat := toF32 ((f32 a).add (f32 b).neg)
def fmul (a b : Nat) : Nat := toF32 ((f32 a).mul (f32 b))

/-- The product of R98, the FMA of R217: one rounding. A zero product's sign takes part in the sum. -/
def ffma (a b c : Nat) : Nat := toF32 (((f32 a).mul (f32 b)).add (f32 c))

/-- Is a code a finite value, a NaN? -/
def isFin (c : Nat) : Bool := match f32 c with | .fin _ _ _ => true | _ => false
def isNan (c : Nat) : Bool := match f32 c with | .nan => true | _ => false

/-- Order of two non-NaN values, -0 below +0 (R182 max, min). -/
def keyOf (c : Nat) : Int := if bit c 31 then -(bits c 0 31 : Int) - 1 else bits c 0 31

/-- MAX and MIN (R182: NaN loses against any number). -/
def fmax (a b : Nat) : Nat :=
  if isNan a then (if isNan b then 0x7FC00000 else b) else if isNan b then a else if keyOf a < keyOf b then b else a
def fmin (a b : Nat) : Nat :=
  if isNan a then (if isNan b then 0x7FC00000 else b) else if isNan b then a else if keyOf b < keyOf a then b else a

/-- Numeric comparison by IEEE 754: none when unordered. -/
def fcmp (a b : Nat) : Option Ordering :=
  match f32 a, f32 b with
  | .nan, _ => none
  | _, .nan => none
  | .inf x, .inf y => some (if x = y then .eq else if x then .lt else .gt)
  | .inf x, _ => some (if x then .lt else .gt)
  | _, .inf y => some (if y then .gt else .lt)
  | .fin n1 m1 e1, .fin n2 m2 e2 =>
    let b := min e1 e2
    let x : Int := (if n1 then -1 else 1) * (m1 * pow2 (e1 - b) : Nat)
    let y : Int := (if n2 then -1 else 1) * (m2 * pow2 (e2 - b) : Nat)
    some (if x < y then .lt else if x = y then .eq else .gt)

/-! ## Format codes (R55, R72) -/

/-- Elements per block; 0 for formats without a block scale. -/
def blockOf (fmt : Nat) : Nat := if fmt < 5 then 0 else if fmt = 0xC ∨ fmt = 0xE then 64 else 32

/-- Bits of an element in packed form (R73); TRIT is packed by fives. -/
def elemBits (fmt : Nat) : Nat :=
  if fmt = 0 then 32 else if fmt < 3 then 16 else if fmt < 7 then 8 else if fmt < 9 then 6
  else if fmt = 9 then 4 else if fmt = 0xA then 8 else if fmt < 0xD then 4 else 2

/-- Element bytes of `n` elements of a row (R72). -/
def elemBytes (fmt n : Nat) : Nat := if fmt = 0xE then n / 64 * 13 else elemBits fmt * n / 8

/-- Side bytes of `n` elements of a row (R72, R74); 0 without a block scale. -/
def sideBytes (fmt n : Nat) : Nat := if blockOf fmt = 0 then 0 else n / blockOf fmt * (if fmt = 0xC then 2 else 1)

/-- The floating-point element of a format code, if it is one (R55). -/
def fpOf (fmt : Nat) : Option Fp :=
  match fmt with
  | 0 => some fpFP32 | 1 => some fpBF16 | 2 => some fpFP16 | 3 => some fpE4M3 | 4 => some fpE5M2 | 5 => some fpE4M3
  | 6 => some fpE5M2 | 7 => some fpE3M2 | 8 => some fpE2M3 | 9 => some fpE2M1 | 0xC => some fpE2M1 | _ => none

/-- Value of an element code of a format other than TRIT (R58-R63). -/
def elemVal (fmt code : Nat) : Val :=
  match fpOf fmt with
  | some f => f.decode code
  | none =>
    if fmt = 0xA then (let i := sext code 8; .fin (decide (i < 0)) i.natAbs (-6))
    else if fmt = 0xB then (let i := sext code 4; .fin (decide (i < 0)) i.natAbs 0)
    else .fin (bit code 1) (if bit code 0 then 3 else 1) (-1)

/-- Element `i` of a packed string of `w`-bit elements (R73). -/
def elemAt (b : Bytes) (w i : Nat) : Nat :=
  let lo := w * i
  bits (unle (slice b (lo / 8) (w / 8 + 2))) (lo % 8) w

/-- Digit `i` of a TRIT string (R75, R76): 0, +1 or -1. -/
def tritAt (b : Bytes) (i : Nat) : Val :=
  let blk := i / 64
  let v := fieldLe b (blk * 13 + i % 64 / 5) 1
  if 243 ≤ v then .fin false 0 0
  else
    let d := v / 3 ^ (i % 64 % 5) % 3
    .fin (d == 2) (if d = 0 then 0 else 1) 0

/-- The value of element `i` of an element string, before its block scale. -/
def rowElem (fmt : Nat) (b : Bytes) (i : Nat) : Val :=
  if fmt = 0xE then tritAt b i else elemVal fmt (elemAt b (elemBits fmt) i)

/-- Invalid TRIT bytes among the first `n` elements of a row (R76, R127). -/
def badTrits (b : Bytes) (n : Nat) : Nat := ((b.take (elemBytes 0xE n)).filter (fun x => decide (243 ≤ x.toNat))).length

/-- A block scale: none NaN, else g * 2^x (R66, R67, R105). -/
def scaleOf (fmt : Nat) (sideByte : Nat) : Option (Int × Int) :=
  if fmt = 0xD ∨ fmt = 0xE then
    (match fpE4M3.decode sideByte with
     | .fin neg m e => some ((if neg then -1 else 1) * (m : Int), e)
     | _ => none)
  else if sideByte = 0xFF then none else some (1, (sideByte : Int) - 127)

/-- The scale of the block that holds element `i` of a row, from the row's side string. -/
def rowScale (fmt : Nat) (side : Bytes) (i : Nat) : Option (Int × Int) :=
  if blockOf fmt = 0 then some (1, 0)
  else scaleOf fmt (fieldLe side (i / blockOf fmt * (if fmt = 0xC then 2 else 1)) 1)

/-- The micro-exponent of the subblock of element `i` (R70); 0 outside SILT4. -/
def rowMicro (fmt : Nat) (side : Bytes) (i : Nat) : Nat :=
  if fmt = 0xC then bits (fieldLe side (i / 64 * 2 + 1) 1) (2 * (i % 64 / 16)) 2 else 0

/-- A decoded element value times its scale (R68). -/
def scaled (v : Val) (sc : Option (Int × Int)) (u : Nat) : Val :=
  match sc with
  | none => .nan
  | some (g, x) => v.mul (.fin (decide (g < 0)) g.natAbs (x - u))

/-! ## Writing blocks (R84-R96, R116) -/

/-- The finite magnitudes of a block; the largest as m * 2^e (m 0: amax is 0). -/
def amaxOf (l : List Val) : Nat × Int :=
  l.foldl (fun a v => match v with | .fin _ m e => if ltDy a.1 a.2 m e then (m, e) else a | _ => a) (0, 0)

def hasNan (l : List Val) : Bool := l.any (fun v => match v with | .nan => true | _ => false)
def hasInf (l : List Val) : Bool := l.any (fun v => match v with | .inf _ => true | _ => false)

/-- emax of R84. -/
def emaxOf (fmt : Nat) : Int :=
  match fmt with
  | 5 => 8 | 6 => 15 | 7 => 4 | 8 => 2 | 9 => 2 | 0xC => 2 | 0xA => 0 | 0xB => 2 | _ => 0

/-- Element of an OCP MX, SINT4 or SILT4 block at scale 2^x (R85, R64, R65): code and events. A clamp counts as a saturation where
the block's scale was clamped (R87), or where the value exceeds the largest code before any rounding up: cut to the format's
precision it is still beyond it (R82, R86; MXFP8 E4M3 from 480 up, log 11). -/
def blockElem (fmt : Nat) (x : Int) (clamped : Bool) (draw : Option Nat) (v : Val) : Nat × Events :=
  match v with
  | .nan => ((match fpOf fmt with | some f => f.nan | none => 0), noEvents)
  | .inf neg => ((match fpOf fmt with | some f => f.infCode neg | none => 0), noEvents)
  | .fin neg m e =>
    match fpOf fmt with
    | some f =>
      if m = 0 then (f.sgn neg, noEvents)
      else
        let q := f.quantum m (e - x)
        let n := roundAt m (e - x) q draw
        if n = 0 then (f.sgn neg, addEv noEvents kFtz 1)
        else if ltDy f.maxM f.maxE n q then
          (f.maxCode neg, if clamped || ltDy f.maxM f.maxE (roundAt m (e - x) q (some (2 ^ 24))) q then addEv noEvents kSat 1 else noEvents)
        else (f.code neg n q, noEvents)
    | none =>
      let w := if fmt = 0xA then 8 else 4
      let n := roundAt m (e - x) (if fmt = 0xA then -6 else 0) draw
      let top := if fmt = 0xA then 127 else if neg then 8 else 7
      let big := decide (top < n)
      let k := min n top
      ((if neg then (2 ^ w - k) % 2 ^ w else k),
       if big && clamped then addEv noEvents kSat 1 else if n = 0 ∧ m ≠ 0 then addEv noEvents kFtz 1 else noEvents)

/-- The smallest E4M3 value at or above a positive magnitude num / den * 2^e, at most 448 (R90, R91), as (mantissa,
exponent), or none above 448. -/
def ceilE4M3 (num den : Nat) (e : Int) : Option (Nat × Int) :=
  (List.range 127).findSome? (fun c =>
    match fpE4M3.decode c with
    | .fin _ m x =>
      let b := min e x
      if num * pow2 (e - b) ≤ m * den * pow2 (x - b) then some (m, x) else none
    | _ => none)

/-- |v| / s compared with num / den: both sides cleared of denominators. -/
def ratioCmp (m : Nat) (e : Int) (sm : Nat) (se : Int) (num den : Nat) : Ordering :=
  let b := min e se
  compare (m * den * pow2 (e - b)) (sm * num * pow2 (se - b))

/-- floor((|v| / s - off / 2) * 2^24) for GRIT2 and TRIT draws (R115, R116). -/
def ratioDraw (m : Nat) (e : Int) (sm : Nat) (se : Int) (off : Nat) : Nat :=
  let b := min e se
  let a := 2 * m * pow2 (e - b)
  let d := 2 * sm * pow2 (se - b)
  let h := off * sm * pow2 (se - b)
  (a - h) * 2 ^ 24 / d

/-- Element of a GRIT2 or TRIT block of scale s (R90, R91, R116): code (TRIT: digit) and events. -/
def levelElem (fmt : Nat) (s : Nat × Int) (clamped : Bool) (draw : Option Nat) (v : Val) : Nat × Events :=
  match v with
  | .fin neg m e =>
    if fmt = 0xD then
      let hi : Bool :=
        if s.1 = 0 then false
        else match draw with
          | none => ratioCmp m e s.1 s.2 1 1 == .gt
          | some r =>
            if ratioCmp m e s.1 s.2 1 2 == .lt then false
            else if ratioCmp m e s.1 s.2 3 2 == .gt then true
            else if ratioCmp m e s.1 s.2 3 2 == .eq then true
            else decide (r < ratioDraw m e s.1 s.2 1)
      (b2n neg * 2 + b2n hi,
       if clamped && ratioCmp m e s.1 s.2 3 2 == .gt then addEv noEvents kSat 1 else noEvents)
    else
      let one : Bool :=
        if s.1 = 0 then false
        else match draw with
          | none => ratioCmp m e s.1 s.2 1 2 == .gt
          | some r => if ratioCmp m e s.1 s.2 1 1 == .lt then decide (r < ratioDraw m e s.1 s.2 0) else true
      ((if one then (if neg then 2 else 1) else 0),
       if clamped && ratioCmp m e s.1 s.2 1 1 == .gt then addEv noEvents kSat 1
       else if !one && m != 0 then addEv noEvents kFtz 1 else noEvents)
  | _ => (0, noEvents)

/-- Packs codes of `w` bits, first lowest (R73). -/
def packCodes (w : Nat) (codes : List Nat) : Bytes :=
  le (w * codes.length / 8) (codes.foldr (fun c acc => c + acc * 2 ^ w) 0)

/-- Packs 64 TRIT digits into 13 bytes (R75); the padding digit is 0. -/
def packTrits (d : List Nat) : Bytes :=
  (List.range 13).map (fun t => BitVec.ofNat 8 (((List.range 5).map (fun i => ((d[5 * t + i]?).getD 0) * 3 ^ i)).sum))

/-- Sums events of a list of results. -/
def evOf (l : List (Nat × Events)) : Events := l.foldl (fun a p => sumEv a p.2) noEvents

/-- One block written by the part: element bytes, side bytes and events (R84-R96). `draws` is empty in nearest mode. The
micro-exponent byte of a SILT4 block written under R94, which no rule states, is a fixed function of the block's values
(Config.nanMicro, log 6; R120). The scale byte of an MXFP8 E4M3 block whose values are all NaN, for which R96 has no finite value to
choose from, is 0x7F, as for amax 0 (DESIGN CHOICE, log 103). -/
def encodeBlock (fmt : Nat) (vals : List Val) (draws : List Nat) : Bytes × Bytes × Events :=
  let n := vals.length
  let dr := fun i => draws[i]?
  let idx := vals.zipIdx
  if (hasInf vals ∧ fmt ≠ 6) ∨ (hasNan vals ∧ (fmt ≠ 5 ∨ hasInf vals)) then
    (zeros (elemBytes fmt n), (if fmt = 0xD ∨ fmt = 0xE then le 1 0x7F else if fmt = 0xC then le 1 0xFF ++ [Config.nanMicro (vals.map toF32)] else le 1 0xFF),
     addEv noEvents kMxnan 1)
  else
    let a := amaxOf vals
    if fmt = 0xD ∨ fmt = 0xE then
      let num := if fmt = 0xD then 2 * a.1 else a.1
      let den := if fmt = 0xD then 3 else 1
      let cs := ceilE4M3 num den a.2
      let s := if a.1 = 0 then ((0, 0) : Nat × Int) else cs.getD (14, 5)
      let clamped := decide (a.1 ≠ 0) && cs.isNone
      let es := idx.map (fun p => levelElem fmt s clamped (dr p.2) p.1)
      let blk := if clamped then addEv noEvents kBso 1
        else if s.1 ≠ 0 ∧ ltDy s.1 s.2 1 (-6) then addEv noEvents kBsu 1 else noEvents
      let codes := es.map Prod.fst
      ((if fmt = 0xD then packCodes 2 codes else packTrits codes),
       le 1 (if s.1 = 0 then 0 else (fpE4M3.encode true none (.fin false s.1 s.2)).1), sumEv blk (evOf es))
    else
      let x0 := if a.1 = 0 then 0 else flog2 a.1 a.2 - emaxOf fmt
      let x := max (-127) (min 127 x0)
      let clamped := decide (127 < x0)
      let blk := if 127 < x0 then addEv noEvents kBso 1 else if x0 < -127 then addEv noEvents kBsu 1 else noEvents
      let u := fun (j : Nat) =>
        let aj := amaxOf ((vals.drop (16 * j)).take 16)
        if aj.1 = 0 then 3 else (min 3 (max 0 (x - (flog2 aj.1 aj.2 - 2)))).toNat
      let es := idx.map (fun p => blockElem fmt (if fmt = 0xC then x - u (p.2 / 16) else x) clamped (dr p.2) p.1)
      (packCodes (elemBits fmt) (es.map Prod.fst),
       le 1 (x + 127).toNat ++ (if fmt = 0xC then le 1 (u 0 + 4 * u 1 + 16 * u 2 + 64 * u 3) else []),
       sumEv blk (evOf es))

/-! ## Derived ternary (R77) -/

/-- The derived block of 64 E4M3 values: its scale (none NaN) and digits. -/
def deriveTernary (v : List Val) : Option (Nat × Int) × List Int :=
  if hasNan v then (none, v.map (fun _ => 0))
  else
    let a := amaxOf v
    (some a, v.map (fun x => match x with
      | .fin neg m e => if ltDy a.1 (a.2 - 1) m e then (if neg then -1 else 1) else 0
      | _ => 0))

/-! ## The stochastic stream (R118) -/

/-- One step of the generator's state. -/
def streamNext (s : Nat) : Nat :=
  let s1 := s ^^^ (s * 2 ^ 13 % 2 ^ 64)
  let s2 := s1 ^^^ (s1 / 2 ^ 7)
  s2 ^^^ (s2 * 2 ^ 17 % 2 ^ 64)

/-- The state after the four discarded steps. -/
def streamStart (seed tag : Nat) : Nat :=
  let s := seed ^^^ (tag * 0x9E3779B97F4A7C15 % 2 ^ 64)
  let s := if s = 0 then 0x9E3779B97F4A7C15 else s
  streamNext (streamNext (streamNext (streamNext s)))

/-- The draw of a state: top 24 bits of the output. -/
def drawOf (s : Nat) : Nat := s * 0x2545F4914F6CDD1D % 2 ^ 64 / 2 ^ 40

/-- `n` draws from a state. -/
def drawsFrom (s : Nat) : Nat → List Nat
  | 0 => []
  | n + 1 => drawOf (streamNext s) :: drawsFrom (streamNext s) n

/-- The draws r[0] .. r[n-1] of a stream. -/
def draws (seed tag n : Nat) : List Nat := drawsFrom (streamStart seed tag) n

end Sys2Proof.Machine
end

