-- ==== Sys2Proof/Machine/Operands.lean ====
section
/-! DEFINITION. Sys2Proof/Machine/Operands.lean: the fields of Loam instruction words, which words are legal (06 R195-R236), and the operand forms: registers, local addresses, operand layouts. -/

namespace Sys2Proof.Machine

/-- Field [lo + wd - 1 : lo] of an instruction word. -/
def fd (w : Word) (lo wd : Nat) : Nat := bits w.toNat lo wd

/-- One bit of an instruction word. -/
def fbit (w : Word) (i : Nat) : Bool := bit w.toNat i

/-- The major opcode (R195). -/
def major (w : Word) : Nat := fd w 58 6

/-- The majors of R196. -/
def majors : List Nat :=
  [0x00, 0x01, 0x02, 0x03, 0x04, 0x05, 0x06, 0x07, 0x10, 0x11, 0x20, 0x21, 0x28, 0x29, 0x2A, 0x2B, 0x30, 0x31, 0x32, 0x33,
   0x38, 0x3C]

/-- Bits [31:0] as a signed offset or immediate. -/
def imm32 (w : Word) : Word := (w.extractLsb' 0 32).signExtend 64

/-- The special-register selectors of R204. -/
def srdLegal (sel : Nat) : Bool := decide (sel ≤ 0x0B)

/-- Is a word of its major legal (R195): RSVD bits zero, no field with an illegal value? A VLS with FMT 5 to 15 is not, R218 calling these
values illegal; it is no illegal format in the sense of R56 (DESIGN CHOICE, log 112). -/
def legal (w : Word) : Bool :=
  match major w with
  | 0x00 => decide (fd w 32 11 ≤ 18) && fd w 0 32 == 0
  | 0x01 => decide (fd w 42 6 ≤ 19) && fd w 32 10 == 0
  | 0x02 => fd w 32 11 == 0
  | 0x03 => fd w 32 12 == 0
  | 0x04 => fd w 0 35 == 0
  | 0x05 => decide (fd w 45 3 ≤ 5) && fd w 32 13 == 0
  | 0x06 => fd w 32 15 == 0
  | 0x07 => srdLegal (fd w 45 8) && fd w 0 45 == 0
  | 0x10 => decide (fd w 52 6 ≤ 26) && fd w 0 15 == 0
  | 0x11 => decide (fd w 55 3 ≤ 3) && decide (fd w 23 4 ≤ 4) && fd w 0 21 == 0
  | 0x20 => decide (fd w 46 3 ≤ 5) && fd w 0 22 == 0
  | 0x21 => fd w 0 38 == 0
  | 0x28 => fd w 0 34 == 0
  | 0x29 => fd w 0 50 == 0
  | 0x2A => fd w 0 40 == 0
  | 0x2B => fd w 0 53 == 0
  | 0x30 => decide (fd w 46 2 ≠ 3) && fd w 0 38 == 0
  | 0x31 => decide (fd w 36 2 ≠ 3) && fd w 0 36 == 0
  | 0x32 => decide (fd w 56 2 ≠ 3) && decide (fd w 54 2 ≠ 0) && fd w 0 46 == 0
  | 0x33 => decide (fd w 56 2 ≠ 3) && decide (fd w 50 2 ≠ 3) && fd w 0 42 == 0
  | 0x38 => fd w 0 34 == 0
  | 0x3C => decide (fd w 52 6 ≤ 7) && fd w 32 10 == 0
  | _ => false

/-- SFN of a SYS word (R236). -/
def sfn (w : Word) : Nat := fd w 52 6

/-! ## Registers of a slot (R197) -/

/-- Scalar register i; s0 reads 0. -/
def Slot.sr (x : Slot) (i : Nat) : Word := if i = 0 then 0 else tgetD 0 i x.sregs

/-- Writes scalar register i; a write to s0 is discarded. -/
def Slot.setSr (x : Slot) (i : Nat) (v : Word) : Slot := if i = 0 then x else { x with sregs := tputD 0 i v x.sregs }

/-- Lane l of vector register v. -/
def Slot.vr (x : Slot) (v l : Nat) : Nat := (tgetD 0 (64 * v + l) x.vregs).toNat

/-- Writes lane l of vector register v. -/
def Slot.setVr (x : Slot) (v l n : Nat) : Slot :=
  { x with vregs := tputD 0 (64 * v + l) (BitVec.ofNat 32 n) x.vregs }

/-- The instruction after this one (R198). -/
def Slot.advance (x : Slot) : Slot := { x with pc := x.pc + 8 }

/-- Does the program counter name scratchpad? -/
def Slot.localPc (x : Slot) : Bool := !x.pc.getLsbD 63

/-- Is a jump target in a form the program counter can hold (R198)? -/
def pcOk (t : Word) : Bool :=
  (t.toNat % 8 == 0) && (if t.getLsbD 63 then fd t 52 11 == 0 else fd t 19 44 == 0)

/-! ## Local memories (R157-R159, R163, R164) -/

/-- Bytes of a scratchpad way. -/
def wayBytes : Nat := 0x18000

/-- First local address the context does not own. A context may keep more ways than the quire it runs asks for (R157); the range is then that of
the ways it holds, where R159 and R198 name SP_WAYS and ACC_WAYS (DESIGN CHOICE, log 116). -/
def Slot.spEnd (x : Slot) : Nat := x.spWays.length * wayBytes

/-- Is a local range inside the context's ways? -/
def Slot.spIn (x : Slot) (a n : Nat) : Bool := decide (a + n ≤ x.spEnd)

/-- Is a local accumulator tile owned? -/
def Slot.accIn (x : Slot) (t : Nat) : Bool := decide (t < x.accWays.length)

/-- The physical scratchpad byte of a local address (R158). -/
def Slot.spPhys (x : Slot) (a : Nat) : Nat := ((x.spWays[a / wayBytes]?).getD 0) * wayBytes + a % wayBytes

/-- The physical way of a local accumulator tile. -/
def Slot.accPhys (x : Slot) (t : Nat) : Nat := (x.accWays[t]?).getD 0

/-- `n` scratchpad bytes of a slot from a local address. -/
def Core.spRead (c : Core) (x : Slot) (a n : Nat) : Bytes := (List.range n).map (fun i => mbyte c.sp (x.spPhys (a + i)))

/-- Writes scratchpad bytes of a slot from a local address. -/
def Core.spWrite (c : Core) (x : Slot) (a : Nat) (d : Bytes) : Core :=
  { c with sp := (d.zipIdx).foldl (fun m p => mset m (x.spPhys (a + p.2)) p.1) c.sp }

/-- Cell (i, j) of an accumulator way (R164). -/
def Core.cell (c : Core) (way i j : Nat) : Nat := (tgetD 0 (4096 * way + 64 * i + j) c.acc).toNat

/-- Writes a cell. -/
def Core.setCell (c : Core) (way i j v : Nat) : Core :=
  { c with acc := tputD 0 (4096 * way + 64 * i + j) (BitVec.ofNat 32 v) c.acc }

/-! ## Operand layouts (R165, R207, R212) -/

/-- A layout register's fields. -/
structure Layout where
  ebase : Nat
  epitch : Nat
  sbase : Nat
  spitch : Nat
  deriving DecidableEq, Repr

/-- The fields of R207, pitches in bytes. -/
def layoutOf (v : Word) : Layout :=
  { ebase := fd v 0 19, epitch := 32 * (fd v 19 7 + 1), sbase := fd v 26 19, spitch := 32 * (fd v 45 7 + 1) }

/-- Do a layout's base and pitch obey R165 for lines of `n` bytes? -/
def lineOk (base pitch n : Nat) : Bool := base % 32 == 0 && decide (n ≤ pitch) && decide (pitch ≤ 4096)

/-- The rules of R165 and R212 for 64 lines of `n` elements of a format; `side` false: the side tile is not used. -/
def Layout.ok (l : Layout) (fmt n : Nat) (side : Bool) : Bool :=
  lineOk l.ebase l.epitch (elemBytes fmt n) && (!side || lineOk l.sbase l.spitch (sideBytes fmt n))

/-- Bytes a tile of 64 lines covers from its base (R208). -/
def tileSpan (pitch n : Nat) : Nat := 63 * pitch + n

/-- The range check of R159 over both tiles. -/
def Layout.inWays (l : Layout) (x : Slot) (fmt n : Nat) (side : Bool) : Bool :=
  x.spIn l.ebase (tileSpan l.epitch (elemBytes fmt n)) && (!side || x.spIn l.sbase (tileSpan l.spitch (sideBytes fmt n)))

/-- The local ranges (address, length) of a tile. -/
def Layout.ranges (l : Layout) (fmt n : Nat) (side : Bool) : List (Nat × Nat) :=
  (l.ebase, tileSpan l.epitch (elemBytes fmt n)) :: (if side then [(l.sbase, tileSpan l.spitch (sideBytes fmt n))] else [])

/-- Does a format have a side array? -/
def hasSide (fmt : Nat) : Bool := decide (blockOf fmt ≠ 0)

/-! ## The matrix instructions' fields (R205, R211) -/

/-- Kt of an MMA. -/
def mmaKt (w : Word) : Nat := 64 * (fd w 22 7 + 1)

/-- The pairings of R101 in the class that MODE names (R206). -/
def pairingOk (mode a b : Nat) : Bool :=
  let n4 : List Nat := [0x9, 0xB, 0xC]
  let f8 : List Nat := [0x3, 0x4, 0x5, 0x6, 0x7, 0x8, 0xA]
  match mode with
  | 0 => n4.contains a && n4.contains b
  | 1 => a == 0xD && b == 0xD
  | 2 => a == 0x3 && b == 0xE
  | 3 => (a == 0x3 || a == 0x5) && (b == 0xC || b == 0xD || b == 0xE)
  | 4 => f8.contains a && f8.contains b
  | 5 => (a == 1 || a == 2) && (b == 1 || b == 2)
  | _ => false

/-- The output operands of an RQ: its own, or with ORIG those of the instruction that entered the guard handler (R211). -/
def rqOut (w : Word) (sd st : Word) (g : Option Guard) : RqOut :=
  match fbit w 38, g with
  | true, some gd => gd.orig
  | _, _ => { fmt := fd w 54 4, dim := fbit w 53, sr := fbit w 52, sat := fbit w 51, sd := sd, stg := st }

/-- Scratchpad ranges that a queued matrix instruction reads, those it writes, and the accumulator tile it uses; the second
component says whether it writes the accumulator. -/
def MatOp.reads (o : MatOp) : List (Nat × Nat) :=
  if major o.w = 0x20 then
    (layoutOf o.sa).ranges (fd o.w 54 4) (mmaKt o.w) (hasSide (fd o.w 54 4)) ++
    (layoutOf o.sb).ranges (fd o.w 50 4) (mmaKt o.w) (hasSide (fd o.w 50 4))
  else []

def MatOp.writes (o : MatOp) (g : Option Guard) : List (Nat × Nat) :=
  if major o.w = 0x21 then
    (let r := rqOut o.w o.sa o.st g; (layoutOf r.sd).ranges r.fmt 64 (hasSide r.fmt))
  else []

def MatOp.tile (o : MatOp) : Nat := if major o.w = 0x20 then fd o.w 44 2 else fd o.w 49 2

/-- Do two ranges overlap? -/
def overlap (a b : Nat × Nat) : Bool := decide (a.1 < b.1 + b.2) && decide (b.1 < a.1 + a.2)

/-- May an instruction of the slot access these local bytes now (R155)? A read waits for queued writers, a write for queued
readers and writers. -/
def Core.spFree (c : Core) (k : Nat) (x : Slot) (a n : Nat) (write : Bool) : Bool :=
  (c.mq.filter (fun o => o.slot == k)).all (fun o =>
    (o.writes x.guard).all (fun r => !overlap r (a, n)) && (!write || o.reads.all (fun r => !overlap r (a, n))))

/-- May an instruction of the slot access an accumulator tile now (R155)? A read waits for queued MMAs on it, a write for
every queued instruction on it. -/
def Core.accFree (c : Core) (k t : Nat) (write : Bool) : Bool :=
  (c.mq.filter (fun o => o.slot == k)).all (fun o => decide (o.tile ≠ t) || (!write && major o.w == 0x21))

end Sys2Proof.Machine
end

