-- ==== Sys2Proof/Machine/Issue.lean ====
section
/-! DEFINITION. Sys2Proof/Machine/Issue.lean: how a core issues an instruction (06 R195-R198, R238): readiness, fetch, faults, translation for a core (11 R347, R357, R359, R368-R371), and requests into memory. -/

namespace Sys2Proof.Machine

/-! ## Faults and suspension -/

/-- The frame number by position of a local address; 0xFFFF elsewhere (R592). -/
def frameOf (pa : Nat) : Nat := if pa < 2 ^ 39 then pa / 2 ^ 25 else 0xFFFF

/-- A pending fault of a slot; the first one stands (R238, R239). -/
def State.faultSlot (s : State) (c k : Nat) (f : FaultInfo) : State :=
  s.modSlot c k (fun x => match x.fault with | none => { x with fault := some f } | some _ => x)

/-- A precise fault of the instruction at the slot's program counter. -/
def State.faultAt (s : State) (c k : Nat) (x : Slot) (cause addr : Nat) : State :=
  s.faultSlot c k { cause, pc := x.pc, addr }

/-- The cause that a failed request gives its core (R176, R202, R350, R456, R581, R652). -/
def causeOf : Cpl → Nat
  | .ok => 0 | .refused => 0x08 | .lost => 0x09 | .hbmErr => 0x11 | .integrity => 0x10 | .noPeer => 0x08 | .hostErr => 0x08

/-- A precise fault of an access that failed: a refusal names its frame (R378, R592). -/
def State.faultOn (s : State) (c k : Nat) (x : Slot) (e : Cpl) (pa va : Nat) : State :=
  s.faultSlot c k { cause := causeOf e, pc := x.pc, addr := va, frame := if e = .refused then frameOf pa else 0xFFFF }

/-- Is a context stopped everywhere: suspended, held after a fault, or stopped for the debugger? -/
def State.ctxStopped (s : State) (ctx : Nat) : Bool :=
  match s.ctx? ctx with
  | some x => x.suspended.isSome || x.held.isSome || x.bkpt
  | none => false

/-- Charges `n` core cycles to a context on a slot (R510, R514). -/
def State.chargeCycles (s : State) (c k : Nat) (x : Slot) (n : Nat) : State :=
  match s.ctx? x.ctx with
  | none => s
  | some y =>
    let f := (s.region (coreIsland c)).setMhz
    (s.setSlot c k { x with vt := (x.vt + n * 65536 / max 1 (min 65536 y.share)) % 2 ^ 64 }).setCtx x.ctx
      { y with acct := { y.acct with engineCycles := y.acct.engineCycles + n, engineNs := y.acct.engineNs + (if f = 0 then 0 else n * 1000 / f) } }

/-- Charges the running slot of a core for the cycles since it was last charged; a slot that is halted, stopped or suspended
runs none (R510, R514, R525). -/
def State.charge (s : State) (c : Nat) : State :=
  match (s.core c).running with
  | none => s
  | some k => (match s.slot? c k with
    | none => s
    | some x =>
      let now := s.count (coreIsland c)
      let n := if x.halted || s.ctxStopped x.ctx then 0 else now - x.charged
      s.chargeCycles c k { x with charged := now, ran := x.ran + n } n)

/-- A context has run on its cores up to now. -/
def State.chargeAll (s : State) (ctx : Nat) : State :=
  foldS (s.slotsOf ctx) s (fun st x => if (st.core x.1).running = some x.2.1 then st.charge x.1 else st)

/-- A translation fault suspends the context on every core (R369). -/
def State.suspend (s : State) (ctx : Nat) : State :=
  (s.chargeAll ctx).modCtx ctx (fun x => { x with suspended := match x.suspended with | some t => some t | none => some s.hubCount })

/-- A core's translation fault: its record (R371) and the suspension. -/
def State.xltFault (s : State) (c ctx va pc sub acc src lvl index : Nat) : State :=
  (s.xltRecord (coreIsland c) ctx va pc sub acc src lvl index (engineBytes c)).suspend ctx

/-- The fault that a failed asynchronous request gives its slot (R176, R202, R239). -/
def reqFault (q : Req) (e : Cpl) : FaultInfo :=
  { cause := causeOf e, pc := q.pc, addr := q.va, frame := if e = .refused then frameOf q.pa else 0xFFFF }

/-! ## Translation for a core (R359) -/

/-- What a lookup in a core's TLB gives. -/
inductive XRes where
  | pa (a : Nat) (nc : Bool) | miss | fault (sub lvl : Nat) | hole
  deriving DecidableEq, Repr

/-- Lookup of one address for an access kind (0 read, 1 write, 2 fetch, 3 AMO or fence offer); a hit refreshes the entry. -/
def State.lookup (s : State) (c ctx va acc : Nat) : XRes × State :=
  if ctx = 0 then (if va < 2 ^ 46 ∧ placeOf va ≠ .hole then (.pa va false, s) else (.hole, s))
  else if 2 ^ 52 ≤ va then (.fault 4 0, s)
  else
    match (s.core c).tlb.find? (fun e => e.hits ctx va) with
    | some e =>
      if permits e.perm acc then (.pa (e.pa va) e.perm.nc, s.setCore c { s.core c with tlb := tlbEnter 64 (s.core c).tlb e })
      else (.fault 2 0, s)
    | none => (.miss, s)

/-- A miss goes to a die's walker, when it can take it (R361); the id is the counter's value. -/
def State.startWalk (s : State) (die ctx va acc : Nat) (asker : WalkFor) : Option State :=
  if s.walkRoom die ctx va then
    (let s1 := s.noteWalk die ctx va
     some { s1 with walks := tput s.nextId { die, ctx, va, access := acc, asker } s1.walks, nextId := s.nextId + 1 })
  else none

/-- The slot waits for a walk it asks for; without a free walker it tries again. -/
def State.waitWalk (s : State) (c k : Nat) (x : Slot) (va acc src : Nat) (prefetch : Bool := false) : State :=
  match s.startWalk (coreDie c) x.ctx va acc { source := src, core := c, slot := k, pc := x.pc, prefetch } with
  | some s1 => s1.modSlot c k (fun y => { y with wait := .walk s.nextId })
  | none => s.modSlot c k (fun y => { y with wait := .resource })

/-- Translates for an instruction: the address, or the state in which the instruction has stopped (walk, suspension, or
cause 0x08 for context 0 in a hole, R468). -/
def State.xlate (s : State) (c k : Nat) (x : Slot) (va acc src : Nat) : Except State (Nat × Bool × State) :=
  match s.lookup c x.ctx va acc with
  | (.pa a nc, s1) => .ok (a, nc, s1)
  | (.miss, s1) => .error (s1.waitWalk c k x va acc src)
  | (.fault sub lvl, s1) => .error (s1.xltFault c x.ctx va x.pc.toNat sub acc src lvl 0)
  | (.hole, s1) => .error (s1.faultAt c k x 0x08 va)

/-! ## Issue -/

/-- Does the slot stand inside a load or AMO whose request is out? It completes into its register before the next instruction boundary,
where an imprecise fault is taken (R239), and also while its context is stopped (R240). -/
def Wait.midway : Wait → Bool
  | .mem _ => true | _ => false

/-- May the slot's next instruction issue? -/
def State.canIssue (s : State) (x : Slot) : Bool :=
  !x.halted && (x.fault.isNone || x.wait.midway) && (!s.ctxStopped x.ctx || x.wait.midway) &&
  (match x.wait with
   | .none => true
   | .resource => true
   | .mem r => (match s.req? r with | some q => q.status.isSome | none => true)
   | .walk i => (tget i s.walks).isNone
   | .groups _ => true
   | .fence _ => false
   | .bar _ _ _ => false
   | .rq => false
   | .halting => true)

/-- The slot a core runs, when it may issue: once a switch has been decided no further instruction issues (R240), but a load or AMO that
is out completes. -/
def State.issuing (s : State) (c : Nat) : Option (Nat × Slot) :=
  match (s.core c).running with
  | none => none
  | some k => (match s.slot? c k with
    | none => none
    | some x => if s.canIssue x ∧ ((s.core c).choice.all (fun j => j == k) ∨ x.wait.midway) then some (k, x) else none)

/-- The fetch of the instruction at the program counter (R198): scratchpad range, or translation and the state of the line
for device memory. The bytes are the word that the command carries (log 2). A device program counter that has advanced past 2^52, of
which the spec says nothing, fetches at its low 52 bits (DESIGN CHOICE, log 107). A refused fetch names its frame (R378). -/
def State.fetch (s : State) (c k : Nat) (x : Slot) : Except State State :=
  if x.localPc then
    (if x.spIn (x.pc.toNat % 2 ^ 19) 8 then .ok s else .error (s.faultAt c k x 0x03 (x.pc.toNat % 2 ^ 19)))
  else
    let va := x.pc.toNat % 2 ^ 52
    match s.xlate c k x va 2 0 with
    | .error s1 => .error s1
    | .ok (a, _, s1) =>
      (match s1.readLine x.ctx (s1.ctxFolio x.ctx) a 8 with
       | (.ok, _, s2) => .ok s2
       | (e, _, s2) => .error (s2.faultOn c k x e a va))

/-- Issue of the word `w` as an instruction of major `m` on a core: nothing where the core has no slot ready, or the word is
another row's; an illegal word faults with cause 0x01 (R195). `sf` is the SFN of a SYS row. -/
def State.issue (s : State) (c : Nat) (w : Word) (m : Nat) (sf : Option Nat) (go : State → Nat → Slot → State) :
    Host.Outcome State Fault Refusal :=
  match s.issuing c with
  | none => stay s
  | some (k, x) =>
    if majors.contains (major w) ∧ major w ≠ m then stay s
    else if legal w ∧ sf.isSome ∧ sf ≠ some (sfn w) then stay s
    else
      match s.fetch c k x with
      | .error s1 => .next s1
      | .ok s1 => if legal w then .next (go s1 k x) else .next (s1.faultAt c k x 0x01 0)

/-- The slot has retired its instruction: what it becomes, with nothing to wait for. -/
def State.retire (s : State) (c k : Nat) (x : Slot) : State :=
  let s1 := s.setSlot c k { x with wait := .none }
  s1.setCore c { s1.core c with lastRet := s.hubCount, retAt := s.count (coreIsland c) }

/-- The slot tries the instruction again later. -/
def State.stall (s : State) (c k : Nat) (x : Slot) : State := s.setSlot c k { x with wait := .resource }

/-! ## Requests of a slot -/

/-- The part of a request that every access of a slot shares (R175: context, folio, the folio's epoch at issue (R414), class). -/
def State.reqFor (s : State) (c : Nat) (x : Slot) (kind : ReqKind) (who : Issuer) (pa len va : Nat) : Req :=
  { kind, issuer := who, slice := some (s.sliceOf c), ctx := x.ctx, folio := s.ctxFolio x.ctx, epoch := (s.folio (s.ctxFolio x.ctx)).epoch, qos := x.qos,
    pa, len, va, pc := x.pc }

/-- Types of stitch packets by request kind (R435). -/
def packetType (r : Req) : Nat :=
  match r.issuer with
  | .offer _ => 4
  | _ => if r.atomic then 3 else if r.kind = .putHome ∨ r.kind = .rawPut then 2 else 1

/-- A request goes out to peer window `i`, in packets of at most 256 bytes (R432, R435); the first has the request's id for its tag. The coherent
flag is set for all but RawGet and RawPut (R332). -/
def State.toPeer (s : State) (id : Nat) (r : Req) (i off : Nat) : State :=
  let cs := (cut256 off r.len).zipIdx
  let ps := cs.filterMap (fun c => (s.peerLink r.folio i (off + c.1.1)).map (fun l =>
    (c.1.2, Part.mk (if c.2 = 0 then id else s.nextId + c.2 - 1) c.1.1 l)))
  let s1 := { s with nextId := s.nextId + (ps.length - 1) }.setReq id { r with parts := ps.map Prod.snd }
  foldS ps s1 (fun st p => st.send ⟨p.2.link, stitchHdr (packetType r) (r.qos + (if r.kind = .rawGet ∨ r.kind = .rawPut then 0 else 8)) r.epoch
    r.ctx r.folio (cdiv p.1 64) (off + p.2.off) (p.2.tag % 65536) 0, slice r.data p.2.off p.1⟩)

/-- Is an address outside local HBM? -/
def outsideHbm (pa : Nat) : Bool := match placeOf pa with | .hbm => false | _ => true

/-- A write outside local HBM is noted for the release of its command's offer (R481): on the context for an instruction, on the channel for a
descriptor. -/
def State.noteAway (s : State) (r : Req) : State :=
  if ¬ outsideHbm r.pa ∨ r.kind = .glance ∨ r.kind = .rawGet ∨ r.kind = .getShare then s
  else
    match r.issuer with
    | .copy ch => s.setChan ch { s.chan ch with far := true }
    | .scalar _ _ => s.modCtx r.ctx (fun y => { y with far := true })
    | .store _ _ => s.modCtx r.ctx (fun y => { y with far := true })
    | .burst _ _ _ _ => s.modCtx r.ctx (fun y => { y with far := true })
    | _ => s

/-- Adds a request and, for a peer window, sends it (R432); a window that cannot be reached completes NOPEER at once (R350). -/
def State.issueReq (s0 : State) (r0 : Req) : State :=
  let s := s0.noteAway r0
  let r := { r0 with oldKey := s.oldKeyed r0 }
  match s.route r.pa with
  | .peer i off =>
    (match s.peerLink r.folio i off with
     | none => s.addReq { r with status := some .noPeer }
     | some _ =>
       if s.peerGone i then s.addReq { r with status := some .lost }
       else (s.addReq r).toPeer s.nextId { r with born := s.hubCount } i off)
  | _ => s.addReq r

/-- Outstanding requests of a slot's posted stores. -/
def State.storesOf (s : State) (c k : Nat) : List (Nat × Req) :=
  s.reqs.filter (fun r => r.2.issuer == .store c k && !r.2.squashed)

/-- Is a request a burst of a slot in one of the completion groups of a mask? -/
def Req.inGroups (q : Req) (c k mask : Nat) : Bool :=
  match q.issuer with
  | .burst c' k' g _ => c' == c && k' == k && bit mask g && !q.squashed
  | _ => false

/-- Bursts outstanding in the completion groups of a mask (R220, R226), with those that wait for a free one of the 64 (R222). -/
def State.groupBusy (s : State) (c k mask : Nat) : Bool :=
  s.reqs.any (fun r => r.2.inGroups c k mask) || (s.core c).tdma.any (fun q => q.inGroups c k mask)

end Sys2Proof.Machine
end

