-- ==== Sys2Proof/Machine/Watch.lean ====
section
/-! DEFINITION. Sys2Proof/Machine/Watch.lean: fence words, who waits on them, and how a wait ends (06 R225, R227-R229, R240, 10 R658). -/

namespace Sys2Proof.Machine

/-! ## Fence words (R225, R227, R228) -/

/-- The value an offer of `v` leaves in a word of value `o`, and whether the offer was stale (R227). -/
def offered (o v : BitVec 32) : BitVec 32 × Bool :=
  let d := (v - o).toNat
  if d = 0 then (o, false) else if d < 2 ^ 31 then (v, false) else (o, true)

/-- Does a value satisfy a target (R228)? -/
def satisfies (value target : BitVec 32) : Bool := decide ((value - target).toNat < 2 ^ 31)

/-- The fence word at a local or host address as the point of coherence has it. -/
def State.wordAt (s : State) (pa : Nat) : BitVec 32 := BitVec.ofNat 32 (unle (s.curBytes pa 4))

/-! ## Watch entries (R229) -/

/-- The watch entries of a table without those of one waiter. -/
def dropWaiter (w : Waiter) (l : List WatchEntry) : List WatchEntry := l.filter (fun e => e.who != w)

/-- Ends every watch entry of a waiter. -/
def State.dropWatch (s : State) (w : Waiter) : State :=
  { s with
    homes := tmap (fun _ (h : Home) => { h with watch := dropWaiter w h.watch }) s.homes
    hubWatch := dropWaiter w s.hubWatch }

/-- Takes a watch entry: at the home of a package word, at the doorbell watch unit for a host or peer word; false when none
is free. -/
def State.takeWatch (s : State) (e : WatchEntry) : Bool × State :=
  match placeOf e.pa with
  | .hbm =>
    (match s.homeOf e.pa with
     | none => (false, s)
     | some h =>
       if (s.home h).watch.length < 512 then (true, s.setHome h { s.home h with watch := (s.home h).watch ++ [e] }) else (false, s))
  | _ => if s.watchLines < 1024 then (true, ({ s with hubWatch := s.hubWatch ++ [e] }).watchLine (lineOf e.pa)) else (false, s)

/-- Every watch entry. -/
def State.watches (s : State) : List WatchEntry := s.homes.flatMap (fun h => h.2.watch) ++ s.hubWatch

/-! ## The end of a wait (R228, R240) -/

/-- A slot that its core runs and whose context may go on. -/
def State.live? (s : State) (c k : Nat) : Option Slot :=
  match s.slot? c k with
  | some x => if (s.core c).running = some k ∧ x.fault.isNone ∧ ¬ s.ctxStopped x.ctx then some x else none
  | none => none

/-- A read of the word that is no longer wanted: it is discarded when it completes, or at once. -/
def State.dropAsk (s : State) (ask : Option Nat) : State :=
  match ask with
  | none => s
  | some r => (match s.req? r with
    | none => s
    | some q => if q.status.isSome then s.dropReq r else s.setReq r { q with squashed := true })

/-- The waiting FWAIT of a slot completes with a result (R228). -/
def State.fwaitDone (s : State) (c k : Nat) (v : Word) : State :=
  match s.slot? c k with
  | none => s
  | some y =>
    match y.wait with
    | .fence f =>
      let s1 := ((s.dropWatch (.fwait c k)).dropAsk f.ask).modSlot c k (fun z => { (z.setSr f.rd v).advance with wait := .none })
      s1.setCore c { s1.core c with lastRet := s.hubCount, retAt := s.count (coreIsland c) }
    | _ => s

/-- Is a wait satisfied now: the word of package memory as it stands, another as its watch or the last re-read has found it? -/
def State.fenceMet (s : State) (f : FenceWait) : Bool :=
  f.met || (decide (placeOf f.pa = .hbm ∧ s.route f.pa = .hbm) && satisfies (s.wordAt f.pa) f.target)

/-- Has a wait reached its time limit (R228)? -/
def State.fenceOver (s : State) (f : FenceWait) : Bool := match f.deadline with | some t => decide (t ≤ s.hubCount) | none => false

/-- The word has been found satisfied: the wait of a slot that runs ends; that of another is checked again when it resumes (R240). -/
def State.fenceHit (s : State) (c k : Nat) : State :=
  if (s.live? c k).isSome then s.fwaitDone c k 0
  else s.modSlot c k (fun y => match y.wait with | .fence f => { y with wait := .fence { f with met := true } } | _ => y)

/-- A waiting FWAIT is checked: rd becomes 0 when the word satisfies the target, 1 when the time limit has passed; both at once give 0. -/
def State.fenceCheck (s : State) (c k : Nat) : State :=
  match (s.live? c k).map (fun (x : Slot) => x.wait) with
  | some (.fence f) => if s.fenceMet f then s.fwaitDone c k 0 else if s.fenceOver f then s.fwaitDone c k 1 else s
  | _ => s

/-- Wakes the waits on words of a line that a write has satisfied (R229). A command's or a copy descriptor's wait ends with
its own row. -/
def State.wake (s : State) (line : Nat) : State :=
  foldS (s.watches.filter (fun e => lineOf e.pa == line)) s (fun st e =>
    match e.who with
    | .fwait c k => if satisfies (st.wordAt e.pa) e.target then st.fenceHit c k else st
    | _ => st)

/-- Wakes the waits on every line of a written range. -/
def State.wakeRange (s : State) (pa n : Nat) : State := foldS (linesOf pa n) s State.wake

end Sys2Proof.Machine
end

