-- ==== Sys2Proof/Machine/Lsu.lean ====
section
/-! DEFINITION. Sys2Proof/Machine/Lsu.lean: scalar accesses through the cluster cache (06 R201-R203, 09 R300, R323-R325, 10 R330, R339). -/

namespace Sys2Proof.Machine

/-! ## A cluster cache's lines -/

/-- The line of a cluster cache, if it holds it. -/
def State.line? (s : State) (n line : Nat) : Option CLine := tget line (s.cache n).lines

/-- Set of a line in a cluster cache: 1,024 sets of 16 ways (R299). -/
def cacheSet (line : Nat) : Nat := line / 64 % 1024

/-- A line is the one most recently used of its set. -/
def State.touch (s : State) (n line : Nat) : State := s.setCache n { s.cache n with mru := tput (cacheSet line) line (s.cache n).mru }

/-- Puts a line into a cluster cache. -/
def State.putLineIn (s : State) (n line : Nat) (l : CLine) : State :=
  (s.setCache n { s.cache n with lines := tput line l (s.cache n).lines }).touch n line

/-- Is a fill or an upgrade of the line outstanding for the cluster, or its own writeback not yet acknowledged? -/
def State.lineBusy (s : State) (n line : Nat) : Bool :=
  s.reqs.any (fun r => r.2.slice == some n && lineOf r.2.pa == line && r.2.status.isNone &&
    (r.2.kind == .getShare || r.2.kind == .getOwn || r.2.kind == .upgrade)) ||
  (tget line (s.cache n).wb).isSome

/-- Has the slot a posted fence signal of its own outstanding to the line (R28)? -/
def State.offerBusy (s : State) (c k line : Nat) : Bool :=
  s.offers.any (fun o => o.2.issuer == .fwait c k && o.2.unit.isNone && lineOf o.2.pa == line)

/-- Has the slot a posted store, or a posted fence signal, outstanding to the line (R28)? -/
def State.storeBusy (s : State) (c k line : Nat) : Bool :=
  (s.storesOf c k).any (fun r => lineOf r.2.pa == line) || s.offerBusy c k line

/-- Writes bytes into a line held in M or E; it becomes M (R300). The write is performed (R330), so waits that it satisfies end (R229). -/
def State.writeHit (s : State) (n pa : Nat) (l : CLine) (d : Bytes) : State :=
  (s.putLineIn n (lineOf pa) { st := .m, data := patch l.data (pa % 64) d }).wake (lineOf pa)

/-! ## Atomic operations (R199, R203) -/

/-- The new value of an AMO: 0 fetch-add, 1 swap, 2 compare and swap, 3 unsigned maximum, on `w` bytes; 4 is a fence offer in the form of an
AMO (R227). -/
def amoNew (op w old a b : Nat) : Nat :=
  match op with
  | 0 => (old + a) % 2 ^ (8 * w)
  | 1 => a % 2 ^ (8 * w)
  | 2 => if old = b % 2 ^ (8 * w) then a % 2 ^ (8 * w) else old
  | 3 => max old (a % 2 ^ (8 * w))
  | _ => (offered (BitVec.ofNat 32 old) (BitVec.ofNat 32 a)).1.toNat

/-- The operation as request data: OP, width, rs2, rs3. -/
def amoData (op w : Nat) (a b : Word) : Bytes := le 1 op ++ le 1 w ++ le 8 a.toNat ++ le 8 b.toNat

/-- The new bytes of an AMO request on old bytes. -/
def amoApply (d old : Bytes) : Bytes :=
  let w := fieldLe d 1 1
  le w (amoNew (fieldLe d 0 1) w (unle (old.take w)) (fieldLe d 2 8) (fieldLe d 10 8))

/-! ## Loads -/

/-- A loaded value extended to 64 bits (R199 SX). -/
def extend (b : Bytes) (sx : Bool) : Word := if sx then iword (sext (unle b) (8 * b.length)) else BitVec.ofNat 64 (unle b)

/-- The end of a load or AMO whose request has come back: the register, or a precise fault (R202). -/
def State.loadDone (s : State) (c k : Nat) (x : Slot) (r : Nat) (q : Req) (rd : Nat) (v : Word) : State :=
  let s1 := s.dropReq r
  if q.status = some .ok then s1.retire c k ((x.setSr rd v).advance)
  else (s1.modSlot c k (fun y => { y with wait := .none })).faultOn c k x (q.status.getD .lost) q.pa q.va

/-- The slot waits for a new request. -/
def State.waitReq (s : State) (c k : Nat) (r : Req) : State :=
  (s.issueReq r).modSlot c k (fun y => { y with wait := .mem s.nextId })

/-- A load of `n` bytes at a translated address (R201, R323, R339, R358). -/
def State.loadAt (s : State) (c k : Nat) (x : Slot) (rd n va pa : Nat) (nc v sx : Bool) : State :=
  let sl := s.sliceOf c
  let line := lineOf pa
  let r := s.reqFor c x .glance (.scalar c k) pa n va
  let done := fun (l : CLine) => (s.touch sl line).retire c k ((x.setSr rd (extend (slice l.data (pa % 64) n) sx)).advance)
  match s.route pa with
  | .peer _ _ => if s.offerBusy c k line then s.stall c k x else s.waitReq c k r
  | .hole => s.faultAt c k x 0x08 va
  | _ =>
    if s.storeBusy c k line then s.stall c k x
    else match s.line? sl line with
      | some l =>
        if (v || nc) && l.st == .s then s.waitReq c k r else done l
      | none =>
        if v || nc then s.waitReq c k r
        else if s.lineBusy sl line then s.stall c k x
        else s.waitReq c k { r with kind := .getShare }

/-- A posted store at a translated address (R201, R202, R330, R358). -/
def State.storeAt (s : State) (c k : Nat) (x : Slot) (va pa : Nat) (nc : Bool) (d : Bytes) : State :=
  let sl := s.sliceOf c
  let line := lineOf pa
  let r := { s.reqFor c x .putHome (.store c k) pa d.length va with data := d }
  match s.route pa with
  | .peer _ _ => if s.offerBusy c k line then s.stall c k x else (s.issueReq r).retire c k x.advance
  | .hole => s.faultAt c k x 0x08 va
  | _ =>
    if s.storeBusy c k line || s.lineBusy sl line then s.stall c k x
    else match s.line? sl line with
      | some l =>
        if nc then (s.issueReq r).retire c k x.advance
        else if l.st = .m ∨ l.st = .e then ((s.noteAway r).writeHit sl pa l d).retire c k x.advance
        else (s.issueReq { r with kind := .upgrade }).retire c k x.advance
      | none => (s.issueReq { r with kind := if nc then .putHome else .getOwn }).retire c k x.advance

/-- An AMO at a translated address (R203, R325). -/
def State.amoAt (s : State) (c k : Nat) (x : Slot) (rd n va pa : Nat) (nc : Bool) (d : Bytes) : State :=
  let sl := s.sliceOf c
  let line := lineOf pa
  let r := { s.reqFor c x .putHome (.scalar c k) pa n va with data := d, atomic := true }
  match s.route pa with
  | .peer _ _ => if s.offerBusy c k line then s.stall c k x else s.waitReq c k r
  | .hole => s.faultAt c k x 0x08 va
  | _ =>
    if s.storeBusy c k line || s.lineBusy sl line then s.stall c k x
    else if nc then s.waitReq c k r
    else match s.line? sl line with
      | some l =>
        if l.st = .m ∨ l.st = .e then
          (let old := slice l.data (pa % 64) n
           ((s.noteAway r).writeHit sl pa l (amoApply d old)).retire c k ((x.setSr rd (extend old false)).advance))
        else s.waitReq c k { r with kind := .upgrade }
      | none => s.waitReq c k { r with kind := .getOwn }

end Sys2Proof.Machine
end

