-- ==== Sys2Proof/Machine/Sync.lean ====
section
/-! DEFINITION. Sys2Proof/Machine/Sync.lean: fence words, their offers and waits, barriers (06 R225-R233, 10 R328-R346). -/

namespace Sys2Proof.Machine

/-! ## What a release waits for (R227, R230, R330, R331) -/

/-- Does a write leave the package: into a peer window, or into host memory past the caches (R331)? -/
def outside (q : Req) : Bool :=
  match placeOf q.pa with
  | .peer _ _ => true
  | .host _ => q.kind == .putHome || q.kind == .rawPut
  | _ => false

/-- Has the stitch-link transmitter or the hub port accepted a write that leaves the package (R331)? -/
def accepted (q : Req) : Bool := match placeOf q.pa with | .host _ => q.sent || q.status.isSome | _ => true

/-- Is an outstanding write not yet visible throughout a scope (R330, R331)? -/
def unseen (scope : Nat) (q : Req) : Bool := (q.status != some .ok) && !(decide (scope < 2) && outside q && accepted q)

/-- Is a request a write of a core or a copy engine that leaves the package and is not performed? -/
def farWrite (q : Req) : Bool :=
  outside q && (q.kind == .putHome || q.kind == .rawPut) && q.status != some .ok && !q.squashed &&
  (match q.issuer with | .store _ _ => true | .burst _ _ _ _ => true | .copy _ => true | _ => false)

/-- The writes of the package to places outside it that are not performed. A release at `.sys` covers those that other agents have
released at a narrower scope and its own agent has acquired (R336); which these are the part cannot tell from the words, so it waits for all
(DESIGN CHOICE, log 111). -/
def State.farWrites (s : State) (scope : Nat) : List Nat :=
  if scope = 2 then (s.reqs.filter (fun r => farWrite r.2)).map Prod.fst else []

/-- The posted stores of a slot, and the writes of others, that a release at a scope waits for. -/
def State.unseenStores (s : State) (c k scope : Nat) : List Nat :=
  ((s.storesOf c k).filter (fun r => unseen scope r.2)).map Prod.fst ++ s.farWrites scope

/-- Have these requests completed without error? -/
def State.allDone (s : State) (l : List Nat) : Bool :=
  l.all (fun i => match s.req? i with | none => true | some q => q.status == some .ok)

/-- Is a release with these groups and writes of a slot complete? -/
def State.released (s : State) (c k groups : Nat) (after : List Nat) : Bool := !s.groupBusy c k groups && s.allDone after

/-! ## Offers -/

/-- Posts an offer; its id is the counter's value. It follows the writes that its scope makes it cover (R336). -/
def State.postOffer (s : State) (o : Offer) : State :=
  { s with offers := tput s.nextId { o with after := o.after ++ s.farWrites o.scope } s.offers, nextId := s.nextId + 1 }

/-- The offer of a value to a word of package or host memory as one access at its point of coherence (R227): completion,
stale, state. Bits [63:32] of the word stand (R225). -/
def State.offerWord (s : State) (pa : Nat) (v : BitVec 32) : Cpl × Bool × State :=
  let r := offered (s.wordAt pa) v
  if placeOf pa = .hbm ∧ (s.heldLine (lineOf pa)).isNone ∧ (s.rawRead pa 4).1 ≠ .ok then ((s.rawRead pa 4).1, false, s)
  else if r.2 then (.ok, true, s)
  else
    match s.putLine pa (le 4 r.1.toNat) with
    | (.ok, s1) => (.ok, false, s1.wake (lineOf pa))
    | (e, s1) => (e, false, s1)

/-- An offer with its home's checks (R377). -/
def State.offerAt (s : State) (ctx folio epoch pa : Nat) (v : BitVec 32) : Cpl × Bool × State :=
  match placeOf pa with
  | .hole => (.refused, false, s)
  | .peer _ _ => (.noPeer, false, s)
  | .host _ => s.offerWord pa v
  | .hbm => if s.admits ctx folio epoch pa true then s.offerWord pa v else (.refused, false, s)

/-- The STALE count of a context (R227), which stops at 0xFFFF_FFFF (R204). -/
def State.addStale (s : State) (ctx : Nat) : State := s.modCtx ctx (fun x => { x with stale := satAdd (2 ^ 32 - 1) x.stale 1 })

/-- A failed offer faults the slot that made it, while that slot still holds its context (R239). -/
def State.offerFault (s : State) (c k : Nat) (o : Offer) (e : Cpl) : State :=
  match s.slot? c k with
  | some x =>
    if x.ctx = o.ctx then
      s.faultSlot c k { cause := causeOf e, pc := o.pc, addr := o.va, frame := if e = .refused then frameOf o.pa else 0xFFFF }
    else s
  | none => s

/-- What an offer's end does to its issuer: a stale offer is counted, a failed one of a context faults it. -/
def State.offerEnd (s : State) (id : Nat) (o : Offer) (e : Cpl) (stale : Bool) : State :=
  let s1 := { s with offers := tdel id s.offers }
  if e = .ok then (if stale then s1.addStale o.ctx else s1)
  else match o.issuer with | .fwait c k => s1.offerFault c k o e | _ => s1

/-- Is an offer's release complete? -/
def State.offerReady (s : State) (o : Offer) : Bool :=
  match o.issuer with
  | .fwait c k => s.released c k o.groups o.after
  | _ => s.allDone o.after

/-- Has an offer been sent to a peer, or to the host home? -/
def State.offerSent (s : State) (id : Nat) : Bool := s.reqs.any (fun r => r.2.issuer == .offer id)

/-- Do two offers come from one engine (R328)? A sift unit is one of its own; the hub is one for all its queues. -/
def sameMaker (a b : Offer) : Bool :=
  match a.unit, b.unit with
  | some u, some v => u == v
  | none, none => (match a.issuer, b.issuer with | .command _, .command _ => true | i, j => i == j)
  | _, _ => false

/-- Is a request one of the stream that made an offer? -/
def Offer.stream (o : Offer) (q : Req) : Bool :=
  match o.unit, o.issuer, q.issuer with
  | none, .fwait c k, .store c' k' => c == c' && k == k'
  | none, .fwait c k, .scalar c' k' => c == c' && k == k'
  | none, .copy a, .copy b => a == b
  | _, _, _ => false

/-- No earlier access of the same engine to the word is still to take effect (R28). -/
def State.offerFirst (s : State) (id : Nat) (o : Offer) : Bool :=
  s.offers.all (fun p => !(decide (p.1 < id) && sameMaker p.2 o && p.2.pa == o.pa)) &&
  s.reqs.all (fun r => !(decide (r.1 < id) && o.stream r.2 && r.2.status.isNone && overlap (r.2.pa, r.2.len) (o.pa, 8)))

/-- Has the home of a word no transaction on its line (R309)? -/
def State.lineFree (s : State) (pa : Nat) : Bool :=
  match s.homeOf pa with | some h => (tget (lineOf pa) (s.home h).txns).isNone | none => true

/-- May an offer be made now: its release is complete, and its turn at the word has come? -/
def State.offerGo (s : State) (id : Nat) (o : Offer) : Bool := s.offerReady o && s.offerFirst id o && s.lineFree o.pa

/-- An offer goes out as a request: to the home behind a peer's links, or to the host home (R435, R454). -/
def State.offerReq (s : State) (id : Nat) (o : Offer) (len : Nat) (d : Bytes) : State :=
  s.issueReq { kind := .putHome, issuer := .offer id, ctx := o.ctx, folio := o.folio, epoch := o.epoch, qos := o.qos, pa := o.pa,
               len, data := d, va := o.va, pc := o.pc, atomic := true }

/-- An offer in the form of an AMO. -/
def Offer.amo (o : Offer) : Bytes := amoData 4 4 (o.value.setWidth 64) 0

/-- FENCE_OFFER (R227): at a word of package memory the offer is made and its watchers woken; a word of host memory is offered at the host
home as an atomic is (R454), for a peer's word its packet goes out, and the completion ends it (R435). -/
def execFenceOffer (offer : Nat) (s : State) : Host.Outcome State Fault Refusal :=
  match tget offer s.offers with
  | none => stay s
  | some o =>
    if ¬ s.offerGo offer o then stay s
    else
      match s.route o.pa with
      | .peer i off =>
        if s.offerSent offer then stay s
        else if (s.peerLink o.folio i off).isNone then .next (s.offerEnd offer o .noPeer false)
        else if s.peerGone i then .next (s.offerEnd offer o .lost false)
        else .next (s.offerReq offer o 8 (le 8 o.value.toNat))
      | .host _ => if s.offerSent offer then stay s else .next (s.offerReq offer o 4 o.amo)
      | _ =>
        match s.offerAt o.ctx o.folio o.epoch o.pa o.value with
        | (e, stale, s1) => .next (s1.offerEnd offer o e stale)

/-! ## FSIG, FWAIT, FENCE -/

/-- FSIG (R227): a posted offer. -/
def execFsig (core : Nat) (w : Word) (s : State) : Host.Outcome State Fault Refusal :=
  s.issue core w 0x30 none (fun s1 k x =>
    let a := (x.sr (fd w 53 5)).toNat
    if a % 8 ≠ 0 then s1.faultAt core k x 0x0B a
    else
      match s1.xlate core k x a 3 0 with
      | .error s2 => s2
      | .ok (pa, _, s2) =>
        let f := s2.ctxFolio x.ctx
        (s2.postOffer { va := a, pa, value := (x.sr (fd w 48 5)).setWidth 32, scope := fd w 46 2, ctx := x.ctx,
                        folio := f, epoch := (s2.folio f).epoch, issuer := .fwait core k, qos := x.qos, groups := fd w 38 8,
                        after := (s2.storesOf core k).filterMap (fun r => if unseen (fd w 46 2) r.2 then some r.1 else none), pc := x.pc }).retire core k x.advance)

/-- Does the word lie behind a peer's links? -/
def State.isPeer (s : State) (pa : Nat) : Bool := match s.route pa with | .peer _ _ => true | _ => false

/-- An unsatisfied FWAIT waits: with a watch entry, or polling (R229, R658). A peer's word is read again even with an entry. -/
def State.fwaitWait (s : State) (c k : Nat) (x : Slot) (w : Word) (a pa : Nat) (target : BitVec 32) (tmo : Nat) : State :=
  let r := s.takeWatch { pa, target, who := .fwait c k, folio := s.ctxFolio x.ctx }
  let limit := if tmo = 0 then none else some (s.hubCount + 1000 * tmo)
  let f : FenceWait := { va := a, pa, target, rd := fd w 53 5, deadline := limit, poll := !r.1 || s.isPeer pa, scope := fd w 36 2,
                         last := s.hubCount, useNo := r.2.nextId }
  r.2.bumpId.setSlot c k { x with wait := .fence f }

/-- FWAIT with the bytes of its first read (R228). -/
def State.fwaitRead (s : State) (c k : Nat) (x : Slot) (w : Word) (a pa : Nat) (b : Bytes) : State :=
  let target := (x.sr (fd w 43 5)).setWidth 32
  if satisfies (BitVec.ofNat 32 (unle (b.take 4))) target then s.retire c k (x.setSr (fd w 53 5) 0).advance
  else s.fwaitWait c k x w a pa target (x.sr (fd w 38 5)).toNat

/-- FWAIT (R228): rd := 0 when the word satisfies the target, else the wait. The point of coherence of a word of host memory or of a peer
is reached by a request, whose answer the instruction awaits. -/
def execFwait (core : Nat) (w : Word) (s : State) : Host.Outcome State Fault Refusal :=
  s.issue core w 0x31 none (fun s1 k x =>
    let a := (x.sr (fd w 48 5)).toNat
    if a % 8 ≠ 0 then s1.faultAt core k x 0x0B a
    else
      match x.wait with
      | .mem r => (match s1.req? r with
        | some q =>
          let s2 := s1.dropReq r
          if q.status = some .ok then s2.fwaitRead core k { x with wait := .none } w a q.pa q.rdata
          else (s2.modSlot core k (fun y => { y with wait := .none })).faultOn core k x (q.status.getD .lost) q.pa q.va
        | none => s1.stall core k x)
      | _ =>
        match s1.xlate core k x a 0 0 with
        | .error s2 => s2
        | .ok (pa, _, s2) =>
          if s2.storeBusy core k (lineOf pa) then s2.stall core k x
          else
            match s2.route pa with
            | .hole => s2.faultAt core k x 0x08 a
            | .hbm =>
              (match s2.readLine x.ctx (s2.ctxFolio x.ctx) pa 4 with
               | (.ok, b, s3) => s3.fwaitRead core k x w a pa b
               | (e, _, s3) => s3.faultOn core k x e pa a)
            | _ => s2.waitReq core k (s2.reqFor core x .glance (.scalar core k) pa 4 a))

/-- FWAIT_TIMEOUT (R228): rd := 1, or 0 when the word satisfies the target by then. -/
def execFwaitTimeout (core slot : Nat) (s : State) : Host.Outcome State Fault Refusal :=
  match (s.live? core slot).map (fun (x : Slot) => x.wait) with
  | some (.fence f) => if s.fenceOver f then .next (s.fenceCheck core slot) else stay s
  | _ => stay s

/-- Hub cycles between two re-reads of a word (R229, R658): 1 us for package memory, 2 us for host memory and peer windows. -/
def State.pollNs (s : State) (pa : Nat) : Nat := match s.route pa with | .hbm => 1000 | _ => 2000

/-- The wait of a slot after its word was read again without success. -/
def State.pollAgain (s : State) (c k : Nat) (f : FenceWait) : State :=
  s.modSlot c k (fun y => { y with wait := .fence f })

/-- A re-read has failed: the wait ends in the fault of its FWAIT. -/
def State.pollFault (s : State) (c k : Nat) (x : Slot) (f : FenceWait) (e : Cpl) : State :=
  (s.dropWatch (.fwait c k)).faultOn c k x e f.pa f.va

/-- FWAIT_POLL (R229, R658): the word is read again, at its period, by the core or by the doorbell watch unit. The read of a word outside
package memory goes out first; its answer is taken when it has come. A wait whose word stands satisfied ends at once. -/
def execFwaitPoll (core slot : Nat) (s : State) : Host.Outcome State Fault Refusal :=
  match s.slot? core slot with
  | none => stay s
  | some x =>
    match x.wait with
    | .fence f =>
      if x.fault.isSome ∨ s.ctxStopped x.ctx then stay s
      else if s.fenceMet f then .next (s.fenceCheck core slot)
      else
        match f.ask with
        | some r =>
          (match s.req? r with
           | none => .next (s.pollAgain core slot { f with ask := none })
           | some q => (match q.status with
             | none => stay s
             | some .ok =>
               let s1 := (s.dropReq r).pollAgain core slot { f with ask := none }
               if satisfies (BitVec.ofNat 32 (unle (q.rdata.take 4))) f.target then .next (s1.fenceHit core slot) else .next s1
             | some e => .next ((s.dropReq r).pollFault core slot x f e)))
        | none =>
          if ¬ f.poll ∨ s.hubCount < f.last + s.pollNs f.pa then stay s
          else
            match s.route f.pa with
            | .hbm =>
              (match s.readLine x.ctx (s.ctxFolio x.ctx) f.pa 4 with
               | (.ok, b, s1) =>
                 let s2 := s1.pollAgain core slot { f with last := s.hubCount }
                 if satisfies (BitVec.ofNat 32 (unle b)) f.target then .next (s2.fenceHit core slot) else .next s2
               | (e, _, s1) => .next (s1.pollFault core slot x f e))
            | _ =>
              .next ((s.issueReq (s.reqFor core x .glance (.scalar core slot) f.pa 4 f.va)).pollAgain core slot
                { f with last := s.hubCount, ask := some s.nextId })
    | _ => stay s

/-- FENCE (R230, R335): with REL it retires only when its release is complete at SCOPE; reads earlier in the stream have
completed when it issues. -/
def execFence (core : Nat) (w : Word) (s : State) : Host.Outcome State Fault Refusal :=
  s.issue core w 0x32 none (fun s1 k x =>
    if fbit w 55 ∧ ¬ s1.released core k (fd w 46 8) (s1.unseenStores core k (fd w 56 2)) then s1.stall core k x
    else s1.retire core k x.advance)

/-! ## Barriers (R231-R233) -/

/-- Has every rank arrived for a phase of a barrier, as a slot has seen it? -/
def Slot.allArrived (x : Slot) (id phase : Nat) : Bool :=
  (List.range x.nrank).all (fun r => decide (phase ≤ tgetD 0 (id * 65536 + r) x.barSeen))

/-- The phase in which the slot last arrived at a barrier: its count of arrivals. -/
def Slot.phaseOf (x : Slot) (id : Nat) : Nat := tgetD 0 id x.barPhase

/-- Ends a barrier wait that is complete; BARWAIT takes its cycles (R204). -/
def Slot.barEnd (x : Slot) (now : Nat) : Slot :=
  match x.wait with
  | .bar id p t => if x.allArrived id p then { x.advance with wait := .none, barWait := x.barWait + (now - t) } else x
  | _ => x

/-- An arrival as one slot of the launch has seen it. -/
def Slot.sees (x : Slot) (id rank phase : Nat) : Slot :=
  { x with barSeen := tput (id * 65536 + rank) (max phase (tgetD 0 (id * 65536 + rank) x.barSeen)) x.barSeen }

/-- A waiting BAR of a slot that runs is checked (R231, R240). -/
def State.barCheck (s : State) (c k : Nat) : State :=
  match s.live? c k with
  | some x => s.setSlot c k (x.barEnd (s.count (coreIsland c)))
  | none => s

/-- A wait of a slot that runs again is checked (R240). -/
def State.recheck (s : State) (c k : Nat) : State := (s.barCheck c k).fenceCheck c k

/-- The waits of a context's slots that run are checked. -/
def State.recheckCtx (s : State) (ctx : Nat) : State := foldS (s.slotsOf ctx) s (fun st y => st.recheck y.1 y.2.1)

/-- An arrival delivered to every slot of a context; the waits that it completes end in the slots that run. -/
def State.arrive (s : State) (ctx id rank phase : Nat) : State :=
  foldS (s.slotsOf ctx) s (fun st y => (st.modSlot y.1 y.2.1 (fun z => z.sees id rank phase)).barCheck y.1 y.2.1)

/-- Ranks of a launch that do not all stand on this package: fewer slots here hold its context than it has ranks (R232). How such a
launch comes about the spec does not say (log 110). -/
def State.spansPackages (s : State) (x : Slot) : Bool := decide ((s.slotsOf x.ctx).length < x.nrank)

/-- The hub carries an arrival over a stitch link to each peer that it can reach (R233, R435). The message's payload is not given:
free bytes (log 110). -/
def State.barSend (s : State) (m : BarMsg) : State :=
  let f := s.ctxFolio m.ctx
  foldS (List.range 15) s (fun st i =>
    match st.peerLink f i 0 with
    | none => st
    | some l =>
      if st.peerGone i then st
      else (st.send ⟨l, stitchHdr 5 0 (st.folio f).epoch m.ctx f 1 0 0xFFFF 0, st.freeBytes 64⟩).useFree)

/-- BARRIER_ARRIVAL (R231, R233): once its release is complete, the message reaches every rank, those on other packages over the links. -/
def execBarrierArrival (msg : Nat) (s : State) : Host.Outcome State Fault Refusal :=
  match tget msg s.bars with
  | none => stay s
  | some m =>
    if ¬ s.released m.core m.slot m.groups m.after then stay s
    else
      let s1 := { s with bars := tdel msg s.bars }
      let far := match s.slot? m.core m.slot with | some x => x.ctx == m.ctx && s.spansPackages x | none => false
      .next ((if far then s1.barSend m else s1).arrive m.ctx m.id m.rank m.phase)

/-- The slot's arrival at a barrier: its phase rises and its message is sent (R231). -/
def State.barArrive (s : State) (c k : Nat) (x : Slot) (id scope groups : Nat) : State :=
  { s with
    bars := tput s.nextId { ctx := x.ctx, rank := x.rank, id, phase := x.phaseOf id + 1, scope, groups,
                            after := s.unseenStores c k scope, core := c, slot := k } s.bars
    nextId := s.nextId + 1 }

/-- The slot waits at a barrier, or goes on when every rank has arrived. -/
def State.barWaitAt (s : State) (c k : Nat) (x : Slot) (id : Nat) : State :=
  s.setSlot c k (({ x with wait := .bar id (x.phaseOf id) (s.count (coreIsland c)) }).barEnd (s.count (coreIsland c)))

/-- BAR (R226, R231, R232): arrive, wait, or both. -/
def execBar (core : Nat) (w : Word) (s : State) : Host.Outcome State Fault Refusal :=
  s.issue core w 0x33 none (fun s1 k x =>
    let op := fd w 56 2
    let id := fd w 52 4
    let scope := fd w 50 2
    let up := { x with barPhase := tput id (x.phaseOf id + 1) x.barPhase }
    if scope = 0 ∨ (scope = 1 ∧ s1.spansPackages x) then s1.faultAt core k x 0x0F 0
    else if op = 1 then s1.barWaitAt core k x id
    else
      let s2 := s1.barArrive core k x id scope (fd w 42 8)
      if op = 0 then s2.retire core k up.advance else s2.barWaitAt core k up id)

end Sys2Proof.Machine
end

