-- ==== Sys2Proof/Machine/Arbiter.lean ====
section
/-! DEFINITION. Sys2Proof/Machine/Arbiter.lean: where a request comes from, its arrival at its home, and the arbiters' choice (08 R270, R282, R287-R291, R294; 09 R309, R313). -/

namespace Sys2Proof.Machine

/-! ## Where a request comes from (R265, R270) -/

/-- The router of a core. -/
def State.coreNode (s : State) (c : Nat) : Node := s.sliceNode (s.sliceOf c)

/-- The router of a waiter's engine; the hub's commands have none. -/
def State.waiterNode (s : State) : Waiter → Option Node
  | .fwait c _ => some (s.coreNode c)
  | .copy c => some (engineEdge (c / 16))
  | .command _ => none

/-- The router at which a request enters the networks; none: it comes from the hub, which enters at the hub port of the home's die. -/
def State.srcOf (s : State) (q : Req) : Option Node :=
  match q.issuer with
  | .scalar c _ => some (s.coreNode c)
  | .store c _ => some (s.coreNode c)
  | .burst c _ _ _ => some (s.coreNode c)
  | .copy c => some (engineEdge (c / 16))
  | .stitch l _ => some (linkEdge l)
  | .hub _ => none
  | .offer i => (tget i s.offers).bind (fun o => s.waiterNode o.issuer)

/-- The router of a home's die that serves it: of a memory slice, or the hub port of the requester's die for host memory. -/
def homeNode (h die : Nat) : Node := if h < 64 then homeEdge h else hubEdge die

/-- The die of a request's source; a request of the hub stands on that of its home. -/
def State.srcDie (s : State) (h : Nat) (q : Req) : Nat := match s.srcOf q with | some n => n.die | none => h / 32 % 2

/-- Can a request reach its home: does no spine lane on its way re-initialise (R282)? -/
def State.reaches (s : State) (h : Nat) (q : Req) : Bool :=
  match s.srcOf q with | some n => s.wayOpen n (homeNode h n.die) | none => true

/-! ## Arrival and order at a home (R28, R309, R313) -/

/-- Do two issuers belong to one engine (R328)? -/
def sameEngine : Issuer → Issuer → Bool
  | .scalar c k, .scalar c' k' => c == c' && k == k'
  | .scalar c k, .store c' k' => c == c' && k == k'
  | .store c k, .scalar c' k' => c == c' && k == k'
  | .store c k, .store c' k' => c == c' && k == k'
  | .burst c _ _ _, .burst c' _ _ _ => c == c'
  | .copy a, .copy b => a == b
  | .stitch a _, .stitch b _ => a == b
  | _, _ => false

/-- No earlier request of the same engine to the same bytes is still outstanding (R28). -/
def State.inOrder (s : State) (id : Nat) (q : Req) : Bool :=
  s.reqs.all (fun r => !(decide (r.1 < id) && sameEngine r.2.issuer q.issuer && r.2.status.isNone && overlap (r.2.pa, r.2.len) (q.pa, q.len)))

/-- Is no transaction in progress on a request's lines at its home (R309)? -/
def State.txnFree (s : State) (h : Nat) (q : Req) : Bool := (linesOf q.pa q.len).all (fun l => (tget l (s.home h).txns).isNone)

/-- Transactions of a request still in progress at a home. -/
def State.txnsOf (s : State) (h id : Nat) : Bool := (s.home h).txns.any (fun t => t.2.req == some id)

/-- Does a request wait to be taken up by its home? -/
def State.unserviced (s : State) (h id : Nat) (q : Req) : Bool :=
  q.status.isNone && q.grant.isNone && !q.sent && q.bias != 1 && s.homeOf q.pa == some h && !s.txnsOf h id

/-- The cycle count by which a home stamps arrivals: of its die's fabric, or of the hub. -/
def State.homeClock (s : State) (h : Nat) : Nat := if h < 64 then (s.fabric (h / 32)).count else s.hubCount

/-- A request in its home's input queue, stamped with its arrival: requests of the hub and of copy engines follow the clusters' (R313). -/
def Req.arrive (q : Req) (now : Nat) : Req := if q.arr.isSome then q else { q with arr := some (now, q.slice.getD 128) }

/-- Did one request reach its home before another? -/
def arrivedBefore (a b : Nat × Req) : Bool :=
  match a.2.arr, b.2.arr with
  | some (t, r), some (u, v) => decide (t < u) || (t == u && (decide (r < v) || (r == v && decide (a.1 < b.1))))
  | some _, none => true
  | _, _ => false

/-- Has the host been asked for a request's line, and not answered? The request holds its place in the line's order. -/
def Req.atHost (q : Req) : Bool := q.status.isNone && (q.bias == 1 || (q.sent && decide (hostBase ≤ q.pa)))

/-- Do two requests touch a line both? -/
def sameLines (a b : Req) : Bool := decide (a.pa / 64 * 64 < b.pa + b.len ∧ b.pa / 64 * 64 < a.pa + a.len)

/-- No request that reached the home before waits for one of the lines (R309, R313). -/
def State.lineFirst (s : State) (h id : Nat) (q : Req) : Bool :=
  s.reqs.all (fun r => r.1 == id || !sameLines r.2 q ||
    !(r.2.atHost || (s.unserviced h r.1 r.2 && arrivedBefore r (id, q))))

/-- Does a request need a directory entry of its line? -/
def Req.caches (q : Req) : Bool := q.kind == .getShare || q.kind == .getOwn || q.kind == .upgrade

/-- The directory set of a line (R304). -/
def dirSet (line : Nat) : Nat := line / 64 % 4096

/-- The ways of a line's set that are taken: by entries, and by transactions that will make one. -/
def State.dirUsed (s : State) (h line : Nat) : Nat :=
  let hm := s.home h
  (hm.dir.filter (fun e => dirSet e.1 == dirSet line)).length +
  (hm.txns.filter (fun t => dirSet t.1 == dirSet line && (tget t.1 hm.dir).isNone && (t.2.req.bind s.req?).any Req.caches)).length

/-- The entry of a line's set that a recall gives up: the least recently used one with no transaction in progress (R305). -/
def State.dirVictim (s : State) (h line : Nat) : Option Nat :=
  (s.home h).lru.find? (fun l => dirSet l == dirSet line && l != line && (tget l (s.home h).txns).isNone)

/-- Has the directory an entry for a request's line, or room for one (R304, R305)? -/
def State.dirRoom (s : State) (h : Nat) (q : Req) : Bool :=
  let line := lineOf q.pa
  !q.caches || (tget line (s.home h).dir).isSome || decide (s.dirUsed h line < 16) || (s.dirVictim h line).isSome

/-- May a home take up a request now? -/
def State.canServe (s : State) (h id : Nat) (q : Req) : Bool :=
  s.unserviced h id q && s.inOrder id q && s.txnFree h q && s.lineFirst h id q && s.dirRoom h q && !s.keyWait q

/-! ## Arbiters (R288, R289) -/

/-- The weights in force on a die (R289). -/
def State.qosWt (s : State) (die : Nat) : List Nat := (List.range 8).map (fun c => s.fld (rQosWt die) (4 * c) 4)

/-- The next class of a round: the class it stands at while it has weight left and a request waits, else a lower one. -/
def Round.go (has : Nat → Bool) : (fuel : Nat) → Round → Option (Nat × Round)
  | 0, _ => none
  | fuel + 1, r =>
    if r.n < (r.wt[r.cls]?).getD 0 ∧ has r.cls then some (r.cls, { r with n := r.n + 1 })
    else if r.cls = 0 then none
    else Round.go has fuel { r with cls := r.cls - 1, n := 0 }

/-- The next class of the weighted round (R288): a new round starts, with the weights then in force, when the one in progress has no class left. -/
def Round.next (wt : List Nat) (has : Nat → Bool) (r : Round) : Option (Nat × Round) :=
  match r.go has 8 with | some x => some x | none => Round.go has 8 { wt, cls := 7, n := 0 }

/-- The master whose urgency a request takes (R290): a stitch link's pool, or a copy channel marked stream. -/
def State.masterOf (s : State) (q : Req) : Option Nat :=
  match q.issuer with
  | .stitch l _ => some (2 + l)
  | .copy c => (s.chan c).stream
  | _ => none

/-- The level of a master as every arbiter holds it (R291). -/
def State.urgLevel (s : State) (m : Nat) : Nat := tgetD 0 m s.urgency

/-- The level of a waiting request: its master's at present. -/
def State.urgOf (s : State) (q : Req) : Nat := match s.masterOf q with | some m => s.urgLevel m | none => 0

/-- The first to arrive of some requests. -/
def oldestOf (l : List (Nat × Req)) : Option (Nat × Req) := l.find? (fun a => l.all (fun b => a.1 == b.1 || arrivedBefore a b))

/-- An arbiter's choice among waiting requests (R288), and its round afterwards. Of classes that all have weight 0 the oldest request
is served (DESIGN CHOICE, log 119). -/
def State.arbPick (s : State) (die : Nat) (r : Round) (l : List (Nat × Req)) : Option (Nat × Round) :=
  match oldestOf (l.filter (fun x => s.urgOf x.2 == 2)) with
  | some x => some (x.1, r)
  | none =>
    match oldestOf (l.filter (fun x => s.urgOf x.2 == 1)) with
    | some x => some (x.1, r)
    | none =>
      match r.next (s.qosWt die) (fun c => l.any (fun x => x.2.qos == c)) with
      | some (c, r1) => (oldestOf (l.filter (fun x => x.2.qos == c))).map (fun x => (x.1, r1))
      | none => (oldestOf l).map (fun x => (x.1, r))

/-- The arbiter that a request waits at: of its home, or of the hub port of its die; and the die whose weights rule it. -/
def State.arbiterOf (s : State) (h : Nat) (q : Req) : Nat × Nat := if h < 64 then (h, h / 32) else (64 + s.srcDie h q, s.srcDie h q)

/-- The requests that have reached an arbiter and could be served. -/
def State.waitingAt (s : State) (h arb : Nat) : List (Nat × Req) :=
  s.reqs.filter (fun r => r.2.arr.isSome && (s.arbiterOf h r.2).1 == arb && s.canServe h r.1 r.2)

/-- A home takes up a request when its arbiter chooses it. -/
def State.arbitrate (s : State) (h id : Nat) (q : Req) : Option State :=
  let a := s.arbiterOf h q
  match s.arbPick a.2 (tgetD {} a.1 s.rounds) (s.waitingAt h a.1) with
  | some (i, r) => if i = id then some { s with rounds := tputD {} a.1 r s.rounds } else none
  | none => none

/-! ## Latency (R294, R295) -/

/-- A home's latency maxima; home 64, of host memory, has none. -/
def State.measure (s : State) (h qos folio lat : Nat) : State :=
  if 64 ≤ h then s
  else
    let r := if (s.memSlice h).owner = folio then rLatOwn h (qos / 2) else rLatOth h (qos / 2)
    s.setFld r (32 * (qos % 2)) 20 (max (s.fld r (32 * (qos % 2)) 20) (min 0xFFFFF lat))

/-- A home sends the first flit of its response to a request: the latency since the request's arrival is measured. -/
def State.latency (s : State) (q : Req) : State :=
  match q.arr, s.homeOf q.pa with
  | some (t, _), some h => s.measure h q.qos q.folio (s.homeClock h - t)
  | _, _ => s

end Sys2Proof.Machine
end

