-- ==== Sys2Proof/Machine/Dma.lean ====
section
/-! DEFINITION. Sys2Proof/Machine/Dma.lean: the tile DMA and prefetch scripts (05 R167-R181, 06 R220-R224, 08 R277-R278). -/

namespace Sys2Proof.Machine

/-! ## Tile descriptors (R167) -/

/-- A tile descriptor's fields. -/
structure Tile where
  va : Nat
  xlen : Nat
  ycnt : Nat
  zcnt : Nat
  ystr : Int
  zstr : Int
  laddr : Nat
  lyp : Nat
  lzp : Nat
  op : Nat
  flags : Nat
  group : Nat
  rect : Nat
  deriving DecidableEq, Repr

/-- The fields of the 64 bytes. -/
def tileOf (b : Bytes) : Tile :=
  { va := fieldLe b 0 8, xlen := fieldLe b 8 4, ycnt := fieldLe b 12 2 + 1, zcnt := fieldLe b 14 2 + 1,
    ystr := sext (fieldLe b 16 8) 64, zstr := sext (fieldLe b 24 8) 64, laddr := fieldLe b 32 4, lyp := fieldLe b 36 4,
    lzp := fieldLe b 40 4, op := fieldLe b 44 1, flags := fieldLe b 45 1, group := fieldLe b 46 1, rect := fieldLe b 48 4 }

/-- Does the tile go through the home: the coherent flag, or the volatile flag of a load (R167, R170)? -/
def Tile.coherent (t : Tile) : Bool := bit t.flags 0 || (bit t.flags 1 && t.op != 1)

/-- The rules of R168: a descriptor that breaks one faults with cause 0x05. `entry`: a script entry (R178). -/
def Tile.ok (t : Tile) (b : Bytes) (entry : Bool) : Bool :=
  (if entry then bits t.va 52 8 == 0 && decide (t.op ≠ 1) else decide (t.va < 2 ^ 52)) &&
  decide (32 ≤ t.xlen ∧ t.xlen ≤ 65536 ∧ t.xlen % 32 = 0) &&
  decide (t.ystr % 32 = 0) && decide (t.zstr % 32 = 0) && decide (t.op ≤ 3) && decide (t.flags < 4) &&
  (entry || decide (t.group < 8)) && fieldLe b 47 1 == 0 && allZero (slice b 52 12) && (t.op == 2 || t.rect == 0) &&
  (t.op == 3 || (decide (t.laddr % 32 = 0) && decide (t.lyp % 32 = 0 ∧ t.xlen ≤ t.lyp) &&
    decide (t.lzp % 32 = 0 ∧ t.ycnt * t.lyp ≤ t.lzp)))

/-- End of the tile's scratchpad extent (R168). -/
def Tile.lend (t : Tile) : Nat := t.laddr + (t.zcnt - 1) * t.lzp + (t.ycnt - 1) * t.lyp + t.xlen

/-- The rows: memory address and scratchpad address (R168). -/
def Tile.rows (t : Tile) : List (Int × Nat) :=
  (List.range t.zcnt).flatMap (fun (z : Nat) => (List.range t.ycnt).map (fun (y : Nat) =>
    (((t.va : Int) + (z : Int) * t.zstr + (y : Int) * t.ystr), t.laddr + z * t.lzp + y * t.lyp)))

/-! ## Multicast rectangles (R277, R278) -/

/-- Is the rectangle's encoding in range? -/
def rectOk (r : Nat) : Bool :=
  decide (bits r 0 4 ≤ 11 ∧ bits r 4 4 ≤ 11 ∧ bits r 0 4 ≤ bits r 4 4 ∧ bits r 8 3 ≤ 5 ∧ bits r 11 3 ≤ 5 ∧
    bits r 8 3 ≤ bits r 11 3 ∧ bits r 14 2 ≠ 0 ∧ r < 2 ^ 16)

/-- Does a core slice belong to a folio under an epoch (R278)? -/
def sliceUnder (e : SliceE) (f epoch : Nat) : Bool :=
  match e.st with
  | .owned => e.owner == f
  | .free => false
  | _ => ownedUnder e f epoch

/-- The check of R278. -/
def State.rectFits (s : State) (r f epoch : Nat) : Bool :=
  rectOk r && (List.range 128).all (fun n => !s.inRect r n || sliceUnder (s.coreSlice n) f epoch)

/-- The slots of the rectangle that hold the context (R171). -/
def State.rectSlots (s : State) (r ctx : Nat) : List (Nat × Nat) :=
  ((s.slotsOf ctx).filter (fun x => s.inRect r (s.sliceOf x.1))).map (fun x => (x.1, x.2.1))

/-! ## Translation of a tile (R172, R173) -/

/-- The 32 MiB pages that any byte of the tile touches, ascending, each with the lowest such address; none: an address
beyond 52 bits, with the lowest one. -/
def Tile.pages (t : Tile) : List (Nat × Nat) :=
  let add := fun (m : Tbl Nat) (p a : Nat) => match tget p m with | some b => tput p (min a b) m | none => tput p a m
  t.rows.foldl (fun m r =>
    let a := (r.1 % (2 ^ 64 : Int)).toNat
    (List.range ((a + t.xlen - 1) / 2 ^ 25 + 1 - a / 2 ^ 25)).foldl (fun m2 i =>
      add m2 (a / 2 ^ 25 + i) (max a ((a / 2 ^ 25 + i) * 2 ^ 25))) m) []

/-- How the translation of a tile ends: the page table of the tile, a miss, a fault. -/
inductive TileX where
  | ok (map : Tbl (Option Nat)) | miss (va : Nat) | fault (va sub lvl : Nat) | span | hole (va : Nat)
  deriving DecidableEq, Repr

/-- Page by page in ascending order (R173). The map gives each 32 MiB page its physical base, or none where a prefetch drops
the page's part (R169, R357), such as those of `dropped`. `seen` counts distinct pages; `last` is the end of the last page translated. -/
def State.xlateTile (s : State) (c ctx : Nat) (accOf : Nat → Nat) (prefetch : Bool) (dropped : List Nat) :
    List (Nat × Nat) → (map : Tbl (Option Nat)) → (seen last : Nat) → TileX × State
  | [], map, _, _ => (.ok map, s)
  | (p, va) :: t, map, seen, last =>
    let fresh := decide (last ≤ va)
    if fresh ∧ seen = 8 then (.span, s)
    else
      match s.lookup c ctx va (accOf va) with
      | (.pa a nc, s1) =>
        let big := (s1.core c).tlb.any (fun e => e.hits ctx va && e.big)
        let stop := if big then (va / 2 ^ 31 + 1) * 2 ^ 31 else (p + 1) * 2 ^ 25
        State.xlateTile s1 c ctx accOf prefetch dropped t (tput p (if prefetch && nc then none else some (a - va % 2 ^ 25)) map)
          (if fresh then seen + 1 else seen) stop
      | (.miss, s1) =>
        if prefetch && dropped.contains p then
          State.xlateTile s1 c ctx accOf prefetch dropped t (tput p none map) (if fresh then seen + 1 else seen) ((p + 1) * 2 ^ 25)
        else (.miss va, s1)
      | (.fault sub lvl, s1) =>
        if prefetch then State.xlateTile s1 c ctx accOf prefetch dropped t (tput p none map) (if fresh then seen + 1 else seen) ((p + 1) * 2 ^ 25)
        else (.fault va sub lvl, s1)
      | (.hole, s1) => (.hole va, s1)

/-! ## Bursts (R175) -/

/-- The bursts of a row: (address, scratchpad address, length), none across a 256-byte boundary. -/
def rowBursts (a l : Nat) : (fuel n : Nat) → List (Nat × Nat × Nat)
  | 0, _ => []
  | fuel + 1, n =>
    if n = 0 then []
    else
      let k := min n (256 - a % 256)
      (a, l, k) :: rowBursts (a + k) (l + k) fuel (n - k)

/-- All bursts of a tile. -/
def Tile.bursts (t : Tile) : List (Nat × Nat × Nat) :=
  t.rows.flatMap (fun r => rowBursts (r.1 % (2 ^ 64 : Int)).toNat r.2 (t.xlen / 32 + 2) t.xlen)

/-- Outstanding bursts of a core (R222). -/
def State.burstsOf (s : State) (c : Nat) : Nat :=
  (s.reqs.filter (fun r => match r.2.issuer with | .burst c' _ _ _ => c' == c | _ => false)).length

/-- The requests of a translated tile in order (R170, R171, R175): `lane` 2 for a TDMA. A prefetch asks line by line. -/
def State.tileReqs (s : State) (c k : Nat) (x : Slot) (t : Tile) (group lane : Nat) (pc : Word) (map : Tbl (Option Nat)) : List Req :=
  let dest := if t.op = 0 ∨ t.op = 2 then t.rows.map (fun r => (r.2, t.xlen)) else []
  let multi := if t.op = 2 then s.rectSlots t.rect x.ctx else []
  t.bursts.flatMap (fun b =>
    match (tget (b.1 / 2 ^ 25) map).getD none with
    | none => []
    | some base =>
      let pa := base + b.1 % 2 ^ 25
      let r := { s.reqFor c x .rawGet (.burst c k group lane) pa b.2.2 b.1 with
                 laddr := b.2.1, pc, dest, multi, rect := if t.op = 2 then some t.rect else none }
      if t.op = 3 then (linesOf pa b.2.2).map (fun line => { r with kind := .getShare, pa := line, len := 64 })
      else if t.op = 1 then [{ r with kind := if t.coherent then .putHome else .rawPut, data := (s.core c).spRead x b.2.1 b.2.2 }]
      else [{ r with kind := if t.coherent then .glance else .rawGet }])

/-- A burst goes out, under the epoch that its tile took (R414); a prefetch only of a line of this package that the cluster cache lacks
(R169). -/
def State.issueBurst (s : State) (c : Nat) (q : Req) : State :=
  if q.kind ≠ .getShare then s.issueReq q
  else
    match s.route q.pa with
    | .peer _ _ => s
    | .hole => s
    | _ => if (s.line? (s.sliceOf c) q.pa).isSome || s.lineBusy (s.sliceOf c) q.pa then s else s.issueReq q

/-- The first burst that waits goes out, when one of the core's 64 is free (R222). -/
def State.pumpOne (s : State) (c : Nat) : State :=
  match (s.core c).tdma with
  | [] => s
  | q :: t => if 64 ≤ s.burstsOf c then s else (s.setCore c { s.core c with tdma := t }).issueBurst c q

/-- The bursts that wait go out as far as the 64 allow (R153, R181, R222). -/
def State.pump (s : State) (c : Nat) : State := foldS (s.core c).tdma s (fun st _ => st.pumpOne c)

/-- Issues a translated tile: its bursts wait behind those of earlier tiles and of both lanes. -/
def State.issueTile (s : State) (c k : Nat) (x : Slot) (t : Tile) (group lane : Nat) (pc : Word) (map : Tbl (Option Nat)) : State :=
  (s.setCore c { s.core c with tdma := (s.core c).tdma ++ s.tileReqs c k x t group lane pc map }).pump c

/-! ## TDMA -/

/-- The tile checks before translation, after the descriptor's own place: cause of the first that fails (R168, R159, R278). -/
def State.tileFault (s : State) (x : Slot) (t : Tile) (b : Bytes) (entry : Bool) : Option Nat :=
  if ¬ t.ok b entry then some 0x05
  else if t.op ≠ 3 ∧ x.spEnd < t.lend then some 0x03
  else if t.op = 2 ∧ ¬ s.rectFits t.rect (s.ctxFolio x.ctx) (s.folio (s.ctxFolio x.ctx)).epoch then some 0x05
  else none

/-- The access kind of an operation (R357). -/
def Tile.acc (t : Tile) : Nat := if t.op = 1 then 1 else 0

/-- TDMA (R220-R222, R168-R175): descriptor read, checks, translation, then the bursts. -/
def execTdma (core : Nat) (w : Word) (s : State) : Host.Outcome State Fault Refusal :=
  s.issue core w 0x28 none (fun s1 k x =>
    let a := ((x.sr (fd w 53 5)).toNat + fd w 34 19) % 2 ^ 19
    if a % 64 ≠ 0 then s1.faultAt core k x 0x0B a
    else if ¬ x.spIn a 64 then s1.faultAt core k x 0x03 a
    else if ¬ (s1.core core).spFree k x a 64 false then s1.stall core k x
    else
      let b := (s1.core core).spRead x a 64
      let t := tileOf b
      match s1.tileFault x t b false with
      | some cause => s1.faultAt core k x cause t.va
      | none =>
        match s1.xlateTile core x.ctx (fun _ => t.acc) (t.op == 3) x.dropped t.pages [] 0 0 with
        | (.miss va, s2) => s2.waitWalk core k x va t.acc 1 (t.op == 3)
        | (.fault va sub lvl, s2) => s2.xltFault core x.ctx va x.pc.toNat sub t.acc 1 lvl 0
        | (.span, s2) => s2.faultAt core k x 0x06 t.va
        | (.hole va, s2) => s2.faultAt core k x 0x08 va
        | (.ok map, s2) =>
          if 64 ≤ s2.burstsOf core then s2.stall core k x
          else (s2.issueTile core k x t t.group 2 x.pc map).retire core k { x.advance with dropped := [] })

/-- Writes arrived bytes into one slot's scratchpad at a local address, if the slot still holds the context. A router delivers to its cluster only
packets of the folio that owns the cluster (R269). -/
def State.deliver (s : State) (ctx c k l : Nat) (d : Bytes) : State :=
  match s.slot? c k with
  | some x => if x.ctx = ctx ∧ (s.coreSlice (s.sliceOf c)).owner = s.ctxFolio ctx then s.setCore c ((s.core c).spWrite x l d) else s
  | none => s

/-- TILE_DMA_BURST_COMPLETE (R171, R176): data into every receiver, of which a multicast may have none; after an error the
instruction's destination is undefined (free bytes) and the context faults. A squashed burst's data is discarded (R600). The next burst that
waits takes its place (R222). -/
def execTileDmaBurstComplete (req : Nat) (s : State) : Host.Outcome State Fault Refusal :=
  match s.req? req with
  | none => stay s
  | some q =>
    match q.issuer, q.status with
    | .burst c k _ _, some st =>
      let s1 := (s.dropReq req).pump c
      if q.squashed then .next s1
      else
        let rcv := if q.dest = [] then [] else if q.rect.isNone then [(c, k)] else q.multi
        if st = .ok ∧ ¬ q.bad then .next (foldS rcv s1 (fun s2 d => s2.deliver q.ctx d.1 d.2 q.laddr (q.rdata.take q.len)))
        else if st = .ok then .next (foldS rcv s1 (fun s2 d => (s2.deliver q.ctx d.1 d.2 q.laddr (s2.freeBytes q.len)).useFree))
        else
          let s2 := foldS rcv s1 (fun s2 d => foldS q.dest s2 (fun s3 r => (s3.deliver q.ctx d.1 d.2 r.1 (s3.freeBytes r.2)).useFree))
          let s3 := ({ s2 with reqs := tmap (fun _ (r : Req) => if r.issuer = q.issuer ∧ r.pc = q.pc ∧ r.dest = q.dest then { r with bad := true } else r) s2.reqs }).setCore
            c { s2.core c with tdma := (s2.core c).tdma.map (fun (r : Req) => if r.issuer = q.issuer ∧ r.pc = q.pc ∧ r.dest = q.dest then { r with bad := true } else r) }
          .next (s3.faultSlot c k (reqFault q st))
    | _, _ => stay s

/-- DWAIT (R220, R224): completes when no burst of the named groups is outstanding. -/
def execDwait (core : Nat) (w : Word) (s : State) : Host.Outcome State Fault Refusal :=
  s.issue core w 0x29 none (fun s1 k x =>
    if s1.groupBusy core k (fd w 50 8) then s1.setSlot core k { x with wait := .groups (fd w 50 8) }
    else s1.retire core k x.advance)

/-! ## Prefetch scripts (R177-R180) -/

/-- A lane of a slot. -/
def Slot.lane (x : Slot) (l : Nat) : Lane := (x.lanes[l]?).getD {}

/-- Replaces a lane. -/
def Slot.setLane (x : Slot) (l : Nat) (v : Lane) : Slot := { x with lanes := x.lanes.set l v }

/-- SLAUNCH (R177, R220, R223): starts a lane at entry 0 with its own copy of the tensor base table. -/
def execSlaunch (core : Nat) (w : Word) (s : State) : Host.Outcome State Fault Refusal :=
  s.issue core w 0x2A none (fun s1 k x =>
    let a := (x.sr (fd w 47 5)).toNat % 2 ^ 19
    let l := fd w 57 1
    if a % 64 ≠ 0 then s1.faultAt core k x 0x0B a
    else if ¬ x.spIn a 128 then s1.faultAt core k x 0x03 a
    else if (x.lane l).walking then s1.faultAt core k x 0x0A 0
    else if ¬ (s1.core core).spFree k x a 128 false then s1.stall core k x
    else
      let b := (s1.core core).spRead x a 128
      let n : Lane := { walking := true, scriptVa := (x.sr (fd w 52 5)).toNat, bases := (List.range 16).map (fun i => fieldLe b (8 * i) 8),
                        depth := fd w 43 4 + 1, group := fd w 40 3, pc := x.pc }
      s1.retire core k (x.setLane l n).advance)

/-- What a lane's read of its script gives: the bytes, or the state in which the lane waits or has stopped. Of a script address that is
no multiple of 64 the spec says nothing: the 64 bytes from the translated first byte are read (DESIGN CHOICE, log 108). -/
def State.scriptRead (s : State) (c k : Nat) (x : Slot) (l va : Nat) : Except State (Bytes × State) :=
  let n := x.lane l
  match s.lookup c x.ctx va 0 with
  | (.pa a _, s1) =>
    (match s1.readLine x.ctx (s1.ctxFolio x.ctx) a 64 with
     | (.ok, b, s2) => .ok (b, s2)
     | (e, _, s2) => .error (s2.faultSlot c k { cause := causeOf e, pc := n.pc, addr := va, frame := if e = .refused then frameOf a else 0xFFFF }))
  | (.miss, s1) =>
    if s1.walks.any (fun w => w.2.asker.core == c && w.2.asker.slot == k && w.2.asker.source == 2 + l) then .error s1
    else .error ((s1.startWalk (coreDie c) x.ctx va 0 { source := 2 + l, core := c, slot := k, index := n.next, pc := n.pc }).getD s1)
  | (.fault sub lvl, s1) =>
    .error ((s1.xltFault c x.ctx va n.pc.toNat sub 0 (2 + l) lvl n.next).modSlot c k (fun y => y.setLane l { y.lane l with faulted := true }))
  | (.hole, s1) => .error (s1.faultSlot c k { cause := 0x08, pc := n.pc, addr := va })

/-- A script entry as a tile: the tensor base that bits [63:60] select plus the offset (R178). -/
def entryTile (n : Lane) (b : Bytes) : Tile :=
  let t := tileOf b
  { t with va := ((n.bases[bits t.va 60 4]?).getD 0 + bits t.va 0 52) % 2 ^ 64 }

/-- The lane after it has issued an entry (R179). -/
def Lane.issued (n : Lane) (nEntry : Nat) (rep : Bool) : Lane :=
  { n with next := if rep && n.next + 1 == nEntry then 0 else n.next + 1, unreleased := n.unreleased + 1, nEntry, repeating := rep }

/-- Issues one entry of a lane: its checks, its translation (R180), its bursts. -/
def State.issueEntry (s : State) (c k : Nat) (x : Slot) (l nEntry : Nat) (rep : Bool) (b : Bytes) : State :=
  let n := x.lane l
  let t := entryTile n b
  match s.tileFault x { t with va := (tileOf b).va } b true with
  | some cause => s.faultSlot c k { cause, pc := n.pc, addr := t.va }
  | none =>
    match s.xlateTile c x.ctx (fun _ => t.acc) (t.op == 3) x.dropped t.pages [] 0 0 with
    | (.miss va, s2) =>
      if s2.walks.any (fun w => w.2.asker.core == c && w.2.asker.slot == k && w.2.asker.source == 2 + l) then s2
      else (s2.startWalk (coreDie c) x.ctx va t.acc { source := 2 + l, core := c, slot := k, index := n.next, pc := n.pc, prefetch := t.op == 3 }).getD s2
    | (.fault va sub lvl, s2) =>
      (s2.xltFault c x.ctx va n.pc.toNat sub t.acc (2 + l) lvl n.next).modSlot c k (fun y => y.setLane l { y.lane l with faulted := true })
    | (.span, s2) => s2.faultSlot c k { cause := 0x06, pc := n.pc, addr := t.va }
    | (.hole va, s2) => s2.faultSlot c k { cause := 0x08, pc := n.pc, addr := va }
    | (.ok map, s2) =>
      (s2.issueTile c k x t n.group l n.pc map).modSlot c k (fun y => { y.setLane l ((y.lane l).issued nEntry rep) with dropped := [] })

/-- SCRIPT_ENTRY_ISSUE (R178-R181): the lane's next entry, when it walks, keeps fewer than D unreleased entries, the core has
a burst free, the context is not stopped and its rank is not ending (R236). A header with N_ENTRY, N_TENSOR or RSVD outside R178, or an entry
that selects a base at or above N_TENSOR, is not checked: the spec names no fault for it (DESIGN CHOICE, log 109). -/
def execScriptEntryIssue (core slot lane : Nat) (s : State) : Host.Outcome State Fault Refusal :=
  match s.slot? core slot with
  | none => stay s
  | some x =>
    let n := x.lane lane
    if ¬ n.walking ∨ n.faulted ∨ n.depth ≤ n.unreleased ∨ s.ctxStopped x.ctx ∨ x.fault.isSome ∨ x.wait = .halting ∨ 64 ≤ s.burstsOf core then stay s
    else
      match s.scriptRead core slot x lane n.scriptVa with
      | .error s1 => .next s1
      | .ok (h, s1) =>
        let nEntry := fieldLe h 0 4
        let rep := bit (fieldLe h 5 1) 0
        if nEntry ≤ n.next then .next s1
        else
          match s1.scriptRead core slot x lane (n.scriptVa + 64 + 64 * n.next) with
          | .error s2 => .next s2
          | .ok (b, s2) => .next (s2.issueEntry core slot x lane nEntry rep b)

/-- The lane after a release of `count` entries; it stops when all are issued and released (R179, R223). -/
def Lane.released (n : Lane) (count : Nat) : Lane :=
  let m := { n with unreleased := n.unreleased - count }
  if m.unreleased = 0 ∧ m.nEntry ≠ 0 ∧ m.next = m.nEntry ∧ ¬ m.repeating then { m with walking := false } else m

/-- SREL (R179, R223): releases the lane's oldest issued entries. -/
def execSrel (core : Nat) (w : Word) (s : State) : Host.Outcome State Fault Refusal :=
  s.issue core w 0x2B none (fun s1 k x =>
    let l := fd w 57 1
    s1.retire core k (x.setLane l ((x.lane l).released (fd w 53 4 + 1))).advance)

end Sys2Proof.Machine
end

