-- ==== Sys2Proof/Machine/Coherence.lean ====
section
/-! DEFINITION. Sys2Proof/Machine/Coherence.lean: cluster caches, home directories and the messages between them (09 R299-R327, R652; 10 R330, R333). -/

namespace Sys2Proof.Machine

/-! ## Completion of a request at its issuer (R418) -/

/-- STATUS of a completion packet (R435). -/
def stitchStatus : Cpl → Nat
  | .ok => 0 | .refused => 1 | .lost => 2 | .hbmErr => 3 | .integrity => 4 | .noPeer => 1 | .hostErr => 1

/-- SOURCE of an INTEG_FAIL record (R581). -/
def integSrc : Issuer → Nat
  | .burst _ _ _ _ => 1 | .copy _ => 2 | _ => 0

/-- Has a home served a request that completes so, and not with a grant before? -/
def Req.answered (q : Req) (e : Cpl) : Bool := q.grant.isNone && (e == .ok || e == .hbmErr || e == .integrity)

/-- A request completes: a squashed one is discarded (R600), a peer package's is answered over its link (R435), an offer ends, any other
waits for its issuer. -/
def State.finish (s : State) (id : Nat) (q : Req) (e : Cpl) (rdata : Bytes) : State :=
  let s0 := if q.answered e then s.latency q else s
  let s1 := if e = .integrity then s0.integFail q.pa (integSrc q.issuer) else s0
  if q.squashed then s1.dropReq id
  else
    match q.issuer with
    | .stitch l tag =>
      let data := if e = .ok then rdata else []
      let s2 := (s1.dropReq id).send ⟨l, stitchHdr (if data = [] then 9 else 8) q.qos q.epoch q.ctx q.folio (cdiv data.length 64) 0 tag (stitchStatus e), data⟩
      (s2.setStitch l { s2.stitch l with reqPool := min 256 ((s2.stitch l).reqPool + 1) }).send ⟨l, stitchHdr 0x0A 0 0 0 0 0 0 0 0, []⟩
    | .offer i => (match tget i s1.offers with
      | some o => (s1.dropReq id).offerEnd i o e (decide (e = .ok) && (offered (BitVec.ofNat 32 (unle (rdata.take 4))) o.value).2)
      | none => s1.dropReq id)
    | _ => s1.setReq id { q with status := some e, rdata }

/-! ## Requests at a home (R309, R313, R377) -/

/-- Does a request write? -/
def Req.writes (q : Req) : Bool := q.atomic || q.kind == .getOwn || q.kind == .upgrade || q.kind == .putHome || q.kind == .rawPut

/-- Did a request arrive over a stitch link? -/
def Req.remote (q : Req) : Bool := match q.issuer with | .stitch _ _ => true | _ => false

/-- The home's checks on a request (R377), or the translation of a host address (R456): none when it passes. A request from a
peer carries its guest folio, which stands for check 1 (R434). -/
def State.homeCheck (s : State) (q : Req) : Option Cpl :=
  match placeOf q.pa with
  | .hbm =>
    if (if q.remote then s.admitsFolio q.folio q.epoch q.pa q.writes else s.admits q.ctx q.folio q.epoch q.pa q.writes) then none
    else some .refused
  | .host a => if (s.hostAddr q.folio a).isSome then none else some .hostErr
  | _ => some .refused

/-- A request to a position that no slice serves is refused (R412). -/
def State.unserved (s : State) (q : Req) : Bool := decide (s.route q.pa = .hbm) && (s.homeOf q.pa).isNone && q.status.isNone

/-! ## The directory (R304, R305) -/

/-- Stores a directory entry; its line becomes the most recently used. -/
def State.dirPut (s : State) (h line : Nat) (e : DirEntry) : State :=
  s.setHome h { s.home h with dir := tput line e (s.home h).dir, lru := sdel line (s.home h).lru ++ [line] }

/-- Removes a cache from a line's entry; an entry with no holder is freed. -/
def State.dirRemove (s : State) (h line n : Nat) : State :=
  match tget line (s.home h).dir with
  | none => s
  | some e =>
    let sh := sdel n e.sharers
    if sh = [] then s.dirDel h line
    else s.dirPut h line { e with sharers := sh, st := if e.owner = n ∨ e.st = .shared then .shared else e.st }

/-- Records a grant to a cache. -/
def State.dirGrant (s : State) (h line n : Nat) (st : LineSt) : State :=
  match st with
  | .s =>
    (match tget line (s.home h).dir with
     | some e => s.dirPut h line { e with sharers := sadd n e.sharers }
     | none => s.dirPut h line { st := .shared, sharers := [n] })
  | _ => s.dirPut h line { st := .exclusive, owner := n, sharers := [n] }

/-- Counts in HOM_COH_STAT of a home (R327); the host home has no such register. -/
def State.cohCount (s : State) (h lo wd : Nat) : State := if h < 64 then s.bumpFld (rCoh h) lo wd 1 else s

/-- Makes room for a new entry: a full set recalls its least recently used entry without a transaction (R305). -/
def State.makeRoom (s : State) (h line : Nat) : State :=
  if (tget line (s.home h).dir).isSome ∨ s.dirUsed h line < 16 then s
  else
    match s.dirVictim h line with
    | some v => (s.recallLine h v).cohCount h 0 16
    | none => s

/-! ## Sources of data (R311, R312) -/

/-- The nearest sharer on the requester's die, ties to the lower number; never the requester itself (R311, R312, R323). The hub stands on no
die. -/
def State.nearest (s : State) (q : Req) (sharers : List Nat) : Option Nat :=
  (s.srcOf q).bind (fun a => s.nearestSlice a q.slice sharers)

/-- The caches that hold a line, as its home knows. -/
def State.holders (s : State) (h line : Nat) : List Nat :=
  match tget line (s.home h).dir with | some e => e.sharers | none => []

/-- Memory's bytes of a line at its home, or the host-line cache's. -/
def State.homeRead (s : State) (line : Nat) : Cpl × Bytes :=
  match placeOf line with
  | .hbm => s.rawRead line 64
  | .host a => (.ok, match tget line s.hostLines with | some l => l.data | none => mread s.host a 64)
  | _ => (.refused, [])

/-! ## Transactions (R309) -/

/-- Starts a transaction: snoops go out to caches. -/
def State.startTxn (s : State) (h line : Nat) (req : Option Nat) (probes : List (Nat × PrbKind)) : State :=
  let ns := probes.map Prod.fst
  let s1 := s.setHome h { s.home h with txns := tput line { req, waiting := ns, snooped := ns } (s.home h).txns }
  foldS probes s1 (fun st p => st.setCache p.1 { st.cache p.1 with probes := tput line { kind := p.2, req } (st.cache p.1).probes })

/-- Ends a transaction. -/
def State.endTxn (s : State) (h line : Nat) : State := s.setHome h { s.home h with txns := tdel line (s.home h).txns }

/-- Does the hub hold a host line only to read (R306)? -/
def State.hubShares (s : State) (line : Nat) : Bool := match tget line s.hostLines with | some l => l.st == .s | none => false

/-- The state a requester is granted (R308): a host line that the hub shares with the host is shared in the cluster too (R306). -/
def State.grantSt (s : State) (h line : Nat) (q : Req) : LineSt :=
  if q.kind = .getShare then (if s.holders h line = [] ∧ ¬ s.hubShares line then .e else .s) else .m

/-- The home grants a line with data, which travels to the cache. -/
def State.grantWith (s : State) (h line id : Nat) (q : Req) (d : Bytes) : State :=
  let st := s.grantSt h line q
  let n := q.slice.getD 0
  let s1 := ((s.setHome h { s.home h with txns := tput line { (tgetD { req := some id } line (s.home h).txns) with waiting := [] } (s.home h).txns }).dirGrant
    h line n st)
  (s1.latency q).setReq id { q with grant := some st, rdata := d }

/-- The home grants from memory; an unreadable line fails the request. -/
def State.grantMem (s : State) (h line id : Nat) (q : Req) : State :=
  match s.homeRead line with
  | (.ok, d) => s.grantWith h line id q d
  | (e, _) => (s.endTxn h line).finish id q e []

/-- The D2H request of a device request (R454), in the order of its table: 0 RdShared, 1 RdOwn, 2 RdOwnNoData, 3 RdCurr,
4 ItoMWr, 5 WOWrInv, 6 DirtyEvict, 7 CleanEvictNoData, 8 CacheFlushed. -/
def d2hKind (q : Req) : Nat :=
  match q.kind with
  | .getShare => 0
  | .getOwn => 1
  | .upgrade => 2
  | .glance => 3
  | .rawGet => 3
  | _ => if q.atomic then 1 else if q.pa % 64 = 0 ∧ q.len % 64 = 0 then 4 else 5

/-- A request goes on to the host and waits for its answer; a translation that the host denies ends it (R456). -/
def State.toHost (s : State) (id : Nat) (q : Req) : State :=
  if (s.hostAddr q.folio (q.pa - hostBase)).isNone then s.finish id q .hostErr []
  else ((s.atsFill q.folio q.pa).setReq id { q with sent := true, sentAt := s.hubCount }).emit (.d2h (d2hKind q) q.pa)

/-- Is device memory in host bias at an address: the decoder is committed on an up CXL link, the host may reach the frame, and its BIAS is 0
(R460, R461)? -/
def State.hostBias (s : State) (pa : Nat) : Bool :=
  s.link.up && s.link.cxl && s.link.hdmBase.isSome &&
  (match s.server (pa / 2 ^ 33) with
   | none => false
   | some m =>
     let e := s.frame m (pa / 2 ^ 25 % 256)
     !frNoown e && !frCarve e && !frBias e && (frOwner e == 0 || (frShared e && !(s.isConf (frOwner e)))))

/-- The home asks the host for the state of a request's lines (R461): for a read as R454's table has it, for a write with RdOwnNoData
(log 29). -/
def State.askBias (s : State) (id : Nat) (q : Req) : State :=
  foldS (linesOf q.pa q.len) (s.setReq id { q with bias := 1, sentAt := s.hubCount })
    (fun st l => st.emit (.d2h (if q.kind = .putHome ∨ q.kind = .rawPut then 2 else d2hKind q) l))

/-- Does the host-line cache own a line? -/
def State.hubOwns (s : State) (line : Nat) : Bool := match tget line s.hostLines with | some l => l.st == .m || l.st == .e | none => false

/-- Does the host-line cache hold a request's lines well enough to serve it (R306, R339)? A write past the caches, coherent or not, and a
RawGet go to the host (R330, R333). -/
def State.hostHas (s : State) (q : Req) : Bool :=
  match q.kind with
  | .getShare => (tget (lineOf q.pa) s.hostLines).isSome
  | .getOwn => s.hubOwns (lineOf q.pa)
  | .upgrade => s.hubOwns (lineOf q.pa)
  | .glance => (linesOf q.pa q.len).all s.hubOwns
  | .putHome => q.atomic && s.hubOwns (lineOf q.pa)
  | _ => false

/-! ## GetShare, GetOwn, Upgrade (R311, R315) -/

/-- Serves a GetShare. -/
def State.serveShare (s : State) (h id : Nat) (q : Req) : State :=
  let line := lineOf q.pa
  let s1 := s.makeRoom h line
  match tget line (s1.home h).dir with
  | none => s1.grantMem h line id q
  | some e =>
    if e.st ≠ .shared then s1.startTxn h line (some id) [(e.owner, .share)]
    else
      match s1.nearest q e.sharers with
      | some n => s1.startTxn h line (some id) [(n, .share)]
      | none => s1.grantMem h line id q

/-- Serves a GetOwn: the owner, or the nearest sharer, gives up the line with its data; the other holders are invalidated. -/
def State.serveOwn (s : State) (h id : Nat) (q : Req) : State :=
  let line := lineOf q.pa
  let s1 := s.makeRoom h line
  match tget line (s1.home h).dir with
  | none => s1.grantMem h line id q
  | some e =>
    let src := if e.st ≠ .shared then some e.owner else s1.nearest q e.sharers
    match e.sharers.map (fun n => (n, if some n = src then PrbKind.own else PrbKind.inv)) with
    | [] => s1.grantMem h line id q
    | ps => s1.startTxn h line (some id) ps

/-- Serves an Upgrade: the other holders are invalidated, no data moves; a requester no longer listed is served as a GetOwn
(R315). -/
def State.serveUpgrade (s : State) (h id : Nat) (q : Req) : State :=
  let line := lineOf q.pa
  let n := q.slice.getD 0
  let hs := s.holders h line
  if ¬ hs.contains n then
    (let q1 := { q with kind := ReqKind.getOwn }
     (s.setReq id q1).serveOwn h id q1)
  else
    match (sdel n hs).map (fun m => (m, PrbKind.inv)) with
    | [] => s.grantWith h line id q []
    | ps => s.startTxn h line (some id) ps

/-- The common course of a request at its home: it reaches the input queue and waits there until the arbiter chooses it (R288, R313); then the
home's checks, and service, or the host first (R454). -/
def State.homeServe (s : State) (id : Nat) (kinds : List ReqKind) (go : State → Nat → Nat → Req → State) : Host.Outcome State Fault Refusal :=
  match s.req? id with
  | none => stay s
  | some q0 =>
    if ¬ kinds.contains q0.kind then stay s
    else if s.unserved q0 then .next (s.finish id q0 .refused [])
    else
      match s.homeOf q0.pa with
      | none => stay s
      | some h =>
        if ¬ s.unserviced h id q0 ∨ ¬ s.reaches h q0 then stay s
        else
          let q := q0.arrive (s.homeClock h)
          let s1 := s.setReq id q
          match s1.arbitrate h id q with
          | none => .next s1
          | some s2 =>
            match s2.homeCheck q with
            | some e => .next (s2.finish id q e [])
            | none =>
              if h = 64 ∧ ¬ s2.hostHas q then .next (s2.toHost id q)
              else if h ≠ 64 ∧ q.bias = 0 ∧ s2.hostBias q.pa then .next (s2.askBias id q)
              else .next (go s2 h id q)

/-- GET_SHARE (R308, R311). -/
def execGetShare (req : Nat) (s : State) : Host.Outcome State Fault Refusal := s.homeServe req [.getShare] State.serveShare
/-- GET_OWN (R308, R311). -/
def execGetOwn (req : Nat) (s : State) : Host.Outcome State Fault Refusal := s.homeServe req [.getOwn] State.serveOwn
/-- UPGRADE (R308, R315). -/
def execUpgrade (req : Nat) (s : State) : Host.Outcome State Fault Refusal := s.homeServe req [.upgrade] State.serveUpgrade

/-! ## Glance and PutHome (R321, R323) -/

/-- A line's bytes laid into the bytes that a request asked for. -/
def Req.lay (q : Req) (line : Nat) (d : Bytes) : Req :=
  { q with rdata := if q.pa ≤ line then patch q.rdata (line - q.pa) d else patch q.rdata 0 (d.drop (q.pa - line)) }

/-- A Glance has a line's data; with every line in, it completes. -/
def State.glanceLine (s : State) (h id line : Nat) (d : Bytes) : State :=
  match s.req? id with
  | none => s
  | some q =>
    let q1 := q.lay line d
    if s.txnsOf h id then s.setReq id q1 else s.finish id q1 .ok q1.rdata

/-- A Glance reads a line at the home. -/
def State.glanceMem (s : State) (h id line : Nat) : State :=
  match s.req? id with
  | none => s
  | some q =>
    if q.status.isSome then s
    else match s.homeRead line with
      | (.ok, d) => s.glanceLine h id line d
      | (e, _) => s.finish id q e []

/-- Who supplies a line to a Glance: the owner, or the nearest sharer; of a host line only the owner, since the host-line cache comes next
(R311, R339). -/
def State.glanceFrom (s : State) (h line : Nat) (q : Req) : Option Nat :=
  match tget line (s.home h).dir with
  | none => none
  | some e => if e.st ≠ .shared then some e.owner else if h = 64 then none else s.nearest q e.sharers

/-- Serves a Glance: the home reads the lines that no cache supplies; the others are snooped for. -/
def State.serveGlance (s : State) (h id : Nat) (q : Req) : State :=
  let ls := linesOf q.pa q.len
  let mem := ls.filter (fun l => (s.glanceFrom h l q).isNone)
  match mem.find? (fun l => decide ((s.homeRead l).1 ≠ .ok)) with
  | some l => s.finish id q (s.homeRead l).1 []
  | none =>
    let q1 := mem.foldl (fun (x : Req) l => x.lay l (s.homeRead l).2) { q with rdata := zeros q.len }
    match ls.filterMap (fun l => (s.glanceFrom h l q).map (fun n => (l, n))) with
    | [] => s.finish id q1 .ok q1.rdata
    | ps => foldS ps (s.setReq id q1) (fun st p => st.startTxn h p.1 (some id) [(p.2, .glance)])

/-- GLANCE (R308, R323): the current data, no copy kept. -/
def execGlance (req : Nat) (s : State) : Host.Outcome State Fault Refusal := s.homeServe req [.glance] State.serveGlance

/-- Does a write replace a whole line? -/
def Req.wholeLine (q : Req) (line : Nat) : Bool := decide (q.pa ≤ line ∧ line + 64 ≤ q.pa + q.len) && !q.atomic

/-- The packets that a write to a mirrored slice sends to its remote partner (R440). -/
def State.mirrorPartsOf (s : State) (pa n tag : Nat) : List Part :=
  match s.server (pa / 2 ^ 33) with
  | none => []
  | some m => (match s.setOf m with
    | some p => (match p.members with | [_, (pkg, _)] => s.mirrorParts (s.memSlice m).owner pkg (pa % 2 ^ 33) n tag | _ => [])
    | none => [])

/-- The write or atomic of a PutHome at its home, when no cache holds its lines any more (R321, R324, R325). -/
def State.putDone (s : State) (id : Nat) (q : Req) : State :=
  match placeOf q.pa with
  | .hbm =>
    let old := if q.atomic then s.rawRead q.pa q.len else (.ok, [])
    if old.1 ≠ .ok then s.finish id q old.1 []
    else
      match s.rawWrite q.pa (if q.atomic then amoApply q.data old.2 else q.data) (id % 65536) with
      | (.ok, s1) =>
        let s2 := s1.wakeRange q.pa q.len
        if s.remoteMirror q.pa then s2.setReq id { q with sent := true, rdata := old.2, parts := s.mirrorPartsOf q.pa q.data.length (id % 65536) } else s2.finish id q .ok old.2
      | (e, s1) => s1.finish id q e []
  | .host a =>
    if q.atomic then
      (let line := lineOf q.pa
       let cur := match tget line s.hostLines with | some l => l.data | none => mread s.host (a - a % 64) 64
       let old := slice cur (q.pa % 64) q.len
       (({ s with hostLines := tput line { st := .m, data := patch cur (q.pa % 64) (amoApply q.data old) } s.hostLines }).wake line).finish id q .ok old)
    else (({ s with host := mwrite s.host a q.data }).wakeRange q.pa q.len).finish id q .ok []
  | _ => s.finish id q .refused []

/-- Does a cache own a line, as its home knows? -/
def State.ownedBy (s : State) (h line n : Nat) : Bool :=
  match tget line (s.home h).dir with | some e => e.st != .shared && e.owner == n | none => false

/-- Serves a PutHome: the lines that caches hold are called in first. -/
def State.servePut (s : State) (h id : Nat) (q : Req) : State :=
  let ls := (linesOf q.pa q.len).filter (fun l => s.holders h l != [])
  if ls = [] then s.putDone id q
  else foldS ls s (fun st l => st.startTxn h l (some id) ((st.holders h l).map (fun n =>
    (n, if !q.wholeLine l && st.ownedBy h l n then PrbKind.own else PrbKind.inv))))

/-- PUT_HOME (R308, R321): a coherent write at the home; into host memory it needs the host's grant of observation (R454). -/
def execPutHome (req : Nat) (s : State) : Host.Outcome State Fault Refusal := s.homeServe req [.putHome] State.servePut

/-! ## RawGet and RawPut (R318-R320, R333) -/

/-- Serves a RawGet. -/
def State.serveRawGet (s : State) (_h id : Nat) (q : Req) : State := (let r := s.rawRead q.pa q.len; s.finish id q r.1 r.2)

/-- RAW_GET (R318). -/
def execRawGet (req : Nat) (s : State) : Host.Outcome State Fault Refusal := s.homeServe req [.rawGet] State.serveRawGet

/-- RAW_PUT (R318, R324). -/
def execRawPut (req : Nat) (s : State) : Host.Outcome State Fault Refusal := s.homeServe req [.rawPut] (fun s1 _ id q => s1.putDone id q)

/-! ## Snooped caches (R310, R316) -/

/-- The snoop of a kind on its way to a cache. -/
def State.probe? (s : State) (n line : Nat) (k : PrbKind) : Bool :=
  match tget line (s.cache n).probes with | some p => p.kind == k | none => false

/-- The line state after a snoop (R308); none: invalid. -/
def afterProbe (k : PrbKind) (st : LineSt) : Option LineSt :=
  match k with
  | .share => some (match st with | .m => .o | .e => .s | x => x)
  | .glance => some st
  | _ => none

/-- Is a line state dirty (R300)? -/
def isDirty (st : LineSt) : Bool := st == .m || st == .o

/-- A cache answers a snoop (R310): from its line, from its writeback buffer, or PrbMiss. -/
def State.answer (s : State) (n line : Nat) (k : PrbKind) : State :=
  let c := { s.cache n with probes := tdel line (s.cache n).probes }
  match tget line c.lines with
  | some l =>
    let a := if k = .inv ∧ ¬ isDirty l.st then PrbAns.ack else PrbAns.data l.data (isDirty l.st)
    let lines := match afterProbe k l.st with | some st => tput line { l with st } c.lines | none => tdel line c.lines
    s.setCache n { c with lines, answers := tput line a c.answers }
  | none =>
    match tget line c.wb with
    | some w =>
      if w.dirty then
        s.setCache n { c with wb := tput line { w with snooped := true } c.wb, answers := tput line (.buf w.data true) c.answers }
      else s.setCache n { c with answers := tput line (.miss (k != .inv)) c.answers }
    | none => s.setCache n { c with answers := tput line (.miss (k != .inv)) c.answers }

/-- PRB_SHARE (R308, R310). -/
def execPrbShare (slice line : Nat) (s : State) : Host.Outcome State Fault Refusal :=
  if s.probe? slice line .share then .next (s.answer slice line .share) else stay s
/-- PRB_OWN (R308, R310, R316). -/
def execPrbOwn (slice line : Nat) (s : State) : Host.Outcome State Fault Refusal :=
  if s.probe? slice line .own then .next (s.answer slice line .own) else stay s
/-- PRB_GLANCE (R308, R310). -/
def execPrbGlance (slice line : Nat) (s : State) : Host.Outcome State Fault Refusal :=
  if s.probe? slice line .glance then .next (s.answer slice line .glance) else stay s
/-- PRB_INV (R308, R310, R316). -/
def execPrbInv (slice line : Nat) (s : State) : Host.Outcome State Fault Refusal :=
  if s.probe? slice line .inv then .next (s.answer slice line .inv) else stay s

/-! ## Answers at the home -/

/-- The data of an answer. -/
def PrbAns.bytes : PrbAns → Option Bytes
  | .data d _ => some d
  | .buf d _ => some d
  | _ => none

/-- What an answer does to the line's entry and memory, by the kind of the request (R300, R311, R314, R321): a dirty buffer's
data that no new owner takes goes to memory; a snooped owner becomes a sharer, or stays owner in O. -/
def State.answerDir (s : State) (h line n : Nat) (kind : Option ReqKind) (whole : Bool) (a : PrbAns) : State :=
  match kind with
  | some .getShare =>
    (match a with
     | .data _ dirty => (match tget line (s.home h).dir with
       | some e => if e.st = .shared then s else s.dirPut h line { e with st := if dirty then .owned else .shared }
       | none => s)
     | .buf d dirty => (if dirty then s.takeBack line d else s).dirRemove h line n
     | _ => s.dirRemove h line n)
  | some .glance =>
    (match a with
     | .data _ _ => s
     | .buf d dirty => (if dirty then s.takeBack line d else s).dirRemove h line n
     | _ => s.dirRemove h line n)
  | some .getOwn => s.dirRemove h line n
  | some .upgrade => s.dirRemove h line n
  | _ =>
    (match a with
     | .data d true => if whole then s.dirRemove h line n else (s.takeBack line d).dirRemove h line n
     | .buf d true => if whole then s.dirRemove h line n else (s.takeBack line d).dirRemove h line n
     | _ => s.dirRemove h line n)

/-- With every answer in, the request goes on: a grant with the data found, or memory's; the end of a Glance's line; a
PutHome's write. A recall's transaction ends (R309). -/
def State.answersIn (s : State) (h line : Nat) (t : Txn) (data : Option Bytes) : State :=
  match t.req with
  | none => s.endTxn h line
  | some id =>
    match s.req? id with
    | none => s.endTxn h line
    | some q =>
      if q.status.isSome then s.endTxn h line
      else
        match q.kind with
        | .getShare => (match data with | some d => s.grantWith h line id q d | none => s.grantMem h line id q)
        | .getOwn => (match data with | some d => s.grantWith h line id q d | none => s.grantMem h line id q)
        | .upgrade => s.grantWith h line id q []
        | .glance => (match data with
          | some d => (s.endTxn h line).glanceLine h id line d
          | none => (s.endTxn h line).glanceMem h id line)
        | _ =>
          let s1 := s.endTxn h line
          if s1.txnsOf h id then s1 else s1.putDone id q

/-- The data it has kept. -/
def Req.kept (q : Req) : Option Bytes := if q.keeps && q.rdata != [] then some q.rdata else none

/-- An answer of cache `n` reaches the home. Data that an earlier answer brought stands in the request (PrbOwn among PrbInvs). -/
def State.answered (s : State) (h line n : Nat) (a : PrbAns) : State :=
  match tget line (s.home h).txns with
  | none => s
  | some t =>
    let t1 := { t with waiting := sdel n t.waiting }
    let q := match t.req with | some id => s.req? id | none => none
    let s1 := s.setHome h { s.home h with txns := tput line t1 (s.home h).txns }
    let s2 := s1.answerDir h line n (q.map (fun x => x.kind)) (match q with | some x => x.wholeLine line | none => false) a
    let data := match a.bytes with | some d => some d | none => (match q with | some x => x.kept | none => none)
    let s3 := match t.req, q, a.bytes with
      | some id, some x, some d => if x.keeps then s2.setReq id { x with rdata := d } else s2
      | _, _, _ => s2
    if t1.waiting = [] then s3.answersIn h line t1 data else s3

/-- Takes a cache's answer off its way. -/
def State.unanswer (s : State) (n line : Nat) : State := s.setCache n { s.cache n with answers := tdel line (s.cache n).answers }

/-- PRB_DATA: a snooped cache's answer with data reaches the home (R309, R311). -/
def execPrbData (slice line : Nat) (s : State) : Host.Outcome State Fault Refusal :=
  match s.homeOf line, tget line (s.cache slice).answers with
  | some h, some a => if a.bytes.isSome then .next ((s.unanswer slice line).answered h line slice a) else stay s
  | _, _ => stay s

/-- PRB_MISS: a snooped cache reports that it holds no copy (R308, R312): a forwarded snoop that finds none counts in FWDMISS. -/
def execPrbMiss (slice line : Nat) (s : State) : Host.Outcome State Fault Refusal :=
  match s.homeOf line, tget line (s.cache slice).answers with
  | some h, some a =>
    if a.bytes.isSome then stay s
    else .next (((if a = .miss true then s.cohCount h 24 8 else s).unanswer slice line).answered h line slice a)
  | _, _ => stay s

/-! ## Writebacks (R301, R303, R314) -/

/-- The writeback's data is discarded: a transaction has snooped the writer, which has answered or will answer from its
buffer (R314). -/
def State.superseded (s : State) (h n line : Nat) (w : WbEntry) : Bool :=
  w.snooped || (match tget line (s.home h).txns with
    | none => false
    | some t => t.snooped.contains n && (tget line (s.cache n).probes).isSome)

/-- A writeback reaches its home: taken or superseded; RetireAck is on its way. -/
def State.retireHome (s : State) (n line : Nat) (w : WbEntry) : State :=
  match s.homeOf line with
  | none => s
  | some h =>
    let s1 := s.setCache n { s.cache n with wb := tput line { w with acked := true } (s.cache n).wb }
    if s.superseded h n line w then (if w.dirty then s1.cohCount h 16 8 else s1).dirRemove h line n
    else (if w.dirty then s1.takeBack line w.data else s1).dirRemove h line n

/-- RETIRE_DIRTY (R301, R314). -/
def execRetireDirty (slice line : Nat) (s : State) : Host.Outcome State Fault Refusal :=
  match tget line (s.cache slice).wb with
  | some w => if w.dirty ∧ ¬ w.acked then .next (s.retireHome slice line w) else stay s
  | none => stay s

/-- RETIRE_CLEAN (R301, R314). -/
def execRetireClean (slice line : Nat) (s : State) : Host.Outcome State Fault Refusal :=
  match tget line (s.cache slice).wb with
  | some w => if ¬ w.dirty ∧ ¬ w.acked then .next (s.retireHome slice line w) else stay s
  | none => stay s

/-- RETIRE_ACK (R303): frees the buffer entry, once no snoop for it is on its way. -/
def execRetireAck (slice line : Nat) (s : State) : Host.Outcome State Fault Refusal :=
  let c := s.cache slice
  match tget line c.wb with
  | some w => if w.acked ∧ (tget line c.probes).isNone then .next (s.setCache slice { c with wb := tdel line c.wb }) else stay s
  | none => stay s

/-! ## Grants at the cache -/

/-- The granted request of a cache for a line. -/
def State.granted (s : State) (n line : Nat) : Option (Nat × Req) :=
  s.reqs.find? (fun r => r.2.slice == some n && lineOf r.2.pa == line && r.2.grant.isSome && r.2.status.isNone)

/-- A line leaves the cache for the writeback buffer (R301, R303). -/
def State.evict (s : State) (n line : Nat) (l : CLine) : State :=
  let c := s.cache n
  s.setCache n { c with lines := tdel line c.lines, wb := tput line { dirty := isDirty l.st, data := l.data } c.wb }

/-- Installs a grant and does the access that asked for it: a store's or an atomic's bytes are in the line at once (R325, R330). -/
def State.install (s : State) (n line id : Nat) (q : Req) : State :=
  let base := if q.rdata ≠ [] then q.rdata else match s.line? n line with | some l => l.data | none => s.curLine line
  let st := q.grant.getD .s
  let o := q.pa - line
  match q.issuer with
  | .store _ _ => ((s.putLineIn n line { st := .m, data := patch base o q.data }).wake line).finish id q .ok []
  | .scalar _ _ =>
    let old := Machine.slice base o q.len
    if q.atomic then ((s.putLineIn n line { st := .m, data := patch base o (amoApply q.data old) }).wake line).finish id q .ok old
    else (s.putLineIn n line { st, data := base }).finish id q .ok old
  | _ => (s.putLineIn n line { st, data := base }).finish id q .ok []

/-- GRANT_DATA (R299, R303, R308): the grant is installed; a full set gives up `victim`, which pseudo-LRU names: never the line of the set most
recently used (log 98). Its writeback needs a free buffer entry when it is dirty. -/
def execGrantData (slice line victim : Nat) (s : State) : Host.Outcome State Fault Refusal :=
  match s.granted slice line with
  | none => stay s
  | some (id, q) =>
    let c := s.cache slice
    if (tget line c.lines).isSome ∨ (c.lines.filter (fun l => cacheSet l.1 == cacheSet line)).length < 16 then
      .next (s.install slice line id q)
    else
      match tget victim c.lines with
      | none => stay s
      | some v =>
        if cacheSet victim ≠ cacheSet line ∨ tget (cacheSet line) c.mru = some victim ∨ (tget victim c.wb).isSome ∨
            (isDirty v.st ∧ 16 ≤ (c.wb.filter (fun w => w.2.dirty)).length) then stay s
        else .next ((s.evict slice victim v).install slice line id q)

/-- GRANT_ACK (R309): ends the line's transaction once the requester has installed its grant. -/
def execGrantAck (line : Nat) (s : State) : Host.Outcome State Fault Refusal :=
  match s.homeOf line with
  | none => stay s
  | some h =>
    match tget line (s.home h).txns with
    | none => stay s
    | some t =>
      let installed : Bool := match t.req with
        | none => false
        | some id => (match s.req? id with | none => true | some q => q.status.isSome)
      if t.waiting.isEmpty && installed then .next (s.endTxn h line) else stay s

end Sys2Proof.Machine
end

