-- ==== Sys2Proof/Machine/Flags.lean ====
section
/-! DEFINITION. Sys2Proof/Machine/Flags.lean: the event counts of narrow arithmetic (04 R126-R134), their records, and the assay's decisions and comparison (04 R135-R140). -/

namespace Sys2Proof.Machine

/-! ## Settings in force (R123) -/

/-- Effective ASSAY_N. -/
def Settings.n (t : Settings) : Nat := if t.assayN = 0 then 0 else max 6 (min 12 t.assayN)
/-- Effective ACTION. -/
def Settings.act (t : Settings) : Nat := if t.action ≤ 2 then t.action else 0
/-- Effective TOL_T. -/
def Settings.tol (t : Settings) : Nat := max 4 (min 23 t.tolT)

/-- The settings that a safeguard block's first 64 bytes give (R123). -/
def settingsOf (b : Bytes) : Settings :=
  { assayN := fieldLe b 0 1, action := fieldLe b 1 1, tolT := fieldLe b 2 1, seed := BitVec.ofNat 64 (fieldLe b 8 8),
    tileThr := (List.range 6).map (fun k => fieldLe b (0x10 + 2 * k) 2),
    ctxThr := (List.range 6).map (fun k => fieldLe b (0x20 + 4 * k) 4) }

/-- The settings of a context. -/
def State.settings (s : State) (ctx : Nat) : Settings := match s.ctx? ctx with | some x => x.set | none => {}

/-! ## Partial counts and their flush (R131) -/

/-- A fetch-and-add into the context's safeguard block is under way (R131). Context 0 is created by no command and has no
block (R123, R468). -/
def State.addUpdate (s : State) (u : SgUpdate) : State :=
  if u.ctx = 0 then s
  else
  { s with updates := tput s.nextId u s.updates, nextId := s.nextId + 1 }

/-- The address of a context's safeguard block. -/
def State.safeVa (s : State) (ctx : Nat) : Nat := match s.ctx? ctx with | some x => x.safeVa | none => 0

/-- The partial count of a kind. -/
def Slot.partialOf (x : Slot) (k : Nat) : Nat := tgetD 0 k x.partials

/-- Flushes a slot's partial counts: one update per nonzero kind, then all are cleared (R131). -/
def State.flushSlot (s : State) (c k : Nat) : State :=
  match s.slot? c k with
  | none => s
  | some x =>
    let s1 := foldS (List.range 6) s (fun st i =>
      if x.partialOf i = 0 then st
      else st.addUpdate { ctx := x.ctx, core := c, slot := k, base := s.safeVa x.ctx, off := 0x40 + 8 * i, inc := x.partialOf i, kind := some i,
                          thr := (x.set.ctxThr[i]?).getD 0 })
    s1.setSlot c k { x with partials := [], lastFlush := s.count (coreIsland c) }

/-- Adds events to a slot's partial counts; a count that reaches 2^24 flushes them (R131). -/
def State.addPartials (s : State) (c k : Nat) (ev : Events) : State :=
  match s.slot? c k with
  | none => s
  | some x =>
    let p := ev.zipIdx.foldl (fun t e => tputD 0 e.2 (min (2 ^ 32 - 1) (tgetD 0 e.2 t + e.1)) t) x.partials
    let s1 := s.setSlot c k { x with partials := p }
    if p.any (fun e => decide (2 ^ 24 ≤ e.2)) then s1.flushSlot c k else s1

/-! ## Tile counters (R128) -/

/-- A way's counter of a kind: 16 bits, stopping at 0xFFFF. -/
def Core.tileCount (c : Core) (way k : Nat) : Nat := tgetD 0 (6 * way + k) c.tileCnt

/-- Adds events to a way's counters. -/
def Core.addTile (c : Core) (way : Nat) (ev : Events) : Core :=
  { c with tileCnt := ev.zipIdx.foldl (fun t e => tputD 0 (6 * way + e.2) (satAdd 0xFFFF (tgetD 0 (6 * way + e.2) t) e.1) t) c.tileCnt }

/-- Clears a way's counters. -/
def Core.clearTile (c : Core) (way : Nat) : Core :=
  { c with tileCnt := (List.range 6).foldl (fun t k => tdel (6 * way + k) t) c.tileCnt }

/-! ## Records (R148-R151) -/

/-- A safeguard record to the context's ring with ENGINE 0, and to the operator as R151 says: `op` is the operator's
version, none when it receives nothing. A context whose own ring is ring 0 gets one record there, the operator's version where there is
one, instead of its own and a copy in the same ring (DESIGN CHOICE, log 104). -/
def State.sgRecord (s : State) (ctx : Nat) (tenant : Bytes) (op : Option Bytes) : State :=
  let r := s.ctxRing ctx
  if r = 0 then (match op with | some b => s.ringPut 0 b | none => s.ringPut 0 tenant)
  else
    let s1 := s.ringPut r tenant
    match op with
    | some b => s1.ringPut 0 (withFlags b (fieldLe b 3 1 ||| 1))
    | none => s1

/-- Does the operator get copies of an ordinary folio's safeguard records (R152 MIRROR)? -/
def State.mirror (s : State) : Bool := bit (s.reg rSafeCtl) 0
def State.confMiss (s : State) : Bool := bit (s.reg rSafeCtl) 1

/-- The TILE_THR with which the tile of a way started (R124): those of its accumulate-clear MMA, else those in force in the slot. -/
def Core.tileThrOf (c : Core) (way : Nat) (x : Slot) : List Nat :=
  match tget way c.assay with | some a => a.tileThr | none => x.set.tileThr

/-- The SIEVE_TILE record of a tile when one of its thresholds `thr` is reached (R129, R134, R148), at most 64 per context in a window
of 1,000,000 hub cycles (R651). The accumulator way that WHERE names is the context's local tile number (DESIGN CHOICE, log 105). -/
def State.sieveTile (s : State) (c ctx way tile tag : Nat) (thr : List Nat) : State :=
  let k := s.core c
  let cnt := (List.range 6).map (fun i => k.tileCount way i)
  let hits := (List.range 6).filter (fun i => let t := (thr[i]?).getD 0; decide (t ≠ 0 ∧ t ≤ k.tileCount way i))
  if hits = [] then s
  else
    match s.ctx? ctx with
    | none => s
    | some x =>
      let win := s.hubCount / 1000000
      let n := if x.sieveWindow = win then x.sieveCount else 0
      if 64 ≤ n then s.setCtx ctx { x with suppressed := satAdd 0xFFFF x.suppressed 1, sieveWindow := win, sieveCount := n }
      else
        let f := x.folio
        let body := fun (eng : Bytes) => le 4 tag ++ le 1 (s.sliceOf c) ++ le 1 (coreInCluster c + 4 * tile) ++ le 2 x.suppressed ++
          cnt.flatMap (le 2) ++ le 1 (maskOf hits) ++
          le 1 (maskOf ((List.range 6).filter (fun i => k.tileCount way i == 0xFFFF))) ++ le 2 0 ++ eng
        let mk := fun (eng : Bytes) => s.record tySieveTile f 0 ctx (coreIsland c) (body eng)
        let op := if s.isConf f ∨ ¬ s.mirror then none else some (mk (engineBytes c))
        (s.sgRecord ctx (mk (zeros 4)) op).setCtx ctx { x with suppressed := 0, sieveWindow := win, sieveCount := n + 1 }

/-- The SIEVE_CTX record of a flush that passes a multiple of CTX_THR (R132, R149). -/
def State.sieveCtx (s : State) (c ctx k total thr : Nat) : State :=
  let f := s.ctxFolio ctx
  let mk := fun (eng : Bytes) => s.record tySieveCtx f 0 ctx (coreIsland c)
    (le 1 k ++ zeros 7 ++ le 8 total ++ le 4 thr ++ le 4 0 ++ eng)
  s.sgRecord ctx (mk (zeros 4)) (if s.isConf f ∨ ¬ s.mirror then none else some (mk (engineBytes c)))

/-! ## The assay (R135, R136, R138) -/

/-- The 64-bit mix of R135. -/
def assayMix (seed tag : Nat) : Nat :=
  let x0 := seed ^^^ (tag * 0xD6E8FEB86659FD93 % 2 ^ 64)
  let x1 := (x0 ^^^ (x0 / 2 ^ 30)) * 0xBF58476D1CE4E5B9 % 2 ^ 64
  let x2 := (x1 ^^^ (x1 / 2 ^ 27)) * 0x94D049BB133111EB % 2 ^ 64
  x2 ^^^ (x2 / 2 ^ 31)

/-- Does a fraction 2^-n of mixes choose this one (R135)? -/
def chosenBy (n x : Nat) : Bool := decide (n ≠ 0) && decide (x / 2 ^ (64 - n) = 0)

/-- The assay state that an accumulate-clear MMA starts (R135, R124): the settings and FLOOR_N of its issue, its class and guard index. -/
def startAssay (set : Settings) (floorN mode : Nat) (st : Word) (sub : Option Nat) : Assay :=
  let tag := fd st 0 32
  let x := assayMix set.seed.toNat tag
  let cc := chosenBy set.n x
  let cf := chosenBy floorN x
  let promoted := fbit st 48
  { tag := BitVec.ofNat 32 tag, guardIx := fd st 32 16, promoted, cls := mode, allPromo := mode == 3 || mode == 2,
    chosenCtx := cc || promoted, floorOnly := cf && !cc && !promoted, sub := sub.getD (x % 64), live := cc || cf || promoted,
    tolT := set.tol, action := set.act, tileThr := set.tileThr, s := List.replicate 64 0, m := List.replicate 64 0 }

/-- One product into a shadow cell (R136). -/
def shadowStep (acc : Nat × Nat) (a b : Val) : Nat × Nat :=
  let p := fmul (toF32 a) (toF32 b)
  (fadd acc.1 p, fadd acc.2 (p % 2 ^ 31))

/-- Does a cell miss (R138): main value c, shadow s and magnitude m? -/
def cellMisses (tol c sh m : Nat) : Bool :=
  if isFin c && isFin sh then
    let bound := toF32 ((f32 m).mul (.fin false 1 (-(tol : Int))))
    match fcmp (fsub c sh % 2 ^ 31) bound with
    | some .gt => true
    | _ => false
  else
    match f32 c, f32 sh with
    | .nan, .nan => false
    | .inf a, .inf b => a != b
    | _, _ => true

/-- The missing cells of an assayed way, ascending (R138). -/
def Core.missing (c : Core) (way : Nat) (a : Assay) : List Nat :=
  (List.range 64).filter (fun i =>
    cellMisses a.tolT (c.cell way (8 * (a.sub / 8) + i / 8) (8 * (a.sub % 8) + i % 8))
      ((a.s[i]?).getD 0).toNat ((a.m[i]?).getD 0).toNat)

/-- The payload of ASSAY_MISS (R150), WHERE as in SIEVE_TILE (log 105). -/
def State.missBody (s : State) (c way tile : Nat) (a : Assay) (miss : List Nat) (outcome : Nat) (eng : Bytes) : Bytes :=
  let i := (miss[0]?).getD 0
  le 4 a.tag.toNat ++ le 1 (s.sliceOf c) ++ le 1 (coreInCluster c + 4 * tile + 16 * b2n a.floorOnly + 32 * b2n a.promoted) ++
  le 1 a.sub ++ le 1 outcome ++ le 1 miss.length ++ le 1 i ++ le 1 a.cls ++ le 1 a.tolT ++
  le 4 ((s.core c).cell way (8 * (a.sub / 8) + i / 8) (8 * (a.sub % 8) + i % 8)) ++
  le 4 ((a.s[i]?).getD 0).toNat ++ le 4 ((a.m[i]?).getD 0).toNat ++ eng

/-- The operator's version of an ASSAY_MISS record: full, or reduced for a confidential folio (R151). -/
def State.missOp (s : State) (f : Nat) (floorOnly : Bool) (r : Bytes) : Option Bytes :=
  if s.isConf f then
    (if s.confMiss then some (withFlags (blank (blank r 0x10 4) 0x1C 12) 2) else none)
  else if floorOnly || s.mirror then some r else none

/-- Writes an ASSAY_MISS record with its outcome where R151 sends it; `tenant` has ENGINE 0, `full` the engine. -/
def State.missPut (s : State) (ctx : Nat) (floorOnly : Bool) (tenant full : Bytes) : State :=
  let f := s.ctxFolio ctx
  match floorOnly, s.missOp f floorOnly full with
  | true, some b => s.ringPut 0 b
  | true, none => s
  | false, op => s.sgRecord ctx tenant op

/-- The two versions (tenant, full) of an ASSAY_MISS record. -/
def State.missRecords (s : State) (c ctx way tile : Nat) (a : Assay) (miss : List Nat) (outcome : Nat) : Bytes × Bytes :=
  let mk := fun eng => s.record tyAssayMiss (s.ctxFolio ctx) 0 ctx (coreIsland c) (s.missBody c way tile a miss outcome eng)
  (mk (zeros 4), mk (engineBytes c))

/-! ## CTX_FAULT records (R592) -/

/-- The payload of CTX_FAULT; `core` none for a copy engine. -/
def State.faultBody (s : State) (core : Option Nat) (f : FaultInfo) (pc addr : Nat) (eng : Bytes) : Bytes :=
  le 1 f.cause ++ le 1 f.status ++
  (match core with | some c => le 1 (s.sliceOf c) ++ le 1 (coreInCluster c) | none => le 1 0xFF ++ le 1 0) ++
  le 4 f.info ++ le 8 pc ++ le 8 addr ++ eng ++ le 2 f.frame

/-- CTX_FAULT to the context's event ring (ENGINE 0) and to the folio 0 ring (PC, ADDR and ENGINE 0 for a confidential
folio) (R592, R585). -/
def State.ctxFaultRecord (s : State) (ctx isl : Nat) (core : Option Nat) (f : FaultInfo) : State :=
  let fo := s.ctxFolio ctx
  let eng := match core with | some c => engineBytes c | none => zeros 4
  let mk := fun (fl pc addr : Nat) (e : Bytes) => s.record tyCtxFault fo fl ctx isl (s.faultBody core f pc addr e)
  s.ringBoth (s.ctxRing ctx) (mk 0 f.pc.toNat f.addr (if s.ctxRing ctx = 0 then eng else zeros 4))
    (if s.isConf fo then mk 2 0 0 (zeros 4) else mk 0 f.pc.toNat f.addr eng)

end Sys2Proof.Machine
end

