-- ==== Sys2Proof/Machine/Special.lean ====
section
/-! DEFINITION. Sys2Proof/Machine/Special.lean: the special functions of the vector unit (05 R182): their exact values in fixed point,
and a result within the stated accuracy. -/

namespace Sys2Proof.Machine

/-! ## Fixed point: a natural number in units of 2^-256 -/

/-- Bits after the point. -/
def fixP : Nat := 256

/-- m * 2^e in units of 2^-p, cut. -/
def fixOf (p m : Nat) (e : Int) : Nat := if 0 ≤ e + p then m * pow2 (e + p) else m / pow2 (-(e + p))

/-- The natural logarithm of 2, cut. -/
def fixLn2 : Nat := 0xb17217f7d1cf79abc9e3b39803f2f6af40f343267298b62d8a0d175b8baafa2b

/-- Half of pi in units of 2^-384, cut. -/
def fixHalfPi : Nat := 0x1921fb54442d18469898cc51701b839a252049c1114cf98e804177d4c76273644a29410f31c6809bbdf2a33679a748636

/-- The sum of a series: `n` terms, each made from the last by `f`. -/
def fixSum (f : Nat → Nat → Nat) (n first : Nat) : Nat :=
  ((List.range n).foldl (fun (a : Nat × Nat) i => let t := f i a.2; (a.1 + t, t)) (first, first)).1

/-- e^r for r below 1. -/
def fixExp (r : Nat) : Nat := fixSum (fun i t => t * r / 2 ^ fixP / (i + 1)) 80 (2 ^ fixP)

/-- The even, or odd, terms of a power series with alternating signs: `first` its first term, `step i` what divides term i + 1. -/
def fixAlt (r2 n first : Nat) (step : Nat → Nat) : Nat :=
  let a := (List.range n).foldl (fun (a : Nat × Nat × Nat) i =>
    let t := a.2.2 * r2 / 2 ^ fixP / step i
    if i % 2 = 0 then (a.1, a.2.1 + t, t) else (a.1 + t, a.2.1, t)) (first, 0, first)
  a.1 - a.2.1

/-- sin r and cos r for r from 0 to pi / 2. -/
def fixSin (r : Nat) : Nat := fixAlt (r * r / 2 ^ fixP) 50 r (fun i => (2 * i + 2) * (2 * i + 3))
def fixCos (r : Nat) : Nat := fixAlt (r * r / 2 ^ fixP) 50 (2 ^ fixP) (fun i => (2 * i + 1) * (2 * i + 2))

/-- ln x for x from 1 / 2 to 2, with its sign: 2 atanh ((x - 1) / (x + 1)). -/
def fixLn (x : Nat) : Bool × Nat :=
  let one := 2 ^ fixP
  let z := (if x < one then one - x else x - one) * one / (x + one)
  let z2 := z * z / one
  (decide (x < one),
   2 * ((List.range 100).foldl (fun (a : Nat × Nat) i => (a.1 + a.2 / (2 * i + 1), a.2 * z2 / one)) (0, z)).1)

/-! ## The exact values -/

/-- A fixed-point magnitude as a value; `cut`: digits were cut off, so it is not exact. -/
def fixVal (neg : Bool) (n : Nat) (e : Int) : Val := .fin neg n (e - fixP)

/-- e^y for a fixed-point y (`neg`: for -y), as a value. -/
def expVal (neg : Bool) (y : Nat) : Val :=
  let n := y / fixLn2
  let r := y % fixLn2
  if neg then (if r = 0 then fixVal false (2 ^ fixP) (-(n : Int)) else fixVal false (fixExp (fixLn2 - r)) (-(n : Int) - 1))
  else fixVal false (fixExp r) n

/-- ln |x| for x = m * 2^e, m nonzero: its sign and fixed-point magnitude. -/
def lnFix (m : Nat) (e : Int) : Bool × Nat :=
  let k := flog2 m e
  let x := fixOf fixP m (e - k)
  let big := decide (2 ^ (2 * fixP + 1) < x * x)
  let k1 := if big then k + 1 else k
  let l := fixLn (if big then x / 2 else x)
  let whole : Int := k1 * fixLn2 + (if l.1 then -(l.2 : Int) else l.2)
  (decide (whole < 0), whole.natAbs)

/-- sin (m * 2^e), or cos, for a positive argument: its sign and value. -/
def trigVal (cos : Bool) (m : Nat) (e : Int) : Val :=
  let x := fixOf 384 m e
  let k := x / fixHalfPi + b2n cos
  let r := x % fixHalfPi / 2 ^ 128
  fixVal (decide (2 ≤ k % 4)) (if k % 2 = 0 then fixSin r else fixCos r) 0

/-- erf x for a fixed-point x below 6. -/
def fixErf (x : Nat) : Nat :=
  let x2 := x * x / 2 ^ fixP
  let a := (List.range 240).foldl (fun (a : Nat × Nat × Nat) i =>
    let t := a.2.2 / (2 * i + 1)
    let n := a.2.2 * x2 / 2 ^ fixP / (i + 1)
    if i % 2 = 0 then (a.1 + t, a.2.1, n) else (a.1, a.2.1 + t, n)) (0, 0, x)
  (a.1 - a.2.1) * 2 ^ fixP / Nat.sqrt (fixHalfPi / 2 ^ 128 * 2 ^ (fixP - 1))

/-- 1 over a value given by mantissa and exponent. -/
def invVal (neg : Bool) (m : Nat) (e : Int) : Val := .fin neg (2 ^ (2 * fixP) / m) (-e - 2 * fixP)

/-- The exact value of a special function at a finite operand (-1)^neg * m * 2^e, to at least 2^-100 of itself; none where the
function has no real value there (the logarithm or root of a negative number, 1 over zero). -/
def specialReal (fn : Nat) (neg : Bool) (m : Nat) (e : Int) : Option Val :=
  let huge := decide (256 ≤ flog2 m e)
  let x := fixOf fixP m e
  match fn with
  | 6 => if m = 0 then none else some (invVal neg m e)
  | 7 =>
    if m = 0 ∨ neg then none
    else
      let odd := decide (e % 2 = 1)
      some (.fin false (Nat.sqrt (2 ^ (4 * fixP) / (if odd then 2 * m else m))) (-((if odd then e - 1 else e) / 2) - 2 * fixP))
  | 8 =>
    if huge ∨ 2 ^ (fixP + 8) ≤ x then (if neg then some (.fin false 1 (-256)) else none)
    else if neg then some (if x % 2 ^ fixP = 0 then fixVal false (2 ^ fixP) (-((x / 2 ^ fixP : Nat) : Int))
      else fixVal false (fixExp ((2 ^ fixP - x % 2 ^ fixP) * fixLn2 / 2 ^ fixP)) (-((x / 2 ^ fixP : Nat) : Int) - 1))
    else some (fixVal false (fixExp (x % 2 ^ fixP * fixLn2 / 2 ^ fixP)) (x / 2 ^ fixP : Nat))
  | 9 =>
    if m = 0 ∨ neg then none
    else if 2 ^ Nat.log2 m = m then (let k := flog2 m e; some (.fin (decide (k < 0)) k.natAbs 0))
    else (let l := lnFix m e; some (fixVal l.1 (l.2 * 2 ^ fixP / fixLn2) 0))
  | 10 =>
    if huge ∨ 2 ^ (fixP + 8) ≤ x then (if neg then some (.fin false 1 (-256)) else none)
    else some (expVal neg x)
  | 11 => if m = 0 ∨ neg then none else (let l := lnFix m e; some (fixVal l.1 l.2 0))
  | 12 => some (match trigVal false m e with | .fin g k q => .fin (g != neg) k q | v => v)
  | 13 => some (trigVal true m e)
  | 14 =>
    if 2 ^ (fixP + 6) ≤ x ∨ huge then some (.fin neg (2 ^ 64 - 1) (-64))
    else
      (match expVal false (2 * x) with
       | .fin _ a q =>
         let y := fixOf fixP a q
         some (fixVal neg ((y - 2 ^ fixP) * 2 ^ fixP / (y + 2 ^ fixP)) 0)
       | v => some v)
  | 15 =>
    if 2 ^ (fixP + 8) ≤ x ∨ huge then (if neg then some (.fin false 1 (-256)) else some (.fin false (2 ^ 64 - 1) (-64)))
    else
      (match expVal false x with
       | .fin _ a q =>
         let y := fixOf fixP a q
         some (fixVal false ((if neg then 2 ^ fixP else y) * 2 ^ fixP / (y + 2 ^ fixP)) 0)
       | v => some v)
  | 16 => if huge ∨ 6 * 2 ^ fixP ≤ x then some (.fin neg (2 ^ 64 - 1) (-64)) else some (fixVal neg (fixErf x) 0)
  | _ => none

/-! ## A result within the accuracy -/

/-- The FP32 magnitude code at or below m * 2^e, and whether it is exact. -/
def floorCode (m : Nat) (e : Int) : Nat × Bool :=
  if m = 0 then (0, true)
  else
    let q := fpFP32.quantum m e
    let n := roundAt m e q (some (2 ^ 24))
    (min 0x7F800000 (fpFP32.code false n q), decide (¬ ltDy n q m e))

/-- A code at most `n` codes from a value: the choice `r` among all of them (an ulp is the step from a code to the next). -/
def ulpPick (n r : Nat) (v : Val) : Nat :=
  match v with
  | .fin neg m e =>
    let f := floorCode m e
    let w := if f.2 then 2 * n + 1 else 2 * n
    let lo : Int := (f.1 : Int) - (if f.2 then n else n - 1 : Nat)
    let c := lo + (r % w : Nat)
    b2n neg * 2 ^ 31 + (min 0x7F800000 (max 0 c)).toNat
  | _ => toF32 v

/-- A code at most 2^-k from a value: the value moved by the choice `r` and rounded, or the nearest code where that lies outside. -/
def absPick (k r : Nat) (v : Val) : Nat :=
  let d : Int := (r % (2 ^ 32 + 1) : Nat) - 2 ^ 31
  let c := toF32 (v.add (.fin (decide (d < 0)) d.natAbs (-31 - (k : Int))))
  match (f32 c).add v.neg with
  | .fin _ m e => if ltDy 1 (-(k : Int)) m e then toF32 v else c
  | _ => toF32 v

/-- Codes that a special function may be off by (R182). -/
def ulpOf (fn : Nat) : Nat := if fn ≤ 7 then 1 else if fn ≤ 9 then 2 else if fn = 12 ∨ fn = 13 then 2 else 3

/-- A result within the accuracy of R182, chosen by `r`: for sine and cosine beyond 2^20 an absolute one, for tanh, sigmoid and erf
the wider of the two. A value that overflows gives infinity. -/
def withinAccuracy (fn r : Nat) (m : Nat) (e : Int) (v : Val) : Nat :=
  if 0x7F800000 ≤ toF32 v % 2 ^ 31 then toF32 v
  else if (fn = 12 ∨ fn = 13) ∧ ltDy 1 20 m e then absPick 21 (r / 2) v
  else if 14 ≤ fn ∧ fn ≤ 16 ∧ r % 2 = 1 then absPick 24 (r / 2) v
  else ulpPick (ulpOf fn) (r / 2) v

end Sys2Proof.Machine
end

