-- ==== Sys2Proof/Machine/Vector.lean ====
section
/-! DEFINITION. Sys2Proof/Machine/Vector.lean: the vector instructions (06 R215-R219, 05 R182-R184). -/

namespace Sys2Proof.Machine

/-! ## Functions of one lane on FP32 codes (R182) -/

/-- A result of a special function where R182 states it: NaN operands, and the special cases of its table; none where only
an accuracy is given. -/
def specialCase (fn a : Nat) : Option Nat :=
  let nan := 0x7FC00000
  let pinf := 0x7F800000
  let ninf := 0xFF800000
  let zero := decide (bits a 0 31 = 0)
  let neg := bit a 31
  let inf := decide (bits a 0 31 = 0x7F800000)
  if isNan a then some nan
  else match fn with
    | 6 => if zero then some (if neg then ninf else pinf) else none
    | 7 => if zero then some (if neg then ninf else pinf) else if neg then some nan else none
    | 8 => if !neg && decide (0x43000000 ≤ a) then some pinf else none
    | 9 => if zero then some ninf else none
    | 10 => if !neg && decide (0x42B17218 ≤ a) then some pinf else none
    | 11 => if zero then some ninf else none
    | 12 => if inf then some nan else none
    | 13 => if inf then some nan else none
    | 14 => if inf then some (if neg then 0xBF800000 else 0x3F800000) else none
    | 15 => if inf then some (if neg then 0 else 0x3F800000) else none
    | 16 => if inf then some (if neg then 0xBF800000 else 0x3F800000) else none
    | _ => none

/-- A special function: its stated cases; a finite operand's result lies within the stated accuracy of the exact value, the choice
among those codes being a fixed function of the operand bits (R182, Config.special). Where the function has no real value and R182
states no case (the logarithm of a negative number, an infinite operand outside its table) the result is that free function; a NaN
result is written as R62 says (log 12). -/
def specialFn (fn a : Nat) : Nat :=
  let r := (Config.special fn (BitVec.ofNat 32 a)).toNat
  match specialCase fn a, f32 a with
  | some c, _ => c
  | none, .fin neg m e => (match specialReal fn neg m e with
    | some v => withinAccuracy fn r m e v
    | none => if isNan r then 0x7FC00000 else r)
  | none, _ => if isNan r then 0x7FC00000 else r

/-- A comparison's truth (R217, R182): numbers in the order in which -0 is below +0; NaN compares false. -/
def cmpFn (fn a b : Nat) : Bool :=
  !isNan a && !isNan b &&
  (if fn = 19 then keyOf a == keyOf b else if fn = 20 then decide (keyOf a < keyOf b) else decide (keyOf a ≤ keyOf b))

/-- The FP32 result of an arithmetic lane function (R182, R217). -/
def laneFn (fn a b c : Nat) : Nat :=
  match fn with
  | 0 => fadd a b
  | 1 => fsub a b
  | 2 => fmul a b
  | 3 => ffma a b c
  | 4 => toF32 ((f32 a).div (f32 b))
  | 5 => toF32 (f32 a).sqrt
  | 17 => fmax a b
  | 18 => fmin a b
  | _ => specialFn fn a

/-- A lane's bits of a format (R216). -/
def laneMask (fmt : Nat) : Nat := 2 ^ elemBits fmt

/-- The value of a lane in a wide or FP8 format. -/
def laneVal (fmt n : Nat) : Val := elemVal fmt (n % laneMask fmt)

/-- A lane widened to FP32 (exact, R97). -/
def laneF32 (fmt n : Nat) : Nat := toF32 (laneVal fmt n)

/-- A value rounded into a lane of a format, with its events (R97, R184): FP32 takes none. -/
def laneOut (fmt : Nat) (sat : Bool) (draw : Option Nat) (v : Val) : Nat × Events :=
  match fpOf fmt with
  | some f => if fmt = 0 then (toF32 v, noEvents) else f.encode sat draw v
  | none => (0, noEvents)

/-- One level of the reduction tree of R183. -/
def pairwise (f : Nat → Nat → Nat) : List Nat → List Nat
  | a :: b :: t => f a b :: pairwise f t
  | l => l

/-- Six levels over 64 lanes. -/
def reduce6 (f : Nat → Nat → Nat) (l : List Nat) : Nat :=
  ((pairwise f (pairwise f (pairwise f (pairwise f (pairwise f (pairwise f l))))))[0]?).getD 0

/-! ## VOP -/

/-- Is a VOP's format legal (R215, R56)? -/
def vopFmtOk (w : Word) : Bool :=
  if fd w 52 6 = 22 then decide (fd w 32 4 ≤ 4) && decide (fd w 28 4 ≤ 4) else decide (fd w 32 4 ≤ 2)

/-- Is lane `l` active (R215 M)? -/
def laneOn (w : Word) (x : Slot) (l : Nat) : Bool := !fbit w 25 || (x.sr (fd w 20 5)).getLsbD l

/-- The active lanes' FP32 values of a source, for a reduction; an inactive lane contributes +0 to a sum (R183). -/
def reduceIn (w : Word) (x : Slot) : List Nat :=
  (List.range 64).map (fun l => if laneOn w x l then laneF32 (fd w 32 4) (x.vr (fd w 44 4) l) else 0)

/-- The maximum over the active lanes; none when no lane is active. -/
def reduceMax (w : Word) (x : Slot) : Option Nat :=
  (List.range 64).foldl (fun m l =>
    if laneOn w x l then
      (let v := laneF32 (fd w 32 4) (x.vr (fd w 44 4) l)
       match m with | some u => some (fmax u v) | none => some v)
    else m) none

/-- The result of lane `l`: bits and events; `draw` is r[l] in stochastic mode. -/
def vopLane (w : Word) (x : Slot) (draw : Option Nat) (l : Nat) : Nat × Events :=
  let fn := fd w 52 6
  let fmt := fd w 32 4
  let sat := fbit w 26
  let a := x.vr (fd w 44 4) l
  let b := x.vr (fd w 40 4) l
  let c := x.vr (fd w 36 4) l
  match fn with
  | 19 | 20 | 21 => (if cmpFn fn (laneF32 fmt a) (laneF32 fmt b) then laneMask fmt - 1 else 0, noEvents)
  | 22 => laneOut fmt sat draw (laneVal (fd w 28 4) a)
  | 23 => if l = 0 then laneOut fmt sat draw (f32 (reduce6 fadd (reduceIn w x))) else (0, noEvents)
  | 24 => if l = 0 then laneOut fmt sat draw (f32 ((reduceMax w x).getD 0)) else (0, noEvents)
  | 25 => ((x.sr (fd w 20 5)).toNat % laneMask fmt, noEvents)
  | _ => laneOut fmt sat draw (f32 (laneFn fn (laneF32 fmt a) (laneF32 fmt b) (laneF32 fmt c)))

/-- The draws of a VOP, none in nearest mode (R216). -/
def State.vopDraws (s : State) (w : Word) (x : Slot) : List Nat :=
  if fbit w 27 then
    draws (match s.ctx? x.ctx with | some c => c.seed.toNat | none => 0) ((x.sr (fd w 15 5)).toNat % 2 ^ 32) 64
  else []

/-- The mask that TOMASK writes (R217). -/
def toMask (w : Word) (x : Slot) : Word :=
  BitVec.ofNat 64 (maskOf ((List.range 64).filter (fun l =>
    if laneOn w x l then x.vr (fd w 44 4) l % laneMask (fd w 32 4) != 0 else (x.sr (fd w 20 5)).getLsbD l)))

/-- The slot after a VOP, and the events it counts. -/
def vopResult (w : Word) (x : Slot) (dr : List Nat) : Slot × Events :=
  if fd w 52 6 = 26 then (x.setSr (fd w 20 5) (toMask w x), noEvents)
  else
    (List.range 64).foldl (fun (acc : Slot × Events) l =>
      if laneOn w x l then
        (let r := vopLane w x dr[l]? l
         (acc.1.setVr (fd w 48 4) l r.1, sumEv acc.2 r.2))
      else acc) (x, noEvents)

/-- VOP (R215-R217): its conversions' events go to the partial counts (R130). -/
def execVop (core : Nat) (w : Word) (s : State) : Host.Outcome State Fault Refusal :=
  s.issue core w 0x10 none (fun s1 k x =>
    if ¬ vopFmtOk w then s1.faultAt core k x 0x02 0
    else
      let r := vopResult w x (s1.vopDraws w x)
      (s1.retire core k r.1.advance).addPartials core k r.2)

/-! ## VLS -/

/-- Bytes of a lane that a VLS moves (R218). -/
def vlsLane (w : Word) : Nat := if fd w 23 4 = 0 then 4 else if fd w 23 4 ≤ 2 then 2 else 1

/-- The local address, or the row, of a VLS: BASE + IMM (R218). -/
def vlsAddr (w : Word) (x : Slot) : Nat := ((x.sr (fd w 46 5)).toNat + fd w 27 19) % 2 ^ 64

/-- A vector register loaded from bytes, each lane's other bits 0 (R216). -/
def vlsIn (x : Slot) (v n : Nat) (b : Bytes) : Slot :=
  (List.range 64).foldl (fun y l => y.setVr v l (fieldLe b (n * l) n)) x

/-- A vector register's bytes. -/
def vlsOut (x : Slot) (v n : Nat) : Bytes := (List.range 64).flatMap (fun l => le n (x.vr v l))

/-- VLS to or from an accumulator row (R218, R219). -/
def State.vlsRow (s : State) (c k : Nat) (x : Slot) (w : Word) (write : Bool) : State :=
  let t := fd w 21 2
  let row := vlsAddr w x
  let v := fd w 51 4
  if fd w 23 4 ≠ 0 ∨ 64 ≤ row ∨ ¬ x.accIn t then s.faultAt c k x 0x03 row
  else if ¬ (s.core c).accFree k t write then s.stall c k x
  else
    let way := x.accPhys t
    let kc := s.core c
    if write then
      let kc1 := (List.range 64).foldl (fun (y : Core) j => y.setCell way row j (x.vr v j)) kc
      let as := match tget way kc1.assay with | some a => tput way { a with live := false } kc1.assay | none => kc1.assay
      (s.setCore c { kc1 with assay := as }).retire c k x.advance
    else s.retire c k ((List.range 64).foldl (fun (y : Slot) j => y.setVr v j (kc.cell way row j)) x).advance

/-- VLS (R218). -/
def execVls (core : Nat) (w : Word) (s : State) : Host.Outcome State Fault Refusal :=
  s.issue core w 0x11 none (fun s1 k x =>
    let op := fd w 55 3
    let n := vlsLane w
    let a := vlsAddr w x % 2 ^ 19
    if op = 2 then s1.vlsRow core k x w false
    else if op = 3 then s1.vlsRow core k x w true
    else if a % 32 ≠ 0 then s1.faultAt core k x 0x0B a
    else if ¬ x.spIn a (64 * n) then s1.faultAt core k x 0x03 a
    else if ¬ (s1.core core).spFree k x a (64 * n) (op == 1) then s1.stall core k x
    else if op = 0 then s1.retire core k (vlsIn x (fd w 51 4) n ((s1.core core).spRead x a (64 * n))).advance
    else (s1.setCore core ((s1.core core).spWrite x a (vlsOut x (fd w 51 4) n))).retire core k x.advance)

end Sys2Proof.Machine
end

