-- ==== Sys2Proof/Machine/Matrix.lean ====
section
/-! DEFINITION. Sys2Proof/Machine/Matrix.lean: the matrix unit (03 R98-R119, 06 R205-R214, 04 R127-R144): MMA, RQ, their execution, and updates of the safeguard block. -/

namespace Sys2Proof.Machine

/-! ## One block of products (R104-R112) -/

/-- The exponent q of R104. -/
def qOf (fmt : Nat) : Int :=
  match fmt with
  | 0x9 => -1 | 0xC => -1 | 0xB => 0 | 0xD => -1 | 0xE => 0 | 0x8 => -3 | 0x7 => -4 | 0xA => -6 | 0x3 => -9 | 0x5 => -9
  | 0x4 => -16 | 0x6 => -16 | 0x2 => -24 | 0x1 => -133 | _ => 0

/-- The integer m of a finite element at exponent q (R104). -/
def intAt (q : Int) (v : Val) : Int :=
  match v with
  | .fin neg m e => (if neg then -1 else 1) * ((m * pow2 (e - q) : Nat) : Int)
  | _ => 0

/-- One operand's part of a block: elements, scale and the micro-exponent of each subblock of 16. -/
structure Blk where
  el : List Val
  sc : Option (Int × Int)
  us : List Nat
  deriving DecidableEq, Repr

/-- The decoded values of a block (R68). -/
def Blk.vals (b : Blk) : List Val := b.el.zipIdx.map (fun p => scaled p.1 b.sc ((b.us[p.2 / 16]?).getD 0))

/-- The special result of a block on its products, if R112 gives one. -/
def specialBlock (a b : List Val) : Option Nat :=
  if hasNan a ∨ hasNan b then some 0x7FC00000
  else
    let ps := List.zipWith (fun x y => x.mul y) a b
    if hasNan ps then some 0x7FC00000
    else
      let p := ps.any (fun v => v == .inf false)
      let n := ps.any (fun v => v == .inf true)
      if p && n then some 0x7FC00000 else if p then some 0x7F800000 else if n then some 0xFF800000 else none

/-- S of R107: the exact sum over one subblock. -/
def subSum (qa qb : Int) (a b : List Val) : Int := (List.zipWith (fun x y => intAt qa x * intAt qb y) a b).sum

/-- W of R108. -/
def blockSum (qa qb : Int) (u : Nat) (a b : Blk) : Int :=
  ((List.range (a.el.length / 16)).map (fun j =>
    subSum qa qb ((a.el.drop (16 * j)).take 16) ((b.el.drop (16 * j)).take 16) *
      (2 ^ (u - (a.us[j]?).getD 0 - (b.us[j]?).getD 0) : Nat))).sum

/-- The FP32 result of a block (R109, R112). -/
def blockResult (qa qb : Int) (u : Nat) (a b : Blk) : Nat :=
  match specialBlock a.vals b.vals with
  | some r => r
  | none =>
    match a.sc, b.sc with
    | some (ga, xa), some (gb, xb) =>
      let v := blockSum qa qb u a b * ga * gb
      toF32 (.fin (decide (v < 0)) v.natAbs (qa + qb + xa + xb - u))
    | _, _ => 0x7FC00000

/-! ## Operand tiles -/

/-- Block length of a pairing (R106). -/
def pairL (a b : Nat) (derived : Bool) : Nat :=
  if derived then 64
  else if blockOf a = 0 ∧ blockOf b = 0 then 16 else if blockOf a = 32 ∨ blockOf b = 32 then 32 else 64

/-- The allowance U of a pairing (R106). -/
def pairU (a b : Nat) : Nat := 3 * (b2n (a == 0xC) + b2n (b == 0xC))

/-- One line of an operand cut into blocks of length L (R100, R106). -/
def lineBlocks (fmt kt l : Nat) (el side : Bytes) : List Blk :=
  (List.range (kt / l)).map (fun b =>
    { el := (List.range l).map (fun i => rowElem fmt el (b * l + i))
      sc := rowScale fmt side (b * l)
      us := (List.range (l / 16)).map (fun j => rowMicro fmt side (b * l + 16 * j)) })

/-- A line of FP8 activations as derived ternary blocks (R77). -/
def derivedBlocks (kt : Nat) (el : Bytes) : List Blk :=
  (List.range (kt / 64)).map (fun b =>
    let d := deriveTernary ((List.range 64).map (fun i => rowElem 3 el (b * 64 + i)))
    { el := d.2.map (fun t => .fin (decide (t < 0)) t.natAbs 0)
      sc := d.1.map (fun p => ((p.1 : Int), p.2))
      us := [0, 0, 0, 0] })

/-- The bytes of line `n` of a tile. -/
def Core.lineAt (c : Core) (x : Slot) (base pitch len n : Nat) : Bytes := c.spRead x (base + n * pitch) len

/-- An operand's 64 lines of blocks. -/
def Core.operand (c : Core) (x : Slot) (ly : Layout) (fmt kt l : Nat) (derived : Bool) : List (List Blk) :=
  (List.range 64).map (fun n =>
    let el := c.lineAt x ly.ebase ly.epitch (elemBytes fmt kt) n
    if derived then derivedBlocks kt el
    else lineBlocks fmt kt l el (if hasSide fmt then c.lineAt x ly.sbase ly.spitch (sideBytes fmt kt) n else []))

/-- Invalid TRIT bytes of an operand tile, each once (R127). -/
def Core.tritEvents (c : Core) (x : Slot) (ly : Layout) (fmt kt : Nat) : Nat :=
  if fmt = 0xE then
    ((List.range 64).map (fun n => badTrits (c.lineAt x ly.ebase ly.epitch (elemBytes fmt kt) n) kt)).sum
  else 0

/-- NaN-scaled blocks of an operand tile, each once (R69, R127). -/
def Core.nanEvents (c : Core) (x : Slot) (ly : Layout) (fmt kt : Nat) (derived : Bool) : Nat :=
  if derived then
    ((List.range 64).map (fun n =>
      ((derivedBlocks kt (c.lineAt x ly.ebase ly.epitch (elemBytes fmt kt) n)).filter (fun b => b.sc.isNone)).length)).sum
  else if hasSide fmt then
    ((List.range 64).map (fun n =>
      let side := c.lineAt x ly.sbase ly.spitch (sideBytes fmt kt) n
      ((List.range (kt / blockOf fmt)).filter (fun b => (rowScale fmt side (b * blockOf fmt)).isNone)).length)).sum
  else 0

/-! ## The tile (R98, R99, R110) -/

/-- A cell after an MMA: FP32 additions of its block results in ascending k (R110). -/
def cellAfter (qa qb : Int) (u : Nat) (start : Nat) (a b : List Blk) : Nat :=
  (List.zipWith (fun x y => blockResult qa qb u x y) a b).foldl fadd start

/-- Some blocks, from `i` up to but not `j`. -/
def someBlocks (i j : Nat) (l : List Blk) : List Blk := (l.drop i).take (j - i)

/-- Blocks of an MMA: its K extent in blocks of length L (R106). -/
def MatOp.blocks (o : MatOp) : Nat := mmaKt o.w / pairL (fd o.w 54 4) (fd o.w 50 4) (fd o.w 46 3 == 2)

/-- The two operands of an MMA, line by line. -/
def Core.mmaOperands (c : Core) (x : Slot) (o : MatOp) : List (List Blk) × List (List Blk) :=
  let fa := fd o.w 54 4
  let fb := fd o.w 50 4
  let der := fd o.w 46 3 == 2
  let kt := mmaKt o.w
  let l := pairL fa fb der
  (c.operand x (layoutOf o.sa) fa kt l der, c.operand x (layoutOf o.sb) fb kt l false)

/-- The accumulator way after blocks `i` to `j` of an MMA; its first block starts from +0 with accumulate-clear on. -/
def Core.mmaTile (c : Core) (x : Slot) (o : MatOp) (way i j : Nat) : Core :=
  let fa := fd o.w 54 4
  let fb := fd o.w 50 4
  let ab := c.mmaOperands x o
  let qa := if fd o.w 46 3 == 2 then 0 else qOf fa
  ab.1.zipIdx.foldl (fun c1 ra => ab.2.zipIdx.foldl (fun (c2 : Core) cb =>
    c2.setCell way ra.2 cb.2
      (cellAfter qa (qOf fb) (pairU fa fb) (if fbit o.w 49 ∧ i = 0 then 0 else c.cell way ra.2 cb.2)
        (someBlocks i j ra.1) (someBlocks i j cb.1))) c1) c

/-- The shadow sums after blocks `i` to `j` of an MMA (R136). -/
def Core.shadow (c : Core) (x : Slot) (o : MatOp) (a : Assay) (i j : Nat) : Assay :=
  if a.live then
    let ab := c.mmaOperands x o
    let cells := (List.range 64).map (fun e =>
      let ra := (someBlocks i j ((ab.1[8 * (a.sub / 8) + e / 8]?).getD [])).flatMap Blk.vals
      let cb := (someBlocks i j ((ab.2[8 * (a.sub % 8) + e % 8]?).getD [])).flatMap Blk.vals
      (List.zip ra cb).foldl (fun acc p => shadowStep acc p.1 p.2) (((a.s[e]?).getD 0).toNat, ((a.m[e]?).getD 0).toNat))
    { a with s := cells.map (fun p => BitVec.ofNat 32 p.1), m := cells.map (fun p => BitVec.ofNat 32 p.2) }
  else a

/-! ## MMA -/

/-- Instructions of a slot in the matrix queue. -/
def Core.queued (c : Core) (k : Nat) : Nat := (c.mq.filter (fun o => o.slot == k)).length

/-- The MMA as it enters the queue, with the registers it reads at issue (R197) and the settings in force then (R124). -/
def mmaOp (k : Nat) (x : Slot) (w : Word) (floorN : Nat) : MatOp :=
  { slot := k, pc := x.pc, w, sa := x.sr (fd w 39 5), sb := x.sr (fd w 34 5), st := if fbit w 49 then x.sr (fd w 29 5) else 0,
    set := x.set, floorN }

/-- The first check of R208 that an MMA fails: its fault cause. -/
def mmaFault (x : Slot) (w : Word) : Option Nat :=
  let fa := fd w 54 4
  let fb := fd w 50 4
  let la := layoutOf (x.sr (fd w 39 5))
  let lb := layoutOf (x.sr (fd w 34 5))
  let kt := mmaKt w
  if ¬ pairingOk (fd w 46 3) fa fb then some 0x02
  else if ¬ (la.ok fa kt (hasSide fa)) ∨ ¬ (lb.ok fb kt (hasSide fb)) then some 0x04
  else if ¬ (la.inWays x fa kt (hasSide fa)) ∨ ¬ (lb.inWays x fb kt (hasSide fb)) ∨ ¬ x.accIn (fd w 44 2) then some 0x03
  else none

/-- MMA (R205-R210): checked, then entered into the queue of 2; a full queue stalls issue. With accumulate-clear the settings of the
context come into force on this core (R124). -/
def execMma (core : Nat) (w : Word) (s : State) : Host.Outcome State Fault Refusal :=
  s.issue core w 0x20 none (fun s1 k x =>
    match mmaFault x w with
    | some cause => s1.faultAt core k x cause 0
    | none =>
      if 2 ≤ (s1.core core).queued k then s1.stall core k x
      else
        let y := if fbit w 49 then { x with set := s1.settings x.ctx } else x
        (s1.setCore core { s1.core core with mq := (s1.core core).mq ++ [mmaOp k y w s1.floorN] }).retire core k y.advance)

/-- The matrix unit's next instruction: the first queued one of the running context, unless that context is stopped (R240). -/
def State.matHead (s : State) (c : Nat) : Option (Nat × Slot × MatOp) :=
  match (s.core c).running with
  | none => none
  | some k =>
    match s.slot? c k, (s.core c).mq.find? (fun o => o.slot == k) with
    | some x, some o => if s.ctxStopped x.ctx then none else some (k, x, o)
    | _, _ => none

/-- The queue without its first instruction of slot `k`. -/
def dropOp (k : Nat) : List MatOp → List MatOp
  | [] => []
  | o :: t => if o.slot = k then t else o :: dropOp k t

/-- The queue with its first instruction of slot `k` replaced. -/
def setOp (k : Nat) (v : MatOp) : List MatOp → List MatOp
  | [] => []
  | o :: t => if o.slot = k then v :: t else o :: setOp k v t

/-- The assay state of a way as this MMA takes it up (R135, R142 step 5, R141). -/
def State.mmaAssay (s : State) (c : Nat) (x : Slot) (o : MatOp) (way : Nat) : Option Assay :=
  let mode := fd o.w 46 3
  if fbit o.w 49 then
    let orig := match x.guard with | some g => tget g.way (s.core c).assay | none => none
    let a := startAssay o.set o.floorN mode o.st (if fbit o.st 48 then orig.map (fun y => y.sub) else none)
    match fbit o.st 48, orig with
    | true, some y => some { a with tolT := y.tolT, action := y.action }
    | _, _ => some a
  else (tget way (s.core c).assay).map (fun a => { a with allPromo := a.allPromo && (mode == 3 || mode == 2) })

/-- Clears a way's counters at an accumulate-clear MMA, then adds the MMA's kinds 4 and 5 (R127, R128). -/
def Core.mmaEvents (c : Core) (x : Slot) (o : MatOp) (way : Nat) : Core :=
  let fa := fd o.w 54 4
  let fb := fd o.w 50 4
  let kt := mmaKt o.w
  let c1 := if fbit o.w 49 then c.clearTile way else c
  c1.addTile way [0, 0, 0, 0, c.tritEvents x (layoutOf o.sb) fb kt,
    c.nanEvents x (layoutOf o.sa) fa kt (fd o.w 46 3 == 2) + c.nanEvents x (layoutOf o.sb) fb kt false]

/-- Core cycles of an MMA (R103), and MATRIX_CYCLES of a context (R514). -/
def mmaCycles (o : MatOp) : Nat :=
  let kt := mmaKt o.w
  match fd o.w 46 3 with
  | 0 => kt | 1 => kt / 2 | 2 => kt / 2 | 5 => 4 * kt | _ => 2 * kt

def State.matrixTime (s : State) (ctx n : Nat) : State :=
  s.modCtx ctx (fun x => { x with acct := { x.acct with matrixCycles := x.acct.matrixCycles + n } })

/-- The matrix unit runs the MMA at its head up to block `j`: accumulator, at its first block the counts and the assay's start, the
shadow sums; a whole MMA leaves the queue. -/
def State.mmaRun (s : State) (core k : Nat) (x : Slot) (o : MatOp) (j : Nat) : State :=
  let way := x.accPhys o.tile
  let c := s.core core
  let c1 := c.mmaTile x o way o.done j
  let c2 := if o.done = 0 then c1.mmaEvents x o way else c1
  let as := match (if o.done = 0 then s.mmaAssay core x o way else tget way c.assay) with
    | some a => tput way (c.shadow x o a o.done j) c.assay
    | none => c.assay
  let n := o.blocks
  (s.setCore core { c2 with assay := as, mq := if j = n then dropOp k c.mq else setOp k { o with done := j } c.mq }).matrixTime x.ctx
    (mmaCycles o * j / n - mmaCycles o * o.done / n)

/-- MMA_EXECUTE (R98-R114, R122, R127, R128, R135, R136): the MMA at the head of the queue runs from its first uncommitted block to its
end. -/
def execMmaExecute (core : Nat) (s : State) : Host.Outcome State Fault Refusal :=
  match s.matHead core with
  | none => stay s
  | some (k, x, o) => if major o.w ≠ 0x20 then stay s else .next (s.mmaRun core k x o o.blocks)

/-! ## RQ -/

/-- The RQ as it enters the queue. -/
def rqOp (k : Nat) (x : Slot) (w : Word) : MatOp :=
  { slot := k, pc := x.pc, w, sa := x.sr (fd w 44 5), st := x.sr (fd w 39 5) }

/-- The first check of R212 and R213 that an RQ fails. -/
def rqFault (x : Slot) (w : Word) : Option Nat :=
  let r := rqOut w (x.sr (fd w 44 5)) (x.sr (fd w 39 5)) x.guard
  let ly := layoutOf r.sd
  if fbit w 38 ∧ x.guard.isNone then some 0x01
  else if r.fmt = 0xF then some 0x02
  else if ¬ ly.ok r.fmt 64 (hasSide r.fmt) then some 0x04
  else if ¬ ly.inWays x r.fmt 64 (hasSide r.fmt) ∨ ¬ x.accIn (fd w 49 2) then some 0x03
  else none

/-- RQ (R210-R213): checked and entered into the queue; the scalar pipe goes on once it has executed (log 21). -/
def execRq (core : Nat) (w : Word) (s : State) : Host.Outcome State Fault Refusal :=
  s.issue core w 0x21 none (fun s1 k x =>
    match rqFault x w with
    | some cause => s1.faultAt core k x cause 0
    | none =>
      if 2 ≤ (s1.core core).queued k then s1.stall core k x
      else (s1.setCore core { s1.core core with mq := (s1.core core).mq ++ [rqOp k x w] }).setSlot core k
        { x.advance with wait := .rq })

/-- The cells of output line `n` (R211 DIM) and the draws of its elements (R118, R119). -/
def Core.rqLine (c : Core) (way : Nat) (dim : Bool) (n : Nat) : List Val :=
  (List.range 64).map (fun i => f32 (if dim then c.cell way i n else c.cell way n i))

def rqDraws (dr : List Nat) (dim : Bool) (n : Nat) : List Nat :=
  if dr = [] then []
  else (List.range 64).map (fun i => (dr[if dim then 64 * i + n else 64 * n + i]?).getD 0)

/-- One output line: element bytes, side bytes, events (R78-R97, R212). -/
def rqEncode (fmt : Nat) (sat : Bool) (vals : List Val) (dr : List Nat) : Bytes × Bytes × Events :=
  if blockOf fmt = 0 then
    let es := vals.zipIdx.map (fun p => laneOut fmt sat dr[p.2]? p.1)
    (packCodes (elemBits fmt) (es.map Prod.fst), [], evOf es)
  else
    let l := blockOf fmt
    let bl := (List.range (64 / l)).map (fun b => encodeBlock fmt ((vals.drop (b * l)).take l) ((dr.drop (b * l)).take l))
    (bl.flatMap (fun p => p.1), bl.flatMap (fun p => p.2.1), bl.foldl (fun a p => sumEv a p.2.2) noEvents)

/-- The scratchpad after output lines `i` to `j` of a requantization, and their events. -/
def Core.rqTile (c : Core) (x : Slot) (r : RqOut) (way : Nat) (dr : List Nat) (i j : Nat) : Core × Events :=
  let ly := layoutOf r.sd
  ((List.range j).drop i).foldl (fun (acc : Core × Events) n =>
    let e := rqEncode r.fmt r.sat (c.rqLine way r.dim n) (rqDraws dr r.dim n)
    (((acc.1.spWrite x (ly.ebase + n * ly.epitch) e.1).spWrite x (ly.sbase + n * ly.spitch) e.2.1), sumEv acc.2 e.2.2))
    (c, noEvents)

/-- The guard-handler entry of the program that the context runs; 0: none (R141, R185). -/
def State.guardEntry (s : State) (ctx : Nat) : Nat :=
  match s.ctx? ctx with
  | none => 0
  | some x => (match x.act with
    | none => 0
    | some a => (match tget a.prog x.programs with | some p => fieldLe p.image 0x28 4 | none => 0))

/-- Is a missed tile promotable (R141)? A tile that misses inside a running guard handler is not, promoted flag or not: R214 gives a slot
one save area (DESIGN CHOICE, log 106). -/
def State.promotable (s : State) (x : Slot) (a : Assay) : Bool :=
  (a.action == 1 || a.action == 2) && a.chosenCtx && !a.floorOnly && a.allPromo && a.guardIx != 0 &&
  s.guardEntry x.ctx != 0 && !a.promoted && x.guard.isNone

/-- The end of an RQ for its way's counters (R129, R131): record, partial counts, clear, and the flush that is due. -/
def State.rqCounts (s : State) (c k : Nat) (x : Slot) (way tile tag : Nat) : State :=
  let s1 := s.sieveTile c x.ctx way tile tag ((s.core c).tileThrOf way x)
  let ev := (List.range 6).map (fun i => (s1.core c).tileCount way i)
  let s2 := (s1.setCore c ((s1.core c).clearTile way)).addPartials c k ev
  if 2 ^ 20 ≤ s2.count (coreIsland c) - x.lastFlush then s2.flushSlot c k else s2

/-- Guard-handler entry (R142 steps 1-3, R214). -/
def State.guardEnter (s : State) (c k : Nat) (x : Slot) (o : MatOp) (way : Nat) (a : Assay) (body : Bytes) : State :=
  let g : Guard :=
    { saved := [x.sr 28, x.sr 29, x.sr 30, x.sr 31], origPc := o.pc, orig := rqOut o.w o.sa o.st none, way,
      tag := a.tag, outcome := 1, record := body }
  s.modSlot c k (fun y =>
    { ((((y.setSr 28 (BitVec.ofNat 64 o.tile)).setSr 29 (BitVec.ofNat 64 a.guardIx)).setSr 30 (BitVec.ofNat 64 a.tag.toNat)).setSr 31
        o.pc) with
      pc := BitVec.ofNat 64 (s.guardEntry x.ctx), guard := some g, wait := .none })

/-- What follows the write of an RQ whose tile missed and was not promoted (R140, R143, R144): record and fault. -/
def State.rqMissed (s : State) (c k : Nat) (x : Slot) (o : MatOp) (way : Nat) (a : Assay) (miss : List Nat) : State :=
  if a.promoted ∧ x.guard.isSome then
    let body := s.missBody c way o.tile a miss 3 (engineBytes c)
    if a.action = 2 then
      (let r := s.missRecords c x.ctx way o.tile a miss 3
       ((s.missPut x.ctx false r.1 r.2).modSlot c k (fun y => { y with guard := none })).faultSlot c k { cause := 0x0D, pc := o.pc })
    else s.modSlot c k (fun y => { y with guard := y.guard.map (fun g => { g with outcome := 3, record := body }) })
  else
    let faults := a.action == 2 && !a.floorOnly
    let out := if a.floorOnly ∨ a.action = 0 then 0 else if faults then 4 else 2
    let r := s.missRecords c x.ctx way o.tile a miss out
    let s1 := s.missPut x.ctx a.floorOnly r.1 r.2
    if faults then s1.faultSlot c k { cause := 0x0D, pc := o.pc } else s1

/-- An update of ASSAYED (0x70), MISSES (0x78) or PROMOTED (0x7C) by one (R131). -/
def State.bumpSafe (s : State) (core k : Nat) (x : Slot) (off : Nat) : State :=
  s.addUpdate { ctx := x.ctx, core, slot := k, base := s.safeVa x.ctx, off, inc := 1, kind := none }

/-- The assay of the way that an RQ reads. -/
def State.rqAssay (s : State) (core : Nat) (x : Slot) (o : MatOp) : Assay := (tget (x.accPhys o.tile) (s.core core).assay).getD {}

/-- The RQ at the head of the queue starts: an assayed way is compared, once (R138, R139), which takes 8 core cycles. The second part is
the instruction as it then stands. -/
def State.rqStart (s : State) (core k : Nat) (x : Slot) (o : MatOp) : MatOp × State :=
  if o.compared then (o, s)
  else
    let way := x.accPhys o.tile
    let c := s.core core
    let a := s.rqAssay core x o
    let miss := if a.live then c.missing way a else []
    let o1 := { o with compared := true, missed := miss }
    let s0 := s.setCore core { c with mq := setOp k o1 c.mq, assay := (if a.live then tput way { a with live := false } c.assay else c.assay) }
    let s1 := if a.live && !a.floorOnly then s0.bumpSafe core k x 0x70 else s0
    let s2 := if a.live && !a.floorOnly && miss != [] then s1.bumpSafe core k x 0x78 else s1
    (o1, if a.live then s2.matrixTime x.ctx 8 else s2)

/-- The RQ writes rows up to `j` (R212), one core cycle each, and counts their events in the way's counters. -/
def State.rqRows (s : State) (core k : Nat) (x : Slot) (o : MatOp) (j : Nat) : State :=
  let way := x.accPhys o.tile
  let r := rqOut o.w o.sa o.st x.guard
  let seed := match s.ctx? x.ctx with | some y => y.seed.toNat | none => 0
  let dr := if r.sr then draws seed (r.stg.toNat % 2 ^ 32) 4096 else []
  let t := (s.core core).rqTile x r way dr o.done j
  let c := t.1.addTile way t.2
  (s.setCore core { c with mq := setOp k { o with done := j } c.mq }).matrixTime x.ctx (j - o.done)

/-- The RQ leaves the queue. -/
def State.rqLeave (s : State) (core k : Nat) : State := s.setCore core { s.core core with mq := dropOp k (s.core core).mq }

/-- RQ_EXECUTE (R212, R128, R129, R138-R144): the assay comparison, then the write of the rows not yet written and the counts, or the
guard handler. -/
def execRqExecute (core : Nat) (s : State) : Host.Outcome State Fault Refusal :=
  match s.matHead core with
  | none => stay s
  | some (k, x, o) =>
    if major o.w ≠ 0x21 then stay s
    else
      let way := x.accPhys o.tile
      let a := s.rqAssay core x o
      let st := s.rqStart core k x o
      let o1 := st.1
      if o1.missed ≠ [] ∧ s.promotable x a then
        let body := s.missBody core way o.tile a o1.missed 1 (engineBytes core)
        .next (((st.2.rqLeave core k).rqCounts core k x way o.tile a.tag.toNat).guardEnter core k x o way a body)
      else
        let s4 := ((st.2.rqRows core k x o1 64).rqLeave core k).rqCounts core k x way o.tile a.tag.toNat
        let s5 := if o1.missed ≠ [] then s4.rqMissed core k x o way a o1.missed else s4
        .next (s5.modSlot core k (fun y => if y.wait = .rq then { y with wait := .none } else y))

/-! ## Switch points and faults (R238, R240) -/

/-- The matrix instruction that a slot has at the head stands at a switch point: an MMA at a block boundary, an RQ at a row boundary
behind its comparison; how far it has come is a free value (log 6). An RQ that is about to enter the guard handler has not started. -/
def State.matStop (s : State) (core k : Nat) : State :=
  match s.slot? core k, (s.core core).mq.find? (fun o => o.slot == k) with
  | some x, some o =>
    if major o.w = 0x20 then
      let j := o.done + s.freeNat % (o.blocks - o.done)
      if j = o.done then s.useFree else (s.mmaRun core k x o j).useFree
    else
      let j := s.freeNat % 65
      let st := s.rqStart core k x o
      if j ≤ o.done ∨ (st.1.missed ≠ [] ∧ s.promotable x (s.rqAssay core x o)) then s.useFree
      else (st.2.rqRows core k x st.1 (j - 1)).useFree
  | _, _ => s

/-- The MMAs that a slot has queued before a faulting instruction complete (R238). -/
def State.matDrain (s : State) (core k : Nat) : (fuel : Nat) → State
  | 0 => s
  | fuel + 1 =>
    match s.slot? core k, (s.core core).mq.find? (fun o => o.slot == k) with
    | some x, some o => if major o.w = 0x20 then State.matDrain (s.mmaRun core k x o o.blocks) core k fuel else s
    | _, _ => s

/-! ## Updates of the safeguard block (R131, R132) -/

/-- Translation without a request, for an update of a core: the core's TLB, else the die's walker (R357). -/
def State.peek (s : State) (c ctx va acc : Nat) : Option Nat :=
  match s.lookup c ctx va acc with
  | (.pa a _, _) => some a
  | (.miss, _) => (match s.walkAt (coreDie c) ctx va with
    | .leaf e _ => if permits e.perm acc then some (e.pa va) else none
    | _ => none)
  | _ => none

/-- STATUS of a cause 0x12 record (R592). -/
def sgStatus : Cpl → Nat
  | .lost => 3 | .hbmErr => 4 | .integrity => 5 | _ => 2

/-- A failed update: its record only (R131). No instruction is at fault, so PC is free (log 6). -/
def State.sgFailed (s : State) (u : SgUpdate) (va status : Nat) : State :=
  (s.ctxFaultRecord u.ctx (coreIsland u.core) (some u.core)
    { cause := 0x12, status, pc := BitVec.ofNat 64 s.freeNat, addr := va }).useFree

/-- SAFEGUARD_UPDATE_COMPLETE (R131, R132): the fetch-and-add, its SIEVE_CTX record, or the record of its failure. -/
def execSafeguardUpdateComplete (upd : Nat) (s : State) : Host.Outcome State Fault Refusal :=
  match tget upd s.updates with
  | none => stay s
  | some u =>
    let s0 := { s with updates := tdel upd s.updates }
    let va := u.base + u.off
    let n := if u.off < 0x78 then 8 else 4
    match s0.peek u.core u.ctx va 3 with
    | none => .next (s0.sgFailed u va 1)
    | some a =>
      match s0.readLine u.ctx (s0.ctxFolio u.ctx) a n with
      | (.ok, b, s1) =>
        (match s1.writeLine u.ctx (s1.ctxFolio u.ctx) a (le n (unle b + u.inc)) with
         | (.ok, s2) =>
           (match u.kind with
            | some k =>
              let new := (unle b + u.inc) % 2 ^ 64
              .next (if u.thr ≠ 0 ∧ unle b / u.thr < new / u.thr then s2.sieveCtx u.core u.ctx k new u.thr else s2)
            | none => .next s2)
         | (e, s2) => .next (s2.sgFailed u va (sgStatus e)))
      | (e, _, s1) => .next (s1.sgFailed u va (sgStatus e))

end Sys2Proof.Machine
end

