-- ==== Sys2Proof/Machine/Sift.lean ====
section
/-! DEFINITION. Sys2Proof/Machine/Sift.lean: sift requests and the sift units (06 R234-R235, 07 R241-R263). -/

namespace Sys2Proof.Machine

/-! ## The descriptor (R242) -/

/-- A sift descriptor's fields. -/
structure SiftD where
  rows : Nat
  side : Nat
  rstride : Nat
  sstride : Nat
  fence : Nat
  fval : Nat
  n : Nat
  d : Nat
  op : Nat
  fmt : Nat
  out : Nat
  scope : Nat
  acc : Bool
  sat : Bool
  k : Nat
  qaddr : Nat
  res : Nat
  stat : Nat
  idx : Nat
  deriving DecidableEq, Repr

/-- The fields of the 64 bytes. -/
def siftOf (b : Bytes) : SiftD :=
  { rows := fieldLe b 0 8, side := fieldLe b 8 8, rstride := fieldLe b 16 4, sstride := fieldLe b 20 4, fence := fieldLe b 24 8,
    fval := fieldLe b 32 4, n := fieldLe b 36 2 + 1, d := 64 * (fieldLe b 38 2 + 1), op := fieldLe b 40 1,
    fmt := bits (fieldLe b 41 1) 0 4, out := bits (fieldLe b 41 1) 4 4, scope := bits (fieldLe b 42 1) 0 2,
    acc := bit (fieldLe b 42 1) 2, sat := bit (fieldLe b 42 1) 3, k := fieldLe b 43 1, qaddr := fieldLe b 44 4, res := fieldLe b 48 4,
    stat := fieldLe b 52 4, idx := fieldLe b 56 4 }

/-- Bytes of a value in the output format. -/
def SiftD.ob (t : SiftD) : Nat := if t.out = 0 then 4 else 2

/-- Bytes of the input vector and of the result (R243). -/
def SiftD.qBytes (t : SiftD) : Nat := if t.op = 1 then t.n * t.ob else 2 * t.d
def SiftD.resBytes (t : SiftD) : Nat := if t.op = 0 then t.n * t.ob else if t.op = 1 then t.d * t.ob else 8 * t.k

/-- Element bytes of a row and side bytes of a row. -/
def SiftD.rowBytes (t : SiftD) : Nat := elemBytes t.fmt t.d
def SiftD.sideRow (t : SiftD) : Nat := if t.fmt = 0xC then t.d / 32 else 0

/-- The rules of R242-R244 that the descriptor alone decides. -/
def SiftD.ok (t : SiftD) (b : Bytes) (x : Slot) : Bool :=
  let silt := t.fmt == 0xC
  decide (t.rows % 64 = 0 ∧ t.rows < 2 ^ 52) && (if silt then decide (t.side % 64 = 0) else t.side == 0) &&
  decide (t.rstride % 64 = 0 ∧ t.rowBytes ≤ t.rstride) &&
  (if silt then decide (t.sstride % 64 = 0 ∧ t.d / 32 ≤ t.sstride) else t.sstride == 0) &&
  decide (t.fence % 8 = 0) && decide (t.n ≤ 4096) && decide (t.d ≤ 4096) && decide (t.op ≤ 2) &&
  ([1, 3, 4, 0xC].contains t.fmt) && decide (t.out ≤ 1) && decide (t.scope ≤ 2) && decide (fieldLe b 42 1 < 16) &&
  (if t.op = 2 then decide (1 ≤ t.k ∧ t.k ≤ 64) && t.out == 0 && decide (t.idx + t.n - 1 ≤ 0xFFFFFFFE) else t.k == 0 && t.idx == 0) &&
  !(t.acc && t.op == 0) && fieldLe b 60 4 == 0 &&
  decide (t.qaddr % 32 = 0 ∧ t.res % 32 = 0 ∧ t.stat % 32 = 0) &&
  x.spIn t.qaddr t.qBytes && x.spIn t.res t.resBytes && x.spIn t.stat 32

/-! ## Issue (R234, R244, R245) -/

/-- The byte ranges of the rows and of the side rows. -/
def SiftD.ranges (t : SiftD) : List (Nat × Nat) :=
  (List.range t.n).map (fun r => (t.rows + r * t.rstride, t.rowBytes)) ++
  (if t.fmt = 0xC then (List.range t.n).map (fun r => (t.side + r * t.sstride, t.sideRow)) else [])

/-- The 32 MiB pages of ranges, each with its lowest touched address, ascending. -/
def pagesOf (l : List (Nat × Nat)) : Tbl Nat :=
  let add := fun (m : Tbl Nat) (p a : Nat) => match tget p m with | some b => tput p (min a b) m | none => tput p a m
  l.foldl (fun m r => (List.range ((r.1 + r.2 - 1) / 2 ^ 25 + 1 - r.1 / 2 ^ 25)).foldl (fun m2 i =>
    add m2 (r.1 / 2 ^ 25 + i) (max r.1 ((r.1 / 2 ^ 25 + i) * 2 ^ 25))) m) []

/-- The pages in ascending order with the fence word among them. -/
def withFence (f : Nat) : Tbl Nat → List (Nat × Nat)
  | [] => [(f / 2 ^ 25, f)]
  | (p, a) :: t => if f < a then (f / 2 ^ 25, f) :: (p, a) :: t else (p, a) :: withFence f t

/-- The physical base of each data page, with the fence word's page left out where no data lies in it. -/
def baseMap (pages : Tbl Nat) (map : Tbl (Option Nat)) : Tbl Nat :=
  pages.map (fun p => (p.1, ((tget p.1 map).getD none).getD 0))

/-- Do all data pages lie in one memory slice of package HBM (R244)? -/
def oneSlice (m : Tbl Nat) : Bool :=
  m.all (fun p => decide (placeOf p.2 = .hbm)) &&
  (match m with | [] => true | (_, a) :: t => t.all (fun p => decide (p.2 / 2 ^ 33 = a / 2 ^ 33)))

/-- Device physical address of a byte of the request's data. -/
def SiftReq.pa (q : SiftReq) (va : Nat) : Nat := ((tget (va / 2 ^ 25) q.map).getD 0) + va % 2 ^ 25

/-- SIFT_ACCEPT (R259): a request enters its unit's queue of 16; it waits while a spine lane on its way re-initialises (R282). -/
def execSiftAccept (sift : Nat) (s : State) : Host.Outcome State Fault Refusal :=
  match tget sift s.sifts with
  | none => stay s
  | some q =>
    if q.accepted ∨ 16 ≤ (s.unit q.unit).queue.length ∨ ¬ s.wayOpen (s.coreNode q.core) (homeEdge q.unit) then stay s
    else
      .next (({ s with sifts := tput sift { q with accepted := true, born := s.hubCount } s.sifts }).setUnit q.unit
        { s.unit q.unit with queue := (s.unit q.unit).queue ++ [sift] })

/-- The request a unit serves next: highest class, then arrival order (R259). -/
def State.siftNext (s : State) (l : List Nat) : Option Nat :=
  let cls := fun i => match tget i s.sifts with | some q => q.qos | none => 0
  l.find? (fun i => l.all (fun j => decide (cls j ≤ cls i)))

/-- SIFT_START (R259). Its latency ends when the unit reads its first row line (R294), which the home's checks must admit (R295). -/
def execSiftStart (unit : Nat) (s : State) : Host.Outcome State Fault Refusal :=
  let u := s.unit unit
  match u.running, s.siftNext u.queue with
  | none, some i =>
    let s1 := s.setUnit unit { queue := sdel i u.queue, running := some i }
    .next (match tget i s.sifts with
      | some q => if s1.admits q.ctx q.folio q.epoch (q.pa (siftOf q.desc).rows) false then s1.measure unit q.qos q.folio (2 * (s.hubCount - q.born)) else s1
      | none => s1)
  | _, _ => stay s

/-! ## Operations (R246-R249) -/

/-- The decoded values of one row (R246, R68), from its element and side bytes. -/
def siftRow (t : SiftD) (el side : Bytes) : List Val :=
  (List.range t.d).map (fun i => scaled (rowElem t.fmt el i) (rowScale t.fmt side i) (rowMicro t.fmt side i))

/-- The FP32 result of a block of 64 products (R246, R112). -/
def siftBlock (x q : List Val) : Nat :=
  match specialBlock x q with
  | some r => r
  | none => toF32 ((List.zipWith (fun a b => a.mul b) x q).foldl Val.add (.fin false 0 0))

/-- A row's score (R246). -/
def siftScore (d : Nat) (x q : List Val) : Nat :=
  (List.range (d / 64)).foldl (fun acc b => fadd acc (siftBlock ((x.drop (64 * b)).take 64) ((q.drop (64 * b)).take 64))) 0

/-- Value `i` of a vector of FP32 or BF16 values, as an FP32 code (exact). -/
def vecF32 (out : Nat) (b : Bytes) (i : Nat) : Nat :=
  if out = 0 then fieldLe b (4 * i) 4 else fieldLe b (2 * i) 2 * 2 ^ 16

/-- One row's contribution to AXPY (R247). -/
def axpyRow (o : List Nat) (score : Nat) (x : List Val) : List Nat :=
  List.zipWith (fun a v => fadd a (toF32 ((f32 score).mul v))) o x

/-- The order of MAXK candidates (score code, index): descending score, ascending index, -0 below +0 (R248). -/
def candBefore (a b : Nat × Nat) : Bool := decide (keyOf b.1 < keyOf a.1) || (keyOf a.1 == keyOf b.1 && decide (a.2 ≤ b.2))

/-- Inserts a candidate in order. -/
def candInsert (a : Nat × Nat) : List (Nat × Nat) → List (Nat × Nat)
  | [] => [a]
  | b :: t => if candBefore a b then a :: b :: t else b :: candInsert a t

/-- The result list of MAXK and the count of NaN scores (R248). -/
def maxkList (k : Nat) (cands : List (Nat × Nat)) : Bytes × Nat :=
  let live := cands.filter (fun c => !isNan c.1)
  let best := (live.foldl (fun l c => candInsert c l) []).take k
  ((best ++ List.replicate (k - best.length) ((0xFF800000, 0xFFFFFFFF) : Nat × Nat)).flatMap (fun c => le 4 c.1 ++ le 4 c.2),
   cands.length - live.length)

/-- The candidates that an ACC list holds: its non-empty entries (R248). -/
def listCands (b : Bytes) : List (Nat × Nat) :=
  ((List.range (b.length / 8)).map (fun i => (fieldLe b (8 * i) 4, fieldLe b (8 * i + 4) 4))).filter (fun c => c.2 != 0xFFFFFFFF)

/-- FP32 results in the output format, with their events (R249). -/
def siftOut (t : SiftD) (l : List Nat) : Bytes × Events :=
  if t.out = 0 then (l.flatMap (le 4), noEvents)
  else
    let es := l.map (fun c => fpBF16.encode t.sat none (f32 c))
    (es.flatMap (fun e => le 2 e.1), evOf es)

/-- What a request computes from its rows (elements, side): result, events, NaN blocks, NaN scores. -/
def siftResult (t : SiftD) (q : SiftReq) (rows : List (Bytes × Bytes)) : Bytes × Events × Nat × Nat :=
  let xs := rows.map (fun r => siftRow t r.1 r.2)
  let qv := (List.range t.d).map (fun i => f32 (vecF32 1 q.qvec i))
  let nans := if t.fmt = 0xC then
      (rows.map (fun r => ((List.range (t.d / 64)).filter (fun b => fieldLe r.2 (2 * b) 1 == 0xFF)).length)).sum
    else 0
  if t.op = 0 then
    (let o := siftOut t (xs.map (fun x => siftScore t.d x qv)); (o.1, o.2, nans, 0))
  else if t.op = 1 then
    (let start := (List.range t.d).map (fun i => if t.acc then vecF32 t.out q.resIn i else 0)
     let o := siftOut t (xs.zipIdx.foldl (fun a p => axpyRow a (vecF32 t.out q.qvec p.2) p.1) start)
     (o.1, o.2, nans, 0))
  else
    (let m := maxkList t.k (listCands q.resIn ++ xs.zipIdx.map (fun p => (siftScore t.d p.1 qv, t.idx + p.2)))
     (m.1, noEvents, nans, m.2))

/-! ## Completion (R250-R256) -/

/-- Is a slice a lost member of a coded set, or the parity slice that serves such a member's position by reconstruction (R253)? -/
def State.rebuilding (s : State) (u : Nat) : Bool :=
  (s.rebuilds u).isSome || (match s.setOf u with | some p => p.members.length == 5 && p.lost == [u] | none => false)

/-- The status that one line gives (R252): the home's checks, then the line's state. -/
def State.siftLine (s : State) (q : SiftReq) (pa : Nat) : Nat :=
  if ¬ s.admits q.ctx q.folio q.epoch pa false then 0x10
  else if s.rebuilding q.unit then 0x14
  else if s.poisoned pa 64 then 0x13
  else if s.badTag pa 64 then 0x12
  else 0

/-- The lines that row `r` touches: element lines, then side lines. -/
def siftRowLines (t : SiftD) (q : SiftReq) (r : Nat) : List Nat :=
  ((List.range (cdiv t.rowBytes 64)).map (fun i => q.pa (t.rows + r * t.rstride + 64 * i))) ++
  ((List.range (cdiv t.sideRow 64)).map (fun i => q.pa (t.side + r * t.sstride + 64 * i)))

/-- The first row with a bad line, its status and that line; rows ascending, each line read once (R256). -/
def State.siftBad (s : State) (t : SiftD) (q : SiftReq) : Option (Nat × Nat × Nat) :=
  (List.range t.n).findSome? (fun r => (siftRowLines t q r).findSome? (fun pa =>
    let e := s.siftLine q pa
    if e = 0 then none else some (r, e, pa)))

/-- The bytes of a row as HBM has them (R254). -/
def State.siftRead (s : State) (q : SiftReq) (va n : Nat) : Bytes :=
  fit n ((List.range (cdiv n 64)).flatMap (fun i => s.readSlice q.unit (q.pa (va + 64 * i) % 2 ^ 33) 64))

/-- The bytes a request reads (R257, R263): element bytes, whole side lines, and tags in a confidential frame. -/
def State.siftBytes (s : State) (t : SiftD) (q : SiftReq) (rows : Nat) : Nat :=
  let b := rows * (t.rowBytes + 64 * cdiv t.sideRow 64)
  if s.confFrame (q.pa t.rows) then b + b / 32 else b

/-- The status block (R251). -/
def statusBlock (status unit rows : Nat) (ev : Events) (nans drops endCount : Nat) : Bytes :=
  le 1 status ++ le 1 unit ++ le 2 0 ++ le 4 rows ++ le 4 ((ev[kSat]?).getD 0) ++ le 4 ((ev[kFtz]?).getD 0) ++ le 4 nans ++ le 4 drops ++
  le 8 endCount

/-- Cause of the context fault of a status (R252). -/
def siftCause (status : Nat) : Nat := if status = 0x10 then 0x08 else if status = 0x11 then 0x09 else 0x0E

/-- A request leaves its unit and its slot. -/
def State.siftLeave (s : State) (id : Nat) (q : SiftReq) : State :=
  let u := s.unit q.unit
  let s1 := { s with sifts := tdel id s.sifts }
  let s2 := s1.setUnit q.unit { queue := sdel id u.queue, running := if u.running = some id then none else u.running }
  s2.modSlot q.core q.slot (fun y => if y.ctx = q.ctx then { y with sifts := y.sifts - 1 } else y)

/-- The end of a request with a status: result, status block, registers, the fence's offer, and the fault of a nonzero status
(R250, R252). -/
def State.siftEnd (s : State) (id : Nat) (q : SiftReq) (status rows : Nat) (res : Bytes) (ev : Events) (nans drops pa : Nat) : State :=
  let t := siftOf q.desc
  let s1 := s.siftLeave id q
  let s2 := (s1.deliver q.ctx q.core q.slot t.res res).deliver q.ctx q.core q.slot t.stat
    (statusBlock status q.unit rows ev nans drops (s.count (16 + q.unit / 32)))
  let s3 := s2.setReg (rSftBytes q.unit) ((s2.reg (rSftBytes q.unit) + s.siftBytes t q rows) % 2 ^ 64)
  let s4 := s3.postOffer { va := t.fence, pa := q.fencePa, value := BitVec.ofNat 32 t.fval, scope := t.scope, ctx := q.ctx, folio := q.folio,
                           epoch := q.epoch, issuer := .fwait q.core q.slot, pc := q.pc, unit := some q.unit, qos := q.qos }
  if status = 0 then s4
  else
    let s5 := (s4.setFld (rSftStat q.unit) 8 8 status).bumpFld (rSftStat q.unit) 16 16 1
    if (match s5.slot? q.core q.slot with | some x => x.ctx == q.ctx | none => false) then
      s5.faultSlot q.core q.slot
        { cause := siftCause status, status, pc := q.pc, addr := t.rows, info := q.unit, frame := if status = 0x10 then frameOf pa else 0xFFFF }
    else s5

/-- The first `n` rows of a request as HBM has them: element bytes and side bytes. -/
def State.siftRows (s : State) (t : SiftD) (q : SiftReq) (n : Nat) : List (Bytes × Bytes) :=
  (List.range n).map (fun r => (s.siftRead q (t.rows + r * t.rstride) t.rowBytes, s.siftRead q (t.side + r * t.sstride) t.sideRow))

/-- A request ends with an error before its work is whole: RES is free bytes (R252). What its completed rows gave is counted: NaN blocks and
NaN scores (R251), and for DOT the conversions of their scores; AXPY converts only at its end (R249). -/
def State.siftFail (s : State) (id : Nat) (q : SiftReq) (status rows pa : Nat) : State :=
  let t := siftOf q.desc
  let o := siftResult { t with n := rows } q (s.siftRows t q rows)
  (s.siftEnd id q status rows (s.freeBytes t.resBytes) (if t.op = 0 then o.2.1 else noEvents) o.2.2.1 o.2.2.2 pa).useFree

/-- SIFT (R234, R235, R244, R245): checked, translated, its inputs read, and sent. A format code outside R242 is a field that breaks R242,
so it faults with 0x0E (R244), where R56 would have 0x02 (DESIGN CHOICE, log 112). Rows in a position that no slice serves are refused
(R416); UNIT of that answer is the position's number (log 113). -/
def execSift (core : Nat) (w : Word) (s : State) : Host.Outcome State Fault Refusal :=
  s.issue core w 0x38 none (fun s1 k x =>
    let a := ((x.sr (fd w 53 5)).toNat + fd w 34 19) % 2 ^ 19
    if a % 64 ≠ 0 then s1.faultAt core k x 0x0B a
    else if ¬ x.spIn a 64 then s1.faultAt core k x 0x03 a
    else if 8 ≤ x.sifts ∨ ¬ (s1.core core).spFree k x a 64 false then s1.stall core k x
    else
      let b := (s1.core core).spRead x a 64
      let t := siftOf b
      if ¬ t.ok b x then s1.faultAt core k x 0x0E t.rows
      else if ¬ (s1.core core).spFree k x t.qaddr t.qBytes false ∨ ¬ (s1.core core).spFree k x t.res t.resBytes false then
        s1.stall core k x
      else
        let pages := pagesOf t.ranges
        match s1.xlateTile core x.ctx (fun va => if va = t.fence then 3 else 0) false [] (withFence t.fence pages) [] 0 0 with
        | (.miss va, s2) => s2.waitWalk core k x va (if va = t.fence then 3 else 0) 4
        | (.fault va sub lvl, s2) => s2.xltFault core x.ctx va x.pc.toNat sub (if va = t.fence then 3 else 0) 4 lvl 0
        | (.span, s2) => s2.faultAt core k x 0x06 t.rows
        | (.hole va, s2) => s2.faultAt core k x 0x08 va
        | (.ok map, s2) =>
          let m := baseMap pages map
          let first := ((tget (t.rows / 2 ^ 25) m).getD 0) + t.rows % 2 ^ 25
          if ¬ oneSlice m then s2.faultAt core k x 0x0E t.rows
          else
            let f := s2.ctxFolio x.ctx
            let q : SiftReq :=
              { core, slot := k, ctx := x.ctx, folio := f, epoch := (s2.folio f).epoch, qos := x.qos, desc := b, map := m,
                unit := (s2.server (first / 2 ^ 33)).getD (first / 2 ^ 33), issued := s2.hubCount, qvec := (s2.core core).spRead x t.qaddr t.qBytes,
                resIn := if t.acc then (s2.core core).spRead x t.res t.resBytes else [],
                fencePa := ((tget (t.fence / 2 ^ 25) map).getD none).getD 0 + t.fence % 2 ^ 25, pc := x.pc }
            let s3 := ({ s2 with sifts := tput s2.nextId q s2.sifts, nextId := s2.nextId + 1 }).retire core k { x.advance with sifts := x.sifts + 1 }
            if (s2.server (first / 2 ^ 33)).isNone then s3.siftFail s2.nextId q 0x10 0 (lineOf first) else s3)

/-- SIFT_COMPLETE (R246-R252). -/
def execSiftComplete (unit : Nat) (s : State) : Host.Outcome State Fault Refusal :=
  match (s.unit unit).running with
  | none => stay s
  | some id =>
    match tget id s.sifts with
    | none => stay s
    | some q =>
      let t := siftOf q.desc
      if q.lost then .next (s.siftFail id q 0x11 0 0)
      else
        match s.siftBad t q with
        | some (r, e, pa) =>
          let s1 := if e = 0x12 then s.integFail pa 3 else s
          .next (s1.siftFail id q e r pa)
        | none =>
          let o := siftResult t q (s.siftRows t q t.n)
          .next (s.siftEnd id q 0 t.n o.1 o.2.1 o.2.2.1 o.2.2.2 0)

end Sys2Proof.Machine
end

