-- ==== Sys2Proof/Machine/Copy.lean ====
section
/-! DEFINITION. Sys2Proof/Machine/Copy.lean: the copy engines (12 R381-R405). -/

namespace Sys2Proof.Machine

/-! ## Descriptors (R385, R386) -/

/-- A copy descriptor's fields. -/
structure CopyD where
  op : Nat
  flags : Nat
  qos : Nat
  xlen : Nat
  src : Nat
  dst : Nat
  ny : Nat
  nz : Nat
  sy : Int
  dy : Int
  sz : Int
  dz : Int
  waitVa : Nat
  waitTgt : Nat
  sigVal : Nat
  sigVa : Nat
  deriving DecidableEq, Repr

/-- The fields of the 128 bytes. -/
def copyOf (b : Bytes) : CopyD :=
  { op := fieldLe b 0 1, flags := fieldLe b 1 1, qos := fieldLe b 2 1, xlen := fieldLe b 4 4, src := fieldLe b 8 8, dst := fieldLe b 16 8,
    ny := fieldLe b 24 2 + 1, nz := fieldLe b 26 2 + 1, sy := sext (fieldLe b 32 8) 64, dy := sext (fieldLe b 40 8) 64,
    sz := sext (fieldLe b 48 8) 64, dz := sext (fieldLe b 56 8) 64, waitVa := fieldLe b 64 8, waitTgt := fieldLe b 72 4,
    sigVal := fieldLe b 76 4, sigVa := fieldLe b 80 8 }

/-- Bytes of the whole traversal. -/
def CopyD.total (d : CopyD) : Nat := d.xlen * d.ny * d.nz

/-- Source and destination addresses of a traversal offset (R386). -/
def CopyD.srcAt (d : CopyD) (o : Nat) : Nat :=
  (((d.src : Int) + (o / d.xlen / d.ny : Nat) * d.sz + (o / d.xlen % d.ny : Nat) * d.sy + (o % d.xlen : Nat)) % (2 ^ 64 : Int)).toNat
def CopyD.dstAt (d : CopyD) (o : Nat) : Nat :=
  (((d.dst : Int) + (o / d.xlen / d.ny : Nat) * d.dz + (o / d.xlen % d.ny : Nat) * d.dy + (o % d.xlen : Nat)) % (2 ^ 64 : Int)).toNat

/-- The checks of R398 with the STATUS and DETAIL of R401: alignment, the reserved OP, RSVD bits, and XLEN. -/
def CopyD.bad (d : CopyD) (b : Bytes) : Option (Nat × Nat) :=
  let flat := decide (d.ny = 1 ∧ d.nz = 1)
  if d.op ≠ 1 ∧ d.src % 64 ≠ 0 then some (1, 1)
  else if d.dst % 64 ≠ 0 then some (1, 2)
  else if ¬ flat ∧ (d.dy % 64 ≠ 0 ∨ d.dz % 64 ≠ 0 ∨ (d.op ≠ 1 ∧ (d.sy % 64 ≠ 0 ∨ d.sz % 64 ≠ 0))) then some (1, 4)
  else if (bit d.flags 2 ∧ d.waitVa % 8 ≠ 0) ∨ (bit d.flags 3 ∧ d.sigVa % 8 ≠ 0) then some (1, 5)
  else if 3 ≤ d.op then some (2, 1)
  else if 32 ≤ d.flags ∨ 8 ≤ d.qos ∨ fieldLe b 3 1 ≠ 0 ∨ fieldLe b 28 4 ≠ 0 ∨ fieldLe b 88 8 ≠ 0 then some (2, 2)
  else if d.xlen = 0 ∨ d.xlen % 64 ≠ 0 then some (1, 3)
  else none

/-! ## The channel -/

/-- DETAIL of a BUSERR (R401). -/
def busDetail : Cpl → Nat
  | .ok => 0 | .refused => 1 | .lost => 2 | .hbmErr => 3 | .integrity => 4 | .noPeer => 5 | .hostErr => 6

/-- The context to which a channel is bound, through its queue. -/
def State.chanCtx (s : State) (ch : Nat) : Nat :=
  match (s.chan ch).queue with
  | some q => (match s.queue? q with | some x => x.ctx | none => 0)
  | none => 0

/-- A channel's translation: the engine's 128-entry TLB, then the die's walker (R359, R384). -/
def State.cpyXlate (s : State) (ch va acc : Nat) : XOut × State :=
  let e := ch / 16
  let ctx := s.chanCtx ch
  if ctx = 0 then (if va < 2 ^ 46 ∧ placeOf va ≠ .hole then (.pa va false, s) else (.hole, s))
  else if 2 ^ 52 ≤ va then (.fault 4 0, s)
  else
    let tlb := tgetD [] e s.cpyTlb
    match tlb.find? (fun t => t.hits ctx va) with
    | some t =>
      if permits t.perm acc then (.pa (t.pa va) t.perm.nc, { s with cpyTlb := tput e (tlbEnter 128 tlb t) s.cpyTlb }) else (.fault 2 0, s)
    | none =>
      let d := e / 4
      let s0 := s.noteWalk d ctx va
      match s0.walkAt d ctx va with
      | .fault sub lvl => (.fault sub lvl, s0.bumpFld (rXltWalk d) 24 8 1)
      | .leaf t ups =>
        let s1 := s0.fillWalker d t ups
        if permits t.perm acc then (.pa (t.pa va) t.perm.nc, { s1 with cpyTlb := tput e (tlbEnter 128 tlb t) s1.cpyTlb })
        else (.fault 2 (if t.big then 2 else 3), s1.bumpFld (rXltWalk d) 24 8 1)

/-- Can a channel's translation of an address be made now: no MIGRATE holds it back (R374), and a miss finds room at the walker (R361)? -/
def State.cpyReady (s : State) (ch va : Nat) : Bool :=
  let ctx := s.chanCtx ch
  ctx == 0 || (!s.migHolds (s.chan ch).useNo ctx va &&
    ((tgetD [] (ch / 16) s.cpyTlb).any (fun t => t.hits ctx va) || s.walkRoom (ch / 64) ctx va))

/-- INDEX of an XLT_FAULT and INFO of a CTX_FAULT for a channel: [15:8] engine, [7:0] channel (R371, R592). -/
def chanIndex (ch : Nat) : Nat := ch / 16 * 256 + ch % 16

/-- Island of a channel's engine. -/
def chanIsland (ch : Nat) : Nat := 16 + ch / 64

/-- XLT_FAULT of a channel, SOURCE 5 (R399); the context keeps running. -/
def State.cpyFault (s : State) (ch va acc sub lvl : Nat) : State :=
  s.xltRecord (chanIsland ch) (s.chanCtx ch) va 0 sub acc 5 lvl (chanIndex ch) (zeros 4)

/-- Virtual address of a channel's current descriptor. -/
def Chan.descVa (c : Chan) : Nat := c.list + 128 * c.index

/-- The record of a channel's failed access: CTX_FAULT where R378 and R350 require a context fault (R402). -/
def State.cpyLost (s : State) (ch va pa : Nat) (e : Cpl) : State :=
  if e = .refused ∨ e = .lost ∨ e = .noPeer ∨ e = .hostErr then
    s.ctxFaultRecord (s.chanCtx ch) (chanIsland ch) none
      { cause := causeOf e, status := 4, info := chanIndex ch, addr := va, frame := if e = .refused then frameOf pa else 0xFFFF }
  else s

/-- Writes bytes within one line at a virtual address of the channel's context; failures leave the bytes unwritten. -/
def State.cpyWrite (s : State) (ch va : Nat) (d : Bytes) : State :=
  match s.cpyXlate ch va 1 with
  | (.pa a _, s1) => (match s1.writeLine (s1.chanCtx ch) (s1.ctxFolio (s1.chanCtx ch)) a d with | (e, s2) => s2.cpyLost ch va a e)
  | (.fault sub lvl, s1) => s1.cpyFault ch va 1 sub lvl
  | (.hole, s1) => s1

/-- STATUS, DETAIL, DONE, FIRST and COUNT of the current descriptor (R385, R391). -/
def State.writeStatus (s : State) (ch status detail done : Nat) : State :=
  let c := s.chan ch
  let cmp := decide (fieldLe c.desc 0 1 = 2)
  let first := if cmp then c.first.getD (2 ^ 64 - 1) else 0
  s.cpyWrite ch (c.descVa + 0x60) (le 1 status ++ le 1 detail ++ zeros 6 ++ le 8 done ++ le 8 first ++ le 8 (if cmp then c.mismatches else 0))

/-- A command of a queue is at its completion point (R480). -/
def State.cmdDone (s : State) (q status detail : Nat) : State := s.modQueue q (fun x => { x with phase := .done status detail })

/-- LAST_STATUS of a channel (R404). -/
def State.lastStatus (s : State) (ch status : Nat) : State := if status = 0 then s else s.setFld (rChStat ch) 8 8 status

/-- COPY_DONE (R591). -/
def State.copyRecord (s : State) (ch status detail done : Nat) : State :=
  let c := s.chan ch
  match c.queue with
  | none => s
  | some q =>
    match s.queue? q with
    | none => s
    | some x =>
      let cmp := decide (fieldLe c.desc 0 1 = 2)
      s.ringPut x.evring (s.record tyCopyDone (s.ctxFolio x.ctx) 0 x.ctx (chanIsland ch)
        (le 8 c.descVa ++ le 1 status ++ le 1 detail ++ le 1 (ch / 16) ++ le 1 (ch % 16) ++ le 2 q ++ le 2 0 ++ le 8 done ++
         le 8 (if cmp then c.first.getD (2 ^ 64 - 1) else 0) ++ le 8 (if cmp then c.mismatches else 0)))

/-- Does every destination byte lie in local HBM (R391)? Destinations are laid in lines (R385); a compare has none. -/
def State.cpyLocal (s : State) (ch : Nat) (d : CopyD) : Bool :=
  d.op == 2 || (List.range (d.total / 64)).all (fun i =>
    match (s.cpyXlate ch (d.dstAt (64 * i)) 1).1 with | .pa a _ => decide (placeOf a = .hbm) | _ => false)

/-- The fence of a descriptor that has ended (R391). -/
def State.cpySignal (s : State) (ch : Nat) : State :=
  let c := s.chan ch
  let d := copyOf c.desc
  if ¬ bit d.flags 3 then s
  else
    match s.cpyXlate ch d.sigVa 3 with
    | (.pa a _, s1) =>
      let ctx := s1.chanCtx ch
      s1.postOffer { va := d.sigVa, pa := a, value := BitVec.ofNat 32 d.sigVal, scope := if s.cpyLocal ch d then 1 else 2, ctx,
                     folio := s1.ctxFolio ctx, epoch := c.epoch, issuer := .copy ch, qos := d.qos }
    | (.fault sub lvl, s1) => s1.cpyFault ch d.sigVa 3 sub lvl
    | (.hole, s1) => s1

/-- The channel goes on behind an ended descriptor: the next one, or IDLE with its command complete (R383, R397). -/
def State.cpyNext (s : State) (ch : Nat) : State :=
  let c := s.chan ch
  if c.index + 1 < c.count then
    s.setChan ch { c with st := .run, desc := [], index := c.index + 1, status := 0, detail := 0, failOff := none, ending := false }
  else
    let s1 := s.setChan ch { c with st := .idle, desc := [], index := c.index + 1, status := 0, detail := 0, failOff := none, ending := false }
    match c.queue with | some q => s1.cmdDone q 0 0 | none => s1

/-- A descriptor ends with a status: status written, record, fence, counters (R391, R401). -/
def State.cpyEnd (s : State) (ch status detail done : Nat) : State :=
  let d := copyOf (s.chan ch).desc
  let s1 := ((s.writeStatus ch status detail done).lastStatus ch status)
  let s2 := if bit d.flags 4 then s1.copyRecord ch status detail done else s1
  let s3 := if status = 4 then s2.bumpFld (rEngStat (ch / 16)) 16 16 1 else s2
  if status = 5 then s3 else s3.cpySignal ch

/-- A descriptor stops without ending (R391, R398, R399). -/
def State.cpyStop (s : State) (ch : Nat) (st : ChSt) (status detail done : Nat) : State :=
  let s1 := (s.writeStatus ch status detail done).lastStatus ch status
  s1.setChan ch { s1.chan ch with st, status, detail, done }

/-! ## Starting a descriptor -/

/-- Reads the 128 bytes of a descriptor; a read that fails names its record (R402). -/
def State.cpyRead (s : State) (ch va : Nat) : Except (Option Cpl × Nat × State) (Bytes × State) :=
  match s.cpyXlate ch va 0 with
  | (.pa a _, s1) =>
    let ctx := s1.chanCtx ch
    let f := s1.ctxFolio ctx
    (match s1.readLine ctx f a 64 with
     | (.ok, b0, s2) => (match s2.readLine ctx f (a + 64) 64 with
       | (.ok, b1, s3) => .ok (b0 ++ b1, s3)
       | (e, _, s3) => .error (some e, 0, s3.cpyLost ch (va + 64) (a + 64) e))
     | (e, _, s2) => .error (some e, 0, s2.cpyLost ch va a e))
  | (.fault sub lvl, s1) => .error (none, sub, s1.cpyFault ch va 0 sub lvl)
  | (.hole, s1) => .error (some .refused, 0, s1)

/-- The descriptor starts: it waits on its word, or its bursts may issue; all carry one epoch (R414). -/
def State.cpyBegin (s : State) (ch : Nat) (b : Bytes) : State :=
  let ctx := s.chanCtx ch
  let f := s.ctxFolio ctx
  let d := copyOf b
  let c := { s.chan ch with desc := b, epoch := (s.folio f).epoch, issued := 0, done := 0, first := none, mismatches := 0, status := 0,
                            detail := 0, failOff := none, ending := false, nextBurst := 0, useNo := s.nextId }
  let s1 := (s.setChan ch c).bumpId
  if ¬ bit d.flags 2 then s1
  else
    match s1.cpyXlate ch d.waitVa 0 with
    | (.pa a _, s2) =>
      (s2.takeWatch { pa := a, target := BitVec.ofNat 32 d.waitTgt, who := .copy ch, folio := f }).2.setChan ch { c with st := .wait }
    | (.fault sub lvl, s2) =>
      (s2.cpyFault ch d.waitVa 0 sub lvl).cpyStop ch .stopFault 3 sub 0
    | (.hole, s2) => s2.setChan ch { c with ending := true, status := 4, detail := 1, failOff := some 0 }

/-- COPY_DESCRIPTOR_START (R383, R390, R398): the channel's next descriptor is read and checked. -/
def execCopyDescriptorStart (chan : Nat) (s : State) : Host.Outcome State Fault Refusal :=
  let c := s.chan chan
  if c.st ≠ .run ∨ c.desc ≠ [] ∨ c.count ≤ c.index ∨ ¬ s.fabricUp (chan / 64) ∨ ¬ s.cpyReady chan c.descVa then stay s
  else
    match s.cpyRead chan c.descVa with
    | .ok (b, s1) =>
      (match (copyOf b).bad b with
       | some (st, dt) => .next ((s1.setChan chan { s1.chan chan with desc := b, first := none, mismatches := 0 }).cpyStop chan .stopBad st dt 0)
       | none => if bit (copyOf b).flags 2 ∧ ¬ s1.cpyReady chan (copyOf b).waitVa then stay s else .next (s1.cpyBegin chan b))
    | .error (none, sub, s1) => .next (s1.setChan chan { s1.chan chan with desc := zeros 128, st := .stopFault, status := 3, detail := sub, done := 0 })
    | .error (some e, _, s1) =>
      .next (s1.setChan chan { s1.chan chan with desc := zeros 128, issued := 0, status := 4, detail := busDetail e, failOff := some 0, ending := true })

/-- COPY_WAIT_SATISFIED (R390). -/
def execCopyWaitSatisfied (chan : Nat) (s : State) : Host.Outcome State Fault Refusal :=
  let c := s.chan chan
  let d := copyOf c.desc
  if c.st ≠ .wait ∨ ¬ s.cpyReady chan d.waitVa then stay s
  else
    match s.cpyXlate chan d.waitVa 0 with
    | (.pa a _, s1) =>
      (match s1.readLine (s1.chanCtx chan) (s1.ctxFolio (s1.chanCtx chan)) a 4 with
       | (.ok, b, s2) =>
         if satisfies (BitVec.ofNat 32 (unle b)) (BitVec.ofNat 32 d.waitTgt) then .next ((s2.dropWatch (.copy chan)).setChan chan { c with st := .run })
         else .next s2
       | (e, _, s2) =>
         .next (((s2.dropWatch (.copy chan)).cpyLost chan d.waitVa a e).setChan chan { c with st := .run, status := 4, detail := busDetail e, failOff := some 0, ending := true }))
    | (.fault sub lvl, s1) =>
      .next (((s1.dropWatch (.copy chan)).cpyFault chan d.waitVa 0 sub lvl).cpyStop chan .stopFault 3 sub 0)
    | (.hole, s1) => .next ((s1.dropWatch (.copy chan)).setChan chan { c with st := .run, status := 4, detail := 1, failOff := some 0, ending := true })

/-! ## Bursts (R388-R395) -/

/-- Buffers one burst of a channel takes. -/
def Chan.need (c : Chan) : Nat := if fieldLe c.desc 0 1 = 2 then 2 else 1

/-- Can the pages of a channel's next burst be translated now? -/
def State.burstReady (s : State) (ch : Nat) : Bool :=
  let c := s.chan ch
  let d := copyOf c.desc
  s.cpyReady ch (d.dstAt c.issued) &&
  (d.op == 1 || (s.cpyReady ch (d.srcAt c.issued) && s.cpyReady ch (d.srcAt c.issued + min (d.xlen - c.issued % d.xlen) (512 - d.dstAt c.issued % 512) - 1)))

/-- May a channel issue a burst: it takes each of its buffers only while it holds fewer than MAXBUF (R393, R394)? -/
def State.canBurst (s : State) (ch : Nat) : Bool :=
  let c := s.chan ch
  c.st == .run && c.desc != [] && !c.ending && decide (c.issued < (copyOf c.desc).total) && decide (s.held ch + c.need ≤ s.maxBuf ch) &&
  decide (c.need ≤ s.freeBufs (ch / 16)) && s.burstReady ch

/-- Weight of a channel: 0 acts as 1 (R404). -/
def State.weight (s : State) (ch : Nat) : Nat := max 1 (s.fld (rChCtl ch) 2 4)

/-- The channel that the engine serves next, and whether its round starts anew (R394). -/
def State.nextChan (s : State) (e : Nat) : Option (Nat × Bool) :=
  let cs := ((List.range 16).map (fun k => 16 * e + k)).filter s.canBurst
  let top := cs.foldl (fun m c => max m (s.fld (rChCtl c) 0 2)) 0
  let lv := cs.filter (fun c => s.fld (rChCtl c) 0 2 == top)
  match lv.find? (fun c => decide ((s.chan c).served < s.weight c)) with
  | some c => some (c, false)
  | none => lv.head?.map (fun c => (c, true))

/-- The length of the next burst: to the row's end or the destination's next 512-byte boundary (R392). -/
def CopyD.burstLen (d : CopyD) (o : Nat) : Nat := min (d.xlen - o % d.xlen) (512 - d.dstAt o % 512)

/-- A page of a burst that is not translated, or lacks a permission, stops the issue at its first byte (R399). -/
def State.cpyXlateFail (s : State) (ch va acc sub lvl : Nat) : State :=
  let s1 := s.cpyFault ch va acc sub lvl
  let c := s1.chan ch
  s1.setChan ch { c with ending := true, status := 3, detail := sub, failOff := some c.issued }

/-- The physical pieces (address, length) of a source range of at most 512 bytes: one, or two where it crosses a 32 MiB page.
A second page that fails cuts the range at the page. -/
def State.cpyPieces (s : State) (ch va n : Nat) : Except (Nat × Nat × State) (List (Nat × Nat) × State) :=
  match s.cpyXlate ch va 0 with
  | (.fault sub lvl, s1) => .error (sub, lvl, s1)
  | (.hole, s1) => .ok ([(2 ^ 46, n)], s1)
  | (.pa a _, s1) =>
    let k := min n (2 ^ 25 - va % 2 ^ 25)
    if k = n then .ok ([(a, n)], s1)
    else
      match s1.cpyXlate ch (va + k) 0 with
      | (.pa b _, s2) => .ok ([(a, k), (b, n - k)], s2)
      | (_, s2) => .ok ([(a, k)], s2)

/-- A request of a channel. -/
def State.cpyReq (s : State) (ch : Nat) (kind : ReqKind) (pa n va : Nat) (d : Bytes) : Req :=
  let c := s.chan ch
  let ctx := s.chanCtx ch
  { kind, issuer := .copy ch, ctx, folio := s.ctxFolio ctx, epoch := c.epoch, qos := bits (fieldLe c.desc 2 1) 0 3, pa, len := n, va, data := d }

/-- Issues requests and gives their ids. -/
def State.issueAll (s : State) : List Req → List Nat × State
  | [] => ([], s)
  | r :: t => match State.issueAll (s.issueReq r) t with | (l, s2) => (s.nextId :: l, s2)

/-- Cuts a piece list at `n` bytes. -/
def cutPieces (n : Nat) : List (Nat × Nat) → List (Nat × Nat)
  | [] => []
  | (a, k) :: t => if n = 0 then [] else (a, min k n) :: cutPieces (n - min k n) t

/-- The requests of pieces, with their virtual addresses. -/
def State.pieceReqs (s : State) (ch : Nat) (kind : ReqKind) (va : Nat) : List (Nat × Nat) → List Req
  | [] => []
  | (a, k) :: t => s.cpyReq ch kind a k va [] :: State.pieceReqs s ch kind (va + k) t

/-- The constant of a fill, laid from a destination address (R387). -/
def fillBytes (v va n : Nat) : Bytes := (List.range n).map (fun i => (le 8 v)[(va + i) % 8]?.getD 0)

/-- Is a place outside local HBM (R392)? -/
def away (pa : Nat) : Bool := match placeOf pa with | .hbm => false | _ => true

/-- Issues one burst at the channel's next offset, with translated pages (R384, R388, R389). -/
def State.cpyIssue (s : State) (ch : Nat) : State :=
  let c := s.chan ch
  let d := copyOf c.desc
  let n := d.burstLen c.issued
  let rk := if bit d.flags 0 then ReqKind.glance else .rawGet
  let put := fun (st : State) (b : CpBurst) (k : Nat) =>
    let c1 := st.chan ch
    st.setChan ch { c1 with bursts := tput c1.nextBurst b c1.bursts, nextBurst := c1.nextBurst + 1, issued := c.issued + k, served := c1.served + 1 }
  match s.cpyXlate ch (d.dstAt c.issued) (if d.op = 2 then 0 else 1) with
  | (.fault sub lvl, s1) => s1.cpyXlateFail ch (d.dstAt c.issued) (if d.op = 2 then 0 else 1) sub lvl
  | (.hole, s1) => s1.setChan ch { c with ending := true, status := 4, detail := 1, failOff := some c.issued }
  | (.pa dpa _, s1) =>
    if d.op = 1 then
      (let r := s1.issueAll [{ s1.cpyReq ch (if bit d.flags 1 then .putHome else .rawPut) dpa n (d.dstAt c.issued) (fillBytes d.src (d.dstAt c.issued) n) with qos := d.qos }]
       put r.2 { off := c.issued, len := n, writes := r.1, away := away dpa } n)
    else
      match s1.cpyPieces ch (d.srcAt c.issued) n with
      | .error (sub, lvl, s2) => s2.cpyXlateFail ch (d.srcAt c.issued) 0 sub lvl
      | .ok (ps, s2) =>
        let k := (ps.map Prod.snd).sum
        let rs := s2.pieceReqs ch rk (d.srcAt c.issued) ps ++
          (if d.op = 2 then s2.pieceReqs ch (if bit d.flags 1 then .glance else .rawGet) (d.dstAt c.issued) (cutPieces k [(dpa, n)]) else [])
        let r := s2.issueAll rs
        put r.2 { off := c.issued, len := k, reads := r.1, dpa } k

/-- COPY_BURST_ISSUE (R394, R395). -/
def execCopyBurstIssue (engine : Nat) (s : State) : Host.Outcome State Fault Refusal :=
  match s.nextChan engine with
  | none => stay s
  | some (ch, fresh) =>
    if ¬ s.fabricUp (engine / 4) then stay s
    else
    let top := s.fld (rChCtl ch) 0 2
    let s1 := if fresh then
        foldS ((List.range 16).map (fun k => 16 * engine + k)) s (fun st k =>
          if st.fld (rChCtl k) 0 2 = top then st.setChan k { st.chan k with served := 0 } else st)
      else s
    .next (s1.cpyIssue ch)

/-- The statuses of a list of requests; none while one is outstanding. -/
def State.allBack (s : State) (l : List Nat) : Option (List Req) := l.mapM (fun i => (s.req? i).bind (fun q => if q.status.isSome then some q else none))

/-- The first failed request. -/
def firstBad (l : List Req) : Option (Req × Cpl) :=
  l.findSome? (fun q => match q.status with | some .ok => none | some e => some (q, e) | none => none)

/-- A channel whose bursts are all back after its context's reset is idle (R397). -/
def State.cpyIdle (s : State) (ch : Nat) : State :=
  let c := s.chan ch
  if c.st = .drain ∧ c.bursts = [] then s.setChan ch { c with st := .idle, desc := [], count := 0, index := 0, ending := false } else s

/-- A failed burst (R402): no further burst of the descriptor; the lowest failing offset stands; the CTX_FAULT record of the
first. -/
def State.cpyBad (s : State) (ch : Nat) (b : CpBurst) (q : Req) (e : Cpl) : State :=
  let c := s.chan ch
  let first := c.status ≠ 4
  let s1 := s.setChan ch { c with ending := true, status := 4, detail := if first then busDetail e else c.detail,
                                  failOff := some (match c.failOff with | some o => min o b.off | none => b.off) }
  if first then s1.cpyLost ch q.va q.pa e else s1

/-- Mismatching offsets of a compare (R387). -/
def mismatchesOf (a b : Bytes) (off : Nat) : List Nat :=
  ((List.zip a b).zipIdx.filter (fun p => p.1.1 != p.1.2)).map (fun p => off + p.2)

/-- The burst gives its buffers back. -/
def State.cpyDrop (s : State) (ch burst : Nat) (b : CpBurst) : State :=
  let s1 := foldS (b.reads ++ b.writes) s State.dropReq
  (s1.setChan ch { s1.chan ch with bursts := tdel burst (s1.chan ch).bursts }).cpyIdle ch

/-- The write of a copy burst whose reads are in, at the address translated at its issue (R389, R365). -/
def State.cpyWriteBurst (s : State) (ch burst : Nat) (b : CpBurst) (data : Bytes) : State :=
  let d := copyOf (s.chan ch).desc
  let r := s.issueAll [s.cpyReq ch (if bit d.flags 1 then .putHome else .rawPut) b.dpa b.len (d.dstAt b.off) data]
  let s2 := foldS b.reads r.2 State.dropReq
  s2.setChan ch { s2.chan ch with bursts := tput burst { b with reads := [], writes := r.1, away := away b.dpa } (s2.chan ch).bursts }

/-- COPY_BURST_COMPLETE (R387, R392, R402): a burst's reads are back, so its write goes out or it is compared; or its write has
been performed. -/
def execCopyBurstComplete (chan burst : Nat) (s : State) : Host.Outcome State Fault Refusal :=
  match tget burst (s.chan chan).bursts with
  | none => stay s
  | some b =>
    match s.allBack (b.reads ++ b.writes) with
    | none => stay s
    | some qs =>
      match firstBad qs with
      | some (q, e) => .next ((s.cpyBad chan b q e).cpyDrop chan burst b)
      | none =>
        if b.writes ≠ [] then .next (s.cpyDrop chan burst b)
        else
          let d := copyOf (s.chan chan).desc
          let all := qs.flatMap (fun q => q.rdata.take q.len)
          if d.op = 2 then
            (let ms := mismatchesOf (all.take b.len) (all.drop b.len) b.off
             let c := s.chan chan
             let s1 := s.setChan chan { c with mismatches := c.mismatches + ms.length,
                                               first := match ms with
                                                 | [] => c.first
                                                 | m :: _ => some (match c.first with | some f => min f m | none => m) }
             .next (s1.cpyDrop chan burst b))
          else .next (s.cpyWriteBurst chan burst b all)

/-! ## The end of a descriptor (R391, R399-R402) -/

/-- COPY_DESCRIPTOR_END: no burst is outstanding and none is to come. -/
def execCopyDescriptorEnd (chan : Nat) (s : State) : Host.Outcome State Fault Refusal :=
  let c := s.chan chan
  if c.st ≠ .run ∨ c.desc = [] ∨ c.bursts ≠ [] then stay s
  else if c.ending then
    (if c.status = 3 then .next (s.cpyStop chan .stopFault 3 c.detail (c.failOff.getD c.issued))
     else .next ((s.cpyEnd chan 4 c.detail (c.failOff.getD 0)).cpyNext chan))
  else if (copyOf c.desc).total ≤ c.issued then .next ((s.cpyEnd chan 0 0 (copyOf c.desc).total).cpyNext chan)
  else stay s

/-- A stopped descriptor is skipped (R400). -/
def State.cpySkip (s : State) (ch : Nat) : State := (s.cpyEnd ch 6 (s.chan ch).status (s.chan ch).done).cpyNext ch

/-- CPY_RESTART (R400): with RESUME after a translation fault the descriptor goes on at DONE; else it is skipped. -/
def execCpyRestart (chan : Nat) (resume : Bool) (s : State) : Host.Outcome State Fault Refusal :=
  let c := s.chan chan
  if c.st ≠ .stopBad ∧ c.st ≠ .stopFault then stay s
  else if resume ∧ c.st = .stopFault then
    .next (s.setChan chan { c with st := .run, desc := if c.desc = zeros 128 then [] else c.desc, issued := c.done, status := 0, detail := 0,
                                   failOff := none, ending := false })
  else .next (s.cpySkip chan)

/-- DONE of an aborted descriptor: bytes completed in traversal order. -/
def Chan.doneSoFar (c : Chan) : Nat := c.bursts.foldl (fun m b => min m b.2.off) c.issued

/-- The stop of a channel by a reset (R403, R601): its descriptor ends ABORTED without a fence; issued bursts complete. -/
def State.chanStop (s : State) (ch : Nat) : State :=
  let c := s.chan ch
  let s0 := s.dropWatch (.copy ch)
  if c.st = .idle ∨ c.st = .drain then s0
  else
    let s1 := if c.desc = [] then s0 else s0.cpyEnd ch 5 0 (match c.st with | .run => c.doneSoFar | .wait => 0 | _ => c.done)
    (s1.setChan ch { s1.chan ch with st := .drain, ending := true }).cpyIdle ch

/-! ## Stream channels (R396) -/

/-- Stream channels of a die. -/
def State.streams (s : State) (die : Nat) : List Nat :=
  (List.range 64).filterMap (fun k => (s.chan (64 * die + k)).stream)

/-- CPY_STREAM (R396): the channel takes the lowest free master id of its die, or is refused; clearing STREAM frees it. -/
def execCpyStream (chan : Nat) (v : Bool) (s : State) : Host.Outcome State Fault Refusal :=
  let c := s.chan chan
  if 127 < chan ∨ ¬ s.clasp.rails then stay s
  else if v then
    (if c.stream.isSome then stay s
     else
       let base := 14 + 8 * (chan / 64)
       match ((List.range 8).map (fun k => base + k)).find? (fun m => !(s.streams (chan / 64)).contains m) with
       | some m => .next ((s.setChan chan { c with stream := some m }).writeFld (rChCtl chan) 6 1 1)
       | none => .next ((s.writeFld (rChCtl chan) 6 1 0).setFld (rChStat chan) 3 1 1))
  else
    match c.stream with
    | some m =>
      .next (({ s with urgency := tdel m s.urgency, urgSince := tdel m s.urgSince, urgNoted := sdel m s.urgNoted }.setChan chan { c with stream := none }).writeFld
        (rChCtl chan) 6 1 0)
    | none => .next (s.writeFld (rChCtl chan) 6 1 0)

/-- CPY_MAXBUF (R393, R404): a lower limit takes no buffer away. -/
def execCpyMaxbuf (chan v : Nat) (s : State) : Host.Outcome State Fault Refusal :=
  if 127 < chan ∨ ¬ s.clasp.rails then stay s else .next (s.writeFld (rChCtl chan) 8 9 v)

end Sys2Proof.Machine
end

