-- ==== Sys2Proof/Machine/Sys.lean ====
section
/-! DEFINITION. Sys2Proof/Machine/Sys.lean: the system class and posted-store completion (06 R202, R214, R236-R237), and which slot a core would run (16 R511). -/

namespace Sys2Proof.Machine

/-! ## Readiness and choice (R511) -/

/-- Has everything that a HALT waits for completed (R236): groups, posted stores, sift requests, queued matrix work? -/
def State.haltDone (s : State) (c k : Nat) (x : Slot) : Bool :=
  !s.groupBusy c k 0xFF && (s.storesOf c k).isEmpty && x.sifts == 0 && (s.core c).queued k == 0

/-- Is a slot ready to run? Matrix work of its own that was set aside makes it ready, and so does a wait that its check on resuming would
end (R240). -/
def State.ready (s : State) (c k : Nat) (x : Slot) : Bool :=
  !x.halted && x.fault.isNone && !s.ctxStopped x.ctx &&
  (match x.wait with
   | .none => true
   | .resource => true
   | .mem r => (match s.req? r with | some q => q.status.isSome | none => true)
   | .walk i => (tget i s.walks).isNone
   | .groups m => !s.groupBusy c k m
   | .halting => s.haltDone c k x || decide (0 < (s.core c).queued k)
   | .rq => true
   | .fence f => s.fenceMet f || s.fenceOver f
   | .bar id p _ => x.allArrived id p)

/-- The deadline by which rule 1 ranks a real-time context whose activation has not missed it (R511, R523); without an admission there is
none, and it comes last (log 47). -/
def State.deadlineOf (s : State) (ctx : Nat) : Option Nat :=
  match s.ctx? ctx with
  | some x => if x.rt then (match x.act with | some a => if a.missed then none else some (a.deadline.getD (2 ^ 64)) | none => none) else none
  | none => none

/-- The least element of a list under a measure; the first of equals. -/
def leastBy {β : Type} (f : β → Nat × Nat) : List β → Option β
  | [] => none
  | a :: t => match leastBy f t with
    | none => some a
    | some b => if (f b).1 < (f a).1 ∨ ((f b).1 = (f a).1 ∧ (f b).2 < (f a).2) then some b else some a

/-- The slot that rules 1 and 2 choose among the ready ones other than `skip`. -/
def State.pick (s : State) (c : Nat) (skip : Option Nat) : Option Nat :=
  let l := (s.core c).slots.filter (fun x => s.ready c x.1 x.2 && some x.1 != skip)
  match leastBy (fun x => ((s.deadlineOf x.2.ctx).getD 0, x.2.ctx)) (l.filter (fun x => (s.deadlineOf x.2.ctx).isSome)) with
  | some x => some x.1
  | none => (leastBy (fun x => (x.2.vt, x.1)) l).map Prod.fst

/-- The core will switch to the chosen slot, if there is one. -/
def State.choose (s : State) (c : Nat) (skip : Option Nat) : State :=
  match s.pick c skip with
  | some k => s.setCore c { s.core c with choice := some k }
  | none => s

/-! ## The SYS functions -/

/-- HALT (R236, R511): ends the rank once its work has completed; its script lanes stop. -/
def execHalt (core : Nat) (w : Word) (s : State) : Host.Outcome State Fault Refusal :=
  s.issue core w 0x3C (some 0) (fun s1 k x =>
    if s1.haltDone core k x then
      ((s1.charge core).modSlot core k (fun y => { y with halted := true, wait := .none, lanes := [{}, {}] })).choose core (some k)
    else s1.setSlot core k { x with wait := .halting })

/-- YIELD (R236, R511). -/
def execYield (core : Nat) (w : Word) (s : State) : Host.Outcome State Fault Refusal :=
  s.issue core w 0x3C (some 1) (fun s1 k x => (s1.retire core k x.advance).choose core (some k))

/-- SEG (R236): the latest segment is what RT_MISS names (R523). -/
def execSeg (core : Nat) (w : Word) (s : State) : Host.Outcome State Fault Refusal :=
  s.issue core w 0x3C (some 2) (fun s1 k x => s1.retire core k { x.advance with seg := fd w 0 16 })

/-- The ASSAY_MISS record of a promotion that ends with an outcome (R142 step 7, R150). -/
def State.promotionEnd (s : State) (c ctx : Nat) (g : Guard) (outcome : Nat) : State :=
  let body := patch g.record 7 (le 1 outcome)
  let mk := fun b => s.record tyAssayMiss (s.ctxFolio ctx) 0 ctx (coreIsland c) b
  s.missPut ctx false (mk (patch body 24 (zeros 4))) (mk body)

/-- GRET (R142 step 7, R214): s28-s31 come back, the record is written, the slot goes on behind the original RQ. Outside a
guard handler it is illegal. -/
def execGret (core : Nat) (w : Word) (s : State) : Host.Outcome State Fault Refusal :=
  s.issue core w 0x3C (some 3) (fun s1 k x =>
    match x.guard with
    | none => s1.faultAt core k x 0x01 0
    | some g =>
      let back := (List.zip [28, 29, 30, 31] g.saved).foldl (fun (y : Slot) p => y.setSr p.1 p.2) x
      ((s1.promotionEnd core x.ctx g g.outcome).bumpSafe core k x 0x7C).retire core k
        { back with pc := g.origPc + 8, guard := none })

/-- TRAP (R236, R238). -/
def execTrap (core : Nat) (w : Word) (s : State) : Host.Outcome State Fault Refusal :=
  s.issue core w 0x3C (some 4) (fun s1 k x => s1.faultSlot core k { cause := 0x0C, pc := x.pc, info := fd w 0 32 })

/-- Does BKPT stop contexts of a folio on a core (R629, R585)? -/
def State.bkptStops (s : State) (c folio : Nat) : Bool := bit (s.reg (rRgnCtl (coreIsland c))) 2 && !s.isConf folio

/-- BKPT (R236, R629). -/
def execBkpt (core : Nat) (w : Word) (s : State) : Host.Outcome State Fault Refusal :=
  s.issue core w 0x3C (some 5) (fun s1 k x =>
    let s2 := s1.retire core k x.advance
    if s1.bkptStops core (s1.ctxFolio x.ctx) then s2.modCtx x.ctx (fun y => { y with bkpt := true }) else s2)

/-! ## CINV and CWB (R237) -/

/-- The physical address of a mapped page of a context, whatever its permissions; none: unmapped. -/
def State.mapping (s : State) (c ctx va : Nat) : Option Nat :=
  if ctx = 0 then (if va < 2 ^ 46 ∧ placeOf va ≠ .hole then some va else none)
  else
    match (s.core c).tlb.find? (fun e => e.hits ctx va) with
    | some e => some (e.pa va)
    | none => (match s.walkAt (coreDie c) ctx va with | .leaf e _ => some (e.pa va) | .fault _ _ => none)

/-- The physical ranges (first line, end) of a virtual range, rounded outward to lines, page by page; unmapped pages are
skipped. -/
def State.physRanges (s : State) (c ctx va n : Nat) : List (Nat × Nat) :=
  let lo := va / 64 * 64
  let hi := min (2 ^ 52) ((va + n + 63) / 64 * 64)
  if n = 0 ∨ hi ≤ lo then []
  else (List.range ((hi - 1) / 2 ^ 25 + 1 - lo / 2 ^ 25)).filterMap (fun i =>
    let a := max lo ((lo / 2 ^ 25 + i) * 2 ^ 25)
    let b := min hi ((lo / 2 ^ 25 + i + 1) * 2 ^ 25)
    (s.mapping c ctx a).map (fun p => (p, p + (b - a))))

/-- Does a line lie in one of the ranges? -/
def inRanges (l : List (Nat × Nat)) (line : Nat) : Bool := l.any (fun r => decide (r.1 ≤ line ∧ line < r.2))

/-- The cache writes a dirty line back; it is then at its home. `keep`: the line stays, clean; else it is gone. -/
def State.cleanLine (s : State) (n line : Nat) (keep : Bool) : State :=
  match s.line? n line with
  | none => s
  | some l =>
    let s1 := if isDirty l.st then s.takeBack line l.data else s
    match s1.homeOf line with
    | none => s1
    | some h =>
      if keep then
        (if l.st = .m then s1.putLineIn n line { l with st := .e }
         else if l.st = .o then
           (match tget line (s1.home h).dir with
            | some e => (s1.putLineIn n line { l with st := .s }).dirPut h line { e with st := .shared }
            | none => s1.putLineIn n line { l with st := .s })
         else s1)
      else (s1.setCache n { s1.cache n with lines := tdel line (s1.cache n).lines }).dirRemove h line n

/-- CINV or CWB on a translated range: it waits for earlier stores and writebacks of the range, then treats each cached line. -/
def State.cacheOp (s : State) (c k : Nat) (x : Slot) (va n : Nat) (keep : Bool) : State :=
  let rs := s.physRanges c x.ctx va n
  let sl := s.sliceOf c
  let ch := s.cache sl
  if (s.storesOf c k).any (fun r => inRanges rs (lineOf r.2.pa)) || ch.wb.any (fun w => w.2.dirty && !w.2.acked && inRanges rs w.1) then
    s.stall c k x
  else (foldS ((ch.lines.map Prod.fst).filter (inRanges rs)) s (fun st l => st.cleanLine sl l keep)).retire c k x.advance

/-- CINV (R236, R237): dirty lines go back, every line of the range leaves the cluster cache. -/
def execCinv (core : Nat) (w : Word) (s : State) : Host.Outcome State Fault Refusal :=
  s.issue core w 0x3C (some 6) (fun s1 k x => s1.cacheOp core k x (x.sr (fd w 47 5)).toNat (x.sr (fd w 42 5)).toNat false)

/-- CWB (R236, R237): dirty lines go back and stay, clean. -/
def execCwb (core : Nat) (w : Word) (s : State) : Host.Outcome State Fault Refusal :=
  s.issue core w 0x3C (some 7) (fun s1 k x => s1.cacheOp core k x (x.sr (fd w 47 5)).toNat (x.sr (fd w 42 5)).toNat true)

/-! ## Posted stores (R202) -/

/-- STORE_COMPLETION (R202): a failed store faults the context, and the posted offers behind it are discarded. -/
def execStoreCompletion (req : Nat) (s : State) : Host.Outcome State Fault Refusal :=
  match s.req? req with
  | none => stay s
  | some q =>
    match q.issuer, q.status with
    | .store c k, some e =>
      let s1 := s.dropReq req
      if e = .ok ∨ q.squashed then .next s1
      else .next ({ s1 with offers := tfilter (fun _ (o : Offer) => !(o.after.contains req && o.issuer == Waiter.fwait c k && o.unit.isNone)) s1.offers }.faultSlot c k (reqFault q e))
    | _, _ => stay s

end Sys2Proof.Machine
end

