-- ==== Sys2Proof/Machine/Cmdq.lean ====
section
/-! DEFINITION. Sys2Proof/Machine/Cmdq.lean: how queues run commands (15 R471-R483, R491-R497, R654): taking a command up, its checks, its wait, its start, its end. -/

namespace Sys2Proof.Machine

/-! ## The descriptor (R479) -/

def Cmd.op (c : Cmd) : Nat := fieldLe c.bytes 0 1
def Cmd.flags (c : Cmd) : Nat := fieldLe c.bytes 1 1
def Cmd.qos (c : Cmd) : Nat := bits (fieldLe c.bytes 2 1) 0 3
def Cmd.wantsWait (c : Cmd) : Bool := bit c.flags 0
def Cmd.wantsSignal (c : Cmd) : Bool := bit c.flags 1
def Cmd.wantsEvent (c : Cmd) : Bool := bit c.flags 2
def Cmd.hasRefs (c : Cmd) : Bool := bit c.flags 3
/-- The argument of `n` bytes at descriptor offset `o`. -/
def Cmd.arg (c : Cmd) (o n : Nat) : Nat := fieldLe c.bytes o n

/-- The argument fields (offset, size) of an opcode on a queue type (R484, R487, R504, R557, R570, R598, R654). -/
def argFields (t : QType) (op : Nat) : List (Nat × Nat) :=
  match op with
  | 0x02 => [(0x28, 2), (0x2A, 2), (0x30, 8)]
  | 0x03 => [(0x28, 8), (0x30, 4)]
  | 0x06 => [(0x28, 8)]
  | 0x07 => [(0x28, 2), (0x30, 8)]
  | 0x08 => [(0x28, 2)]
  | 0x10 => [(0x28, 8)]
  | 0x11 => [(0x28, 2)]
  | 0x12 => [(0x28, 2)]
  | 0x13 => [(0x28, 2)]
  | 0x18 => [(0x28, 8)]
  | 0x19 => [(0x28, 2)]
  | 0x1A => [(0x28, 8)]
  | 0x1B => [(0x28, 2)]
  | 0x20 => [(0x28, 8), (0x30, 4), (0x34, 1), (0x35, 1), (0x36, 2)]
  | 0x21 => [(0x28, 8)]
  | 0x22 => [(0x28, 8), (0x30, 4), (0x34, 1), (0x35, 1), (0x36, 2)]
  | 0x28 => [(0x28, 2), (0x2A, 1), (0x2B, 1)]
  | 0x29 => [(0x28, 1), (0x29, 1), (0x2A, 1)]
  | 0x30 => [(0x28, 8)]
  | 0x31 => [(0x28, 1)]
  | 0x32 => [(0x28, 1), (0x29, 1), (0x2A, 1), (0x2B, 1)]
  | 0x33 => [(0x28, 1), (0x29, 1), (0x2A, 1), (0x2B, 1)]
  | 0x34 => [(0x28, 1), (0x29, 1), (0x2A, 1), (0x2B, 1)]
  | 0x35 => [(0x28, 1), (0x29, 1)]
  | 0x36 => [(0x28, 8)]
  | 0x37 => [(0x28, 1), (0x30, 8)]
  | 0x38 => [(0x28, 1), (0x30, 8)]
  | 0x39 => [(0x28, 1), (0x30, 8)]
  | 0x3A => [(0x28, 1), (0x2A, 2)]
  | 0x50 => [(0x28, 2), (0x2C, 4)]
  | 0x51 => [(0x28, 2), (0x30, 8)]
  | 0x52 => [(0x28, 8)]
  | 0x53 => [(0x28, 2)]
  | 0x54 => [(0x28, 8), (0x30, 2)]
  | 0x58 => [(0x28, 2), (0x2A, 1), (0x2C, 2)]
  | 0x59 => if t = .mgmt then [(0x28, 8), (0x30, 1)] else [(0x28, 8)]
  | 0x60 => [(0x28, 1), (0x29, 1), (0x30, 8)]
  | 0x61 => [(0x28, 1)]
  | 0x62 => if t = .mgmt then [(0x28, 1), (0x30, 8), (0x38, 8)] else [(0x30, 8), (0x38, 8)]
  | 0x68 => [(0x28, 1), (0x2C, 4)]
  | 0x69 => [(0x28, 1)]
  | _ => []

/-- The commands for diagnostics and firmware recovery, which a part that is NOT_READY accepts (R54). The spec does not list them: NOP,
SIGNAL, FOLIO_QUERY, ACCT_READ, ATTEST, ENGINE_RESET and PKG_RESET (DESIGN CHOICE, log 114). -/
def diagOps : List Nat := [0x00, 0x01, 0x39, 0x51, 0x62, 0x68, 0x6A]

/-- Does the part accept an opcode from its queues now (R54)? -/
def State.serves (s : State) (op : Nat) : Bool := s.clasp.inReset || s.capState != 1 || diagOps.contains op

/-- Opcodes that a queue type accepts (R471, R484, R504, R557, R570, R598). -/
def accepts (t : QType) (op : Nat) : Bool :=
  match t with
  | .mgmt => [0x00, 0x01, 0x10, 0x11, 0x12, 0x13, 0x18, 0x19, 0x1A, 0x1B, 0x20, 0x21, 0x22, 0x28, 0x29, 0x30, 0x31, 0x32, 0x33, 0x34,
              0x35, 0x36, 0x37, 0x38, 0x39, 0x3A, 0x50, 0x51, 0x52, 0x53, 0x54, 0x55, 0x56, 0x58, 0x59, 0x60, 0x61, 0x62, 0x68, 0x69,
              0x6A, 0x6B].contains op
  | .compute => [0x00, 0x01, 0x02, 0x04, 0x05, 0x06, 0x07, 0x08, 0x51, 0x59, 0x62].contains op
  | .copy => [0x00, 0x01, 0x03].contains op

/-- Are the RSVD bits of a descriptor zero (R479, R654)? -/
def Cmd.rsvdOk (c : Cmd) (t : QType) : Bool :=
  decide (c.flags < 16) && decide (fieldLe c.bytes 2 1 < 8) && fieldLe c.bytes 3 1 == 0 &&
  (List.range 24).all (fun i => (argFields t c.op).any (fun f => decide (f.1 ≤ 0x28 + i ∧ 0x28 + i < f.1 + f.2)) ||
    fieldLe c.bytes (0x28 + i) 1 == 0)

/-! ## Reference lists (R491) -/

/-- The count records (virtual and physical address) of a list, all in host memory; or the status and DETAIL that end its command. -/
def State.readRefs (s : State) (ctx va : Nat) : Except (Nat × Nat × State) (List (Nat × Nat) × State) :=
  if va % 64 ≠ 0 then .error (2, 0x20, s)
  else
    match s.hubRead ctx va 128 with
    | (none, s1) => .error (0x11, 0, s1)
    | (some b, s1) =>
      let n := fieldLe b 0 1
      if fieldLe b 1 7 ≠ 0 then .error (1, 0, s1)
      else if n = 0 ∨ 15 < n then .error (2, 0x20, s1)
      else
        (List.range n).foldl (fun acc i =>
          match acc with
          | .error e => .error e
          | .ok (l, st) =>
            let a := fieldLe b (8 + 8 * i) 8
            if a % 16 ≠ 0 then .error (2, 0x20, st)
            else
              match st.hubXlate ctx a 3 with
              | (.pa p _, s2) => if hostBase ≤ p then .ok (l ++ [(a, p)], s2) else .error (2, 0x20, s2)
              | (.fault sub lvl, s2) => .error (0x11, 0, s2.xltRecord 18 ctx a 0 sub 3 6 lvl 0 (zeros 4))
              | (.hole, s2) => .error (0x11, 0, s2)) (.ok ([], s1))

/-- A COUNT's value at the host. -/
def State.countAt (s : State) (pa : Nat) : Nat := unle (s.curBytes pa 8)

/-- An atomic fetch-and-add of a COUNT at the host (R493, R495). -/
def State.countAdd (s : State) (pa : Nat) (inc : Nat) : State :=
  (s.hostWrite pa (le 8 ((s.countAt pa + inc) % 2 ^ 64))).wake (lineOf pa)

/-- The subtractions of a list are under way; they follow the offers made so far (R493). -/
def State.subRefs (s : State) (refs : List (Nat × Nat)) (q evring op : Nat) : State :=
  foldS refs s (fun st r =>
    { st with refSubs := tput st.nextId { count := r.1, pa := r.2, after := st.nextId, queue := q, evring, opcode := op } st.refSubs,
              nextId := st.nextId + 1 })

/-- Keys of lasting references (R494): program, context, queue, event ring. -/
def refKey (kind id : Nat) : Nat := kind * 2 ^ 20 + id

/-- The lasting references of an object are released. -/
def State.releaseLast (s : State) (key q evring op : Nat) : State :=
  ({ s with lastRefs := tdel key s.lastRefs }).subRefs (tgetD [] key s.lastRefs) q evring op

/-! ## Taking a command up -/

/-- Sets the phase of a queue's first command. -/
def State.setPhase (s : State) (q : Nat) (p : CmdPhase) : State := s.modQueue q (fun x => { x with phase := p })

/-- A command's folio: that of the queue's context. -/
def State.queueFolio (s : State) (x : Queue) : Nat := s.ctxFolio x.ctx

/-- The wait of a command begins (R481). -/
def State.beginWait (s : State) (q : Nat) (x : Queue) (c : Cmd) : State :=
  let va := fieldLe c.bytes 8 8
  match s.hubXlate x.ctx va 0 with
  | (.pa a _, s1) =>
    ((s1.takeWatch { pa := a, target := BitVec.ofNat 32 (fieldLe c.bytes 0x10 4), who := .command q, folio := s1.queueFolio x }).2).setPhase q .waiting
  | (.fault sub lvl, s1) => (s1.xltRecord 18 x.ctx va 0 sub 0 6 lvl 0 (zeros 4)).cmdDone q 0x11 0
  | (.hole, s1) => s1.cmdDone q 0x11 0

/-- The queue's first command is taken up: the checks of R497 that need no effect, its reference list, its wait. Its queue wait
begins (R516). -/
def State.takeUp (s : State) (q : Nat) : State :=
  match s.queue? q with
  | none => s
  | some x =>
    match x.cmds with
    | [] => s
    | c :: _ =>
      let s1 := s.setQueue q { x with phase := .fresh, started := s.hubCount, qwaitFrom := s.hubCount, waitNoted := false, uses := [], refs := [] }
      let f := s.folio (s.queueFolio x)
      if ¬ accepts x.type c.op ∨ ¬ c.rsvdOk x.type then s1.cmdDone q 1 0
      else if ¬ s.serves c.op then s1.cmdDone q 5 0
      else if x.type ≠ .mgmt ∧ (¬ f.valid ∨ f.guest) then s1.cmdDone q 3 0
      else if c.wantsWait ∧ fieldLe c.bytes 8 8 % 8 ≠ 0 then s1.cmdDone q 2 8
      else if c.wantsSignal ∧ fieldLe c.bytes 0x18 8 % 8 ≠ 0 then s1.cmdDone q 2 0x18
      else
        match (if c.hasRefs then s1.readRefs x.ctx (fieldLe c.bytes 0x20 8) else .ok ([], s1)) with
        | .error (st, dt, s2) => s2.cmdDone q st dt
        | .ok (refs, s2) =>
          let s3 := s2.modQueue q (fun y => { y with refs })
          if c.wantsWait then s3.beginWait q x c else s3

/-! ## Composition commands side by side (R421) -/

/-- The first id of the model's own entries for composition commands that have left the management queue while they run (log 122). -/
def besideBase : Nat := 16384

/-- Is an opcode a composition command that may run beside others: FOLIO_CREATE to SLICE_MOVE? -/
def composing (op : Nat) : Bool := decide (0x30 ≤ op ∧ op ≤ 0x35)

/-- The folios that a composition command names (R421); of a FOLIO_CREATE that runs, the folio that it makes. -/
def State.cmdFolios (s : State) (q : Nat) (c : Cmd) : List Nat :=
  if c.op = 0x30 then (List.range 64).filterMap (fun n => let e := s.memSlice n; if e.init ∧ e.queue = some q then some e.dest else none)
  else if c.op = 0x31 then [c.arg 0x28 1]
  else if c.op = 0x35 then [(s.memSlice (c.arg 0x28 1)).owner]
  else [c.arg 0x2A 1, c.arg 0x2B 1].filter (fun f => f != 0x3F)

/-- The composition commands that run beside the management queue. -/
def State.beside (s : State) : List (Nat × Queue) := s.queues.filter (fun q => decide (besideBase ≤ q.1))

/-- A free entry for the management queue's first command to run in, when it is a composition command that runs and the next one names none of
the folios of those that run, of which there may be eight (R421). -/
def State.besideRoom (s : State) (x : Queue) : Option Nat :=
  match x.cmds, x.phase with
  | c :: c2 :: _, .running _ =>
    let busy := s.cmdFolios 0 c ++ s.beside.flatMap (fun v => v.2.cmds.flatMap (s.cmdFolios v.1))
    if composing c.op && composing c2.op && (s.cmdFolios 0 c2).all (fun f => !busy.contains f) && decide (s.beside.length < 7) then
      ((List.range 8).map (fun k => besideBase + k)).find? (fun v => (s.queue? v).isNone)
    else none
  | _, _ => none

/-- The queue `v` for queue 0 wherever a composition command that runs is named. -/
def State.renameCmd (s : State) (v : Nat) : State :=
  let ren := fun (o : Option Nat) => if o = some 0 then some v else o
  let sl := fun (_ : Nat) (e : SliceE) => { e with queue := ren e.queue }
  { s with coreSl := tmap sl s.coreSl, memSl := tmap sl s.memSl, linkSl := tmap sl s.linkSl,
           folios := tmap (fun _ (f : Folio) => { f with epochPend := f.epochPend.map (fun q => if q = 0 then v else q), destroying := ren f.destroying }) s.folios }

/-- The management queue's first command goes on beside it, and the next is taken up (R421). -/
def State.overlap (s : State) : State :=
  match s.queue? 0 with
  | none => s
  | some x =>
    match s.besideRoom x with
    | none => s
    | some v =>
      let s1 := (s.renameCmd v).setQueue v { x with cmds := x.cmds.take 1, watched := false, snooped := false, dying := true }
      (s1.setQueue 0 { x with cmds := x.cmds.tail, phase := .fresh, uses := [], refs := [] }).takeUp 0

/-- Commands join a queue; the first is taken up if the queue had none (R480). -/
def State.enqueue (s : State) (q : Nat) (l : List Cmd) : State :=
  match s.queue? q with
  | none => s
  | some x =>
    let s1 := s.setQueue q { x with cmds := x.cmds ++ l }
    if x.cmds = [] then s1.takeUp q else if q = 0 then s1.overlap else s1

/-! ## Starting a command -/

/-- Does the hub's walker or a MIGRATE hold back a command (R361, R374)? The hub takes a command's addresses into account together, each with the page
that it begins in and the next (DESIGN CHOICE, log 120). -/
def State.cmdHeld (s : State) (x : Queue) (c : Cmd) : Bool :=
  x.ctx != 0 && (decide (16 ≤ s.walksAt s.hubDie) ||
    [0x08, 0x18, 0x20, 0x28, 0x30, 0x38].any (fun o => s.migHolds 0 x.ctx (fieldLe c.bytes o 8) || s.migHolds 0 x.ctx (fieldLe c.bytes o 8 + 2 ^ 25)))

/-- The queue's first command when it may start as an opcode: its wait is over, and the part is not in standby (R606). -/
def State.front (s : State) (q op : Nat) : Option (Queue × Cmd) :=
  match s.queue? q with
  | none => none
  | some x =>
    match x.cmds with
    | [] => none
    | c :: _ => if c.op = op ∧ (x.phase = .fresh ∨ x.phase = .waitDone) ∧ s.standby.isNone ∧ ¬ s.cmdHeld x c then some (x, c) else none

/-- The end of a command's queue wait (R516). -/
def State.endQwait (s : State) (q : Nat) (x : Queue) : State :=
  (s.modCtx x.ctx (fun y => { y with acct := { y.acct with qwaitNs := y.acct.qwaitNs + (s.hubCount - x.qwaitFrom) } })).modQueue q
    (fun y => { y with started := s.hubCount })

/-- Starts a queue's first command as an opcode. -/
def State.runCmd (s : State) (q op : Nat) (go : State → Queue → Cmd → State) : Host.Outcome State Fault Refusal :=
  match s.front q op with
  | none => stay s
  | some (x, c) => .next (go (s.endQwait q x) x c)

/-- Starts a composition command, beside which the next may start (R421). -/
def State.runComposition (s : State) (q op : Nat) (go : State → Queue → Cmd → State) : Host.Outcome State Fault Refusal :=
  match s.front q op with
  | none => stay s
  | some (x, c) => .next (go (s.endQwait q x) x c).overlap

/-- The argument block of a command (64 bytes, or `n`), or BUSERR. -/
def State.withBlock (s : State) (q : Nat) (c : Cmd) (n : Nat) (go : State → Bytes → State) : State :=
  match s.hubRead 0 (c.arg 0x28 8) n with
  | (none, s1) => s1.cmdDone q 0x11 0
  | (some b, s1) => go s1 b

/-- DETAIL of a bad argument within the argument block (R483). -/
def inBlock (o : Nat) : Nat := 2 ^ 31 + o

/-! ## Ending a command (R480-R483, R493, R494) -/

/-- COMMAND_DONE (R483). -/
def State.doneRecord (s : State) (q : Nat) (x : Queue) (c : Cmd) (status detail : Nat) : State :=
  s.ringPut x.evring (s.record tyCommandDone (s.queueFolio x) 0 x.ctx 18
    (le 2 (if besideBase ≤ q then 0 else q) ++ le 1 c.op ++ le 1 status ++ le 4 (fieldLe c.bytes 4 4) ++ le 4 (c.index.getD 0xFFFFFFFF) ++ le 4 detail ++
     le 8 (s.hubCount - x.started)))

/-- Did a command write outside local HBM (R481): a launch's instructions, a copy's bursts, or the hub a result? -/
def State.wroteOutside (s : State) (x : Queue) (c : Cmd) : Bool :=
  let result := fun (va : Nat) => match (s.hubXlate x.ctx va 1).1 with | .pa a _ => outsideHbm a | _ => false
  if c.op = 0x02 then (match s.ctx? x.ctx with | some y => y.far | none => false)
  else if c.op = 0x03 then (s.chan x.chan).far
  else if c.op = 0x39 ∨ c.op = 0x51 then result (c.arg 0x30 8)
  else if c.op = 0x52 then result (c.arg 0x28 8)
  else if c.op = 0x62 then result (c.arg 0x38 8)
  else false

/-- The offer of SIG_VAL, made for every status but ABORTED; an unreachable word turns OK into BUSERR (R481, R482). -/
def State.signalFor (s : State) (q : Nat) (x : Queue) (c : Cmd) (status : Nat) : Nat × Option Offer × State :=
  if ¬ c.wantsSignal ∨ status = 0x0F then (status, none, s)
  else
    let va := fieldLe c.bytes 0x18 8
    let bad := if status = 0 then 0x11 else status
    match s.hubXlate x.ctx va 3 with
    | (.pa a _, s1) =>
      let f := s1.queueFolio x
      (status, some { va, pa := a, value := BitVec.ofNat 32 (fieldLe c.bytes 0x14 4), ctx := x.ctx, folio := f, epoch := (s1.folio f).epoch,
                      scope := if outsideHbm a || s1.wroteOutside x c then 2 else 1, issuer := .command q, qos := c.qos }, s1)
    | (.fault sub lvl, s1) => (bad, none, s1.xltRecord 18 x.ctx va 0 sub 3 6 lvl 0 (zeros 4))
    | (.hole, s1) => (bad, none, s1)

/-- The object that a creating command has made, for its lasting references (R494). -/
def State.madeKey (s : State) (x : Queue) (c : Cmd) : Option Nat :=
  let blk := (s.hubRead 0 (c.arg 0x28 8) 2).1
  match c.op with
  | 0x07 => some (refKey 0 (64 * x.ctx + c.arg 0x28 2))
  | 0x10 => blk.map (fun b => refKey 1 (unle b))
  | 0x18 => blk.map (fun b => refKey 2 (unle b))
  | 0x1A => blk.map (fun b => refKey 3 (unle b))
  | _ => none

/-- The object that a destroying command has ended. -/
def goneKey (x : Queue) (c : Cmd) : Option Nat :=
  match c.op with
  | 0x08 => some (refKey 0 (64 * x.ctx + c.arg 0x28 2))
  | 0x11 => some (refKey 1 (c.arg 0x28 2))
  | 0x19 => some (refKey 2 (c.arg 0x28 2))
  | 0x1B => some (refKey 3 (c.arg 0x28 2))
  | _ => none

/-- Lasting references are taken: each COUNT rises before the command's own subtraction. -/
def State.lastTake (s : State) (x : Queue) (c : Cmd) (status : Nat) (refs : List (Nat × Nat)) : State :=
  match s.madeKey x c with
  | some k =>
    if status = 0 ∧ refs ≠ [] then
      foldS refs { s with lastRefs := tput k refs s.lastRefs } (fun st r => st.countAdd r.2 1)
    else s
  | none => s

/-- Lasting references of an ended object are given back. -/
def State.lastDrop (s : State) (q : Nat) (x : Queue) (c : Cmd) (status : Nat) : State :=
  match goneKey x c with
  | some k => if status = 0 then s.releaseLast k q x.evring c.op else s
  | none => s

/-- One command ends with a status: record, offer, references (R481, R483, R493, R494). -/
def State.endCmd (s : State) (q : Nat) (x : Queue) (c : Cmd) (refs : List (Nat × Nat)) (status detail : Nat) : State :=
  match s.signalFor q x c status with
  | (st, offer, s1) =>
    let s2 := s1.lastTake x c st refs
    let s3 := if st ≠ 0 ∨ c.wantsEvent then s2.doneRecord q x c st detail else s2
    let s4 := match offer with | some o => s3.postOffer o | none => s3
    (s4.subRefs refs q x.evring c.op).lastDrop q x c st

/-- The queue's first command leaves it; the next is taken up. One that ran beside the management queue makes room (R421). -/
def State.popCmd (s : State) (q : Nat) : State :=
  if besideBase ≤ q then ({ s with queues := tdel q s.queues }).overlap
  else (s.modQueue q (fun y => { y with cmds := y.cmds.tail, phase := .fresh, uses := [], refs := [] })).takeUp q

/-- A command that never started ends ABORTED; its reference list is read now. -/
def State.abortCmd (s : State) (q : Nat) (x : Queue) (c : Cmd) : State :=
  match (if c.hasRefs then s.readRefs x.ctx (fieldLe c.bytes 0x20 8) else .ok ([], s)) with
  | .ok (refs, s1) => s1.endCmd q x c refs 0x0F 0
  | .error (_, _, s1) => s1.endCmd q x c [] 0x0F 0

/-- Commands fetched and not started end ABORTED (15, when events coincide); a running first command stays. -/
def State.abortWaiting (s : State) (q : Nat) : State :=
  match s.queue? q with
  | none => s
  | some x =>
    let keep : Bool := match x.phase with | .running _ => true | .done _ _ => true | _ => false
    let stay := if keep then x.cmds.take 1 else []
    let s1 := (s.dropWatch (.command q)).modQueue q (fun y => { y with cmds := stay, phase := if keep then y.phase else .fresh })
    foldS (if keep then x.cmds.tail else x.cmds) s1 (fun st c => st.abortCmd q x c)

end Sys2Proof.Machine
end

