-- ==== Sys2Proof/Machine/Reset.lean ====
section
/-! DEFINITION. Sys2Proof/Machine/Reset.lean: contexts leaving slots, context, engine and folio resets, the post-mortem snapshot (05 R161, 13 R429, R446, R447, 16 R506, 19 R596-R602). -/

namespace Sys2Proof.Machine

/-! ## Leaving slots (R161, R131, R506) -/

/-- Frees a slot: its partial counts are flushed, its set-aside matrix work and the choice of it end. The contents of its ways are undefined
from then on (R161): the bytes stand as they were until the next context's zeroing, and only a debug read can see them (DESIGN CHOICE,
log 117). -/
def State.leaveSlot (s : State) (c k : Nat) : State :=
  let s1 := (s.charge c).flushSlot c k
  let r := s1.core c
  s1.setCore c { r with slots := tdel k r.slots, mq := r.mq.filter (fun o => o.slot != k),
                        running := if r.running = some k then none else r.running, choice := if r.choice = some k then none else r.choice }

/-- A context leaves every slot it holds and gives up its resident entry (R506). -/
def State.evictCtx (s : State) (ctx : Nat) : State :=
  (foldS (s.slotsOf ctx) s (fun st x => st.leaveSlot x.1 x.2.1)).modCtx ctx (fun y => { y with resident := none })

/-- Is a resident context idle (R506)? -/
def State.idleCtx (s : State) (ctx : Nat) : Bool :=
  match s.ctx? ctx with
  | some y => y.resident.isSome && y.act.isNone && y.suspended.isNone && y.admitted.isNone && y.held.isNone &&
      (s.slotsOf ctx).all (fun x => x.2.2.sifts == 0)
  | none => false

/-- Removes a context's TLB, leaf-cache and walk-cache entries everywhere (R360). -/
def State.dropXlate (s : State) (ctx : Nat) : State :=
  { s with
    cores := tmap (fun _ (c : Core) => { c with tlb := c.tlb.filter (fun e => e.ctx != ctx) }) s.cores
    walkers := tmap (fun _ (w : Walker) => { leaves := w.leaves.filter (fun e => e.ctx != ctx), upper := w.upper.filter (fun e => e.ctx != ctx) }) s.walkers
    hubTlb := s.hubTlb.filter (fun e => e.ctx != ctx)
    cpyTlb := tmap (fun _ (l : List TlbEntry) => l.filter (fun e => e.ctx != ctx)) s.cpyTlb
    walks := tfilter (fun _ (w : Walk) => w.ctx != ctx) s.walks }

/-! ## Context reset (R600) -/

/-- Is an issuer a stream of a core? -/
def ofCore : Issuer → Bool
  | .scalar _ _ => true | .store _ _ => true | .burst _ _ _ _ => true | _ => false

/-- Step 2: outstanding requests of the context's streams complete at their destinations and are discarded (R418); bursts not yet out are not
sent. Updates of the safeguard block under way are no requests of a stream: they reach it (R131). -/
def State.squash (s : State) (ctx : Nat) : State :=
  let gone := (s.offers.filter (fun o => o.2.ctx == ctx && (match o.2.issuer with | .fwait _ _ => true | _ => false))).map Prod.fst
  let mine : Req → Bool := fun q => q.ctx == ctx && (ofCore q.issuer || (match q.issuer with | .offer i => gone.contains i | _ => false))
  { s with
    reqs := tmap (fun _ q => if mine q then { q with squashed := true } else q) (tfilter (fun _ q => !(mine q && q.status.isSome)) s.reqs)
    offers := tfilter (fun i (_ : Offer) => !gone.contains i) s.offers
    bars := tfilter (fun _ (b : BarMsg) => b.ctx != ctx) s.bars
    cores := tmap (fun _ (c : Core) => { c with tdma := c.tdma.filter (fun q => q.ctx != ctx) }) s.cores }

/-- Step 4: sift requests are abandoned (R261). -/
def State.abandonSifts (s : State) (ctx : Nat) : State :=
  foldS (s.sifts.filter (fun q => q.2.ctx == ctx)) s (fun st q => st.siftLeave q.1 q.2)

/-- The queues bound to a context. -/
def State.queuesOf (s : State) (ctx : Nat) : List (Nat × Queue) := s.queues.filter (fun q => q.2.ctx == ctx && q.1 != 0)

/-- Step 4: the copy channels bound to the context stop (R403). -/
def State.stopChans (s : State) (ctx : Nat) : State :=
  foldS (List.range 128) s (fun st ch =>
    match (st.chan ch).queue with
    | some q => if (st.queuesOf ctx).any (fun x => x.1 == q) then st.chanStop ch else st
    | none => st)

/-- The commands in progress of the context's queues end: the launch with `status`, the others ABORTED (R600). -/
def State.endCmds (s : State) (ctx status : Nat) : State :=
  let mine := match s.ctx? ctx with | some y => y.act.bind (fun a => a.queue) | none => none
  foldS (s.queuesOf ctx) s (fun st q =>
    match q.2.phase with
    | .fresh => st
    | .done _ _ => st
    | _ => if q.2.cmds = [] then st else (st.dropWatch (.command q.1)).cmdDone q.1 (if mine = some q.1 then status else 0x0F) 0)

/-- A slot of a reset context: its stream has ended, its shadow and partial state is discarded, its ways are zeroed before its
next instruction. -/
def Slot.afterReset (x : Slot) : Slot :=
  { x with halted := true, wait := .none, fault := none, lanes := [{}, {}], groupErr := [], partials := [], guard := none, sifts := 0,
           needZero := true, dropped := [], lastProg := none }

/-- The slots of a reset context: a promotion in progress ends with outcome 5; matrix work and the tiles' counters and assays go. -/
def State.resetSlot (s : State) (c k : Nat) (x : Slot) : State :=
  let s1 := match x.guard with | some g => s.promotionEnd c x.ctx g 5 | none => s
  let r := x.accWays.foldl (fun (r : Core) w => { r.clearTile w with assay := tdel w r.assay }) (s1.core c)
  (s1.setCore c { r with mq := r.mq.filter (fun o => o.slot != k), choice := if r.choice = some k then none else r.choice }).modSlot c k Slot.afterReset

/-- The context's own state after its reset: the time of a suspension is booked (R525). -/
def Context.afterReset (y : Context) (now : Nat) : Context :=
  { y with
    acct := { y.acct with suspendNs := y.acct.suspendNs + (match y.suspended with | some t => now - t | none => 0) }
    suspended := none, held := none, bkpt := false, act := none, idleSince := now }

/-- A cyclic entry's activation has ended. -/
def State.entryEnded (s : State) (i : Nat) : State :=
  { s with cyclic := { s.cyclic with table := s.cyclic.table.zipIdx.map (fun p => if p.2 = i then { p.1 with running := false, ended := true } else p.1) } }

/-- A context reset without its record (R600). -/
def State.ctxResetQuiet (s : State) (ctx status : Nat) : State :=
  let entry := match s.ctx? ctx with | some y => y.act.bind (fun a => a.entry) | none => none
  let s1 := s.chargeAll ctx
  let s2 := foldS (s1.slotsOf ctx) s1 (fun st x => st.resetSlot x.1 x.2.1 x.2.2)
  let s3 := (((s2.squash ctx).abandonSifts ctx).stopChans ctx).endCmds ctx status
  let s4 := foldS (s3.slotsOf ctx) s3 (fun st x => st.dropWatch (.fwait x.1 x.2.1))
  let s5 := (s4.dropXlate ctx).modCtx ctx (fun y => y.afterReset s.hubCount)
  match entry with | some i => s5.entryEnded i | none => s5

/-- Context reset, step 1 of the ladder (R599, R600). REASON is the code of the snapshot header where the spec gives one
(R596), else a free value. -/
def State.ctxReset (s : State) (ctx status reason : Nat) : State :=
  (s.ctxResetQuiet ctx status).resetRec 1 reason ctx 0 (s.ctxFolio ctx) ctx

/-- A REASON that the spec does not give. -/
def State.freeReason (s : State) : Nat := s.freeNat % 256

/-- Context reset with a REASON that the spec does not give. -/
def State.ctxResetFree (s : State) (ctx status : Nat) : State := (s.ctxReset ctx status s.freeReason).useFree

/-! ## The post-mortem snapshot (R596, R597) -/

/-- May the snapshot be taken: an area in a memory slice that folio 0 owns, and no lock? -/
def State.pmReady (s : State) : Bool :=
  let base := s.fld rPmBase 24 22 * 2 ^ 24
  decide (base ≠ 0) && !bit (s.reg rPmStat) 0 && decide (base < 2 ^ 39) &&
  (match s.server (base / 2 ^ 33) with | some m => (s.memSlice m).st == .owned && (s.memSlice m).owner == 0 | none => false)

/-- One entry of a section: its form inside is not given, so its bytes are free; zeros for a confidential folio (R585). -/
def State.pmEntry (s : State) (off n : Nat) (zero : Bool) : State :=
  let d := if zero then zeros n else s.freeBytes n
  ((s.putBytes (s.fld rPmBase 24 22 * 2 ^ 24 + off) (n + 1) d).2).useFree

/-- The snapshot before a reset: header and the entries (offset, bytes, zeros); without a place it is skipped and counted. -/
def State.snapshot (s : State) (step reason target valid : Nat) (entries : List (Nat × Nat × Bool)) : State :=
  if s.pmReady then
    let seq := (s.fld rPmStat 32 32 + 1) % 2 ^ 32
    let base := s.fld rPmBase 24 22 * 2 ^ 24
    let hdr := le 4 0x4D545350 ++ le 4 seq ++ le 1 step ++ le 1 reason ++ le 2 0 ++ le 4 target ++ le 8 s.hubCount ++ le 8 valid
    let s1 := foldS entries (s.putBytes base 200 (fit 4096 hdr)).2 (fun st e => st.pmEntry e.1 e.2.1 e.2.2)
    let s2 := s1.setFld rPmStat 32 32 seq
    if bit (s.reg rPmStat) 1 then s2.setFld rPmStat 0 1 1 else s2
  else s.bumpFld rPmStat 16 16 1

/-- The context of a waiter. -/
def State.waiterCtx (s : State) : Waiter → Nat
  | .fwait c k => (match s.slot? c k with | some x => x.ctx | none => 0xFFFF)
  | .copy ch => s.chanCtx ch
  | .command q => (match s.queue? q with | some x => x.ctx | none => 0xFFFF)

/-- The queue and watch entries of contexts. -/
def State.pmQueues (s : State) (ctxs : List Nat) : List (Nat × Nat × Bool) :=
  let mine := fun (e : WatchEntry × Nat) => ctxs.contains (s.waiterCtx e.1.who)
  (s.queues.filter (fun q => ctxs.contains q.2.ctx)).map (fun q => (0x1000 + 32 * q.1, 32, false)) ++
  (s.hubWatch.zipIdx.filter mine).map (fun e => (0x81000 + 16 * e.2, 16, false)) ++
  s.homes.flatMap (fun h => (h.2.watch.zipIdx.filter mine).map (fun e => (0x85000 + 8192 * h.1 + 16 * e.2, 16, false)))

/-- The place of a core in the cores section: enabled cores in ENGINE order. -/
def State.corePlace (s : State) (c : Nat) : Nat := ((List.range c).filter s.coreEnabled).length

/-- Does a core hold a context of a confidential folio? -/
def State.confCore (s : State) (c : Nat) : Bool := s.isConf (s.coreSlice (s.sliceOf c)).owner

/-- The entry of a core. -/
def State.pmCore (s : State) (c : Nat) : Nat × Nat × Bool := (0x200000 + 4096 * s.corePlace c, 4096, s.confCore c)
/-- The entry of a channel. -/
def State.pmChan (s : State) (ch : Nat) : Nat × Nat × Bool := (0x106000 + 128 * ch, 128, s.isConf (s.chan ch).folio)
/-- The entry of a sift unit. -/
def State.pmUnit (s : State) (u : Nat) : Nat × Nat × Bool := (0x10A000 + 256 * u, 256, s.isConf (s.memSlice u).owner)

/-- Every section, for a folio or package reset. -/
def State.pmAll (s : State) : List (Nat × Nat × Bool) :=
  [(0x1000, 0x80000, false), (0x81000, 0x4000, false), (0x85000, 0x80000, false), (0x105000, 0xC00, false)] ++
  (List.range 128).map s.pmChan ++ (List.range 64).map s.pmUnit ++ ((List.range 576).filter s.coreEnabled).map s.pmCore

/-! ## Engine reset (R601) -/

/-- The contexts resident on a core. -/
def State.ctxsOn (s : State) (c : Nat) : List Nat := ((s.core c).slots.map (fun x => x.2.ctx)).eraseDups

/-- Engine reset of a core, step 2 of the ladder: its contexts are reset on all their cores, its ways, TLB and slots go. -/
def State.resetCore (s : State) (c reason : Nat) : State :=
  let cs := s.ctxsOn c
  let s0 := s.snapshot 2 reason (engineWord c) 0x47 (s.pmQueues cs ++ [s.pmCore c])
  let s1 := foldS (cs.filter (fun x => x != 0)) s0 (fun st x => st.ctxReset x 0x0F reason)
  let s1a := foldS (s1.sifts.filter (fun q => q.2.ctx == 0 && q.2.core == c)) s1 (fun st q => st.siftLeave q.1 q.2)
  let s2 := (s1a.setCore c {}).setReg (rDbgAddr c) (resetOf (rDbgAddr c))
  s2.resetRec 2 reason (engineWord c) 0 0x3F 0xFFFF

/-- Engine reset of a copy engine: every channel's descriptor ends ABORTED without a fence, and so does its command. -/
def State.resetCopy (s : State) (e reason : Nat) : State :=
  let chs := (List.range 16).map (fun k => 16 * e + k)
  let s0 := s.snapshot 2 reason e 0x17 (s.pmQueues (chs.map s.chanCtx) ++ chs.map s.pmChan)
  let s1 := foldS chs s0 (fun st ch =>
    let q := (st.chan ch).queue
    let busy : Bool := match (st.chan ch).st with | .idle => false | .drain => false | _ => true
    let st1 := st.chanStop ch
    match q with | some i => if busy then st1.cmdDone i 0x0F 0 else st1 | none => st1)
  s1.resetRec 2 reason e 0 0x3F 0xFFFF

/-- Engine reset of a sift unit: each request completes with STATUS 0x15 (R252). -/
def State.resetUnit (s : State) (u reason : Nat) : State :=
  let ids := (s.unit u).queue ++ (match (s.unit u).running with | some i => [i] | none => [])
  let cs := ids.filterMap (fun i => (tget i s.sifts).map (fun q => q.ctx))
  let s0 := s.snapshot 2 reason u 0x27 (s.pmQueues cs ++ [s.pmUnit u])
  let s1 := foldS ids s0 (fun st i => match tget i st.sifts with | some q => st.siftFail i q 0x15 0 0 | none => st)
  s1.resetRec 2 reason u 0 0x3F 0xFFFF

/-! ## Folio reset (R446, R447, R602) -/

/-- A queue and its commands end: each is ABORTED, its references are released. -/
def State.killQueue (s : State) (q : Nat) : State :=
  match s.queue? q with
  | none => s
  | some x =>
    let s1 := s.dropWatch (.command q)
    let s2 := match x.cmds with
      | [] => s1
      | c :: t => foldS t (if x.phase = CmdPhase.fresh then s1.abortCmd q x c else s1.endCmd q x c x.refs 0x0F 0) (fun st d => st.abortCmd q x d)
    let s3 := s2.releaseLast (refKey 2 q) q x.evring 0x19
    let s4 := if x.type = .copy then s3.setChan x.chan { s3.chan x.chan with queue := none } else s3
    { s4 with queues := tdel q s4.queues }

/-- Removes a context from the part, with its programs; their lasting references are released to a queue's ring. -/
def State.killCtx (s : State) (ctx q evring op : Nat) : State :=
  let progs := match s.ctx? ctx with | some y => y.programs.map Prod.fst | none => []
  let s1 := foldS progs s (fun st p => st.releaseLast (refKey 0 (64 * ctx + p)) q evring op)
  let s2 := (s1.releaseLast (refKey 1 ctx) q evring op).dropXlate ctx
  { s2 with ctxs := tdel ctx s2.ctxs }

/-- Removes an event ring. -/
def State.killRing (s : State) (r q evring op : Nat) : State :=
  let s1 := s.releaseLast (refKey 3 r) q evring op
  { s1 with evrings := tdel r s1.evrings }

/-- A memory slice stops serving its position, no folio owns its frames any more (R423 step 4), and it is scrubbed (R426). -/
def State.unserve (s : State) (n : Nat) : State :=
  let e := s.memSlice n
  let s1 := s.setMemSlice n { e with keep := if e.serve.isSome then e.serve else e.keep, serve := none }
  (List.range 256).foldl (fun st i => st.setFrame n i (setBits (setBits (s.frame n i) 0 6 0) 25 1 1)) s1

def State.startScrub (s : State) (n : Nat) : State :=
  let s1 := s.unserve n
  s1.setMemSlice n { s1.memSlice n with st := .transit, dest := 0x3F, scrub := true, moveTo := none, moveFrom := none, queue := none }

/-- The slices QUARANTINED away from a folio leave quarantine, but for those of a failed die (R429): a memory slice is scrubbed,
the others are FREE. -/
def State.releaseQuarantine (s : State) (f : Nat) : State :=
  let mine : SliceE → Bool := fun e => e.st == .quarantined && e.owner == f && !e.dieLost
  let s1 := foldS (List.range 128) s (fun st n => if mine (st.coreSlice n) then st.setCoreSlice n {} else st)
  let s2 := foldS (List.range 12) s1 (fun st n => if mine (st.linkSlice n) then st.setLinkSlice n {} else st)
  foldS (List.range 64) s2 (fun st n =>
    if mine (st.memSlice n) then st.startScrub n else st)

/-- Epochs advance by 1 (R414). -/
def State.bumpEpoch (s : State) (f : Nat) : State := s.setFolio f { s.folio f with epoch := ((s.folio f).epoch + 1) % 65536 }

/-- A folio's outstanding transfers complete as LOST (R446 step 2, R428 step 2). -/
def State.loseFolio (s : State) (f : Nat) : State :=
  let s1 := foldS (s.reqs.filter (fun r => r.2.folio == f && r.2.status.isNone)) s (fun st r =>
    match st.req? r.1 with | some q => st.finish r.1 q .lost [] | none => st)
  foldS (s1.sifts.filter (fun q => q.2.folio == f)) s1 (fun st q => st.siftFail q.1 q.2 0x11 0 0)

/-- Every cluster cache of the folio's core slices writes back and is empty (R602). -/
def State.flushCaches (s : State) (f : Nat) : State :=
  foldS (s.folioCores f) s (fun st n => foldS ((st.cache n).lines.map Prod.fst) st (fun st' l => st'.cleanLine n l false))

/-- The contexts, queues and rings of a folio. -/
def State.folioCtxs (s : State) (f : Nat) : List Nat := (s.ctxs.filter (fun c => c.2.folio == f && c.1 != 0)).map Prod.fst
def State.folioQueues (s : State) (f : Nat) : List Nat := (s.queues.filter (fun q => q.1 != 0 && s.ctxFolio q.2.ctx == f)).map Prod.fst
def State.folioRings (s : State) (f : Nat) : List Nat := (s.evrings.filter (fun r => r.1 != 0 && r.2.folio == f)).map Prod.fst

/-- The reset of a folio itself (R447, R602). -/
def State.folioReset (s : State) (f reason started : Nat) : State :=
  let s0 := s.snapshot 3 reason f 0x7F s.pmAll
  let s1 := foldS (s0.folioCtxs f) s0 (fun st c => (st.ctxResetQuiet c 0x0F).evictCtx c)
  let s2 := foldS (s1.folioQueues f) s1 State.killQueue
  let s3 := foldS (s2.folioCtxs f) s2 (fun st c => st.killCtx c 0 0 0x69)
  let s4 := foldS (s3.folioRings f) s3 (fun st r => st.killRing r 0 0 0x69)
  let s5 := (s4.flushCaches f).bumpEpoch f
  let s6 := (s5.setFolio f { s5.folio f with evring := 0, energy := none, resetting := none }).releaseQuarantine f
  s6.resetRec 3 reason f (s.hubCount - started) f 0xFFFF

/-- A folio reset starts: its transfers drain for 1 ms (R446). One that is under way absorbs another. -/
def State.startFolioReset (s : State) (f reason : Nat) (queue : Option Nat) : State :=
  match (s.folio f).resetting with
  | some (r, none, t) => s.setFolio f { s.folio f with resetting := some (r, queue, t) }
  | some _ => s
  | none => s.setFolio f { s.folio f with resetting := some (reason, queue, s.hubCount) }

end Sys2Proof.Machine
end

