-- ==== Sys2Proof/Machine/Launch.lean ====
section
/-! DEFINITION. Sys2Proof/Machine/Launch.lean: quires (05 R185-R194), residency (05 R157-R161, 16 R505-R508), launches (15 R484-R486, 16 R655, R656) and the end of an activation. -/

namespace Sys2Proof.Machine

/-! ## Quires (R185-R191) -/

def qSpWays (b : Bytes) : Nat := fieldLe b 0x10 1
def qAccWays (b : Bytes) : Nat := fieldLe b 0x11 1
def qPlaces (b : Bytes) : Nat := fieldLe b 0x12 1
def qSects (b : Bytes) : Nat := fieldLe b 0x14 2
def qWcets (b : Bytes) : Nat := fieldLe b 0x16 2
def qTotal (b : Bytes) : Nat := fieldLe b 0x08 4
def qPromo (b : Bytes) : Nat := fieldLe b 0x2C 4
/-- Offset of a placement, a section, a WCET entry. -/
def qPlaceAt (b : Bytes) (i : Nat) : Nat := fieldLe b 0x18 4 + 32 * i
def qSectAt (b : Bytes) (i : Nat) : Nat := fieldLe b 0x1C 4 + 32 * i
def qWcetAt (b : Bytes) (i : Nat) : Nat := fieldLe b 0x20 4 + 16 * i
/-- CORES of a placement; offset of its rank entry `r`. -/
def qCores (b : Bytes) (i : Nat) : Nat := fieldLe b (qPlaceAt b i) 2
def qRankAt (b : Bytes) (i r : Nat) : Nat := fieldLe b (qPlaceAt b i + 4) 4 + 16 * r
/-- A section's fields. -/
def qType (b : Bytes) (j : Nat) : Nat := fieldLe b (qSectAt b j) 1
def qResident (b : Bytes) (j : Nat) : Bool := bit (fieldLe b (qSectAt b j + 1) 1) 0
def qOffset (b : Bytes) (j : Nat) : Nat := fieldLe b (qSectAt b j + 4) 4
def qSize (b : Bytes) (j : Nat) : Nat := fieldLe b (qSectAt b j + 8) 4
def qLaddr (b : Bytes) (j : Nat) : Nat := fieldLe b (qSectAt b j + 12) 4

/-- The placement for a core count (R188). -/
def qPlacement (b : Bytes) (cores : Nat) : Option Nat := (List.range (qPlaces b)).find? (fun i => qCores b i == cores)

/-- Is the header well formed (R185, R186)? `rev` is HUB_REV. -/
def qHeaderOk (b : Bytes) (rev : Nat) : Bool :=
  let fl := fieldLe b 6 2
  let total := qTotal b
  fieldLe b 0 4 == 0x52495551 && fieldLe b 4 2 == 1 && decide (fl < 8) && total % 64 == 0 && decide (fieldLe b 0x0C 4 ≤ rev) &&
  decide (1 ≤ qSpWays b ∧ qSpWays b ≤ 4) && decide (1 ≤ qAccWays b ∧ qAccWays b ≤ 4) && decide (1 ≤ qPlaces b ∧ qPlaces b ≤ 128) &&
  fieldLe b 0x13 1 == 0 && decide (1 ≤ qSects b ∧ qSects b ≤ 1024) && decide (qWcets b ≤ 4096) &&
  (if qWcets b = 0 then fieldLe b 0x20 4 == 0 else true) && (bit fl 2 || qPromo b == 0) &&
  fieldLe b 0x34 12 == 0 && fieldLe b 0x60 32 == 0 &&
  decide (fieldLe b 0x18 4 + 32 * qPlaces b ≤ total) && decide (fieldLe b 0x1C 4 + 32 * qSects b ≤ total) &&
  decide (fieldLe b 0x20 4 + 16 * qWcets b ≤ total) &&
  (if bit fl 0 then decide (fieldLe b 0x24 4 < total) else fieldLe b 0x24 4 == 0)

/-- Is section `j` well formed (R189, R190)? -/
def qSectOk (b : Bytes) (j : Nat) : Bool :=
  let o := qSectAt b j
  decide (1 ≤ qType b j ∧ qType b j ≤ 3) && decide (fieldLe b (o + 1) 1 < 2) && fieldLe b (o + 2) 2 == 0 && fieldLe b (o + 16) 16 == 0 &&
  qOffset b j % 64 == 0 && decide (qOffset b j + qSize b j ≤ qTotal b) &&
  (if qResident b j then decide (qLaddr b j + qSize b j ≤ qSpWays b * 0x18000) else qLaddr b j == 0)

/-- Is rank entry `r` of placement `i` well formed (R187, R190)? -/
def qRankOk (b : Bytes) (i r : Nat) : Bool :=
  let o := qRankAt b i r
  let code := fieldLe b o 2
  let script : Nat → Bool := fun n => n == 0xFFFF || (decide (n < qSects b) && qType b n == 3)
  decide (code < qSects b) && qType b code == 1 && script (fieldLe b (o + 2) 2) && script (fieldLe b (o + 4) 2) &&
  fieldLe b (o + 6) 2 == 0 && fieldLe b (o + 12) 4 == 0 &&
  (qResident b code || (fieldLe b (o + 8) 4 % 8 == 0 && decide (fieldLe b (o + 8) 4 < qSize b code)))

/-- Is placement `i` well formed (R187)? -/
def qPlaceOk (b : Bytes) (i : Nat) : Bool :=
  let o := qPlaceAt b i
  let n := qCores b i
  n % 4 == 0 && decide (4 ≤ n ∧ n ≤ 512) && fieldLe b (o + 2) 2 == n && fieldLe b (o + 12) 20 == 0 &&
  decide (fieldLe b (o + 4) 4 + 16 * n ≤ qTotal b) && decide (fieldLe b (o + 8) 2 + fieldLe b (o + 10) 2 ≤ qWcets b) &&
  (i == 0 || decide (qCores b (i - 1) < n)) && (List.range n).all (qRankOk b i)

/-- Does a whole image pass R185, R186, R187, R189 and R190? -/
def quireOk (b : Bytes) (rev : Nat) : Bool :=
  qHeaderOk b rev && (List.range (qSects b)).all (qSectOk b) && (List.range (qPlaces b)).all (qPlaceOk b) &&
  (List.range (qWcets b)).all (fun i => fieldLe b (qWcetAt b i + 2) 2 == 0)

/-- Does the signature verify under one of the folio's keys (R193, R194, R571)? -/
def signatureOk (b : Bytes) (keys : Tbl Bytes) : Bool :=
  let o := fieldLe b 0x24 4
  bit (fieldLe b 6 2) 0 && o + 4640 == qTotal b && fieldLe b (o + 4) 4 == 4627 && fieldLe b (o + 4635) 5 == 0 &&
  (match (if fieldLe b o 4 ≤ 3 then tget (fieldLe b o 4) keys else none) with
   | some k => Config.mldsaVerify k (Config.sha3 (b.take o)) (slice b (o + 8) 4627)
   | none => false)

/-! ## Residency (R157, R505-R508) -/

/-- The physical cores of a folio in rank order (R188). -/
def State.rankCores (s : State) (f : Nat) : List Nat := (s.folioCores f).flatMap s.coresOf

/-- The slot of a context on a core. -/
def State.slotOn (s : State) (c ctx : Nat) : Option (Nat × Slot) := (s.core c).slots.find? (fun x => x.2.ctx == ctx)

/-- Ways that no slot holds; `keep` names a context whose own ways count as free. -/
def Core.freeSp (c : Core) (keep : Option Nat) : List Nat :=
  (List.range 4).filter (fun w => !c.slots.any (fun x => some x.2.ctx != keep && x.2.spWays.contains w))
def Core.freeAcc (c : Core) (keep : Option Nat) : List Nat :=
  (List.range 4).filter (fun w => !c.slots.any (fun x => some x.2.ctx != keep && x.2.accWays.contains w))

/-- Can a context have a slot with so many ways on a core? -/
def State.fits (s : State) (c ctx sp acc : Nat) : Bool :=
  let k := s.core c
  (match s.slotOn c ctx with | some _ => true | none => decide (k.slots.length < 4)) &&
  decide (sp ≤ (k.freeSp (some ctx)).length ∧ acc ≤ (k.freeAcc (some ctx)).length)

/-- Resident entries in use. -/
def State.residents (s : State) : List Nat := s.ctxs.filterMap (fun c => c.2.resident)

/-- Has a context a resident entry, or is one free (R470)? -/
def State.entryFree (s : State) (ctx : Nat) : Bool :=
  (match s.ctx? ctx with | some y => y.resident.isSome | none => false) || decide (s.residents.length < 48)

/-- The idle resident context, among those of a list, that has been idle longest (R506). -/
def State.longestIdle (s : State) (l : List Nat) : Option Nat :=
  leastBy (fun i => ((match s.ctx? i with | some y => y.idleSince | none => 0), i)) (l.filter s.idleCtx)

/-- Evicts for a core until the context fits, or no idle context is left there. -/
def State.makeRoomOn (s : State) (c ctx sp acc : Nat) : (fuel : Nat) → State
  | 0 => s
  | fuel + 1 =>
    if s.fits c ctx sp acc then s
    else
      match s.longestIdle ((s.ctxsOn c).filter (fun i => i != ctx && s.ctxFolio i == s.ctxFolio ctx)) with
      | some v => State.makeRoomOn (s.evictCtx v) c ctx sp acc fuel
      | none => s

/-- The evictions a waiting launch calls for (R506). -/
def State.makeWay (s : State) (ctx sp acc : Nat) : State :=
  let s1 := foldS (s.rankCores (s.ctxFolio ctx)) s (fun st c => st.makeRoomOn c ctx sp acc 4)
  if s1.entryFree ctx then s1
  else match s1.longestIdle (s1.ctxs.map Prod.fst) with | some v => s1.evictCtx v | none => s1

/-- A slot for a context on a core, with its ways: kept when it has enough, else assigned anew (R157, R508, R510). -/
def State.takeSlot (s : State) (c ctx sp acc : Nat) : State :=
  let k := s.core c
  match s.slotOn c ctx with
  | some (n, x) =>
    if sp ≤ x.spWays.length ∧ acc ≤ x.accWays.length then s
    else s.setSlot c n { x with spWays := (k.freeSp (some ctx)).take sp, accWays := (k.freeAcc (some ctx)).take acc, needZero := true, lastProg := none }
  | none =>
    match (List.range 4).find? (fun n => (tget n k.slots).isNone) with
    | none => s
    | some n =>
      let vt := match k.slots.map (fun x => x.2.vt) with | [] => 0 | v :: t => t.foldl min v
      s.setSlot c n { ctx, spWays := (k.freeSp none).take sp, accWays := (k.freeAcc none).take acc, vt, set := s.settings ctx,
                      lastFlush := s.count (coreIsland c) }

/-- The context takes a resident entry, if it has none. -/
def State.takeEntry (s : State) (ctx : Nat) : State :=
  s.modCtx ctx (fun y => match y.resident with
    | some _ => y
    | none => { y with resident := (List.range 48).find? (fun e => !s.residents.contains e) })

/-! ## Starting an activation (R190, R485, R486) -/

/-- Zeroes the ways of a slot (R160). -/
def Core.zeroWays (c : Core) (x : Slot) : Core :=
  let c1 := { c with
    sp := x.spWays.foldl (fun m w => mzero m (w * 0x18000) 0x18000) c.sp
    acc := c.acc.filter (fun e => !x.accWays.contains (e.1 / 4096)) }
  x.accWays.foldl (fun r w => { r.clearTile w with assay := tdel w r.assay }) c1

/-- The sections copied to a rank's scratchpad (R190). -/
def qCopied (b : Bytes) (i r : Nat) : List Nat :=
  let o := qRankAt b i r
  (List.range (qSects b)).filter (fun j => qResident b j &&
    (qType b j == 2 || fieldLe b o 2 == j || fieldLe b (o + 2) 2 == j || fieldLe b (o + 4) 2 == j))

/-- The program counter of a rank (R190, R198, R485). -/
def qEntry (b : Bytes) (va i r : Nat) : Nat :=
  let o := qRankAt b i r
  let j := fieldLe b o 2
  let e := fieldLe b (o + 8) 4
  if qResident b j then e else 2 ^ 63 + (va + qOffset b j + e) % 2 ^ 63

/-- What a launch starts: a program at a placement, its argument, segment and class. -/
structure Start where
  ctx : Nat
  prog : Nat
  place : Nat
  seg : Nat
  arg : Word
  qos : Nat
  deriving DecidableEq, Repr

/-- Starts one rank on its core. -/
def State.startRank (s : State) (t : Start) (p : Program) (n : Nat) (c r : Nat) : State :=
  match s.slotOn c t.ctx with
  | none => s
  | some (k, x) =>
    let b := p.image
    let same := !x.needZero && x.lastProg == some (t.prog, t.place)
    let core := s.core c
    let core1 := if same then core
      else (qCopied b t.place r).foldl (fun (m : Core) j => m.spWrite x (qLaddr b j) (slice b (qOffset b j) (qSize b j))) (core.zeroWays x)
    let y : Slot := { x with
      rank := r, nrank := n, sregs := [], vregs := [], pc := BitVec.ofNat 64 (qEntry b p.va t.place r), wait := .none, halted := false, fault := none,
      lanes := [{}, {}], groupErr := [], barPhase := [], barSeen := [], guard := none, seg := t.seg, qos := t.qos, needZero := false, dropped := [],
      lastProg := some (t.prog, t.place), ran := 0, charged := s.count (coreIsland c) }
    let run := match core1.running with | some o => some o | none => some k
    s.setCore c { core1 with slots := tput k (y.setSr 1 t.arg) core1.slots, running := run, lastRet := s.hubCount, retAt := s.count (coreIsland c) }

/-- The program of a context. -/
def State.program? (s : State) (ctx prog : Nat) : Option Program := (s.ctx? ctx).bind (fun y => tget prog y.programs)

/-- The deadline of an activation released now (R521): the period of an admission. -/
def State.deadlineFrom (s : State) (y : Context) : Option Nat := y.admitted.map (fun a => s.hubCount + 1000 * a.1)

/-- The activation starts on every core of the folio (R485); `queue` the launch's, `entry` the cyclic entry's. -/
def State.activate (s : State) (t : Start) (p : Program) (queue entry : Option Nat) : State :=
  let f := s.ctxFolio t.ctx
  let cores := s.rankCores f
  let s1 := (foldS cores s (fun st c => st.takeSlot c t.ctx (qSpWays p.image) (qAccWays p.image))).takeEntry t.ctx
  let s2 := { s1 with bars := tfilter (fun _ (m : BarMsg) => m.ctx != t.ctx) s1.bars }
  let s3 := foldS cores.zipIdx s2 (fun st e => st.startRank t p cores.length e.1 e.2)
  s3.modCtx t.ctx (fun y => { y with
    act := some { queue, prog := t.prog, placement := t.place, cores, release := s.hubCount, deadline := s.deadlineFrom y, entry }
    far := false, acct := { y.acct with launches := y.acct.launches + 1 } })

/-- Has every resource an activation needs (R505, R655, R656): no activation of the context, its folio's epoch in force, its
regions up, slots and ways, a resident entry? -/
def State.canActivate (s : State) (ctx : Nat) (p : Program) : Bool :=
  let f := s.ctxFolio ctx
  (match s.ctx? ctx with | some y => y.act.isNone && y.suspended.isNone && y.held.isNone | none => false) &&
  (s.folio f).epochPend.isEmpty && (s.rankCores f).all (fun c => !s.down (coreIsland c) && s.fits c ctx (qSpWays p.image) (qAccWays p.image)) &&
  s.entryFree ctx

/-! ## LAUNCH, LAUNCH_START, ACTIVATION_COMPLETE -/

/-- The program and placement that a launch names, or the status that ends it. -/
def State.resolve (s : State) (ctx prog : Nat) : Except (Nat × Nat) (Program × Nat) :=
  if 63 < prog then .error (2, 0x28)
  else
    match s.program? ctx prog with
    | none => .error (4, 0)
    | some p =>
      match qPlacement p.image (s.rankCores (s.ctxFolio ctx)).length with
      | none => .error (0x0C, 0)
      | some i => .ok (p, i)

/-- LAUNCH (R484, R485, R505): checked, and waiting for what it lacks; idle contexts make way. -/
def execLaunch (queue : Nat) (s : State) : Host.Outcome State Fault Refusal :=
  match s.front queue 0x02 with
  | none => stay s
  | some (x, c) =>
    match s.resolve x.ctx (c.arg 0x28 2) with
    | .error (st, dt) => .next (s.cmdDone queue st dt)
    | .ok (p, _) => .next ((s.makeWay x.ctx (qSpWays p.image) (qAccWays p.image)).setPhase queue .held)

/-- The waiting launch of a queue, with its program and placement. -/
def State.waitingLaunch (s : State) (q : Nat) : Option (Queue × Cmd) :=
  match s.queue? q with
  | some x => (match x.cmds with | c :: _ => if x.phase = .held ∧ c.op = 0x02 then some (x, c) else none | [] => none)
  | none => none

/-- May a waiting launch start as far as its resources go? -/
def State.launchable (s : State) (q : Nat) : Bool :=
  match s.waitingLaunch q with
  | none => false
  | some (x, c) => (match s.resolve x.ctx (c.arg 0x28 2) with
    | .ok (p, _) => s.canActivate x.ctx p
    | .error _ => false)

/-- The order of waiting launches: real time first, then by the start of their queue wait (R507). -/
def State.launchKey (s : State) (q : Nat) : Nat × Nat :=
  match s.queue? q with
  | some x => (if (match s.ctx? x.ctx with | some y => y.rt | none => false) then 0 else 1, x.qwaitFrom)
  | none => (2, 0)

/-- Does another launch that could start stand before this one? -/
def State.outranked (s : State) (q : Nat) : Bool :=
  s.queues.any (fun o => o.1 != q && s.launchable o.1 &&
    (decide ((s.launchKey o.1).1 < (s.launchKey q).1) ||
     ((s.launchKey o.1).1 == (s.launchKey q).1 && decide ((s.launchKey o.1).2 < (s.launchKey q).2))))

/-- LAUNCH_START (R485, R507, R526, R655, R656). -/
def execLaunchStart (queue : Nat) (s : State) : Host.Outcome State Fault Refusal :=
  match s.waitingLaunch queue with
  | none => stay s
  | some (x, c) =>
    if s.cyclic.mode ∨ s.standby.isSome then stay s
    else
      match s.resolve x.ctx (c.arg 0x28 2) with
      | .error (st, dt) => .next (s.cmdDone queue st dt)
      | .ok (p, i) =>
        let s1 := s.makeWay x.ctx (qSpWays p.image) (qAccWays p.image)
        if s1.canActivate x.ctx p ∧ ¬ s1.outranked queue then
          .next (((s1.endQwait queue x).activate
            { ctx := x.ctx, prog := c.arg 0x28 2, place := i, seg := c.arg 0x2A 2, arg := BitVec.ofNat 64 (c.arg 0x30 8), qos := c.qos }
            p (some queue) none).setPhase queue (.running 0))
        else .next s1

/-- The slots of a context on core slices that its folio no longer owns (R422 step 4). -/
def State.departingSlots (s : State) (ctx : Nat) : List (Nat × Nat × Slot) :=
  (s.slotsOf ctx).filter (fun x => let e := s.coreSlice (s.sliceOf x.1); !(e.st == .owned && e.owner == s.ctxFolio ctx))

/-- An idle context leaves those slots; its TLB entries on the cluster go. -/
def State.leaveDeparting (s : State) (ctx : Nat) : State :=
  if s.idleCtx ctx then
    foldS (s.departingSlots ctx) s (fun st x =>
      let st1 := st.leaveSlot x.1 x.2.1
      st1.setCore x.1 { st1.core x.1 with tlb := (st1.core x.1).tlb.filter (fun e => e.ctx != ctx) })
  else s

/-- ACTIVATION_COMPLETE (R480, R655): every rank has reached HALT, with all it waits for (R236). -/
def execActivationComplete (ctx : Nat) (s : State) : Host.Outcome State Fault Refusal :=
  match s.ctx? ctx with
  | none => stay s
  | some y =>
    match y.act with
    | none => stay s
    | some a =>
      if ¬ (s.slotsOf ctx).all (fun x => x.2.2.halted && x.2.2.fault.isNone) ∨ s.ctxStopped ctx then stay s
      else
        let s1 := s.setCtx ctx { y with act := none, idleSince := s.hubCount }
        let s2 := match a.queue with | some q => s1.cmdDone q 0 0 | none => s1
        let s3 := match a.entry with | some i => s2.entryEnded i | none => s2
        .next (s3.leaveDeparting ctx)

end Sys2Proof.Machine
end

