-- ==== Sys2Proof/Machine/Sched.lean ====
section
/-! DEFINITION. Sys2Proof/Machine/Sched.lean: which context a core runs, faults and their hold, accounting, real-time admission (16 R504-R523; 19 R592, R593). -/

namespace Sys2Proof.Machine

/-! ## Context faults (R593) -/

/-- Is a fault of the slot still to wait: for the load or AMO it stands in (R239, R240), for an earlier RQ (R238)? -/
def State.faultWaits (s : State) (c k : Nat) (x : Slot) : Bool :=
  x.wait.midway || (s.core c).mq.any (fun o => o.slot == k && major o.w != 0x20)

/-- CTX_FAULT (R592, R593): earlier matrix work completes (R238); the record; the context stops everywhere and is held; the core turns to
another. -/
def execCtxFault (core slot : Nat) (s : State) : Host.Outcome State Fault Refusal :=
  match s.slot? core slot with
  | none => stay s
  | some x =>
    match x.fault with
    | none => stay s
    | some f =>
      if s.faultWaits core slot x then stay s
      else
      let s1 := ((s.matDrain core slot (s.core core).mq.length).chargeAll x.ctx).ctxFaultRecord x.ctx (coreIsland core) (some core) f
      let s2 := (s1.modSlot core slot (fun y => { y with fault := none })).modCtx x.ctx
        (fun y => { y with held := match y.held with | some t => some t | none => some s.hubCount })
      .next (if (s.core core).running = some slot then s2.choose core (some slot) else s2)

/-- FAULT_HOLD_EXPIRY (R593): after HOLD_US the context is reset, and its running command ends FAULTED. -/
def execFaultHoldExpiry (ctx : Nat) (s : State) : Host.Outcome State Fault Refusal :=
  match (s.ctx? ctx).bind (fun y => y.held) with
  | none => stay s
  | some t => if s.hubCount < t + 1000 * s.holdUs then stay s else .next (s.ctxResetFree ctx 0x10)

/-! ## Switches (R510-R515) -/

/-- Does a core's running slot hold a stream that could go on? -/
def State.runningLive (s : State) (c : Nat) : Bool :=
  match (s.core c).running with
  | none => false
  | some k => (match s.slot? c k with
    | none => false
    | some x => !x.halted && x.fault.isNone && !s.ctxStopped x.ctx)

/-- Tile-DMA bursts of a slot outstanding. -/
def State.slotBursts (s : State) (c k : Nat) : Nat :=
  (s.reqs.filter (fun r => match r.2.issuer with | .burst c' k' _ _ => c' == c && k' == k && !r.2.squashed | _ => false)).length

/-- Core cycles of a switch away from a slot (R512); no accumulator row and no vector operation is pending between the model's
commands. -/
def State.switchCost (s : State) (c : Nat) : Nat :=
  match (s.core c).running with
  | some k => if (s.slot? c k).isSome then 36 + 4 * s.slotBursts c k else 0
  | none => 0

/-- A switch away while the context was ready counts in PREEMPT (R514). -/
def State.countPreempt (s : State) (c : Nat) : State :=
  match (s.core c).running with
  | none => s
  | some k => (match s.slot? c k with
    | none => s
    | some x => if s.ready c k x then s.modCtx x.ctx (fun y => { y with acct := { y.acct with preempt := satAdd (2 ^ 32 - 1) y.acct.preempt 1 } }) else s)

/-- The matrix work of the running slot comes to its switch point (R240). -/
def State.stopUnits (s : State) (c : Nat) : State :=
  match (s.core c).running with
  | none => s
  | some k => (match s.slot? c k with
    | some x => if s.ctxStopped x.ctx then s else s.matStop c k
    | none => s)

/-- The core runs slot `k` from now on: every unit of the outgoing context stands at its switch point (R240), the switch's cycles are charged
to the incoming one (R515), and what that one waits for is checked again. -/
def State.switchTo (s : State) (c k : Nat) : State :=
  let s1 := ((s.stopUnits c).charge c).countPreempt c
  match s1.slot? c k with
  | none => s1
  | some y =>
    let s2 := s1.chargeCycles c k { y with ran := 0, charged := s.count (coreIsland c) } (s.switchCost c)
    (s2.setCore c { s2.core c with running := some k, choice := none, lastRet := s.hubCount, retAt := s.count (coreIsland c) }).recheck c k

/-- The slot that a core will switch to: the chosen one while it is ready; where no stream of the running slot can go on, the
choice of rules 1 and 2 (R511). -/
def State.nextSlot (s : State) (c : Nat) : Option Nat :=
  match (s.core c).choice with
  | some k => (match s.slot? c k with | some x => if s.ready c k x then some k else none | none => none)
  | none => if s.runningLive c then none else s.pick c none

/-- CONTEXT_SWITCH (R510, R512, R515). -/
def execContextSwitch (core : Nat) (s : State) : Host.Outcome State Fault Refusal :=
  match s.nextSlot core with
  | some k =>
    if (s.core core).running = some k then .next (s.setCore core { s.core core with choice := none })
    else .next (s.switchTo core k)
  | none => .next (s.setCore core { s.core core with choice := none })

/-- The running slot of a core. -/
def State.runningSlot (s : State) (c : Nat) : Option (Nat × Slot) :=
  match (s.core c).running with | some k => (s.slot? c k).map (fun x => (k, x)) | none => none

/-- The ready slot of lowest vt other than the running one (rule 2). -/
def State.lowestVt (s : State) (c k : Nat) : Option (Nat × Slot) :=
  leastBy (fun x => (x.2.vt, x.1)) ((s.core c).slots.filter (fun x => s.ready c x.1 x.2 && x.1 != k))

/-- Is some ready slot of a core one of rule 1? -/
def State.rtReady (s : State) (c : Nat) : Bool := (s.core c).slots.any (fun x => s.ready c x.1 x.2 && (s.deadlineOf x.2.ctx).isSome)

/-- QUANTUM_EXPIRY (R511): after QUANTUM core cycles a ready context of lower vt is chosen by rule 2, which applies when rule 1
names none. -/
def execQuantumExpiry (core : Nat) (s : State) : Host.Outcome State Fault Refusal :=
  let s1 := s.charge core
  match s1.runningSlot core with
  | none => stay s
  | some (k, x) =>
    if x.ran < s.quantum ∨ s1.rtReady core then stay s
    else
      match s1.lowestVt core k with
      | some (j, y) => if y.vt < x.vt then .next (s1.setCore core { s1.core core with choice := some j }) else stay s
      | none => stay s

/-- WAIT_SW_EXPIRY (R511): the running context has waited WAIT_SW core cycles since it retired its last instruction, and another is ready. -/
def execWaitSwExpiry (core : Nat) (s : State) : Host.Outcome State Fault Refusal :=
  match s.runningSlot core with
  | none => stay s
  | some (k, x) => if s.ready core k x ∨ s.count (coreIsland core) < (s.core core).retAt + s.waitSw then stay s else .next (s.choose core (some k))

/-- RT_CONTEXT_READY (R511): it takes the core from a context that is not real time or has a later deadline. -/
def execRtContextReady (core slot : Nat) (s : State) : Host.Outcome State Fault Refusal :=
  match s.slot? core slot with
  | none => stay s
  | some x =>
    match s.deadlineOf x.ctx with
    | none => stay s
    | some d =>
      let beats : Bool := match s.runningSlot core with
        | some (k, r) => k != slot && (match s.deadlineOf r.ctx with | some e => decide (d < e) | none => true)
        | none => true
      if s.ready core slot x ∧ beats ∧ s.pick core none = some slot then .next (s.setCore core { s.core core with choice := some slot })
      else stay s

/-! ## Shares and accounting (R509, R514) -/

/-- A context id argument: BADARG beyond its range, NO_ID when it names nothing (R654). -/
def State.ctxArg (s : State) (c : Cmd) (o : Nat) : Option (Nat × Nat) :=
  if 4095 < c.arg o 2 then some (2, o) else if (s.ctx? (c.arg o 2)).isNone then some (4, 0) else none

/-- SHARE_SET (R509): cycles already run are charged at the old share. -/
def execShareSet (queue : Nat) (s : State) : Host.Outcome State Fault Refusal :=
  s.runCmd queue 0x50 (fun s1 _ c =>
    match s1.ctxArg c 0x28 with
    | some e => s1.cmdDone queue e.1 e.2
    | none => ((s1.chargeAll (c.arg 0x28 2)).modCtx (c.arg 0x28 2) (fun y => { y with share := c.arg 0x2C 4 })).cmdDone queue 0 0)

/-- The 64-byte accounting record (R514). -/
def acctRecord (ctx now : Nat) (y : Context) : Bytes :=
  let a := y.acct
  let since := match y.suspended with | some t => now - t | none => 0
  le 2 ctx ++ le 1 y.folio ++ le 1 (b2n y.resident.isSome + 2 * b2n y.suspended.isSome + 4 * b2n y.admitted.isSome) ++ le 4 y.share ++
  le 8 a.engineCycles ++ le 8 a.engineNs ++ le 8 a.matrixCycles ++ le 8 a.qwaitNs ++ le 4 a.preempt ++ le 4 a.launches ++
  le 8 (a.suspendNs + since) ++ le 4 a.rtMiss ++ le 4 0

/-- ACCT_READ (R504, R514). -/
def execAcctRead (queue : Nat) (s : State) : Host.Outcome State Fault Refusal :=
  s.runCmd queue 0x51 (fun s1 x c =>
    let ctx := c.arg 0x28 2
    if x.type ≠ .mgmt ∧ ctx ≠ x.ctx then s1.cmdDone queue 2 0x28
    else
      match s1.ctxArg c 0x28 with
      | some e => s1.cmdDone queue e.1 e.2
      | none =>
        let s2 := s1.chargeAll ctx
        match s2.ctx? ctx with
        | none => s2.cmdDone queue 4 0
        | some y => (match s2.hubWrite x.ctx (c.arg 0x30 8) (acctRecord ctx s2.hubCount y) with
          | (true, s3) => s3.cmdDone queue 0 0
          | (false, s3) => s3.cmdDone queue 0x11 0))

/-! ## Real-time admission (R517-R521) -/

/-- The WCET entry of a segment in a placement: CYCLES and BYTES (R191). -/
def qWcet (b : Bytes) (i seg : Nat) : Option (Nat × Nat) :=
  let first := fieldLe b (qPlaceAt b i + 8) 2
  let n := fieldLe b (qPlaceAt b i + 10) 2
  ((List.range n).find? (fun k => fieldLe b (qWcetAt b (first + k)) 2 == seg)).map (fun k =>
    (fieldLe b (qWcetAt b (first + k) + 4) 4, fieldLe b (qWcetAt b (first + k) + 8) 8))

/-- The sums of the named segments; none when one has no entry. -/
def qDemand (b : Bytes) (i first count : Nat) : Option (Nat × Nat) :=
  ((List.range count).mapM (fun k => qWcet b i (first + k))).map (fun l => ((l.map Prod.fst).sum, (l.map Prod.snd).sum))

/-- U_NEW of R519 in units of 10^-4: (cycles / f + bytes / bw) / period, rounded up, over one common denominator. -/
def uNew (cycles bytes mhz mems cores period : Nat) : Nat :=
  cdiv (cycles * 10000 * mems * 512 + bytes * cores * 25 * mhz) (mhz * mems * 512 * period)

/-- D in nanoseconds as a fraction (numerator, denominator). -/
def demandNs (cycles bytes mhz mems cores : Nat) : Nat × Nat :=
  (cycles * 1000 * mems * 1024 + bytes * cores * 5 * mhz, mhz * mems * 1024)

/-- Does a core hold fewer than two admitted contexts, and has it room for the quire (condition 4 of R518)? -/
def State.admitRoom (s : State) (ctx : Nat) (b : Bytes) (c : Nat) : Bool :=
  s.fits c ctx (qSpWays b) (qAccWays b) &&
  decide (((s.core c).slots.filter (fun x => x.2.ctx != ctx && (match s.ctx? x.2.ctx with | some y => y.admitted.isSome | none => false))).length < 2)

/-- The first of the conditions 1 to 4 of R518 that fails, or the sums of the segments. -/
def State.admitCheck (s : State) (ctx : Nat) (p : Program) (first count : Nat) : Except Nat (Nat × Nat) :=
  let f := s.ctxFolio ctx
  if ¬ (s.folio f).fixfreq then .error 1
  else
    match (qPlacement p.image (s.rankCores f).length).bind (fun i => qDemand p.image i first count) with
    | none => .error 2
    | some d =>
      if ¬ bit (fieldLe p.image 6 2) 1 then .error 2
      else if (s.settings ctx).act ≠ 0 ∧ qPromo p.image = 0 then .error 3
      else if ¬ (s.rankCores f).all (s.admitRoom ctx p.image) then .error 4
      else .ok d

/-- The 32-byte result of RT_ADMIT. -/
def admitResult (ok reason u total d : Nat) : Bytes := le 1 ok ++ le 1 reason ++ le 2 0 ++ le 4 u ++ le 4 total ++ le 4 d ++ zeros 16

/-- RT_ADMIT on a checked argument block: the result and the admission. Figures of a context that fails a condition before the
last, those of a folio with no memory slice, and the rounding of DEMAND_NS, are not given: free values (log 6). -/
def State.takeIn (s : State) (queue ctx : Nat) (p : Program) (first count period res : Nat) : State :=
  let f := s.ctxFolio ctx
  let fin : State → Bytes → State := fun st b => match st.hubWrite 0 res b with
    | (true, st1) => st1.cmdDone queue 0 0
    | (false, st1) => { s with free := st1.free }.cmdDone queue 0x11 0
  match s.admitCheck ctx p first count with
  | .error r => fin s.useFree (le 1 0 ++ le 1 r ++ le 2 0 ++ s.freeBytes 12 ++ zeros 16)
  | .ok (cyc, byt) =>
    let cycles := cyc + qPromo p.image + 840
    let mems := (s.folioMems f).length
    let mhz := (s.folio f).floorMhz
    let n := (s.rankCores f).length
    let u := if mems = 0 ∨ mhz = 0 then s.freeNat else uNew cycles byt mhz mems n period
    let total := u + ((s.ctxs.filter (fun y => y.2.folio == f)).map (fun y => match y.2.admitted with | some a => a.2 | none => 0)).sum
    let d := demandNs cycles byt mhz mems n
    let ns := d.1 / d.2 + (if d.1 % d.2 = 0 then 0 else s.freeNat % 2)
    if total ≤ s.rtCap then fin (s.useFree.modCtx ctx (fun y => { y with admitted := some (period, u) })) (admitResult 1 0 u total ns)
    else fin s.useFree (admitResult 0 5 u total ns)

/-- RT_ADMIT (R517-R519). -/
def execRtAdmit (queue : Nat) (s : State) : Host.Outcome State Fault Refusal :=
  s.runCmd queue 0x52 (fun s1 _ c => s1.withBlock queue c 64 (fun s2 b =>
    let ctx := fieldLe b 0 2
    let prog := fieldLe b 2 1
    let count := fieldLe b 6 2
    let period := fieldLe b 8 4
    if fieldLe b 3 1 ≠ 0 ∨ fieldLe b 0x0C 4 ≠ 0 ∨ fieldLe b 0x18 40 ≠ 0 then s2.cmdDone queue 1 0
    else if 4095 < ctx then s2.cmdDone queue 2 (inBlock 0)
    else
      match s2.ctx? ctx with
      | none => s2.cmdDone queue 4 0
      | some y =>
        if ¬ y.rt then s2.cmdDone queue 2 (inBlock 0)
        else if 63 < prog then s2.cmdDone queue 2 (inBlock 2)
        else
          match tget prog y.programs with
          | none => s2.cmdDone queue 4 0
          | some p =>
            if count = 0 ∨ 4096 < count then s2.cmdDone queue 2 (inBlock 6)
            else if period < 10 ∨ 1000000 < period then s2.cmdDone queue 2 (inBlock 8)
            else s2.takeIn queue ctx p (fieldLe b 4 2) count period (fieldLe b 0x10 8)))

/-- RT_RELEASE (R520). -/
def execRtRelease (queue : Nat) (s : State) : Host.Outcome State Fault Refusal :=
  s.runCmd queue 0x53 (fun s1 _ c =>
    match s1.ctxArg c 0x28 with
    | some e => s1.cmdDone queue e.1 e.2
    | none => (s1.modCtx (c.arg 0x28 2) (fun y => { y with admitted := none })).cmdDone queue 0 0)

/-- CAUSE of an RT_MISS (R523). Whether a promotion exceeded its allowance is a matter of cycles the model does not count: free
between 0 and 3 where the quire has an allowance (log 6). -/
def State.missCause (s : State) (ctx : Nat) (y : Context) (a : Activation) : Nat :=
  if y.suspended.isSome then 1
  else if a.slowed then 2
  else match s.program? ctx a.prog with
    | some p => if qPromo p.image ≠ 0 ∧ s.freeNat % 2 = 1 then 3 else 0
    | none => 0

/-- The segment a context executes: that of its lowest rank (R523). -/
def State.segOf (s : State) (ctx : Nat) : Nat := match s.slotsOf ctx with | x :: _ => x.2.2.seg | [] => 0xFFFF

/-- RT_MISS (R523). -/
def execRtMiss (ctx : Nat) (s : State) : Host.Outcome State Fault Refusal :=
  match s.ctx? ctx with
  | none => stay s
  | some y =>
    match y.act with
    | none => stay s
    | some a =>
      match a.deadline with
      | none => stay s
      | some d =>
        if s.hubCount < d ∨ a.missed ∨ (s.slotsOf ctx).all (fun x => x.2.2.halted) then stay s
        else
          let rb := s.record tyRtMiss y.folio 0 ctx 18
            (le 8 a.release ++ le 8 d ++ le 1 (s.missCause ctx y a) ++ le 1 0 ++ le 2 (s.segOf ctx))
          .next (((s.ringPut y.evring rb).useFree).modCtx ctx (fun z => { z with
            act := z.act.map (fun b => { b with missed := true }), acct := { z.acct with rtMiss := z.acct.rtMiss + 1 } }))

end Sys2Proof.Machine
end

