-- ==== Sys2Proof/Machine/Queues.lean ====
section
/-! DEFINITION. Sys2Proof/Machine/Queues.lean: doorbells, fetches and completions (15 R472-R483, R489-R496, R503), and the commands on programs, contexts, queues, rings and channels (15 R484, R488, R489; 03 R117; 04 R123, R131; 05 R185; 11 R370; 12 R382, R383). -/

namespace Sys2Proof.Machine

/-- A queue's write over the host link: its head word, with the class of the queue (R287). -/
def State.headWrite (s : State) (x : Queue) (d : Bytes) : State := (s.hostWrite x.headPa d).emit (.queueWrite x.qos x.headPa)

/-- The doorbell watch unit holds the line of a watched queue (R306). -/
def State.watchDoorbell (s : State) (x : Queue) : State := if x.watched then s.watchLine (lineOf x.dbPa) else s

/-! ## Doorbells (R472-R477) -/

/-- A doorbell line has been read: a changed TAIL or XSEQ is acted on (R475). -/
def State.seeDoorbell (s : State) (q : Nat) (x : Queue) (line : Bytes) : State :=
  s.setQueue q { x with snooped := false, tail := fieldLe line 0 4, xseqNew := fieldLe line 4 1,
                        xslot := if fieldLe line 4 1 ≠ x.xseq then Machine.slice line 8 56 else x.xslot }

/-- DOORBELL_SNOOP (R475): the host's write takes the watched line from the hub. While the link is down watched doorbells stop, and queues in
host memory make no progress (14, when events coincide). -/
def execDoorbellSnoop (queue : Nat) (line : Bytes) (s : State) : Host.Outcome State Fault Refusal :=
  match s.queue? queue with
  | none => stay s
  | some x =>
    if x.watched ∧ s.link.up ∧ s.link.cxl then .next (((s.dropLine (lineOf x.dbPa)).hostWrite x.dbPa (fit 64 line)).setQueue queue { x with snooped := true })
    else stay s

/-- DOORBELL_REFETCH (R475). -/
def execDoorbellRefetch (queue : Nat) (s : State) : Host.Outcome State Fault Refusal :=
  match s.queue? queue with
  | none => stay s
  | some x =>
    if x.watched ∧ x.snooped ∧ s.link.up ∧ s.link.cxl then .next ((s.watchDoorbell x).seeDoorbell queue x (s.curLine x.dbPa)) else stay s

/-- DOORBELL_POLL (R475): an unwatched line is read. -/
def execDoorbellPoll (queue : Nat) (s : State) : Host.Outcome State Fault Refusal :=
  match s.queue? queue with
  | none => stay s
  | some x => if x.watched ∨ x.dying ∨ ¬ s.link.up ∨ ¬ s.link.cxl then stay s else .next (s.seeDoorbell queue x (s.curLine x.dbPa))

/-- QUEUE_STOP (R477, R591). -/
def State.queueStop (s : State) (q : Nat) (x : Queue) : State :=
  (s.ringPut x.evring (s.record tyQueueStop (s.queueFolio x) 0 x.ctx 18 (le 2 q ++ le 1 x.log ++ le 1 0 ++ le 4 x.head ++ le 4 x.tail))).setQueue q
    { x with stopped := true }

/-- The ring entries from HEAD up to TAIL - 1 (R476). -/
def State.ringCmds (s : State) (x : Queue) (n : Nat) : List Cmd :=
  (List.range n).map (fun i =>
    let j := (x.head + i) % 2 ^ x.log
    { bytes := s.curBytes (x.ringPa + 64 * j) 64, index := some j, fetched := s.hubCount })

/-- COMMAND_FETCH (R473, R476, R477, R526): the entries below TAIL in order, then a new express descriptor; the head word. -/
def execCommandFetch (queue : Nat) (s : State) : Host.Outcome State Fault Refusal :=
  match s.queue? queue with
  | none => stay s
  | some x =>
    let n := (x.tail + 2 ^ 32 - x.head) % 2 ^ 32
    let fresh := decide (x.xseqNew ≠ x.xseq)
    if x.stopped ∨ x.dying ∨ ¬ s.link.up ∨ ¬ s.link.cxl ∨ (n = 0 ∧ ¬ fresh) ∨ (s.cyclic.mode ∧ queue ≠ 0) then stay s
    else if 2 ^ x.log < n then .next (s.queueStop queue x)
    else
      let l := s.ringCmds x n ++ (if fresh then [{ bytes := fit 64 x.xslot, index := none, fetched := s.hubCount }] else [])
      let s1 := s.setQueue queue { x with head := x.tail, xseq := x.xseqNew }
      .next ((s1.headWrite x (le 4 x.tail ++ le 1 x.xseqNew ++ zeros 3)).enqueue queue l)

/-- COMMAND_WAIT_SATISFIED (R481): the word is read again; an unreachable one ends the command BUSERR. -/
def execCommandWaitSatisfied (queue : Nat) (s : State) : Host.Outcome State Fault Refusal :=
  match s.queue? queue with
  | none => stay s
  | some x =>
    match x.phase, x.cmds with
    | .waiting, c :: _ =>
      let va := fieldLe c.bytes 8 8
      let f := s.queueFolio x
      if s.cmdHeld x c then stay s
      else (match s.hubXlate x.ctx va 0 with
       | (.pa a _, s1) =>
         (match s1.readLine x.ctx f a 4 with
          | (.ok, b, s2) =>
            if satisfies (BitVec.ofNat 32 (unle b)) (BitVec.ofNat 32 (fieldLe c.bytes 0x10 4)) then
              .next ((s2.dropWatch (.command queue)).modQueue queue (fun y => { y with phase := .waitDone, qwaitFrom := s.hubCount }))
            else .next s2
          | (_, _, s2) => .next ((s2.dropWatch (.command queue)).cmdDone queue 0x11 0))
       | (.fault sub lvl, s1) => .next (((s1.dropWatch (.command queue)).xltRecord 18 x.ctx va 0 sub 0 6 lvl 0 (zeros 4)).cmdDone queue 0x11 0)
       | (.hole, s1) => .next ((s1.dropWatch (.command queue)).cmdDone queue 0x11 0))
    | _, _ => stay s

/-! ## Completion (R480-R483) -/

/-- A channel passes to another folio (12, when events coincide): the stopped descriptor and the rest of its list end SKIPPED. -/
def State.skipList (s : State) (ch : Nat) : (fuel : Nat) → State
  | 0 => s
  | fuel + 1 =>
    let c := s.chan ch
    if c.count ≤ c.index ∨ c.st = .idle then s
    else if c.desc ≠ [] then State.skipList (s.cpySkip ch) ch fuel
    else
      match s.cpyRead ch c.descVa with
      | .ok (b, s1) => State.skipList ((s1.setChan ch { s1.chan ch with desc := b, done := 0, first := none, mismatches := 0 }).cpySkip ch) ch fuel
      | .error (_, _, s1) => State.skipList ((s1.setChan ch { s1.chan ch with desc := zeros 128, done := 0 }).cpySkip ch) ch fuel

/-- May a channel pass: IDLE, or stopped (12)? -/
def Chan.passable (c : Chan) : Bool := c.st == .idle || c.st == .stopBad || c.st == .stopFault

/-- The channel belongs to folio `f`; its old queue's COPY commands end BADSTATE. -/
def State.passChan (s : State) (ch f : Nat) : State :=
  let c := s.chan ch
  let s1 := s.skipList ch (2 * c.count + 2)
  let s2 := match c.queue with
    | some q => (if c.st = ChSt.idle then s1 else s1.cmdDone q 5 0).modQueue q (fun x => { x with passed := true })
    | none => s1
  s2.setChan ch { s2.chan ch with folio := f, queue := none, st := .idle, count := 0, index := 0, desc := [] }

/-- No request of a context is on its way any more (R469). -/
def State.ctxQuiet (s : State) (ctx : Nat) : Bool :=
  s.reqs.all (fun r => r.2.ctx != ctx) && s.offers.all (fun o => o.2.ctx != ctx) && s.updates.all (fun u => u.2.ctx != ctx) &&
  s.sifts.all (fun q => q.2.ctx != ctx)

/-- Has every request to a frame that passed its home's check completed (R379)? -/
def State.frameQuiet (s : State) (f : Nat) : Bool :=
  s.homes.all (fun h => h.2.txns.all (fun t => t.1 / 2 ^ 25 != f)) && s.reqs.all (fun r => !(r.2.sent && r.2.pa / 2 ^ 25 == f))

/-- A running command that waits for something seen in the state: when it has come about, the state with the command's last
effect (R131, R382, R469, QUEUE_DESTROY). -/
def State.runningDone (s : State) (q : Nat) (x : Queue) (c : Cmd) : Option State :=
  match c.op with
  | 0x04 => if s.updates.all (fun u => u.2.ctx != x.ctx) then some s else none
  | 0x11 => if s.ctxQuiet (c.arg 0x28 2) then some (s.killCtx (c.arg 0x28 2) q x.evring c.op) else none
  | 0x19 =>
    (match s.queue? (c.arg 0x28 2) with
     | none => some s
     | some y =>
       if y.cmds = [] then
         (let s1 := if y.type = .copy ∧ ¬ y.passed then s.setChan y.chan { s.chan y.chan with queue := none } else s
          some { s1 with queues := tdel (c.arg 0x28 2) s1.queues })
       else none)
  | 0x28 =>
    if x.phase = .running 0 ∧ s.frameQuiet (c.arg 0x28 2) then some s else none
  | 0x29 =>
    let ch := 16 * c.arg 0x28 1 + c.arg 0x29 1
    if (s.chan ch).folio = c.arg 0x2A 1 then some s
    else if (s.chan ch).passable then some (s.passChan ch (c.arg 0x2A 1)) else none
  | _ => none

/-- COMMAND_COMPLETE (R480-R483, R493, R494): status and record, offer, references, and the next command. -/
def execCommandComplete (queue : Nat) (s : State) : Host.Outcome State Fault Refusal :=
  match s.queue? queue with
  | none => stay s
  | some x =>
    match x.cmds, x.phase with
    | c :: _, .done st dt => .next ((s.endCmd queue x c x.refs st dt).popCmd queue)
    | c :: _, .running _ =>
      (match s.runningDone queue x c with
       | some s1 => .next ((s1.endCmd queue x c x.refs 0 0).popCmd queue)
       | none => stay s)
    | _, _ => stay s

/-- REF_COUNT_SUBTRACT (R493, R495, R496): behind the command's offers; the old value 1, or a host error, is reported. -/
def execRefCountSubtract (sub : Nat) (hostError : Bool) (s : State) : Host.Outcome State Fault Refusal :=
  match tget sub s.refSubs with
  | none => stay s
  | some r =>
    if s.offers.any (fun o => o.2.issuer == .command r.queue && decide (o.1 < r.after)) then stay s
    else
      let s0 := { s with refSubs := tdel sub s.refSubs }
      let rec1 := fun (op : Nat) => s.record tyRefRelease 0x3F 0 0xFFFF 18
        (le 8 r.count ++ s.curBytes (r.pa + 8) 8 ++ le 2 (if besideBase ≤ r.queue then 0 else r.queue) ++ le 1 op)
      if hostError ∨ ¬ s.link.up ∨ ¬ s.link.cxl then .next (s0.ringPut r.evring (rec1 0xFF))
      else
        let s1 := s0.countAdd r.pa (2 ^ 64 - 1)
        .next (if s.countAt r.pa = 1 then s1.ringPut r.evring (rec1 r.opcode) else s1)

/-! ## Commands of every queue -/

/-- NOP (R484). -/
def execNop (queue : Nat) (s : State) : Host.Outcome State Fault Refusal := s.runCmd queue 0x00 (fun s1 _ _ => s1.cmdDone queue 0 0)

/-- SIGNAL (R484): as NOP. -/
def execSignal (queue : Nat) (s : State) : Host.Outcome State Fault Refusal := s.runCmd queue 0x01 (fun s1 _ _ => s1.cmdDone queue 0 0)

/-- COPY (R383, R484): the list goes to the queue's channel; a passed channel ends it BADSTATE. -/
def execCopy (queue : Nat) (s : State) : Host.Outcome State Fault Refusal :=
  match s.front queue 0x03 with
  | none => stay s
  | some (x, c) =>
    let s1 := s.endQwait queue x
    let n := c.arg 0x30 4
    if x.passed then .next (s1.cmdDone queue 5 0)
    else if c.arg 0x28 8 % 128 ≠ 0 then .next (s1.cmdDone queue 2 0x28)
    else if n = 0 ∨ 65536 < n then .next (s1.cmdDone queue 2 0x30)
    else if (s.chan x.chan).st ≠ .idle then stay s
    else if ¬ s.fabricUp (x.chan / 64) then .next (s1.cmdDone queue 0x0F 0)
    else
      let ch : Chan := { s1.chan x.chan with st := .run, list := c.arg 0x28 8, count := n, index := 0, desc := [], status := 0, detail := 0, ending := false,
                                              far := false }
      .next ((s1.setChan x.chan { ch with failOff := none }).setPhase queue (.running 0))

/-- SIEVE_FLUSH (R131): every core that holds the context flushes. -/
def execSieveFlush (queue : Nat) (s : State) : Host.Outcome State Fault Refusal :=
  s.runCmd queue 0x04 (fun s1 x _ => (foldS (s1.slotsOf x.ctx) s1 (fun st y => st.flushSlot y.1 y.2.1)).setPhase queue (.running 0))

/-- SAFE_SET (R123): the settings are read again; unreadable ones stand as they were. Context 0 has no block. -/
def execSafeSet (queue : Nat) (s : State) : Host.Outcome State Fault Refusal :=
  s.runCmd queue 0x05 (fun s1 x _ =>
    if x.ctx = 0 then s1.cmdDone queue 0 0
    else
      match s1.ctx? x.ctx with
      | none => s1.cmdDone queue 4 0
      | some y => (match s1.hubRead x.ctx y.safeVa 64 with
        | (some b, s2) => (s2.modCtx x.ctx (fun z => { z with set := settingsOf b })).cmdDone queue 0 0
        | (none, s2) => s2.cmdDone queue 0x11 0))

/-- RESEED (R117). -/
def execReseed (queue : Nat) (s : State) : Host.Outcome State Fault Refusal :=
  s.runCmd queue 0x06 (fun s1 x c => (s1.modCtx x.ctx (fun y => { y with seed := BitVec.ofNat 64 (c.arg 0x28 8) })).cmdDone queue 0 0)

/-! ## Programs (R185-R194) -/

/-- HUB_REV as MIN_REV counts it (R186). -/
def State.hubRev (s : State) : Nat := s.readReg rHubRev % 2 ^ 32

/-- PROG_LOAD (R185-R194): the header, then the whole image, are read and checked; a confidential folio's quire must verify. -/
def execProgLoad (queue : Nat) (s : State) : Host.Outcome State Fault Refusal :=
  s.runCmd queue 0x07 (fun s1 x c =>
    let p := c.arg 0x28 2
    let va := c.arg 0x30 8
    let f := s1.ctxFolio x.ctx
    if 63 < p then s1.cmdDone queue 2 0x28
    else if (s1.program? x.ctx p).isSome then s1.cmdDone queue 4 0
    else
      match s1.hubRead x.ctx va 128 with
      | (none, s2) => s2.cmdDone queue 0x11 0
      | (some h, s2) =>
        if ¬ qHeaderOk h s2.hubRev then s2.cmdDone queue 0x0D 0
        else
          match s2.hubRead x.ctx va (qTotal h) with
          | (none, s3) => s3.cmdDone queue 0x11 0
          | (some b, s3) =>
            if ¬ quireOk b s3.hubRev ∨ (s3.isConf f ∧ ¬ signatureOk b (s3.folio f).qkeys) then s3.cmdDone queue 0x0D 0
            else (s3.modCtx x.ctx (fun y => { y with programs := tput p { va, image := b } y.programs })).cmdDone queue 0 0)

/-- A slot no longer holds the copies of a program that is unloaded: another may be loaded under its id (R190, R486). -/
def Slot.forget (x : Slot) (p : Nat) : Slot := { x with lastProg := x.lastProg.filter (fun l => l.1 != p) }

/-- PROG_UNLOAD (R484): BADSTATE while a launch of it runs. -/
def execProgUnload (queue : Nat) (s : State) : Host.Outcome State Fault Refusal :=
  s.runCmd queue 0x08 (fun s1 x c =>
    let p := c.arg 0x28 2
    let busy : Bool := match (s1.ctx? x.ctx).bind (fun y => y.act) with | some a => a.prog == p | none => false
    if 63 < p then s1.cmdDone queue 2 0x28
    else if (s1.program? x.ctx p).isNone then s1.cmdDone queue 4 0
    else if busy then s1.cmdDone queue 5 0
    else ((foldS (s1.slotsOf x.ctx) s1 (fun st y => st.modSlot y.1 y.2.1 (fun z => z.forget p))).modCtx x.ctx
      (fun y => { y with programs := tdel p y.programs })).cmdDone queue 0 0)

/-! ## Contexts (R488, R469, R600, R370) -/

/-- Is a root admissible (R352)? -/
def State.rootOk (s : State) (root : Nat) : Bool :=
  root % 32768 == 0 && decide (root < 2 ^ 39) &&
  (match s.server (root / 2 ^ 33) with
   | some m => frOwner (s.frame m (root / 2 ^ 25 % 256)) == 0 && !frNoown (s.frame m (root / 2 ^ 25 % 256))
   | none => false)

/-- Is a folio one that a command may use: VALID and not GUEST (R482)? -/
def State.folioUsable (s : State) (f : Nat) : Bool := (s.folio f).valid && !(s.folio f).guest

/-- The event ring of a context: of its folio (R488); folio 0's is ring 0 or one created for it. -/
def State.ringOf (s : State) (r f : Nat) : Option Nat :=
  if 1023 < r then some 2
  else if r = 0 then (if f = 0 then none else some 2)
  else match tget r s.evrings with
    | none => some 4
    | some e => if e.folio = f then none else some 2

/-- CTX_CREATE on its checked block: the safeguard settings are read through the new context's own tables (R123). -/
def State.createCtx (s : State) (queue ctx : Nat) (y : Context) : State :=
  let s1 := s.setCtx ctx y
  match s1.hubRead ctx y.safeVa 64 with
  | (some b, s2) => (s2.setCtx ctx { y with set := settingsOf b }).cmdDone queue 0 0
  | (none, s2) => ({ s2.dropXlate ctx with ctxs := tdel ctx s2.ctxs }).cmdDone queue 0x11 0

/-- CTX_CREATE (R488). -/
def execCtxCreate (queue : Nat) (s : State) : Host.Outcome State Fault Refusal :=
  s.runCmd queue 0x10 (fun s1 _ c => s1.withBlock queue c 64 (fun s2 b =>
    let ctx := fieldLe b 0 2
    let f := fieldLe b 2 1
    if 2 ≤ fieldLe b 3 1 ∨ fieldLe b 0x22 30 ≠ 0 then s2.cmdDone queue 1 0
    else if ctx = 0 ∨ 4095 < ctx then s2.cmdDone queue 2 (inBlock 0)
    else if s2.ctxInUse ctx then s2.cmdDone queue 4 0
    else if 63 < f then s2.cmdDone queue 2 (inBlock 2)
    else if ¬ s2.folioUsable f then s2.cmdDone queue 3 0
    else if ¬ s2.rootOk (fieldLe b 8 8) then s2.cmdDone queue 2 (inBlock 8)
    else if fieldLe b 0x18 8 % 64 ≠ 0 then s2.cmdDone queue 2 (inBlock 0x18)
    else
      match s2.ringOf (fieldLe b 0x20 2) f with
      | some e => s2.cmdDone queue e (if e = 2 then inBlock 0x20 else 0)
      | none => s2.createCtx queue ctx
          { folio := f, rt := bit (fieldLe b 3 1) 0, share := fieldLe b 4 4, root := fieldLe b 8 8, seed := BitVec.ofNat 64 (fieldLe b 0x10 8),
            safeVa := fieldLe b 0x18 8, evring := fieldLe b 0x20 2, idleSince := s2.hubCount }))

/-- A context id argument of a command that context 0 never serves (R468). -/
def State.ctxArg1 (s : State) (c : Cmd) : Option (Nat × Nat) := if c.arg 0x28 2 = 0 then some (2, 0x28) else s.ctxArg c 0x28

/-- CTX_DESTROY (R469): BADSTATE while a queue is bound or the context is resident; it completes once nothing of the context is
on its way. -/
def execCtxDestroy (queue : Nat) (s : State) : Host.Outcome State Fault Refusal :=
  s.runCmd queue 0x11 (fun s1 _ c =>
    let ctx := c.arg 0x28 2
    match s1.ctxArg1 c with
    | some e => s1.cmdDone queue e.1 e.2
    | none =>
      if s1.queuesOf ctx ≠ [] ∨ ((s1.ctx? ctx).bind (fun y => y.resident)).isSome then s1.cmdDone queue 5 0
      else s1.setPhase queue (.running 0))

/-- CTX_RESET (R600). -/
def execCtxReset (queue : Nat) (s : State) : Host.Outcome State Fault Refusal :=
  s.runCmd queue 0x12 (fun s1 _ c =>
    match s1.ctxArg1 c with
    | some e => s1.cmdDone queue e.1 e.2
    | none => (s1.ctxReset (c.arg 0x28 2) 0x0F 0).cmdDone queue 0 0)

/-- The context runs again (R370, R525). -/
def Context.resumed (y : Context) (now : Nat) : Context :=
  { y with
    acct := { y.acct with suspendNs := y.acct.suspendNs + (match y.suspended with | some t => now - t | none => 0) }
    suspended := none }

/-- A resumed slot tries its instruction again; a faulted script lane walks again at its entry (R174, R180). -/
def Slot.resumed (x : Slot) : Slot := { x with lanes := x.lanes.map (fun l => { l with faulted := false }) }

/-- RESUME (R370). -/
def execResume (queue : Nat) (s : State) : Host.Outcome State Fault Refusal :=
  s.runCmd queue 0x13 (fun s1 _ c =>
    let ctx := c.arg 0x28 2
    match s1.ctxArg c 0x28 with
    | some e => s1.cmdDone queue e.1 e.2
    | none =>
      let s2 := (s1.chargeAll ctx).modCtx ctx (fun y => y.resumed s1.hubCount)
      ((foldS (s2.slotsOf ctx) s2 (fun st x => st.modSlot x.1 x.2.1 Slot.resumed)).recheckCtx ctx).cmdDone queue 0 0)

/-! ## Queues and rings (R489) -/

/-- Does an address lie in host memory (R348)? -/
def inHost (pa n : Nat) : Bool := decide (hostBase ≤ pa ∧ pa + n ≤ 2 ^ 46)

/-- The checks of a QUEUE_CREATE block, in the order of its fields: status and DETAIL of the first that fails. -/
def State.queueBad (s : State) (b : Bytes) : Option (Nat × Nat) :=
  let id := fieldLe b 0 2
  let ty := fieldLe b 2 1
  let ctx := fieldLe b 4 2
  let log := fieldLe b 6 1
  let ring := fieldLe b 8 8
  let db := fieldLe b 0x10 8
  let head := fieldLe b 0x18 8
  let ev := fieldLe b 0x20 2
  let ch := fieldLe b 0x22 1
  if 2 ≤ fieldLe b 3 1 ∨ 8 ≤ fieldLe b 7 1 ∨ fieldLe b 0x23 29 ≠ 0 ∨ (ty = 1 ∧ ch ≠ 0) then some (1, 0)
  else if id = 0 ∨ 16383 < id then some (2, inBlock 0)
  else if (s.queue? id).isSome then some (4, 0)
  else if ty ≠ 1 ∧ ty ≠ 2 then some (2, inBlock 2)
  else if 4095 < ctx then some (2, inBlock 4)
  else if ¬ s.ctxInUse ctx then some (4, 0)
  else if ¬ s.folioUsable (s.ctxFolio ctx) then some (3, 0)
  else if log < 6 ∨ 16 < log then some (2, inBlock 6)
  else if ¬ inHost ring (64 * 2 ^ log) ∨ ring % (64 * 2 ^ log) ≠ 0 then some (2, inBlock 8)
  else if ¬ inHost db 64 ∨ db % 64 ≠ 0 then some (2, inBlock 0x10)
  else if ¬ inHost head 8 ∨ head % 8 ≠ 0 ∨ (db ≤ head ∧ head < db + 64) then some (2, inBlock 0x18)
  else if 1023 < ev then some (2, inBlock 0x20)
  else if ev ≠ 0 ∧ (tget ev s.evrings).isNone then some (4, 0)
  else if ty = 2 ∧ (128 ≤ ch ∨ (s.chan ch).folio ≠ s.ctxFolio ctx) then some (2, inBlock 0x22)
  else if ty = 2 ∧ (s.chan ch).queue.isSome then some (5, 0)
  else if bit (fieldLe b 3 1) 0 ∧ (768 ≤ s.watchedQueues ∨ 1024 ≤ s.watchLines) then some (0x0E, 0)
  else none

/-- QUEUE_CREATE (R475, R489): the head word is written 0. -/
def execQueueCreate (queue : Nat) (s : State) : Host.Outcome State Fault Refusal :=
  s.runCmd queue 0x18 (fun s1 _ c => s1.withBlock queue c 64 (fun s2 b =>
    match s2.queueBad b with
    | some e => s2.cmdDone queue e.1 e.2
    | none =>
      let id := fieldLe b 0 2
      let copy := decide (fieldLe b 2 1 = 2)
      let ch := fieldLe b 0x22 1
      let x : Queue := { type := if copy then .copy else .compute, ctx := fieldLe b 4 2, log := fieldLe b 6 1, qos := fieldLe b 7 1,
                         ringPa := fieldLe b 8 8, dbPa := fieldLe b 0x10 8, headPa := fieldLe b 0x18 8, evring := fieldLe b 0x20 2,
                         chan := ch, watched := bit (fieldLe b 3 1) 0 }
      let s3 := ((s2.setQueue id x).headWrite x (zeros 8)).watchDoorbell x
      (if copy then s3.setChan ch { s3.chan ch with queue := some id } else s3).cmdDone queue 0 0))

/-- QUEUE_DESTROY (15, when events coincide): no more fetches; commands not started end ABORTED; the running one completes. -/
def execQueueDestroy (queue : Nat) (s : State) : Host.Outcome State Fault Refusal :=
  s.runCmd queue 0x19 (fun s1 _ c =>
    let id := c.arg 0x28 2
    if id = 0 ∨ 16383 < id then s1.cmdDone queue 2 0x28
    else if (s1.queue? id).isNone then s1.cmdDone queue 4 0
    else ((s1.modQueue id (fun x => { x with dying := true, watched := false, snooped := false })).abortWaiting id).setPhase queue (.running 0))

/-- EVRING_CREATE (R489). -/
def execEvringCreate (queue : Nat) (s : State) : Host.Outcome State Fault Refusal :=
  s.runCmd queue 0x1A (fun s1 _ c => s1.withBlock queue c 64 (fun s2 b =>
    let id := fieldLe b 0 2
    let log := fieldLe b 2 1
    let f := fieldLe b 3 1
    let v := fieldLe b 4 2
    let base := fieldLe b 8 8
    if fieldLe b 6 2 ≠ 0 ∨ fieldLe b 0x10 48 ≠ 0 then s2.cmdDone queue 1 0
    else if id = 0 ∨ 1023 < id then s2.cmdDone queue 2 (inBlock 0)
    else if (tget id s2.evrings).isSome then s2.cmdDone queue 4 0
    else if log < 4 ∨ 16 < log then s2.cmdDone queue 2 (inBlock 2)
    else if 63 < f then s2.cmdDone queue 2 (inBlock 3)
    else if ¬ (s2.folio f).valid then s2.cmdDone queue 3 0
    else if (if f = 0 then 256 else 32) ≤ v then s2.cmdDone queue 2 (inBlock 4)
    else if ¬ inHost base (64 * 2 ^ log + 128) ∨ base % 4096 ≠ 0 then s2.cmdDone queue 2 (inBlock 8)
    else ({ s2 with evrings := tput id { folio := f, vector := v, log, base } s2.evrings }).cmdDone queue 0 0))

/-- EVRING_DESTROY (R484): BADSTATE while a queue, a context or a folio record names the ring. -/
def execEvringDestroy (queue : Nat) (s : State) : Host.Outcome State Fault Refusal :=
  s.runCmd queue 0x1B (fun s1 _ c =>
    let r := c.arg 0x28 2
    if r = 0 ∨ 1023 < r then s1.cmdDone queue 2 0x28
    else if (tget r s1.evrings).isNone then s1.cmdDone queue 4 0
    else if s1.queues.any (fun q => q.2.evring == r) || s1.ctxs.any (fun y => y.2.evring == r) || s1.folios.any (fun f => f.2.evring == r) then
      s1.cmdDone queue 5 0
    else ({ s1 with evrings := tdel r s1.evrings }).cmdDone queue 0 0)

/-- CHAN_ASSIGN (R382; 12, when events coincide): it takes effect when the channel is IDLE or stopped. -/
def execChanAssign (queue : Nat) (s : State) : Host.Outcome State Fault Refusal :=
  s.runCmd queue 0x29 (fun s1 _ c =>
    if 7 < c.arg 0x28 1 then s1.cmdDone queue 2 0x28
    else if 15 < c.arg 0x29 1 then s1.cmdDone queue 2 0x29
    else if 63 < c.arg 0x2A 1 then s1.cmdDone queue 2 0x2A
    else if ¬ s1.folioUsable (c.arg 0x2A 1) then s1.cmdDone queue 3 0
    else s1.setPhase queue (.running 0))

/-! ## Rings and the management queue (R490, R503) -/

/-- Held records go out while the ring has room (R490). -/
def State.drainHeld (s : State) (r : Nat) : (fuel : Nat) → State
  | 0 => s
  | fuel + 1 =>
    match s.ring? r with
    | none => s
    | some e =>
      match e.held with
      | [] => s
      | b :: t => if e.full then s else State.drainHeld (s.store r { e with held := t } b) r fuel

/-- EVENT_RING_CONSUMED (R490): the consumer word; held records follow. -/
def execEventRingConsumed (ring count : Nat) (s : State) : Host.Outcome State Fault Refusal :=
  match s.ring? ring with
  | none => stay s
  | some e =>
    let s1 := s.hostWrite (e.base + 64 * 2 ^ e.log + 64) (le 4 count)
    .next (({ s1 with evrings := tput ring { e with consumed := count % 2 ^ 32 } s1.evrings }).drainHeld ring 64)

/-- MGMTQ_ENABLE (R503): EN set to 1 takes the registers as they stand, HEAD and XSEQ as 0; EN 0 stops fetches. -/
def execMgmtqEnable (v : Bool) (s : State) : Host.Outcome State Fault Refusal :=
  let s1 := s.writeFld rMgmtqRing 0 1 (b2n v)
  let old := (s.queue? 0).getD { type := .mgmt, ctx := 0 }
  if ¬ s.clasp.rails then stay s
  else if v then
    (if bit (s.reg rMgmtqRing) 0 then stay s
     else
       let x : Queue := { old with log := s.mgmtLog, ringPa := s.fld rMgmtqRing 12 34 * 4096, dbPa := s.fld rMgmtqDb 6 40 * 64,
                                   headPa := s.fld rMgmtqHead 3 43 * 8, watched := true, snooped := false, head := 0, tail := 0, xseq := 0,
                                   xseqNew := 0, xslot := [], stopped := false }
       .next (((s1.setQueue 0 x).headWrite x (zeros 8)).watchDoorbell x))
  else .next (s1.modQueue 0 (fun x => { x with stopped := true }))

end Sys2Proof.Machine
end

