-- ==== Sys2Proof/Machine/Power.lean ====
section
/-! DEFINITION. Sys2Proof/Machine/Power.lean: region clocks and voltages, the control loop, droop, supply warnings, thermal caps, wear gauges, power groups and energy telemetry (17 R530-R559). -/

namespace Sys2Proof.Machine

/-! ## The calibration page and the set voltage (R534, R643, R645) -/

/-- A byte of the calibration page: HOURS as the Clasp holds it, else as last written, else as the factory wrote it. -/
def State.calByte (s : State) (o : Nat) : Byte :=
  if 0x10 ≤ o ∧ o < 0x18 then BitVec.ofNat 8 (s.clasp.hours >>> (8 * (o - 0x10))) else (tget o s.clasp.cal).getD (Config.factoryCal o)

/-- Bytes of the calibration page. -/
def State.calBytes (s : State) (o n : Nat) : Bytes := (List.range n).map (fun i => s.calByte (o + i))

/-- The voltage-frequency points of an island: of the page, or the fused ones when the page is invalid (R534, R645). -/
def State.vfPoints (s : State) (isl : Nat) : List (Nat × Nat) :=
  if s.clasp.calState = 2 then Config.fusedTable
  else ((List.range 64).map (fun k => let b := s.calBytes (0x440 + 256 * isl + 4 * k) 4; (fieldLe b 0 2, fieldLe b 2 2))).filter (fun p => p.1 != 0)

/-- Linear interpolation between points, rounded up to the next whole mV. -/
def interpMv (f : Nat) : List (Nat × Nat) → Nat
  | [] => 0
  | [p] => p.2
  | p :: q :: t => if f ≤ p.1 then p.2 else if f < q.1 then p.2 + cdiv ((q.2 - p.2) * (f - p.1)) (q.1 - p.1) else interpMv f (q :: t)

/-- The set voltage of a region's core rail at a frequency (R534). -/
def State.setMv (s : State) (i f : Nat) : Nat := interpMv f (s.vfPoints i) + (s.region i).shiftMv + (s.region i).marginMv

/-- The set voltage of a die's fabric rail, at 2.0 GHz (R534). -/
def State.fabricMv (s : State) (d shift margin : Nat) : Nat := interpMv 2000 (s.vfPoints (16 + d)) + shift + margin

/-- The safe frequency of a region: the lowest point of its table (R533). -/
def State.safeMhz (s : State) (i : Nat) : Nat := match s.vfPoints i with | p :: _ => p.1 | [] => 0

/-! ## Frequency changes (R535, R543, R40) -/

/-- An event sample is due (R40), while EN and FCHG_EN of HUB_CORR_CTL are 1. -/
def State.sampleDue (s : State) (reason isl : Nat) : State :=
  if bit (s.reg rCorrCtl) 0 ∧ bit (s.reg rCorrCtl) 14 then { s with corrDue := s.corrDue ++ [(reason, isl)] } else s

/-- The capability table has changed (R499): GEN rises by 2. -/
def State.capChange (s : State) : State := { s with capGen := (s.capGen + 2) % 2 ^ 32 }

/-- A region's clock is at a frequency; its voltage follows a lower one. -/
def State.clockAt (s : State) (i f : Nat) : State :=
  let r := s.region i
  if r.setMhz = f then s.setRegion i { r with target := none, railUp := false }
  else ((s.setRegion i { r with setMhz := f, target := none, railUp := false, voltMv := s.setMv i f }).sampleDue 1 i).capChange

/-- The controller decides on a frequency: a higher one waits for the rail, then both for the clock (R535). -/
def State.setTarget (s : State) (i f : Nat) : State :=
  let r := s.region i
  if ¬ r.powered then s
  else if f = r.setMhz then s.setRegion i { r with target := none, railUp := false }
  else if r.target = some f then s
  else s.setRegion i { r with target := some f, railUp := false, steppingUp := decide (r.setMhz < f) }

/-- May a pending step or ramp go on: no droop, and 2 us past its end (R543)? -/
def State.droopClear (s : State) (r : Region) : Bool := !r.droop && (decide (r.droopSince = 0) || decide (r.droopSince + 2000 ≤ s.hubCount))

/-- RAIL_RAMP_DONE (R535, R543). -/
def execRailRampDone (island : Nat) (s : State) : Host.Outcome State Fault Refusal :=
  let r := s.region island
  match r.target with
  | none => stay s
  | some f =>
    if r.powered ∧ r.steppingUp ∧ ¬ r.railUp ∧ s.droopClear r then .next (s.setRegion island { r with railUp := true, voltMv := s.setMv island f })
    else stay s

/-- CLOCK_STEP_DONE (R535, R543). -/
def execClockStepDone (island : Nat) (s : State) : Host.Outcome State Fault Refusal :=
  let r := s.region island
  match r.target with
  | none => stay s
  | some f => if r.powered ∧ (r.steppingUp → r.railUp) ∧ s.droopClear r then .next (s.clockAt island f) else stay s

/-! ## Pins and caps (R524, R540, R549) -/

/-- The floor at which a region is pinned: that of the FIXFREQ folio with a core slice in it. -/
def State.pinOf (s : State) (i : Nat) : Option Nat :=
  (List.range 8).findSome? (fun k =>
    let e := s.coreSlice (8 * i + k)
    let f := s.folio e.owner
    if e.st = .owned ∧ f.valid ∧ f.fixfreq then some f.floorMhz else none)

/-- A region's own cap (R538). -/
def Region.cap (r : Region) : Nat := min r.ratedMhz r.thermalCap

/-- The frequency for a region: the loop's or the pin's, within its cap and that of an invalid calibration page (R645), never below
the safe frequency. -/
def State.wanted (s : State) (i f : Nat) : Nat := max (s.safeMhz i) (min (min f (s.region i).cap) (if s.clasp.calState = 2 then 3000 else 4000))

/-- A region's pin follows the binding map (R540). -/
def State.repinRegion (s : State) (i : Nat) : State :=
  match s.pinOf i with
  | some f => (s.setRegion i { s.region i with floorMhz := f, loopMhz := f }).setTarget i (s.wanted i f)
  | none => s.setRegion i { s.region i with floorMhz := 0 }

/-- Every region's pin. -/
def State.repin (s : State) : State := foldS (List.range 16) s State.repinRegion

/-- The activations with cores in a region have been slowed (R523 CAUSE). -/
def State.slowed (s : State) (isl : Nat) : State :=
  { s with ctxs := tmap (fun _ (y : Context) =>
      match y.act with
      | some a => if a.cores.any (fun c => coreIsland c == isl) then { y with act := some { a with slowed := true } } else y
      | none => y) s.ctxs }

/-! ## The control loop (R537, R538, R541) -/

/-- The unpinned powered regions. -/
def State.unpinned (s : State) : List Nat := (List.range 16).filter (fun i => (s.region i).powered && (s.pinOf i).isNone)

/-- avg + (p - avg) / n in mW (R538). -/
def stepAvg (avg p n : Nat) : Nat := ((avg : Int) + ((p : Int) - avg) / n).toNat

/-- The budget in mW (R538): `nine` holds the input powers of the last 9 ms. -/
def State.budget (s : State) (avg : Nat) (nine : List Nat) : Int :=
  let n : Int := s.windowS * 1000
  let b := min ((s.fastW * 1000 : Nat) : Int) ((avg : Int) + n * (((s.limitW * 1000 : Nat) : Int) - avg))
  min b (((10 * s.fastW * 1000 : Nat) : Int) - (nine.sum * 1000 : Nat))

/-- The highest 50 MHz step whose predicted power fits (R538). -/
def fitStep (k avail : Nat) : (n : Nat) → Option Nat
  | 0 => none
  | n + 1 => if Config.predictedW (50 * (n + 1)) k ≤ avail then some (50 * (n + 1)) else fitStep k avail n

/-- One region under the loop: never raised while a supply warning holds it, or while droop asserts after a long droop. -/
def State.loopRegion (s : State) (fc : Option Nat) (i : Nat) : State :=
  let r := s.region i
  let want := match s.pinOf i, fc with
    | some f, _ => f
    | none, some f => f
    | none, none => s.safeMhz i
  let f := s.wanted i want
  let s1 := s.setRegion i { r with loopMhz := want }
  if ¬ r.powered then s
  else if r.warned ≠ [] ∧ r.setMhz < f then s1
  else if r.droop ∧ r.droopLong ∧ r.setMhz < f then s1
  else s1.setTarget i f

/-- PINOVER (R541): set with a record when no step fits, cleared after 100 consecutive milliseconds. -/
def State.pinover (s : State) (met : Bool) : State :=
  let on := bit (s.reg rPwrStat) 42
  if ¬ met then
    (let s1 := { s with power := { s.power with pinMet := 0 } }
     if on then s1 else (s1.setFld rPwrStat 42 1 1).powerEvent 5 0x1F s.limitW s.limitW 0 0)
  else
    let s1 := { s with power := { s.power with pinMet := s.power.pinMet + 1 } }
    if on ∧ 100 ≤ s1.power.pinMet then s1.setFld rPwrStat 42 1 0 else s1

/-- POWER_CONTROL_TICK (R537-R541), once a millisecond of hub time: `p`, `fixed` and `pinned` are the measurements of the last millisecond. -/
def execPowerControlTick (p fixed pinned : Nat) (s : State) : Host.Outcome State Fault Refusal :=
  if ¬ s.clasp.rails ∨ s.hubCount < s.power.tickAt + 1000000 then stay s
  else
    let avg := stepAvg s.power.avgMw (p * 1000) (s.windowS * 1000)
    let b := s.budget avg ((p :: s.power.last).take 9)
    let avail : Int := b / (Config.effMilli : Int) - fixed - pinned
    let fc := if avail < 0 then none else fitStep s.hubCount avail.toNat 80
    let s1 := { s with power := { s.power with avgMw := avg, last := (p :: s.power.last).take 10, tickAt := s.hubCount } }
    let ok := match fc with | some f => s.unpinned.all (fun i => decide (s.safeMhz i ≤ f)) | none => decide (s.unpinned = [] ∧ 0 ≤ avail)
    .next ((foldS (List.range 16) s1 (fun st i => st.loopRegion (if ok then fc else none) i)).pinover ok)

/-! ## Droop (R542-R544) -/

/-- DROOP_ASSERT. -/
def execDroopAssert (island : Nat) (s : State) : Host.Outcome State Fault Refusal :=
  let r := s.region island
  if ¬ r.powered ∨ r.droop then stay s
  else .next (((s.setRegion island { r with droop := true, droopSince := s.hubCount, droopLong := false }).bumpFld (rPwrDroop island) 0 24 1).slowed island)

/-- DROOP_CLEAR: the stretch lasts 16 stretched cycles at least. -/
def execDroopClear (island : Nat) (s : State) : Host.Outcome State Fault Refusal :=
  let r := s.region island
  if ¬ r.droop ∨ (s.hubCount - r.droopSince) * r.setMhz < 32000 then stay s
  else .next (s.setRegion island { r with droop := false, droopSince := s.hubCount, droopLong := false })

/-- DROOP_LONG (R544). -/
def execDroopLong (island : Nat) (s : State) : Host.Outcome State Fault Refusal :=
  let r := s.region island
  if ¬ r.droop ∨ r.droopLong ∨ s.hubCount ≤ r.droopSince + 100000 then stay s
  else
    let s1 := (s.setRegion island { r with droopLong := true }).clockAt island (min r.setMhz (s.safeMhz island))
    .next (((s1.setFld rPwrEvent 2 1 1).bumpFld (rPwrDroop island) 24 8 1).powerEvent 3 island r.setMhz (s1.region island).setMhz 0 (s.hubCount - r.droopSince))

/-! ## Supply warnings (R545, R546) -/

/-- The regions that a supply affects: a region rail, a fabric rail of a die, the bus input. -/
def affected (supply : Nat) : List Nat :=
  if supply < 16 then [supply] else if supply < 18 then (List.range 8).map (fun k => 8 * (supply - 16) + k) else List.range 16

/-- Is a supply below its warning level (R545)? -/
def State.lowSupply (s : State) (supply mv : Nat) : Bool :=
  if supply < 16 then decide (100 * mv < 95 * (s.region supply).voltMv)
  else if supply < 18 then decide (100 * mv < 95 * (s.fabric (supply - 16)).voltMv) else decide (mv < 46000)

/-- Half a frequency, down to a 50 MHz step. -/
def halfMhz (f : Nat) : Nat := f / 2 / 50 * 50

/-- SUPPLY_WARNING. -/
def execSupplyWarning (supply mv : Nat) (s : State) : Host.Outcome State Fault Refusal :=
  if 18 < supply ∨ ¬ s.clasp.rails ∨ (tget supply s.power.warns).isSome ∨ ¬ s.lowSupply supply mv then stay s
  else
    let s1 := foldS ((affected supply).filter (fun i => (s.region i).powered)) s (fun st i =>
      let st1 := (st.clockAt i (max (st.safeMhz i) (halfMhz (st.region i).setMhz))).slowed i
      st1.setRegion i { st1.region i with warned := sadd supply (st1.region i).warned })
    let s2 := (s1.setFld rPwrEvent (if supply = 18 then 0 else 1) 1 1).bumpFld rPwrEvent 16 16 1
    .next { s2 with power := { s2.power with warns := tput supply s.hubCount s2.power.warns, busMv := if supply = 18 then mv else s2.power.busMv } }

/-- SUPPLY_RELEASE, 200 us after the warning at the earliest (R545): the frequencies the loop would set come back; the record. -/
def execSupplyRelease (supply lowest : Nat) (s : State) : Host.Outcome State Fault Refusal :=
  match tget supply s.power.warns with
  | none => stay s
  | some t =>
    if s.hubCount < t + 200000 then stay s else
    let s1 := { s with power := { s.power with warns := tdel supply s.power.warns } }
    let s2 := foldS (affected supply) s1 (fun st i =>
      let r := st.region i
      let st1 := st.setRegion i { r with warned := sdel supply r.warned }
      if sdel supply r.warned = [] then st1.setTarget i (st1.wanted i r.loopMhz) else st1)
    let s3 := s2.powerEvent (if supply = 18 then 1 else 2) (if supply = 18 then 0x1F else supply) (s2.freeNat % 2 ^ 32) (s2.useFree.freeNat % 2 ^ 32)
      lowest (s.hubCount - t)
    .next s3.useFree.useFree

/-! ## Thermal caps (R549) -/

/-- THERMAL_CAP_FALL, every 100 us; a step pending to a frequency above the cap is decided anew. -/
def execThermalCapFall (island temp : Nat) (s : State) : Host.Outcome State Fault Refusal :=
  let r := s.region island
  if temp < 105 ∨ ¬ r.powered ∨ s.hubCount < r.capAt + 100000 then stay s
  else
    let cap := r.cap - 100
    let s1 := (s.setRegion island { r with thermalCap := cap, capAt := s.hubCount }).setFld rPwrEvent 3 1 1
    let s2 := if cap < max r.setMhz (r.target.getD 0) then (s1.setTarget island (s1.wanted island (max r.setMhz (r.target.getD 0)))).slowed island else s1
    .next (if r.ratedMhz ≤ r.thermalCap then s2.powerEvent 4 island r.ratedMhz cap 0 0 else s2)

/-- THERMAL_CAP_RISE, once a millisecond. -/
def execThermalCapRise (island temp : Nat) (s : State) : Host.Outcome State Fault Refusal :=
  let r := s.region island
  if 103 ≤ temp ∨ ¬ r.powered ∨ s.hubCount < r.capAt + 1000000 then stay s
  else .next (s.setRegion island { r with thermalCap := min r.ratedMhz (r.thermalCap + 100), capAt := s.hubCount })

/-! ## Wear gauges (R550, R551) -/

/-- MARGIN for the hours over which the gauges agree. -/
def marginFor (hours : Nat) : Nat := max 20 (45 - 5 * (hours / 1000))

/-- A derated region: 50 MHz less, and no floor above it (R551). -/
def State.derate (s : State) (i : Nat) : State :=
  let r := s.region i
  let rated := r.ratedMhz - 50
  let s1 := s.setRegion i { r with ratedMhz := rated, thermalCap := min r.thermalCap rated }
  let s2 := foldS (List.range 8) s1 (fun st k =>
    let e := st.coreSlice (8 * i + k)
    let f := st.folio e.owner
    if e.st = .owned ∧ f.valid ∧ f.fixfreq ∧ rated < f.floorMhz then st.setFolio e.owner { f with floorMhz := rated } else st)
  ((s2.powerEvent 7 i r.ratedMhz rated 0 0).repin).capChange

/-- Kind 6: the form in which BEFORE and AFTER hold two values is not given, so they are free. -/
def State.trimEvent (s : State) (isl : Nat) : State :=
  (s.powerEvent 6 isl (s.freeNat % 2 ^ 32) (s.useFree.freeNat % 2 ^ 32) 0 0).useFree.useFree

/-- Is a wear-gauge reading due: the first of this start-up, or 24 hours of powered time after the last (R550)? -/
def State.gaugeDue (s : State) (last : Option Nat) : Bool := match last with | none => true | some h => decide (h + 24 ≤ s.clasp.hours)

/-- WEAR_GAUGE_READING: it waits while the input warning lasts. -/
def execWearGaugeReading (domain need agreeHours : Nat) (s : State) : Host.Outcome State Fault Refusal :=
  if (tget 18 s.power.warns).isSome ∨ 17 < domain ∨ ¬ s.clasp.rails ∨
      ¬ s.gaugeDue (if domain < 16 then (s.region domain).gauge else (s.fabric (domain - 16)).gauge) then stay s
  else
    let want := 5 * cdiv need 5
    let shift := min 60 want
    let margin := marginFor agreeHours
    if 16 ≤ domain then
      (let f := s.fabric (domain - 16)
       let s1 := s.setFabric (domain - 16) { f with shiftMv := shift, marginMv := margin, gauge := some s.clasp.hours, voltMv := if f.running then s.fabricMv (domain - 16) shift margin else f.voltMv }
       .next (if f.shiftMv = shift ∧ f.marginMv = margin then s1 else s1.trimEvent domain))
    else
      let r := s.region domain
      let s1 := s.setRegion domain { r with shiftMv := shift, marginMv := margin, gauge := some s.clasp.hours }
      let s2 := s1.setRegion domain { s1.region domain with voltMv := if r.powered then s1.setMv domain r.setMhz else r.voltMv }
      let s3 := if r.shiftMv = shift ∧ r.marginMv = margin then s2 else s2.trimEvent domain
      .next (if 60 < want then s3.derate domain else s3)

/-! ## Limits (R539, R557, R559) -/

/-- PWR_LIMIT_WRITE: in a group LIMIT_W is not written. -/
def execPwrLimitWrite (w : BitVec 32) (s : State) : Host.Outcome State Fault Refusal :=
  if ¬ s.clasp.rails then stay s else
  let v := w.toNat
  let s1 := if bit (s.reg rPwrGroup) 0 then s else s.setFld rPwrLimit 0 11 v
  .next ((s1.writeFld rPwrLimit 11 5 (v / 2 ^ 11)).writeFld rPwrLimit 16 11 (v / 2 ^ 16))

/-- POWER_SET (R557). -/
def execPowerSet (queue : Nat) (s : State) : Host.Outcome State Fault Refusal :=
  s.runCmd queue 0x58 (fun s1 _ c =>
    let grp := bit (s1.reg rPwrGroup) 0
    let lim := if grp then s1.limitW else c.arg 0x28 2
    let win := c.arg 0x2A 1
    let fast := c.arg 0x2C 2
    if lim < 700 ∨ 1500 < lim then s1.cmdDone queue 2 0x28
    else if win < 1 ∨ 30 < win then s1.cmdDone queue 2 0x2A
    else if fast < lim ∨ 1850 < fast then s1.cmdDone queue 2 0x2C
    else
      let s2 := if grp then s1 else s1.setFld rPwrLimit 0 11 lim
      ((s2.writeFld rPwrLimit 11 5 win).writeFld rPwrLimit 16 11 fast).cmdDone queue 0 0)

/-! ## Energy telemetry (R556, R557) -/

/-- ENERGY_WATCH: `energy` holds the context of the address, the address and SEQ. -/
def execEnergyWatch (queue : Nat) (s : State) : Host.Outcome State Fault Refusal :=
  s.runCmd queue 0x59 (fun s1 x c =>
    let f := if x.type = .mgmt then c.arg 0x30 1 else s1.ctxFolio x.ctx
    let a := c.arg 0x28 8
    if 63 < f then s1.cmdDone queue 2 0x30
    else if ¬ (s1.folio f).valid then s1.cmdDone queue 3 0
    else if a % 64 ≠ 0 ∨ (x.type = .mgmt ∧ s1.route a = .hole) then s1.cmdDone queue 2 0x28
    else (s1.setFolio f { s1.folio f with energy := if a = 0 then none else some (x.ctx, a, 0) }).cmdDone queue 0 0)

/-- ENERGY_ESTIMATE (R556), every 10 ms of hub time: how the energies follow from the counters is not given, so they are free values. -/
def execEnergyEstimate (s : State) : Host.Outcome State Fault Refusal :=
  if ¬ s.clasp.rails ∨ s.hubCount < s.power.energyAt + 10000000 then stay s else
  .next (foldS (s.folios.map Prod.fst) { s with power := { s.power with energyAt := s.hubCount } } (fun st f =>
    match (st.folio f).energy with
    | none => st
    | some (ctx, a, n) =>
      let d := le 8 (n + 1) ++ st.freeBytes 8 ++ st.useFree.freeBytes 8 ++ le 8 st.hubCount ++ zeros 32
      ((st.useFree.useFree.setFolio f { st.folio f with energy := some (ctx, a, n + 1) }).hubWrite ctx a d).2))

/-! ## Power groups (R552-R555) -/

/-- Is the package in a power group, and which? -/
def State.inGroup (s : State) : Bool := bit (s.reg rPwrGroup) 0
def State.groupId (s : State) : Nat := s.fld rPwrGroup 4 12

/-- An up link to a peer index (R554). -/
def State.upLink (s : State) (i : Nat) : Option Nat := (List.range 12).find? (fun l => bit (s.peerLinks i) l && (s.stitch l).up)

/-- The assigned peers: index and package id. -/
def State.peers (s : State) : List (Nat × Nat) := ((List.range 15).filter s.peerValid).map (fun i => (i, s.fld (rPeer i) 0 16))

/-- The 64-byte payload of R554. -/
def groupPayload (grp seq pkg lim a b : Nat) : Bytes := le 2 grp ++ le 2 seq ++ le 2 pkg ++ le 2 lim ++ le 2 a ++ le 2 b ++ zeros 52

/-- Sends a power-group packet to a peer index. -/
def State.groupSend (s : State) (i ty : Nat) (d : Bytes) : State :=
  match s.upLink i with
  | some l => s.send ⟨l, stitchHdr ty 7 0 0 0 1 0 0 0, d⟩
  | none => s

/-- BARWAIT of the resident slots and the cycles of the enabled cores. -/
def State.barTotal (s : State) : Nat := (s.allSlots.map (fun x => x.2.2.barWait)).sum
def State.cycTotal (s : State) : Nat := (((List.range 576).filter s.coreEnabled).map (fun c => s.count (coreIsland c))).sum

/-- The slack of the period in 1/65536 (R553). -/
def State.slack (s : State) : Nat :=
  let c := s.cycTotal - s.power.cycBase
  if c = 0 then 0 else min 65535 (65536 * (s.barTotal - s.power.barBase) / c)

/-- REPORT_PERIOD (R553), every 10 ms of hub time: the report goes to every assigned peer with an up link, and to this package's own books. -/
def execReportPeriod (s : State) : Host.Outcome State Fault Refusal :=
  if ¬ s.inGroup ∨ s.hubCount < s.power.reportAt + 10000000 then stay s
  else
    let sl := s.slack
    let seq := (s.power.reportSeq + 1) % 65536
    let d := groupPayload s.groupId seq s.clasp.pkgId s.limitW (min 65535 (s.power.avgMw / 1000)) sl
    let s1 := foldS s.peers s (fun st p => st.groupSend p.1 0x10 d)
    .next { s1 with power := { s1.power with
      reports := tput s.clasp.pkgId (s.limitW, sl) s1.power.reports, reportSeq := seq, reportAt := s.hubCount, barBase := s.barTotal, cycBase := s.cycTotal } }

/-- REPORT (R554): taken into the books, or discarded. -/
def execReport (link : Nat) (payload : Bytes) (s : State) : Host.Outcome State Fault Refusal :=
  if ¬ (s.stitch link).up ∨ ¬ s.inGroup ∨ fieldLe payload 0 2 ≠ s.groupId then stay s
  else .next { s with power := { s.power with
    reports := tput (fieldLe payload 4 2) (fieldLe payload 6 2, fieldLe payload 0x0A 2) s.power.reports } }

/-- A member of the leader's procedure: package, limit, slack. -/
structure Member where
  pkg : Nat
  lim : Nat
  slack : Nat
  deriving DecidableEq, Repr

/-- Rescaling to a changed total (R553). -/
def rescale (total : Nat) (l : List Member) : List Member :=
  let m := l.length
  let e := (l.map (fun x => x.lim - 700)).sum
  l.map (fun x => { x with lim := min 1500 (if e = 0 then 700 + (total - 700 * m) / m else 700 + (total - 700 * m) * (x.lim - 700) / e) })

/-- The member with the largest, or smallest, slack; ties go to the lower package id (the list is ascending). -/
def mostSlack : List Member → Option Member
  | [] => none
  | x :: t => (match mostSlack t with | some y => if x.slack < y.slack then some y else some x | none => some x)
def leastSlack : List Member → Option Member
  | [] => none
  | x :: t => (match leastSlack t with | some y => if y.slack < x.slack then some y else some x | none => some x)

/-- The transfer step (R553). -/
def transfer (total : Nat) (l : List Member) : List Member :=
  match mostSlack l, leastSlack l with
  | some a, some b =>
    if b.slack + 3277 < a.slack then
      (let d := min (total / 50) (min (a.lim - 700) (1500 - b.lim))
       l.map (fun x => if x.pkg = a.pkg then { x with lim := x.lim - d } else if x.pkg = b.pkg then { x with lim := x.lim + d } else x))
    else l
  | _, _ => l

/-- The leader's procedure (R552, R553). -/
def groupLimits (total : Nat) (changed : Bool) (l : List Member) : List Member :=
  if total < 700 * l.length then l.map (fun x => { x with lim := 700 })
  else transfer total (if changed then rescale total l else l)

/-- A limit becomes this package's sustained limit (R553). -/
def State.applyLimit (s : State) (lim : Nat) : State :=
  let s1 := s.setFld rPwrLimit 0 11 lim
  { s1 with power := { s1.power with lastAssign := s.hubCount } }

/-- LEADER_ASSIGN (R552-R554): done by the member with the lowest package id. -/
def execLeaderAssign (s : State) : Host.Outcome State Fault Refusal :=
  let l := s.power.reports.map (fun r => ({ pkg := r.1, lim := r.2.1, slack := r.2.2 } : Member))
  match l with
  | [] => stay s
  | first :: _ =>
    if ¬ s.inGroup ∨ first.pkg ≠ s.clasp.pkgId then stay s
    else
      let total := s.power.totalW
      let short := decide (total < 700 * l.length)
      let new := groupLimits total s.power.totalChanged l
      let s1 := foldS new s (fun st m =>
        if m.pkg = s.clasp.pkgId then st.applyLimit m.lim
        else match st.peers.find? (fun p => p.2 == m.pkg) with
          | some p => st.groupSend p.1 0x11 (groupPayload s.groupId s.power.reportSeq m.pkg m.lim total l.length)
          | none => st)
      let s2 := { s1 with power := { s1.power with members := l.length, leader := true, totalChanged := false, reports := [] } }
      .next (if short then s2.powerEvent 8 0x1F s.limitW s2.limitW 0 0 else s2)

/-- ASSIGN (R553, R554). -/
def execAssign (link : Nat) (payload : Bytes) (s : State) : Host.Outcome State Fault Refusal :=
  if ¬ (s.stitch link).up ∨ ¬ s.inGroup ∨ fieldLe payload 0 2 ≠ s.groupId ∨ fieldLe payload 4 2 ≠ s.clasp.pkgId then stay s
  else
    let s1 := s.applyLimit (fieldLe payload 6 2)
    .next { s1 with power := { s1.power with totalW := fieldLe payload 8 2, members := fieldLe payload 0x0A 2, leader := false, reports := [] } }

/-- ASSIGN_TIMEOUT (R555). -/
def execAssignTimeout (s : State) : Host.Outcome State Fault Refusal :=
  if ¬ s.inGroup ∨ s.hubCount < s.power.lastAssign + 50000000 then stay s
  else
    let lim := if s.power.members = 0 then s.limitW else min s.limitW (s.power.totalW / s.power.members)
    let s1 := (s.applyLimit lim).setFld rPwrEvent 4 1 1
    .next (({ s1 with power := { s1.power with reports := [] } }).powerEvent 8 0x1F s.limitW s1.limitW 0 0)

end Sys2Proof.Machine
end

