-- ==== Sys2Proof/Machine/Translate.lean ====
section
/-! DEFINITION. Sys2Proof/Machine/Translate.lean: page walks, INVALIDATE, MIGRATE, ADVISE and FRAME_SET (11 R357-R379; 14 R461, R462). -/

namespace Sys2Proof.Machine

/-! ## Ranges (R363, R364) -/

/-- The contexts that MODE and the id of INVALIDATE and ADVISE name (R487). -/
def State.modeCtxs (s : State) (mode id : Nat) : List Nat :=
  let root := match s.ctx? id with | some y => y.root | none => 0
  if mode = 0 then [id]
  else (s.ctxs.filter (fun y => if mode = 1 then y.2.folio == id else y.2.root == root)).map Prod.fst

/-- Do two half-open ranges meet? -/
def meets (a n b m : Nat) : Bool := decide (a < b + m ∧ b < a + n)

/-- Does a table entry map part of a range? -/
def TlbEntry.within (e : TlbEntry) (ctxs : List Nat) (lo n : Nat) : Bool := ctxs.contains e.ctx && meets (e.vpage * e.size) e.size lo n

/-- Does a walk-cache entry cover part of a range? -/
def WalkCEntry.within (e : WalkCEntry) (ctxs : List Nat) (lo n : Nat) : Bool :=
  let size := if e.level = 1 then 2 ^ 41 else 2 ^ 31
  ctxs.contains e.ctx && meets (e.index * size) size lo n

/-- Step 1 of INVALIDATE: entries of the range go everywhere; walks in progress walk again. -/
def State.dropRange (s : State) (ctxs : List Nat) (lo n : Nat) : State :=
  let keep : TlbEntry → Bool := fun e => !e.within ctxs lo n
  { s with
    cores := tmap (fun _ (c : Core) => { c with tlb := c.tlb.filter keep }) s.cores
    walkers := tmap (fun _ (w : Walker) => { leaves := w.leaves.filter keep, upper := w.upper.filter (fun e => !e.within ctxs lo n) }) s.walkers
    hubTlb := s.hubTlb.filter keep
    cpyTlb := tmap (fun _ (l : List TlbEntry) => l.filter keep) s.cpyTlb
    walks := tmap (fun _ (w : Walk) => if ctxs.contains w.ctx && meets w.va 1 lo n then { w with again := true } else w) s.walks }

/-! ## Uses in flight (R365) -/

/-- Has a request been performed? A burst still has its tile's group to complete (R365). -/
def Req.over (q : Req) : Bool := match q.issuer with | .burst _ _ _ _ => false | _ => q.status.isSome

/-- Does a request of an engine use a range? -/
def Req.uses (q : Req) (ctxs : List Nat) (lo n : Nat) : Bool :=
  ctxs.contains q.ctx && meets q.va (max 1 q.len) lo n && ofCore q.issuer && !q.over

/-- Does a copy descriptor touch a range, with its data or with its words? -/
def CopyD.touches (d : CopyD) (lo n : Nat) : Bool :=
  (bit d.flags 2 && meets d.waitVa 8 lo n) || (bit d.flags 3 && meets d.sigVa 8 lo n) ||
  (List.range (d.ny * d.nz)).any (fun r =>
    (d.op != 1 && meets (d.srcAt (r * d.xlen)) d.xlen lo n) || meets (d.dstAt (r * d.xlen)) d.xlen lo n)

/-- Does a channel run a descriptor, waiting or moving data? -/
def Chan.runs (c : Chan) : Bool := c.queue.isSome && (c.st == .run || c.st == .wait) && c.desc != []

/-- Channels whose running descriptor uses a range. -/
def State.chanUses (s : State) (ctxs : List Nat) (lo n : Nat) : List Nat :=
  (List.range 128).filter (fun ch =>
    let c := s.chan ch
    c.runs && ctxs.contains (s.chanCtx ch) && ((copyOf c.desc).touches lo n || meets c.descVa 128 lo n))

/-- The context on whose behalf a subtraction of a reference count is made: that of its queue. -/
def State.subCtx (s : State) (r : RefSub) : Nat := match s.queue? r.queue with | some x => x.ctx | none => 0

/-- The FWAIT that a slot waits in. -/
def Slot.fenceUse (x : Slot) : Option FenceWait := match x.wait with | .fence f => some f | _ => none

/-- The pages of a sift request and its fence word. -/
def SiftReq.touches (q : SiftReq) (lo n : Nat) : Bool :=
  q.map.any (fun p => meets (p.1 * 2 ^ 25) (2 ^ 25) lo n) || meets (siftOf q.desc).fence 8 lo n

/-- The uses of a range in flight (R365), by their numbers: requests, sift requests, offers, a command's subtractions of reference counts, FWAITs
that wait, copy descriptors. -/
def State.usesOf (s : State) (ctxs : List Nat) (lo n : Nat) : List Nat :=
  (s.reqs.filter (fun r => r.2.uses ctxs lo n)).map Prod.fst ++
  (s.sifts.filter (fun q => ctxs.contains q.2.ctx && q.2.touches lo n)).map Prod.fst ++
  (s.offers.filter (fun o => ctxs.contains o.2.ctx && meets o.2.va 8 lo n)).map Prod.fst ++
  (s.refSubs.filter (fun r => ctxs.contains (s.subCtx r.2) && meets r.2.count 8 lo n)).map Prod.fst ++
  s.allSlots.filterMap (fun y => match y.2.2.fenceUse with
    | some f => if ctxs.contains y.2.2.ctx && meets f.va 8 lo n then some f.useNo else none
    | none => none) ++
  (s.chanUses ctxs lo n).map (fun ch => (s.chan ch).useNo)

/-- The channel that runs a descriptor of a number. -/
def State.chanOf (s : State) (u : Nat) : Option Nat := (List.range 128).find? (fun ch => (s.chan ch).runs && (s.chan ch).useNo == u)

/-- The slot that waits in an FWAIT of a number. -/
def State.slotOfUse (s : State) (u : Nat) : Option (Nat × Nat × Slot) :=
  s.allSlots.find? (fun y => match y.2.2.fenceUse with | some f => f.useNo == u | none => false)

/-- Is a use still in flight? -/
def State.inFlight (s : State) (u : Nat) : Bool :=
  (match s.req? u with | some q => !q.over | none => false) || (tget u s.sifts).isSome || (tget u s.offers).isSome ||
  (tget u s.refSubs).isSome || (s.slotOfUse u).isSome || (s.chanOf u).isSome

/-! ## INVALIDATE (R363-R367) -/

/-- The checks of the arguments that INVALIDATE and ADVISE share. -/
def State.rangeBad (s : State) (c : Cmd) : Option (Nat × Nat) :=
  let id := c.arg 0x36 2
  if c.arg 0x28 8 % 2 ^ 25 ≠ 0 then some (2, 0x28)
  else if 2 < c.arg 0x34 1 then some (2, 0x34)
  else if c.op = 0x20 ∧ c.arg 0x35 1 ≠ 0 then some (2, 0x35)
  else if c.op = 0x22 ∧ 2 < c.arg 0x35 1 then some (2, 0x35)
  else if c.arg 0x34 1 = 1 then (if 63 < id then some (2, 0x36) else if (s.folio id).valid then none else some (3, 0))
  else if 4095 < id then some (2, 0x36)
  else if (s.ctx? id).isNone then some (4, 0)
  else none

/-- INVALIDATE (R364): step 1, and the uses to wait for. -/
def execInvalidate (queue : Nat) (s : State) : Host.Outcome State Fault Refusal :=
  s.runCmd queue 0x20 (fun s1 _ c =>
    match s1.rangeBad c with
    | some e => s1.cmdDone queue e.1 e.2
    | none =>
      let cs := s1.modeCtxs (c.arg 0x34 1) (c.arg 0x36 2)
      let lo := c.arg 0x28 8
      let n := c.arg 0x30 4 * 2 ^ 25
      let us := s1.usesOf cs lo n
      let s2 := s1.dropRange cs lo n
      if us = [] then s2.cmdDone queue 0 0 else (s2.modQueue queue (fun x => { x with uses := us })).setPhase queue (.running 0))

/-- The running INVALIDATE of a queue. -/
def State.runningOp (s : State) (q op : Nat) : Option (Queue × Cmd) :=
  match s.queue? q with
  | some x => (match x.cmds, x.phase with | c :: _, .running _ => if c.op = op then some (x, c) else none | _, _ => none)
  | none => none

/-- INVALIDATE_DRAINED (R364 step 3). -/
def execInvalidateDrained (queue : Nat) (s : State) : Host.Outcome State Fault Refusal :=
  match s.runningOp queue 0x20 with
  | none => stay s
  | some (x, _) => if x.uses.any s.inFlight then stay s else .next (s.cmdDone queue 0 0)

/-- SOURCE of a request (R371). -/
def useSource : Issuer → Nat
  | .burst _ _ _ 2 => 1 | .burst _ _ _ l => 2 + l | .copy _ => 5 | _ => 0

/-- The core of a request's stream. -/
def useCore : Issuer → Option Nat
  | .scalar c _ => some c | .store c _ => some c | .burst c _ _ _ => some c | _ => none

/-- Context, SOURCE and ENGINE of a use (R367). -/
def State.useOf (s : State) (u : Nat) : Nat × Nat × Nat :=
  match s.req? u, tget u s.sifts, tget u s.offers, tget u s.refSubs, s.slotOfUse u, s.chanOf u with
  | some q, _, _, _, _, _ => (q.ctx, useSource q.issuer, (match useCore q.issuer with | some c => engineWord c | none => 0))
  | _, some q, _, _, _, _ => (q.ctx, 4, engineWord q.core)
  | _, _, some o, _, _, _ => (o.ctx, if o.unit.isSome then 4 else match o.issuer with | .fwait _ _ => 0 | .copy _ => 5 | .command _ => 6,
      match o.issuer with | .fwait c _ => engineWord c | .copy ch => chanIndex ch | .command _ => 0)
  | _, _, _, some r, _, _ => (s.subCtx r, 6, 0)
  | _, _, _, _, some y, _ => (y.2.2.ctx, 0, engineWord y.1)
  | _, _, _, _, _, some ch => (s.chanCtx ch, 5, chanIndex ch)
  | _, _, _, _, _, _ => (0xFFFF, 0, 0)

/-- The oldest of the uses in flight: numbers rise with time. -/
def State.oldestUse (s : State) (l : List Nat) : Option Nat :=
  match l.filter s.inFlight with | [] => none | a :: t => some (t.foldl min a)

/-- INV_SLOW (R367, R591): one record per command. -/
def execInvSlow (queue : Nat) (s : State) : Host.Outcome State Fault Refusal :=
  match s.runningOp queue 0x20 with
  | none => stay s
  | some (x, c) =>
    match s.oldestUse x.uses with
    | none => stay s
    | some u =>
      if x.waitNoted ∨ s.hubCount < c.fetched + s.invWarn then stay s
      else
        let o := s.useOf u
        let rb := s.record tyInvSlow (s.ctxFolio o.1) 0 o.1 18
          (le 8 (c.arg 0x28 8) ++ le 4 (c.arg 0x30 4) ++ le 1 o.2.1 ++ le 3 0 ++ le 4 o.2.2 ++ le 4 0 ++ le 8 (s.hubCount - c.fetched))
        .next ((s.ringPut 0 rb).modQueue queue (fun y => { y with waitNoted := true }))

/-! ## MIGRATE (R373) -/

/-- Page size and base VA of a MIGRATE block; destination page `i`. -/
def migSize (b : Bytes) : Nat := if fieldLe b 2 1 = 0 then 2 ^ 25 else 2 ^ 31
def migDest (b : Bytes) (i : Nat) : Nat := fieldLe b (0x10 + 8 * i) 8

/-- May a page go to a destination: host memory, or local frames that every folio using the root owns? -/
def State.destOk (s : State) (folios : List Nat) (pa size : Nat) : Bool :=
  (decide (hostBase ≤ pa ∧ pa + size ≤ 2 ^ 46)) ||
  (decide (pa + size ≤ 2 ^ 39) && (List.range (size / 2 ^ 25)).all (fun k =>
    match s.server ((pa + k * 2 ^ 25) / 2 ^ 33) with
    | some m => (let e := s.frame m ((pa + k * 2 ^ 25) / 2 ^ 25 % 256); !frNoown e && folios.all (fun f => frOwner e == f))
    | none => false))

/-- The place of a page's leaf entry of a size and its word 0; none: no such leaf. -/
def State.leafAt (s : State) (root va : Nat) (big : Bool) : Option (Nat × Nat) :=
  match s.ptWord s.hubDie (root + 16 * bits va 41 11) with
  | none => none
  | some w1 =>
    if !bit w1 0 || badEntry 1 w1 then none
    else
      let a2 := bits w1 10 36 * 1024 + 16 * bits va 31 10
      match s.ptWord s.hubDie a2 with
      | none => none
      | some w2 =>
        if !bit w2 0 || badEntry 2 w2 then none
        else if bit w2 1 then (if big then some (a2, w2) else none)
        else if big then none
        else
          let a3 := bits w2 10 36 * 1024 + 16 * bits va 25 6
          match s.ptWord s.hubDie a3 with
          | none => none
          | some w3 => if !bit w3 0 || badEntry 3 w3 then none else some (a3, w3)

/-- MIGRATE (R373): its checks, and step 1; the copy and the rewriting follow with MIGRATE_COPY_COMPLETE. -/
def execMigrate (queue : Nat) (s : State) : Host.Outcome State Fault Refusal :=
  s.runCmd queue 0x21 (fun s1 _ c => s1.withBlock queue c 16 (fun s2 h =>
    let ctx := fieldLe h 0 2
    let n := fieldLe h 4 4
    let va := fieldLe h 8 8
    if fieldLe h 3 1 ≠ 0 then s2.cmdDone queue 1 0
    else if 4095 < ctx then s2.cmdDone queue 2 (inBlock 0)
    else if (s2.ctx? ctx).isNone then s2.cmdDone queue 4 0
    else if 1 < fieldLe h 2 1 then s2.cmdDone queue 2 (inBlock 2)
    else if n = 0 ∨ 4096 < n then s2.cmdDone queue 2 (inBlock 4)
    else if va % migSize h ≠ 0 ∨ 2 ^ 52 < va + n * migSize h then s2.cmdDone queue 2 (inBlock 8)
    else s2.withBlock queue c (16 + 8 * n) (fun s3 b =>
      let cs := s3.modeCtxs 2 ctx
      let fs := cs.map s3.ctxFolio
      match (List.range n).find? (fun i => migDest b i % migSize b != 0) with
      | some i => s3.cmdDone queue 2 (inBlock (0x10 + 8 * i))
      | none =>
        if ¬ (List.range n).all (fun i => s3.destOk fs (migDest b i) (migSize b)) then s3.cmdDone queue 0x0B 0
        else
          ((s3.dropRange cs va (n * migSize b)).modQueue queue (fun x =>
            { x with uses := s3.usesOf cs va (n * migSize b), mig := some (cs, va, n * migSize b) })).setPhase queue (.running 0))))

/-- The block of a running MIGRATE. -/
def State.migBlock (s : State) (c : Cmd) : Option Bytes :=
  match (s.hubRead 0 (c.arg 0x28 8) 16).1 with
  | none => none
  | some h => (s.hubRead 0 (c.arg 0x28 8) (16 + 8 * fieldLe h 4 4)).1

/-- Copies a page line by line, coherently; every cached copy of a source line goes back first (R373 steps 3 and 4). -/
def State.copyPage (s : State) (src dst size : Nat) : State :=
  foldS (List.range (size / 64)) s (fun st i =>
    let l := src + 64 * i
    let d := st.curLine l
    let st1 := match st.homeOf l with | some h => st.recallLine h l | none => st
    (st1.putLine (dst + 64 * i) d).2)

/-- One page of a MIGRATE: copied, and its leaf's word 0 rewritten with its flags kept (R373 steps 4 and 5). -/
def State.migratePage (s : State) (root : Nat) (b : Bytes) (i : Nat) : State :=
  let va := fieldLe b 8 8 + i * migSize b
  match s.leafAt root va (fieldLe b 2 1 == 1) with
  | none => s
  | some (at_, w) =>
    ((s.copyPage (bits w 10 36 * 1024) (migDest b i) (migSize b)).putLine at_ (le 8 (bits w 0 10 + migDest b i))).2

/-- MIGRATE_COPY_COMPLETE (R373 steps 2 to 6): with no use of the range in flight. -/
def execMigrateCopyComplete (queue : Nat) (s : State) : Host.Outcome State Fault Refusal :=
  match s.runningOp queue 0x21 with
  | none => stay s
  | some (x, c) =>
    match s.migBlock c with
    | none => .next ((s.modQueue queue (fun y => { y with mig := none })).cmdDone queue 0x11 0)
    | some b =>
      let cs := s.modeCtxs 2 (fieldLe b 0 2)
      let n := fieldLe b 4 4
      let root := match s.ctx? (fieldLe b 0 2) with | some y => y.root | none => 0
      let lo := fieldLe b 8 8
      if x.uses.any s.inFlight then stay s
      else
        let s1 := (s.dropRange cs lo (n * migSize b)).modQueue queue (fun y => { y with mig := none })
        .next ((foldS (List.range n) s1 (fun st i => st.migratePage root b i)).cmdDone queue 0 0)

/-! ## ADVISE (R375) -/

/-- The pages of an ADVISE range. -/
def advisePages (c : Cmd) : List Nat := (List.range (c.arg 0x30 4)).map (fun i => c.arg 0x28 8 + i * 2 ^ 25)

/-- Kind 0: both walkers walk the pages of a context. -/
def State.adviseWalk (s : State) (ctx : Nat) (pages : List Nat) : State :=
  foldS [0, 1] s (fun st d => foldS pages st (fun st' va =>
    let st1 := st'.noteWalk d ctx va
    match st'.walkAt d ctx va with
    | .leaf e ups => st1.fillWalker d e ups
    | .fault _ _ => st1.bumpFld (rXltWalk d) 24 8 1))

/-- Kinds 1 and 2: the physical pages of a range, and CWB or CINV in every cluster of the folio. -/
def State.adviseClean (s : State) (ctx : Nat) (pages : List Nat) (keep : Bool) : State :=
  let rs := pages.filterMap (fun va => match s.walkAt s.hubDie ctx va with | .leaf e _ => some (e.pa va, e.pa va + 2 ^ 25) | .fault _ _ => none)
  foldS (s.folioCores (s.ctxFolio ctx)) s (fun st n =>
    foldS (((st.cache n).lines.map Prod.fst).filter (inRanges rs)) st (fun st' l => st'.cleanLine n l keep))

/-- ADVISE (R375). It waits for a free walk at both walkers (R361). -/
def execAdvise (queue : Nat) (s : State) : Host.Outcome State Fault Refusal :=
  if 16 ≤ s.walksAt 0 ∨ 16 ≤ s.walksAt 1 then stay s
  else s.runCmd queue 0x22 (fun s1 _ c =>
    match s1.rangeBad c with
    | some e => s1.cmdDone queue e.1 e.2
    | none =>
      let cs := s1.modeCtxs (c.arg 0x34 1) (c.arg 0x36 2)
      let ps := advisePages c
      (foldS cs s1 (fun st i =>
        if c.arg 0x35 1 = 0 then st.adviseWalk i ps else st.adviseClean i ps (c.arg 0x35 1 == 1))).cmdDone queue 0 0)

/-! ## FRAME_SET (R379, R462) -/

/-- A frame-table entry with the masked ones of SHARED, RO_OTH and BIAS changed. -/
def frameBits (e v m : Nat) : Nat :=
  let put := fun (x lo k : Nat) => if bit m k then setBits x lo 1 (b2n (bit v k)) else x
  put (put (put e 6 0) 7 1) 24 2

/-- FRAME_SET (R379): SHARED and RO_OTH at once; BIAS from 0 to 1 sends a RdOwnNoData for each line of the frame, in `out` as one item, and waits
until the lines are back (R462). -/
def execFrameSet (queue : Nat) (s : State) : Host.Outcome State Fault Refusal :=
  s.runCmd queue 0x28 (fun s1 _ c =>
    let f := c.arg 0x28 2
    let v := c.arg 0x2A 1
    let m := c.arg 0x2B 1
    if 8 ≤ v ∨ 8 ≤ m then s1.cmdDone queue 1 0
    else if 16383 < f then s1.cmdDone queue 2 0x28
    else
      match s1.server (f / 256) with
      | none => s1.cmdDone queue 5 0
      | some k =>
        let e := s1.frame k (f % 256)
        if bit m 2 ∧ bit v 2 ∧ ¬ frBias e then ((s1.setFrame k (f % 256) (frameBits e v (m % 4))).emit (.biasTakeback f)).setPhase queue (.running 1)
        else (s1.setFrame k (f % 256) (frameBits e v m)).setPhase queue (.running 0))

/-- BIAS_TAKEBACK_DONE (R462): device bias is in force. -/
def execBiasTakebackDone (queue : Nat) (s : State) : Host.Outcome State Fault Refusal :=
  match s.runningOp queue 0x28 with
  | none => stay s
  | some (x, c) =>
    if x.phase ≠ .running 1 then stay s
    else
      let f := c.arg 0x28 2
      match s.server (f / 256) with
      | none => .next (s.cmdDone queue 5 0)
      | some k => .next ((s.setFrame k (f % 256) (setBits (s.frame k (f % 256)) 24 1 1)).setPhase queue (.running 0))

/-! ## WALK_COMPLETE (R353, R357, R361, R368-R371) -/

/-- The slot's walk is over: it tries its instruction again. -/
def State.walkOver (s : State) (id : Nat) (a : WalkFor) : State :=
  ({ s with walks := tdel id s.walks }).modSlot a.core a.slot (fun x => if x.wait = Wait.walk id then { x with wait := .none } else x)

/-- A miss ends in a fault: a prefetch drops the page (R169); else the record, and the context is suspended; a script lane stands
at its entry (R180). -/
def State.walkFault (s : State) (id : Nat) (w : Walk) (sub lvl : Nat) : State :=
  let a := w.asker
  let s1 := s.walkOver id a
  if a.prefetch then s1.modSlot a.core a.slot (fun x => { x with dropped := sadd (w.va / 2 ^ 25) x.dropped })
  else
    let s2 := s1.xltFault a.core w.ctx w.va a.pc.toNat sub w.access a.source lvl a.index
    if a.source = 2 ∨ a.source = 3 then
      s2.modSlot a.core a.slot (fun x => x.setLane (a.source - 2) { x.lane (a.source - 2) with faulted := true })
    else s2

/-- Does a walk's result fault a miss? -/
def WalkOut.faults (r : WalkOut) (w : Walk) : Option (Nat × Nat) :=
  match r with
  | .fault sub lvl => some (sub, lvl)
  | .leaf e _ => if ¬ permits e.perm w.access ∨ (w.asker.prefetch ∧ e.perm.nc) then some (2, if e.big then 2 else 3) else none

/-- A walk's result for one of the misses that it serves. -/
def State.walkEnd (s : State) (id : Nat) (w : Walk) (r : WalkOut) : State :=
  match r.faults w, r with
  | some (sub, lvl), _ => s.walkFault id w sub lvl
  | none, .leaf e _ =>
    (s.setCore w.asker.core { s.core w.asker.core with tlb := tlbEnter 64 (s.core w.asker.core).tlb e }).walkOver id w.asker
  | none, .fault _ _ => s

/-- WALK_COMPLETE: the walk ends for every miss that it serves (R361). A result that an INVALIDATE struck is discarded and the walk runs again
(R364); one in the range of a MIGRATE waits (R373). FAULTS counts a walk that ended in a fault once (R380). -/
def execWalkComplete (walk : Nat) (s : State) : Host.Outcome State Fault Refusal :=
  match tget walk s.walks with
  | none => stay s
  | some w =>
    let mates := s.walks.filter (fun v => sameWalk v.2 w)
    if s.migHolds walk w.ctx w.va then stay s
    else if mates.any (fun v => v.2.again) then
      .next { s with walks := tmap (fun _ (v : Walk) => if sameWalk v w then { v with again := false } else v) s.walks }
    else
      let r := s.walkAt w.die w.ctx w.va
      let s1 := match r with | .leaf e ups => s.fillWalker w.die e ups | .fault _ _ => s
      let s2 := if mates.any (fun v => (r.faults v.2).isSome) then s1.bumpFld (rXltWalk w.die) 24 8 1 else s1
      .next (foldS mates s2 (fun st v => st.walkEnd v.1 v.2 r))

end Sys2Proof.Machine
end

