-- ==== Sys2Proof/Machine/Composition.lean ====
section
/-! DEFINITION. Sys2Proof/Machine/Composition.lean: slices, folios and rebinding (13 R406-R430, R439, R440), peers and shared links (R431, R433). -/

namespace Sys2Proof.Machine

/-! ## Books -/

/-- How many slices of a kind a package has (R406). -/
def sliceCount (kind : Nat) : Nat := if kind = 0 then 128 else if kind = 1 then 64 else 12

/-- Effective drain limit of a folio in hub cycles (R410). -/
def State.drainLim (s : State) (f : Nat) : Nat := 100000 * max 1 (min 600 (s.folio f).drainLim)

/-- May a folio's epoch advance by `k` (R417)? -/
def State.epochRoom (s : State) (f k : Nat) : Bool :=
  let near := fun (e : Nat) => decide (((s.folio f).epoch + k + 65536 - e % 65536) % 65536 < 2 ^ 15)
  s.reqs.all (fun r => r.2.folio != f || r.2.status.isSome || near r.2.epoch) &&
  s.sifts.all (fun q => q.2.folio != f || near q.2.epoch) && s.offers.all (fun o => o.2.folio != f || near o.2.epoch)

/-- Has a folio an admitted context (R520)? -/
def State.hasAdmitted (s : State) (f : Nat) : Bool := s.ctxs.any (fun c => c.2.folio == f && c.2.admitted.isSome)

/-- The test of R411 for a core slice and a FIXFREQ destination with a floor. -/
def State.freqConflict (s : State) (n g floor : Nat) : Bool :=
  decide ((s.region (n / 8)).ratedMhz < floor) ||
  (List.range 8).any (fun k =>
    let e := s.coreSlice (n / 8 * 8 + k)
    let f := s.folio e.owner
    e.st == .owned && e.owner != g && f.valid && f.fixfreq && f.floorMhz != floor)

/-- REBIND (R430), to the folio 0 ring and, as copies, to the folios involved. -/
def State.rebind (s : State) (kind n outcome frm dest efrom eto lost : Nat) (first : Option Nat) (started : Nat) : State :=
  let mk := fun (f a b : Nat) => s.record tyRebind f 0 0xFFFF 18
    (le 1 kind ++ le 1 n ++ le 1 outcome ++ le 1 a ++ le 1 b ++ zeros 3 ++ le 2 efrom ++ le 2 eto ++ le 4 lost ++ le 8 (s.hubCount - started) ++
     le 4 (match first with | some c => c + 2 ^ 31 | none => 0))
  let copy := fun (st : State) (f a b : Nat) =>
    if f = 0 ∨ f = 0x3F ∨ (s.folio f).evring = 0 then st else st.ringPut (s.folio f).evring (mk f a b)
  copy (copy (s.ringPut 0 (mk (if frm = 0x3F then dest else frm) frm dest)) frm frm 0x3F) dest 0x3F dest

/-- Clears the sixteen latency maxima of a home (R298). -/
def State.clearLat (s : State) (h : Nat) : State := foldS (List.range 4) s (fun st k => (st.setReg (rLatOwn h k) 0).setReg (rLatOth h k) 0)

/-- The frame-table entry with which a slice joins a folio (R424 step 1). -/
def joinFrame (g : Nat) (f : Folio) (i : Nat) : Nat :=
  g + (if f.conf then (g + 1) * 2 ^ 8 + b2n (decide (248 ≤ i)) * 2 ^ 15 + f.keyEpoch * 2 ^ 16 else 0)

/-- A slice joins folio `g` (R424); `bump`: its epoch advances. -/
def State.joinSlice (s : State) (kind n g : Nat) (bump : Bool) : State :=
  let e := s.sliceE kind n
  let s1 := if kind = 1 then (s.setFrames n (joinFrame g (s.folio g))).clearLat n else s
  let s2 := s1.setSliceE kind n { st := .owned, owner := g, serve := if kind = 1 then (if e.serve.isSome then e.serve else e.keep) else none }
  let s3 := if bump then s2.bumpEpoch g else s2
  (if kind = 0 then s3.repin else s3).capChange

/-- A command waits for folio `g`'s epoch to be in force (R424 step 3). -/
def State.awaitEpoch (s : State) (g : Nat) (queue : Option Nat) : State :=
  match queue with
  | some q => (s.setFolio g { s.folio g with epochPend := (s.folio g).epochPend ++ [q] }).setPhase q (.running 9)
  | none => s

/-- A command ends with a status, where there is one. -/
def State.endFor (s : State) (queue : Option Nat) (status : Nat) : State :=
  match queue with | some q => s.cmdDone q status 0 | none => s

/-- EPOCH_IN_FORCE (R413, R424 step 3). -/
def execEpochInForce (folio : Nat) (s : State) : Host.Outcome State Fault Refusal :=
  let f := s.folio folio
  .next (foldS f.epochPend (s.setFolio folio { f with epochPend := [] }) (fun st q => st.cmdDone q 0 0))

/-! ## Joining and initialising (R424, R575) -/

/-- The slice joins its folio: its record and its command. -/
def State.joinDone (s : State) (kind n g : Nat) (queue : Option Nat) (started : Nat) : State :=
  let s1 := s.joinSlice kind n g true
  (s1.rebind kind n 0 0x3F g 0 (s1.folio g).epoch 0 none started).awaitEpoch g queue

/-- A memory slice is initialised before it joins a confidential folio (R575). -/
def State.startInit (s : State) (n g : Nat) (queue : Option Nat) (started : Nat) : State :=
  s.setMemSlice n { s.memSlice n with init := true, dest := g, queue, started }

/-- Every byte of a slice reads zero; its poison and tags are sound (R426, R575). -/
def State.wipeSlice (s : State) (n : Nat) : State :=
  let other := fun (a : Nat) => a / 2 ^ 33 != n
  { s with hbm := mzero s.hbm (slicePa n 0) (2 ^ 33), poison := s.poison.filter other, tags := tfilter (fun a _ => other a) s.tags }

/-- CONF_SLICE_INIT_COMPLETE (R575): a slice of a creation joins without advancing the epoch (R414), and the last ends the
command; a slice of an attach or a transfer joins. -/
def execConfSliceInitComplete (slice : Nat) (s : State) : Host.Outcome State Fault Refusal :=
  let e := s.memSlice slice
  if ¬ e.init then stay s
  else
    let s1 := (s.wipeSlice slice).setMemSlice slice { e with init := false }
    let create := match e.queue with
      | some q => (match s.queue? q with | some x => (match x.cmds with | c :: _ => c.op == 0x30 | [] => false) | none => false)
      | none => false
    if create then
      (let s2 := (s1.joinSlice 1 slice e.dest false).rebind 1 slice 0 0x3F e.dest 0 0 0 none e.started
       .next (if (List.range 64).any (fun n => (s2.memSlice n).init && (s2.memSlice n).dest == e.dest) then s2 else s2.endFor e.queue 0))
    else .next (s1.joinDone 1 slice e.dest e.queue e.started)

/-! ## Departures (R414, R420, R422, R423) -/

/-- An FWAIT whose watch entry has ended reads its word again (R420). -/
def State.reread (s : State) (c k : Nat) (x : Slot) (e : WatchEntry) : State :=
  match x.wait with
  | .fence f =>
    (match s.readLine x.ctx (s.ctxFolio x.ctx) f.pa 4 with
     | (.ok, b, s1) =>
       if satisfies (BitVec.ofNat 32 (unle b)) f.target then s1.fenceHit c k
       else
         let r := s1.takeWatch e
         r.2.pollAgain c k { f with poll := f.poll || !r.1 }
     | (er, _, s1) => s1.pollFault c k x f er)
  | _ => s

/-- The fence watch entries of a folio at a departing memory slice's home end (R420). -/
def State.endWatches (s : State) (n f : Nat) : State :=
  let h := s.home n
  foldS (h.watch.filter (fun e => e.folio == f)) (s.setHome n { h with watch := h.watch.filter (fun e => e.folio != f) }) (fun st e =>
    match e.who with
    | .fwait c k => (match st.slot? c k with | some x => st.reread c k x e | none => st)
    | _ => st)

/-- A slice starts to depart (R422 step 1, R423 step 1). -/
def State.depart (s : State) (kind n dest : Nat) (queue : Option Nat) : State :=
  let e := s.sliceE kind n
  let s1 := s.bumpEpoch e.owner
  let s2 := s1.setSliceE kind n
    { e with st := .transit, dest, epochOut := (s1.folio e.owner).epoch, shared := [], queue, started := s.hubCount }
  (if kind = 0 then s2.repin else if kind = 1 then s2.endWatches n e.owner else s2).capChange

/-- The contexts of a folio that are resident on a core slice. -/
def State.sliceCtxs (s : State) (n f : Nat) : List Nat :=
  ((s.allSlots.filter (fun x => s.sliceOf x.1 == n && s.ctxFolio x.2.2.ctx == f)).map (fun x => x.2.2.ctx)).eraseDups

/-- What a departing slice does by itself: idle contexts leave a core slice, then its cluster cache empties (R422 steps 4, 5); a
memory slice's home recalls its directory (R423 step 3). -/
def State.gather (s : State) (kind n : Nat) : State :=
  if kind = 0 then
    (let f := (s.coreSlice n).owner
     let s1 := foldS (s.sliceCtxs n f) s State.leaveDeparting
     if s1.sliceCtxs n f = [] then foldS ((s1.cache n).lines.map Prod.fst) s1 (fun st l => if st.lineBusy n l then st else st.cleanLine n l false)
     else s1)
  else if kind = 1 then
    foldS ((s.home n).dir.map Prod.fst) s (fun st l => if (tget l (st.home n).txns).isNone then st.recallLine n l else st)
  else s

/-- Is a slice on its way out of its folio? -/
def SliceE.leaving (e : SliceE) : Bool := e.st == .transit && !e.scrub && !e.init && e.moveFrom.isNone

/-- The record of a folio that is destroyed ends with its contexts, queues and rings (R408, R429). -/
def State.releaseFolio (s : State) (f queue : Nat) : State :=
  let s1 := foldS (s.folioCtxs f) s (fun st c => (st.ctxResetQuiet c 0x0F).evictCtx c)
  let s2 := foldS (s1.folioQueues f) s1 State.killQueue
  let s3 := foldS (s2.folioCtxs f) s2 (fun st c => st.killCtx c 0 0 0x31)
  let s4 := (foldS (s3.folioRings f) s3 (fun st r => st.killRing r 0 0 0x31)).releaseQuarantine f
  let s5 := foldS (List.range 12) s4 (fun st l => st.setLinkSlice l { st.linkSlice l with shared := sdel f (st.linkSlice l).shared })
  ((s5.setFolio f {}).repin.capChange).cmdDone queue 0 0

/-- A folio under FOLIO_DESTROY is released after its last slice has departed. -/
def State.destroyCheck (s : State) (f : Nat) : State :=
  match (s.folio f).destroying with
  | none => s
  | some q =>
    let here : SliceE → Bool := fun e => e.owner == f && (e.st == .owned || e.leaving)
    if (List.range 128).any (fun n => here (s.coreSlice n)) ∨ (List.range 64).any (fun n => here (s.memSlice n)) ∨
        (List.range 12).any (fun n => here (s.linkSlice n)) then s
    else s.releaseFolio f q

/-- A drained slice flips (R419, R422 step 6, R423 step 4, R576). -/
def State.flip (s : State) (kind n : Nat) : State :=
  let e := s.sliceE kind n
  let f := e.owner
  let g := e.dest
  let efrom := e.epochOut
  let s0 := if kind = 1 then s.unserve n else s
  let note := fun (st : State) (eto : Nat) => st.rebind kind n 0 f g efrom eto 0 none e.started
  let s1 :=
    if g = 0x3F then
      (let st := if kind = 1 then s0.startScrub n else s0.setSliceE kind n {}
       (note st.capChange 0).endFor e.queue 0)
    else if kind = 1 ∧ s.isConf f then note (s0.setMemSlice n { s0.memSlice n with scrub := true }) 0
    else if kind = 1 ∧ s.isConf g then note (s0.startInit n g e.queue e.started) 0
    else (let st := s0.joinSlice kind n g true; (note st (st.folio g).epoch).awaitEpoch g e.queue)
  s1.destroyCheck f

/-- DRAIN_ZERO (R419): `kind` 0 core, 1 memory, 2 link; joining its destination waits for the epoch's room (R417). -/
def execDrainZero (kind slice : Nat) (s : State) : Host.Outcome State Fault Refusal :=
  if ¬ (s.sliceE kind slice).leaving ∨ sliceCount kind ≤ slice ∨ 2 < kind then stay s
  else
    let s1 := s.gather kind slice
    let e := s1.sliceE kind slice
    .next (if s1.drain kind slice = 0 ∧ (63 < e.dest ∨ s1.epochRoom e.dest 1) then s1.flip kind slice else s1)

/-- SCRUB_COMPLETE (R426, R429, R576). -/
def execScrubComplete (slice : Nat) (s : State) : Host.Outcome State Fault Refusal :=
  let e := s.memSlice slice
  if ¬ (e.st = .transit ∧ e.scrub) then stay s
  else
    let s1 := (s.wipeSlice slice).setHome slice {}
    if e.dest = 0x3F then .next ((s1.setMemSlice slice { serve := if e.serve.isSome then e.serve else e.keep }).capChange)
    else
      let s2 := s1.setMemSlice slice { e with scrub := false }
      .next (if s.isConf e.dest then s2.startInit slice e.dest e.queue e.started else s2.joinDone 1 slice e.dest e.queue e.started)

/-! ## Drain limit (R428) -/

/-- The requests of R419 that a slice's counter still holds, with multicasts to a core slice. -/
def State.countedReqs (s : State) (kind n : Nat) : List Nat :=
  (s.reqs.filter (fun r => r.2.status.isNone && ((s.reqsAt kind n).contains r.1 || (kind == 0 && r.2.rect.any (fun z => s.inRect z n))))).map Prod.fst

/-- The fence offers that a slice's counter still holds, other than those under way as requests. -/
def State.countedOffers (s : State) (kind n : Nat) : List (Nat × Offer) :=
  s.offers.filter (fun o => !s.offerSent o.1 &&
    (if kind = 0 then (match o.2.issuer with | .fwait c _ => s.sliceOf c == n | _ => false)
     else kind == 1 && s.atSlice n o.2.folio o.2.epoch o.2.pa))

/-- Completes requests as LOST. -/
def State.loseReqs (s : State) (l : List Nat) : State :=
  foldS l s (fun st i => match st.req? i with | some q => if q.status.isNone then st.finish i q .lost [] else st | none => st)

/-- Is a snoop that asks a cache to forward a line on its way? -/
def State.forwards (s : State) (n line : Nat) : Bool := match tget line (s.cache n).probes with | some p => p.kind != .inv | none => false

/-- A home takes a cache that is gone as having answered PrbMiss (R327). -/
def State.answerFor (s : State) (n : Nat) : State :=
  foldS (s.homes.map Prod.fst ++ [64]) s (fun st h =>
    foldS ((st.home h).txns.filter (fun t => t.2.waiting.contains n)) st (fun st2 t =>
      (if st2.forwards n t.1 then st2.cohCount h 24 8 else st2).answered h t.1 n (.miss true)))

/-- A cluster cache's contents are lost, and the homes forget it. -/
def State.loseCache (s : State) (n : Nat) : State :=
  let s1 := (s.answerFor n).setCache n {}
  foldS (s1.homes.map Prod.fst ++ [64]) s1 (fun st h =>
    foldS ((st.home h).dir.filter (fun d => d.2.sharers.contains n)) st (fun st2 d => st2.dirRemove h d.1 n))

/-- A cache without the lines that satisfy `p`. -/
def Cache.without (c : Cache) (p : Nat → Bool) : Cache :=
  let a := tfilter (fun l (_ : CLine) => !p l) c.lines
  let b := tfilter (fun l (_ : WbEntry) => !p l) c.wb
  let d := tfilter (fun l (_ : Probe) => !p l) c.probes
  let e := tfilter (fun l (_ : PrbAns) => !p l) c.answers
  { lines := a, wb := b, probes := d, answers := e }

/-- A home's directory is lost, and no cache keeps a line of its position. -/
def State.loseHome (s : State) (n : Nat) : State :=
  let mine := fun (l : Nat) => decide (l < 2 ^ 39 ∧ some (l / 2 ^ 33) = (s.memSlice n).serve)
  ({ s with caches := tmap (fun _ (c : Cache) => c.without mine) s.caches }).setHome n {}

/-- DRAIN_LIMIT_EXPIRY (R428). -/
def execDrainLimitExpiry (kind slice : Nat) (s : State) : Host.Outcome State Fault Refusal :=
  let e := s.sliceE kind slice
  if ¬ e.leaving ∨ sliceCount kind ≤ slice ∨ 2 < kind ∨ s.hubCount < e.started + s.drainLim e.owner then stay s
  else
    let s0 := s.gather kind slice
    if s0.drain kind slice = 0 then stay s
    else
      let f := e.owner
      let s1 := if kind = 0 then foldS (s0.sliceCtxs slice f) s0 (fun st c => ((st.ctxResetFree c 0x0F).evictCtx c)) else s0
      let l := s1.countedReqs kind slice
      let sf := if kind = 1 then s1.sifts.filter (fun q => q.2.unit == slice) else []
      let os := s1.countedOffers kind slice
      let first := (l.filterMap (fun i => (s1.req? i).map (fun q => q.ctx)) ++ sf.map (fun q => q.2.ctx) ++ os.map (fun o => o.2.ctx)).head?
      let s2 := foldS os (s1.loseReqs l) (fun st o => st.offerEnd o.1 o.2 .lost false)
      let s3 := foldS sf s2 (fun st q => st.siftFail q.1 q.2 0x11 0 0)
      let s4 := if kind = 0 then s3.loseCache slice else if kind = 1 then s3.loseHome slice else s3
      let s5 := s4.setSliceE kind slice { s4.sliceE kind slice with st := .quarantined, dest := 0x3F, queue := none }
      let s6 := (s5.rebind kind slice 1 f 0x3F e.epochOut 0 (l.length + sf.length + os.length) first e.started).capChange
      .next ((s6.endFor e.queue 0).destroyCheck f)

/-! ## Composition commands (R408-R411, R487) -/

/-- Is a folio id of a command wrong: beyond its range, or not VALID? -/
def State.folioBad (s : State) (f o : Nat) : Option (Nat × Nat) :=
  if 63 < f then some (2, o) else if ¬ (s.folio f).valid then some (3, 0) else none

/-- Would a folio be left below the minimum of R409 without one slice of a kind? -/
def State.lastSlice (s : State) (f kind : Nat) : Bool :=
  !(s.folio f).guest && ((kind == 0 && decide ((s.folioCores f).length ≤ 1)) || (kind == 1 && decide ((s.folioMems f).length ≤ 1)))

/-- The folio ids not in use (R409). -/
def State.freeFolios (s : State) : List Nat := (List.range 64).filter (fun f => f != 0 && !(s.folio f).valid && (s.folio f).destroying.isNone)

/-- The bits of a mask of `n` bits. -/
def maskBits (m n : Nat) : List Nat := (List.range n).filter (fun i => bit m i)

/-- What is wrong with a folio record's own fields (R410): DETAIL of BADARG. -/
def recordBad (b : Bytes) : Option Nat :=
  let fl := fieldLe b 0 2
  if 16 ≤ fl then some 0
  else if bit fl 2 = false ∧ fieldLe b 6 2 ≠ 0 then some 6
  else if 2 ^ 12 ≤ fieldLe b 0x20 2 then some 0x20
  else if (bit fl 3 = false ∧ fieldLe b 0x24 4 ≠ 0) ∨ 2 ^ 22 ≤ fieldLe b 0x24 4 then some 0x24
  else if fieldLe b 0x28 8 % 4096 ≠ 0 then some 0x28
  else if (List.range 16).any (fun i => fieldLe b (0x30 + i) 1 != 0) then some 0x30
  else none

/-- May the listed slices form the folio: status and DETAIL of the first test that fails, in the order of R408. -/
def State.createBad (s : State) (b : Bytes) (cores mems links : List Nat) : Option (Nat × Nat) :=
  let fl := fieldLe b 0 2
  let conf := bit fl 1
  let guest := bit fl 3
  let free : SliceE → Bool := fun e => e.st == .free && !e.init
  let corr := fieldLe b 0x28 8
  match recordBad b with
  | some d => some (2, inBlock d)
  | none =>
    if s.freeFolios = [] then some (4, 0)
    else if ¬ (cores.all (fun n => free (s.coreSlice n)) ∧ mems.all (fun n => free (s.memSlice n)) ∧ links.all (fun n => free (s.linkSlice n))) then
      some (5, 0)
    else if conf ∧ (¬ s.clasp.confEn ∨ guest ∨ links ≠ []) then some (6, 0)
    else if guest ∧ (cores ≠ [] ∨ links ≠ []) then some (6, 0)
    else if corr ≠ 0 ∧ ¬ (corr < 2 ^ 39 ∧ mems.any (fun n => (s.memSlice n).serve == some (corr / 2 ^ 33))) then some (2, inBlock 0x28)
    else if bit fl 2 ∧ cores.any (fun n => s.freqConflict n 0x3F (fieldLe b 6 2)) then some (9, 0)
    else if ¬ guest ∧ (cores = [] ∨ mems = []) then some (7, 0)
    else none

/-- The folio of a record comes into being with its slices (R414); which free id it takes is not stated, so it is a free value
among them (log 6). -/
def State.createFolio (s : State) (queue : Nat) (b : Bytes) (cores mems links : List Nat) : State :=
  let fl := fieldLe b 0 2
  let ids := s.freeFolios
  let g := (ids[s.freeNat % ids.length]?).getD 1
  let keys := (s.useFree).freeKeys
  let s1 := (if bit fl 1 then s.useFree.useFree.useFree.useFree else s.useFree).setFolio g
    { valid := true, conf := bit fl 1, keys := if bit fl 1 then keys else {}, fixfreq := bit fl 2, guest := bit fl 3, drainLim := fieldLe b 4 2, floorMhz := fieldLe b 6 2,
      guestOf := fieldLe b 0x24 4, corrBase := fieldLe b 0x28 8 }
  let join := fun (kind : Nat) (st : State) (n : Nat) => (st.joinSlice kind n g false).rebind kind n 0 0x3F g 0 0 0 none s.hubCount
  let s2 := foldS links (foldS cores s1 (join 0)) (join 2)
  if bit fl 1 then (foldS mems s2 (fun st n => st.startInit n g (some queue) s.hubCount)).setPhase queue (.running 0)
  else (foldS mems s2 (join 1)).repin.cmdDone queue 0 0

/-- FOLIO_CREATE (R408-R411, R414, R573-R575). -/
def execFolioCreate (queue : Nat) (s : State) : Host.Outcome State Fault Refusal :=
  s.runComposition queue 0x30 (fun s1 _ c => s1.withBlock queue c 64 (fun s2 b =>
    let cores := maskBits (fieldLe b 8 16) 128
    let mems := maskBits (fieldLe b 0x18 8) 64
    let links := maskBits (fieldLe b 0x20 2) 12
    match s2.createBad b cores mems links with
    | some e => s2.cmdDone queue e.1 e.2
    | none => s2.createFolio queue b cores mems links))

/-- FOLIO_DESTROY (R408, R421, R429): its sets are dissolved and every slice departs. -/
def execFolioDestroy (queue : Nat) (s : State) : Host.Outcome State Fault Refusal :=
  s.runComposition queue 0x31 (fun s1 _ c =>
    let f := c.arg 0x28 1
    let k := (s.folioCores f).length + (s.folioMems f).length + (s.folioLinks f).length
    if f = 0 then s1.cmdDone queue 0x0A 0
    else match s1.folioBad f 0x28 with
      | some e => s1.cmdDone queue e.1 e.2
      | none =>
        if ¬ s.epochRoom f k then s
        else
          let mine := fun (m : Nat × Nat) => m.1 == 0 && (s.memSlice m.2).owner == f
          let s2 := { s1 with prots := s1.prots.filter (fun p => !p.members.any mine) }
          let s3 := (s2.setFolio f { s2.folio f with destroying := some queue }).setPhase queue (.running 0)
          let s4 := foldS (s.folioCores f) s3 (fun st n => st.depart 0 n 0x3F none)
          let s5 := foldS (s.folioMems f) s4 (fun st n => st.depart 1 n 0x3F none)
          let s6 := foldS ((List.range 12).filter (fun n => (s.linkSlice n).st == .owned && (s.linkSlice n).owner == f)) s5 (fun st n => st.depart 2 n 0x3F none)
          s6.destroyCheck f)

/-- The arguments of SLICE_ATTACH, SLICE_DETACH and SLICE_TRANSFER (R487): what is wrong with them. -/
def State.sliceArgBad (s : State) (op kind n src dst : Nat) : Option (Nat × Nat) :=
  if 2 < kind then some (2, 0x28)
  else if sliceCount kind ≤ n then some (2, 0x29)
  else if (op = 0x32) ≠ (src = 0x3F) then some (2, 0x2A)
  else if (op = 0x33) ≠ (dst = 0x3F) then some (2, 0x2B)
  else if op = 0x34 ∧ src = dst then some (2, 0x2B)
  else match (if op = 0x32 then none else s.folioBad src 0x2A) with
    | some e => some e
    | none => if op = 0x33 then none else s.folioBad dst 0x2B

/-- The tests on the source folio: OWNED by it, no admitted context, not in a set, not its last (R408, R409, R520). -/
def State.leaveBad (s : State) (kind n src : Nat) : Option Nat :=
  let e := s.sliceE kind n
  if ¬ (e.st = .owned ∧ e.owner = src) ∨ s.hasAdmitted src then some 5
  else if kind = 1 ∧ s.inSet n then some 8
  else if s.lastSlice src kind then some 7
  else none

/-- The tests on the destination folio (R409, R411, R520, R573). -/
def State.enterBad (s : State) (kind n dst : Nat) : Option Nat :=
  let f := s.folio dst
  if s.hasAdmitted dst ∨ (f.conf ∧ kind = 2) ∨ (f.guest ∧ kind ≠ 1) then some 5
  else if kind = 0 ∧ f.fixfreq ∧ s.freqConflict n dst f.floorMhz then some 9
  else none

/-- SLICE_ATTACH (R408, R411, R424, R575). -/
def execSliceAttach (queue : Nat) (s : State) : Host.Outcome State Fault Refusal :=
  s.runComposition queue 0x32 (fun s1 _ c =>
    let kind := c.arg 0x28 1
    let n := c.arg 0x29 1
    let g := c.arg 0x2B 1
    let e := s1.sliceE kind n
    match s1.sliceArgBad 0x32 kind n (c.arg 0x2A 1) g with
    | some e => s1.cmdDone queue e.1 e.2
    | none =>
      if e.st ≠ .free ∨ e.init then s1.cmdDone queue 5 0
      else match s1.enterBad kind n g with
        | some st => s1.cmdDone queue st 0
        | none =>
          if ¬ s.epochRoom g 1 then s
          else if kind = 1 ∧ s1.isConf g then (s1.startInit n g (some queue) s.hubCount).setPhase queue (.running 0)
          else s1.joinDone kind n g (some queue) s.hubCount)

/-- SLICE_DETACH (R422, R423). -/
def execSliceDetach (queue : Nat) (s : State) : Host.Outcome State Fault Refusal :=
  s.runComposition queue 0x33 (fun s1 _ c =>
    let kind := c.arg 0x28 1
    let n := c.arg 0x29 1
    let f := c.arg 0x2A 1
    match s1.sliceArgBad 0x33 kind n f (c.arg 0x2B 1) with
    | some e => s1.cmdDone queue e.1 e.2
    | none => match s1.leaveBad kind n f with
      | some st => s1.cmdDone queue st 0
      | none => if ¬ s.epochRoom f 1 then s else (s1.depart kind n 0x3F (some queue)).setPhase queue (.running 0))

/-- SLICE_TRANSFER (R422, R423). -/
def execSliceTransfer (queue : Nat) (s : State) : Host.Outcome State Fault Refusal :=
  s.runComposition queue 0x34 (fun s1 _ c =>
    let kind := c.arg 0x28 1
    let n := c.arg 0x29 1
    let f := c.arg 0x2A 1
    let g := c.arg 0x2B 1
    match s1.sliceArgBad 0x34 kind n f g with
    | some e => s1.cmdDone queue e.1 e.2
    | none => match (match s1.leaveBad kind n f with | some st => some st | none => s1.enterBad kind n g) with
      | some st => s1.cmdDone queue st 0
      | none => if ¬ s.epochRoom f 1 ∨ ¬ s.epochRoom g 1 then s else (s1.depart kind n g (some queue)).setPhase queue (.running 0))

/-! ## Moves (R425) -/

/-- SLICE_MOVE. -/
def execSliceMove (queue : Nat) (s : State) : Host.Outcome State Fault Refusal :=
  s.runComposition queue 0x35 (fun s1 _ c =>
    let x := c.arg 0x28 1
    let y := c.arg 0x29 1
    let ex := s1.memSlice x
    let ey := s1.memSlice y
    if 63 < x then s1.cmdDone queue 2 0x28
    else if 63 < y then s1.cmdDone queue 2 0x29
    else if ex.st ≠ .owned ∨ ey.st ≠ .free ∨ ey.init ∨ s1.hasAdmitted ex.owner then s1.cmdDone queue 5 0
    else if s1.inSet x then s1.cmdDone queue 8 0
    else if ¬ s.epochRoom ex.owner 1 then s
    else
      ((s1.setMemSlice x { ex with moveTo := some y, queue := some queue, started := s.hubCount }).setMemSlice y
        { ey with st := .transit, owner := 0x3F, dest := ex.owner, moveFrom := some x }).setPhase queue (.running 0))

/-- Slice X's contents, poison and tags as they stand, on slice Y. -/
def State.copySlice (s : State) (x y : Nat) : State :=
  let at_ := fun (a : Nat) => slicePa y (a % 2 ^ 33)
  let low := s.hbm.filter (fun c => decide (c.1 < slicePa y 0))
  let mid := (s.hbm.filter (fun c => decide (slicePa x 0 ≤ c.1 ∧ c.1 < slicePa (x + 1) 0))).map (fun c => (at_ c.1, c.2))
  let high := s.hbm.filter (fun c => decide (slicePa (y + 1) 0 ≤ c.1))
  let move := fun (l : List Nat) => l.filter (fun a => a / 2 ^ 33 != y) ++ (l.filter (fun a => a / 2 ^ 33 == x)).map at_
  { s with hbm := low ++ mid ++ high, poison := move s.poison,
           tags := s.tags.foldl (fun t e => if e.1 / 2 ^ 33 = x then tput (at_ e.1) e.2 t else t) (tfilter (fun a _ => a / 2 ^ 33 != y) s.tags) }

/-- A move ends without effect: Y is scrubbed to the pool (13, when events coincide). -/
def State.abandonMove (s : State) (x y : Nat) : State :=
  let q := (s.memSlice x).queue
  let s1 := s.setMemSlice x { s.memSlice x with moveTo := none, queue := none }
  (s1.startScrub y).endFor q 0x12

/-- SLICE_MOVE_COPY_COMPLETE of X (R425 steps 3, 4): once the home has taken its lines back and the epoch has room (R417), Y takes X's place. -/
def execSliceMoveCopyComplete (slice : Nat) (s : State) : Host.Outcome State Fault Refusal :=
  let e := s.memSlice slice
  match e.moveTo with
  | none => stay s
  | some y =>
    let ey := s.memSlice y
    let s0 := s.gather 1 slice
    if e.st ≠ .owned ∨ ey.moveFrom ≠ some slice ∨ ¬ s.epochRoom e.owner 1 then stay s
    else if (s0.home slice).txns ≠ [] ∨ (s0.home slice).dir ≠ [] then .next s0
    else
      let f := e.owner
      let s1 := s0.copySlice slice y
      let s2 := (s1.setFrames y (fun i => s1.frame slice i)).bumpEpoch f
      let ep := (s2.folio f).epoch
      let s3 := s2.setMemSlice y { st := .owned, owner := f, serve := e.serve }
      let s4 := s3.setMemSlice slice { e with st := .transit, dest := 0x3F, epochOut := ep, moveTo := none, queue := none, started := s.hubCount, moved := e.serve,
                                               serve := if ey.serve.isSome then ey.serve else ey.keep }
      let s5 := ((s4.clearLat y).rebind 1 y 2 0x3F f 0 ep 0 none e.started).endWatches slice f
      .next ((s5.awaitEpoch f e.queue).capChange)

/-! ## Protection sets (R439) -/

/-- The members that a SET_PROTECT block names, in order: package and slice. -/
def setMembers (b : Bytes) (n : Nat) : List (Nat × Nat) := (List.range n).map (fun i => (fieldLe b (8 + 8 * i) 2, bits (fieldLe b (8 + 8 * i) 8) 16 6))

/-- May members form a set: all local ones OWNED by one folio and in no set, distinct; a partner on an assigned peer only in a
mirrored pair of a folio that is not confidential. -/
def State.setBad (s : State) (op : Nat) (l : List (Nat × Nat)) : Option Nat :=
  let loc := l.filter (fun m => m.1 == 0)
  let far := l.filter (fun m => m.1 != 0)
  match loc with
  | [] => some 6
  | m :: _ =>
    let f := (s.memSlice m.2).owner
    if ¬ loc.all (fun k => (s.memSlice k.2).st == .owned && (s.memSlice k.2).moveTo.isNone) then some 5
    else if ¬ loc.all (fun k => (s.memSlice k.2).owner == f && !s.inSet k.2) ∨ ¬ l.Nodup then some 6
    else if ¬ l.dropLast.all (fun k => k.1 == 0) ∨ (far ≠ [] ∧ (op = 2 ∨ s.isConf f ∨ ¬ far.all (fun k => s.peers.any (fun p => p.2 == k.1)))) then some 6
    else none

/-- A slice's cells as (offset, byte). -/
def State.sliceCells (s : State) (n : Nat) : List (Nat × Byte) :=
  (s.hbm.filter (fun c => c.1 / 2 ^ 33 == n)).map (fun c => (c.1 % 2 ^ 33, c.2))

/-- The contents that a set's last member takes when it forms: a copy of the primary, or the XOR of the data members (R440,
R442). -/
def State.fillLast (s : State) (op last : Nat) (data : List Nat) : State :=
  if op = 1 then (match data with | p :: _ => s.copySlice p last | [] => s)
  else
    let w := s.wipeSlice last
    { w with hbm := data.foldl (fun h n => (s.sliceCells n).foldl (fun h2 c =>
        mset h2 (slicePa last c.1) (mbyte h2 (slicePa last c.1) ^^^ c.2)) h) w.hbm }

/-- A set forms: its last member, when local, gives up its position and takes the set's redundancy. -/
def State.formSet (s : State) (op : Nat) (l : List (Nat × Nat)) : State :=
  match l.getLast? with
  | some (0, q) =>
    let s1 := s.gather 1 q
    let e := s1.memSlice q
    let s2 := s1.setMemSlice q { e with keep := e.serve, serve := none }
    { s2.fillLast op q (l.dropLast.map Prod.snd) with prots := s2.prots ++ [{ members := l }] }
  | _ => { s with prots := s.prots ++ [{ members := l }] }

/-- A set is dissolved: a last member that serves none serves its own position again. -/
def State.dissolve (s : State) (p : ProtSet) : State :=
  let s1 := { s with prots := s.prots.filter (fun x => x != p) }
  match p.members.getLast? with
  | some (0, q) =>
    let e := s1.memSlice q
    if e.serve.isNone then s1.setMemSlice q { e with serve := e.keep, keep := none } else s1
  | _ => s1

/-- SET_PROTECT (R439, R573). -/
def execSetProtect (queue : Nat) (s : State) : Host.Outcome State Fault Refusal :=
  s.runCmd queue 0x36 (fun s1 _ c => s1.withBlock queue c 64 (fun s2 b =>
    let op := fieldLe b 0 1
    let n := fieldLe b 1 1
    let l := setMembers b n
    if 2 < op then s2.cmdDone queue 2 (inBlock 0)
    else if n ≠ 2 ∧ n ≠ 5 then s2.cmdDone queue 2 (inBlock 1)
    else if (List.range n).any (fun i => decide (2 ^ 22 ≤ fieldLe b (8 + 8 * i) 8)) then s2.cmdDone queue 2 (inBlock 8)
    else if op = 0 then
      (match s2.prots.find? (fun p => p.members == l) with
       | some p => (s2.dissolve p).cmdDone queue 0 0
       | none => s2.cmdDone queue 6 0)
    else if (op = 1) ≠ (n = 2) then s2.cmdDone queue 6 0
    else match s2.setBad op l with
      | some st => s2.cmdDone queue st 0
      | none => (s2.formSet op l).cmdDone queue 0 0))

/-! ## Peers and shared links (R431, R433), queries (R410) -/

/-- Does any folio have a request outstanding to a peer window? -/
def State.peerBusy (s : State) (i : Nat) : Bool :=
  s.reqs.any (fun r => r.2.status.isNone && (match s.route r.2.pa with | .peer j _ => j == i | _ => false)) ||
  s.offers.any (fun o => match s.route o.2.pa with | .peer j _ => j == i | _ => false)

/-- PEER_SET (R431). -/
def execPeerSet (queue : Nat) (s : State) : Host.Outcome State Fault Refusal :=
  s.runCmd queue 0x37 (fun s1 _ c =>
    let i := c.arg 0x28 1
    let v := c.arg 0x30 8
    let links := (bits v 16 12) ||| s1.peerLinks i
    if 14 < i then s1.cmdDone queue 2 0x28
    else if 2 ^ 32 ≤ v ∨ bits v 28 3 ≠ 0 then s1.cmdDone queue 2 0x30
    else if (maskBits links 12).any (fun l => let e := s1.linkSlice l; (e.st == .owned && e.owner != 0) || e.shared.any (fun f => f != 0)) ∨ s1.peerBusy i then
      s1.cmdDone queue 5 0
    else ({ s1.setReg (rPeer i) v with peerLost := tdel i s1.peerLost }).capChange.cmdDone queue 0 0)

/-- LINK_SHARE (R433, R573). -/
def execLinkShare (queue : Nat) (s : State) : Host.Outcome State Fault Refusal :=
  s.runCmd queue 0x38 (fun s1 _ c =>
    let l := c.arg 0x28 1
    let fs := maskBits (c.arg 0x30 8) 64
    let e := s1.linkSlice l
    if 11 < l then s1.cmdDone queue 2 0x28
    else if ¬ (e.st = .owned ∧ e.owner = 0) ∨ fs.any s1.isConf then s1.cmdDone queue 5 0
    else (s1.setLinkSlice l { e with shared := fs }).capChange.cmdDone queue 0 0)

/-- A folio record in the format of R410; all zeros for an id not in use (R484). -/
def State.folioRecord (s : State) (f : Nat) : Bytes :=
  let x := s.folio f
  if ¬ x.valid then zeros 64
  else
    le 2 (1 + b2n x.conf * 2 + b2n x.fixfreq * 4 + b2n x.guest * 8) ++ le 2 x.epoch ++ le 2 x.drainLim ++ le 2 x.floorMhz ++
    le 16 (maskOf (s.folioCores f)) ++ le 8 (maskOf (s.folioMems f)) ++ le 2 (maskOf (s.folioLinks f)) ++ le 2 x.evring ++ le 4 x.guestOf ++
    le 8 x.corrBase ++ zeros 16

/-- FOLIO_QUERY (R410, R484). -/
def execFolioQuery (queue : Nat) (s : State) : Host.Outcome State Fault Refusal :=
  s.runCmd queue 0x39 (fun s1 x c =>
    let f := c.arg 0x28 1
    if 63 < f then s1.cmdDone queue 2 0x28
    else match s1.hubWrite x.ctx (c.arg 0x30 8) (s1.folioRecord f) with
      | (true, s2) => s2.cmdDone queue 0 0
      | (false, s2) => s2.cmdDone queue 0x11 0)

/-- FOLIO_RING (R410, R487). -/
def execFolioRing (queue : Nat) (s : State) : Host.Outcome State Fault Refusal :=
  s.runCmd queue 0x3A (fun s1 _ c =>
    let f := c.arg 0x28 1
    let r := c.arg 0x2A 2
    if f = 0 then s1.cmdDone queue 0x0A 0
    else match s1.folioBad f 0x28 with
      | some e => s1.cmdDone queue e.1 e.2
      | none =>
        if 1023 < r then s1.cmdDone queue 2 0x2A
        else if r = 0 then (s1.setFolio f { s1.folio f with evring := 0 }).cmdDone queue 0 0
        else match tget r s1.evrings with
          | none => s1.cmdDone queue 4 0
          | some e => if e.folio = f then (s1.setFolio f { s1.folio f with evring := r }).cmdDone queue 0 0 else s1.cmdDone queue 2 0x2A)

end Sys2Proof.Machine
end

