-- ==== Sys2Proof/Machine/Protect.lean ====
section
/-! DEFINITION. Sys2Proof/Machine/Protect.lean: losses in mirrored pairs and coded sets (13 R441-R444, 01 R50, R51), lost peers (13 R438). -/

namespace Sys2Proof.Machine

/-! ## Outstanding requests of a lost member (R441) -/

/-- The caches write a position's dirty lines to whoever serves it now and drop its clean ones (R50). -/
def State.flushPos (s : State) (p f : Nat) : State :=
  let lines := ((s.caches.flatMap (fun c => c.2.lines.map Prod.fst ++ c.2.wb.map Prod.fst)).filter (fun l => l / 2 ^ 33 == p)).eraseDups
  let s1 := foldS lines s (fun st l =>
    match st.dirtyIn l with
    | none => st
    | some (_, d) => (match st.remotePos l with
      | some (pkg, q) => st.mirrorSend f pkg q (l % 2 ^ 33) d 0xFFFE
      | none => ((st.rawWrite l d).2).wake l))
  { s1 with caches := tmap (fun _ (c : Cache) => c.without (fun l => l / 2 ^ 33 == p)) s1.caches }

/-- A request outstanding at a lost member is issued again to the survivor: an atomic completes LOST; a remote survivor receives
a packet (R441). -/
def State.reissue (s : State) (id : Nat) : State :=
  match s.req? id with
  | none => s
  | some q =>
    if q.atomic then s.finish id q .lost []
    else
      let q1 := { q with sent := false, grant := none, rdata := [], arr := none, parts := [], worst := none, bias := 0 }
      let s1 := s.setReq id q1
      match s.route q.pa with
      | .peer i off => if (s.peerLink q.folio i off).isSome then s1.toPeer id q1 i off else s1.finish id q1 .noPeer []
      | _ => s1

/-- Every request outstanding at a position is issued again. -/
def State.reissueAt (s : State) (p : Nat) : State :=
  foldS (s.reqs.filter (fun r => r.2.status.isNone && decide (r.2.pa < 2 ^ 39) && r.2.pa / 2 ^ 33 == p)) s (fun st r => st.reissue r.1)

/-- A lost member is QUARANTINED, with its record (R441, R430 OUTCOME 1). -/
def State.loseMember (s : State) (n : Nat) (keep : Option Nat) : State :=
  let e := s.memSlice n
  let ep := (s.folio e.owner).epoch
  let s1 := (s.setHome n {}).setMemSlice n { e with st := .quarantined, dest := 0x3F, epochOut := ep, serve := none, keep, started := s.hubCount }
  (s1.rebind 1 n 1 e.owner 0x3F ep 0 0 none s.hubCount).capChange

/-- Sift requests outstanding at a lost primary go to the unit of the surviving partner (R253). -/
def State.moveSifts (s : State) (lostM n : Nat) : State :=
  let s1 := { s with sifts := tmap (fun _ (q : SiftReq) => if q.unit = lostM then { q with unit := n, accepted := false } else q) s.sifts }
  s1.setUnit lostM {}

/-- Sift requests outstanding at a lost member that no unit of this package replaces end with a status (R252). -/
def State.endSifts (s : State) (n status : Nat) : State :=
  foldS (s.sifts.filter (fun q => q.2.unit == n)) s (fun st q => st.siftFail q.1 q.2 status 0 0)

/-- The survivor serves the lost member's position; its home takes over the watch entries; requests are issued again, caches
write back. -/
def State.takeOver (s : State) (lostM n : Nat) : State :=
  let e := s.memSlice lostM
  let w := (s.home lostM).watch
  match e.serve with
  | none => s.loseMember lostM e.keep
  | some p =>
    let s1 := s.loseMember lostM (s.memSlice n).keep
    let s2 := s1.setMemSlice n { s1.memSlice n with serve := some p, keep := none }
    let s3 := s2.setHome n { s2.home n with watch := (s2.home n).watch ++ w }
    (s3.flushPos p e.owner).reissueAt p

/-! ## Sets (R441, R443, R444) -/

/-- Replaces a set. -/
def State.putSet (s : State) (p p' : ProtSet) : State := { s with prots := s.prots.map (fun x => if x = p then p' else x) }

/-- The writes that wait for a lost remote partner complete at the primary (R441). -/
def State.primaryOnly (s : State) (n : Nat) : State :=
  let here := s.reqs.filter (fun r => r.2.status.isNone && r.2.sent && decide (r.2.pa < 2 ^ 39) && some (r.2.pa / 2 ^ 33) == (s.memSlice n).serve)
  foldS here s (fun st r => st.finish r.1 r.2 .ok r.2.rdata)

/-- The loss of a member of a pair that is whole (R441). -/
def State.mirrorLoss (s : State) (p : ProtSet) (n : Nat) : State :=
  match p.members with
  | [(_, x), (pkg, q)] =>
    if pkg = 0 ∧ n = q then ((s.putSet p { p with lost := [q] }).loseMember q (s.memSlice q).keep)
    else if n = x then
      (if pkg = 0 then ((s.putSet p { p with lost := [x] }).takeOver x q).moveSifts x q
       else
         let e := s.memSlice x
         let s1 := ((s.putSet p { p with lost := [x], pos := e.serve }).loseMember x e.serve).endSifts x 0x11
         match e.serve with
         | some pos => (s1.flushPos pos e.owner).reissueAt pos
         | none => s1)
    else s
  | _ => s

/-- The loss of a remote partner, found by its package (R438, R441). -/
def State.partnerLoss (s : State) (pkg f : Nat) : State :=
  foldS s.prots s (fun st p =>
    match p.members, p.lost with
    | [(_, x), (k, q)], [] =>
      if k = pkg ∧ k ≠ 0 ∧ (st.memSlice x).owner = f then
        (st.putSet p { p with lost := [q] }).primaryOnly x |>.rebind 1 q 1 f 0x3F (st.folio f).epoch 0 0 none st.hubCount
      else st
    | _, _ => st)

/-- The loss of a member of a coded set that is whole (R443). -/
def State.codedLoss (s : State) (p : ProtSet) (n : Nat) : State :=
  let s1 := s.putSet p { p with lost := [n] }
  if n = codedParity p then s1.loseMember n (s.memSlice n).keep else (s1.takeOver n (codedParity p)).endSifts n 0x14

/-- The set that holds a local slice, when it has `m` members and is whole. -/
def State.wholeSet (s : State) (n m : Nat) : Option ProtSet :=
  match s.setOf n with | some p => if p.members.length = m ∧ p.lost = [] then some p else none | none => none

/-- A move of a slice, or onto it, is abandoned. -/
def State.abandonFor (s : State) (n : Nat) : State :=
  match (s.memSlice n).moveTo, (s.memSlice n).moveFrom with
  | some y, _ => s.abandonMove n y
  | none, some x => s.abandonMove x n
  | none, none => s

/-- MIRROR_MEMBER_LOSS (R441). -/
def execMirrorMemberLoss (slice : Nat) (s : State) : Host.Outcome State Fault Refusal :=
  match s.wholeSet slice 2 with
  | some p => .next ((s.abandonFor slice).mirrorLoss p slice)
  | none => stay s

/-- CODED_MEMBER_LOSS (R443). -/
def execCodedMemberLoss (slice : Nat) (s : State) : Host.Outcome State Fault Refusal :=
  match s.wholeSet slice 5 with
  | some p => .next (s.codedLoss p slice)
  | none => stay s

/-! ## Losing data (R50, R51, R444) -/

/-- Folio 0 is never folio-reset: its contexts other than 0 are reset, and a HW_ERROR names the die, or each lost slice (R51). -/
def State.folio0Loss (s : State) (unit : Nat) (what : List Nat) : State :=
  let s1 := foldS (s.folioCtxs 0) s (fun st c => st.ctxResetFree c 0x0F)
  foldS what s1 (fun st n => (st.hwError 18 unit (st.freeNat % 256) n 0 0x3F 0xFFFF).useFree)

/-- The folio reset that a loss calls for (R50, R444), or what R51 puts in its place. -/
def State.resetForLoss (s : State) (f unit : Nat) (what : List Nat) : State :=
  if f = 0 then s.folio0Loss unit what
  else if (s.folio f).valid then (s.startFolioReset f s.freeReason none).useFree else s

/-! ## Lost peers (R438) -/

/-- STITCH_LINK_IDLE: every link to the peer shows electrical idle. -/
def execStitchLinkIdle (peer : Nat) (s : State) : Host.Outcome State Fault Refusal :=
  if ¬ s.peerValid peer ∨ s.peerGone peer ∨ 14 < peer then stay s
  else
    let s1 := foldS (maskBits (s.peerLinks peer) 12) s (fun st l => st.setStitch l { st.stitch l with up := false, idle := true, waiting := [] })
    .next ({ s1 with peerLost := tput peer s.hubCount s1.peerLost }).capChange

/-- The slices lent to a peer, those of guest folio `f`, become QUARANTINED. -/
def State.quarantineLent (s : State) (f : Nat) : State := foldS (s.folioMems f) s (fun st n => st.loseMember n (st.memSlice n).serve)

/-- PEER_LOSS_DRAIN_EXPIRY: a folio's drain limit has passed since the peer was lost. -/
def execPeerLossDrainExpiry (peer folio : Nat) (s : State) : Host.Outcome State Fault Refusal :=
  match tget peer s.peerLost with
  | none => stay s
  | some t =>
    if s.hubCount < t + s.drainLim folio then stay s
    else
      let pkg := s.fld (rPeer peer) 0 16
      let mine := s.reqs.filter (fun r => r.2.folio == folio && r.2.status.isNone && (match s.route r.2.pa with | .peer i _ => i == peer | _ => false))
      let s1 := foldS mine s (fun st r =>
        match r.2.issuer with
        | .offer i => (match tget i st.offers with | some o => (st.dropReq r.1).offerEnd i o .lost false | none => st.dropReq r.1)
        | _ => st.finish r.1 r.2 .lost [])
      let s2 := s1.partnerLoss pkg folio
      .next (if (s.folio folio).guest ∧ bits (s.folio folio).guestOf 0 16 = pkg then s2.quarantineLent folio else s2)

end Sys2Proof.Machine
end

