-- ==== Sys2Proof/Machine/Stitch.lean ====
section
/-! DEFINITION. Sys2Proof/Machine/Stitch.lean: packets that arrive over stitch links, and the links themselves (13 R434-R436, R440; 09 R332; 21 R648). -/

namespace Sys2Proof.Machine

/-! ## Headers (R435) -/

def hTy (h : Bytes) : Nat := fieldLe h 0 1
def hQos (h : Bytes) : Nat := bits (fieldLe h 1 1) 0 3
def hCoh (h : Bytes) : Bool := bit (fieldLe h 1 1) 3
def hCtx (h : Bytes) : Nat := bits (fieldLe h 4 2) 0 12
def hFolio (h : Bytes) : Nat := bits (fieldLe h 6 1) 0 6
def hLen (h : Bytes) : Nat := fieldLe h 7 1
def hAddr (h : Bytes) : Nat := bits (fieldLe h 8 5) 0 39
def hTag (h : Bytes) : Nat := fieldLe h 0x0D 2
def hStatus (h : Bytes) : Nat := fieldLe h 0x0F 1

/-- The package at the other end of a link: that of the assigned peer index whose LINKS names it. -/
def State.linkPeer (s : State) (l : Nat) : Option Nat := (s.peers.find? (fun p => bit (s.peerLinks p.1) l)).map Prod.snd

/-- The guest folio of an arriving (package, folio) pair (R434). -/
def State.guestFor (s : State) (l f : Nat) : Option Nat :=
  (s.linkPeer l).bind (fun pkg => (List.range 64).find? (fun g =>
    (s.folio g).valid && (s.folio g).guest && bits (s.folio g).guestOf 0 16 == pkg && bits (s.folio g).guestOf 16 6 == f))

/-- A packet takes an entry of a link's request pool until its request has completed. -/
def State.takeEntryOf (s : State) (l : Nat) : State := s.setStitch l { s.stitch l with reqPool := (s.stitch l).reqPool - 1 }

/-- An answer over the link; the entry is free again and a credit goes back (R436). -/
def State.answerPacket (s : State) (l : Nat) (h : Bytes) (status : Nat) (d : Bytes) : State :=
  let s1 := s.send ⟨l, stitchHdr (if d = [] then 9 else 8) (hQos h) (fieldLe h 2 2) (hCtx h) (hFolio h) (cdiv d.length 64) 0 (hTag h) status, d⟩
  s1.send ⟨l, stitchHdr 0x0A 0 0 0 0 0 0 0 0, []⟩

/-- The common course of arriving packets: of the row's type, on an up link; a request finds a free entry, for which its sender had a credit
(R436). -/
def State.onPacket (s : State) (l ty : Nat) (h : Bytes) (go : State → State) : Host.Outcome State Fault Refusal :=
  if (s.stitch l).up ∧ hTy h = ty ∧ l < 12 ∧ (ty ≤ 6 → 0 < (s.stitch l).reqPool) then .next (go s) else stay s

/-- A request of a peer for its guest folio; a pair with none is refused. -/
def State.guestReq (s : State) (l : Nat) (h d : Bytes) (kind : ReqKind) (n : Nat) (atomic : Bool) : State :=
  match s.guestFor l (hFolio h) with
  | none => s.answerPacket l h 1 []
  | some g =>
    (s.takeEntryOf l).addReq { kind, issuer := .stitch l (hTag h), ctx := hCtx h, folio := g, epoch := (s.folio g).epoch, qos := hQos h,
                               pa := hAddr h, len := n, data := d, atomic }

/-! ## Requests -/

/-- STITCH_READ (R332, R434, R435): LEN lines, coherent or not. -/
def execStitchRead (link : Nat) (hdr payload : Bytes) (s : State) : Host.Outcome State Fault Refusal :=
  s.onPacket link 1 hdr (fun s1 => s1.guestReq link hdr payload (if hCoh hdr then .glance else .rawGet) (64 * hLen hdr) false)

/-- STITCH_WRITE (R332, R434, R435). -/
def execStitchWrite (link : Nat) (hdr payload : Bytes) (s : State) : Host.Outcome State Fault Refusal :=
  s.onPacket link 2 hdr (fun s1 => s1.guestReq link hdr payload (if hCoh hdr then .putHome else .rawPut) payload.length false)

/-- STITCH_ATOMIC (R434, R435): its operand travels in the form of this model's own AMO requests (log 25). -/
def execStitchAtomic (link : Nat) (hdr payload : Bytes) (s : State) : Host.Outcome State Fault Refusal :=
  s.onPacket link 3 hdr (fun s1 => s1.guestReq link hdr payload .putHome (fieldLe payload 1 1) true)

/-- STITCH_FENCE_OFFER (R227, R435): the value stands in the payload's first 4 bytes (log 25). -/
def execStitchFenceOffer (link : Nat) (hdr payload : Bytes) (s : State) : Host.Outcome State Fault Refusal :=
  s.onPacket link 4 hdr (fun s1 =>
    match s1.guestFor link (hFolio hdr) with
    | none => s1.answerPacket link hdr 1 []
    | some g =>
      if s1.admitsFolio g (s1.folio g).epoch (hAddr hdr) true then
        (let r := s1.offerWord (hAddr hdr) (BitVec.ofNat 32 (fieldLe payload 0 4))
         r.2.2.answerPacket link hdr (stitchStatus r.1) [])
      else s1.answerPacket link hdr 1 [])

/-- STITCH_BARRIER (R233, R435): the payload's layout is not given, so barrier, rank and phase are free values (log 25). -/
def execStitchBarrier (link : Nat) (hdr payload : Bytes) (s : State) : Host.Outcome State Fault Refusal :=
  s.onPacket link 5 hdr (fun s1 =>
    let _ := payload
    let s2 := s1.useFree.useFree.useFree
    (s2.arrive (hCtx hdr) (s1.freeNat % 16) (s1.useFree.freeNat % 65536) (s1.useFree.useFree.freeNat)).answerPacket link hdr 0 [])

/-- STITCH_MIRROR_WRITE (R440): the partner slice, lent through the guest folio, is written. -/
def execStitchMirrorWrite (link : Nat) (hdr payload : Bytes) (s : State) : Host.Outcome State Fault Refusal :=
  s.onPacket link 6 hdr (fun s1 =>
    let q := hAddr hdr / 2 ^ 33
    match s1.guestFor link (hFolio hdr) with
    | none => s1.answerPacket link hdr 1 []
    | some g =>
      let e := s1.memSlice q
      if e.st = .owned ∧ e.owner = g then
        ({ s1 with hbm := mwrite s1.hbm (slicePa q (hAddr hdr % 2 ^ 33)) payload }).answerPacket link hdr 0 []
      else s1.answerPacket link hdr 1 [])

/-! ## Completions (R418, R435) -/

/-- How a completion's STATUS completes a request. -/
def stitchCpl (n : Nat) : Cpl := if n = 0 then .ok else if n = 1 then .refused else if n = 3 then .hbmErr else if n = 4 then .integrity else .lost

/-- Is a part the packet that a TAG names on a link? -/
def Part.named (p : Part) (link tag : Nat) : Bool := p.tag % 65536 == tag && p.link == link

/-- The request that a completion's TAG names: outstanding over the link, or a mirrored write that waits for its partner there. -/
def State.tagged (s : State) (link tag : Nat) : Option (Nat × Req) :=
  s.reqs.find? (fun r => r.2.status.isNone && r.2.parts.any (fun p => p.named link tag))

/-- A request with one packet answered: a read takes the packet's bytes, and the first failure stands. -/
def Req.partDone (q : Req) (link tag : Nat) (e : Cpl) (d : Bytes) : Req :=
  match q.parts.find? (fun p => p.named link tag) with
  | none => q
  | some p =>
    { q with parts := q.parts.erase p, worst := if q.worst.isNone ∧ e ≠ .ok then some e else q.worst,
             rdata := if q.sent then q.rdata else patch (fit q.len q.rdata) p.off (d.take (q.len - p.off)) }

/-- A completion is sunk (R436): a credit goes back, and with its last packet the request ends. Whether a peer found an offer stale does not
travel, so it is a free value (log 6). -/
def State.sink (s : State) (l : Nat) (h d : Bytes) : State :=
  let s1 := s.send ⟨l, stitchHdr 0x0A 0 0 0 0 0 0 0 0, []⟩
  let e := stitchCpl (hStatus h)
  match s1.tagged l (hTag h) with
  | none => s1
  | some (id, q) =>
    match q.issuer with
    | .offer i => (match tget i s1.offers with
      | some o => ((s1.dropReq id).useFree).offerEnd i o e (bit s1.freeNat 0)
      | none => s1.dropReq id)
    | _ =>
      let q1 := q.partDone l (hTag h) e d
      if q1.parts = [] then s1.finish id q1 (q1.worst.getD .ok) q1.rdata else s1.setReq id q1

/-- STITCH_COMPLETION_DATA. -/
def execStitchCompletionData (link : Nat) (hdr payload : Bytes) (s : State) : Host.Outcome State Fault Refusal :=
  s.onPacket link 8 hdr (fun s1 => s1.sink link hdr payload)

/-- STITCH_COMPLETION. -/
def execStitchCompletion (link : Nat) (hdr payload : Bytes) (s : State) : Host.Outcome State Fault Refusal :=
  s.onPacket link 9 hdr (fun s1 => s1.sink link hdr (payload.take 0))

/-- STITCH_CREDIT_RETURN (R436): which pool a credit belongs to is not in the header; it goes to the pool that lacks one, requests
first (log 25). -/
def execStitchCreditReturn (link : Nat) (hdr payload : Bytes) (s : State) : Host.Outcome State Fault Refusal :=
  s.onPacket link 0x0A hdr (fun s1 =>
    let x := s1.stitch link
    let _ := payload
    (s1.setStitch link (if x.reqCredit < 256 then { x with reqCredit := x.reqCredit + 1 } else { x with cplCredit := min 256 (x.cplCredit + 1) })).sendWaiting link)

/-- Types that R435 and R554 name. -/
def knownType (t : Nat) : Bool := [1, 2, 3, 4, 5, 6, 8, 9, 0x0A, 0x10, 0x11].contains t

/-- STITCH_DISCARD (R435, R554): discarded and counted. -/
def execStitchDiscard (link : Nat) (hdr payload : Bytes) (s : State) : Host.Outcome State Fault Refusal :=
  let _ := payload
  if (s.stitch link).up ∧ link < 12 ∧ ¬ knownType (hTy hdr) then .next (s.bumpFld (rStc link) 32 16 1) else stay s

/-! ## Links (R436, R648) -/

/-- STITCH_LINK_REINIT (R436): the link is down and its credits out of balance until it is up again. -/
def execStitchLinkReinit (link : Nat) (s : State) : Host.Outcome State Fault Refusal :=
  if ¬ (s.stitch link).up ∨ 12 ≤ link then stay s
  else .next ((s.setStitch link { s.stitch link with up := false }).bumpFld (rStc link) 8 8 1).capChange

/-- STITCH_LINK_TRAINED (R436, R648): the link is up, its credits at full depth. -/
def execStitchLinkTrained (link lanes : Nat) (s : State) : Host.Outcome State Fault Refusal :=
  if 12 ≤ link ∨ ¬ s.clasp.rails ∨ (s.fabric (link / 6)).failed then stay s
  else
    let s1 := (s.setStitch link { s.stitch link with up := true, idle := false, lanes := min 8 lanes, reqCredit := 256, cplCredit := 256 }).sendWaiting link
    .next ((if (List.range 12).all (fun l => (s1.stitch l).up) then { s1 with clasp := { s1.clasp with stitchWait := false } } else s1).capChange)

end Sys2Proof.Machine
end

