-- ==== Sys2Proof/Machine/Platform.lean ====
section
/-! DEFINITION. Sys2Proof/Machine/Platform.lean: power-on, the firmware image, start-up, self-test, the package reset and what survives it (01 R52-R54, 17 R547-R550, 18 R562-R566, 19 R603, R607, 21 R640-R650). -/

namespace Sys2Proof.Machine

/-! ## The firmware image (R563, R564) -/

/-- Is a component entry of an image of `n` bytes well formed? -/
def imgCompOk (b : Bytes) (n i : Nat) : Bool :=
  let o := 0x40 + 32 * i
  let t := fieldLe b o 1
  decide (1 ≤ t ∧ t ≤ 4) && fieldLe b (o + 1) 3 == 0 && decide (fieldLe b (o + 4) 4 + fieldLe b (o + 8) 4 ≤ n) && fieldLe b (o + 16) 16 == 0

/-- Is an image's header well formed? -/
def imgHeaderOk (b : Bytes) : Bool :=
  let n := fieldLe b 0x0C 4
  let k := fieldLe b 0x14 4
  fieldLe b 0 4 == 0x5A475046 && fieldLe b 4 2 == 1 && decide (fieldLe b 6 2 < 2) && decide (fieldLe b 8 2 ≤ 64) && fieldLe b 0x0A 2 == 0 &&
  decide (n = b.length ∧ n ≤ 2 ^ 24 ∧ 4640 ≤ n) && decide (1 ≤ k ∧ k ≤ 16) && decide (fieldLe b 0x18 4 + 2592 ≤ n) &&
  allZero (Machine.slice b 0x1C 36) && (List.range k).all (imgCompOk b n)

/-- FAIL of SEC_STAT for an image (R564, R588): the first check that fails; 0 when it passes. -/
def State.imgFail (s : State) (b : Bytes) : Nat :=
  let o := b.length - 4640
  let key := Machine.slice b (fieldLe b 0x18 4) 2592
  if ¬ imgHeaderOk b then 1
  else if Config.sha3 key ≠ Config.vendorKeyHash then 2
  else if fieldLe b o 4 ≠ 0 ∨ fieldLe b (o + 4) 4 ≠ 4627 ∨ fieldLe b (o + 4635) 5 ≠ 0 ∨
      Config.mldsaVerify key (Config.sha3 (b.take o)) (Machine.slice b (o + 8) 4627) = false then 3
  else if fieldLe b 8 2 < s.clasp.fuseSvn then 4
  else if s.hubRev < fieldLe b 0x10 4 then 5
  else 0

/-- The Clasp takes a verified image into use. -/
def State.useImage (s : State) (b : Bytes) : State :=
  { s with clasp := { s.clasp with boot := .running, fail := 0, svn := fieldLe b 8 2, commitSvn := bit (fieldLe b 6 2) 0 } }

/-- AUX_POWER_ON (R565, R646): the Clasp ROM runs; CLASP_RECOVERY held asserted calls for recovery. -/
def execAuxPowerOn (claspRecovery : Bool) (s : State) : Host.Outcome State Fault Refusal :=
  if s.clasp.aux then stay s
  else .next { s with clasp := { s.clasp with aux := true, forced := claspRecovery, boot := if claspRecovery then .recovery else .verifying } }

/-- IMAGE_VERIFIED (R564, R565, R646): the components start, or recovery is entered. -/
def execImageVerified (s : State) : Host.Outcome State Fault Refusal :=
  if s.clasp.boot ≠ .verifying then stay s
  else
    match s.clasp.flash with
    | none => .next { s with clasp := { s.clasp with boot := .running, fail := 0, svn := s.clasp.fuseSvn } }
    | some b =>
      if s.imgFail b = 0 then .next (s.useImage b)
      else .next { s with clasp := { s.clasp with boot := .recovery, fail := s.imgFail b } }

/-- The recovery image as received. -/
def State.recvImage (s : State) : Bytes := (List.range s.clasp.imgSize).map (fun i => tgetD 0 i s.clasp.img)

/-- FLASH_WRITE_DONE (R565): the verified recovery image is in flash, and the package starts from it. -/
def execFlashWriteDone (s : State) : Host.Outcome State Fault Refusal :=
  if s.clasp.boot ≠ .flashing then stay s
  else
    let b := s.recvImage
    let s1 := s.useImage b
    .next { s1 with clasp := { s1.clasp with flash := some b, img := [], imgSize := 0, forced := false } }

/-- HOURS_UPDATE (R550, R644): once every 24 h of powered time. -/
def execHoursUpdate (s : State) : Host.Outcome State Fault Refusal :=
  if s.clasp.aux then .next { s with clasp := { s.clasp with hours := s.clasp.hours + 24 } } else stay s

/-- DYNAMIC_ADDRESS_ASSIGN (R640). -/
def execDynamicAddressAssign (addr : Nat) (s : State) : Host.Outcome State Fault Refusal :=
  if s.clasp.aux then .next { s with clasp := { s.clasp with dynAddr := some addr } } else stay s

/-! ## Package reset (R603, R607) -/

/-- What a package reset leaves of a register: RWS fields, and the power limits. -/
def keepRws (c v : Nat) : Nat :=
  if c = rPwrLimit then v
  else (fieldsOf c).foldl (fun acc f => if f.acc = .rws then setBits acc f.lo f.wd (bits v f.lo f.wd) else acc) (resetOf c)

/-- The registers after a package reset. -/
def State.keptRegs (s : State) : Tbl Word :=
  (s.regs.map (fun e => (e.1, BitVec.ofNat 64 (keepRws e.1 e.2.toNat)))).filter (fun e => e.2 != BitVec.ofNat 64 (resetOf e.1))

/-- The memory slice that holds the post-mortem area, when folio 0 owns it. -/
def State.pmSlice (s : State) : Option Nat :=
  let base := s.fld rPmBase 24 22 * 2 ^ 24
  if base = 0 ∨ 2 ^ 39 ≤ base then none
  else match s.server (base / 2 ^ 33) with
    | some m => if (s.memSlice m).st = .owned ∧ (s.memSlice m).owner = 0 then some m else none
    | none => none

/-- What folio 0 held when the reset began; a reset during start-up keeps what the first one noted. -/
def State.keptNow (s : State) : Option (List Nat × List Nat × Option Nat) :=
  if s.clasp.inReset then s.kept else some (s.folioCores 0, s.folioMems 0, s.pmSlice)

/-- Regions keep their rating and trims, fabrics their trims; everything else of them starts again. -/
def Region.afterReset (r : Region) : Region := { ratedMhz := r.ratedMhz, thermalCap := r.ratedMhz, shiftMv := r.shiftMv, marginMv := r.marginMv }
def Fabric.afterReset (f : Fabric) : Fabric := { shiftMv := f.shiftMv, marginMv := f.marginMv }

/-- The host link after a package reset: trained still, but for a reset started by PWRGOOD. -/
def HostLink.afterReset (l : HostLink) (viaPower : Bool) : HostLink :=
  if viaPower then { perstN := l.perstN }
  else { perstN := l.perstN, up := l.up, cxl := l.cxl, width := l.width, speed := l.speed, hdmBase := l.hdmBase }

/-- The Clasp across a package reset: its image stays in use. -/
def Clasp.afterReset (c : Clasp) : Clasp :=
  { c with calState := 0, pwrgood := false, rails := false, hbmUp := false, stitchWait := false, inReset := true, wake := false, hubBad := false }

/-- The power controller across a package reset: averages and the bus reading stay. -/
def PowerCtl.afterReset (p : PowerCtl) : PowerCtl := { avgMw := p.avgMw, last := p.last, busMv := p.busMv, tripped := p.tripped }

/-- The part after a package reset (R603, R607): the always-on domain, the Clasp, the image, RWS fields and the post-mortem slice
stay. -/
def State.rebuild (s : State) (viaPower : Bool) : State :=
  let kept := s.keptNow
  let mine : Nat → Bool := fun a => match kept with | some (_, _, some m) => a / 2 ^ 33 == m | _ => false
  { pending := s.pending, free := s.free, out := s.out, fuses := s.fuses, host := s.host, regs := s.keptRegs, kept,
    hbm := s.hbm.filter (fun c => mine c.1), poison := s.poison.filter mine, tags := tfilter (fun a _ => mine a) s.tags,
    regions := tmap (fun _ (r : Region) => r.afterReset) s.regions, fabrics := tmap (fun _ (f : Fabric) => f.afterReset) s.fabrics,
    power := s.power.afterReset, clasp := s.clasp.afterReset, link := s.link.afterReset viaPower, capGen := (s.capGen + 2) % 2 ^ 32 }

/-- The dirty lines of host memory go back to the host (R454: before CacheFlushed). -/
def State.flushHost (s : State) : State :=
  let lines := (s.caches.flatMap (fun c => c.2.lines.map Prod.fst ++ c.2.wb.map Prod.fst) ++ s.hostLines.map Prod.fst).eraseDups
  let dirty := fun (l : Nat) => (s.dirtyIn l).isSome || (match tget l s.hostLines with | some c => isDirty c.st | none => false)
  foldS (lines.filter (fun l => decide (hostBase ≤ l))) s (fun st l =>
    ({ st with host := mwrite st.host (l - hostBase) (s.curLine l) }).emit (.d2h (if dirty l then 6 else 7) l))

/-- A package reset, step 4 of the ladder (R599, R603). -/
def State.pkgReset (s : State) (reason : Nat) (viaPower : Bool) : State :=
  let s1 := ((s.snapshot 4 reason 0 0x7F s.pmAll).resetRec 4 reason 0 s.freeNat 0x3F 0xFFFF).useFree
  (if viaPower then s1 else s1.flushHost.emit (.d2h 8 0)).rebuild viaPower

/-! ## Power lost (R547-R549, R650) -/

/-- PWRGOOD deasserts: the package is held in reset (R547). The reason code of this reset is not given. -/
def State.powerDown (s : State) : State := (s.pkgReset s.freeReason true).useFree

/-- BUS_UNDERVOLTAGE (R547, R650). -/
def execBusUndervoltage (mv : Nat) (s : State) : Host.Outcome State Fault Refusal :=
  if 42000 ≤ mv ∨ ¬ s.clasp.pwrgood then stay s
  else
    let s1 := { s with power := { s.power with busMv := mv } }
    .next s1.powerDown

/-- A trip (R548, R549): an entry of the sticky log, the input is disconnected, the cause latched, a power cycle requested. -/
def State.trip (s : State) (cause : Nat) : State :=
  let s1 := (s.errLog tyPowerEvent cause 18 0).powerDown
  ({ s1 with power := { s1.power with tripped := some cause } }).powerCycle

/-- POWER_TRIP (R548). -/
def execPowerTrip (cause : Nat) (s : State) : Host.Outcome State Fault Refusal :=
  if ¬ s.clasp.pwrgood then stay s else .next (s.trip cause)

/-- THERMTRIP (R549): THERMTRIP_N is asserted, and the power layer disconnects the input. -/
def execThermtrip (island temp : Nat) (s : State) : Host.Outcome State Fault Refusal :=
  if temp < 115 ∨ ¬ (s.region island).powered then stay s
  else
    let s1 := s.trip 4
    .next { s1 with clasp := { s1.clasp with thermtripN := false } }

/-- AUX_POWER_LOSS (R650): the part stops; fuses and flash contents remain. A flash write that it strikes leaves an image that
fails (R565). -/
def execAuxPowerLoss (s : State) : Host.Outcome State Fault Refusal :=
  if ¬ s.clasp.aux then stay s
  else
    let c := s.clasp
    .next { pending := s.pending, free := s.free, out := s.out, fuses := s.fuses, host := s.host,
            clasp := { fuseSvn := c.fuseSvn, lc := c.lc, confEn := c.confEn, flash := if c.boot = .flashing then some [] else c.flash, cal := c.cal,
                       hours := c.hours, addrSel := c.addrSel } }

/-! ## Start-up (R646-R648) -/

/-- PWRGOOD_ASSERT (R547, R646): the image is verified and VBUS holds; a tripped part stays off. -/
def execPwrgoodAssert (busMv : Nat) (s : State) : Host.Outcome State Fault Refusal :=
  if ¬ s.clasp.aux ∨ s.clasp.boot ≠ .running ∨ s.clasp.pwrgood ∨ s.power.tripped.isSome ∨ busMv ≤ 47000 then stay s
  else .next { s with clasp := { s.clasp with pwrgood := true }, power := { s.power with busMv } }

/-- How the calibration page is used (R645): 0 all of it, 1 tables only, 2 not at all. A page no one has written is the factory's,
which is sound. -/
def State.calCheck (s : State) : Nat :=
  if s.clasp.cal = [] then 0
  else if fieldLe (s.calBytes 0 8) 0 4 ≠ 0x4C414347 ∨ fieldLe (s.calBytes 0 8) 4 2 ≠ 1 ∨ fieldLe (s.calBytes 8 4) 0 4 ≠ crc32c (s.calBytes 0x40 0xD7C0) then 2
  else if Config.sealOk (s.calBytes 0x40 0xE9E0) then 0
  else 1

/-- A region powers up at its safe frequency (R533, R621). -/
def State.powerRegion (s : State) (i : Nat) : State :=
  let f := s.safeMhz i
  let r := s.region i
  ((s.setRegion i { r with powered := true, setMhz := f, target := none, railUp := false, thermalCap := r.ratedMhz, loopMhz := f,
                           voltMv := s.setMv i f }).sampleDue 2 i)

/-- A fabric domain starts (R40). -/
def State.startFabric (s : State) (d : Nat) : State := (s.setFabric d { s.fabric d with running := true, voltMv := s.fabricMv d (s.fabric d).shiftMv (s.fabric d).marginMv }).sampleDue 2 (16 + d)

/-- RAILS_UP (R646 step 4): the calibration page is read, the clocks start. -/
def execRailsUp (s : State) : Host.Outcome State Fault Refusal :=
  if ¬ s.clasp.pwrgood ∨ s.clasp.rails then stay s
  else
    let s1 := { s with clasp := { s.clasp with rails := true, inReset := true, stitchWait := true, calState := s.calCheck } }
    .next (foldS [0, 1] (foldS (List.range 16) s1 State.powerRegion) State.startFabric)

/-- HBM_TRAINED (R646 step 5). -/
def execHbmTrained (s : State) : Host.Outcome State Fault Refusal :=
  if ¬ s.clasp.rails ∨ s.clasp.hbmUp then stay s else .next { s with clasp := { s.clasp with hbmUp := true } }

/-- STITCH_WAIT_TIMEOUT (R648): 300 ms after the calibration page was read. The hub's count starts there. -/
def execStitchWaitTimeout (s : State) : Host.Outcome State Fault Refusal :=
  if ¬ s.clasp.rails ∨ ¬ s.clasp.stitchWait ∨ s.hubCount < 300000000 then stay s
  else .next { s with clasp := { s.clasp with stitchWait := false } }

/-! ## Self-test (R46, R53, R54, R603, R646) -/

/-- What self-test has found. -/
structure SelfTest where
  dies : List Nat
  cores : List Nat
  mems : List Nat
  deriving DecidableEq, Repr

def SelfTest.coreOk (t : SelfTest) (n : Nat) : Bool := !t.dies.contains (n / 64) && !t.cores.contains n
def SelfTest.memOk (t : SelfTest) (n : Nat) : Bool := !t.dies.contains (n / 32) && !t.mems.contains n

/-- Has a die the set of R53? -/
def SelfTest.serves (t : SelfTest) (d : Nat) : Bool :=
  !t.dies.contains d && (List.range 64).any (fun k => t.coreOk (64 * d + k)) && (List.range 32).any (fun k => t.memOk (32 * d + k))

/-- STATE of the capability table: 0 READY, 2 HALF, 1 NOT_READY (R499, R46, R54). -/
def SelfTest.state (t : SelfTest) : Nat :=
  if ¬ (t.serves 0 || t.serves 1) then 1 else if t.dies.any (fun d => decide (d < 2)) then 2 else 0

/-- The core slice that folio 0 has: the lowest it held that passes, else the lowest that passes (R603). -/
def State.pickCore (s : State) (t : SelfTest) : Option Nat :=
  let old := match s.kept with | some k => k.1 | none => []
  match (List.range 128).find? (fun n => old.contains n && t.coreOk n) with
  | some n => some n
  | none => (List.range 128).find? t.coreOk

/-- The memory slice that folio 0 has, and whether its contents stay: that of the post-mortem area, else the lowest it held that
passes, else the lowest that passes (R603). -/
def State.pickMem (s : State) (t : SelfTest) : Option (Nat × Bool) :=
  let old := match s.kept with | some k => k.2.1 | none => []
  let low := match (List.range 64).find? (fun n => old.contains n && t.memOk n) with
    | some n => some (n, false)
    | none => ((List.range 64).find? t.memOk).map (fun n => (n, false))
  match s.kept with
  | some (_, _, some m) => if t.memOk m then some (m, true) else low
  | _ => low

/-- Dies that fail are dark (R46). -/
def State.testDie (s : State) (t : SelfTest) (d : Nat) : State :=
  if t.dies.contains d then
    (let s1 := s.setFabric d { s.fabric d with running := false, failed := true, passed := false }
     foldS (List.range 8) s1 (fun st k => st.setRegion (8 * d + k) { st.region (8 * d + k) with powered := false, setMhz := 0 }))
  else s.setFabric d { s.fabric d with failed := false, passed := true }

/-- An entry of a slice that is out of service until the next package reset (R46, R52). -/
def outOfService (keep : Option Nat) : SliceE := { st := .quarantined, owner := 0x3F, dieLost := true, keep }

/-- The binding map after self-test: folio 0's slices, the slices that fail, and after a package reset the scrub of the others. -/
def State.testSlices (s : State) (t : SelfTest) : State :=
  let s1 := foldS (List.range 128) s (fun st n => if t.coreOk n then st else st.setCoreSlice n (outOfService none))
  let s2 := foldS (List.range 12) s1 (fun st n => if t.dies.contains (n / 6) then st.setLinkSlice n (outOfService none) else st)
  foldS (List.range 64) s2 (fun st n =>
    if ¬ t.memOk n then st.setMemSlice n (outOfService (some n))
    else if s.kept.isSome then st.setMemSlice n { st := .transit, owner := 0x3F, scrub := true, keep := some n }
    else st)

/-- Folio 0 and its slices (R603); context 0 (R468). -/
def State.makeFolio0 (s : State) (t : SelfTest) : State :=
  let s1 := (s.setFolio 0 { valid := true }).setCtx 0 { folio := 0 }
  let s2 := match s.pickCore t with | some n => s1.setCoreSlice n { st := .owned, owner := 0 } | none => s1
  match s.pickMem t with
  | none => s2
  | some (m, stays) =>
    let s3 := if stays then s2 else s2.wipeSlice m
    (s3.setMemSlice m { st := .owned, owner := 0, serve := some m }).setFrames m (joinFrame 0 { valid := true })

/-- FUSE_SVN follows an image with COMMIT_SVN that has brought the package to READY (R566). -/
def State.commitFuse (s : State) : State :=
  if s.clasp.commitSvn ∧ s.clasp.fuseSvn < s.clasp.svn then { s with clasp := { s.clasp with fuseSvn := s.clasp.svn } } else s

/-- The outcome of self-test is in force (R646 step 7). -/
def State.startService (s : State) (t : SelfTest) : State :=
  let s1 := ((foldS [0, 1] s (fun st d => st.testDie t d)).testSlices t).makeFolio0 t
  let lanes := if t.dies.any (fun d => decide (d < 2)) then [] else [0, 1, 2]
  let s2 := foldS lanes s1 (fun st l => { st with spine := tput l { up := true } st.spine })
  let s3 := { s2 with capState := t.state, kept := none, cyclic := { s2.cyclic with mode := decide (t.state = 1) },
                      clasp := { s2.clasp with inReset := false }, link := { s2.link with retry := false } }
  (if t.state = 0 then s3.commitFuse else s3).capChange

/-- SELF_TEST_COMPLETE. A die whose rail has tripped since the reset began is dark like one that fails the test (R46). When the hub itself
fails, the part answers only on the management bus (R54). -/
def execSelfTestComplete (failDies failCore failMem : List Nat) (hubOk : Bool) (s : State) : Host.Outcome State Fault Refusal :=
  if ¬ s.clasp.rails ∨ ¬ s.clasp.hbmUp ∨ s.clasp.stitchWait ∨ ¬ s.clasp.inReset then stay s
  else if ¬ hubOk then .next { s with link := { perstN := s.link.perstN }, clasp := { s.clasp with hubBad := true } }
  else
    let tripped := [0, 1].filter (fun d => (s.fabric d).failed && !failDies.contains d)
    .next (s.startService { dies := failDies ++ tripped, cores := failCore, mems := failMem })

end Sys2Proof.Machine
end

