-- ==== Sys2Proof/Machine/Recovery.lean ====
section
/-! DEFINITION. Sys2Proof/Machine/Recovery.lean: a die that fails (01 R46-R52), unit errors, the reset commands, watchdogs, the books, package standby (19 R594-R606). -/

namespace Sys2Proof.Machine

/-! ## A die that fails in service (R46-R51) -/

/-- The die on which an issuer stands; none: the hub. -/
def issuerDie : Issuer → Option Nat
  | .scalar c _ => some (coreDie c)
  | .store c _ => some (coreDie c)
  | .burst c _ _ _ => some (coreDie c)
  | .copy c => some (c / 64)
  | .stitch l _ => some (l / 6)
  | _ => none

/-- The die on which a watcher or an offer's issuer stands. -/
def waiterDie : Waiter → Option Nat
  | .fwait c _ => some (coreDie c)
  | .copy c => some (c / 64)
  | .command _ => none

/-- The memory slices, core slices and link slices of a die. -/
def dieMems (d : Nat) : List Nat := (List.range 32).map (fun k => 32 * d + k)
def dieCores (d : Nat) : List Nat := (List.range 64).map (fun k => 64 * d + k)
def dieLinks (d : Nat) : List Nat := (List.range 6).map (fun k => 6 * d + k)

/-- Does an address lead to a die: a local position served there, or a peer behind one of its links? -/
def State.onDie (s : State) (d folio pa : Nat) : Bool :=
  match s.route pa with
  | .hbm => (match s.server (pa / 2 ^ 33) with | some m => m / 32 == d | none => false)
  | .peer i off => (match s.peerLink folio i off with | some l => l / 6 == d | none => false)
  | _ => false

/-- One protected member on the die is lost (R441, R443, R444). -/
def State.loseOne (s : State) (n : Nat) : State :=
  match s.setOf n with
  | none => s
  | some p =>
    if p.lost = [] then (if p.members.length = 2 then s.mirrorLoss p n else s.codedLoss p n)
    else if p.lost.contains n then s
    else (s.putSet p { p with lost := n :: p.lost, pos := none }).loseMember n (s.memSlice n).serve

/-- Has the data of a slice survived in its set? -/
def State.survives (s : State) (n : Nat) : Bool := match s.setOf n with | some p => p.lost == [n] | none => false

/-- The folios that the loss of a die resets (R50): those that own a core slice or an unprotected memory slice there. -/
def State.hitFolios (s s1 : State) (d : Nat) : List Nat :=
  (List.range 64).filter (fun f =>
    (dieCores d).any (fun n => (s.coreSlice n).st == .owned && (s.coreSlice n).owner == f) ||
    (dieMems d).any (fun n => (s.memSlice n).st == .owned && (s.memSlice n).owner == f && !s1.survives n))

/-- Requests and messages whose destination was on the die complete LOST; those whose issuer was there are discarded (R49). -/
def State.loseTraffic (s : State) (d : Nat) (lost : List Nat) (lostOffers : List Nat) : State :=
  let s1 := { s with
    reqs := tfilter (fun _ (q : Req) => issuerDie q.issuer != some d) s.reqs
    offers := tfilter (fun _ (o : Offer) => waiterDie o.issuer != some d) s.offers
    bars := tfilter (fun _ (b : BarMsg) => coreDie b.core != d) s.bars
    updates := tfilter (fun _ (u : SgUpdate) => coreDie u.core != d) s.updates
    walks := tfilter (fun _ (w : Walk) => w.die != d) s.walks }
  let s2 := foldS lost s1 (fun st i =>
    match st.req? i with
    | some q => if q.status.isNone then (match q.issuer with
        | .offer o => (match tget o st.offers with | some x => (st.dropReq i).offerEnd o x .lost false | none => st.dropReq i)
        | _ => st.finish i q .lost []) else st
    | none => st)
  let s3 := foldS lostOffers s2 (fun st i => match tget i st.offers with | some o => st.offerEnd i o .lost false | none => st)
  foldS s3.sifts s3 (fun st q =>
    if coreDie q.2.core = d then st.siftLeave q.1 q.2
    else if q.2.unit / 32 = d then st.siftFail q.1 q.2 (if st.rebuilding q.2.unit then 0x14 else 0x11) 0 0 else st)

/-- The engines of the die are gone: cores, copy engines, links. Its caches have gone before, so that only surviving ones write back (R50). -/
def State.loseEngines (s : State) (d : Nat) : State :=
  let s1 := foldS (List.range 64) s (fun st k =>
    let ch := 64 * d + k
    match (st.chan ch).queue, (st.chan ch).st with
    | some _, .idle => st
    | some q, _ => (st.chanStop ch).cmdDone q 0x0F 0
    | none, _ => st)
  let here : Nat → Bool := fun c => coreDie c == d
  let s2 := foldS (s1.allSlots.filter (fun x => here x.1)) s1 (fun st x => st.dropWatch (.fwait x.1 x.2.1))
  let s3 := { s2 with cores := tfilter (fun c (_ : Core) => !here c) s2.cores, walkers := tdel d s2.walkers }
  foldS (dieLinks d) s3 (fun st l => st.setStitch l {})

/-- A command that moves a slice of the die ends: a departure is over (its data is lost or quarantined with it), a slice being
initialised cannot join. -/
def State.endMoves (s : State) (kind n : Nat) : State :=
  let s1 := if kind = 1 then s.abandonFor n else s
  let e := s1.sliceE kind n
  if e.leaving then s1.endFor e.queue 0 else if e.init || (e.scrub && e.queue.isSome) then s1.endFor e.queue 5 else s1

/-- Every slice of the die is QUARANTINED until the next package reset (R49 step 4, R52). -/
def State.quarantineDie (s : State) (d : Nat) : State :=
  let gone : SliceE → SliceE := fun e =>
    { e with st := .quarantined, owner := if e.st = .free then 0x3F else e.owner, dest := 0x3F, scrub := false, init := false, dieLost := true,
             serve := none, keep := if e.serve.isSome then e.serve else e.keep, queue := none, moveTo := none, moveFrom := none, rotAt := none, shared := [] }
  let one : Nat → State → Nat → State := fun kind st n => (let st1 := st.endMoves kind n; st1.setSliceE kind n (gone (st1.sliceE kind n)))
  let s1 := foldS (dieMems d) s (fun st n => if (st.memSlice n).serve.isSome then st.loseHome n else st.setHome n {})
  foldS (dieLinks d) (foldS (dieMems d) (foldS (dieCores d) s1 (one 0)) (one 1)) (one 2)

/-- The die's rails are gated (R49 step 5). -/
def State.gateDie (s : State) (d : Nat) : State :=
  let s1 := s.setFabric d { s.fabric d with running := false, failed := true }
  let s2 := foldS (List.range 8) s1 (fun st k =>
    let r := st.region (8 * d + k)
    st.setRegion (8 * d + k) { r with powered := false, setMhz := 0, target := none, railUp := false, droop := false })
  let net := { s2.net with wires := s2.net.wires.filter (fun w => w.1 / 32768 != d && w.1 % 256 / 128 != d), wait := s2.net.wait.filter (fun w => w.1 / 1024 != d) }
  { s2 with net, spine := [] }

/-- Folio 0 without a core slice or a memory slice in service calls for a package reset (R51). -/
def State.folio0Left (s : State) : State :=
  if s.folioCores 0 = [] ∨ s.folioMems 0 = [] then (s.pkgReset s.freeReason false).useFree else s

/-- SECOND_LOSS (R444): both members' data is lost; the slices stay QUARANTINED. -/
def execSecondLoss (slice : Nat) (s : State) : Host.Outcome State Fault Refusal :=
  match s.setOf slice with
  | none => stay s
  | some p =>
    if p.lost = [] ∨ p.lost.contains slice then stay s
    else
      let f := (s.memSlice slice).owner
      let s1 := (s.putSet p { p with lost := slice :: p.lost, pos := none }).loseMember slice (s.memSlice slice).serve
      let gone := fun (st : State) (n : Nat) => st.setMemSlice n { st.memSlice n with dieLost := true }
      let local_ := (p.lost.filter (fun n => p.members.contains (0, n)))
      let s2 := ((foldS (slice :: local_) s1 gone).endSifts slice 0x11).resetForLoss f 2 (slice :: local_)
      .next (if f = 0 then s2.folio0Left else s2)

/-- A home recalls a line that a cluster of a failed die held: the surviving copies' dirty data goes to memory (R327). A line with a transaction
in progress loses the failed holders only. -/
def State.recallLost (s : State) (d h line : Nat) : State :=
  if (tget line (s.home h).txns).isNone then s.recallLine h line
  else foldS (dieCores d) s (fun st n => st.dirRemove h line n)

/-- The cluster caches of a failed die are gone: homes take them as having answered PrbMiss, and those of the surviving die and the host home
recall every line that they held (R327). -/
def State.loseCaches (s : State) (d : Nat) : State :=
  let s1 := foldS (dieCores d) s (fun st n => (st.answerFor n).setCache n {})
  foldS (dieMems (1 - d) ++ [64]) s1 (fun st h =>
    foldS ((st.home h).dir.filter (fun e => e.2.sharers.any (fun n => n / 64 == d))) st (fun st2 e => st2.recallLost d h e.1))

/-- A die fails in service (R49-R51), or during start-up, where there is nothing yet to lose: it stays dark (R46). -/
def State.dieFail (s : State) (d code : Nat) : State :=
  if 1 < d ∨ ¬ s.clasp.rails ∨ (s.fabric d).failed then s
  else if s.clasp.inReset then (s.hwError 18 10 code d 0 0x3F 0xFFFF).gateDie d
  else
    let s0 := (s.hwError 18 10 code d 0 0x3F 0xFFFF).loseCaches d
    let dest := (s0.reqs.filter (fun r => r.2.status.isNone && s0.onDie d r.2.folio r.2.pa)).map Prod.fst
    let s1 := foldS ((dieMems d).filter s0.inSet) s0 State.loseOne
    let lost := dest.filter (fun i => match s1.req? i with
      | some q => s1.onDie d q.folio q.pa || (decide (q.pa < 2 ^ 39) && s1.route q.pa == .hbm && (s1.homeOf q.pa).isNone)
      | none => false)
    let offers := (s1.offers.filter (fun o => s1.onDie d o.2.folio o.2.pa)).map Prod.fst
    let s2 := ((s1.loseTraffic d lost offers).loseEngines d).quarantineDie d
    let s3 := { (s2.gateDie d) with capState := if (s.fabric (1 - d)).failed then 1 else 2 }
    let s4 := foldS (s0.hitFolios s1 d) s3.repin.capChange (fun st f => st.resetForLoss f 10 [d])
    (foldS (List.range 64) s4 State.destroyCheck).folio0Left

/-- DIE_FAILURE (R46, R49). -/
def execDieFailure (die cause : Nat) (s : State) : Host.Outcome State Fault Refusal := .next (s.dieFail die cause)

/-- RAIL_RESET_TRIP (R46, R547): the regulator's die fails; the code of the record is not given. -/
def execRailResetTrip (supply : Nat) (s : State) : Host.Outcome State Fault Refusal :=
  if 17 < supply then stay s else .next ((s.useFree).dieFail (if supply < 16 then supply / 8 else supply - 16) (s.freeNat % 256))

/-- Is a unit one of a die's fabric domain (R31): home, HBM channel, router, stitch link, copy engine, sift unit? -/
def fabricUnit (unit : Nat) : Bool := [2, 3, 4, 6, 7, 8].contains unit

/-- The island whose count stamps a unit's error (R34): the region of a core or a cluster cache, the fabric of the unit's die for what its
fabric domain, its HBM PHYs and its stitch SerDes hold, else the hub. -/
def unitIsland (unit loc : Nat) : Nat :=
  if unit ≤ 1 ∧ bits loc 24 8 < 2 ∧ bits loc 16 8 < 8 then 8 * bits loc 24 8 + bits loc 16 8
  else if fabricUnit unit ∧ bits loc 24 8 < 2 then 16 + bits loc 24 8
  else 18

/-- The die whose fabric domain reports a fatal error: that of the unit, or a die itself (R46). -/
def fatalDie (unit loc : Nat) : Option Nat :=
  if fabricUnit unit then some (bits loc 24 8) else if unit = 10 then some (bits loc 0 8) else none

/-- WHERE of a unit's error in the form of ENGINE (R594): an HBM channel follows from the address in error (R349). -/
def State.errorWhere (s : State) (unit loc addr : Nat) : Nat :=
  match s.channelOf addr with
  | some (st, ch) => if unit = 3 ∧ addr < 2 ^ 39 then st / 8 * 2 ^ 24 + st % 8 * 2 ^ 16 + ch else loc
  | none => loc

/-- UNCORRECTABLE_UNIT_ERROR (R594, R652, R46): the record; the line of an HBM channel error is poisoned; a fatal error of a
fabric domain fails its die, one of the hub raises Viral (R449). -/
def execUncorrectableUnitError (unit code loc addr : Nat) (fatal : Bool) (s : State) : Host.Outcome State Fault Refusal :=
  if ¬ s.clasp.rails then stay s
  else
    let loc := s.errorWhere unit loc addr
    let s1 := s.hwError (unitIsland unit loc) unit code loc addr 0x3F 0xFFFF
    let s2 := if unit = 3 ∧ addr < 2 ^ 39 ∧ (s.server (addr / 2 ^ 33)).isSome then { s1 with poison := sadd (s1.physOf (lineOf addr)) s1.poison } else s1
    let s3 := if unit = 9 ∧ fatal then { s2 with link := { s2.link with viral := true } } else s2
    .next (match fatalDie unit loc with | some d => if fatal then s3.dieFail d code else s3 | none => s3)

/-! ## The reset commands (R598-R603) -/

/-- What is wrong with the arguments of ENGINE_RESET. -/
def State.engineBad (s : State) (kind id : Nat) : Option Nat :=
  if 2 < kind then some 0x28
  else if kind = 0 then
    (if bits id 24 8 < 2 ∧ bits id 16 8 < 8 ∧ bits id 8 8 < 9 ∧ bits id 0 8 < 4 ∧ s.coreEnabled (engineCore id) then none else some 0x2C)
  else if id < (if kind = 1 then 8 else 64) then none else some 0x2C

/-- ENGINE_RESET (R598, R601). -/
def execEngineReset (queue : Nat) (s : State) : Host.Outcome State Fault Refusal :=
  s.runCmd queue 0x68 (fun s1 _ c =>
    let id := c.arg 0x2C 4
    match s1.engineBad (c.arg 0x28 1) id with
    | some o => s1.cmdDone queue 2 o
    | none =>
      let s2 := if c.arg 0x28 1 = 0 then s1.resetCore (engineCore id) 0 else if c.arg 0x28 1 = 1 then s1.resetCopy id 0 else s1.resetUnit id 0
      s2.cmdDone queue 0 0)

/-- FOLIO_RESET (R446, R598, R602). -/
def execFolioReset (queue : Nat) (s : State) : Host.Outcome State Fault Refusal :=
  s.runCmd queue 0x69 (fun s1 _ c =>
    let f := c.arg 0x28 1
    if f = 0 then s1.cmdDone queue 0x0A 0
    else match s1.folioBad f 0x28 with
      | some e => s1.cmdDone queue e.1 e.2
      | none => (s1.startFolioReset f 0 (some queue)).setPhase queue (.running 0))

/-- FOLIO_RESET_DRAIN_EXPIRY (R446, R447, R464): after 1 ms what is outstanding completes LOST, and the folio is reset. -/
def execFolioResetDrainExpiry (folio : Nat) (s : State) : Host.Outcome State Fault Refusal :=
  match (s.folio folio).resetting with
  | none => stay s
  | some (reason, queue, started) =>
    if s.hubCount < started + 1000000 then stay s
    else
      let s1 := ((s.loseFolio folio).folioReset folio reason started).endFor queue 0
      .next (if reason = 1 then s1.emit (.flrDone folio) else s1)

/-- PKG_RESET (R598, R603): its fence is never signalled. -/
def execPkgReset (queue : Nat) (s : State) : Host.Outcome State Fault Refusal := s.runCmd queue 0x6A (fun s1 _ _ => s1.pkgReset 0 false)

/-! ## Watchdogs (R595) -/

/-- WATCHDOG_ACT. -/
def execWatchdogAct (ctx : Nat) (s : State) : Host.Outcome State Fault Refusal :=
  match s.ctx? ctx with
  | none => stay s
  | some y =>
    match y.act with
    | some { queue := some q, release, .. } =>
      let ms := s.fld rWdogCtl 0 16
      if y.rt ∨ ms = 0 ∨ s.hubCount < release + 1000000 * ms then stay s
      else .next ((s.watchdogRec 1 q (s.hubCount - release) y.folio ctx).ctxReset ctx 0x0F 2)
    | _ => stay s

/-- WATCHDOG_CMDWAIT. -/
def execWatchdogCmdwait (queue : Nat) (s : State) : Host.Outcome State Fault Refusal :=
  match s.queue? queue with
  | none => stay s
  | some x =>
    let ms := s.fld rWdogCtl 16 12
    if x.phase ≠ .waiting ∨ x.waitNoted ∨ ms = 0 ∨ s.hubCount < x.started + 1000000 * ms then stay s
    else .next ((s.watchdogRec 2 queue (s.hubCount - x.started) (s.queueFolio x) x.ctx).setQueue queue { x with waitNoted := true })

/-- WATCHDOG_CORE. -/
def execWatchdogCore (core : Nat) (s : State) : Host.Outcome State Fault Refusal :=
  let r := s.core core
  if ¬ r.slots.any (fun x => s.ready core x.1 x.2) ∨ s.hubCount < r.lastRet + 1000 * s.coreUs then stay s
  else .next ((s.watchdogRec 3 (engineWord core) (s.hubCount - r.lastRet) 0x3F 0xFFFF).resetCore core 4)

/-- Does a request go to a departing slice, whose drain limit watches it (R595, R428)? -/
def State.toLeaving (s : State) (q : Req) : Bool :=
  match s.route q.pa with
  | .hbm => (match s.server (q.pa / 2 ^ 33) with | some m => (s.memSlice m).leaving | none => false)
  | _ => false

/-- TARGET of a request's watchdog: its engine, link or queue. -/
def issuerTarget : Issuer → Nat
  | .scalar c _ => engineWord c
  | .store c _ => engineWord c
  | .burst c _ _ _ => engineWord c
  | .copy c => c / 16
  | .hub q => q
  | .stitch l _ => l
  | .offer i => i

/-- WATCHDOG_REQ (R594, R595): the hub completes the request LOST; UNIT and CODE of the HW_ERROR are not given. -/
def execWatchdogReq (req : Nat) (s : State) : Host.Outcome State Fault Refusal :=
  match s.req? req with
  | none => (match tget req s.sifts with
    | some q =>
      if (s.memSlice q.unit).leaving ∨ s.hubCount < q.issued + 1000000 * s.reqMs then stay s
      else
        let s1 := (s.watchdogRec 4 (engineWord q.core) (s.hubCount - q.issued) q.folio q.ctx).siftFail req q 0x11 0 0
        .next ((s1.hwError 18 (s1.freeNat % 11) (s1.useFree.freeNat % 256) (engineWord q.core) (q.pa (siftOf q.desc).rows) q.folio q.ctx).useFree.useFree)
    | none => stay s)
  | some q =>
    if q.status.isSome ∨ s.toLeaving q ∨ s.hubCount < q.born + 1000000 * s.reqMs then stay s
    else
      let t := issuerTarget q.issuer
      let s1 := s.watchdogRec 4 t (s.hubCount - q.born) q.folio q.ctx
      let s2 := match q.issuer with
        | .offer i => (match tget i s1.offers with | some o => (s1.dropReq req).offerEnd i o .lost false | none => s1.dropReq req)
        | _ => s1.finish req q .lost []
      .next ((s2.hwError 18 (s2.freeNat % 11) (s2.useFree.freeNat % 256) t q.pa q.folio q.ctx).useFree.useFree)

/-- WATCHDOG_MGMT. -/
def execWatchdogMgmt (s : State) : Host.Outcome State Fault Refusal :=
  if ¬ s.clasp.rails ∨ s.clasp.boot ≠ .running then stay s
  else .next ((s.watchdogRec 5 0 100000000 0x3F 0xFFFF).pkgReset 6 false)

/-- WATCHDOG_CLASP. -/
def execWatchdogClasp (s : State) : Host.Outcome State Fault Refusal :=
  if ¬ s.clasp.aux then stay s else .next (s.watchdogRec 6 0 1000000000 0x3F 0xFFFF).powerCycle

/-- The contexts on an engine (R599): resident on a core, bound to a channel of a copy engine, with a request at a sift unit. -/
def State.ctxsAt (s : State) (kind target : Nat) : List Nat :=
  if kind = 0 then s.ctxsOn (engineCore target)
  else if kind = 1 then (((List.range 16).map (fun k => 16 * target + k)).filter (fun ch => (s.chan ch).queue.isSome)).map s.chanCtx
  else (s.sifts.filter (fun q => q.2.unit == target)).map (fun q => q.2.ctx)

/-- The next step of the ladder after one that has run past its bound (R599): of step 2, `target` holds the engine's ID and, from bit 32 up, its KIND. -/
def State.escalate (s : State) (step target : Nat) : State :=
  if step = 1 then foldS (((s.slotsOf target).map Prod.fst).eraseDups) s (fun st c => st.resetCore c 16)
  else if step = 2 then
    (let fs := ((s.ctxsAt (target / 2 ^ 32) (target % 2 ^ 32)).map s.ctxFolio).eraseDups
     foldS (fs.filter (fun f => f != 0 && (s.folio f).valid)) s (fun st f => st.startFolioReset f 16 none))
  else if step = 3 then s.pkgReset 16 false
  else s.powerCycle

/-- WATCHDOG_STEP (R595, R599); its ELAPSED is past the bound, by how much is free. -/
def execWatchdogStep (step target : Nat) (s : State) : Host.Outcome State Fault Refusal :=
  if ¬ s.clasp.rails then stay s
  else .next (((s.watchdogRec 7 (target % 2 ^ 32) s.freeNat 0x3F 0xFFFF).useFree).escalate step target)

/-! ## The books (R605) -/

/-- Do the watch-entry and residency books agree with the live state? -/
def State.booksOk (s : State) : Bool :=
  s.homes.all (fun h => decide (h.2.watch.length ≤ 512)) && decide (s.watchLines ≤ 1024) && decide (s.residents.length ≤ 48 ∧ s.residents.Nodup) &&
  s.cores.all (fun c => decide (c.2.slots.length ≤ 4 ∧ (c.2.slots.flatMap (fun x => x.2.spWays)).Nodup ∧ (c.2.slots.flatMap (fun x => x.2.accWays)).Nodup))

/-- BOOKS_CHECK, every millisecond. -/
def execBooksCheck (s : State) : Host.Outcome State Fault Refusal :=
  if ¬ s.clasp.rails ∨ s.hubCount < s.booksAt + 1000000 then stay s
  else
    let s1 := { s with booksAt := s.hubCount }
    .next (if s.booksOk then s1 else s1.hwError 18 9 1 0 0 0x3F 0xFFFF)

/-! ## Package standby (R606, R607) -/

/-- Every cluster cache writes back and is empty, and the homes know it. -/
def State.emptyCaches (s : State) : State :=
  let s1 := foldS s.caches s (fun st c => foldS (c.2.lines.map Prod.fst) st (fun st2 l => st2.cleanLine c.1 l false))
  let s2 := foldS s1.caches s1 (fun st c => foldS (c.2.wb.filter (fun w => w.2.dirty && !w.2.acked)) st (fun st2 w => st2.takeBack w.1 w.2.data))
  let idle := fun (h : Home) => { h with dir := [], lru := [], txns := [] }
  { s2 with caches := [], homes := tmap (fun _ (h : Home) => idle h) s2.homes, hostHome := idle s2.hostHome }

/-- Power leaves the regions and fabrics; counts and settings stay (R36). -/
def State.allOff (s : State) : State :=
  { s with
    regions := tmap (fun _ (r : Region) => { r with powered := false, target := none, railUp := false, droop := false }) s.regions
    fabrics := tmap (fun _ (f : Fabric) => { f with running := false }) s.fabrics }

/-- PKG_STANDBY (R606). -/
def execPkgStandby (queue : Nat) (s : State) : Host.Outcome State Fault Refusal :=
  s.runCmd queue 0x6B (fun s1 _ _ =>
    if s1.residents ≠ [] ∨ s1.queues.any (fun q => q.1 != 0 && q.2.cmds != []) then s1.cmdDone queue 5 0
    else
      let s2 := s1.emptyCaches.allOff
      let saved := s2.regs.filter (fun e => decide (0x2000000 ≤ e.1))
      ({ s2 with standby := some saved, regs := s2.regs.filter (fun e => decide (e.1 < 0x2000000)), cores := [], walkers := [], cpyTlb := [], hubTlb := [],
                 clasp := { s2.clasp with wake := false } }).cmdDone queue 0 0)

/-- Has something asked for the exit: a watched doorbell written, or the wake message? -/
def State.woken (s : State) : Bool := s.clasp.wake || s.queues.any (fun q => q.2.watched && q.2.snooped)

/-- A region powers up at its safe frequency (R621); the hub applies SET_MHZ again from its shadow (R607), which is a step of R535. -/
def State.regionUp (s : State) (i : Nat) : State :=
  let r := s.region i
  let f := s.safeMhz i
  ((s.setRegion i { r with powered := true, setMhz := f, voltMv := s.setMv i f, target := none, railUp := false }).sampleDue 2 i).setTarget i
    (s.wanted i r.setMhz)

/-- Regions not switched off by HUB_RGN_PWR and not on a failed die power up again with their settings. -/
def State.regionBack (s : State) (i : Nat) : State :=
  if (s.fabric (i / 8)).failed || bit (s.fld rRgnPwr 0 16) i then s
  else s.regionUp i

/-- STANDBY_EXIT (R606). -/
def execStandbyExit (s : State) : Host.Outcome State Fault Refusal :=
  match s.standby with
  | none => stay s
  | some saved =>
    if ¬ s.woken then stay s
    else
      let s1 := { s with standby := none, regs := s.regs ++ saved, clasp := { s.clasp with wake := false } }.voidSweep
      .next (foldS [0, 1] (foldS (List.range 16) s1 State.regionBack) (fun st d => if (st.fabric d).failed then st else st.startFabric d))

end Sys2Proof.Machine
end

