-- ==== Sys2Proof/Machine/Cyclic.lean ====
section
/-! DEFINITION. Sys2Proof/Machine/Cyclic.lean: the cyclic schedule and its self-tests (16 R526-R528, 19 R608). -/

namespace Sys2Proof.Machine

/-! ## Entries (R527) -/

def CycEntry.minor (e : CycEntry) : Nat := fieldLe e.bytes 0 1
def CycEntry.kind (e : CycEntry) : Nat := fieldLe e.bytes 1 1
def CycEntry.ctx (e : CycEntry) : Nat := fieldLe e.bytes 2 2
def CycEntry.id (e : CycEntry) : Nat := fieldLe e.bytes 4 1
def CycEntry.after (e : CycEntry) : Bool := bit (fieldLe e.bytes 5 1) 0
def CycEntry.budget (e : CycEntry) : Nat := fieldLe e.bytes 6 2
def CycEntry.arg (e : CycEntry) : Nat := fieldLe e.bytes 8 8

/-- Does an entry keep the format of R527? -/
def State.entryOk (s : State) (e : CycEntry) : Bool :=
  decide (e.minor ≤ 15) && decide (e.kind ≤ 3) && decide (fieldLe e.bytes 5 1 < 2) && decide (e.budget ≤ 62) &&
  (if e.kind = 1 then (match s.ctx? e.ctx with | some y => y.folio == 0 | none => false) && decide (e.id ≤ 63) else e.ctx == 0) &&
  (e.kind != 2 || e.arg % 8 == 0) && (e.kind != 3 || decide (1 ≤ e.id ∧ e.id ≤ 6))

/-- The entries of a table's bytes. -/
def entriesOf (b : Bytes) : List CycEntry := (List.range (b.length / 16)).map (fun i => { bytes := Machine.slice b (16 * i) 16 })

/-- The first entry that breaks the format, or whose MINOR is below its predecessor's. -/
def State.entryBad (s : State) (l : List CycEntry) : Option Nat :=
  (List.range l.length).find? (fun i =>
    match l[i]? with
    | none => false
    | some e => !s.entryOk e || (match (if i = 0 then none else l[i - 1]?) with | some p => decide (e.minor < p.minor) | none => false))

/-- CYCLIC_LOAD (R527): the table waits in the hub for the next major-frame boundary. -/
def execCyclicLoad (queue : Nat) (s : State) : Host.Outcome State Fault Refusal :=
  s.runCmd queue 0x54 (fun s1 _ c =>
    let n := c.arg 0x30 2
    if n = 0 ∨ 256 < n then s1.cmdDone queue 2 0x30
    else s1.withBlock queue c (16 * n) (fun s2 b =>
      match s2.entryBad (entriesOf b) with
      | some i => s2.cmdDone queue 2 (inBlock (16 * i))
      | none => ({ s2 with cyclic := { s2.cyclic with newTable := some (b, n) } }).cmdDone queue 0 0))

/-- CYCLIC_ENTER (R526): it completes at the next major-frame boundary. -/
def execCyclicEnter (queue : Nat) (s : State) : Host.Outcome State Fault Refusal :=
  s.runCmd queue 0x55 (fun s1 _ _ => ({ s1 with cyclic := { s1.cyclic with enterQ := some queue } }).setPhase queue (.running 0))

/-- CYCLIC_EXIT (R526). -/
def execCyclicExit (queue : Nat) (s : State) : Host.Outcome State Fault Refusal :=
  s.runCmd queue 0x56 (fun s1 _ _ => ({ s1 with cyclic := { s1.cyclic with exitQ := some queue } }).setPhase queue (.running 0))

/-! ## Frames (R526, R528) -/

/-- A new major frame: the table, the mode and the count of major frames. -/
def State.majorFrame (s : State) : State :=
  let c := s.cyclic
  let c1 := match c.newTable with | some (b, _) => { c with table := entriesOf b, newTable := none } | none => c
  let c2 :=
    if c1.enterQ.isSome then { c1 with mode := true, major := 0 }
    else if c1.exitQ.isSome then { c1 with mode := false }
    else if c1.mode then { c1 with major := c1.major + 1 } else c1
  let s0 := if c.newTable.isSome then { s with ctxs := tmap (fun _ (y : Context) => { y with act := y.act.map (fun a => { a with entry := none }) }) s.ctxs } else s
  let s1 := { s0 with cyclic := { c2 with enterQ := none, exitQ := none } }
  (s1.endFor c.enterQ 0).endFor c.exitQ 0

/-- The entries of the new minor frame are due; one whose activation still runs is skipped and counted as an overrun. -/
def State.minorFrame (s : State) : State :=
  let c := s.cyclic
  let busy := (c.table.filter (fun e => e.minor == c.minor && e.running)).length
  let mark := fun (e : CycEntry) => if e.minor = c.minor ∧ e.running = false then { e with due := true, ended := false } else e
  ({ s with cyclic := { c with table := c.table.map mark } }).bumpFld rCyclicStat 32 16 busy

/-- MINOR_FRAME_BOUNDARY (R526, R528). -/
def execMinorFrameBoundary (s : State) : Host.Outcome State Fault Refusal :=
  let c := s.cyclic
  if ¬ s.clasp.rails ∨ s.hubCount < c.frameStart + 62500 then stay s
  else
    let m := (c.minor + 1) % 16
    let s1 := { s with cyclic := { c with minor := m, frameStart := c.frameStart + 62500 } }
    let s2 := if m = 0 then s1.majorFrame else s1
    .next (if s2.cyclic.mode then s2.minorFrame else s2)

/-! ## Self-tests (R608) -/

/-- A core slice fails in service: the contexts on it are reset, it is QUARANTINED (R46, R429). -/
def State.coreSliceFails (s : State) (n : Nat) : State :=
  let f := (s.coreSlice n).owner
  let s1 := foldS (s.sliceCtxs n f) s (fun st c => (st.ctxResetFree c 0x0F).evictCtx c)
  (((s1.loseCache n).setCoreSlice n (outOfService none)).repin.capChange).folio0Left

/-- The unit of a failed test leaves service: a core slice, a memory slice, the spine, a link slice; a router is recorded only. -/
def State.testFails (s : State) (test unit code : Nat) : State :=
  let s1 := s.hwError 18 (if test = 2 then 3 else if test = 3 then 5 else if test = 4 then 6 else if test = 6 then 4 else 0) code unit 0 0x3F 0xFFFF
  if (test = 1 ∨ test = 5) ∧ (s1.coreSlice unit).st = .owned ∧ (s1.coreSlice unit).owner = 0 then s1.coreSliceFails unit
  else if test = 2 ∧ (s1.memSlice unit).st ≠ .owned ∧ unit < 64 then (s1.setMemSlice unit (outOfService (some unit))).capChange
  else if test = 3 then s1.dieFail (if (s1.fabric 0).passed || !(s1.fabric 1).passed then 1 else 0) code
  else if test = 4 ∧ unit < 12 then (s1.setLinkSlice unit (outOfService none)).capChange
  else s1

/-- What a test leaves behind: the scratchpads and cluster caches of folio 0's core slices are lost, FREE slices are scrubbed. -/
def State.testMarks (s : State) (test : Nat) : State :=
  if test = 1 then
    foldS (s.folioCores 0) s (fun st n => (foldS (s.coresOf n) st (fun st2 c => st2.setCore c { st2.core c with sp := [] })).loseCache n)
  else if test = 2 then
    foldS ((List.range 64).filter (fun n => (s.memSlice n).st == .free && !(s.memSlice n).init)) s State.startScrub
  else s

/-- The 16-byte result; the hub cycles taken are not given. -/
def testResult (pass : Bool) (code unit cycles : Nat) : Bytes := le 1 (b2n pass) ++ le 1 code ++ le 2 0 ++ le 4 unit ++ le 8 cycles

/-- A self-test entry. -/
def State.selfTestEntry (s : State) (e : CycEntry) (pass : Bool) (code unit : Nat) : State :=
  let s1 := ((s.testMarks e.id).hubWrite 0 e.arg (testResult pass code unit s.freeNat)).2.useFree
  if pass then s1 else s1.testFails e.id unit code

/-! ## Entries start and end (R528) -/

/-- Replaces an entry. -/
def State.setEntry (s : State) (i : Nat) (e : CycEntry) : State := { s with cyclic := { s.cyclic with table := s.cyclic.table.set i e } }

/-- Has the entry before an AFTER entry in its minor frame ended? -/
def State.predEnded (s : State) (i : Nat) (e : CycEntry) : Bool :=
  if i = 0 then true
  else match s.cyclic.table[i - 1]? with | some p => p.minor != e.minor || p.ended | none => true

/-- A launch entry: it waits for what it lacks, and ends when its program or placement is gone. -/
def State.launchEntry (s : State) (i : Nat) (e : CycEntry) : State :=
  match s.resolve e.ctx e.id with
  | .error _ => s.setEntry i { e with due := false, ended := true }
  | .ok (p, place) =>
    let s1 := s.makeWay e.ctx (qSpWays p.image) (qAccWays p.image)
    if s1.canActivate e.ctx p then
      (s1.setEntry i { e with due := false, running := true, began := s.hubCount }).activate
        { ctx := e.ctx, prog := e.id, place, seg := 0xFFFF, arg := BitVec.ofNat 64 e.arg, qos := 0 } p none (some i)
    else s1

/-- A signal entry: the low 32 bits of the count of major frames, offered at `.pkg`. -/
def State.signalEntry (s : State) (e : CycEntry) : State :=
  s.postOffer { va := e.arg, pa := e.arg, value := BitVec.ofNat 32 s.cyclic.major, scope := 1, ctx := 0, folio := 0, epoch := (s.folio 0).epoch,
                issuer := .command 0 }

/-- CYCLIC_ENTRY_START (R528, R608). -/
def execCyclicEntryStart (entry : Nat) (pass : Bool) (code unit : Nat) (s : State) : Host.Outcome State Fault Refusal :=
  match s.cyclic.table[entry]? with
  | none => stay s
  | some e =>
    if ¬ e.due ∨ ¬ s.cyclic.mode ∨ (e.after ∧ ¬ s.predEnded entry e) then stay s
    else
      let over_ := s.setEntry entry { e with due := false, ended := true, began := s.hubCount }
      if e.kind = 1 then .next (s.launchEntry entry e)
      else if e.kind = 2 then .next (over_.signalEntry e)
      else if e.kind = 3 then .next (over_.selfTestEntry e pass code unit)
      else .next over_

/-- Is the budget of a running entry spent? -/
def State.budgetSpent (s : State) (e : CycEntry) : Bool :=
  if e.budget = 0 then decide (e.minor ≠ s.cyclic.minor ∨ s.cyclic.frameStart + 62500 ≤ s.hubCount) else decide (e.began + 1000 * e.budget ≤ s.hubCount)

/-- CYCLIC_OVERRUN (R528): the context is reset, the record, OVERRUN. -/
def execCyclicOverrun (entry : Nat) (s : State) : Host.Outcome State Fault Refusal :=
  match s.cyclic.table[entry]? with
  | none => stay s
  | some e =>
    if ¬ e.running ∨ ¬ s.budgetSpent e then stay s
    else
      let s1 := (s.ctxResetFree e.ctx 0x0F).entryEnded entry
      .next ((s1.ringPut 0 (s1.record tyCyclicOverrun 0 0 e.ctx 18 (le 1 entry ++ le 1 e.minor))).bumpFld rCyclicStat 32 16 1)

end Sys2Proof.Machine
end

