-- ==== Sys2Proof/Machine/Fabric.lean ====
section
/-! DEFINITION. Sys2Proof/Machine/Fabric.lean: urgency and the spine of the on-die networks (08 R282, R289-R293). -/

namespace Sys2Proof.Machine

/-! ## Urgency (R290-R293) -/

/-- A master's level after a measurement: raised at the thresholds L1 and L2, lowered below a step's threshold minus HYST (R291). -/
def urgNext (thr : Nat × Nat × Nat) (level fill : Nat) : Nat :=
  if thr.2.1 ≤ fill then 2
  else if level = 2 ∧ thr.2.1 - thr.2.2 ≤ fill then 2
  else if thr.1 ≤ fill then 1
  else if 1 ≤ level ∧ thr.1 - thr.2.2 ≤ fill then 1
  else 0

/-- Is a master one that raises urgency: a hub port, a stitch link, or an id that a stream channel has taken (R290)? -/
def State.isMaster (s : State) (m : Nat) : Bool := decide (m < 14) || (List.range 128).any (fun c => (s.chan c).stream == some m)

/-- The fill of a master's buffer in sixteenths (R291): a stitch link's request pool (R436), or the buffers that a channel's MAXBUF allows it
(R393). A hub port's write buffer holds writes on their way from the host, which come from outside: the event names its fill. -/
def State.urgFill (s : State) (m given : Nat) : Nat :=
  if m < 2 then given
  else if m < 14 then (256 - (s.stitch (m - 2)).reqPool) * 16 / 256
  else match (List.range 128).find? (fun c => (s.chan c).stream == some m) with
    | some c => s.held c * 16 / max 1 (s.maxBuf c)
    | none => given

/-- URGENCY_LEVEL_CHANGE (R290, R291): a master measures its fill; its level goes to every arbiter. -/
def execUrgencyLevelChange (master fill : Nat) (s : State) : Host.Outcome State Fault Refusal :=
  if ¬ s.isMaster master then stay s
  else
    let old := s.urgLevel master
    let n := urgNext (s.urgThr master) old (s.urgFill master fill)
    .next { s with
      urgency := tputD 0 master n s.urgency
      urgSince := if n = 2 then (if old = 2 then s.urgSince else tput master s.hubCount s.urgSince) else tdel master s.urgSince
      urgNoted := if n = 2 then s.urgNoted else sdel master s.urgNoted }

/-- Where a master's request waits, in the codes of R591, and the hub cycles it has waited: at the arbiter of its home, at that of its hub port, or
at a spine lane that is closed to it. -/
def State.waitsAt (s : State) (id : Nat) (q : Req) : Option (Nat × Nat × Nat) :=
  match s.homeOf q.pa with
  | none => none
  | some h =>
    if ¬ s.unserviced h id q then none
    else match q.arr with
      | some (t, _) =>
        if h < 64 then some (0, h, (s.homeClock h - t) / 2) else some (2, s.srcDie h q, s.hubCount - t)
      | none =>
        if s.reaches h q then none
        else (s.srcOf q).map (fun n => (1, 3 * n.die + laneFor (homeNode h n.die), s.hubCount - q.born))

/-- The arbiter at which a master's requests have waited longest (R293). -/
def State.longestWait (s : State) (m : Nat) : Option (Nat × Nat × Nat) :=
  let l := (s.reqs.filter (fun r => s.masterOf r.2 == some m)).filterMap (fun r => s.waitsAt r.1 r.2)
  l.find? (fun a => l.all (fun b => decide (b.2.2 ≤ a.2.2)))

/-- URGENCY_HELD: level 2 for 100 us without a break, one record (R293, R591). Requests of a master that this state does not hold (the host's) wait
where the event says. -/
def execUrgencyHeld (master arbKind arbIndex oldest : Nat) (s : State) : Host.Outcome State Fault Refusal :=
  match tget master s.urgSince with
  | none => stay s
  | some since =>
    if s.urgLevel master ≠ 2 ∨ s.hubCount < since + 100000 ∨ s.urgNoted.contains master then stay s
    else
      let a := (s.longestWait master).getD (arbKind, arbIndex, oldest)
      let s1 := s.ringPut 0 (s.record tyUrgencyHeld 0x3F 0 0xFFFF 18
        (le 1 master ++ le 1 a.1 ++ le 2 a.2.1 ++ le 4 0 ++ le 8 (s.hubCount - since) ++ le 8 a.2.2))
      .next { s1 with urgNoted := sadd master s1.urgNoted }

/-- FAB_QOS_WT_WRITE (R289). -/
def execFabQosWtWrite (die : Nat) (w : BitVec 32) (s : State) : Host.Outcome State Fault Refusal :=
  if 1 < die ∨ ¬ s.clasp.rails then stay s else .next (s.writeFld (rQosWt die) 0 32 w.toNat)

/-! ## The spine (R275, R282, R283) -/

def State.lane (s : State) (l : Nat) : Lane3 := tgetD {} l s.spine
def State.setLane (s : State) (l : Nat) (v : Lane3) : State := { s with spine := tputD {} l v s.spine }

/-- A lane stops carrying traffic and re-initialises; both ends count it. -/
def State.laneReinit (s : State) (l : Nat) : State :=
  ((s.setLane l { s.lane l with up := false }).bumpFld (rSpine 0) 16 8 1).bumpFld (rSpine 1) 16 8 1

/-- The links of a spine lane, one in each direction, by the codes of its two routers (R265). -/
def laneWires (l : Nat) : List Nat := [256 * (76 + l) + (204 + l), 256 * (204 + l) + (76 + l)]

/-- A re-initialised lane carries traffic with full credits at both ends (R275): the flits that it had sent are at the far end. -/
def Net.renewLane (n : Net) (l : Nat) : Net :=
  (laneWires l).foldl (fun (m : Net) k =>
    let w := tgetD {} k m.wires
    let fs := w.buf.flatMap Prod.snd ++ w.flight.map (fun f => f.2.2)
    { m with
      wires := tdel k m.wires
      wait := fs.foldl (fun t f => tput (8 * (k % 256) + f.cls.no) (tgetD [] (8 * (k % 256) + f.cls.no) t ++ [f]) t) m.wait }) n

/-- Do both ends of the spine run? -/
def State.spineOn (s : State) : Bool := (s.fabric 0).running && (s.fabric 1).running && !s.spineFailed

/-- SPINE_REPLAY: replays are counted per lane in windows of 1 ms; the seventeenth re-initialises the lane. -/
def execSpineReplay (die lane : Nat) (s : State) : Host.Outcome State Fault Refusal :=
  if 1 < die ∨ 2 < lane ∨ ¬ (s.lane lane).up ∨ ¬ s.spineOn then stay s
  else
    let x := s.lane lane
    let n := if x.window = s.hubCount / 1000000 then x.replays + 1 else 1
    let s1 := (s.bumpFld (rSpine die) 0 16 1).setLane lane { x with replays := n, window := s.hubCount / 1000000 }
    .next (if 16 < n then s1.laneReinit lane else s1)

/-- SPINE_LANE_REINIT. -/
def execSpineLaneReinit (lane : Nat) (s : State) : Host.Outcome State Fault Refusal :=
  if 2 < lane ∨ ¬ (s.lane lane).up ∨ ¬ s.spineOn then stay s else .next (s.laneReinit lane)

/-- The die that the hub gives up when the spine fails (R47): the one whose fabric domain and hub port failed the last self-test;
when both passed, die 1. -/
def State.spineLoser (s : State) : Nat := if (s.fabric 0).passed then 1 else 0

/-- SPINE_REINIT_DONE: the lane carries traffic again with full credits, or the third failure in a row fails the spine. -/
def execSpineReinitDone (lane : Nat) (ok : Bool) (s : State) : Host.Outcome State Fault Refusal :=
  let x := s.lane lane
  if 2 < lane ∨ x.up ∨ ¬ s.spineOn then stay s
  else if ok then .next { s.setLane lane { x with up := true, replays := 0, fails := 0 } with net := s.net.renewLane lane }
  else if x.fails < 2 then .next (s.setLane lane { x with fails := x.fails + 1 })
  else .next (({ s with spineFailed := true, spine := [] }).useFree.dieFail s.spineLoser (s.freeNat % 256))

end Sys2Proof.Machine
end

