-- ==== Sys2Proof/Machine/HostLink.lean ====
section
/-! DEFINITION. Sys2Proof/Machine/HostLink.lean: the host link (14 R448-R464): training and loss, CXL.cache answers and snoops, ATS, CXL.mem, MSI-X, function-level resets, DOE. -/

namespace Sys2Proof.Machine

/-! ## The link (R448, R649, R650) -/

/-- The CXL.cache requests outstanding at the hub complete with a host completion error when the link goes down. -/
def State.dropHostReqs (s : State) : State := foldS (s.reqs.filter (fun r => r.2.atHost)) s (fun st r => st.finish r.1 r.2 .hostErr [])

/-- ATS invalidations whose requests have completed to their issuers are answered (R457). -/
def State.atsSettle (s : State) : State :=
  let busy := fun (w : Nat × Nat × List Nat) => w.2.2.any (fun i => match s.req? i with | some q => q.status.isNone | none => false)
  let s1 := { s with link := { s.link with atsWait := s.link.atsWait.filter busy } }
  foldS (s.link.atsWait.filter (fun w => !busy w)) s1 (fun st w => (st.bumpFld rHostStat 16 16 1).emit (.atsDone w.1 w.2.1))

/-- The link is down. -/
def State.linkDown (s : State) : State :=
  let s1 := s.dropHostReqs.atsSettle
  ({ s1 with link := { s1.link with up := false, cxl := false, width := 0, speed := 0 } }).capChange

/-- LINK_TRAINING (R448): any other width or speed leaves the link down, with its report, and a hub that has failed self-test does not train
(R54). -/
def execLinkTraining (width speed : Nat) (cxl : Bool) (s : State) : Host.Outcome State Fault Refusal :=
  if ¬ s.clasp.rails ∨ ¬ s.link.perstN ∨ s.link.up ∨ s.clasp.hubBad then stay s
  else if (width = 8 ∨ width = 16) ∧ (speed = 4 ∨ speed = 5) then
    .next ({ s with link := { s.link with up := true, cxl, width, speed } }).capChange
  else .next (s.emit (.linkOutcome width speed))

/-- HOST_LINK_DOWN (14, when events coincide). -/
def execHostLinkDown (s : State) : Host.Outcome State Fault Refusal := if s.link.up then .next s.linkDown else stay s

/-- PERST_N_ASSERT (R649, R650): the link goes down, the rest of the part keeps running. -/
def execPerstNAssert (s : State) : Host.Outcome State Fault Refusal :=
  let s1 := if s.link.up then s.linkDown else s
  .next { s1 with link := { s1.link with perstN := false } }

/-- PERST_N_DEASSERT (R646, R649): the link may train. -/
def execPerstNDeassert (s : State) : Host.Outcome State Fault Refusal := .next { s with link := { s.link with perstN := true } }

/-! ## Answers of the host (R454, R306, R458) -/

/-- The host's bytes with the lines laid over them that the host-line cache owns: a coherent read takes their current data from the owner in
the clusters, a RawGet the hub's own (R333, R339). -/
def State.overHost (s : State) (q : Req) (coh : Bool) (d : Bytes) : Bytes :=
  ((linesOf q.pa q.len).foldl (fun (x : Req) l => match tget l s.hostLines with
    | some c => if s.hubOwns l then x.lay l (if coh then s.curLine l else c.data) else x
    | none => x) { q with rdata := fit q.len d }).rdata

/-- The host's bytes of a line have come. -/
def State.fromHost (s : State) (line : Nat) (d : Bytes) : State := { s with host := mwrite s.host (line - hostBase) d }

/-- A request's data laid into a line that it touches. -/
def Req.into (q : Req) (line : Nat) (x : Bytes) : Bytes :=
  if q.pa ≤ line then patch x 0 (q.data.drop (line - q.pa)) else patch x (q.pa - line) q.data

/-- The answered request goes on: a granted line is in the host-line cache and the request is served again; a read of the current
value completes; a write takes place. -/
def State.hostAnswer (s : State) (id : Nat) (q : Req) (d : Bytes) : State :=
  let line := lineOf q.pa
  let back := s.setReq id { q with sent := false }
  let held := (tget line s.hostLines).map (fun l => l.data)
  match q.kind with
  | .getShare => (back.fromHost line (fit 64 d)).fillHostLine line .s (fit 64 d)
  | .getOwn => (back.fromHost line (fit 64 d)).fillHostLine line .e (held.getD (fit 64 d))
  | .upgrade => back.fillHostLine line .e (held.getD (s.curLine line))
  | .glance => (s.fromHost q.pa (fit q.len d)).finish id q .ok (s.overHost q true d)
  | .rawGet => (s.fromHost q.pa (fit q.len d)).finish id q .ok (s.overHost q false d)
  | .putHome =>
    if q.atomic then (back.fromHost line (fit 64 d)).fillHostLine line .e (held.getD (fit 64 d))
    else (foldS (linesOf q.pa q.len) s State.evictHostLine).putDone id q
  | .rawPut =>
    let lay := fun (t : Tbl CLine) (l : Nat) => match tget l t with | some x => tput l { x with data := q.into l x.data } t | none => t
    (({ s with host := mwrite s.host (q.pa - hostBase) q.data, hostLines := (linesOf q.pa q.len).foldl lay s.hostLines }).wakeRange q.pa q.len).finish
      id q .ok []

/-- CXL_CACHE_COMPLETION (R454, R456, R461): the host answers, or with an error. -/
def execCxlCacheCompletion (req : Nat) (err : Bool) (data : Bytes) (s : State) : Host.Outcome State Fault Refusal :=
  match s.req? req with
  | none => stay s
  | some q =>
    if ¬ q.atHost ∨ ¬ s.link.up ∨ ¬ s.link.cxl then stay s
    else if err then .next (s.finish req q .hostErr []).atsSettle
    else if q.bias = 1 then .next (s.setReq req { q with bias := 2 })
    else .next (s.hostAnswer req q data).atsSettle

/-- HOST_TIMEOUT (R458, R591). -/
def execHostTimeout (req : Nat) (s : State) : Host.Outcome State Fault Refusal :=
  match s.req? req with
  | none => stay s
  | some q =>
    if ¬ q.atHost ∨ s.hubCount < q.sentAt + 1000000 * s.ctoMs then stay s
    else
      let rb := s.record tyHostTimeout q.folio 0 0xFFFF 18 (le 8 q.pa ++ le 1 0 ++ le 1 q.folio ++ zeros 6 ++ le 8 (s.hubCount - q.sentAt))
      .next ((s.ringPut 0 rb).finish req q .hostErr []).atsSettle

/-! ## Snoops of the host (R455, R306) -/

/-- Does the part hold a host line? -/
def State.holdsHost (s : State) (line : Nat) : Bool :=
  (tget line s.hostLines).isSome || s.caches.any (fun c => (tget line c.2.lines).isSome || (tget line c.2.wb).isSome)

/-- Is the data the part holds newer than the host's? -/
def State.hostDirty (s : State) (line : Nat) : Bool :=
  (s.dirtyIn line).isSome || (match tget line s.hostLines with | some l => isDirty l.st | none => false)

/-- The answer to a snoop: the current data, when the part holds the line. -/
def State.snoopAnswer (s : State) (line : Nat) : State :=
  s.emit (.snoopAnswer line (s.hostDirty line) (if s.holdsHost line then s.curLine line else []))

/-- A snoop waits while the host home has a transaction on the line. -/
def State.snoop (s : State) (addr : Nat) (go : State → Nat → State) : Host.Outcome State Fault Refusal :=
  let line := lineOf addr
  if addr < hostBase ∨ 2 ^ 46 ≤ addr ∨ ¬ s.link.up ∨ ¬ s.link.cxl ∨ (tget line s.hostHome.txns).isSome then stay s else .next (go s line)

/-- The part's data of a line is the host's. -/
def State.giveHost (s : State) (line : Nat) : State :=
  if s.holdsHost line then { s with host := mwrite s.host (line - hostBase) (s.curLine line) } else s

/-- SNP_DATA: cluster copies become shared and clean, the line stays in S. -/
def execSnpData (addr : Nat) (s : State) : Host.Outcome State Fault Refusal :=
  s.snoop addr (fun s1 line =>
    let d := s1.curLine line
    let s2 := (s1.snoopAnswer line).giveHost line
    let s3 := { s2 with
      caches := tmap (fun _ (c : Cache) => match tget line c.lines with
        | some _ => { c with lines := tput line { st := .s, data := d } c.lines }
        | none => { c with wb := match tget line c.wb with | some w => tput line { w with dirty := false } c.wb | none => c.wb }) s2.caches
      hostLines := if (tget line s2.hostLines).isSome then tput line { st := .s, data := d } s2.hostLines else s2.hostLines }
    match tget line s3.hostHome.dir with
    | some e => s3.dirPut 64 line { e with st := .shared }
    | none => s3)

/-- SNP_INV: no copy remains. -/
def execSnpInv (addr : Nat) (s : State) : Host.Outcome State Fault Refusal :=
  s.snoop addr (fun s1 line => (((s1.snoopAnswer line).giveHost line).dropLine line))

/-- SNP_CUR: the current value; no copy changes. -/
def execSnpCur (addr : Nat) (s : State) : Host.Outcome State Fault Refusal := s.snoop addr (fun s1 line => s1.snoopAnswer line)

/-- HOST_FENCE_WORD_SNOOP (R229): the host writes a fence word that the doorbell watch unit holds; the word is read again, and its line held
again (R306). -/
def execHostFenceWordSnoop (addr : Nat) (value : Word) (s : State) : Host.Outcome State Fault Refusal :=
  if addr < hostBase ∨ ¬ s.hubWatch.any (fun e => lineOf e.pa == lineOf addr) then stay s
  else
    let s1 := s.giveHost (lineOf addr)
    let s2 := s1.dropLine (lineOf addr)
    .next ((({ s2 with host := mwrite s2.host (addr - hostBase) (le 8 value.toNat) }).watchLine (lineOf addr)).wake (lineOf addr))

/-- ATS_INVALIDATION (R457): the translations go; the completion waits for the requests that used them. -/
def execAtsInvalidation (fn addr len : Nat) (s : State) : Host.Outcome State Fault Refusal :=
  let lo := addr / 4096
  let hi := cdiv (addr + len) 4096
  let l := { s.link with ats := s.link.ats.filter (fun t => !(t.1 == fn && decide (lo ≤ t.2.1 ∧ t.2.1 < hi))), atsGen := s.link.atsGen + 1 }
  let users := s.reqs.filter (fun r => r.2.sent && r.2.status.isNone && r.2.folio == fn &&
    decide (hostBase ≤ r.2.pa ∧ lo ≤ (r.2.pa - hostBase) / 4096 ∧ (r.2.pa - hostBase) / 4096 < hi))
  if ¬ s.link.up then stay s
  else .next { s with link := { l with atsWait := l.atsWait ++ [(fn, addr, users.map Prod.fst)] } }.atsSettle

/-! ## CXL.mem (R459, R460) -/

/-- HDM_DECODER_COMMIT (R459). -/
def execHdmDecoderCommit (base : Nat) (s : State) : Host.Outcome State Fault Refusal :=
  if s.link.up ∧ s.link.cxl then .next { s with link := { s.link with hdmBase := some base } } else stay s

/-- The local address that a host physical address reaches. -/
def State.hdmAddr (s : State) (hpa : Nat) : Option Nat :=
  match s.link.hdmBase with
  | some hb => if s.link.up ∧ s.link.cxl ∧ hb ≤ hpa ∧ hpa < hb + 2 ^ 39 then some (hpa - hb) else none
  | none => none

/-- Why a host request is refused: REASON of HOST_REFUSED; none: it passes. -/
def State.hdmRefused (s : State) (pa : Nat) (write : Bool) : Option Nat :=
  match s.server (pa / 2 ^ 33) with
  | none => some 6
  | some m =>
    let e := s.frame m (pa / 2 ^ 25 % 256)
    if frNoown e then some 5
    else if frCarve e then some 4
    else if frOwner e = 0 then none
    else if ¬ frShared e then some 1
    else if s.isConf (frOwner e) then some 3
    else if write ∧ frRoOth e then some 2
    else none

/-- HOST_REFUSED, at most 64 in each window of 1,000,000 hub cycles (R460, R591, R651). -/
def State.hostRefused (s : State) (pa reason : Nat) (write : Bool) : State :=
  let w := s.hubCount / 1000000
  let n := if s.link.refWindow = w then s.link.refused else 0
  if 64 ≤ n then { s with link := { s.link with refWindow := w, refused := n, refSupp := satAdd 0xFFFF s.link.refSupp 1 } }
  else
    let f := match s.server (pa / 2 ^ 33) with | some m => frOwner (s.frame m (pa / 2 ^ 25 % 256)) | none => 0x3F
    let rb := s.record tyHostRefused (if reason = 6 ∨ reason = 5 then 0x3F else f) 0 0xFFFF 18
      (le 8 pa ++ le 2 (pa / 2 ^ 25) ++ le 1 (b2n write) ++ le 1 reason ++ le 2 s.link.refSupp)
    let s1 := s.ringPut 0 rb
    { s1 with link := { s1.link with refWindow := w, refused := n + 1, refSupp := 0 } }

/-- The home has no transaction on the line. -/
def State.lineIdle (s : State) (pa : Nat) : Bool :=
  match s.homeOf pa with | some h => (tget (lineOf pa) (s.home h).txns).isNone | none => true

/-- CXL_MEM_READ (R459, R460, R604): the current data, or data with poison set. -/
def execCxlMemRead (hpa : Nat) (s : State) : Host.Outcome State Fault Refusal :=
  match s.hdmAddr hpa with
  | none => stay s
  | some pa =>
    let bad := fun (st : State) => (st.emit (.memRead hpa true (st.freeBytes 64))).useFree
    if s.clasp.inReset then .next (bad s)
    else if ¬ s.lineIdle pa then stay s
    else
      match s.hdmRefused pa false with
      | some r => .next (bad (s.hostRefused pa r false))
      | none =>
        if (s.heldLine (lineOf pa)).isSome then .next (s.emit (.memRead hpa false (s.curLine (lineOf pa))))
        else (match s.rawRead (lineOf pa) 64 with
          | (.ok, d) => .next (s.emit (.memRead hpa false d))
          | (.integrity, _) => .next (bad (s.integFail pa 4))
          | _ => .next (bad s))

/-- CXL_MEM_WRITE (R332, R460, R604): it takes effect at the home as a PutHome, or is dropped. -/
def execCxlMemWrite (hpa off : Nat) (data : Bytes) (s : State) : Host.Outcome State Fault Refusal :=
  match s.hdmAddr hpa with
  | none => stay s
  | some pa =>
    let d := data.take (64 - off)
    if s.clasp.inReset ∨ d = [] then stay s
    else if ¬ s.lineIdle pa then stay s
    else
      match s.hdmRefused pa true with
      | some r => .next (s.hostRefused pa r true)
      | none => .next (((s.putLine (lineOf pa + off) d).2).wake (lineOf pa))

/-! ## MSI-X (R453) -/

/-- Is some ring of a function that names a vector non-empty? -/
def State.vectorDue (s : State) (fn v : Nat) : Bool :=
  (0 :: s.evrings.map Prod.fst).any (fun r => match s.ring? r with
    | some e => e.folio == fn && e.vector == v && e.produced != e.consumed
    | none => false)

/-- MSIX_UNMASK (R453): a pending vector is sent when its ring is still non-empty. -/
def execMsixUnmask (fn vector : Nat) (s : State) : Host.Outcome State Fault Refusal :=
  if (if fn = 0 then 256 else 32) ≤ vector ∨ s.link.unmasked.contains (fn, vector) then stay s
  else
    let was := s.link.msixPend.contains (fn, vector)
    let s1 := { s with link := { s.link with unmasked := (fn, vector) :: s.link.unmasked, msixPend := s.link.msixPend.filter (fun x => x != (fn, vector)) } }
    .next (if was ∧ s.vectorDue fn vector then s1.emit (.msix fn vector) else s1)

/-! ## Function-level resets (R446, R464) -/

/-- VF_FLR: a folio reset; a function whose folio does not exist has nothing to reset. In PCIe mode there are no virtual functions (R448). -/
def execVfFlr (fn : Nat) (s : State) : Host.Outcome State Fault Refusal :=
  if fn = 0 ∨ 63 < fn ∨ ¬ s.link.up ∨ ¬ s.link.cxl then stay s
  else if (s.folio fn).valid then .next (s.startFolioReset fn 1 none) else .next (s.emit (.flrDone fn))

/-- PF_FLR: a package reset that keeps the link trained. -/
def execPfFlr (s : State) : Host.Outcome State Fault Refusal := if ¬ s.link.up ∨ s.clasp.inReset then stay s else .next (s.pkgReset 1 false)

/-! ## DOE (R463) -/

/-- The mailbox of the physical function answers once the link is up and Retry Status has ended. -/
def State.doe (s : State) (go : State → State) : Host.Outcome State Fault Refusal := if s.link.up ∧ ¬ s.link.retry then .next (go s) else stay s

/-- The object types of the mailbox in PCIe's numbering (vendor, type): discovery, CMA/SPDM, CDAT (log 34, PRESUMED). -/
def doeTypes : List (Nat × Nat) := [(0x0001, 0), (0x0001, 1), (0x1E98, 2)]

/-- DOE_DISCOVERY: vendor id, type, next index (0: no more). -/
def execDoeDiscovery (index : Nat) (s : State) : Host.Outcome State Fault Refusal :=
  s.doe (fun s1 => match doeTypes[index]? with
    | some (v, t) => s1.emit (.doe (le 2 v ++ le 1 t ++ le 1 (if index + 1 < doeTypes.length then index + 1 else 0)))
    | none => s1.emit (.doe (le 2 0xFFFF ++ le 2 0)))

/-- CDAT_ACCESS: the table's contents are not given. -/
def execCdatAccess (handle : Nat) (s : State) : Host.Outcome State Fault Refusal := s.doe (fun s1 => s1.emit (.doe (Config.cdat handle)))

/-- A response whose bytes SPDM 1.2 lays out and the spec does not: free bytes in answer to the request (log 6). -/
def State.spdmFree (s : State) : State := (s.emit (.doe (s.freeBytes 8))).useFree

/-- GET_VERSION (R463). -/
def execGetVersion (req : Bytes) (s : State) : Host.Outcome State Fault Refusal := let _ := req; s.doe State.spdmFree
/-- GET_CAPABILITIES (R463). -/
def execGetCapabilities (req : Bytes) (s : State) : Host.Outcome State Fault Refusal := let _ := req; s.doe State.spdmFree
/-- NEGOTIATE_ALGORITHMS (R463). -/
def execNegotiateAlgorithms (req : Bytes) (s : State) : Host.Outcome State Fault Refusal := let _ := req; s.doe State.spdmFree

/-- GET_DIGESTS (R568, R569): the digest of the chain. -/
def execGetDigests (req : Bytes) (s : State) : Host.Outcome State Fault Refusal :=
  let _ := req
  s.doe (fun s1 => s1.emit (.doe (Config.sha3 Config.certChain)))

/-- GET_CERTIFICATE (R569): Voenul root, device identity, alias. -/
def execGetCertificate (req : Bytes) (s : State) : Host.Outcome State Fault Refusal :=
  let _ := req
  s.doe (fun s1 => s1.emit (.doe Config.certChain))

/-- CHALLENGE (R569): signed by the alias key. -/
def execChallenge (req : Bytes) (s : State) : Host.Outcome State Fault Refusal :=
  s.doe (fun s1 => s1.emit (.doe (Config.aliasSign (Config.sha3 req))))

/-- A measured value of R569. -/
def State.measured (s : State) (i : Nat) : Bytes :=
  if i = 2 then (match s.clasp.flash with | some b => Config.sha3 b | none => Config.measurement 2 0 0)
  else if i = 5 then Config.sha3 (s.calBytes 0 65536)
  else Config.measurement i s.clasp.svn s.clasp.fuseSvn

/-- GET_MEASUREMENTS (R569): the blocks 1 to 5 and their signature by the alias key. -/
def execGetMeasurements (req : Bytes) (s : State) : Host.Outcome State Fault Refusal :=
  s.doe (fun s1 =>
    let blocks := [1, 2, 3, 4, 5].flatMap s1.measured
    s1.emit (.doe (blocks ++ Config.aliasSign (Config.sha3 (req ++ blocks)))))

/-- SPDM_UNSUPPORTED (R463): ERROR UnsupportedRequest, in SPDM 1.2's codes (log 34, PRESUMED). -/
def execSpdmUnsupported (req : Bytes) (s : State) : Host.Outcome State Fault Refusal :=
  s.doe (fun s1 => s1.emit (.doe ([0x12, 0x7F, 0x07] ++ req.drop 1 |>.take 4)))

end Sys2Proof.Machine
end

