-- ==== Sys2Proof/Machine/Registers.lean ====
section
/-! DEFINITION. Sys2Proof/Machine/Registers.lean: BAR0 accesses and what registers do when they are written: correlation samples (01 R38-R43), the forerunner window (15 R502), the configuration check, region power, the debug window (20 R610-R630), the latency maxima (08 R296), the sticky log (19 R609). -/

namespace Sys2Proof.Machine

/-! ## Correlation samples (R38-R43) -/

/-- Does an island's clock run? -/
def State.runs (s : State) (i : Nat) : Bool :=
  if i < 16 then (s.region i).powered else if i < 18 then (s.fabric (i - 16)).running else true

/-- Does folio `f` see an island's count (R41)? -/
def State.sees (s : State) (f i : Nat) : Bool :=
  if i = 18 then true
  else if 16 ≤ i then (s.folioCores f).any (fun n => n / 64 == i - 16) || (s.folioMems f).any (fun n => n / 32 == i - 16)
  else (s.folioCores f).any (fun n => n / 8 == i)

/-- A captured count: the island's own, its delivery delay, and what the +-2 cycles of R39 leave open (from the free value `n`). -/
def State.captured (s : State) (n i : Nat) : Nat :=
  if i = 18 then s.hubCount else s.count i + Config.captureDelay i + n / 5 ^ i % 5 - 2

/-- A sample of 256 bytes (R38) with the counts that `see` allows. -/
def State.sample (s : State) (seq reason cause n : Nat) (see : Nat → Bool) : Bytes :=
  let vis := (List.range 19).filter (fun i => s.runs i && see i)
  le 8 seq ++ le 1 reason ++ le 1 cause ++ le 2 0 ++ le 4 (maskOf vis) ++
    (List.range 19).flatMap (fun i => le 8 (if vis.contains i then s.captured n i else 0)) ++ zeros 88

/-- A sample instant: SEQ rises, and every enabled ring gets its sample (R43). -/
def State.postSample (s : State) (reason cause : Nat) : State :=
  let n := s.freeNat
  let q := s.corrSeq
  let base := s.fld rCorrBase 12 34 * 4096
  let size := 2 ^ (min 8 (s.fld rCorrBase 0 4) + 4)
  let s1 := ({ s with corrSeq := (q + 1) % 2 ^ 64 }).useFree
  let s2 := if base = 0 then s1 else s1.hostWrite (base + 256 * (q % size)) (s.sample q reason cause n (fun _ => true))
  foldS ((s.folios.filter (fun f => f.1 != 0 && f.2.valid && f.2.corrBase != 0)).map Prod.fst) s2 (fun st f =>
    st.hostWrite ((s.folio f).corrBase + 256 * (q % 16)) (s.sample q reason cause n (s.sees f)))

/-- Removes the first sample due for an island. -/
def dropDue (i : Nat) : List (Nat × Nat) → List (Nat × Nat)
  | [] => []
  | d :: t => if d.2 = i then t else d :: dropDue i t

/-- CORR_EVENT_SAMPLE (R40): none is posted once EN or FCHG_EN has been cleared. -/
def execCorrEventSample (island : Nat) (s : State) : Host.Outcome State Fault Refusal :=
  match s.corrDue.find? (fun d => d.2 == island) with
  | none => stay s
  | some d =>
    let s1 := { s with corrDue := dropDue island s.corrDue }
    .next (if bit (s.reg rCorrCtl) 0 ∧ bit (s.reg rCorrCtl) 14 then s1.postSample d.1 island else s1)

/-- CORR_PERIODIC_SAMPLE (R42). -/
def execCorrPeriodicSample (s : State) : Host.Outcome State Fault Refusal :=
  let due := s.corrFrom + 100000 * s.corrPeriod
  if ¬ s.clasp.rails ∨ ¬ bit (s.reg rCorrCtl) 0 ∨ s.hubCount < due then stay s
  else .next (({ s with corrFrom := due }).postSample 0 0x1F)

/-- CORR_REQ (R38, R42). -/
def execCorrReq (s : State) : Host.Outcome State Fault Refusal := if s.clasp.rails then .next (s.postSample 3 0x1F) else stay s

/-- A write of HUB_CORR_CTL (R42). -/
def State.corrWrite (s : State) (v : Nat) : State :=
  let old := s.reg rCorrCtl
  let s1 := ((s.writeFld rCorrCtl 0 1 v).setFld rCorrCtl 4 10 (v / 2 ^ 4)).setFld rCorrCtl 14 1 (v / 2 ^ 14)
  let s2 := if bits v 4 10 ≠ bits old 4 10 ∨ (bit v 0 ∧ ¬ bit old 0) then { s1 with corrFrom := s1.hubCount } else s1
  if bit v 1 then s2.postSample 3 0x1F else s2

/-- CORR_PERIOD_RESTART: a write of HUB_CORR_CTL. -/
def execCorrPeriodRestart (w : Word) (s : State) : Host.Outcome State Fault Refusal :=
  if s.clasp.rails then .next (s.corrWrite w.toNat) else stay s

/-! ## The forerunner window (R502) -/

/-- Usable bytes of a folio's memory slices: 8 GiB each, 7.75 GiB where the folio is confidential (R424, R579). -/
def State.usable (s : State) (f : Nat) : Nat := (s.folioMems f).length * (if s.isConf f then 0x1F0000000 else 0x200000000)

/-- An entry; how engine time over the last 100 ms becomes UTIL is not given, so it is a free value. -/
def State.foreEntry (s : State) (n : Nat) (c : Context) : Bytes :=
  le 1 1 ++ le 1 c.folio ++ le 2 0 ++ le 4 n ++ le 8 (s.usable c.folio) ++ le 8 c.acct.engineNs ++ zeros 8

/-- FORERUNNER_REFRESH, every 10 ms. -/
def execForerunnerRefresh (s : State) : Host.Outcome State Fault Refusal :=
  if ¬ s.clasp.rails ∨ s.hubCount < s.foreAt + 10000000 then stay s
  else
    let n := s.freeNat
    .next ({ s with foreAt := s.hubCount, fore := tmap (fun i (c : Context) => s.foreEntry (n / 2 ^ (32 * i)) c) s.ctxs }).useFree

/-! ## The configuration check (R622-R625) -/

/-- The covered bits of a value. -/
def coveredBits (c v : Nat) : Nat := (coveredOf c).foldl (fun a f => a + bits v f.1 f.2 * 2 ^ f.1) 0

/-- The CRC of R622; a register of a dark island contributes its reset value. -/
def State.sweepCrc (s : State) : Nat :=
  crc32c (coveredRegs.flatMap (fun c => le 8 (coveredBits c (if s.dark (regIsland c) then resetOf c else s.reg c))))

/-- CFG_SWEEP_START (R623, R624). -/
def execCfgSweepStart (s : State) : Host.Outcome State Fault Refusal :=
  if ¬ s.clasp.rails ∨ s.cfg.sweeping ∨ s.hubCount % 2 ^ 21 ≠ 0 then stay s
  else
    let s1 := if s.cfg.commitPend then s.setFld rCfgCur 32 32 (s.fld rCfgRef 0 32) else s
    .next { s1 with cfg := { s1.cfg with sweeping := true, void := false, commitPend := false, capSweep := s.cfg.capSweep || s.cfg.capArmed,
                                          capArmed := false } }

/-- A compared sweep differs (R625). -/
def State.cfgDiffers (s : State) (crc : Nat) : State :=
  let s1 := (s.setFld rCfgCtl 3 1 1).bumpFld rCfgCtl 8 16 1
  let s2 := if s.cfg.differed then s1 else s1.hwError 18 9 5 0 (crc + s.fld rCfgCur 32 32 * 2 ^ 32) 0x3F 0xFFFF
  { s2 with cfg := { s2.cfg with differed := true } }

/-- CFG_SWEEP_END (R623-R625): a void sweep is never compared or captured. -/
def execCfgSweepEnd (s : State) : Host.Outcome State Fault Refusal :=
  if ¬ s.cfg.sweeping then stay s
  else
    let s0 := { s with cfg := { s.cfg with sweeping := false, void := false } }
    if s.cfg.void then .next s0
    else
      let crc := s.sweepCrc
      let s1 := s0.setFld rCfgCur 0 32 crc
      if s.cfg.capSweep then
        .next (({ s1 with cfg := { s1.cfg with capSweep := false } }.setFld rCfgRef 0 32 crc).setFld rCfgCur 32 32 crc)
      else if ¬ bit (s.reg rCfgCtl) 0 then .next s1
      else if crc = s.fld rCfgCur 32 32 then .next { s1 with cfg := { s1.cfg with differed := false } }
      else .next (s1.cfgDiffers crc)

/-- CFGCHK_COMMIT (R624). -/
def State.cfgCommit (s : State) : State := { s with cfg := { s.cfg with commitPend := true, differed := false } }
/-- CFGCHK_CAPTURE (R624). -/
def State.cfgCapture (s : State) : State := { s with cfg := { s.cfg with capArmed := true, differed := false } }

/-- COMMIT is written 1. -/
def execCfgchkCommit (s : State) : Host.Outcome State Fault Refusal := if s.clasp.rails then .next s.cfgCommit else stay s
/-- CAPTURE is written 1. -/
def execCfgchkCapture (s : State) : Host.Outcome State Fault Refusal := if s.clasp.rails then .next s.cfgCapture else stay s
/-- EN is written. -/
def execCfgchkEn (v : Bool) (s : State) : Host.Outcome State Fault Refusal :=
  if s.clasp.rails then .next (s.setFld rCfgCtl 0 1 (b2n v)) else stay s

/-! ## Latency maxima (R296) -/

/-- HOM_CLR_OWN. -/
def execHomClrOwn (home : Nat) (s : State) : Host.Outcome State Fault Refusal :=
  if 63 < home ∨ ¬ s.clasp.rails then stay s else .next (foldS (List.range 4) s (fun st k => st.setReg (rLatOwn home k) 0))

/-- HOM_CLR_OTH. -/
def execHomClrOth (home : Nat) (s : State) : Host.Outcome State Fault Refusal :=
  if 63 < home ∨ ¬ s.clasp.rails then stay s else .next (foldS (List.range 4) s (fun st k => st.setReg (rLatOth home k) 0))

/-! ## Region power (R621, R607) -/

/-- RGN_PWR_OFF. -/
def execRgnPwrOff (off : BitVec 16) (s : State) : Host.Outcome State Fault Refusal :=
  if s.clasp.rails then .next (s.writeFld rRgnPwr 0 16 off.toNat) else stay s

/-- Does a resident context own a way on a core of region `i` (R162)? -/
def State.wayOwned (s : State) (i : Nat) : Bool :=
  s.allSlots.any (fun x => coreIsland x.1 == i && (x.2.2.spWays != [] || x.2.2.accWays != []))

/-- A cluster cache writes back and is lost. -/
def State.offCache (s : State) (n : Nat) : State :=
  let s1 := foldS ((s.cache n).lines.map Prod.fst) s (fun st l => st.cleanLine n l false)
  let s2 := foldS ((s1.cache n).wb.filter (fun w => w.2.dirty && !w.2.acked)) s1 (fun st w => st.takeBack w.1 w.2.data)
  if s2.cache n = {} then s2 else s2.loseCache n

/-- What a core loses: scratchpad, accumulators, TLB. -/
def Core.dark (c : Core) : Core := { c with sp := [], acc := [], tileCnt := [], assay := [], tlb := [] }

/-- REGION_POWER_DOWN: the region's CMP_ registers return to their defaults; its count and settings stay. -/
def execRegionPowerDown (island : Nat) (s : State) : Host.Outcome State Fault Refusal :=
  if 15 < island ∨ ¬ (s.region island).powered ∨ ¬ bit (s.fld rRgnPwr 0 16) island ∨ s.wayOwned island then stay s
  else
    let s1 := foldS (List.range 8) s (fun st k => st.offCache (8 * island + k))
    let r := s1.region island
    let s2 := s1.setRegion island { r with powered := false, target := none, railUp := false, droop := false }
    .next { s2 with
      cores := tmap (fun c (k : Core) => if coreIsland c = island then k.dark else k) s2.cores
      regs := s2.regs.filter (fun e => decide (e.1 < 0x2000000) || regIsland e.1 != island) }.capChange

/-- REGION_POWER_UP: the region starts at its safe frequency, the shadowed settings are applied again; a sweep that this falls into is void. -/
def execRegionPowerUp (island : Nat) (s : State) : Host.Outcome State Fault Refusal :=
  if 15 < island ∨ ¬ s.clasp.rails ∨ s.standby.isSome ∨ (s.region island).powered ∨ (s.fabric (island / 8)).failed ∨
      bit (s.fld rRgnPwr 0 16) island then stay s
  else .next (s.regionUp island).voidSweep.capChange

/-! ## The sticky log (R609) -/

/-- The log is empty, NEXT and TOTAL are 0. -/
def State.errClear (s : State) : State :=
  ((foldS (List.range 128) s (fun st k => st.setReg (0x30100 + 8 * k) 0)).setFld rErrStat 0 6 0).setFld rErrStat 16 16 0

/-- ERR_LOG_CLEAR. -/
def execErrLogClear (s : State) : Host.Outcome State Fault Refusal := if s.clasp.rails then .next s.errClear else stay s

/-! ## The debug window (R585, R627, R628) -/

/-- The way that a word of CMP_DBG_ADDR lies in. -/
def dbgWay (acc : Bool) (word : Nat) : Nat := if acc then word / 2048 else 8 * word / 0x18000

/-- Is an access to the word refused: its core or its way belongs to a confidential folio? -/
def State.dbgHidden (s : State) (c : Nat) (acc : Bool) (word : Nat) : Bool :=
  s.confCore c || (s.core c).slots.any (fun x =>
    (if acc then x.2.accWays else x.2.spWays).contains (dbgWay acc word) && s.isConf (s.ctxFolio x.2.ctx))

/-- The word itself; beyond the memory it reads 0. -/
def State.dbgWord (s : State) (c : Nat) (acc : Bool) (word : Nat) : Nat :=
  let k := s.core c
  if acc then
    (if word < 8192 then (tgetD 0 (2 * word) k.acc).toNat + (tgetD 0 (2 * word + 1) k.acc).toNat * 2 ^ 32 else 0)
  else if word < 49152 then unle (mread k.sp (8 * word) 8) else 0

/-- The word replaced; nothing beyond the memory. -/
def State.dbgStore (s : State) (c : Nat) (acc : Bool) (word : Nat) (v : Word) : State :=
  let k := s.core c
  if acc then
    (if word < 8192 then
       s.setCore c { k with acc := tputD 0 (2 * word + 1) (v.extractLsb' 32 32) (tputD 0 (2 * word) (v.extractLsb' 0 32) k.acc) }
     else s)
  else if word < 49152 then s.setCore c { k with sp := mwrite k.sp (8 * word) (le 8 v.toNat) } else s

/-- SEC_STAT.DENIED counts a refused access. -/
def State.denied (s : State) : State := s.bumpFld rSecStat 48 16 1

/-- One access to CMP_DBG_DATA: the value read, and the state after it. -/
def State.dbgAccess (s : State) (c : Nat) (write : Option Word) : Nat × State :=
  let a := s.reg (rDbgAddr c)
  let acc := bit a 0
  let word := bits a 3 16
  let s1 := s.setFld (rDbgAddr c) 3 16 (word + 1)
  if s.dbgHidden c acc word then (0, s1.denied)
  else match write with
    | none => (s.dbgWord c acc word, s1)
    | some v => (0, s1.dbgStore c acc word v)

/-! ## BAR0 accesses (R610-R618) -/

/-- The value bits and the mask that an access of `size` bytes at `off` reaches in its slot. -/
def accMask (off size : Nat) : Nat := if size = 8 then 2 ^ 64 - 1 else if off % 8 = 4 then (2 ^ 32 - 1) * 2 ^ 32 else 2 ^ 32 - 1
def accUp (off size v : Nat) : Nat := if size = 8 then v else if off % 8 = 4 then v % 2 ^ 32 * 2 ^ 32 else v % 2 ^ 32
def accDown (off size v : Nat) : Nat := if size = 8 then v else if off % 8 = 4 then v / 2 ^ 32 else v % 2 ^ 32

/-- An access of a size or alignment that BAR0 does not take, or a 4-byte write across bit 32 (R611, R612). -/
def badAccess (c off size : Nat) (write : Bool) : Bool :=
  !(decide (size = 4) || decide (size = 8)) || decide (off % size ≠ 0) || (write && size == 4 && crosses32 c)

/-- The slot an access reaches: none for a hole and for the page of a dark cluster (R614, R615). -/
def State.slotAt (s : State) (off : Nat) : Option Nat :=
  match canon off with
  | none => none
  | some c => if 0x2000000 ≤ c ∧ c < 0x2400000 ∧ ¬ s.coreEnabled (pageCore c) then none else some c

/-- Is a canonical offset a core page's, and whose? -/
def coreSlot (c : Nat) : Option Nat := if 0x2000000 ≤ c ∧ c < 0x2400000 then some (pageCore c) else none

/-- The record of an access to a dark island: one per island in each window of 1 ms (R617, R651). -/
def State.darkRecord (s : State) (i off : Nat) : State :=
  let w := s.hubCount / 1000000
  if tget i s.darkNoted = some w then s
  else { s with darkNoted := tput i w s.darkNoted }.hwError 18 9 2 off 0 0x3F 0xFFFF

/-- The state an outcome goes on with; every meaning answers one. -/
def nextOr (o : Host.Outcome State Fault Refusal) (s : State) : State := match o with | .next t => t | _ => s

/-- The channel of a CPY_CH_CTL offset. -/
def chanAt (c : Nat) : Nat := (c - 0x50000) / 0x400 * 16 + c % 0x400 / 0x20

/-- A write of CPY_CH_CTL (R396, R400, R404). -/
def State.writeChCtl (s : State) (c v mask : Nat) : State :=
  let ch := chanAt c
  let keep := s.fld c 6 1
  let s1 := (s.setReg c (setBits (s.writeStored c v mask) 6 1 keep)).voidSweep
  let s2 := if bits v 6 1 = keep then s1 else nextOr (execCpyStream ch (bit v 6) s1) s1
  if bit v 17 then nextOr (execCpyRestart ch (bit v 18) s2) s2 else s2

/-- A write of HUB_CFGCHK_CTL: CAPTURE wins over COMMIT (R624). -/
def State.writeCfgCtl (s : State) (v mask : Nat) : State :=
  let s1 := s.setReg rCfgCtl (s.writeStored rCfgCtl v mask)
  if bit v 2 then s1.cfgCapture else if bit v 1 then s1.cfgCommit else s1

/-- A write of HOM_LAT_CTL (R296). -/
def State.writeLatCtl (s : State) (c v : Nat) : State :=
  let h := (c - 0x100000) / 0x80
  let s1 := if bit v 0 then nextOr (execHomClrOwn h s) s else s
  if bit v 1 then nextOr (execHomClrOth h s1) s1 else s1

/-- A write of HUB_MGMTQ_RING: LOG and BASE as they stand, then EN (R503). -/
def State.writeMgmtq (s : State) (v mask : Nat) : State :=
  let s1 := (s.setReg rMgmtqRing (setBits (s.writeStored rMgmtqRing v mask) 0 1 (s.fld rMgmtqRing 0 1))).voidSweep
  if bits v 0 1 = s.fld rMgmtqRing 0 1 then s1 else nextOr (execMgmtqEnable (bit v 0) s1) s1

/-- The package joins its power group: from now on it waits 50 ms for its first assignment (R552, R555). -/
def State.groupJoined (s : State) : State := { s with power := { s.power with lastAssign := s.hubCount } }

/-- A write of the bits in `mask` of a register, `v` in place (R17 and the fields' own rules). -/
def State.regWrite (s : State) (c v mask : Nat) : State :=
  let low := decide (bits mask 0 32 ≠ 0)
  if c = rCorrCtl then (if low then s.corrWrite v else s)
  else if c = rCfgCtl then s.writeCfgCtl v mask
  else if c = rMgmtqRing then s.writeMgmtq v mask
  else if c = rPwrLimit then (if low then nextOr (execPwrLimitWrite (BitVec.ofNat 32 v) s) s else s)
  else if c = rErrStat then
    (let s1 := s.setReg c (s.writeStored c v mask); if low && bit v 6 then s1.errClear else s1)
  else if 0x100000 ≤ c ∧ c < 0x110000 ∧ c % 0x80 = 0x40 then (if low then s.writeLatCtl c v else s)
  else if 0x50000 ≤ c ∧ c < 0x60000 ∧ c % 0x400 < 0x200 ∧ c % 0x20 = 0 then (if low then s.writeChCtl c v mask else s)
  else
    let s0 := s.setReg c (s.writeStored c v mask)
    let s1 := if c = rPwrGroup ∧ ¬ bit (s.reg c) 0 ∧ bit (s0.reg c) 0 then s0.groupJoined else s0
    if (coveredOf c).any (fun f => decide (bits mask f.1 f.2 ≠ 0)) then s1.voidSweep else s1

/-- A write that reaches the slot `c` of a running island. -/
def State.slotWrite (s : State) (c off size : Nat) (v : Word) : State :=
  match coreSlot c with
  | some k =>
    if c = rDbgData k then (s.dbgAccess k (some v)).2
    else if s.confCore k then s.denied
    else s.regWrite c (accUp off size v.toNat) (accMask off size)
  | none => s.regWrite c (accUp off size v.toNat) (accMask off size)

/-- A read that reaches the slot `c` of a running island: the slot's value, and the state after it. -/
def State.slotRead (s : State) (c off size : Nat) : Nat × State :=
  match coreSlot c with
  | some k =>
    if c = rDbgData k then s.dbgAccess k none
    else if s.confCore k then (0, s.denied)
    else (s.readReg c, s)
  | none => (s.readReg c, s.clearRc c (accMask off size))

/-- REGISTER_WRITE. -/
def execRegisterWrite (off size : Nat) (v : Word) (s : State) : Host.Outcome State Fault Refusal :=
  if ¬ s.clasp.rails ∨ 0x4000000 ≤ off then stay s
  else match s.slotAt off with
    | none => stay s
    | some c =>
      if badAccess c off size true then .next (s.hwError 18 9 4 off 0 0x3F 0xFFFF)
      else if s.dark (regIsland c) then .next (s.darkRecord (regIsland c) off)
      else .next (s.slotWrite c off size v)

/-- READ_CLEAR: any read; a hole reads 0 and a dark island all ones. -/
def execReadClear (off size : Nat) (s : State) : Host.Outcome State Fault Refusal :=
  if ¬ s.clasp.rails ∨ 0x4000000 ≤ off then stay s
  else match s.slotAt off with
    | none => .next (s.emit (.regRead off 0))
    | some c =>
      if badAccess c off size false then .next ((s.hwError 18 9 4 off 0 0x3F 0xFFFF).emit (.regRead off 0))
      else if s.dark (regIsland c) then .next ((s.darkRecord (regIsland c) off).emit (.regReadAll1 off size))
      else
        let r := s.slotRead c off size
        .next (r.2.emit (.regRead off (BitVec.ofNat 64 (accDown off size r.1))))

/-- REGISTER_ACCESS_TIMEOUT (R618): whether a write has taken effect is a free value. -/
def execRegisterAccessTimeout (off size : Nat) (write : Option Word) (s : State) : Host.Outcome State Fault Refusal :=
  if ¬ s.clasp.rails ∨ 0x4000000 ≤ off then stay s
  else match s.slotAt off with
    | none => stay s
    | some c =>
      if badAccess c off size write.isSome ∨ s.dark (regIsland c) then stay s
      else match write with
        | none => .next ((s.hwError 18 9 3 off 0 0x3F 0xFFFF).emit (.regReadAll1 off size))
        | some v =>
          let s1 := if s.freeNat % 2 = 1 then s.useFree.slotWrite c off size v else s.useFree
          .next (s1.hwError 18 9 3 off 0 0x3F 0xFFFF)

/-- CMP_DBG_DATA_ACCESS: an 8-byte access at a core's CMP_DBG_DATA. -/
def execCmpDbgDataAccess (core : Nat) (write : Option Word) (s : State) : Host.Outcome State Fault Refusal :=
  if 575 < core then stay s
  else match write with
    | some v => execRegisterWrite (rDbgData core) 8 v s
    | none => execReadClear (rDbgData core) 8 s

end Sys2Proof.Machine
end

