-- ==== Sys2Proof/Machine/Management.lean ====
section
/-! DEFINITION. Sys2Proof/Machine/Management.lean: the messages of the management bus (21 R640-R644, 19 R609). -/

namespace Sys2Proof.Machine

/-- The CRC of a message: over its header and payload (R641). -/
def msgCrc (op : Nat) (payload : Bytes) : Nat := crc32c (le 1 op ++ le 1 0 ++ le 2 payload.length ++ payload)

/-- A message (R641): answered with status 1 on a bad CRC, 2 where it is not allowed, 3 on a bad argument; else it acts. The part
answers whenever the always-on domain is supplied (R640). -/
def State.message (s : State) (op : Nat) (payload : Bytes) (crc : BitVec 32) (allowed argOk : Bool) (go : State → Bytes × State) :
    Host.Outcome State Fault Refusal :=
  if ¬ s.clasp.aux then stay s
  else if crc.toNat ≠ msgCrc op payload then .next (s.emit (.mgmt op 1 []))
  else if ¬ allowed then .next (s.emit (.mgmt op 2 []))
  else if ¬ argOk ∨ 256 < payload.length then .next (s.emit (.mgmt op 3 []))
  else
    let r := go s
    .next (r.2.emit (.mgmt op 0 r.1))

/-- STATE of the capability table: 1 NOT_READY also while the link is up without CXL (R448, R499). -/
def State.tableState (s : State) : Nat := if s.link.up ∧ ¬ s.link.cxl then 1 else s.capState

/-- STATUS; the widths of its fields are the model's choice (log). -/
def execStatus (payload : Bytes) (crc : BitVec 32) (s : State) : Host.Outcome State Fault Refusal :=
  s.message 0x01 payload crc true (decide (payload = [])) (fun s1 =>
    (le 1 (bootCode s1.clasp.boot) ++ le 1 s1.tableState ++ le 8 (s1.readReg rHostStat) ++ le 1 (b2n s1.clasp.cycleReq) ++
       le 4 s1.clasp.unread.length,
     ({ s1 with clasp := { s1.clasp with statusRead := true } }).alert))

/-- EVENT_READ: the oldest unread record; an empty payload when there is none. -/
def execEventRead (payload : Bytes) (crc : BitVec 32) (s : State) : Host.Outcome State Fault Refusal :=
  s.message 0x02 payload crc (decide (s.clasp.boot = .running)) (decide (payload = [])) (fun s1 =>
    match s1.clasp.unread with
    | [] => ([], s1)
    | b :: t => (b, ({ s1 with clasp := { s1.clasp with unread := t } }).alert))

/-- LOG_READ. -/
def execLogRead (payload : Bytes) (crc : BitVec 32) (s : State) : Host.Outcome State Fault Refusal :=
  let i := fieldLe payload 0 1
  s.message 0x03 payload crc true (decide (payload.length = 1 ∧ i < 64)) (fun s1 =>
    (le 8 (s1.reg (rErrLog i)) ++ le 8 (s1.reg (rErrLog i + 8)) ++ le 8 (s1.readReg rErrStat), s1))

/-- Is a folio other than 0 in use? -/
def State.otherFolio (s : State) : Bool := s.folios.any (fun f => f.1 != 0 && f.2.valid)

/-- SET_PKG_ID. -/
def execSetPkgId (payload : Bytes) (crc : BitVec 32) (s : State) : Host.Outcome State Fault Refusal :=
  s.message 0x04 payload crc (s.clasp.inReset || s.tableState == 1 || !s.otherFolio) (decide (payload.length = 2)) (fun s1 =>
    ([], { s1 with clasp := { s1.clasp with pkgId := fieldLe payload 0 2 } }))

/-- GROUP_TOTAL (R552). -/
def execGroupTotal (payload : Bytes) (crc : BitVec 32) (s : State) : Host.Outcome State Fault Refusal :=
  s.message 0x05 payload crc (decide (s.clasp.boot = .running)) (decide (payload.length = 2)) (fun s1 =>
    ([], { s1 with power := { s1.power with totalW := fieldLe payload 0 2, totalChanged := true } }))

/-- WAKE (R606). -/
def execWake (payload : Bytes) (crc : BitVec 32) (s : State) : Host.Outcome State Fault Refusal :=
  s.message 0x06 payload crc s.standby.isSome (decide (payload = [])) (fun s1 =>
    ([], { s1 with clasp := { s1.clasp with wake := true } }))

/-- CAL_READ. -/
def execCalRead (payload : Bytes) (crc : BitVec 32) (s : State) : Host.Outcome State Fault Refusal :=
  let o := fieldLe payload 0 4
  s.message 0x08 payload crc true (decide (payload.length = 4 ∧ o % 256 = 0 ∧ o < 65536)) (fun s1 => (s1.calBytes o 256, s1))

/-- Writes bytes of the calibration page; bytes 0x10-0x17 are HOURS (R643, R644). -/
def Clasp.putCal (c : Clasp) : (o : Nat) → Bytes → Clasp
  | _, [] => c
  | o, b :: t =>
    let c1 := if 0x10 ≤ o ∧ o < 0x18 then { c with hours := setBits c.hours (8 * (o - 0x10)) 8 b.toNat }
      else { c with cal := tput o b c.cal }
    Clasp.putCal c1 (o + 1) t

/-- The offset of a chunk and whether it fits below `top` (R642). -/
def chunkOk (payload : Bytes) (top : Nat) : Bool :=
  decide (5 ≤ payload.length ∧ payload.length ≤ 252 ∧ fieldLe payload 0 4 + (payload.length - 4) ≤ top)

/-- CAL_WRITE. -/
def execCalWrite (payload : Bytes) (crc : BitVec 32) (s : State) : Host.Outcome State Fault Refusal :=
  s.message 0x09 payload crc (!s.clasp.pwrgood || decide (s.clasp.boot = .recovery)) (chunkOk payload 65536) (fun s1 =>
    ([], { s1 with clasp := s1.clasp.putCal (fieldLe payload 0 4) (payload.drop 4) }))

/-- IMG_BEGIN: the size of the image, at most 16 MiB (R563). -/
def execImgBegin (payload : Bytes) (crc : BitVec 32) (s : State) : Host.Outcome State Fault Refusal :=
  s.message 0x10 payload crc (decide (s.clasp.boot = .recovery)) (decide (payload.length = 4 ∧ fieldLe payload 0 4 ≤ 2 ^ 24)) (fun s1 =>
    ([], { s1 with clasp := { s1.clasp with imgSize := fieldLe payload 0 4, img := [] } }))

/-- IMG_DATA. -/
def execImgData (payload : Bytes) (crc : BitVec 32) (s : State) : Host.Outcome State Fault Refusal :=
  s.message 0x11 payload crc (decide (s.clasp.boot = .recovery)) (chunkOk payload s.clasp.imgSize) (fun s1 =>
    ([], { s1 with clasp := { s1.clasp with img := mwrite s1.clasp.img (fieldLe payload 0 4) (payload.drop 4) } }))

/-- IMG_END: the result of the checks of R564; an image that passes is written to flash, one that fails leaves recovery as it is. -/
def execImgEnd (payload : Bytes) (crc : BitVec 32) (s : State) : Host.Outcome State Fault Refusal :=
  s.message 0x12 payload crc (decide (s.clasp.boot = .recovery)) (decide (payload = [])) (fun s1 =>
    let e := s1.imgFail s1.recvImage
    (le 1 e, { s1 with clasp := { s1.clasp with boot := if e = 0 then .flashing else .recovery, fail := if e = 0 then s1.clasp.fail else e } }))

end Sys2Proof.Machine
end

