-- ==== Sys2Proof/Machine/Scalar.lean ====
section
/-! DEFINITION. Sys2Proof/Machine/Scalar.lean: the scalar instructions (06 R199-R204): ALU, ALUI, LD, ST, AMO, BR, JMP, SRD. -/

namespace Sys2Proof.Machine

/-- The scalar operation of a function code (R199, R200). -/
def aluOp (fn : Nat) (a b : Word) : Word :=
  match fn with
  | 0 => a + b
  | 1 => a - b
  | 2 => a &&& b
  | 3 => a ||| b
  | 4 => a ^^^ b
  | 5 => a <<< (b.toNat % 64)
  | 6 => a >>> (b.toNat % 64)
  | 7 => a.sshiftRight (b.toNat % 64)
  | 8 => a * b
  | 9 => BitVec.ofNat 64 (a.toNat * b.toNat / 2 ^ 64)
  | 10 => iword (a.toInt * b.toInt / (2 ^ 64 : Int))
  | 11 => if b = 0 then BitVec.allOnes 64 else a / b
  | 12 => if b = 0 then BitVec.allOnes 64 else iword (a.toInt.tdiv b.toInt)
  | 13 => if b = 0 then a else a % b
  | 14 => if b = 0 then a else iword (a.toInt.tmod b.toInt)
  | 15 => if a.toInt < b.toInt then 1 else 0
  | 16 => if a.toNat < b.toNat then 1 else 0
  | 17 => if a.toInt ≤ b.toInt then a else b
  | _ => if a.toInt ≤ b.toInt then b else a

/-- ALU (R199): rd := rs1 op rs2. -/
def execAlu (core : Nat) (w : Word) (s : State) : Host.Outcome State Fault Refusal :=
  s.issue core w 0x00 none (fun s1 k x =>
    s1.retire core k ((x.setSr (fd w 53 5) (aluOp (fd w 32 11) (x.sr (fd w 48 5)) (x.sr (fd w 43 5)))).advance))

/-- ALUI's result: FN 19 sets the upper half (R199). -/
def aluiOp (fn : Nat) (a imm : Word) : Word :=
  if fn = 19 then (a &&& 0xFFFFFFFF) ||| (imm <<< 32) else aluOp fn a imm

/-- ALUI (R199): rd := rs1 op sign-extended imm. -/
def execAlui (core : Nat) (w : Word) (s : State) : Host.Outcome State Fault Refusal :=
  s.issue core w 0x01 none (fun s1 k x =>
    s1.retire core k ((x.setSr (fd w 53 5) (aluiOp (fd w 42 6) (x.sr (fd w 48 5)) (imm32 w))).advance))

/-- The condition of a BR (R199). -/
def brTaken (cond : Nat) (a b : Word) : Bool :=
  match cond with
  | 0 => a == b
  | 1 => a != b
  | 2 => decide (a.toInt < b.toInt)
  | 3 => decide (b.toInt ≤ a.toInt)
  | 4 => decide (a.toNat < b.toNat)
  | _ => decide (b.toNat ≤ a.toNat)

/-- The slot goes to a target, or takes an alignment fault at the jump (R198). -/
def State.jumpTo (s : State) (c k : Nat) (x : Slot) (t : Word) : State :=
  if pcOk t then s.retire c k { x with pc := t } else s.faultAt c k { x with wait := .none } 0x0B t.toNat

/-- BR (R199). -/
def execBr (core : Nat) (w : Word) (s : State) : Host.Outcome State Fault Refusal :=
  s.issue core w 0x05 none (fun s1 k x =>
    if brTaken (fd w 45 3) (x.sr (fd w 53 5)) (x.sr (fd w 48 5)) then s1.jumpTo core k x (x.pc + imm32 w)
    else s1.retire core k x.advance)

/-- The target of a JMP (R199). -/
def jmpTarget (w : Word) (x : Slot) : Word := (if fbit w 47 then x.sr (fd w 48 5) else x.pc) + imm32 w

/-- JMP (R199): rd := own address + 8, after the target has been formed; a target that breaks R198 faults and has no effect. -/
def execJmp (core : Nat) (w : Word) (s : State) : Host.Outcome State Fault Refusal :=
  s.issue core w 0x06 none (fun s1 k x =>
    if pcOk (jmpTarget w x) then s1.retire core k { x.setSr (fd w 53 5) (x.pc + 8) with pc := jmpTarget w x }
    else s1.faultAt core k x 0x0B (jmpTarget w x).toNat)

/-- The SCRIPT register of a lane (R204). -/
def scriptReg (x : Slot) (l : Nat) : Nat :=
  let n := (x.lanes[l]?).getD {}
  n.next + n.unreleased * 2 ^ 32 + b2n n.walking * 2 ^ 48

/-- The value of a special register (R204). -/
def State.special (s : State) (c : Nat) (x : Slot) (sel : Nat) : Nat :=
  match sel with
  | 0x00 => s.count (coreIsland c)
  | 0x01 => coreIsland c
  | 0x02 => x.ctx
  | 0x03 => s.ctxFolio x.ctx
  | 0x04 => x.rank
  | 0x05 => x.nrank
  | 0x06 => if s.ctxFolio x.ctx = 0 then engineWord c else 0
  | 0x07 => s.sliceOf c
  | 0x08 => (match s.ctx? x.ctx with | some k => k.stale | none => 0)
  | 0x09 => scriptReg x 0
  | 0x0A => scriptReg x 1
  | _ => x.barWait

/-- SRD (R204): rd := special register SEL. -/
def execSrd (core : Nat) (w : Word) (s : State) : Host.Outcome State Fault Refusal :=
  s.issue core w 0x07 none (fun s1 k x =>
    s1.retire core k ((x.setSr (fd w 53 5) (BitVec.ofNat 64 (s1.special core x (fd w 45 8)))).advance))

/-- The address of a scalar load or store: base plus sign-extended offset (R199). -/
def lsAddr (w : Word) (x : Slot) : Nat := (x.sr (fd w 48 5) + imm32 w).toNat

/-- Bytes of a scalar access. -/
def lsSize (w : Word) : Nat := 2 ^ fd w 46 2

/-- LD (R201): from scratchpad, or from device memory through the cluster cache. A load that waited completes here. -/
def execLd (core : Nat) (w : Word) (s : State) : Host.Outcome State Fault Refusal :=
  s.issue core w 0x02 none (fun s1 k x =>
    let a := lsAddr w x
    let n := lsSize w
    let rd := fd w 53 5
    if a % n ≠ 0 then s1.faultAt core k x 0x0B a
    else if fbit w 45 then
      (let la := a % 2 ^ 19
       if ¬ x.spIn la n then s1.faultAt core k x 0x03 la
       else if ¬ (s1.core core).spFree k x la n false then s1.stall core k x
       else s1.retire core k ((x.setSr rd (extend ((s1.core core).spRead x la n) (fbit w 43))).advance))
    else
      match x.wait with
      | .mem r => (match s1.req? r with
        | some q => s1.loadDone core k x r q rd (extend (q.rdata.take n) (fbit w 43))
        | none => s1.stall core k x)
      | _ =>
        match s1.xlate core k x a 0 0 with
        | .error s2 => s2
        | .ok (pa, nc, s2) => s2.loadAt core k x rd n a pa nc (fbit w 44) (fbit w 43))

/-- ST (R201, R202): into scratchpad, or posted to device memory. -/
def execSt (core : Nat) (w : Word) (s : State) : Host.Outcome State Fault Refusal :=
  s.issue core w 0x03 none (fun s1 k x =>
    let a := lsAddr w x
    let n := lsSize w
    let d := le n (x.sr (fd w 53 5)).toNat
    if a % n ≠ 0 then s1.faultAt core k x 0x0B a
    else if fbit w 45 then
      (let la := a % 2 ^ 19
       if ¬ x.spIn la n then s1.faultAt core k x 0x03 la
       else if ¬ (s1.core core).spFree k x la n true then s1.stall core k x
       else (s1.setCore core ((s1.core core).spWrite x la d)).retire core k x.advance)
    else
      match s1.xlate core k x a 1 0 with
      | .error s2 => s2
      | .ok (pa, nc, s2) => s2.storeAt core k x a pa nc d)

/-- AMO (R199, R203): one indivisible read and write at the point of coherence. -/
def execAmo (core : Nat) (w : Word) (s : State) : Host.Outcome State Fault Refusal :=
  s.issue core w 0x04 none (fun s1 k x =>
    let a := (x.sr (fd w 48 5)).toNat
    let n := if fbit w 35 then 8 else 4
    let rd := fd w 53 5
    if a % n ≠ 0 then s1.faultAt core k x 0x0B a
    else
      match x.wait with
      | .mem r => (match s1.req? r with
        | some q => s1.loadDone core k x r q rd (extend (q.rdata.take n) false)
        | none => s1.stall core k x)
      | _ =>
        match s1.xlate core k x a 3 0 with
        | .error s2 => s2
        | .ok (pa, nc, s2) => s2.amoAt core k x rd n a pa nc (amoData (fd w 36 2) n (x.sr (fd w 43 5)) (x.sr (fd w 38 5))))

end Sys2Proof.Machine
end

