-- ==== Sys2Proof/Machine/Security.lean ====
section
/-! DEFINITION. Sys2Proof/Machine/Security.lean: quire keys, key rotation, attestation (18 R569-R572, R582, R583). -/

namespace Sys2Proof.Machine

/-- The folio argument of a key command: one in use, with CONF. -/
def State.confArg (s : State) (f : Nat) : Option (Nat × Nat) :=
  match s.folioBad f 0x28 with
  | some e => some e
  | none => if (s.folio f).conf then none else some (5, 0)

/-- CONF_KEYS (R570, R571). -/
def execConfKeys (queue : Nat) (s : State) : Host.Outcome State Fault Refusal :=
  s.runCmd queue 0x60 (fun s1 _ c =>
    let f := c.arg 0x28 1
    let k := c.arg 0x29 1
    let a := c.arg 0x30 8
    match s1.confArg f with
    | some e => s1.cmdDone queue e.1 e.2
    | none =>
      if 3 < k then s1.cmdDone queue 2 0x29
      else if a = 0 then (s1.setFolio f { s1.folio f with qkeys := tdel k (s1.folio f).qkeys }).cmdDone queue 0 0
      else match s1.hubRead 0 a 2592 with
        | (some b, s2) => (s2.setFolio f { s2.folio f with qkeys := tput k b (s2.folio f).qkeys }).cmdDone queue 0 0
        | (none, s2) => s2.cmdDone queue 0x11 0)

/-- Does a request reach confidential memory of a folio? -/
def State.toConf (s : State) (f : Nat) (q : Req) : Bool :=
  decide (q.pa < 2 ^ 39) && (match s.server (q.pa / 2 ^ 33) with | some m => (s.memSlice m).owner == f | none => false)

/-- KEY_ROTATE (R582 step 1, R583): the old keys move to the previous half, the Clasp makes new ones; requests on their way use the old. -/
def execKeyRotate (queue : Nat) (s : State) : Host.Outcome State Fault Refusal :=
  s.runCmd queue 0x61 (fun s1 _ c =>
    let f := c.arg 0x28 1
    match s1.confArg f with
    | some e => s1.cmdDone queue e.1 e.2
    | none =>
      let x := s1.folio f
      if x.prevKeys then s1.cmdDone queue 5 0
      else
        let s2 := s1.useFree.useFree.useFree.setFolio f { x with
          keys := s1.freeKeys, oldKeys := x.keys, prevKeys := true, keyEpoch := (x.keyEpoch + 1) % 256, rotQueue := some queue }
        let s3 := foldS (s1.folioMems f) s2 (fun st m => st.setMemSlice m { st.memSlice m with rotAt := some 0 })
        { s3 with reqs := tmap (fun _ (q : Req) => if s1.toConf f q then { q with oldKey := true } else q) s3.reqs }.setPhase queue (.running 0))

/-- The bytes of frames 0-247 (R579). -/
def rotEnd : Nat := 248 * 2 ^ 25

/-- The pointer of a slice moves to offset `o` (R582 steps 2, 3): every frame below it has flipped. -/
def State.rotateTo (s : State) (m o : Nat) : State :=
  let from_ := match (s.memSlice m).rotAt with | some p => p / 2 ^ 25 | none => 0
  let e := (s.folio ((s.memSlice m).owner)).keyEpoch
  foldS ((List.range 248).filter (fun i => decide (from_ ≤ i ∧ i < o / 2 ^ 25)))
    (s.setMemSlice m { s.memSlice m with rotAt := some o }) (fun st i => st.setFrame m i (setBits (st.frame m i) 16 8 e))

/-- A unit at offset `o` written under the new keys (R582 step 2): one whose tag mismatched gets the complement of its correct tag. -/
def State.retag (s : State) (m o : Nat) (bad : Bool) : State :=
  { s with tags := if bad then tput (slicePa m o) (BitVec.ofNat 64 (s.unitTag m (s.positionPa m o) o ^^^ (2 ^ 64 - 1))) s.tags
                   else tdel (slicePa m o) s.tags }

/-- The units among `us` with a tag that mismatches under the keys in force. -/
def State.badUnits (s : State) (m : Nat) (us : List Nat) : List Nat := us.filter (fun o => s.tagDiff m (s.positionPa m o) o != 0)

/-- Rotation takes a slice's pointer to `o`: each mismatching unit is recorded (R581) and keeps failing. -/
def State.rotateUnits (s : State) (m o : Nat) : State :=
  let from_ := match (s.memSlice m).rotAt with | some p => p | none => rotEnd
  let us := (s.tags.filter (fun t => decide (t.1 / 2 ^ 33 = m ∧ from_ ≤ t.1 % 2 ^ 33 ∧ t.1 % 2 ^ 33 < o))).map (fun t => t.1 % 2 ^ 33)
  let bad := s.badUnits m us
  let s1 := foldS bad s (fun st u => st.integFail (st.positionPa m u) 5)
  foldS us (s1.rotateTo m o) (fun st u => st.retag m u (bad.contains u))

/-- Rotation as time passes (R582 step 2, R584): a slice takes its next unit every 5 hub cycles, 51.2 GB/s. -/
def State.rotation (s : State) : State :=
  if s.hubCount % 5 ≠ 0 then s
  else foldS (List.range 64) s (fun st m =>
    match (st.memSlice m).rotAt with
    | some p => if p < rotEnd then st.rotateUnits m (p + 256) else st
    | none => st)

/-- KEY_ROTATE_DONE (R582 steps 2-4): the pointers have reached the end, and no request under the old keys is left; the previous half of the
slot is zeroed. The row stands for what the pointers had still to do (log 53). -/
def execKeyRotateDone (folio : Nat) (s : State) : Host.Outcome State Fault Refusal :=
  let x := s.folio folio
  match x.rotQueue with
  | none => stay s
  | some q =>
    if s.oldInflight folio ≠ 0 then stay s
    else
      let s1 := foldS (s.folioMems folio) s (fun st m =>
        let st1 := if (st.memSlice m).rotAt.isSome then st.rotateUnits m rotEnd else st
        st1.setMemSlice m { st1.memSlice m with rotAt := none })
      .next ((s1.setFolio folio { x with prevKeys := false, oldKeys := {}, rotQueue := none }).cmdDone q 0 0)

/-- The four quire keys in slot order, 2,592 zero bytes for an empty slot. -/
def quireKeys (keys : Tbl Bytes) : Bytes := [0, 1, 2, 3].flatMap (fun k => fit 2592 (tgetD [] k keys))

/-- The 4,896-byte report (R572). -/
def State.attestReport (s : State) (f : Nat) (nonce : Bytes) : Bytes :=
  let x := s.folio f
  let rec0 := patch (patch (s.folioRecord f) 2 (zeros 2)) 0x22 (zeros 2)
  let head := le 4 1 ++ le 1 f ++ le 1 (b2n x.conf + 2 * b2n x.fixfreq) ++ le 2 x.epoch ++ le 4 s.hubRev ++ le 4 (if x.conf then x.keyEpoch else 0) ++
    fit 64 (s.measured 2) ++ fit 64 (Config.sha3 rec0) ++ fit 64 (Config.sha3 (quireKeys x.qkeys)) ++ fit 32 nonce ++ zeros 16
  head ++ fit 4627 (Config.aliasSign (Config.sha3 head)) ++ zeros 13

/-- ATTEST (R570, R572): a report address of 0, which an express slot gives, ends it BADARG. -/
def execAttest (queue : Nat) (s : State) : Host.Outcome State Fault Refusal :=
  s.runCmd queue 0x62 (fun s1 x c =>
    let f := if x.type = .mgmt then c.arg 0x28 1 else s1.ctxFolio x.ctx
    match s1.folioBad f 0x28 with
    | some e => s1.cmdDone queue e.1 e.2
    | none =>
      if c.arg 0x38 8 = 0 ∨ c.index.isNone then s1.cmdDone queue 2 0x38
      else match s1.hubRead x.ctx (c.arg 0x30 8) 32 with
        | (none, s2) => s2.cmdDone queue 0x11 0
        | (some nonce, s2) => (match s2.hubWrite x.ctx (c.arg 0x38 8) (s2.attestReport f nonce) with
          | (true, s3) => s3.cmdDone queue 0 0
          | (false, s3) => s3.cmdDone queue 0x11 0))

end Sys2Proof.Machine
end

