-- ==== Sys2Proof/Machine/Dispatch.lean ====
section
/-! DEFINITION. Sys2Proof/Machine/Dispatch.lean: one arm per command, each a direct call of its meaning. -/

namespace Sys2Proof.Machine

/-- The effect of a command on everything but the queue of commands. -/
def exec (i : Instr) (s : State) : Host.Outcome State Fault Refusal :=
  match i with
  | .alu core w => Sys2Proof.Machine.execAlu core w s
  | .alui core w => Sys2Proof.Machine.execAlui core w s
  | .ld core w => Sys2Proof.Machine.execLd core w s
  | .st core w => Sys2Proof.Machine.execSt core w s
  | .amo core w => Sys2Proof.Machine.execAmo core w s
  | .br core w => Sys2Proof.Machine.execBr core w s
  | .jmp core w => Sys2Proof.Machine.execJmp core w s
  | .srd core w => Sys2Proof.Machine.execSrd core w s
  | .vop core w => Sys2Proof.Machine.execVop core w s
  | .vls core w => Sys2Proof.Machine.execVls core w s
  | .mma core w => Sys2Proof.Machine.execMma core w s
  | .mmaExecute core => Sys2Proof.Machine.execMmaExecute core s
  | .rq core w => Sys2Proof.Machine.execRq core w s
  | .rqExecute core => Sys2Proof.Machine.execRqExecute core s
  | .tdma core w => Sys2Proof.Machine.execTdma core w s
  | .tileDmaBurstComplete req => Sys2Proof.Machine.execTileDmaBurstComplete req s
  | .dwait core w => Sys2Proof.Machine.execDwait core w s
  | .slaunch core w => Sys2Proof.Machine.execSlaunch core w s
  | .scriptEntryIssue core slot lane => Sys2Proof.Machine.execScriptEntryIssue core slot lane s
  | .srel core w => Sys2Proof.Machine.execSrel core w s
  | .fsig core w => Sys2Proof.Machine.execFsig core w s
  | .fenceOffer offer => Sys2Proof.Machine.execFenceOffer offer s
  | .fwait core w => Sys2Proof.Machine.execFwait core w s
  | .fwaitTimeout core slot => Sys2Proof.Machine.execFwaitTimeout core slot s
  | .fwaitPoll core slot => Sys2Proof.Machine.execFwaitPoll core slot s
  | .fence core w => Sys2Proof.Machine.execFence core w s
  | .bar core w => Sys2Proof.Machine.execBar core w s
  | .barrierArrival msg => Sys2Proof.Machine.execBarrierArrival msg s
  | .sift core w => Sys2Proof.Machine.execSift core w s
  | .halt core w => Sys2Proof.Machine.execHalt core w s
  | .yield core w => Sys2Proof.Machine.execYield core w s
  | .seg core w => Sys2Proof.Machine.execSeg core w s
  | .gret core w => Sys2Proof.Machine.execGret core w s
  | .trap core w => Sys2Proof.Machine.execTrap core w s
  | .bkpt core w => Sys2Proof.Machine.execBkpt core w s
  | .cinv core w => Sys2Proof.Machine.execCinv core w s
  | .cwb core w => Sys2Proof.Machine.execCwb core w s
  | .storeCompletion req => Sys2Proof.Machine.execStoreCompletion req s
  | .ctxFault core slot => Sys2Proof.Machine.execCtxFault core slot s
  | .faultHoldExpiry ctx => Sys2Proof.Machine.execFaultHoldExpiry ctx s
  | .safeguardUpdateComplete upd => Sys2Proof.Machine.execSafeguardUpdateComplete upd s
  | .contextSwitch core => Sys2Proof.Machine.execContextSwitch core s
  | .quantumExpiry core => Sys2Proof.Machine.execQuantumExpiry core s
  | .waitSwExpiry core => Sys2Proof.Machine.execWaitSwExpiry core s
  | .rtContextReady core slot => Sys2Proof.Machine.execRtContextReady core slot s
  | .rtMiss ctx => Sys2Proof.Machine.execRtMiss ctx s
  | .doorbellSnoop queue line => Sys2Proof.Machine.execDoorbellSnoop queue line s
  | .doorbellRefetch queue => Sys2Proof.Machine.execDoorbellRefetch queue s
  | .doorbellPoll queue => Sys2Proof.Machine.execDoorbellPoll queue s
  | .commandFetch queue => Sys2Proof.Machine.execCommandFetch queue s
  | .commandWaitSatisfied queue => Sys2Proof.Machine.execCommandWaitSatisfied queue s
  | .commandComplete queue => Sys2Proof.Machine.execCommandComplete queue s
  | .refCountSubtract sub hostError => Sys2Proof.Machine.execRefCountSubtract sub hostError s
  | .nop queue => Sys2Proof.Machine.execNop queue s
  | .signal queue => Sys2Proof.Machine.execSignal queue s
  | .launch queue => Sys2Proof.Machine.execLaunch queue s
  | .launchStart queue => Sys2Proof.Machine.execLaunchStart queue s
  | .activationComplete ctx => Sys2Proof.Machine.execActivationComplete ctx s
  | .copy queue => Sys2Proof.Machine.execCopy queue s
  | .sieveFlush queue => Sys2Proof.Machine.execSieveFlush queue s
  | .safeSet queue => Sys2Proof.Machine.execSafeSet queue s
  | .reseed queue => Sys2Proof.Machine.execReseed queue s
  | .progLoad queue => Sys2Proof.Machine.execProgLoad queue s
  | .progUnload queue => Sys2Proof.Machine.execProgUnload queue s
  | .ctxCreate queue => Sys2Proof.Machine.execCtxCreate queue s
  | .ctxDestroy queue => Sys2Proof.Machine.execCtxDestroy queue s
  | .ctxReset queue => Sys2Proof.Machine.execCtxReset queue s
  | .resume queue => Sys2Proof.Machine.execResume queue s
  | .queueCreate queue => Sys2Proof.Machine.execQueueCreate queue s
  | .queueDestroy queue => Sys2Proof.Machine.execQueueDestroy queue s
  | .evringCreate queue => Sys2Proof.Machine.execEvringCreate queue s
  | .evringDestroy queue => Sys2Proof.Machine.execEvringDestroy queue s
  | .invalidate queue => Sys2Proof.Machine.execInvalidate queue s
  | .invalidateDrained queue => Sys2Proof.Machine.execInvalidateDrained queue s
  | .invSlow queue => Sys2Proof.Machine.execInvSlow queue s
  | .migrate queue => Sys2Proof.Machine.execMigrate queue s
  | .migrateCopyComplete queue => Sys2Proof.Machine.execMigrateCopyComplete queue s
  | .advise queue => Sys2Proof.Machine.execAdvise queue s
  | .frameSet queue => Sys2Proof.Machine.execFrameSet queue s
  | .biasTakebackDone queue => Sys2Proof.Machine.execBiasTakebackDone queue s
  | .chanAssign queue => Sys2Proof.Machine.execChanAssign queue s
  | .folioCreate queue => Sys2Proof.Machine.execFolioCreate queue s
  | .folioDestroy queue => Sys2Proof.Machine.execFolioDestroy queue s
  | .sliceAttach queue => Sys2Proof.Machine.execSliceAttach queue s
  | .sliceDetach queue => Sys2Proof.Machine.execSliceDetach queue s
  | .sliceTransfer queue => Sys2Proof.Machine.execSliceTransfer queue s
  | .sliceMove queue => Sys2Proof.Machine.execSliceMove queue s
  | .sliceMoveCopyComplete slice => Sys2Proof.Machine.execSliceMoveCopyComplete slice s
  | .setProtect queue => Sys2Proof.Machine.execSetProtect queue s
  | .peerSet queue => Sys2Proof.Machine.execPeerSet queue s
  | .linkShare queue => Sys2Proof.Machine.execLinkShare queue s
  | .folioQuery queue => Sys2Proof.Machine.execFolioQuery queue s
  | .folioRing queue => Sys2Proof.Machine.execFolioRing queue s
  | .epochInForce folio => Sys2Proof.Machine.execEpochInForce folio s
  | .drainZero kind slice => Sys2Proof.Machine.execDrainZero kind slice s
  | .drainLimitExpiry kind slice => Sys2Proof.Machine.execDrainLimitExpiry kind slice s
  | .scrubComplete slice => Sys2Proof.Machine.execScrubComplete slice s
  | .confSliceInitComplete slice => Sys2Proof.Machine.execConfSliceInitComplete slice s
  | .mirrorMemberLoss slice => Sys2Proof.Machine.execMirrorMemberLoss slice s
  | .codedMemberLoss slice => Sys2Proof.Machine.execCodedMemberLoss slice s
  | .secondLoss slice => Sys2Proof.Machine.execSecondLoss slice s
  | .stitchLinkIdle peer => Sys2Proof.Machine.execStitchLinkIdle peer s
  | .peerLossDrainExpiry peer folio => Sys2Proof.Machine.execPeerLossDrainExpiry peer folio s
  | .stitchRead link hdr payload => Sys2Proof.Machine.execStitchRead link hdr payload s
  | .stitchWrite link hdr payload => Sys2Proof.Machine.execStitchWrite link hdr payload s
  | .stitchAtomic link hdr payload => Sys2Proof.Machine.execStitchAtomic link hdr payload s
  | .stitchFenceOffer link hdr payload => Sys2Proof.Machine.execStitchFenceOffer link hdr payload s
  | .stitchBarrier link hdr payload => Sys2Proof.Machine.execStitchBarrier link hdr payload s
  | .stitchMirrorWrite link hdr payload => Sys2Proof.Machine.execStitchMirrorWrite link hdr payload s
  | .stitchCompletionData link hdr payload => Sys2Proof.Machine.execStitchCompletionData link hdr payload s
  | .stitchCompletion link hdr payload => Sys2Proof.Machine.execStitchCompletion link hdr payload s
  | .stitchCreditReturn link hdr payload => Sys2Proof.Machine.execStitchCreditReturn link hdr payload s
  | .stitchDiscard link hdr payload => Sys2Proof.Machine.execStitchDiscard link hdr payload s
  | .report link payload => Sys2Proof.Machine.execReport link payload s
  | .assign link payload => Sys2Proof.Machine.execAssign link payload s
  | .reportPeriod => Sys2Proof.Machine.execReportPeriod s
  | .leaderAssign => Sys2Proof.Machine.execLeaderAssign s
  | .assignTimeout => Sys2Proof.Machine.execAssignTimeout s
  | .shareSet queue => Sys2Proof.Machine.execShareSet queue s
  | .acctRead queue => Sys2Proof.Machine.execAcctRead queue s
  | .rtAdmit queue => Sys2Proof.Machine.execRtAdmit queue s
  | .rtRelease queue => Sys2Proof.Machine.execRtRelease queue s
  | .cyclicLoad queue => Sys2Proof.Machine.execCyclicLoad queue s
  | .cyclicEnter queue => Sys2Proof.Machine.execCyclicEnter queue s
  | .cyclicExit queue => Sys2Proof.Machine.execCyclicExit queue s
  | .minorFrameBoundary => Sys2Proof.Machine.execMinorFrameBoundary s
  | .cyclicEntryStart entry pass code unit => Sys2Proof.Machine.execCyclicEntryStart entry pass code unit s
  | .cyclicOverrun entry => Sys2Proof.Machine.execCyclicOverrun entry s
  | .powerSet queue => Sys2Proof.Machine.execPowerSet queue s
  | .energyWatch queue => Sys2Proof.Machine.execEnergyWatch queue s
  | .energyEstimate => Sys2Proof.Machine.execEnergyEstimate s
  | .confKeys queue => Sys2Proof.Machine.execConfKeys queue s
  | .keyRotate queue => Sys2Proof.Machine.execKeyRotate queue s
  | .keyRotateDone folio => Sys2Proof.Machine.execKeyRotateDone folio s
  | .attest queue => Sys2Proof.Machine.execAttest queue s
  | .engineReset queue => Sys2Proof.Machine.execEngineReset queue s
  | .folioReset queue => Sys2Proof.Machine.execFolioReset queue s
  | .pkgReset queue => Sys2Proof.Machine.execPkgReset queue s
  | .pkgStandby queue => Sys2Proof.Machine.execPkgStandby queue s
  | .standbyExit => Sys2Proof.Machine.execStandbyExit s
  | .watchdogAct ctx => Sys2Proof.Machine.execWatchdogAct ctx s
  | .watchdogCmdwait queue => Sys2Proof.Machine.execWatchdogCmdwait queue s
  | .watchdogCore core => Sys2Proof.Machine.execWatchdogCore core s
  | .watchdogReq req => Sys2Proof.Machine.execWatchdogReq req s
  | .watchdogMgmt => Sys2Proof.Machine.execWatchdogMgmt s
  | .watchdogClasp => Sys2Proof.Machine.execWatchdogClasp s
  | .watchdogStep step target => Sys2Proof.Machine.execWatchdogStep step target s
  | .booksCheck => Sys2Proof.Machine.execBooksCheck s
  | .dieFailure die cause => Sys2Proof.Machine.execDieFailure die cause s
  | .walkComplete walk => Sys2Proof.Machine.execWalkComplete walk s
  | .copyDescriptorStart chan => Sys2Proof.Machine.execCopyDescriptorStart chan s
  | .copyWaitSatisfied chan => Sys2Proof.Machine.execCopyWaitSatisfied chan s
  | .copyBurstIssue engine => Sys2Proof.Machine.execCopyBurstIssue engine s
  | .copyBurstComplete chan burst => Sys2Proof.Machine.execCopyBurstComplete chan burst s
  | .copyDescriptorEnd chan => Sys2Proof.Machine.execCopyDescriptorEnd chan s
  | .siftAccept sift => Sys2Proof.Machine.execSiftAccept sift s
  | .siftStart unit => Sys2Proof.Machine.execSiftStart unit s
  | .siftComplete unit => Sys2Proof.Machine.execSiftComplete unit s
  | .getShare req => Sys2Proof.Machine.execGetShare req s
  | .getOwn req => Sys2Proof.Machine.execGetOwn req s
  | .upgrade req => Sys2Proof.Machine.execUpgrade req s
  | .glance req => Sys2Proof.Machine.execGlance req s
  | .putHome req => Sys2Proof.Machine.execPutHome req s
  | .rawGet req => Sys2Proof.Machine.execRawGet req s
  | .rawPut req => Sys2Proof.Machine.execRawPut req s
  | .retireDirty slice line => Sys2Proof.Machine.execRetireDirty slice line s
  | .retireClean slice line => Sys2Proof.Machine.execRetireClean slice line s
  | .grantAck line => Sys2Proof.Machine.execGrantAck line s
  | .prbMiss slice line => Sys2Proof.Machine.execPrbMiss slice line s
  | .grantData slice line victim => Sys2Proof.Machine.execGrantData slice line victim s
  | .retireAck slice line => Sys2Proof.Machine.execRetireAck slice line s
  | .prbShare slice line => Sys2Proof.Machine.execPrbShare slice line s
  | .prbOwn slice line => Sys2Proof.Machine.execPrbOwn slice line s
  | .prbGlance slice line => Sys2Proof.Machine.execPrbGlance slice line s
  | .prbInv slice line => Sys2Proof.Machine.execPrbInv slice line s
  | .snpData addr => Sys2Proof.Machine.execSnpData addr s
  | .snpInv addr => Sys2Proof.Machine.execSnpInv addr s
  | .snpCur addr => Sys2Proof.Machine.execSnpCur addr s
  | .atsInvalidation fn addr len => Sys2Proof.Machine.execAtsInvalidation fn addr len s
  | .cxlMemRead hpa => Sys2Proof.Machine.execCxlMemRead hpa s
  | .cxlMemWrite hpa off data => Sys2Proof.Machine.execCxlMemWrite hpa off data s
  | .hostTimeout req => Sys2Proof.Machine.execHostTimeout req s
  | .linkTraining width speed cxl => Sys2Proof.Machine.execLinkTraining width speed cxl s
  | .hostLinkDown => Sys2Proof.Machine.execHostLinkDown s
  | .hdmDecoderCommit base => Sys2Proof.Machine.execHdmDecoderCommit base s
  | .msixUnmask fn vector => Sys2Proof.Machine.execMsixUnmask fn vector s
  | .vfFlr fn => Sys2Proof.Machine.execVfFlr fn s
  | .pfFlr => Sys2Proof.Machine.execPfFlr s
  | .perstNAssert => Sys2Proof.Machine.execPerstNAssert s
  | .perstNDeassert => Sys2Proof.Machine.execPerstNDeassert s
  | .doeDiscovery index => Sys2Proof.Machine.execDoeDiscovery index s
  | .cdatAccess handle => Sys2Proof.Machine.execCdatAccess handle s
  | .getVersion req => Sys2Proof.Machine.execGetVersion req s
  | .getCapabilities req => Sys2Proof.Machine.execGetCapabilities req s
  | .negotiateAlgorithms req => Sys2Proof.Machine.execNegotiateAlgorithms req s
  | .getDigests req => Sys2Proof.Machine.execGetDigests req s
  | .getCertificate req => Sys2Proof.Machine.execGetCertificate req s
  | .challenge req => Sys2Proof.Machine.execChallenge req s
  | .getMeasurements req => Sys2Proof.Machine.execGetMeasurements req s
  | .spdmUnsupported req => Sys2Proof.Machine.execSpdmUnsupported req s
  | .urgencyLevelChange master fill => Sys2Proof.Machine.execUrgencyLevelChange master fill s
  | .urgencyHeld master arbKind arbIndex oldest => Sys2Proof.Machine.execUrgencyHeld master arbKind arbIndex oldest s
  | .spineReplay die lane => Sys2Proof.Machine.execSpineReplay die lane s
  | .spineLaneReinit lane => Sys2Proof.Machine.execSpineLaneReinit lane s
  | .spineReinitDone lane ok => Sys2Proof.Machine.execSpineReinitDone lane ok s
  | .powerControlTick p fixed pinned => Sys2Proof.Machine.execPowerControlTick p fixed pinned s
  | .railRampDone island => Sys2Proof.Machine.execRailRampDone island s
  | .clockStepDone island => Sys2Proof.Machine.execClockStepDone island s
  | .corrEventSample island => Sys2Proof.Machine.execCorrEventSample island s
  | .corrPeriodicSample => Sys2Proof.Machine.execCorrPeriodicSample s
  | .corrReq => Sys2Proof.Machine.execCorrReq s
  | .corrPeriodRestart w => Sys2Proof.Machine.execCorrPeriodRestart w s
  | .droopAssert island => Sys2Proof.Machine.execDroopAssert island s
  | .droopClear island => Sys2Proof.Machine.execDroopClear island s
  | .droopLong island => Sys2Proof.Machine.execDroopLong island s
  | .supplyWarning supply mv => Sys2Proof.Machine.execSupplyWarning supply mv s
  | .supplyRelease supply lowest => Sys2Proof.Machine.execSupplyRelease supply lowest s
  | .busUndervoltage mv => Sys2Proof.Machine.execBusUndervoltage mv s
  | .railResetTrip supply => Sys2Proof.Machine.execRailResetTrip supply s
  | .powerTrip cause => Sys2Proof.Machine.execPowerTrip cause s
  | .thermalCapFall island temp => Sys2Proof.Machine.execThermalCapFall island temp s
  | .thermalCapRise island temp => Sys2Proof.Machine.execThermalCapRise island temp s
  | .thermtrip island temp => Sys2Proof.Machine.execThermtrip island temp s
  | .wearGaugeReading domain need agreeHours => Sys2Proof.Machine.execWearGaugeReading domain need agreeHours s
  | .hoursUpdate => Sys2Proof.Machine.execHoursUpdate s
  | .forerunnerRefresh => Sys2Proof.Machine.execForerunnerRefresh s
  | .cfgSweepStart => Sys2Proof.Machine.execCfgSweepStart s
  | .cfgSweepEnd => Sys2Proof.Machine.execCfgSweepEnd s
  | .cfgchkCommit => Sys2Proof.Machine.execCfgchkCommit s
  | .cfgchkCapture => Sys2Proof.Machine.execCfgchkCapture s
  | .cfgchkEn v => Sys2Proof.Machine.execCfgchkEn v s
  | .homClrOwn home => Sys2Proof.Machine.execHomClrOwn home s
  | .homClrOth home => Sys2Proof.Machine.execHomClrOth home s
  | .cpyRestart chan resume => Sys2Proof.Machine.execCpyRestart chan resume s
  | .cpyStream chan v => Sys2Proof.Machine.execCpyStream chan v s
  | .cpyMaxbuf chan v => Sys2Proof.Machine.execCpyMaxbuf chan v s
  | .rgnPwrOff off => Sys2Proof.Machine.execRgnPwrOff off s
  | .regionPowerDown island => Sys2Proof.Machine.execRegionPowerDown island s
  | .regionPowerUp island => Sys2Proof.Machine.execRegionPowerUp island s
  | .mgmtqEnable v => Sys2Proof.Machine.execMgmtqEnable v s
  | .errLogClear => Sys2Proof.Machine.execErrLogClear s
  | .cmpDbgDataAccess core write => Sys2Proof.Machine.execCmpDbgDataAccess core write s
  | .pwrLimitWrite w => Sys2Proof.Machine.execPwrLimitWrite w s
  | .fabQosWtWrite die w => Sys2Proof.Machine.execFabQosWtWrite die w s
  | .registerWrite off size v => Sys2Proof.Machine.execRegisterWrite off size v s
  | .readClear off size => Sys2Proof.Machine.execReadClear off size s
  | .registerAccessTimeout off size write => Sys2Proof.Machine.execRegisterAccessTimeout off size write s
  | .status payload crc => Sys2Proof.Machine.execStatus payload crc s
  | .eventRead payload crc => Sys2Proof.Machine.execEventRead payload crc s
  | .logRead payload crc => Sys2Proof.Machine.execLogRead payload crc s
  | .setPkgId payload crc => Sys2Proof.Machine.execSetPkgId payload crc s
  | .groupTotal payload crc => Sys2Proof.Machine.execGroupTotal payload crc s
  | .wake payload crc => Sys2Proof.Machine.execWake payload crc s
  | .calRead payload crc => Sys2Proof.Machine.execCalRead payload crc s
  | .calWrite payload crc => Sys2Proof.Machine.execCalWrite payload crc s
  | .imgBegin payload crc => Sys2Proof.Machine.execImgBegin payload crc s
  | .imgData payload crc => Sys2Proof.Machine.execImgData payload crc s
  | .imgEnd payload crc => Sys2Proof.Machine.execImgEnd payload crc s
  | .flashWriteDone => Sys2Proof.Machine.execFlashWriteDone s
  | .auxPowerOn claspRecovery => Sys2Proof.Machine.execAuxPowerOn claspRecovery s
  | .auxPowerLoss => Sys2Proof.Machine.execAuxPowerLoss s
  | .imageVerified => Sys2Proof.Machine.execImageVerified s
  | .pwrgoodAssert busMv => Sys2Proof.Machine.execPwrgoodAssert busMv s
  | .railsUp => Sys2Proof.Machine.execRailsUp s
  | .hbmTrained => Sys2Proof.Machine.execHbmTrained s
  | .stitchLinkTrained link lanes => Sys2Proof.Machine.execStitchLinkTrained link lanes s
  | .stitchWaitTimeout => Sys2Proof.Machine.execStitchWaitTimeout s
  | .selfTestComplete failDies failCore failMem hubOk => Sys2Proof.Machine.execSelfTestComplete failDies failCore failMem hubOk s
  | .stitchLinkReinit link => Sys2Proof.Machine.execStitchLinkReinit link s
  | .prbData slice line => Sys2Proof.Machine.execPrbData slice line s
  | .cxlCacheCompletion req err data => Sys2Proof.Machine.execCxlCacheCompletion req err data s
  | .hostFenceWordSnoop addr value => Sys2Proof.Machine.execHostFenceWordSnoop addr value s
  | .eventRingConsumed ring count => Sys2Proof.Machine.execEventRingConsumed ring count s
  | .folioResetDrainExpiry folio => Sys2Proof.Machine.execFolioResetDrainExpiry folio s
  | .uncorrectableUnitError unit code loc addr fatal => Sys2Proof.Machine.execUncorrectableUnitError unit code loc addr fatal s
  | .dynamicAddressAssign addr => Sys2Proof.Machine.execDynamicAddressAssign addr s

end Sys2Proof.Machine
end

