-- ==== Sys2Proof/Machine/Mesh.lean ====
section
/-! DEFINITION. Sys2Proof/Machine/Mesh.lean: the on-die networks at work: routers, virtual channels, credits, multicast and the spine (08 R264-R276, R279, R280, R286, R288). What the messages do is each row's meaning, which takes a message wherever its flits are (log 121); here they travel. -/

namespace Sys2Proof.Machine

/-! ## Links, channels and credits (R266, R273, R274, R284) -/

/-- The code of a router. -/
def Node.code : Node → Nat
  | .mesh d x y => 128 * d + 12 * y + x
  | .edge d e => 128 * d + 72 + e

/-- The router of a code. -/
def nodeOf (n : Nat) : Node := if n % 128 < 72 then .mesh (n / 128) (n % 128 % 12) (n % 128 / 12) else .edge (n / 128) (n % 128 - 72)

/-- The key of the link from one router to another. -/
def wireKey (a b : Nat) : Nat := 256 * a + b

/-- The virtual channel of a class on a link: 2 class + 1 on the detour twin; SYNC has no twin (R271). -/
def chanNo (c : Cls) (twin : Bool) : Nat := if c = .sync then 12 else 2 * c.no + b2n twin

/-- The network of a channel: 0 bulk, 1 control, 2 sync (R273). -/
def netOf (ch : Nat) : Nat := if ch < 6 then 1 else if ch < 12 then 0 else 2

/-- Flits of buffer that an input port has for a channel (R273). -/
def depthOf (ch : Nat) : Nat := if ch < 6 then 8 else 4

/-- Credits that the sender of a link holds for a channel: what it has not spent (R274). -/
def Wire.credits (w : Wire) (ch : Nat) : Nat := depthOf ch - tgetD 0 ch w.spent

/-- Is a link one of the spine's? -/
def spineLink (a b : Nat) : Bool := a / 128 != b / 128

/-- Flits per cycle of a link on a network (R266): one between mesh routers, two to and from an attachment, four on the ring and on a spine
lane; the sync network one. -/
def rateOf (a b k : Nat) : Nat :=
  if k = 2 then 1 else if spineLink a b then 4 else if a % 128 < 72 ∧ b % 128 < 72 then 1 else if a % 128 < 72 ∨ b % 128 < 72 then 2 else 4

/-- Fabric cycles of a flit from a router to the next, the typical ones of R284 (log 121). -/
def hopTime (a b : Nat) : Nat := if a % 128 < 72 then 2 else if b % 128 < 72 then 4 else if spineLink a b then 16 else 7

/-- A link after the arrivals of this cycle: flits into the port's buffers, credits back to the sender. -/
def Wire.land (now : Nat) (w : Wire) : Wire :=
  let here := w.flight.filter (fun f => decide (f.1 ≤ now))
  let home := w.back.filter (fun c => decide (c.1 ≤ now))
  { w with
    flight := w.flight.filter (fun f => decide (now < f.1))
    back := w.back.filter (fun c => decide (now < c.1))
    buf := here.foldl (fun b f => tput f.2.1 (tgetD [] f.2.1 b ++ [f.2.2]) b) w.buf
    spent := home.foldl (fun t c => tputD 0 c.2 (tgetD 0 c.2 t - 1) t) w.spent }

/-- A flit leaves on a link: a credit is spent. -/
def Wire.put (at_ ch : Nat) (f : Flit) (w : Wire) : Wire :=
  { w with flight := w.flight ++ [(at_, ch, f)], spent := tputD 0 ch (tgetD 0 ch w.spent + 1) w.spent, last := tput (netOf ch) ch w.last }

/-- The first flit of a channel leaves a port's buffer: its credit travels back. -/
def Wire.take (at_ ch : Nat) (w : Wire) : Wire :=
  { w with buf := tputD [] ch (tgetD [] ch w.buf).tail w.buf, back := w.back ++ [(at_, ch)] }

def Net.wire (n : Net) (k : Nat) : Wire := tgetD {} k n.wires
def Net.setWire (n : Net) (k : Nat) (w : Wire) : Net := { n with wires := tputD {} k w n.wires }

/-! ## Multicast (R279, R280) -/

/-- Router (x, y) of a rectangle's columns and rows. -/
def inCols (r x y : Nat) : Bool := decide (bits r 0 4 ≤ x ∧ x ≤ bits r 4 4 ∧ bits r 8 3 ≤ y ∧ y ≤ bits r 11 3)

/-- The nearest router of a rectangle to a router. -/
def rectEntry (r : Nat) (p : Nat × Nat) : Nat × Nat := (max (bits r 0 4) (min p.1 (bits r 4 4)), max (bits r 8 3) (min p.2 (bits r 11 3)))

/-- The routers that a multicast flit goes on to from (x, y), which it entered the rectangle's row at column `ex`, row `ey`: along the row both ways, and
at each column both ways. -/
def spread (r ex ey x y : Nat) : List (Nat × Nat) :=
  (if y = ey then (if ex ≤ x ∧ x < bits r 4 4 then [(x + 1, y)] else []) ++ (if x ≤ ex ∧ bits r 0 4 < x then [(x - 1, y)] else []) else []) ++
  (if ey ≤ y ∧ y < bits r 11 3 then [(x, y + 1)] else []) ++ (if y ≤ ey ∧ bits r 8 3 < y then [(x, y - 1)] else [])

/-- The branches of a multicast flit at a router; one toward a bad router goes, on the detour twin, to where the bad router would have sent it (R271). -/
def branchesAt (bad : List (Nat × Nat)) (d r ex ey x y : Nat) : List (List Hop) :=
  (spread r ex ey x y).flatMap (fun p =>
    if bad.contains p then
      ((spread r ex ey p.1 p.2).filter (fun q => q != (x, y))).map (fun q =>
        (meshPath bad q.1 q.2 64 x y).map (fun h => { node := .mesh d h.1 h.2.1, twin := h.2.2 }))
    else [[{ node := .mesh d p.1 p.2 }]])

/-- Where a flit goes from a router: on along its path, to the branches of its rectangle, or nowhere: it has arrived. -/
def Flit.outs (f : Flit) (bad : List (List (Nat × Nat))) (at_ : Nat) : List (List Hop) :=
  if f.path ≠ [] then [f.path]
  else match f.rect, nodeOf at_ with
    | some (r, ex, ey), .mesh d x y => branchesAt ((bad[d]?).getD []) d r ex ey x y
    | _, _ => []

/-! ## Routers (R276) -/

/-- What the routers see of the rest of the part: dies whose fabric runs, bad routers, spine lanes in service, the urgency and the die's weights at a lane's ingress. -/
structure NetEnv where
  on : Nat → Bool
  bad : List (List (Nat × Nat))
  laneUp : Nat → Bool
  urg : Nat → Nat
  wt : Nat → List Nat

/-- A flit at the head of a queue: the port it came by (none: it enters here), its channel there, and the flit. -/
structure Head where
  port : Option Nat
  ch : Nat
  flit : Flit

/-- The heads of the queues at a router: of each channel of its input ports, and of the flits that wait to enter. -/
def Net.heads (n : Net) (at_ : Nat) : List Head :=
  n.wires.flatMap (fun w => if w.1 % 256 = at_ then w.2.buf.filterMap (fun b => b.2.head?.map (fun f => { port := some w.1, ch := b.1, flit := f })) else []) ++
  (List.range 7).filterMap (fun c => (tgetD [] (8 * at_ + c) n.wait).head?.map (fun f => { port := none, ch := 2 * c, flit := f }))

/-- Routers at which a flit stands. -/
def Net.busy (n : Net) : List Nat :=
  ((n.wires.filter (fun (w : Nat × Wire) => w.2.buf != [])).map (fun (w : Nat × Wire) => w.1 % 256) ++ n.wait.map (fun (w : Nat × List Flit) => w.1 / 8)).eraseDups

/-- Can a flit take its first hop of a branch: a credit for the channel, room in the link's rate this cycle, and the lane in service? -/
def Net.open_ (n : Net) (e : NetEnv) (used : Tbl Nat) (at_ : Nat) (c : Cls) (p : List Hop) : Bool :=
  match p with
  | [] => false
  | h :: _ =>
    let b := h.node.code
    let ch := chanNo c h.twin
    decide (0 < (n.wire (wireKey at_ b)).credits ch) && decide (tgetD 0 (4 * wireKey at_ b + netOf ch) used < rateOf at_ b (netOf ch)) &&
    (!spineLink at_ b || e.laneUp (at_ % 128 - 76))

/-- May the flit at a head go now: every branch can be taken (R280)? -/
def Net.ready (n : Net) (e : NetEnv) (used : Tbl Nat) (at_ : Nat) (h : Head) : Bool :=
  (h.flit.outs e.bad at_).all (n.open_ e used at_ h.flit.cls)

/-- How long ago an output port served a head's channel, in its round (R276); SYNC comes before all, the capture pulse before other SYNC flits. -/
def Net.turn (n : Net) (e : NetEnv) (at_ : Nat) (h : Head) : Nat :=
  if h.flit.pulse then 0
  else if h.flit.cls = .sync then 1
  else match h.flit.outs e.bad at_ with
    | (p :: _) :: _ =>
      let ch := chanNo h.flit.cls p.twin
      2 + (ch + 13 - (tgetD 12 (netOf ch) (n.wire (wireKey at_ p.node.code)).last + 1) % 13) % 13
    | _ => 2

/-- Is a head a request that stands at a spine lane's ingress (R288)? -/
def Head.ingress (h : Head) (at_ : Nat) : Bool :=
  h.flit.cls == .req && (match h.flit.path with | p :: _ => spineLink at_ p.node.code | [] => false)

/-- The request that a lane's arbiter serves next, of those at its ingress: by urgency, then by the weighted round, the oldest first (R288). -/
def Net.ingressPick (n : Net) (e : NetEnv) (at_ : Nat) (l : List Head) : Option (Nat × Round) :=
  let oldest := fun (x : List Head) => (x.map (fun h => h.flit.pkt)).min?
  let r := tgetD {} at_ n.rounds
  let lvl := fun (h : Head) => match h.flit.req with | some i => e.urg i | none => 0
  match oldest (l.filter (fun h => lvl h == 2)) with
  | some p => some (p, r)
  | none =>
    match oldest (l.filter (fun h => lvl h == 1)) with
    | some p => some (p, r)
    | none => match r.next (e.wt (at_ / 128)) (fun c => l.any (fun h => h.flit.qos == c)) with
      | some (c, r1) => (oldest (l.filter (fun h => h.flit.qos == c))).map (fun p => (p, r1))
      | none => (oldest l).map (fun p => (p, r))

/-- The head leaves its queue. -/
def Net.pop (n : Net) (at_ : Nat) (h : Head) : Net :=
  match h.port with
  | some k => n.setWire k ((n.wire k).take (n.now + hopTime (k / 256) at_) h.ch)
  | none => { n with wait := tputD [] (8 * at_ + h.flit.cls.no) (tgetD [] (8 * at_ + h.flit.cls.no) n.wait).tail n.wait }

/-- The head goes on along every branch. -/
def Net.forward (n : Net) (e : NetEnv) (used : Tbl Nat) (at_ : Nat) (h : Head) : Net × Tbl Nat :=
  (h.flit.outs e.bad at_).foldl (fun (a : Net × Tbl Nat) p =>
    match p with
    | [] => a
    | hop :: rest =>
      let b := hop.node.code
      let k := wireKey at_ b
      let ch := chanNo h.flit.cls hop.twin
      (a.1.setWire k ((a.1.wire k).put (n.now + hopTime at_ b) ch { h.flit with path := rest }), tput (4 * k + netOf ch) (tgetD 0 (4 * k + netOf ch) a.2 + 1) a.2))
    (n.pop at_ h, used)

/-- The heads that may go now; of the requests at a spine lane's ingress, the one that its arbiter chooses. -/
def Net.choices (n : Net) (e : NetEnv) (used : Tbl Nat) (at_ : Nat) : List Head × Option (Nat × Round) :=
  let l := (n.heads at_).filter (n.ready e used at_)
  let pick := n.ingressPick e at_ (l.filter (fun h => h.ingress at_))
  (l.filter (fun h => !h.ingress at_ || (match pick with | some (p, _) => h.flit.pkt == p | none => false)), pick)

/-- A router sends flits until no head can go: each output port the channels in turn (R276). What has arrived here is given with the requests whose
last flit it is. -/
def Net.serve (e : NetEnv) (at_ : Nat) : (fuel : Nat) → Net → Tbl Nat → List Nat → Net × List Nat
  | 0, n, _, done => (n, done)
  | fuel + 1, n, used, done =>
    let c := n.choices e used at_
    match c.1.find? (fun h => c.1.all (fun g => decide (n.turn e at_ h ≤ n.turn e at_ g))) with
    | none => (n, done)
    | some h =>
      let n0 := if h.ingress at_ then (match c.2 with | some (_, r) => { n with rounds := tputD {} at_ r n.rounds } | none => n) else n
      let r := n0.forward e used at_ h
      let here := match h.flit.req with | some i => if h.flit.outs e.bad at_ = [] then i :: done else done | none => done
      Net.serve e at_ fuel r.1 r.2 here

/-- One fabric cycle of the networks: arrivals, then every router; the requests whose last flit has reached its destination. -/
def Net.cycle (e : NetEnv) (n : Net) : Net × List Nat :=
  let n1 := { n with now := n.now + 1, wires := tmap (fun _ (w : Wire) => w.land (n.now + 1)) n.wires }
  (n1.busy.filter (fun a => e.on (a / 128))).foldl (fun (a : Net × List Nat) at_ => Net.serve e at_ 64 a.1 [] a.2) (n1, [])

/-! ## The messages (R272, R273, R277) -/

/-- A message under way: its name (kind, number, part), where it stands and goes, its class and flits, and what it carries. -/
structure Msg where
  key : Nat × Nat × Nat
  src : Node
  dst : Node
  cls : Cls
  flits : Nat := 1
  qos : Nat := 0
  req : Option Nat := none
  rect : Option Nat := none
  pulse : Bool := false

/-- Bulk flits of a payload (R273). -/
def dataFlits (n : Nat) : Nat := max 1 (cdiv n 128)

/-- The router of a request's source, for a request of the hub the hub port of its home's die. -/
def State.srcNode (s : State) (h : Nat) (q : Req) : Node := (s.srcOf q).getD (hubEdge (h / 32 % 2))

/-- The packets of a request on its way to its home, and of its response: the request goes on REQ, with its bytes on DATA; the response on RSP and
DATA, to every cluster of a rectangle on MC. -/
def State.reqMsgs (s : State) (id : Nat) (q : Req) : List Msg :=
  match s.homeOf q.pa with
  | none => []
  | some h =>
    let a := s.srcNode h q
    let b := homeNode h a.die
    if q.status.isNone ∧ q.grant.isNone then
      if q.arr.isSome then []
      else if q.data = [] then [{ key := (0, id, 0), src := a, dst := b, cls := .req, qos := q.qos, req := some id }]
      else [{ key := (0, id, 0), src := a, dst := b, cls := .req, qos := q.qos },
            { key := (0, id, 1), src := a, dst := b, cls := .data, flits := dataFlits q.data.length, qos := q.qos, req := some id }]
    else
      match q.rect with
      | some r => [{ key := (1, id, 0), src := b, dst := a, cls := .mc, flits := dataFlits q.rdata.length, qos := q.qos, rect := some r }]
      | none =>
        { key := (1, id, 0), src := b, dst := a, cls := .rsp, qos := q.qos } ::
        (if q.rdata = [] then [] else [{ key := (1, id, 1), src := b, dst := a, cls := .data, flits := dataFlits q.rdata.length, qos := q.qos }])

/-- The packets of a cluster cache: snoops on their way to it, its answers, its writebacks and their acknowledgements. -/
def State.cacheMsgs (s : State) (n : Nat) (c : Cache) : List Msg :=
  let me := s.sliceNode n
  let home := fun (line : Nat) => match s.homeOf line with | some h => homeNode h (n / 64) | none => me
  c.probes.map (fun p => { key := (2, n, p.1), src := home p.1, dst := me, cls := .snp }) ++
  c.answers.map (fun a => { key := (3, n, a.1), src := me, dst := home a.1, cls := if a.2 = .ack ∨ a.2 = .miss true ∨ a.2 = .miss false then .rsp else .data }) ++
  c.wb.map (fun w => if w.2.acked then { key := (5, n, w.1), src := home w.1, dst := me, cls := .rsp }
    else { key := (4, n, w.1), src := me, dst := home w.1, cls := .wb })

/-- The packets of sift requests, fence offers and safeguard updates on their way, and of barrier arrivals on the sync network. -/
def State.otherMsgs (s : State) : List Msg :=
  (s.sifts.filter (fun q => !q.2.accepted)).map (fun q =>
    { key := (6, q.1, 0), src := s.coreNode q.2.core, dst := homeEdge q.2.unit, cls := .req, qos := q.2.qos }) ++
  s.offers.filterMap (fun o => match s.homeOf o.2.pa, s.waiterNode o.2.issuer with
    | some h, some a => some { key := (7, o.1, 0), src := a, dst := homeNode h a.die, cls := .req, qos := o.2.qos }
    | _, _ => none) ++
  s.bars.flatMap (fun b => (s.slotsOf b.2.ctx).filterMap (fun y =>
    if (y.1, y.2.1) = (b.2.core, b.2.slot) then none
    else some { key := (8, b.1, y.1), src := s.coreNode b.2.core, dst := s.coreNode y.1, cls := .sync }))

/-- The router of a master (R290): a hub port, a stitch link, or a copy engine. -/
def State.masterNode (s : State) (m : Nat) : Node :=
  if m < 2 then hubEdge m
  else if m < 14 then linkEdge (m - 2)
  else match (List.range 128).find? (fun c => (s.chan c).stream == some m) with | some c => engineEdge (c / 16) | none => hubEdge ((m - 14) / 8)

/-- The routers that hear a broadcast on the sync network: those of every home and spine lane, and the hub ports, of the dies whose fabrics run (R291). -/
def State.arbNodes (s : State) : List Node :=
  (([0, 1] : List Nat).filter s.fabricUp).flatMap (fun d => (List.range 14).map (fun e => Node.edge d e))

/-- The broadcasts on the sync network: a master's level above 0, and the capture pulse of the latest sample instant (R38, R291). -/
def State.syncMsgs (s : State) : List Msg :=
  s.urgency.flatMap (fun u => s.arbNodes.map (fun b => { key := (9, 4 * u.1 + u.2, b.code), src := s.masterNode u.1, dst := b, cls := .sync })) ++
  (if s.corrSeq = 0 then [] else s.arbNodes.map (fun b => { key := (10, s.corrSeq, b.code), src := hubEdge b.die, dst := b, cls := .sync, pulse := true }))

/-- Every message under way, as State holds it. -/
def State.messages (s : State) : List Msg :=
  s.reqs.flatMap (fun r => s.reqMsgs r.1 r.2) ++ s.caches.flatMap (fun c => s.cacheMsgs c.1 c.2) ++ s.otherMsgs ++ s.syncMsgs

/-- The path that a packet enters with, and the place where a multicast enters its rectangle: for data from an edge router by the attachment nearest the
rectangle, over the spine by the lane of the rectangle's first row (R279). One path for each die that the rectangle names. -/
def State.entries (s : State) (m : Msg) : List (List Hop × Option (Nat × Nat × Nat)) :=
  match m.rect with
  | none => [(s.hopsTo m.src m.dst, none)]
  | some r =>
    ([0, 1].filter (fun d => bit r (14 + d))).filterMap (fun d =>
      let lane := bits r 8 3 / 2
      let near := match m.src with
        | .mesh d0 x y => if d0 = d then some ([], (x, y)) else none
        | .edge d0 e =>
          if d0 = d then some ([], (s.attachFor d e (rectEntry r ((attachments e).headD (0, 0))))) else none
      let cross : List Hop := s.dieHops m.src (laneEdge m.src.die lane) ++ [{ node := laneEdge d lane }]
      let start := near.getD (cross, s.attachFor d (4 + lane) (rectEntry r (11, 2 * lane)))
      let enter := rectEntry r start.2
      let first : List Hop := match m.src with
        | .mesh d0 _ _ => if d0 = d then [] else [{ node := .mesh d start.2.1 start.2.2 }]
        | .edge _ _ => [{ node := .mesh d start.2.1 start.2.2 }]
      some (start.1 ++ first ++ s.meshHops d start.2 enter, some (r, enter.1, enter.2)))

/-- A message enters the networks at its router: its flits wait there, the last with the request whose arrival it is. -/
def State.enterMsg (s : State) (n : Net) (m : Msg) : Net :=
  (s.entries m).foldl (fun n1 e =>
    let k := 8 * m.src.code + m.cls.no
    let fs := (List.range m.flits).map (fun i =>
      ({ pkt := n1.nextPkt, cls := m.cls, path := e.1, qos := m.qos, req := if i + 1 = m.flits then m.req else none, rect := e.2, pulse := m.pulse } : Flit))
    { n1 with wait := tput k (tgetD [] k n1.wait ++ fs) n1.wait, nextPkt := n1.nextPkt + 1 }) n

/-- What the routers see of the part. -/
def State.netEnv (s : State) : NetEnv :=
  { on := s.fabricUp
    bad := s.fuses.badRouters
    laneUp := fun i => (s.lane i).up
    urg := fun i => match s.req? i with | some q => s.urgOf q | none => 0
    wt := s.qosWt }

/-- New messages enter the networks; those that have been taken are forgotten. -/
def State.inject (s : State) : Net :=
  let ms := s.messages
  let n := { s.net with known := s.net.known.filter (fun k => ms.any (fun m => m.key == k)) }
  ms.foldl (fun n1 m => if n1.known.contains m.key then n1 else { s.enterMsg n1 m with known := m.key :: n1.known }) n

/-- A fabric cycle: the networks move; a request whose last flit has come stands in its home's input queue (R294, R313). -/
def State.fabricCycle (s : State) : State :=
  let r := Net.cycle s.netEnv s.inject
  foldS r.2 { s with net := r.1 } (fun st i => match st.req? i with
    | some q => (match st.homeOf q.pa with | some h => st.setReq i (q.arrive (st.homeClock h)) | none => st)
    | none => st)

end Sys2Proof.Machine
end

