-- ==== Sys2Proof/Machine/Time.lean ====
section
/-! DEFINITION. Sys2Proof/Machine/Time.lean: one hub cycle with no command waiting (01 R34, R36). -/

namespace Sys2Proof.Machine

/-- One nanosecond of a region: its counter advances by its frequency in cycles per 1,000 ns, at half rate while its droop
stretch lasts (R36, R542). -/
def Region.tick (r : Region) : Region :=
  if r.powered then
    let rate := if r.droop then r.setMhz / 2 else r.setMhz
    let f := r.frac + rate
    { r with count := r.count + f / 1000, frac := f % 1000 }
  else r

/-- The counts after one hub cycle: the hub's, those of the running fabrics (2 cycles each) and of the running regions. -/
def State.counts (s : State) : State :=
  { s with
    hubCount := s.hubCount + 1
    regions := tmap (fun _ r => r.tick) s.regions
    fabrics := tmap (fun _ (f : Fabric) => if f.running then { f with count := f.count + 2 } else f) s.fabrics }

/-- The CORE watchdog counts only while a core has a context ready (R595). -/
def State.watchCores (s : State) : State :=
  { s with cores := tmap (fun c (k : Core) => if k.slots.any (fun x => s.ready c x.1 x.2) then k else { k with lastRet := s.hubCount }) s.cores }

/-- One hub cycle: the counts, two cycles of the on-die networks, ATS invalidations that are due, the
key rotations in progress, the CORE watchdogs. The hub runs once the rails are up. -/
def State.tick (s : State) : State := if s.clasp.rails then s.counts.fabricCycle.fabricCycle.atsSettle.rotation.watchCores else s

end Sys2Proof.Machine
end

