-- ==== Sys2Proof/Machine/Windows.lean ====
section
/-! DEFINITION. Sys2Proof/Machine/Windows.lean: what the windows other than BAR0 show: the capability and topology table, the forerunner window and the copies of a virtual function (14 R450, R452, 15 R499-R502). -/

namespace Sys2Proof.Machine

/-- A record of the table (R500): its header and its body, filled up to LEN bytes. -/
def capRec (ty len index : Nat) (body : Bytes) : Bytes := le 2 ty ++ le 2 len ++ le 2 index ++ le 2 0 ++ fit (len - 8) body

/-- LIMITS. -/
def capLimits : Bytes := capRec 1 0x28 0 ([4096, 16384, 48, 1024, 1024, 64, 64].flatMap (le 4))

/-- ISLAND: off, running or dark; the frequencies of fabrics and hub are fixed (R30, R31). -/
def State.capIsland (s : State) (i : Nat) : Bytes :=
  let st := if s.dark i then 2 else if s.runs i then 1 else 0
  let mhz : Nat × Nat := if i < 16 then ((s.region i).ratedMhz, (s.region i).setMhz) else if i < 18 then (2000, 2000) else (1000, 1000)
  capRec 2 0x18 i (le 4 st ++ le 4 (if i = 18 then 0 else Config.captureDelay i) ++ le 4 mhz.1 ++ le 4 (if st = 1 then mhz.2 else 0))

/-- DIE. -/
def State.capDie (s : State) (d : Nat) : Bytes :=
  let bad := (s.fuses.badRouters[d]?).getD []
  let st := if (s.fabric d).failed then (if (s.fabric d).passed then 1 else 2) else 0
  capRec 3 0x38 d (le 4 st ++ (List.range 8).flatMap (fun r => le 1 (s.darkOf (8 * d + r))) ++ le 4 bad.length ++
    ((List.range 16).flatMap (fun k => match bad[k]? with | some p => le 1 p.1 ++ le 1 p.2 | none => [0xFF, 0xFF])))

/-- CORE_SLICE. -/
def State.capCore (s : State) (n : Nat) : Bytes :=
  let c := ((s.coresOf n)[0]?).getD 0
  let xy := clusterXY (coreIsland c) (coreCluster c)
  capRec 4 0x10 n (le 1 (n / 64) ++ le 1 (n / 8 % 8) ++ le 1 (coreCluster c) ++ le 1 xy.1 ++ le 1 xy.2 ++
    le 1 (sliceCode (s.coreSlice n).st) ++ le 1 (s.coreSlice n).owner)

/-- MEM_SLICE. -/
def State.capMem (s : State) (n : Nat) : Bytes :=
  let e := s.memSlice n
  capRec 5 0x18 n (le 1 (sliceCode e.st) ++ le 1 e.owner ++ le 1 (e.serve.getD 0x7F) ++ le 1 (b2n (s.inSet n)) ++ zeros 4 ++
    le 8 (if s.isConf e.owner then 0x1F0000000 else 0x200000000))

/-- LINK; the peer is the package whose LINKS name the link. -/
def State.capLink (s : State) (l : Nat) : Bytes :=
  let k := s.stitch l
  let peer := match (List.range 15).find? (fun i => s.peerValid i && bit (s.peerLinks i) l) with | some i => s.fld (rPeer i) 0 16 | none => 0
  capRec 6 0x10 l (le 1 (if k.up then 1 else if k.idle then 2 else 0) ++ le 1 k.lanes ++ le 2 peer)

/-- The header of R499 over some records. -/
def State.capHeader (s : State) (recs : List Bytes) : Bytes :=
  le 4 0x4C444F47 ++ le 2 1 ++ le 2 s.tableState ++ le 4 s.capGen ++ le 4 (64 + (recs.map List.length).sum) ++ le 4 recs.length ++
    le 1 (b2n (!(s.fabric 0).failed) + 2 * b2n (!(s.fabric 1).failed)) ++ le 1 s.fuses.step ++ zeros 42

/-- The table of the physical function. -/
def State.capTable (s : State) : Bytes :=
  let recs := [capLimits] ++ (List.range 19).map s.capIsland ++ [0, 1].map s.capDie ++ (List.range 128).map s.capCore ++
    (List.range 64).map s.capMem ++ (List.range 12).map s.capLink
  s.capHeader recs ++ recs.flatten

/-- The table of virtual function `f` (R501): the islands its folio sees, the slices it owns or shares, no DIE record. -/
def State.capTableVf (s : State) (f : Nat) : Bytes :=
  let recs := [capLimits] ++ ((List.range 19).filter (s.sees f)).map s.capIsland ++ (s.folioCores f).map s.capCore ++
    (s.folioMems f).map s.capMem ++ (s.folioLinks f).map s.capLink
  s.capHeader recs ++ recs.flatten

/-- An entry of the forerunner window as function `fn` sees it (R502). -/
def State.foreSeen (s : State) (fn ctx : Nat) : Bytes :=
  let b := (tget ctx s.fore).getD (zeros 32)
  if fn = 0 ∨ fieldLe b 1 1 = fn then b else zeros 32

/-- A 4-byte word of the VF BAR0 of function `f` (R452, R297). -/
def State.vfWord (s : State) (f off : Nat) : Nat :=
  if off < 0x10 ∧ off % 4 = 0 then accDown off 4 (s.readReg (off / 8 * 8))
  else if 0x1000 ≤ off ∧ off < 0x1800 ∧ off % 4 = 0 then
    (let m := (off - 0x1000) / 0x20
     let c := off % 0x20 / 4
     if (s.memSlice m).st = .owned ∧ (s.memSlice m).owner = f then accDown (4 * c) 4 (s.readReg (rLatOwn m (c / 2))) else 0)
  else 0

/-- The identity of a function in configuration space (R450): vendor, device, class, revision, subsystem ids. -/
def State.identity (s : State) (fn : Nat) : List Nat :=
  [0x1E6C, if fn = 0 then 0x0840 else 0x0841, 0x120000, s.fuses.step, s.fuses.subVendor, s.fuses.subDevice]

end Sys2Proof.Machine
end

