-- ==== Sys2Proof/Safety.lean ====
section
/-! DEFINITION. Sys2Proof/Safety.lean: what the statements speak of: a command that is ready to act, what a command leaves alone, and the invariants of the state. -/

namespace Sys2Proof.Machine

/-- The running slot `k` of a core, `x`, issues the word `w` of major opcode `m`: nothing keeps it from issuing, the word is
legal, and its fetch succeeds and leaves `s1` (R195, R198). -/
def Ready (s : State) (core : Nat) (w : Word) (m : Nat) (k : Nat) (x : Slot) (s1 : State) : Prop :=
  s.issuing core = some (k, x) ∧ major w = m ∧ legal w = true ∧ s.fetch core k x = .ok s1

/-- The same for a word of the system class with function `fn` (R236). -/
def ReadySys (s : State) (core : Nat) (w : Word) (fn : Nat) (k : Nat) (x : Slot) (s1 : State) : Prop :=
  Ready s core w 0x3C k x s1 ∧ sfn w = fn

/-- The first command of a queue, `c` with the queue as `x`, starts as an opcode, and `s1` is the state with its queue wait
accounted (R480, R516). -/
def Taken (s : State) (queue op : Nat) (x : Queue) (c : Cmd) (s1 : State) : Prop :=
  s.front queue op = some (x, c) ∧ s.endQwait queue x = s1

/-- A command starts as an opcode and its 64-byte argument block `b` is read, which leaves `s2` (R483). -/
def TakenBlock (s : State) (queue op : Nat) (x : Queue) (c : Cmd) (s2 : State) (b : Bytes) : Prop :=
  s.front queue op = some (x, c) ∧ (s.endQwait queue x).hubRead 0 (c.arg 0x28 8) 64 = (some b, s2)

/-- A request stands in the input queue of its home `h` as `q`, which leaves `s1`: it has not been taken up, and its way to the home is open
(R309, R313). -/
def AtHome (s : State) (id h : Nat) (q : Req) (s1 : State) : Prop :=
  ∃ q0, s.req? id = some q0 ∧ s.unserved q0 = false ∧ s.homeOf q0.pa = some h ∧ s.unserviced h id q0 = true ∧ s.reaches h q0 = true ∧
    q = q0.arrive (s.homeClock h) ∧ s1 = s.setReq id q

/-- The arbiter chooses a request that stands at its home (R288), which leaves `s1`; it passes the home's checks, and the host need not be asked
first: a line of host memory is held well enough, a frame of device memory is not in host bias, or the host has answered (R377, R454, R461). -/
def Served (s : State) (id h : Nat) (q : Req) (s1 : State) : Prop :=
  (∃ s0, AtHome s id h q s0 ∧ s0.arbitrate h id q = some s1) ∧ s1.homeCheck q = none ∧ (h = 64 → s1.hostHas q = true) ∧
  (h ≠ 64 → q.bias ≠ 0 ∨ s1.hostBias q.pa = false)

/-- Only slot `k` of a core changes, and of the core beside it no more than its matrix queue, its memories and when it last
retired: every other core, every memory, register, table and counter of the part stands. -/
def OnlySlot (s t : State) (core k : Nat) : Prop :=
  t = { s with cores := t.cores } ∧ (∀ c, c ≠ core → t.core c = s.core c) ∧ ∀ j, j ≠ k → t.slot? core j = s.slot? core j

/-- Slot `k` of a core holds what `x` held but for the scalar register `d`, the program counter and the wait; s0 reads 0. -/
def SlotKeeps (t : State) (core k : Nat) (x : Slot) (d : Nat) : Prop :=
  ∃ y, t.slot? core k = some y ∧ y = { x with sregs := y.sregs, pc := y.pc, wait := .none } ∧ y.sr 0 = 0 ∧ ∀ r, r ≠ d → y.sr r = x.sr r

/-- Only slot `k` of a core changes, and of what it held, `x`, no more than the scalar register `d`, the program counter and the
wait; of the core beside it, only when it last retired. -/
def SlotFrame (s t : State) (core k : Nat) (x : Slot) (d : Nat) : Prop :=
  OnlySlot s t core k ∧ t.core core = { s.core core with slots := (t.core core).slots, lastRet := (t.core core).lastRet, retAt := (t.core core).retAt } ∧ SlotKeeps t core k x d

/-- The parity slice `q` of a coded set holds the XOR of the four data slices (R442). -/
def ParityOk (s : State) (a b c e q : Nat) : Prop :=
  ∀ o, o < 2 ^ 33 → mbyte s.hbm (slicePa q o) =
    mbyte s.hbm (slicePa a o) ^^^ mbyte s.hbm (slicePa b o) ^^^ mbyte s.hbm (slicePa c o) ^^^ mbyte s.hbm (slicePa e o)

/-- Memory stands: device memory, host memory, poisoned lines and tags. -/
def SameMemory (s t : State) : Prop := t.hbm = s.hbm ∧ t.host = s.host ∧ t.poison = s.poison ∧ t.tags = s.tags

/-- Only registers change, and whether the sweep under way is void. -/
def OnlyRegs (s t : State) : Prop := t = { s with regs := t.regs, cfg := { s.cfg with void := t.cfg.void } }

/-- The memories of the part are in canonical form. -/
def MemoryOk (s : State) : Prop := Memory.wf s.hbm = true ∧ Memory.wf s.host = true

/-- What no command changes or takes back: the fuses, the life cycle and key fuses, and FUSE_SVN, which only rises (R566, R607). -/
def FusesKept (s t : State) : Prop :=
  t.fuses = s.fuses ∧ t.clasp.lc = s.clasp.lc ∧ t.clasp.confEn = s.clasp.confEn ∧ s.clasp.fuseSvn ≤ t.clasp.fuseSvn

end Sys2Proof.Machine
end

