-- ==== Sys2Proof/Certificates/Slice0/Obligations.lean ====
section
/-! DEFINITION. Sys2Proof/Certificates/Slice0/Obligations.lean: the statements for the provers. -/

open Sys2Proof Sys2Proof.Machine

/-- A step runs the command at the front of the queue. First in, first out: the model's queue of waiting commands (log 1). -/
def Obligations.StepTakesTheFrontCommand : Prop :=
  ∀ (c : Instr) (rest : List Instr) (s : State), step { s with pending := c :: rest } = exec c { s with pending := rest }

/-- With no command waiting one hub cycle passes. The tick is the model's choice of what a step does on an empty queue (log 1); the rates are those of 01_the_part. -/
def Obligations.EmptyQueueLetsOneHubCyclePass : Prop :=
  ∀ (s : State), s.pending = [] → s.clasp.rails = true → s.link.atsWait = [] → (∀ m, (s.memSlice m).rotAt = none) →
    ∃ t, step s = .next t ∧ t.hubCount = s.hubCount + 1 ∧
      t = { s with hubCount := t.hubCount, regions := t.regions, fabrics := t.fabrics, net := t.net, reqs := t.reqs, cores := t.cores } ∧
      (∀ r, (t.req? r).map (fun (q : Req) => { q with arr := none }) = (s.req? r).map (fun (q : Req) => { q with arr := none })) ∧
      (∀ c, { t.core c with lastRet := 0 } = { s.core c with lastRet := 0 }) ∧
      (∀ d, (s.fabric d).running = true → (t.fabric d).count = (s.fabric d).count + 2) ∧
      (∀ i, (s.region i).powered = true → (s.region i).droop = false →
        1000 * (t.region i).count + (t.region i).frac = 1000 * (s.region i).count + (s.region i).frac + (s.region i).setMhz)

/-- Shifts, division corners and the absence of faults of scalar arithmetic. R200, all of it. -/
def Obligations.ScalarArithmeticNeverFaults : Prop :=
  (∀ fn a b, fn = 5 ∨ fn = 6 ∨ fn = 7 → aluOp fn a b = aluOp fn a (b &&& 63)) ∧
  (∀ a : Word, aluOp 11 a 0 = BitVec.allOnes 64 ∧ aluOp 12 a 0 = BitVec.allOnes 64 ∧ aluOp 13 a 0 = a ∧ aluOp 14 a 0 = a) ∧
  (aluOp 12 (BitVec.intMin 64) (BitVec.allOnes 64) = BitVec.intMin 64 ∧ aluOp 14 (BitVec.intMin 64) (BitVec.allOnes 64) = 0) ∧
  (∀ s s1 core w k x, Ready s core w 0x00 k x s1 → ∃ t y, exec (.alu core w) s = .next t ∧ t.slot? core k = some y ∧ y.fault = x.fault) ∧
  (∀ s s1 core w k x, Ready s core w 0x01 k x s1 → ∃ t y, exec (.alui core w) s = .next t ∧ t.slot? core k = some y ∧ y.fault = x.fault)

/-- ALU, ALUI, SRD, BR and JMP: what completes. The fields and results of the table of R199, the targets of R198. -/
def Obligations.ScalarResultsAndBranches : Prop :=
  (∀ s s1 core w k x, Ready s core w 0x00 k x s1 → exec (.alu core w) s =
    .next (s1.retire core k ((x.setSr (fd w 53 5) (aluOp (fd w 32 11) (x.sr (fd w 48 5)) (x.sr (fd w 43 5)))).advance))) ∧
  (∀ s s1 core w k x, Ready s core w 0x01 k x s1 → exec (.alui core w) s =
    .next (s1.retire core k ((x.setSr (fd w 53 5) (aluiOp (fd w 42 6) (x.sr (fd w 48 5)) (imm32 w))).advance))) ∧
  (∀ s s1 core w k x, Ready s core w 0x07 k x s1 → exec (.srd core w) s =
    .next (s1.retire core k ((x.setSr (fd w 53 5) (BitVec.ofNat 64 (s1.special core x (fd w 45 8)))).advance))) ∧
  (∀ s s1 core w k x, Ready s core w 0x05 k x s1 → brTaken (fd w 45 3) (x.sr (fd w 53 5)) (x.sr (fd w 48 5)) = false →
    exec (.br core w) s = .next (s1.retire core k x.advance)) ∧
  (∀ s s1 core w k x, Ready s core w 0x05 k x s1 → brTaken (fd w 45 3) (x.sr (fd w 53 5)) (x.sr (fd w 48 5)) = true →
    pcOk (x.pc + imm32 w) = true → exec (.br core w) s = .next (s1.retire core k { x with pc := x.pc + imm32 w })) ∧
  (∀ s s1 core w k x, Ready s core w 0x06 k x s1 → pcOk (jmpTarget w x) = true →
    exec (.jmp core w) s = .next (s1.retire core k { x.setSr (fd w 53 5) (x.pc + 8) with pc := jmpTarget w x })) ∧
  (∀ s s1 core w k x, Ready s core w 0x06 k x s1 → pcOk (jmpTarget w x) = false →
    exec (.jmp core w) s = .next (s1.faultAt core k x 0x0B (jmpTarget w x).toNat))

/-- LD and ST in scratchpad: result, range and alignment. R201 for SP = 1, with the checks of R159 and the order of R155. -/
def Obligations.ScratchpadLoadsAndStores : Prop :=
  (∀ s s1 core w k x, Ready s core w 0x02 k x s1 → lsAddr w x % lsSize w = 0 → fbit w 45 = true →
    x.spIn (lsAddr w x % 2 ^ 19) (lsSize w) = true → (s1.core core).spFree k x (lsAddr w x % 2 ^ 19) (lsSize w) false = true →
    exec (.ld core w) s = .next (s1.retire core k ((x.setSr (fd w 53 5)
      (extend ((s1.core core).spRead x (lsAddr w x % 2 ^ 19) (lsSize w)) (fbit w 43))).advance))) ∧
  (∀ s s1 core w k x, Ready s core w 0x03 k x s1 → lsAddr w x % lsSize w = 0 → fbit w 45 = true →
    x.spIn (lsAddr w x % 2 ^ 19) (lsSize w) = true → (s1.core core).spFree k x (lsAddr w x % 2 ^ 19) (lsSize w) true = true →
    exec (.st core w) s = .next ((s1.setCore core ((s1.core core).spWrite x (lsAddr w x % 2 ^ 19)
      (le (lsSize w) (x.sr (fd w 53 5)).toNat))).retire core k x.advance)) ∧
  (∀ s s1 core w k x, Ready s core w 0x02 k x s1 → lsAddr w x % lsSize w ≠ 0 → exec (.ld core w) s = .next (s1.faultAt core k x 0x0B (lsAddr w x))) ∧
  (∀ s s1 core w k x, Ready s core w 0x03 k x s1 → lsAddr w x % lsSize w ≠ 0 → exec (.st core w) s = .next (s1.faultAt core k x 0x0B (lsAddr w x))) ∧
  (∀ s s1 core w k x, Ready s core w 0x02 k x s1 → lsAddr w x % lsSize w = 0 → fbit w 45 = true →
    x.spIn (lsAddr w x % 2 ^ 19) (lsSize w) = false → exec (.ld core w) s = .next (s1.faultAt core k x 0x03 (lsAddr w x % 2 ^ 19))) ∧
  (∀ s s1 core w k x, Ready s core w 0x03 k x s1 → lsAddr w x % lsSize w = 0 → fbit w 45 = true →
    x.spIn (lsAddr w x % 2 ^ 19) (lsSize w) = false → exec (.st core w) s = .next (s1.faultAt core k x 0x03 (lsAddr w x % 2 ^ 19)))

/-- LD, ST and AMO on a line that the cluster cache holds, and the return of a request. Local and host addresses, coherent pages; misses go out as requests (their rows are the home's). -/
def Obligations.DeviceLoadsStoresAndAtomics : Prop :=
  (∀ s s1 s2 core w k x pa l, Ready s core w 0x02 k x s1 → lsAddr w x % lsSize w = 0 → fbit w 45 = false → x.wait = .none →
    s1.xlate core k x (lsAddr w x) 0 0 = .ok (pa, false, s2) → (s2.route pa = .hbm ∨ ∃ a, s2.route pa = .host a) →
    s2.storeBusy core k (lineOf pa) = false → s2.line? (s2.sliceOf core) (lineOf pa) = some l → (fbit w 44 = false ∨ l.st ≠ .s) →
    exec (.ld core w) s = .next ((s2.touch (s2.sliceOf core) (lineOf pa)).retire core k
      ((x.setSr (fd w 53 5) (extend (slice l.data (pa % 64) (lsSize w)) (fbit w 43))).advance))) ∧
  (∀ s s1 core w k x r q, Ready s core w 0x02 k x s1 → lsAddr w x % lsSize w = 0 → fbit w 45 = false → x.wait = .mem r →
    s1.req? r = some q → q.status = some .ok →
    exec (.ld core w) s = .next ((s1.dropReq r).retire core k ((x.setSr (fd w 53 5) (extend (q.rdata.take (lsSize w)) (fbit w 43))).advance))) ∧
  (∀ s s1 s2 core w k x pa l, Ready s core w 0x03 k x s1 → lsAddr w x % lsSize w = 0 → fbit w 45 = false →
    s1.xlate core k x (lsAddr w x) 1 0 = .ok (pa, false, s2) → (s2.route pa = .hbm ∨ ∃ a, s2.route pa = .host a) →
    s2.storeBusy core k (lineOf pa) = false → s2.lineBusy (s2.sliceOf core) (lineOf pa) = false →
    s2.line? (s2.sliceOf core) (lineOf pa) = some l → (l.st = .m ∨ l.st = .e) →
    exec (.st core w) s = .next (((s2.noteAway (s2.reqFor core x .putHome (.store core k) pa (lsSize w) (lsAddr w x))).writeHit (s2.sliceOf core) pa l
      (le (lsSize w) (x.sr (fd w 53 5)).toNat)).retire core k x.advance)) ∧
  (∀ s s1 s2 core w k x pa l, Ready s core w 0x04 k x s1 → (x.sr (fd w 48 5)).toNat % (if fbit w 35 then 8 else 4) = 0 → x.wait = .none →
    s1.xlate core k x (x.sr (fd w 48 5)).toNat 3 0 = .ok (pa, false, s2) → (s2.route pa = .hbm ∨ ∃ a, s2.route pa = .host a) →
    s2.storeBusy core k (lineOf pa) = false → s2.lineBusy (s2.sliceOf core) (lineOf pa) = false →
    s2.line? (s2.sliceOf core) (lineOf pa) = some l → (l.st = .m ∨ l.st = .e) →
    exec (.amo core w) s = .next (((s2.noteAway (s2.reqFor core x .putHome (.scalar core k) pa (if fbit w 35 then 8 else 4) (x.sr (fd w 48 5)).toNat)).writeHit
        (s2.sliceOf core) pa l (amoApply
        (amoData (fd w 36 2) (if fbit w 35 then 8 else 4) (x.sr (fd w 43 5)) (x.sr (fd w 38 5))) (slice l.data (pa % 64) (if fbit w 35 then 8 else 4)))).retire
      core k ((x.setSr (fd w 53 5) (extend (slice l.data (pa % 64) (if fbit w 35 then 8 else 4)) false)).advance))) ∧
  (∀ s s1 core w k x r q, Ready s core w 0x04 k x s1 → (x.sr (fd w 48 5)).toNat % (if fbit w 35 then 8 else 4) = 0 → x.wait = .mem r →
    s1.req? r = some q → q.status = some .ok →
    exec (.amo core w) s = .next ((s1.dropReq r).retire core k
      ((x.setSr (fd w 53 5) (extend (q.rdata.take (if fbit w 35 then 8 else 4)) false)).advance)))

/-- VOP and VLS: what completes. The four forms of VLS and every function of VOP. -/
def Obligations.VectorInstructionsComplete : Prop :=
  (∀ s s1 core w k x, Ready s core w 0x10 k x s1 → vopFmtOk w = true →
    exec (.vop core w) s = .next ((s1.retire core k (vopResult w x (s1.vopDraws w x)).1.advance).addPartials core k (vopResult w x (s1.vopDraws w x)).2)) ∧
  (∀ s s1 core w k x, Ready s core w 0x10 k x s1 → vopFmtOk w = false → exec (.vop core w) s = .next (s1.faultAt core k x 0x02 0)) ∧
  (∀ s s1 core w k x, Ready s core w 0x11 k x s1 → fd w 55 3 = 0 → vlsAddr w x % 2 ^ 19 % 32 = 0 → x.spIn (vlsAddr w x % 2 ^ 19) (64 * vlsLane w) = true →
    (s1.core core).spFree k x (vlsAddr w x % 2 ^ 19) (64 * vlsLane w) false = true →
    exec (.vls core w) s = .next (s1.retire core k
      (vlsIn x (fd w 51 4) (vlsLane w) ((s1.core core).spRead x (vlsAddr w x % 2 ^ 19) (64 * vlsLane w))).advance)) ∧
  (∀ s s1 core w k x, Ready s core w 0x11 k x s1 → fd w 55 3 = 1 → vlsAddr w x % 2 ^ 19 % 32 = 0 → x.spIn (vlsAddr w x % 2 ^ 19) (64 * vlsLane w) = true →
    (s1.core core).spFree k x (vlsAddr w x % 2 ^ 19) (64 * vlsLane w) true = true →
    exec (.vls core w) s = .next ((s1.setCore core ((s1.core core).spWrite x (vlsAddr w x % 2 ^ 19) (vlsOut x (fd w 51 4) (vlsLane w)))).retire core k x.advance)) ∧
  (∀ s s1 core w k x, Ready s core w 0x11 k x s1 → fd w 55 3 = 2 → fd w 23 4 = 0 → vlsAddr w x < 64 → x.accIn (fd w 21 2) = true →
    (s1.core core).accFree k (fd w 21 2) false = true →
    exec (.vls core w) s = .next (s1.retire core k ((List.range 64).foldl (fun (y : Slot) j =>
      y.setVr (fd w 51 4) j ((s1.core core).cell (x.accPhys (fd w 21 2)) (vlsAddr w x) j)) x).advance)) ∧
  (∀ s s1 core w k x, Ready s core w 0x11 k x s1 → fd w 55 3 = 3 → fd w 23 4 = 0 → vlsAddr w x < 64 → x.accIn (fd w 21 2) = true →
    (s1.core core).accFree k (fd w 21 2) true = true → ∃ t c1, exec (.vls core w) s = .next t ∧ t = (s1.setCore core c1).retire core k x.advance ∧
    ∀ j, j < 64 → c1.cell (x.accPhys (fd w 21 2)) (vlsAddr w x) j = x.vr (fd w 51 4) j)

/-- MMA, MMA_EXECUTE, RQ and RQ_EXECUTE: what completes. That the scalar pipe waits for an RQ is the model's reading (log 21). -/
def Obligations.MatrixInstructionsComplete : Prop :=
  (∀ s s1 core w k x, Ready s core w 0x20 k x s1 → mmaFault x w = none → (s1.core core).queued k < 2 →
    ∃ y, y = (if fbit w 49 then { x with set := s1.settings x.ctx } else x) ∧
    exec (.mma core w) s = .next ((s1.setCore core { s1.core core with mq := (s1.core core).mq ++ [mmaOp k y w s1.floorN] }).retire core k y.advance)) ∧
  (∀ s s1 core w k x cause, Ready s core w 0x20 k x s1 → mmaFault x w = some cause → exec (.mma core w) s = .next (s1.faultAt core k x cause 0)) ∧
  (∀ s s1 core w k x, Ready s core w 0x21 k x s1 → rqFault x w = none → (s1.core core).queued k < 2 →
    exec (.rq core w) s = .next ((s1.setCore core { s1.core core with mq := (s1.core core).mq ++ [rqOp k x w] }).setSlot core k
      { x.advance with wait := .rq })) ∧
  (∀ s core k x o, s.matHead core = some (k, x, o) → major o.w = 0x20 →
    ∃ t, exec (.mmaExecute core) s = .next t ∧ (t.core core).mq = dropOp k (s.core core).mq ∧
      (t.core core).acc = ((s.core core).mmaTile x o (x.accPhys o.tile) o.done o.blocks).acc ∧ SameMemory s t) ∧
  (∀ s core k x o, s.matHead core = some (k, x, o) → major o.w = 0x21 → (s.rqStart core k x o).1.missed = [] →
    ∃ t, exec (.rqExecute core) s = .next t ∧ (t.core core).mq = dropOp k (s.core core).mq ∧
      (t.core core).sp = ((s.core core).rqTile x (rqOut o.w o.sa o.st x.guard) (x.accPhys o.tile)
        (if (rqOut o.w o.sa o.st x.guard).sr then draws (match s.ctx? x.ctx with | some y => y.seed.toNat | none => 0)
          ((rqOut o.w o.sa o.st x.guard).stg.toNat % 2 ^ 32) 4096 else []) o.done 64).1.sp)

/-- TDMA, bursts, DWAIT, SLAUNCH, script entries and SREL: what completes. One clause for each row. -/
def Obligations.TileDmaAndScriptsComplete : Prop :=
  (∀ s s1 s2 core w k x map, Ready s core w 0x28 k x s1 → ((x.sr (fd w 53 5)).toNat + fd w 34 19) % 2 ^ 19 % 64 = 0 →
    x.spIn (((x.sr (fd w 53 5)).toNat + fd w 34 19) % 2 ^ 19) 64 = true →
    (s1.core core).spFree k x (((x.sr (fd w 53 5)).toNat + fd w 34 19) % 2 ^ 19) 64 false = true →
    ∀ b, b = (s1.core core).spRead x (((x.sr (fd w 53 5)).toNat + fd w 34 19) % 2 ^ 19) 64 → s1.tileFault x (tileOf b) b false = none →
    s1.xlateTile core x.ctx (fun _ => (tileOf b).acc) ((tileOf b).op == 3) x.dropped (tileOf b).pages [] 0 0 = (.ok map, s2) → s2.burstsOf core < 64 →
    exec (.tdma core w) s = .next ((s2.issueTile core k x (tileOf b) (tileOf b).group 2 x.pc map).retire core k { x.advance with dropped := [] })) ∧
  (∀ s req q c k g l, s.req? req = some q → q.issuer = .burst c k g l → q.status = some .ok → q.squashed = false → q.bad = false →
    q.dest ≠ [] → q.rect = none →
    exec (.tileDmaBurstComplete req) s = .next (((s.dropReq req).pump c).deliver q.ctx c k q.laddr (q.rdata.take q.len))) ∧
  (∀ s req q c k g l, s.req? req = some q → q.issuer = .burst c k g l → q.status = some .ok → q.squashed = false → q.bad = false →
    q.dest ≠ [] → q.rect.isSome = true →
    exec (.tileDmaBurstComplete req) s = .next (foldS q.multi ((s.dropReq req).pump c) (fun st d => st.deliver q.ctx d.1 d.2 q.laddr (q.rdata.take q.len)))) ∧
  (∀ s s1 core w k x, Ready s core w 0x29 k x s1 → s1.groupBusy core k (fd w 50 8) = false →
    exec (.dwait core w) s = .next (s1.retire core k x.advance)) ∧
  (∀ s s1 core w k x, Ready s core w 0x2A k x s1 → (x.sr (fd w 47 5)).toNat % 2 ^ 19 % 64 = 0 →
    x.spIn ((x.sr (fd w 47 5)).toNat % 2 ^ 19) 128 = true → (x.lane (fd w 57 1)).walking = false →
    (s1.core core).spFree k x ((x.sr (fd w 47 5)).toNat % 2 ^ 19) 128 false = true →
    exec (.slaunch core w) s = .next (s1.retire core k (x.setLane (fd w 57 1)
      { walking := true, scriptVa := (x.sr (fd w 52 5)).toNat, bases := (List.range 16).map (fun i => fieldLe ((s1.core core).spRead x ((x.sr (fd w 47 5)).toNat % 2 ^ 19) 128) (8 * i) 8), depth := fd w 43 4 + 1, group := fd w 40 3, pc := x.pc }).advance)) ∧
  (∀ s s1 s2 core slot lane x h b, s.slot? core slot = some x → (x.lane lane).walking = true → (x.lane lane).faulted = false →
    (x.lane lane).unreleased < (x.lane lane).depth → s.ctxStopped x.ctx = false → x.fault = none → x.wait ≠ .halting → s.burstsOf core < 64 →
    s.scriptRead core slot x lane (x.lane lane).scriptVa = .ok (h, s1) → (x.lane lane).next < fieldLe h 0 4 →
    s1.scriptRead core slot x lane ((x.lane lane).scriptVa + 64 + 64 * (x.lane lane).next) = .ok (b, s2) →
    exec (.scriptEntryIssue core slot lane) s = .next (s2.issueEntry core slot x lane (fieldLe h 0 4) (bit (fieldLe h 5 1) 0) b)) ∧
  (∀ s s1 core w k x, Ready s core w 0x2B k x s1 →
    exec (.srel core w) s = .next (s1.retire core k (x.setLane (fd w 57 1) ((x.lane (fd w 57 1)).released (fd w 53 4 + 1))).advance))

/-- FSIG and FENCE_OFFER complete: the post of an offer, its wait, and what it leaves in a word of package memory. The three cases of the value, the post and the wait; the word of a peer goes out as a packet. -/
def Obligations.OfferedValuesFollowModuloOrder : Prop :=
  (∀ o v : BitVec 32, (1 ≤ (v - o).toNat ∧ (v - o).toNat < 2 ^ 31 → offered o v = (v, false)) ∧ (v = o → offered o v = (o, false)) ∧
    (2 ^ 31 ≤ (v - o).toNat → offered o v = (o, true))) ∧
  (∀ s s1 s2 core w k x pa nc, Ready s core w 0x30 k x s1 → (x.sr (fd w 53 5)).toNat % 8 = 0 →
    s1.xlate core k x (x.sr (fd w 53 5)).toNat 3 0 = .ok (pa, nc, s2) →
    exec (.fsig core w) s = .next ((s2.postOffer { va := (x.sr (fd w 53 5)).toNat, pa, value := (x.sr (fd w 48 5)).setWidth 32, scope := fd w 46 2, ctx := x.ctx, folio := s2.ctxFolio x.ctx, epoch := (s2.folio (s2.ctxFolio x.ctx)).epoch, issuer := .fwait core k, qos := x.qos, groups := fd w 38 8, after := (s2.storesOf core k).filterMap (fun r => if unseen (fd w 46 2) r.2 then some r.1 else none), pc := x.pc }).retire core k x.advance)) ∧
  (∀ s offer o, tget offer s.offers = some o → s.offerGo offer o = false → exec (.fenceOffer offer) s = .next s) ∧
  (∀ s offer o, tget offer s.offers = some o → s.offerGo offer o = true → s.route o.pa = .hbm →
    exec (.fenceOffer offer) s = .next ((s.offerAt o.ctx o.folio o.epoch o.pa o.value).2.2.offerEnd offer o
      (s.offerAt o.ctx o.folio o.epoch o.pa o.value).1 (s.offerAt o.ctx o.folio o.epoch o.pa o.value).2.1)) ∧
  (∀ s offer o, tget offer s.offers = some o → s.offerGo offer o = true → (∃ a, s.route o.pa = .host a) → s.offerSent offer = false →
    exec (.fenceOffer offer) s = .next (s.offerReq offer o 4 o.amo)) ∧
  (∀ (s : State) offer o stale, s.offerEnd offer o .ok stale =
    if stale then ({ s with offers := tdel offer s.offers }).addStale o.ctx else { s with offers := tdel offer s.offers }) ∧
  (∀ (s : State) ctx y, s.ctx? ctx = some y → (s.addStale ctx).ctx? ctx = some { y with stale := min (2 ^ 32 - 1) (y.stale + 1) })

/-- FWAIT, FENCE and BAR: what completes. R228 to R231 and R233; a wait that is not satisfied has its own rows. -/
def Obligations.FenceWaitsComplete : Prop :=
  (∀ v t : BitVec 32, satisfies v t = true ↔ (v - t).toNat < 2 ^ 31) ∧
  (∀ s s1 s2 s3 core w k x pa nc b, Ready s core w 0x31 k x s1 → (x.sr (fd w 48 5)).toNat % 8 = 0 →
    (∀ r, x.wait ≠ .mem r) → s1.xlate core k x (x.sr (fd w 48 5)).toNat 0 0 = .ok (pa, nc, s2) → s2.storeBusy core k (lineOf pa) = false → s2.route pa = .hbm →
    s2.readLine x.ctx (s2.ctxFolio x.ctx) pa 4 = (.ok, b, s3) → satisfies (BitVec.ofNat 32 (unle (b.take 4))) ((x.sr (fd w 43 5)).setWidth 32) = true →
    exec (.fwait core w) s = .next (s3.retire core k (x.setSr (fd w 53 5) 0).advance)) ∧
  (∀ s core slot x f t, s.live? core slot = some x → x.wait = .fence f → f.deadline = some t → t ≤ s.hubCount →
    s.fenceMet f = false → exec (.fwaitTimeout core slot) s = .next (s.fwaitDone core slot 1)) ∧
  (∀ s core slot x f, s.live? core slot = some x → x.wait = .fence f → s.fenceMet f = true → exec (.fwaitPoll core slot) s = .next (s.fwaitDone core slot 0)) ∧
  (∀ s s1 core slot x f b, s.live? core slot = some x → x.wait = .fence f → s.fenceMet f = false → f.ask = none → f.poll = true → f.last + 1000 ≤ s.hubCount →
    s.route f.pa = .hbm → s.readLine x.ctx (s.ctxFolio x.ctx) f.pa 4 = (.ok, b, s1) → satisfies (BitVec.ofNat 32 (unle b)) f.target = false →
    exec (.fwaitPoll core slot) s = .next (s1.pollAgain core slot { f with last := s.hubCount })) ∧
  (∀ s core slot x f r q, s.live? core slot = some x → x.wait = .fence f → s.fenceMet f = false → f.ask = some r → s.req? r = some q → q.status = some .ok →
    satisfies (BitVec.ofNat 32 (unle (q.rdata.take 4))) f.target = true →
    exec (.fwaitPoll core slot) s = .next (((s.dropReq r).pollAgain core slot { f with ask := none }).fenceHit core slot)) ∧
  (∀ s s1 core w k x, Ready s core w 0x32 k x s1 →
    (fbit w 55 = false ∨ s1.released core k (fd w 46 8) (s1.unseenStores core k (fd w 56 2)) = true) →
    exec (.fence core w) s = .next (s1.retire core k x.advance)) ∧
  (∀ s s1 core w k x, Ready s core w 0x33 k x s1 → fd w 56 2 = 0 → (fd w 50 2 = 2 ∨ (fd w 50 2 = 1 ∧ s1.spansPackages x = false)) →
    exec (.bar core w) s = .next ((s1.barArrive core k x (fd w 52 4) (fd w 50 2) (fd w 42 8)).retire core k
      { x with barPhase := tput (fd w 52 4) (x.phaseOf (fd w 52 4) + 1) x.barPhase }.advance)) ∧
  (∀ s msg m, tget msg s.bars = some m → s.released m.core m.slot m.groups m.after = true → (∀ x, s.slot? m.core m.slot = some x → s.spansPackages x = false) →
    exec (.barrierArrival msg) s = .next (({ s with bars := tdel msg s.bars }).arrive m.ctx m.id m.rank m.phase))

/-- HALT, YIELD, SEG, GRET, TRAP, BKPT, CINV, CWB and store completions: what completes. One clause for each row; TRAP's own effect is its fault. -/
def Obligations.SystemClassCompletes : Prop :=
  (∀ s s1 core w k x, ReadySys s core w 0 k x s1 → s1.haltDone core k x = true → exec (.halt core w) s =
    .next (((s1.charge core).modSlot core k (fun y => { y with halted := true, wait := .none, lanes := [{}, {}] })).choose core (some k))) ∧
  (∀ s s1 core w k x, ReadySys s core w 1 k x s1 → exec (.yield core w) s = .next ((s1.retire core k x.advance).choose core (some k))) ∧
  (∀ s s1 core w k x, ReadySys s core w 2 k x s1 → exec (.seg core w) s = .next (s1.retire core k { x.advance with seg := fd w 0 16 })) ∧
  (∀ s s1 core w k x g, ReadySys s core w 3 k x s1 → x.guard = some g → ∃ t y, exec (.gret core w) s = .next t ∧ t.slot? core k = some y ∧
    y.pc = g.origPc + 8 ∧ y.guard = none) ∧
  (∀ s s1 core w k x, ReadySys s core w 4 k x s1 → exec (.trap core w) s = .next (s1.faultSlot core k { cause := 0x0C, pc := x.pc, info := fd w 0 32 })) ∧
  (∀ s s1 core w k x, ReadySys s core w 5 k x s1 → s1.bkptStops core (s1.ctxFolio x.ctx) = true → exec (.bkpt core w) s =
    .next ((s1.retire core k x.advance).modCtx x.ctx (fun y => { y with bkpt := true }))) ∧
  (∀ s s1 core w k x, ReadySys s core w 5 k x s1 → s1.bkptStops core (s1.ctxFolio x.ctx) = false → exec (.bkpt core w) s = .next (s1.retire core k x.advance)) ∧
  (∀ s s1 core w k x, ReadySys s core w 6 k x s1 →
    exec (.cinv core w) s = .next (s1.cacheOp core k x (x.sr (fd w 47 5)).toNat (x.sr (fd w 42 5)).toNat false)) ∧
  (∀ s s1 core w k x, ReadySys s core w 7 k x s1 →
    exec (.cwb core w) s = .next (s1.cacheOp core k x (x.sr (fd w 47 5)).toNat (x.sr (fd w 42 5)).toNat true)) ∧
  (∀ (s : State) core k x va n keep, s.storesOf core k = [] → (s.cache (s.sliceOf core)).wb = [] → s.cacheOp core k x va n keep =
    (foldS (((s.cache (s.sliceOf core)).lines.map Prod.fst).filter (inRanges (s.physRanges core x.ctx va n))) s
      (fun st l => st.cleanLine (s.sliceOf core) l keep)).retire core k x.advance) ∧
  (∀ s req q c k, s.req? req = some q → q.issuer = .store c k → q.status = some .ok → exec (.storeCompletion req) s = .next (s.dropReq req))

/-- SIFT, its acceptance, its start and its end: what completes. One clause for each row. -/
def Obligations.SiftRequestsComplete : Prop :=
  (∀ s s1 s2 core w k x map u b t, Ready s core w 0x38 k x s1 → ((x.sr (fd w 53 5)).toNat + fd w 34 19) % 2 ^ 19 % 64 = 0 →
    x.spIn (((x.sr (fd w 53 5)).toNat + fd w 34 19) % 2 ^ 19) 64 = true → x.sifts < 8 →
    (s1.core core).spFree k x (((x.sr (fd w 53 5)).toNat + fd w 34 19) % 2 ^ 19) 64 false = true →
    b = (s1.core core).spRead x (((x.sr (fd w 53 5)).toNat + fd w 34 19) % 2 ^ 19) 64 → t = siftOf b → t.ok b x = true →
    (s1.core core).spFree k x t.qaddr t.qBytes false = true → (s1.core core).spFree k x t.res t.resBytes false = true →
    s1.xlateTile core x.ctx (fun va => if va = t.fence then 3 else 0) false [] (withFence t.fence (pagesOf t.ranges)) [] 0 0 = (.ok map, s2) →
    oneSlice (baseMap (pagesOf t.ranges) map) = true →
    s2.server ((((tget (t.rows / 2 ^ 25) (baseMap (pagesOf t.ranges) map)).getD 0) + t.rows % 2 ^ 25) / 2 ^ 33) = some u →
    ∃ q : SiftReq, q.core = core ∧ q.slot = k ∧ q.ctx = x.ctx ∧ q.desc = b ∧ q.unit = u ∧ q.accepted = false ∧
      q.qvec = (s2.core core).spRead x t.qaddr t.qBytes ∧ q.folio = s2.ctxFolio x.ctx ∧ q.epoch = (s2.folio (s2.ctxFolio x.ctx)).epoch ∧ q.qos = x.qos ∧
      exec (.sift core w) s = .next (({ s2 with sifts := tput s2.nextId q s2.sifts, nextId := s2.nextId + 1 }).retire core k { x.advance with sifts := x.sifts + 1 })) ∧
  (∀ s sift q, tget sift s.sifts = some q → q.accepted = false → (s.unit q.unit).queue.length < 16 →
    s.wayOpen (s.coreNode q.core) (homeEdge q.unit) = true →
    ∃ t, exec (.siftAccept sift) s = .next t ∧ (t.unit q.unit).queue = (s.unit q.unit).queue ++ [sift] ∧ (t.unit q.unit).running = (s.unit q.unit).running ∧
      tget sift t.sifts = some { q with accepted := true, born := s.hubCount }) ∧
  (∀ s unit i, (s.unit unit).running = none → s.siftNext (s.unit unit).queue = some i →
    ∃ t, exec (.siftStart unit) s = .next t ∧ (t.unit unit).running = some i ∧ (t.unit unit).queue = sdel i (s.unit unit).queue ∧ t.sifts = s.sifts) ∧
  (∀ s unit id q o, (s.unit unit).running = some id → tget id s.sifts = some q → q.lost = false → s.siftBad (siftOf q.desc) q = none →
    o = siftResult (siftOf q.desc) q (s.siftRows (siftOf q.desc) q (siftOf q.desc).n) →
    exec (.siftComplete unit) s = .next (s.siftEnd id q 0 (siftOf q.desc).n o.1 o.2.1 o.2.2.1 o.2.2.2 0)) ∧
  (∀ s unit id q, (s.unit unit).running = some id → tget id s.sifts = some q → q.lost = true →
    exec (.siftComplete unit) s = .next (s.siftFail id q 0x11 0 0))

/-- CTX_FAULT, FAULT_HOLD_EXPIRY, SAFEGUARD_UPDATE_COMPLETE: what completes. R593 and the count of R131; the record of a crossed threshold is R132's. -/
def Obligations.ContextFaultsAndSafeguardCounts : Prop :=
  (∀ (s : State) core slot x f s2, s.slot? core slot = some x → x.fault = some f → s.faultWaits core slot x = false →
    s2 = (((((s.matDrain core slot (s.core core).mq.length).chargeAll x.ctx).ctxFaultRecord x.ctx (coreIsland core) (some core) f).modSlot core slot (fun y => { y with fault := none })).modCtx x.ctx
      (fun y => { y with held := match y.held with | some h => some h | none => some s.hubCount })) →
    ((s.core core).running ≠ some slot → exec (.ctxFault core slot) s = .next s2) ∧
    ((s.core core).running = some slot → exec (.ctxFault core slot) s = .next (s2.choose core (some slot)))) ∧
  (∀ s ctx y h, s.ctx? ctx = some y → y.held = some h → h + 1000 * s.holdUs ≤ s.hubCount → exec (.faultHoldExpiry ctx) s = .next (s.ctxResetFree ctx 0x10)) ∧
  (∀ s ctx y h, s.ctx? ctx = some y → y.held = some h → s.hubCount < h + 1000 * s.holdUs → exec (.faultHoldExpiry ctx) s = .next s) ∧
  (∀ s upd u a b s1 s2, tget upd s.updates = some u → u.off < 0x78 → u.kind = none →
    ({ s with updates := tdel upd s.updates }).peek u.core u.ctx (u.base + u.off) 3 = some a →
    ({ s with updates := tdel upd s.updates }).readLine u.ctx (({ s with updates := tdel upd s.updates }).ctxFolio u.ctx) a 8 = (.ok, b, s1) →
    s1.writeLine u.ctx (s1.ctxFolio u.ctx) a (le 8 (unle b + u.inc)) = (.ok, s2) →
    exec (.safeguardUpdateComplete upd) s = .next s2)

/-- Switches, quantum, waits, real-time readiness and misses: what completes. The effects of R511 and R523; a switch charges its cycles (R515). -/
def Obligations.CoresChooseAndSwitch : Prop :=
  (∀ s core k, s.nextSlot core = some k → (s.core core).running ≠ some k → (∃ y, s.slot? core k = some y) →
    exec (.contextSwitch core) s = .next (s.switchTo core k)) ∧
  (∀ (s : State) core k y, (((s.stopUnits core).charge core).countPreempt core).slot? core k = some y → ((s.switchTo core k).core core).running = some k ∧
    ((s.switchTo core k).core core).choice = none) ∧
  (∀ (s : State) core k x j y, (s.charge core).runningSlot core = some (k, x) → s.quantum ≤ x.ran → (s.charge core).rtReady core = false →
    (s.charge core).lowestVt core k = some (j, y) → y.vt < x.vt → ∃ t, exec (.quantumExpiry core) s = .next t ∧ (t.core core).choice = some j ∧
    (t.core core).running = ((s.charge core).core core).running) ∧
  (∀ s core k x, s.runningSlot core = some (k, x) → s.ready core k x = false → (s.core core).retAt + s.waitSw ≤ s.count (coreIsland core) → exec (.waitSwExpiry core) s = .next (s.choose core (some k))) ∧
  (∀ s core slot x d, s.slot? core slot = some x → s.deadlineOf x.ctx = some d → s.ready core slot x = true → s.runningSlot core = none →
    s.pick core none = some slot → ∃ t, exec (.rtContextReady core slot) s = .next t ∧ (t.core core).choice = some slot ∧ (t.core core).running = (s.core core).running) ∧
  (∀ s core slot x d k r, s.slot? core slot = some x → s.deadlineOf x.ctx = some d → s.ready core slot x = true → s.runningSlot core = some (k, r) → k ≠ slot →
    (∀ e, s.deadlineOf r.ctx = some e → d < e) → s.pick core none = some slot → ∃ t, exec (.rtContextReady core slot) s = .next t ∧
    (t.core core).choice = some slot ∧ (t.core core).running = (s.core core).running) ∧
  (∀ s ctx y a d, s.ctx? ctx = some y → y.act = some a → a.deadline = some d → d ≤ s.hubCount → a.missed = false →
    (s.slotsOf ctx).all (fun x => x.2.2.halted) = false → ∃ t z b, exec (.rtMiss ctx) s = .next t ∧ t.ctx? ctx = some z ∧ z.act = some b ∧ b.missed = true ∧ z.acct.rtMiss = y.acct.rtMiss + 1)

/-- SHARE_SET, ACCT_READ, RT_ADMIT and RT_RELEASE: what completes. Arguments as R504 places them. -/
def Obligations.SchedulingCommandsComplete : Prop :=
  (∀ s s1 q x c y, Taken s q 0x50 x c s1 → c.arg 0x28 2 ≤ 4095 → s1.ctx? (c.arg 0x28 2) = some y → exec (.shareSet q) s =
    .next (((s1.chargeAll (c.arg 0x28 2)).modCtx (c.arg 0x28 2) (fun z => { z with share := c.arg 0x2C 4 })).cmdDone q 0 0)) ∧
  (∀ s s1 s3 q x c y, Taken s q 0x51 x c s1 → (x.type = .mgmt ∨ c.arg 0x28 2 = x.ctx) → c.arg 0x28 2 ≤ 4095 → (s1.ctx? (c.arg 0x28 2)).isSome = true →
    (s1.chargeAll (c.arg 0x28 2)).ctx? (c.arg 0x28 2) = some y →
    (s1.chargeAll (c.arg 0x28 2)).hubWrite x.ctx (c.arg 0x30 8) (acctRecord (c.arg 0x28 2) (s1.chargeAll (c.arg 0x28 2)).hubCount y) = (true, s3) →
    exec (.acctRead q) s = .next (s3.cmdDone q 0 0)) ∧
  (∀ s s2 q x c b y p, TakenBlock s q 0x52 x c s2 b → fieldLe b 3 1 = 0 → fieldLe b 0x0C 4 = 0 → fieldLe b 0x18 40 = 0 → fieldLe b 0 2 ≤ 4095 →
    s2.ctx? (fieldLe b 0 2) = some y → y.rt = true → fieldLe b 2 1 ≤ 63 → tget (fieldLe b 2 1) y.programs = some p → 0 < fieldLe b 6 2 → fieldLe b 6 2 ≤ 4096 →
    10 ≤ fieldLe b 8 4 → fieldLe b 8 4 ≤ 1000000 →
    exec (.rtAdmit q) s = .next (s2.takeIn q (fieldLe b 0 2) p (fieldLe b 4 2) (fieldLe b 6 2) (fieldLe b 8 4) (fieldLe b 0x10 8))) ∧
  (∀ s s1 q x c y, Taken s q 0x53 x c s1 → c.arg 0x28 2 ≤ 4095 → s1.ctx? (c.arg 0x28 2) = some y → exec (.rtRelease q) s =
    .next ((s1.modCtx (c.arg 0x28 2) (fun z => { z with admitted := none })).cmdDone q 0 0)) ∧
  (∀ s s1 q x c, (Taken s q 0x50 x c s1 → c.arg 0x28 2 ≤ 4095 → s1.ctx? (c.arg 0x28 2) = none → exec (.shareSet q) s = .next (s1.cmdDone q 4 0)) ∧
    (Taken s q 0x53 x c s1 → c.arg 0x28 2 ≤ 4095 → s1.ctx? (c.arg 0x28 2) = none → exec (.rtRelease q) s = .next (s1.cmdDone q 4 0)))

/-- Doorbells, fetches, waits and completions of queues: what completes. One clause for each row; the queue's record afterwards says what was taken. -/
def Obligations.DoorbellsAndFetches : Prop :=
  (∀ s q x line, s.queue? q = some x → x.watched = true → s.link.up = true → s.link.cxl = true → ∃ t, exec (.doorbellSnoop q line) s = .next t ∧ t.queue? q = some { x with snooped := true } ∧
    t = ((s.dropLine (lineOf x.dbPa)).hostWrite x.dbPa (fit 64 line)).setQueue q { x with snooped := true }) ∧
  (∀ s q x, s.queue? q = some x → x.watched = true → x.snooped = true → s.link.up = true → s.link.cxl = true → ∃ t y, exec (.doorbellRefetch q) s = .next t ∧ t.queue? q = some y ∧ y.snooped = false ∧
    y.tail = fieldLe (s.curLine x.dbPa) 0 4 ∧ y.xseqNew = fieldLe (s.curLine x.dbPa) 4 1 ∧ y.head = x.head ∧ y.cmds = x.cmds) ∧
  (∀ s q x, s.queue? q = some x → x.watched = false → x.dying = false → s.link.up = true → s.link.cxl = true → ∃ t y, exec (.doorbellPoll q) s = .next t ∧ t.queue? q = some y ∧
    y.tail = fieldLe (s.curLine x.dbPa) 0 4 ∧ y.xseqNew = fieldLe (s.curLine x.dbPa) 4 1 ∧ y.head = x.head ∧ y.cmds = x.cmds) ∧
  (∀ s q x, s.queue? q = some x → x.stopped = false → x.dying = false → s.link.up = true → s.link.cxl = true → x.tail ≠ x.head → x.head < 2 ^ 32 → x.tail < 2 ^ 32 → x.xseqNew = x.xseq →
    (s.cyclic.mode = false ∨ q = 0) → (x.tail + 2 ^ 32 - x.head) % 2 ^ 32 ≤ 2 ^ x.log →
    exec (.commandFetch q) s = .next (((s.setQueue q { x with head := x.tail }).headWrite x (le 4 x.tail ++ le 1 x.xseq ++ zeros 3)).enqueue q
      (s.ringCmds x ((x.tail + 2 ^ 32 - x.head) % 2 ^ 32)))) ∧
  (∀ s q x, s.queue? q = some x → x.stopped = false → x.dying = false → s.link.up = true → s.link.cxl = true → (s.cyclic.mode = false ∨ q = 0) → 2 ^ x.log < (x.tail + 2 ^ 32 - x.head) % 2 ^ 32 →
    exec (.commandFetch q) s = .next (s.queueStop q x)) ∧
  (∀ s q x c rest a nc s1 b s2, s.queue? q = some x → x.phase = .waiting → x.cmds = c :: rest → s.cmdHeld x c = false → s.hubXlate x.ctx (fieldLe c.bytes 8 8) 0 = (.pa a nc, s1) →
    s1.readLine x.ctx (s.queueFolio x) a 4 = (.ok, b, s2) → satisfies (BitVec.ofNat 32 (unle b)) (BitVec.ofNat 32 (fieldLe c.bytes 0x10 4)) = true →
    exec (.commandWaitSatisfied q) s = .next ((s2.dropWatch (.command q)).modQueue q (fun y => { y with phase := .waitDone, qwaitFrom := s.hubCount }))) ∧
  (∀ s q x c rest st dt, s.queue? q = some x → x.phase = .done st dt → x.cmds = c :: rest →
    exec (.commandComplete q) s = .next ((s.endCmd q x c x.refs st dt).popCmd q)) ∧
  (∀ s q x c rest p, s.queue? q = some x → x.phase = .running p → x.cmds = c :: rest → s.runningDone q x c = none → exec (.commandComplete q) s = .next s)

/-- REF_COUNT_SUBTRACT: what it does. The queue of a command that ran beside the management queue is reported as 0 (log 122). -/
def Obligations.ReferenceCountsFall : Prop :=
  (∀ s sub r, tget sub s.refSubs = some r → (s.offers.any (fun o => o.2.issuer == .command r.queue && decide (o.1 < r.after))) = false → s.link.up = true → s.link.cxl = true → s.countAt r.pa ≠ 1 →
    exec (.refCountSubtract sub false) s = .next (({ s with refSubs := tdel sub s.refSubs }).countAdd r.pa (2 ^ 64 - 1))) ∧
  (∀ s sub r, tget sub s.refSubs = some r → (s.offers.any (fun o => o.2.issuer == .command r.queue && decide (o.1 < r.after))) = false → s.link.up = true → s.link.cxl = true → s.countAt r.pa = 1 →
    exec (.refCountSubtract sub false) s = .next ((({ s with refSubs := tdel sub s.refSubs }).countAdd r.pa (2 ^ 64 - 1)).ringPut r.evring
      (s.record tyRefRelease 0x3F 0 0xFFFF 18 (le 8 r.count ++ s.curBytes (r.pa + 8) 8 ++ le 2 (if besideBase ≤ r.queue then 0 else r.queue) ++ le 1 r.opcode)))) ∧
  (∀ s sub r e, tget sub s.refSubs = some r → (s.offers.any (fun o => o.2.issuer == .command r.queue && decide (o.1 < r.after))) = false →
    (e = true ∨ s.link.up = false ∨ s.link.cxl = false) → exec (.refCountSubtract sub e) s = .next (({ s with refSubs := tdel sub s.refSubs }).ringPut r.evring
      (s.record tyRefRelease 0x3F 0 0xFFFF 18 (le 8 r.count ++ s.curBytes (r.pa + 8) 8 ++ le 2 (if besideBase ≤ r.queue then 0 else r.queue) ++ le 1 0xFF)))) ∧
  (∀ s sub r, tget sub s.refSubs = some r → (s.offers.any (fun o => o.2.issuer == .command r.queue && decide (o.1 < r.after))) = true →
    ∀ e, exec (.refCountSubtract sub e) s = .next s)

/-- NOP, SIGNAL, SIEVE_FLUSH, SAFE_SET, RESEED, PROG_LOAD, PROG_UNLOAD: what completes. The effect of each command on the context of its queue. -/
def Obligations.ProgramsAndSettingsCommands : Prop :=
  (∀ s s1 q x c, Taken s q 0x00 x c s1 → exec (.nop q) s = .next (s1.cmdDone q 0 0)) ∧
  (∀ s s1 q x c, Taken s q 0x01 x c s1 → exec (.signal q) s = .next (s1.cmdDone q 0 0)) ∧
  (∀ s s1 q x c, Taken s q 0x04 x c s1 → exec (.sieveFlush q) s =
    .next ((foldS (s1.slotsOf x.ctx) s1 (fun st y => st.flushSlot y.1 y.2.1)).setPhase q (.running 0))) ∧
  (∀ s s1 s2 q x c y b, Taken s q 0x05 x c s1 → x.ctx ≠ 0 → s1.ctx? x.ctx = some y → s1.hubRead x.ctx y.safeVa 64 = (some b, s2) →
    exec (.safeSet q) s = .next ((s2.modCtx x.ctx (fun z => { z with set := settingsOf b })).cmdDone q 0 0)) ∧
  (∀ s s1 q x c y, Taken s q 0x06 x c s1 → s1.ctx? x.ctx = some y → ∃ t, exec (.reseed q) s = .next t ∧
    t.ctx? x.ctx = some { y with seed := BitVec.ofNat 64 (c.arg 0x28 8) }) ∧
  (∀ s s1 s2 s3 q x c h b, Taken s q 0x07 x c s1 → c.arg 0x28 2 ≤ 63 → s1.program? x.ctx (c.arg 0x28 2) = none → s1.hubRead x.ctx (c.arg 0x30 8) 128 = (some h, s2) →
    qHeaderOk h s2.hubRev = true → s2.hubRead x.ctx (c.arg 0x30 8) (qTotal h) = (some b, s3) → quireOk b s3.hubRev = true →
    (s3.isConf (s1.ctxFolio x.ctx) = true → signatureOk b (s3.folio (s1.ctxFolio x.ctx)).qkeys = true) →
    exec (.progLoad q) s = .next ((s3.modCtx x.ctx (fun y => { y with programs := tput (c.arg 0x28 2) { va := c.arg 0x30 8, image := b } y.programs })).cmdDone q 0 0)) ∧
  (∀ s s1 q x c, Taken s q 0x07 x c s1 → c.arg 0x28 2 ≤ 63 → (s1.program? x.ctx (c.arg 0x28 2)).isSome = true → exec (.progLoad q) s = .next (s1.cmdDone q 4 0)) ∧
  (∀ s s1 q x c y, Taken s q 0x08 x c s1 → c.arg 0x28 2 ≤ 63 → s1.ctx? x.ctx = some y → (tget (c.arg 0x28 2) y.programs).isSome = true →
    (∀ a, y.act = some a → a.prog ≠ c.arg 0x28 2) → ∃ t z, exec (.progUnload q) s = .next t ∧ t.ctx? x.ctx = some z ∧
    tget (c.arg 0x28 2) z.programs = none ∧ ∀ p, p ≠ c.arg 0x28 2 → tget p z.programs = tget p y.programs) ∧
  (∀ s s1 q x c y a, Taken s q 0x08 x c s1 → c.arg 0x28 2 ≤ 63 → s1.ctx? x.ctx = some y → (tget (c.arg 0x28 2) y.programs).isSome = true →
    y.act = some a → a.prog = c.arg 0x28 2 → exec (.progUnload q) s = .next (s1.cmdDone q 5 0)) ∧
  (∀ s s1 q x c, Taken s q 0x05 x c s1 → x.ctx = 0 → exec (.safeSet q) s = .next (s1.cmdDone q 0 0)) ∧
  (∀ s s1 q x c, Taken s q 0x08 x c s1 → c.arg 0x28 2 ≤ 63 → s1.program? x.ctx (c.arg 0x28 2) = none → exec (.progUnload q) s = .next (s1.cmdDone q 4 0))

/-- LAUNCH, LAUNCH_START, ACTIVATION_COMPLETE and COPY: what completes. That every launch takes the two rows is the model's reading (log 10). -/
def Obligations.LaunchesRun : Prop :=
  (∀ s q x c p i, s.front q 0x02 = some (x, c) → s.resolve x.ctx (c.arg 0x28 2) = .ok (p, i) →
    exec (.launch q) s = .next ((s.makeWay x.ctx (qSpWays p.image) (qAccWays p.image)).setPhase q .held)) ∧
  (∀ s q x c, s.front q 0x02 = some (x, c) → c.arg 0x28 2 ≤ 63 → s.program? x.ctx (c.arg 0x28 2) = none → exec (.launch q) s = .next (s.cmdDone q 4 0)) ∧
  (∀ s q x c p, s.front q 0x02 = some (x, c) → c.arg 0x28 2 ≤ 63 → s.program? x.ctx (c.arg 0x28 2) = some p →
    qPlacement p.image (s.rankCores (s.ctxFolio x.ctx)).length = none → exec (.launch q) s = .next (s.cmdDone q 0x0C 0)) ∧
  (∀ s q x c p i s1, s.waitingLaunch q = some (x, c) → s.cyclic.mode = false → s.standby = none → s.resolve x.ctx (c.arg 0x28 2) = .ok (p, i) →
    s1 = s.makeWay x.ctx (qSpWays p.image) (qAccWays p.image) → s1.canActivate x.ctx p = true → s1.outranked q = false →
    exec (.launchStart q) s = .next (((s1.endQwait q x).activate
      { ctx := x.ctx, prog := c.arg 0x28 2, place := i, seg := c.arg 0x2A 2, arg := BitVec.ofNat 64 (c.arg 0x30 8), qos := c.qos } p (some q) none).setPhase q (.running 0))) ∧
  (∀ s q x c p i s1, s.waitingLaunch q = some (x, c) → s.cyclic.mode = false → s.standby = none → s.resolve x.ctx (c.arg 0x28 2) = .ok (p, i) →
    s1 = s.makeWay x.ctx (qSpWays p.image) (qAccWays p.image) → s1.canActivate x.ctx p = false → exec (.launchStart q) s = .next s1) ∧
  (∀ s ctx y a q, s.ctx? ctx = some y → y.act = some a → a.queue = some q → a.entry = none → s.ctxStopped ctx = false →
    (s.slotsOf ctx).all (fun x => x.2.2.halted && x.2.2.fault.isNone) = true →
    exec (.activationComplete ctx) s = .next (((s.setCtx ctx { y with act := none, idleSince := s.hubCount }).cmdDone q 0 0).leaveDeparting ctx)) ∧
  (∀ s s1 q x c, Taken s q 0x03 x c s1 → x.passed = false → c.arg 0x28 8 % 128 = 0 → 0 < c.arg 0x30 4 → c.arg 0x30 4 ≤ 65536 → (s.chan x.chan).st = .idle →
    s.fabricUp (x.chan / 64) = true → ∃ t, exec (.copy q) s = .next t ∧ (t.chan x.chan).st = .run ∧ (t.chan x.chan).list = c.arg 0x28 8 ∧ (t.chan x.chan).count = c.arg 0x30 4 ∧
      (t.chan x.chan).index = 0 ∧ SameMemory s1 t) ∧
  (∀ s s1 q x c, Taken s q 0x03 x c s1 → x.passed = true → exec (.copy q) s = .next (s1.cmdDone q 5 0))

/-- CTX_CREATE, CTX_DESTROY, CTX_RESET, RESUME: what completes. The arguments are those of 15_queues_and_objects, in range. -/
def Obligations.ContextCommandsComplete : Prop :=
  (∀ s s2 s3 q x c b v, TakenBlock s q 0x10 x c s2 b → fieldLe b 3 1 < 2 → fieldLe b 0x22 30 = 0 → 0 < fieldLe b 0 2 → fieldLe b 0 2 ≤ 4095 →
    s2.ctxInUse (fieldLe b 0 2) = false → fieldLe b 2 1 ≤ 63 → s2.folioUsable (fieldLe b 2 1) = true → s2.rootOk (fieldLe b 8 8) = true → fieldLe b 0x18 8 % 64 = 0 →
    s2.ringOf (fieldLe b 0x20 2) (fieldLe b 2 1) = none →
    ∀ y : Context, y = { folio := fieldLe b 2 1, rt := bit (fieldLe b 3 1) 0, share := fieldLe b 4 4, root := fieldLe b 8 8, seed := BitVec.ofNat 64 (fieldLe b 0x10 8), safeVa := fieldLe b 0x18 8, evring := fieldLe b 0x20 2, idleSince := s2.hubCount } →
    (s2.setCtx (fieldLe b 0 2) y).hubRead (fieldLe b 0 2) y.safeVa 64 = (some v, s3) →
    ∃ t, exec (.ctxCreate q) s = .next t ∧ t.ctx? (fieldLe b 0 2) = some { y with set := settingsOf v } ∧ t = (s3.setCtx (fieldLe b 0 2) { y with set := settingsOf v }).cmdDone q 0 0) ∧
  (∀ s s1 q x c, Taken s q 0x11 x c s1 → 0 < c.arg 0x28 2 → c.arg 0x28 2 ≤ 4095 → (s1.ctx? (c.arg 0x28 2)).isSome = true → s1.queuesOf (c.arg 0x28 2) = [] →
    (s1.ctx? (c.arg 0x28 2)).bind (fun y => y.resident) = none → exec (.ctxDestroy q) s = .next (s1.setPhase q (.running 0))) ∧
  (∀ s s1 q x c y e, Taken s q 0x11 x c s1 → 0 < c.arg 0x28 2 → c.arg 0x28 2 ≤ 4095 → s1.ctx? (c.arg 0x28 2) = some y → y.resident = some e →
    exec (.ctxDestroy q) s = .next (s1.cmdDone q 5 0)) ∧
  (∀ s s1 q x c, Taken s q 0x12 x c s1 → 0 < c.arg 0x28 2 → c.arg 0x28 2 ≤ 4095 → (s1.ctx? (c.arg 0x28 2)).isSome = true →
    exec (.ctxReset q) s = .next ((s1.ctxReset (c.arg 0x28 2) 0x0F 0).cmdDone q 0 0)) ∧
  (∀ s s2 q x c b, TakenBlock s q 0x10 x c s2 b → fieldLe b 3 1 < 2 → fieldLe b 0x22 30 = 0 → fieldLe b 0 2 = 0 → exec (.ctxCreate q) s = .next (s2.cmdDone q 2 (2 ^ 31))) ∧
  (∀ s s1 q x c, c.arg 0x28 2 = 0 → (Taken s q 0x11 x c s1 → exec (.ctxDestroy q) s = .next (s1.cmdDone q 2 0x28)) ∧
    (Taken s q 0x12 x c s1 → exec (.ctxReset q) s = .next (s1.cmdDone q 2 0x28))) ∧
  (∀ s s1 s2 q x c, Taken s q 0x13 x c s1 → c.arg 0x28 2 ≤ 4095 → (s1.ctx? (c.arg 0x28 2)).isSome = true →
    s2 = (s1.chargeAll (c.arg 0x28 2)).modCtx (c.arg 0x28 2) (fun y => y.resumed s1.hubCount) →
    exec (.resume q) s = .next (((foldS (s2.slotsOf (c.arg 0x28 2)) s2 (fun st z => st.modSlot z.1 z.2.1 Slot.resumed)).recheckCtx (c.arg 0x28 2)).cmdDone q 0 0)) ∧
  (∀ (y : Context) now, (y.resumed now).suspended = none ∧ (y.resumed now).held = y.held)

/-- QUEUE_CREATE, QUEUE_DESTROY, EVRING_CREATE, EVRING_DESTROY, CHAN_ASSIGN, the consumer word and MGMTQ_ENABLE: what completes. One clause for each row. -/
def Obligations.QueueAndRingCommandsComplete : Prop :=
  (∀ s s2 q x c b, TakenBlock s q 0x18 x c s2 b → s2.queueBad b = none → fieldLe b 2 1 = 1 →
    ∀ y : Queue, y = { type := .compute, ctx := fieldLe b 4 2, log := fieldLe b 6 1, qos := fieldLe b 7 1, ringPa := fieldLe b 8 8, dbPa := fieldLe b 0x10 8, headPa := fieldLe b 0x18 8, evring := fieldLe b 0x20 2, chan := fieldLe b 0x22 1, watched := bit (fieldLe b 3 1) 0 } →
    exec (.queueCreate q) s = .next ((((s2.setQueue (fieldLe b 0 2) y).headWrite y (zeros 8)).watchDoorbell y).cmdDone q 0 0)) ∧
  (∀ s s2 q x c b, TakenBlock s q 0x18 x c s2 b → s2.queueBad b = none → fieldLe b 2 1 = 2 → ∃ t, exec (.queueCreate q) s = .next t ∧
    (t.chan (fieldLe b 0x22 1)).queue = some (fieldLe b 0 2)) ∧
  (∀ s s2 q x c b e, TakenBlock s q 0x18 x c s2 b → s2.queueBad b = some e → exec (.queueCreate q) s = .next (s2.cmdDone q e.1 e.2)) ∧
  (∀ s s1 q x c, Taken s q 0x19 x c s1 → 0 < c.arg 0x28 2 → c.arg 0x28 2 ≤ 16383 → (s1.queue? (c.arg 0x28 2)).isSome = true → exec (.queueDestroy q) s =
    .next (((s1.modQueue (c.arg 0x28 2) (fun y => { y with dying := true, watched := false, snooped := false })).abortWaiting (c.arg 0x28 2)).setPhase q (.running 0))) ∧
  (∀ s s2 q x c b, TakenBlock s q 0x1A x c s2 b → fieldLe b 6 2 = 0 → fieldLe b 0x10 48 = 0 → 0 < fieldLe b 0 2 → fieldLe b 0 2 ≤ 1023 → tget (fieldLe b 0 2) s2.evrings = none →
    4 ≤ fieldLe b 2 1 → fieldLe b 2 1 ≤ 16 → fieldLe b 3 1 ≤ 63 → (s2.folio (fieldLe b 3 1)).valid = true → fieldLe b 4 2 < (if fieldLe b 3 1 = 0 then 256 else 32) →
    inHost (fieldLe b 8 8) (64 * 2 ^ fieldLe b 2 1 + 128) = true → fieldLe b 8 8 % 4096 = 0 → ∃ t, exec (.evringCreate q) s = .next t ∧
    tget (fieldLe b 0 2) t.evrings = some { folio := fieldLe b 3 1, vector := fieldLe b 4 2, log := fieldLe b 2 1, base := fieldLe b 8 8 } ∧ SameMemory s2 t) ∧
  (∀ s s1 q x c, Taken s q 0x1B x c s1 → 0 < c.arg 0x28 2 → c.arg 0x28 2 ≤ 1023 → (tget (c.arg 0x28 2) s1.evrings).isSome = true →
    s1.queues.any (fun z => z.2.evring == c.arg 0x28 2) = false → s1.ctxs.any (fun z => z.2.evring == c.arg 0x28 2) = false →
    s1.folios.any (fun z => z.2.evring == c.arg 0x28 2) = false → ∃ t, exec (.evringDestroy q) s = .next t ∧ tget (c.arg 0x28 2) t.evrings = none ∧
    ∀ r, r ≠ c.arg 0x28 2 → tget r t.evrings = tget r s1.evrings) ∧
  (∀ s s1 q x c, Taken s q 0x29 x c s1 → c.arg 0x28 1 ≤ 7 → c.arg 0x29 1 ≤ 15 → c.arg 0x2A 1 ≤ 63 → s1.folioUsable (c.arg 0x2A 1) = true →
    exec (.chanAssign q) s = .next (s1.setPhase q (.running 0))) ∧
  (∀ s ring n e, s.ring? ring = some e → exec (.eventRingConsumed ring n) s =
    .next (({ s.hostWrite (e.base + 64 * 2 ^ e.log + 64) (le 4 n) with evrings := tput ring { e with consumed := n % 2 ^ 32 } (s.hostWrite (e.base + 64 * 2 ^ e.log + 64) (le 4 n)).evrings }).drainHeld ring 64)) ∧
  (∀ s, s.clasp.rails = true → bit (s.reg rMgmtqRing) 0 = false → ∃ t y, exec (.mgmtqEnable true) s = .next t ∧ t.queue? 0 = some y ∧ y.watched = true ∧ y.head = 0 ∧
    y.tail = 0 ∧ y.xseq = 0 ∧ y.stopped = false ∧ y.dbPa = (s.writeFld rMgmtqRing 0 1 1).fld rMgmtqDb 6 40 * 64)

/-- GET_SHARE, GET_OWN, UPGRADE, GLANCE, PUT_HOME, RAW_GET, RAW_PUT: what completes. What service of each kind does to lines, directory and data is said by the statements on snoops, grants and writes. -/
def Obligations.HomeRequestsServed : Prop :=
  (∀ s id h q s1, Served s id h q s1 → q.kind = .getShare → exec (.getShare id) s = .next (s1.serveShare h id q)) ∧
  (∀ s id h q s1, Served s id h q s1 → q.kind = .getOwn → exec (.getOwn id) s = .next (s1.serveOwn h id q)) ∧
  (∀ s id h q s1, Served s id h q s1 → q.kind = .upgrade → exec (.upgrade id) s = .next (s1.serveUpgrade h id q)) ∧
  (∀ s id h q s1, Served s id h q s1 → q.kind = .glance → exec (.glance id) s = .next (s1.serveGlance h id q)) ∧
  (∀ s id h q s1, Served s id h q s1 → q.kind = .putHome → exec (.putHome id) s = .next (s1.servePut h id q)) ∧
  (∀ s id h q s1, Served s id h q s1 → q.kind = .rawGet → exec (.rawGet id) s = .next (s1.finish id q (s1.rawRead q.pa q.len).1 (s1.rawRead q.pa q.len).2)) ∧
  (∀ s id h q s1, Served s id h q s1 → q.kind = .rawPut → exec (.rawPut id) s = .next (s1.putDone id q)) ∧
  (∀ s id h q s1 k c, (k, c) ∈ [(ReqKind.getShare, Instr.getShare id), (.getOwn, .getOwn id), (.upgrade, .upgrade id), (.glance, .glance id), (.putHome, .putHome id), (.rawGet, .rawGet id), (.rawPut, .rawPut id)] →
    AtHome s id h q s1 → q.kind = k → s1.arbitrate h id q = none → exec c s = .next s1) ∧
  (∀ s id h q s1 s2 e k c, (k, c) ∈ [(ReqKind.getShare, Instr.getShare id), (.getOwn, .getOwn id), (.upgrade, .upgrade id), (.glance, .glance id), (.putHome, .putHome id), (.rawGet, .rawGet id), (.rawPut, .rawPut id)] →
    AtHome s id h q s1 → q.kind = k → s1.arbitrate h id q = some s2 → s2.homeCheck q = some e → exec c s = .next (s2.finish id q e [])) ∧
  (∀ s id q s1 s2 k c, (k, c) ∈ [(ReqKind.getShare, Instr.getShare id), (.getOwn, .getOwn id), (.upgrade, .upgrade id), (.glance, .glance id), (.putHome, .putHome id), (.rawGet, .rawGet id), (.rawPut, .rawPut id)] →
    AtHome s id 64 q s1 → q.kind = k → s1.arbitrate 64 id q = some s2 → s2.homeCheck q = none → s2.hostHas q = false → exec c s = .next (s2.toHost id q)) ∧
  (∀ s id q k c, (k, c) ∈ [(ReqKind.getShare, Instr.getShare id), (.getOwn, .getOwn id), (.upgrade, .upgrade id), (.glance, .glance id), (.putHome, .putHome id), (.rawGet, .rawGet id), (.rawPut, .rawPut id)] →
    s.req? id = some q → q.kind = k → s.unserved q = true → exec c s = .next (s.finish id q .refused []))

/-- PRB_SHARE, PRB_OWN, PRB_GLANCE, PRB_INV: what completes. An invalidated clean copy answers without data (log 37). -/
def Obligations.SnoopedCachesAnswer : Prop :=
  (∀ s n line k c l, (k, c) ∈ [(PrbKind.share, Instr.prbShare n line), (.own, .prbOwn n line), (.glance, .prbGlance n line), (.inv, .prbInv n line)] →
    s.probe? n line k = true → tget line (s.cache n).lines = some l → ∃ t, exec c s = .next t ∧ tget line (t.cache n).probes = none ∧
      tget line (t.cache n).lines = (match k, l.st with | .share, .m => some { l with st := .o } | .share, .e => some { l with st := .s } | .share, _ => some l | .glance, _ => some l | _, _ => none) ∧
      tget line (t.cache n).answers = some (if k = .inv ∧ isDirty l.st = false then .ack else .data l.data (isDirty l.st)) ∧ SameMemory s t) ∧
  (∀ s n line k c w, (k, c) ∈ [(PrbKind.share, Instr.prbShare n line), (.own, .prbOwn n line), (.glance, .prbGlance n line), (.inv, .prbInv n line)] →
    s.probe? n line k = true → tget line (s.cache n).lines = none → tget line (s.cache n).wb = some w → w.dirty = true → ∃ t, exec c s = .next t ∧
      tget line (t.cache n).answers = some (.buf w.data true) ∧ tget line (t.cache n).wb = some { w with snooped := true }) ∧
  (∀ s n line k c, (k, c) ∈ [(PrbKind.share, Instr.prbShare n line), (.own, .prbOwn n line), (.glance, .prbGlance n line), (.inv, .prbInv n line)] →
    s.probe? n line k = true → tget line (s.cache n).lines = none → (∀ w, tget line (s.cache n).wb = some w → w.dirty = false) → ∃ t, exec c s = .next t ∧
      tget line (t.cache n).answers = some (.miss (k != .inv)) ∧ tget line (t.cache n).lines = none)

/-- PRB_DATA, PRB_MISS, RETIRE_DIRTY, RETIRE_CLEAN, RETIRE_ACK, GRANT_DATA, GRANT_ACK: what completes. One clause for each row. -/
def Obligations.AnswersWritebacksAndGrants : Prop :=
  (∀ s n line h a, s.homeOf line = some h → tget line (s.cache n).answers = some a → a.bytes.isSome = true →
    exec (.prbData n line) s = .next ((s.unanswer n line).answered h line n a)) ∧
  (∀ s n line h fwd, s.homeOf line = some h → tget line (s.cache n).answers = some (.miss fwd) →
    exec (.prbMiss n line) s = .next (((if fwd then s.cohCount h 24 8 else s).unanswer n line).answered h line n (.miss fwd))) ∧
  (∀ s n line h, s.homeOf line = some h → tget line (s.cache n).answers = some .ack → exec (.prbMiss n line) s = .next ((s.unanswer n line).answered h line n .ack)) ∧
  (∀ s n line w, tget line (s.cache n).wb = some w → w.dirty = true → w.acked = false → exec (.retireDirty n line) s = .next (s.retireHome n line w)) ∧
  (∀ s n line w, tget line (s.cache n).wb = some w → w.dirty = false → w.acked = false → exec (.retireClean n line) s = .next (s.retireHome n line w)) ∧
  (∀ (s : State) n line (w : WbEntry) h, s.homeOf line = some h → w.dirty = true → s.superseded h n line w = false → s.retireHome n line w =
    (((s.setCache n { s.cache n with wb := tput line { w with acked := true } (s.cache n).wb }).takeBack line w.data).dirRemove h line n)) ∧
  (∀ s n line w, tget line (s.cache n).wb = some w → w.acked = true → tget line (s.cache n).probes = none → ∃ t, exec (.retireAck n line) s = .next t ∧
    tget line (t.cache n).wb = none ∧ (t.cache n).lines = (s.cache n).lines ∧ SameMemory s t) ∧
  (∀ s n line v id q, s.granted n line = some (id, q) →
    ((tget line (s.cache n).lines).isSome = true ∨ ((s.cache n).lines.filter (fun l => cacheSet l.1 == cacheSet line)).length < 16) →
    exec (.grantData n line v) s = .next (s.install n line id q)) ∧
  (∀ s n line v id q l, s.granted n line = some (id, q) → tget line (s.cache n).lines = none →
    16 ≤ ((s.cache n).lines.filter (fun l => cacheSet l.1 == cacheSet line)).length → tget v (s.cache n).lines = some l → cacheSet v = cacheSet line →
    tget (cacheSet line) (s.cache n).mru ≠ some v → tget v (s.cache n).wb = none → isDirty l.st = false → exec (.grantData n line v) s = .next ((s.evict n v l).install n line id q)) ∧
  (∀ s line h x id q, s.homeOf line = some h → tget line (s.home h).txns = some x → x.waiting = [] → x.req = some id → s.req? id = some q → q.status.isSome = true →
    ∃ t, exec (.grantAck line) s = .next t ∧ tget line (t.home h).txns = none ∧ (t.home h).dir = (s.home h).dir)

/-- INVALIDATE, MIGRATE, ADVISE, FRAME_SET and WALK_COMPLETE: what completes. One clause for each row. -/
def Obligations.TranslationCommandsComplete : Prop :=
  (∀ s s1 q x c, Taken s q 0x20 x c s1 → s1.rangeBad c = none → s1.usesOf (s1.modeCtxs (c.arg 0x34 1) (c.arg 0x36 2)) (c.arg 0x28 8) (c.arg 0x30 4 * 2 ^ 25) = [] →
    exec (.invalidate q) s = .next ((s1.dropRange (s1.modeCtxs (c.arg 0x34 1) (c.arg 0x36 2)) (c.arg 0x28 8) (c.arg 0x30 4 * 2 ^ 25)).cmdDone q 0 0)) ∧
  (∀ s s1 q x c us, Taken s q 0x20 x c s1 → s1.rangeBad c = none → us = s1.usesOf (s1.modeCtxs (c.arg 0x34 1) (c.arg 0x36 2)) (c.arg 0x28 8) (c.arg 0x30 4 * 2 ^ 25) → us ≠ [] →
    exec (.invalidate q) s = .next (((s1.dropRange (s1.modeCtxs (c.arg 0x34 1) (c.arg 0x36 2)) (c.arg 0x28 8) (c.arg 0x30 4 * 2 ^ 25)).modQueue q
      (fun y => { y with uses := us })).setPhase q (.running 0))) ∧
  (∀ s q x c, s.runningOp q 0x20 = some (x, c) → x.uses.any s.inFlight = false → exec (.invalidateDrained q) s = .next (s.cmdDone q 0 0)) ∧
  (∀ s q x c, s.runningOp q 0x20 = some (x, c) → x.uses.any s.inFlight = true → exec (.invalidateDrained q) s = .next s) ∧
  (∀ s q x c u, s.runningOp q 0x20 = some (x, c) → s.oldestUse x.uses = some u → x.waitNoted = false → c.fetched + s.invWarn ≤ s.hubCount →
    exec (.invSlow q) s = .next ((s.ringPut 0 (s.record tyInvSlow (s.ctxFolio (s.useOf u).1) 0 (s.useOf u).1 18 (le 8 (c.arg 0x28 8) ++ le 4 (c.arg 0x30 4) ++
      le 1 (s.useOf u).2.1 ++ le 3 0 ++ le 4 (s.useOf u).2.2 ++ le 4 0 ++ le 8 (s.hubCount - c.fetched)))).modQueue q (fun y => { y with waitNoted := true }))) ∧
  (∀ s s1 s2 s3 q x c h b, Taken s q 0x21 x c s1 → s1.hubRead 0 (c.arg 0x28 8) 16 = (some h, s2) → fieldLe h 3 1 = 0 → fieldLe h 0 2 ≤ 4095 →
    (s2.ctx? (fieldLe h 0 2)).isSome = true → fieldLe h 2 1 ≤ 1 → 0 < fieldLe h 4 4 → fieldLe h 4 4 ≤ 4096 → fieldLe h 8 8 % migSize h = 0 →
    fieldLe h 8 8 + fieldLe h 4 4 * migSize h ≤ 2 ^ 52 → s2.hubRead 0 (c.arg 0x28 8) (16 + 8 * fieldLe h 4 4) = (some b, s3) →
    (List.range (fieldLe h 4 4)).find? (fun i => migDest b i % migSize b != 0) = none →
    (List.range (fieldLe h 4 4)).all (fun i => s3.destOk ((s3.modeCtxs 2 (fieldLe h 0 2)).map s3.ctxFolio) (migDest b i) (migSize b)) = true →
    ∀ cs, cs = s3.modeCtxs 2 (fieldLe h 0 2) →
    exec (.migrate q) s = .next (((s3.dropRange cs (fieldLe h 8 8) (fieldLe h 4 4 * migSize b)).modQueue q (fun z =>
      { z with uses := s3.usesOf cs (fieldLe h 8 8) (fieldLe h 4 4 * migSize b), mig := some (cs, fieldLe h 8 8, fieldLe h 4 4 * migSize b) })).setPhase q (.running 0))) ∧
  (∀ s q x c b y s1, s.runningOp q 0x21 = some (x, c) → s.migBlock c = some b → s.ctx? (fieldLe b 0 2) = some y →
    x.uses.any s.inFlight = false →
    s1 = (s.dropRange (s.modeCtxs 2 (fieldLe b 0 2)) (fieldLe b 8 8) (fieldLe b 4 4 * migSize b)).modQueue q (fun z => { z with mig := none }) →
    exec (.migrateCopyComplete q) s = .next ((foldS (List.range (fieldLe b 4 4)) s1 (fun st i => st.migratePage y.root b i)).cmdDone q 0 0)) ∧
  (∀ s s1 q x c, Taken s q 0x22 x c s1 → s.walksAt 0 < 16 → s.walksAt 1 < 16 → s1.rangeBad c = none → exec (.advise q) s = .next ((foldS (s1.modeCtxs (c.arg 0x34 1) (c.arg 0x36 2)) s1 (fun st i =>
    if c.arg 0x35 1 = 0 then st.adviseWalk i (advisePages c) else st.adviseClean i (advisePages c) (c.arg 0x35 1 == 1))).cmdDone q 0 0)) ∧
  (∀ s s1 q x c k, Taken s q 0x28 x c s1 → c.arg 0x2A 1 < 8 → c.arg 0x2B 1 < 4 → c.arg 0x28 2 ≤ 16383 → s1.server (c.arg 0x28 2 / 256) = some k →
    exec (.frameSet q) s = .next ((s1.setFrame k (c.arg 0x28 2 % 256) (frameBits (s1.frame k (c.arg 0x28 2 % 256)) (c.arg 0x2A 1) (c.arg 0x2B 1))).setPhase q (.running 0))) ∧
  (∀ s s1 q x c k, Taken s q 0x28 x c s1 → c.arg 0x2A 1 < 8 → c.arg 0x2B 1 < 8 → c.arg 0x28 2 ≤ 16383 → s1.server (c.arg 0x28 2 / 256) = some k →
    bit (c.arg 0x2B 1) 2 = true → bit (c.arg 0x2A 1) 2 = true → frBias (s1.frame k (c.arg 0x28 2 % 256)) = false →
    exec (.frameSet q) s = .next (((s1.setFrame k (c.arg 0x28 2 % 256) (frameBits (s1.frame k (c.arg 0x28 2 % 256)) (c.arg 0x2A 1) (c.arg 0x2B 1 % 4))).emit
      (.biasTakeback (c.arg 0x28 2))).setPhase q (.running 1))) ∧
  (∀ s q x c k, s.runningOp q 0x28 = some (x, c) → x.phase = .running 1 → s.server (c.arg 0x28 2 / 256) = some k → exec (.biasTakebackDone q) s =
    .next ((s.setFrame k (c.arg 0x28 2 % 256) (setBits (s.frame k (c.arg 0x28 2 % 256)) 24 1 1)).setPhase q (.running 0))) ∧
  (∀ s id w e ups s1, tget id s.walks = some w → s.migHolds id w.ctx w.va = false → s.walks.filter (fun v => sameWalk v.2 w) = [(id, w)] → w.again = false → s.walkAt w.die w.ctx w.va = .leaf e ups →
    permits e.perm w.access = true → w.asker.prefetch = false → s1 = s.fillWalker w.die e ups →
    exec (.walkComplete id) s = .next ((s1.setCore w.asker.core { s1.core w.asker.core with tlb := tlbEnter 64 (s1.core w.asker.core).tlb e }).walkOver id w.asker)) ∧
  (∀ s id w sub lvl, tget id s.walks = some w → s.migHolds id w.ctx w.va = false → s.walks.filter (fun v => sameWalk v.2 w) = [(id, w)] → w.again = false → s.walkAt w.die w.ctx w.va = .fault sub lvl →
    exec (.walkComplete id) s = .next ((s.bumpFld (rXltWalk w.die) 24 8 1).walkFault id w sub lvl))

/-- Descriptors, bursts, restarts, streams and buffer limits of the copy channels: what completes. One clause for each row. -/
def Obligations.CopyChannelsMove : Prop :=
  (∀ s ch b s1, (s.chan ch).st = .run → (s.chan ch).desc = [] → (s.chan ch).index < (s.chan ch).count → s.fabricUp (ch / 64) = true → s.cpyReady ch (s.chan ch).descVa = true → s.cpyRead ch (s.chan ch).descVa = .ok (b, s1) →
    (copyOf b).bad b = none → (bit (copyOf b).flags 2 = true → s1.cpyReady ch (copyOf b).waitVa = true) → exec (.copyDescriptorStart ch) s = .next (s1.cpyBegin ch b)) ∧
  (∀ s ch b s1 st dt, (s.chan ch).st = .run → (s.chan ch).desc = [] → (s.chan ch).index < (s.chan ch).count → s.fabricUp (ch / 64) = true → s.cpyReady ch (s.chan ch).descVa = true → s.cpyRead ch (s.chan ch).descVa = .ok (b, s1) →
    (copyOf b).bad b = some (st, dt) → ∃ t, exec (.copyDescriptorStart ch) s = .next t ∧ (t.chan ch).st = .stopBad ∧ (t.chan ch).status = st ∧ (t.chan ch).detail = dt) ∧
  (∀ (s : State) ch b, bit (copyOf b).flags 2 = false → ((s.cpyBegin ch b).chan ch).desc = b ∧ ((s.cpyBegin ch b).chan ch).issued = 0 ∧
    ((s.cpyBegin ch b).chan ch).done = 0 ∧ ((s.cpyBegin ch b).chan ch).epoch = (s.folio (s.ctxFolio (s.chanCtx ch))).epoch) ∧
  (∀ s ch a nc s1 b s2, (s.chan ch).st = .wait → s.cpyReady ch (copyOf (s.chan ch).desc).waitVa = true → s.cpyXlate ch (copyOf (s.chan ch).desc).waitVa 0 = (.pa a nc, s1) →
    s1.readLine (s1.chanCtx ch) (s1.ctxFolio (s1.chanCtx ch)) a 4 = (.ok, b, s2) →
    satisfies (BitVec.ofNat 32 (unle b)) (BitVec.ofNat 32 (copyOf (s.chan ch).desc).waitTgt) = true →
    exec (.copyWaitSatisfied ch) s = .next ((s2.dropWatch (.copy ch)).setChan ch { s.chan ch with st := .run })) ∧
  (∀ s e ch, s.nextChan e = some (ch, false) → s.fabricUp (e / 4) = true → exec (.copyBurstIssue e) s = .next (s.cpyIssue ch)) ∧
  (∀ s ch i b qs, tget i (s.chan ch).bursts = some b → s.allBack (b.reads ++ b.writes) = some qs → firstBad qs = none → b.writes = [] →
    (copyOf (s.chan ch).desc).op ≠ 2 → exec (.copyBurstComplete ch i) s = .next (s.cpyWriteBurst ch i b (qs.flatMap (fun q => q.rdata.take q.len)))) ∧
  (∀ s ch i b qs, tget i (s.chan ch).bursts = some b → s.allBack (b.reads ++ b.writes) = some qs → firstBad qs = none → b.writes ≠ [] →
    exec (.copyBurstComplete ch i) s = .next (s.cpyDrop ch i b)) ∧
  (∀ s ch i b qs q e, tget i (s.chan ch).bursts = some b → s.allBack (b.reads ++ b.writes) = some qs → firstBad qs = some (q, e) →
    exec (.copyBurstComplete ch i) s = .next ((s.cpyBad ch b q e).cpyDrop ch i b)) ∧
  (∀ s ch, (s.chan ch).st = .run → (s.chan ch).desc ≠ [] → (s.chan ch).bursts = [] → (s.chan ch).ending = false →
    (copyOf (s.chan ch).desc).total ≤ (s.chan ch).issued → exec (.copyDescriptorEnd ch) s = .next ((s.cpyEnd ch 0 0 (copyOf (s.chan ch).desc).total).cpyNext ch)) ∧
  (∀ s ch, (s.chan ch).st = .stopFault → ∃ t, exec (.cpyRestart ch true) s = .next t ∧ (t.chan ch).st = .run ∧ (t.chan ch).issued = (s.chan ch).done ∧
    (t.chan ch).status = 0 ∧ (t.chan ch).ending = false ∧ ∀ d, d ≠ ch → t.chan d = s.chan d) ∧
  (∀ s ch, (s.chan ch).st = .stopBad ∨ (s.chan ch).st = .stopFault → exec (.cpyRestart ch false) s = .next (s.cpySkip ch)) ∧
  (∀ s ch m, ch ≤ 127 → s.clasp.rails = true → (s.chan ch).stream = none →
    ((List.range 8).map (fun k => 14 + 8 * (ch / 64) + k)).find? (fun n => !(s.streams (ch / 64)).contains n) = some m →
    ∃ t, exec (.cpyStream ch true) s = .next t ∧ (t.chan ch).stream = some m ∧ ∀ d, d ≠ ch → t.chan d = s.chan d) ∧
  (∀ s ch v, ch ≤ 127 → s.clasp.rails = true → v < 512 → ∃ t, exec (.cpyMaxbuf ch v) s = .next t ∧ t.fld (rChCtl ch) 8 9 = v ∧ OnlyRegs s t ∧
    ∀ c, c ≠ rChCtl ch → t.reg c = s.reg c)

/-- POWER_CONTROL_TICK, RAIL_RAMP_DONE, CLOCK_STEP_DONE: what completes. Average and window as R538 states them; the predicted power is a free value (log 6). -/
def Obligations.PowerControlRuns : Prop :=
  (∀ s (p fixed pinned avg : Nat) s1, s.clasp.rails = true → s.power.tickAt + 1000000 ≤ s.hubCount → avg = stepAvg s.power.avgMw (p * 1000) (s.windowS * 1000) →
    s1 = { s with power := { s.power with avgMw := avg, last := (p :: s.power.last).take 10, tickAt := s.hubCount } } →
    ∀ (avail : Int) fc ok, avail = s.budget avg ((p :: s.power.last).take 9) / (Config.effMilli : Int) - fixed - pinned →
    fc = (if avail < 0 then none else fitStep s.hubCount avail.toNat 80) →
    ok = (match fc with | some f => s.unpinned.all (fun i => decide (s.safeMhz i ≤ f)) | none => decide (s.unpinned = [] ∧ 0 ≤ avail)) →
    exec (.powerControlTick p fixed pinned) s = .next ((foldS (List.range 16) s1 (fun st i => st.loopRegion (if ok then fc else none) i)).pinover ok)) ∧
  (∀ k avail n f, fitStep k avail n = some f → Config.predictedW f k ≤ avail ∧ ∀ m, m ≤ n → f < 50 * m → avail < Config.predictedW (50 * m) k) ∧
  (∀ s (p fixed pinned : Nat), (s.clasp.rails = false ∨ s.hubCount < s.power.tickAt + 1000000) → exec (.powerControlTick p fixed pinned) s = .next s) ∧
  (∀ s i f, (s.region i).target = some f → (s.region i).powered = true → (s.region i).steppingUp = true → (s.region i).railUp = false →
    (s.region i).droop = false → (s.region i).droopSince + 2000 ≤ s.hubCount → ∃ t, exec (.railRampDone i) s = .next t ∧ (t.region i).railUp = true ∧
    (t.region i).voltMv = s.setMv i f ∧ (t.region i).setMhz = (s.region i).setMhz ∧ ∀ j, j ≠ i → t.region j = s.region j) ∧
  (∀ s i f, (s.region i).target = some f → (s.region i).powered = true → ((s.region i).steppingUp = true → (s.region i).railUp = true) →
    (s.region i).droop = false → (s.region i).droopSince + 2000 ≤ s.hubCount → ∃ t, exec (.clockStepDone i) s = .next t ∧ (t.region i).setMhz = f ∧
    (t.region i).target = none ∧ ∀ j, j ≠ i → t.region j = s.region j) ∧
  (∀ s i f, (s.region i).target = some f → (s.region i).droop = true → exec (.clockStepDone i) s = .next s ∧ exec (.railRampDone i) s = .next s)

/-- Droop, supply warnings, thermal caps and wear gauges: what completes. The counters and caps the rules name; the least stretch is log 68. -/
def Obligations.DroopWarningsAndHeat : Prop :=
  (∀ s i, (s.region i).powered = true → (s.region i).droop = false → ∃ t, exec (.droopAssert i) s = .next t ∧ (t.region i).droop = true ∧ (t.region i).droopSince = s.hubCount ∧
    (t.region i).setMhz = (s.region i).setMhz ∧ t.fld (rPwrDroop i) 0 24 = min (2 ^ 24 - 1) (s.fld (rPwrDroop i) 0 24 + 1)) ∧
  (∀ s i, (s.region i).droop = true → 32000 ≤ (s.hubCount - (s.region i).droopSince) * (s.region i).setMhz → ∃ t, exec (.droopClear i) s = .next t ∧ (t.region i).droop = false ∧
    (t.region i).droopSince = s.hubCount ∧ ∀ j, j ≠ i → t.region j = s.region j) ∧
  (∀ s i, (s.region i).droop = true → (s.region i).droopLong = false → (s.region i).droopSince + 100000 < s.hubCount → ∃ s1, s1 = (s.setRegion i { s.region i with droopLong := true }).clockAt i
      (min (s.region i).setMhz (s.safeMhz i)) ∧ exec (.droopLong i) s = .next (((s1.setFld rPwrEvent 2 1 1).bumpFld (rPwrDroop i) 24 8 1).powerEvent 3 i (s.region i).setMhz
      (s1.region i).setMhz 0 (s.hubCount - (s.region i).droopSince))) ∧
  (∀ s k mv, k ≤ 18 → s.clasp.rails = true → tget k s.power.warns = none → s.lowSupply k mv = true → ∃ t, exec (.supplyWarning k mv) s = .next t ∧ tget k t.power.warns = some s.hubCount ∧
    t.power.busMv = (if k = 18 then mv else s.power.busMv)) ∧
  (∀ s k low h, tget k s.power.warns = some h → h + 200000 ≤ s.hubCount → ∃ t, exec (.supplyRelease k low) s = .next t ∧ tget k t.power.warns = none ∧ t.free = s.free + 2) ∧
  (∀ s i temp, 105 ≤ temp → (s.region i).powered = true → (s.region i).capAt + 100000 ≤ s.hubCount → ∃ t, exec (.thermalCapFall i temp) s = .next t ∧ (t.region i).thermalCap = (s.region i).cap - 100 ∧
    (t.region i).ratedMhz = (s.region i).ratedMhz ∧ (t.region i).setMhz = (s.region i).setMhz) ∧
  (∀ s i temp, temp < 103 → (s.region i).powered = true → (s.region i).capAt + 1000000 ≤ s.hubCount → ∃ t, exec (.thermalCapRise i temp) s = .next t ∧
    (t.region i).thermalCap = min (s.region i).ratedMhz ((s.region i).thermalCap + 100) ∧ t = { s with regions := t.regions }) ∧
  (∀ s d need h, d < 16 → s.clasp.rails = true → s.gaugeDue (s.region d).gauge = true → tget 18 s.power.warns = none → need ≤ 60 → ∃ t, exec (.wearGaugeReading d need h) s = .next t ∧ (t.region d).shiftMv = 5 * cdiv need 5 ∧
    (t.region d).marginMv = marginFor h ∧ (t.region d).ratedMhz = (s.region d).ratedMhz) ∧
  (∀ s d need h, 16 ≤ d → d ≤ 17 → s.clasp.rails = true → s.gaugeDue (s.fabric (d - 16)).gauge = true → tget 18 s.power.warns = none → ∃ t, exec (.wearGaugeReading d need h) s = .next t ∧ (t.fabric (d - 16)).shiftMv = min 60 (5 * cdiv need 5) ∧
    (t.fabric (d - 16)).marginMv = marginFor h)

/-- PWR_LIMIT, POWER_SET, ENERGY_WATCH, ENERGY_ESTIMATE and the power group's messages: what completes. One clause for each row; a group member's LIMIT_W follows the assignments only. -/
def Obligations.PowerLimitsEnergyAndGroups : Prop :=
  (∀ (s : State) (w : BitVec 32), s.clasp.rails = true → bit (s.reg rPwrGroup) 0 = false → ∃ t, exec (.pwrLimitWrite w) s = .next t ∧ OnlyRegs s t ∧
    t.fld rPwrLimit 0 11 = w.toNat % 2 ^ 11 ∧ t.fld rPwrLimit 11 5 = w.toNat / 2 ^ 11 % 2 ^ 5 ∧ t.fld rPwrLimit 16 11 = w.toNat / 2 ^ 16 % 2 ^ 11) ∧
  (∀ (s : State) (w : BitVec 32), s.clasp.rails = true → bit (s.reg rPwrGroup) 0 = true → ∃ t, exec (.pwrLimitWrite w) s = .next t ∧ t.fld rPwrLimit 0 11 = s.fld rPwrLimit 0 11 ∧
    t.fld rPwrLimit 16 11 = w.toNat / 2 ^ 16 % 2 ^ 11) ∧
  (∀ s s1 q x c, Taken s q 0x58 x c s1 → bit (s1.reg rPwrGroup) 0 = false → 700 ≤ c.arg 0x28 2 → c.arg 0x28 2 ≤ 1500 → 1 ≤ c.arg 0x2A 1 → c.arg 0x2A 1 ≤ 30 →
    c.arg 0x28 2 ≤ c.arg 0x2C 2 → c.arg 0x2C 2 ≤ 1850 → ∃ t, exec (.powerSet q) s = .next t ∧ t.fld rPwrLimit 0 11 = c.arg 0x28 2 ∧ t.fld rPwrLimit 11 5 = c.arg 0x2A 1 ∧
    t.fld rPwrLimit 16 11 = c.arg 0x2C 2) ∧
  (∀ s s1 q x c, Taken s q 0x58 x c s1 → bit (s1.reg rPwrGroup) 0 = false → (c.arg 0x28 2 < 700 ∨ 1500 < c.arg 0x28 2) → exec (.powerSet q) s = .next (s1.cmdDone q 2 0x28)) ∧
  (∀ s s1 q x c, Taken s q 0x59 x c s1 → x.type = .mgmt → c.arg 0x30 1 ≤ 63 → (s1.folio (c.arg 0x30 1)).valid = true → c.arg 0x28 8 % 64 = 0 → s1.route (c.arg 0x28 8) ≠ .hole → ∃ t, exec (.energyWatch q) s = .next t ∧
    t.folio (c.arg 0x30 1) = { s1.folio (c.arg 0x30 1) with energy := if c.arg 0x28 8 = 0 then none else some (x.ctx, c.arg 0x28 8, 0) } ∧
    ∀ f, f ≠ c.arg 0x30 1 → t.folio f = s1.folio f) ∧
  (∀ s, s.clasp.rails = true → s.power.energyAt + 10000000 ≤ s.hubCount → (∀ f, (s.folio f).energy = none) →
    exec .energyEstimate s = .next { s with power := { s.power with energyAt := s.hubCount } }) ∧
  (∀ s s0 f g ctx a n, s.clasp.rails = true → s.power.energyAt + 10000000 ≤ s.hubCount → s0 = { s with power := { s.power with energyAt := s.hubCount } } →
    s.folios = [(f, g)] → g.energy = some (ctx, a, n) → ∃ t u, exec .energyEstimate s = .next t ∧
    u = (s0.useFree.useFree.setFolio f { g with energy := some (ctx, a, n + 1) }).hubWrite ctx a (le 8 (n + 1) ++ s.freeBytes 8 ++ s.useFree.freeBytes 8 ++ le 8 s.hubCount ++ zeros 32) ∧ t = u.2) ∧
  (∀ s, s.inGroup = true → s.power.reportAt + 10000000 ≤ s.hubCount → ∃ t, exec .reportPeriod s = .next t ∧ tget s.clasp.pkgId t.power.reports = some (s.limitW, s.slack) ∧
    t.power.reportSeq = (s.power.reportSeq + 1) % 65536 ∧ t.power.barBase = s.barTotal ∧ t.power.cycBase = s.cycTotal) ∧
  (∀ s l d, (s.stitch l).up = true → s.inGroup = true → fieldLe d 0 2 = s.groupId → ∃ t, exec (.report l d) s = .next t ∧
    tget (fieldLe d 4 2) t.power.reports = some (fieldLe d 6 2, fieldLe d 0x0A 2) ∧ t = { s with power := { s.power with reports := t.power.reports } }) ∧
  (∀ s first rest, s.inGroup = true → s.power.reports = first :: rest → first.1 = s.clasp.pkgId → ∃ t, exec .leaderAssign s = .next t ∧ t.power.leader = true ∧
    t.power.members = s.power.reports.length ∧ t.power.reports = [] ∧ t.power.totalChanged = false) ∧
  (∀ s l d, (s.stitch l).up = true → s.inGroup = true → fieldLe d 0 2 = s.groupId → fieldLe d 4 2 = s.clasp.pkgId → ∃ t, exec (.assign l d) s = .next t ∧
    t.fld rPwrLimit 0 11 = fieldLe d 6 2 % 2 ^ 11 ∧ t.power.totalW = fieldLe d 8 2 ∧ t.power.members = fieldLe d 0x0A 2 ∧ t.power.lastAssign = s.hubCount ∧ t.power.leader = false) ∧
  (∀ s, s.inGroup = true → s.power.lastAssign + 50000000 ≤ s.hubCount → ∃ t, exec .assignTimeout s = .next t ∧ t.power.lastAssign = s.hubCount ∧ t.power.reports = [] ∧
    (s.power.members ≠ 0 → min s.limitW (s.power.totalW / s.power.members) < 2 ^ 11 → t.fld rPwrLimit 0 11 = min s.limitW (s.power.totalW / s.power.members)))

/-- FOLIO_CREATE, FOLIO_DESTROY, SLICE_ATTACH, SLICE_DETACH, SLICE_TRANSFER, SLICE_MOVE: what completes. The tests are those of 13_composition in their order; the folio id of a creation is a free value (log 6); commands side by side are log 122. -/
def Obligations.FolioCommandsComplete : Prop :=
  (∀ s s2 q x c b, TakenBlock s q 0x30 x c s2 b → s2.createBad b (maskBits (fieldLe b 8 16) 128) (maskBits (fieldLe b 0x18 8) 64) (maskBits (fieldLe b 0x20 2) 12) = none →
    exec (.folioCreate q) s = .next (s2.createFolio q b (maskBits (fieldLe b 8 16) 128) (maskBits (fieldLe b 0x18 8) 64) (maskBits (fieldLe b 0x20 2) 12)).overlap) ∧
  (∀ s s2 q x c b e, TakenBlock s q 0x30 x c s2 b → s2.createBad b (maskBits (fieldLe b 8 16) 128) (maskBits (fieldLe b 0x18 8) 64) (maskBits (fieldLe b 0x20 2) 12) = some e →
    exec (.folioCreate q) s = .next (s2.cmdDone q e.1 e.2).overlap) ∧
  (∀ s s1 q x c, Taken s q 0x31 x c s1 → c.arg 0x28 1 = 0 → exec (.folioDestroy q) s = .next (s1.cmdDone q 0x0A 0).overlap) ∧
  (∀ s s1 q x c f, Taken s q 0x31 x c s1 → f = c.arg 0x28 1 → f ≠ 0 → f ≤ 63 → (s1.folio f).valid = true →
    s.epochRoom f ((s.folioCores f).length + (s.folioMems f).length + (s.folioLinks f).length) = true → ∃ s3 s4 s5 s6, exec (.folioDestroy q) s = .next (s6.destroyCheck f).overlap ∧
    s3 = ({ s1 with prots := s1.prots.filter (fun p => !p.members.any (fun m => m.1 == 0 && (s.memSlice m.2).owner == f)) }.setFolio f { s1.folio f with destroying := some q }).setPhase q (.running 0) ∧
    s4 = foldS (s.folioCores f) s3 (fun st n => st.depart 0 n 0x3F none) ∧ s5 = foldS (s.folioMems f) s4 (fun st n => st.depart 1 n 0x3F none) ∧
    s6 = foldS ((List.range 12).filter (fun n => (s.linkSlice n).st == .owned && (s.linkSlice n).owner == f)) s5 (fun st n => st.depart 2 n 0x3F none)) ∧
  (∀ s s1 q x c, Taken s q 0x32 x c s1 → s1.sliceArgBad 0x32 (c.arg 0x28 1) (c.arg 0x29 1) (c.arg 0x2A 1) (c.arg 0x2B 1) = none →
    (s1.sliceE (c.arg 0x28 1) (c.arg 0x29 1)).st = .free → (s1.sliceE (c.arg 0x28 1) (c.arg 0x29 1)).init = false → s1.enterBad (c.arg 0x28 1) (c.arg 0x29 1) (c.arg 0x2B 1) = none →
    s.epochRoom (c.arg 0x2B 1) 1 = true →
    (¬(c.arg 0x28 1 = 1 ∧ s1.isConf (c.arg 0x2B 1) = true) → exec (.sliceAttach q) s = .next (s1.joinDone (c.arg 0x28 1) (c.arg 0x29 1) (c.arg 0x2B 1) (some q) s.hubCount).overlap) ∧
    (c.arg 0x28 1 = 1 ∧ s1.isConf (c.arg 0x2B 1) = true → exec (.sliceAttach q) s = .next ((s1.startInit (c.arg 0x29 1) (c.arg 0x2B 1) (some q) s.hubCount).setPhase q (.running 0)).overlap)) ∧
  (∀ s s1 q x c, Taken s q 0x33 x c s1 → s1.sliceArgBad 0x33 (c.arg 0x28 1) (c.arg 0x29 1) (c.arg 0x2A 1) (c.arg 0x2B 1) = none →
    s1.leaveBad (c.arg 0x28 1) (c.arg 0x29 1) (c.arg 0x2A 1) = none → s.epochRoom (c.arg 0x2A 1) 1 = true →
    exec (.sliceDetach q) s = .next ((s1.depart (c.arg 0x28 1) (c.arg 0x29 1) 0x3F (some q)).setPhase q (.running 0)).overlap) ∧
  (∀ s s1 q x c, Taken s q 0x34 x c s1 → s1.sliceArgBad 0x34 (c.arg 0x28 1) (c.arg 0x29 1) (c.arg 0x2A 1) (c.arg 0x2B 1) = none →
    s1.leaveBad (c.arg 0x28 1) (c.arg 0x29 1) (c.arg 0x2A 1) = none → s1.enterBad (c.arg 0x28 1) (c.arg 0x29 1) (c.arg 0x2B 1) = none →
    s.epochRoom (c.arg 0x2A 1) 1 = true → s.epochRoom (c.arg 0x2B 1) 1 = true →
    exec (.sliceTransfer q) s = .next ((s1.depart (c.arg 0x28 1) (c.arg 0x29 1) (c.arg 0x2B 1) (some q)).setPhase q (.running 0)).overlap) ∧
  (∀ s s1 q x c a b, Taken s q 0x35 x c s1 → a = c.arg 0x28 1 → b = c.arg 0x29 1 → a ≤ 63 → b ≤ 63 → (s1.memSlice a).st = .owned → (s1.memSlice b).st = .free →
    (s1.memSlice b).init = false → s1.hasAdmitted (s1.memSlice a).owner = false → s1.inSet a = false → s.epochRoom (s1.memSlice a).owner 1 = true → a ≠ b →
    ∃ t : State, exec (.sliceMove q) s = .next t.overlap ∧ (t.memSlice a).moveTo = some b ∧ (t.memSlice b).st = .transit ∧ (t.memSlice b).owner = 0x3F ∧ (t.memSlice b).moveFrom = some a ∧
    SameMemory s1 t)

/-- EPOCH_IN_FORCE, DRAIN_ZERO, DRAIN_LIMIT_EXPIRY, SCRUB_COMPLETE, CONF_SLICE_INIT_COMPLETE, SLICE_MOVE_COPY_COMPLETE: what completes. One clause for each row. -/
def Obligations.RebindingCompletes : Prop :=
  (∀ s f, ∃ t, exec (.epochInForce f) s = .next t ∧ t = foldS (s.folio f).epochPend (s.setFolio f { s.folio f with epochPend := [] }) (fun st q => st.cmdDone q 0 0) ∧
    (t.folio f).epochPend = [] ∧ (t.folio f).epoch = (s.folio f).epoch) ∧
  (∀ s kind n, kind ≤ 2 → n < sliceCount kind → (s.sliceE kind n).leaving = true → (s.gather kind n).drain kind n = 0 →
    (63 < ((s.gather kind n).sliceE kind n).dest ∨ (s.gather kind n).epochRoom ((s.gather kind n).sliceE kind n).dest 1 = true) →
    exec (.drainZero kind n) s = .next ((s.gather kind n).flip kind n)) ∧
  (∀ s kind n, kind ≤ 2 → n < sliceCount kind → (s.sliceE kind n).leaving = true → (s.gather kind n).drain kind n ≠ 0 →
    exec (.drainZero kind n) s = .next (s.gather kind n)) ∧
  (∀ s n, n < 12 → (s.linkSlice n).leaving = true → s.drain 2 n ≠ 0 → (s.linkSlice n).started + s.drainLim (s.linkSlice n).owner ≤ s.hubCount → ∃ s2 t first,
    exec (.drainLimitExpiry 2 n) s = .next t ∧ s2 = s.loseReqs (s.countedReqs 2 n) ∧
    first = ((s.countedReqs 2 n).filterMap (fun i => (s.req? i).map (fun (q : Req) => q.ctx))).head? ∧
    t = ((((s2.setLinkSlice n { s2.linkSlice n with st := .quarantined, dest := 0x3F, queue := none }).rebind 2 n 1 (s.linkSlice n).owner 0x3F (s.linkSlice n).epochOut 0
      (s.countedReqs 2 n).length first (s.linkSlice n).started).capChange).endFor (s.linkSlice n).queue 0).destroyCheck (s.linkSlice n).owner) ∧
  (∀ s kind n, s.hubCount < (s.sliceE kind n).started + s.drainLim (s.sliceE kind n).owner → exec (.drainLimitExpiry kind n) s = .next s) ∧
  (∀ s n, (s.memSlice n).st = .transit → (s.memSlice n).scrub = true → (s.memSlice n).dest = 0x3F → n < 64 → ∃ t, exec (.scrubComplete n) s = .next t ∧ (t.memSlice n).st = .free ∧
    (∀ o, o < 2 ^ 33 → mbyte t.hbm (slicePa n o) = 0) ∧ ∀ a, (a < slicePa n 0 ∨ slicePa n 0 + 2 ^ 33 ≤ a) → mbyte t.hbm a = mbyte s.hbm a) ∧
  (∀ s n, (s.memSlice n).init = true → (s.memSlice n).queue = none → exec (.confSliceInitComplete n) s =
    .next (((s.wipeSlice n).setMemSlice n { s.memSlice n with init := false }).joinDone 1 n (s.memSlice n).dest none (s.memSlice n).started)) ∧
  (∀ s n y, (s.memSlice n).moveTo = some y → (s.memSlice n).st = .owned → (s.memSlice y).moveFrom = some n → s.epochRoom (s.memSlice n).owner 1 = true →
    ((s.gather 1 n).home n).txns = [] → ((s.gather 1 n).home n).dir = [] → ∃ s2 s5 t,
    exec (.sliceMoveCopyComplete n) s = .next t ∧ t = (s5.awaitEpoch (s.memSlice n).owner (s.memSlice n).queue).capChange ∧
    s2 = ((((s.gather 1 n).copySlice n y).setFrames y (fun i => ((s.gather 1 n).copySlice n y).frame n i)).bumpEpoch (s.memSlice n).owner) ∧
    (n ≠ y → s5 = (((((s2.setMemSlice y { st := .owned, owner := (s.memSlice n).owner, serve := (s.memSlice n).serve }).setMemSlice n { s.memSlice n with st := .transit, dest := 0x3F, epochOut := (s2.folio (s.memSlice n).owner).epoch, moveTo := none, queue := none, started := s.hubCount, moved := (s.memSlice n).serve, serve := if (s.memSlice y).serve.isSome then (s.memSlice y).serve else (s.memSlice y).keep }).clearLat y).rebind
      1 y 2 0x3F (s.memSlice n).owner 0 (s2.folio (s.memSlice n).owner).epoch 0 none (s.memSlice n).started).endWatches n (s.memSlice n).owner)))

/-- SET_PROTECT, losses of members and peers, PEER_SET, LINK_SHARE, FOLIO_QUERY, FOLIO_RING: what completes. One clause for each row. -/
def Obligations.ProtectionPeersAndQueries : Prop :=
  (∀ s s2 q x c b op, TakenBlock s q 0x36 x c s2 b → op = fieldLe b 0 1 → ((op = 1 ∧ fieldLe b 1 1 = 2) ∨ (op = 2 ∧ fieldLe b 1 1 = 5)) →
    (List.range (fieldLe b 1 1)).any (fun i => decide (2 ^ 22 ≤ fieldLe b (8 + 8 * i) 8)) = false → s2.setBad op (setMembers b (fieldLe b 1 1)) = none →
    exec (.setProtect q) s = .next ((s2.formSet op (setMembers b (fieldLe b 1 1))).cmdDone q 0 0)) ∧
  (∀ s s2 q x c b p, TakenBlock s q 0x36 x c s2 b → fieldLe b 0 1 = 0 → (fieldLe b 1 1 = 2 ∨ fieldLe b 1 1 = 5) →
    (List.range (fieldLe b 1 1)).any (fun i => decide (2 ^ 22 ≤ fieldLe b (8 + 8 * i) 8)) = false → s2.prots.find? (fun z => z.members == setMembers b (fieldLe b 1 1)) = some p →
    exec (.setProtect q) s = .next ((s2.dissolve p).cmdDone q 0 0)) ∧
  (∀ s n p, s.wholeSet n 2 = some p → exec (.mirrorMemberLoss n) s = .next ((s.abandonFor n).mirrorLoss p n)) ∧
  (∀ s n p, s.wholeSet n 5 = some p → exec (.codedMemberLoss n) s = .next (s.codedLoss p n)) ∧
  (∀ (s : State) p a n, p.members = [(0, a), (0, n)] → a ≠ n → s.mirrorLoss p a = ((s.putSet p { p with lost := [a] }).takeOver a n).moveSifts a n) ∧
  (∀ s n p, s.setOf n = some p → p.lost ≠ [] → p.lost.contains n = false → ∃ s1 s2, exec (.secondLoss n) s = .next (if (s.memSlice n).owner = 0 then s2.folio0Left else s2) ∧
    s2 = ((foldS (n :: p.lost.filter (fun k => p.members.contains (0, k))) s1 (fun st k => st.setMemSlice k { st.memSlice k with dieLost := true })).endSifts n 0x11).resetForLoss
      (s.memSlice n).owner 2 (n :: p.lost.filter (fun k => p.members.contains (0, k))) ∧
    s1 = (s.putSet p { p with lost := n :: p.lost, pos := none }).loseMember n (s.memSlice n).serve) ∧
  (∀ s i, i ≤ 14 → s.peerValid i = true → s.peerGone i = false → ∃ t, exec (.stitchLinkIdle i) s = .next t ∧ tget i t.peerLost = some s.hubCount) ∧
  (∀ s i f h, tget i s.peerLost = some h → s.hubCount < h + s.drainLim f → exec (.peerLossDrainExpiry i f) s = .next s) ∧
  (∀ s i f h, tget i s.peerLost = some h → h + s.drainLim f ≤ s.hubCount → s.reqs = [] → (s.folio f).guest = false →
    exec (.peerLossDrainExpiry i f) s = .next (s.partnerLoss (s.fld (rPeer i) 0 16) f)) ∧
  (∀ s s1 q x c, Taken s q 0x37 x c s1 → c.arg 0x28 1 ≤ 14 → c.arg 0x30 8 < 2 ^ 32 → bits (c.arg 0x30 8) 28 3 = 0 →
    (maskBits (bits (c.arg 0x30 8) 16 12 ||| s1.peerLinks (c.arg 0x28 1)) 12).any (fun l => ((s1.linkSlice l).st == .owned && (s1.linkSlice l).owner != 0) || (s1.linkSlice l).shared.any (fun f => f != 0)) = false →
    s1.peerBusy (c.arg 0x28 1) = false → ∃ t, exec (.peerSet q) s = .next t ∧ t.reg (rPeer (c.arg 0x28 1)) = c.arg 0x30 8 ∧ tget (c.arg 0x28 1) t.peerLost = none) ∧
  (∀ s s1 q x c, Taken s q 0x38 x c s1 → c.arg 0x28 1 ≤ 11 → (s1.linkSlice (c.arg 0x28 1)).st = .owned → (s1.linkSlice (c.arg 0x28 1)).owner = 0 →
    (maskBits (c.arg 0x30 8) 64).any s1.isConf = false → ∃ t, exec (.linkShare q) s = .next t ∧
    (t.linkSlice (c.arg 0x28 1)) = { s1.linkSlice (c.arg 0x28 1) with shared := maskBits (c.arg 0x30 8) 64 }) ∧
  (∀ s s1 s2 q x c, Taken s q 0x39 x c s1 → c.arg 0x28 1 ≤ 63 → s1.hubWrite x.ctx (c.arg 0x30 8) (s1.folioRecord (c.arg 0x28 1)) = (true, s2) →
    exec (.folioQuery q) s = .next (s2.cmdDone q 0 0)) ∧
  (∀ s s1 q x c e, Taken s q 0x3A x c s1 → 0 < c.arg 0x28 1 → c.arg 0x28 1 ≤ 63 → (s1.folio (c.arg 0x28 1)).valid = true → 0 < c.arg 0x2A 2 → c.arg 0x2A 2 ≤ 1023 →
    tget (c.arg 0x2A 2) s1.evrings = some e → e.folio = c.arg 0x28 1 → ∃ t, exec (.folioRing q) s = .next t ∧
    t.folio (c.arg 0x28 1) = { s1.folio (c.arg 0x28 1) with evring := c.arg 0x2A 2 })

/-- Stitch packets and link training: what completes. Where the spec gives no payload layout the reading is log 25. -/
def Obligations.StitchPacketsAreServed : Prop :=
  (∀ s l h d g, (s.stitch l).up = true → hTy h = 1 → l < 12 → 0 < (s.stitch l).reqPool → s.guestFor l (hFolio h) = some g → ∃ t r, exec (.stitchRead l h d) s = .next t ∧ t.req? s.nextId = some r ∧
    r.kind = (if hCoh h then .glance else .rawGet) ∧ r.issuer = .stitch l (hTag h) ∧ r.folio = g ∧ r.epoch = (s.folio g).epoch ∧ r.pa = hAddr h ∧ r.len = 64 * hLen h ∧
    (t.stitch l).reqPool = (s.stitch l).reqPool - 1 ∧ SameMemory s t) ∧
  (∀ s l h d g, (s.stitch l).up = true → hTy h = 2 → l < 12 → 0 < (s.stitch l).reqPool → s.guestFor l (hFolio h) = some g → ∃ t r, exec (.stitchWrite l h d) s = .next t ∧ t.req? s.nextId = some r ∧
    r.kind = (if hCoh h then .putHome else .rawPut) ∧ r.folio = g ∧ r.pa = hAddr h ∧ r.data = d ∧ r.len = d.length ∧ r.atomic = false ∧ SameMemory s t) ∧
  (∀ s l h d g, (s.stitch l).up = true → hTy h = 3 → l < 12 → 0 < (s.stitch l).reqPool → s.guestFor l (hFolio h) = some g → ∃ t r, exec (.stitchAtomic l h d) s = .next t ∧ t.req? s.nextId = some r ∧
    r.kind = .putHome ∧ r.folio = g ∧ r.pa = hAddr h ∧ r.atomic = true ∧ SameMemory s t) ∧
  (∀ s l h d k c, (k, c) ∈ [(1, Instr.stitchRead l h d), (2, .stitchWrite l h d), (3, .stitchAtomic l h d), (4, .stitchFenceOffer l h d), (6, .stitchMirrorWrite l h d)] →
    (s.stitch l).up = true → hTy h = k → l < 12 → 0 < (s.stitch l).reqPool → s.guestFor l (hFolio h) = none → exec c s = .next (s.answerPacket l h 1 [])) ∧
  (∀ s l h d g, (s.stitch l).up = true → hTy h = 4 → l < 12 → 0 < (s.stitch l).reqPool → s.guestFor l (hFolio h) = some g → s.admitsFolio g (s.folio g).epoch (hAddr h) true = true →
    exec (.stitchFenceOffer l h d) s = .next ((s.offerWord (hAddr h) (BitVec.ofNat 32 (fieldLe d 0 4))).2.2.answerPacket l h
      (stitchStatus (s.offerWord (hAddr h) (BitVec.ofNat 32 (fieldLe d 0 4))).1) [])) ∧
  (∀ s l h d, (s.stitch l).up = true → hTy h = 5 → l < 12 → 0 < (s.stitch l).reqPool → exec (.stitchBarrier l h d) s = .next ((s.useFree.useFree.useFree.arrive (hCtx h) (s.freeNat % 16)
    (s.useFree.freeNat % 65536) s.useFree.useFree.freeNat).answerPacket l h 0 [])) ∧
  (∀ s l h d g, (s.stitch l).up = true → hTy h = 6 → l < 12 → 0 < (s.stitch l).reqPool → s.guestFor l (hFolio h) = some g → (s.memSlice (hAddr h / 2 ^ 33)).st = .owned →
    (s.memSlice (hAddr h / 2 ^ 33)).owner = g → ∃ t, exec (.stitchMirrorWrite l h d) s = .next t ∧
    t.hbm = mwrite s.hbm (slicePa (hAddr h / 2 ^ 33) (hAddr h % 2 ^ 33)) d ∧ t.host = s.host ∧
    ∀ a, (a < slicePa (hAddr h / 2 ^ 33) (hAddr h % 2 ^ 33) ∨ slicePa (hAddr h / 2 ^ 33) (hAddr h % 2 ^ 33) + d.length ≤ a) → mbyte t.hbm a = mbyte s.hbm a) ∧
  (∀ s l h d, (s.stitch l).up = true → hTy h = 8 → l < 12 → exec (.stitchCompletionData l h d) s = .next (s.sink l h d)) ∧
  (∀ s l h d, (s.stitch l).up = true → hTy h = 9 → l < 12 → exec (.stitchCompletion l h d) s = .next (s.sink l h [])) ∧
  (∀ s l h d, (s.stitch l).up = true → hTy h = 0x0A → l < 12 → (s.stitch l).reqCredit < 256 → (s.stitch l).waiting = [] → ∃ t, exec (.stitchCreditReturn l h d) s = .next t ∧
    (t.stitch l).reqCredit = (s.stitch l).reqCredit + 1 ∧ (t.stitch l).cplCredit = (s.stitch l).cplCredit ∧ ∀ k, k ≠ l → t.stitch k = s.stitch k) ∧
  (∀ s l h d, (s.stitch l).up = true → l < 12 → knownType (hTy h) = false → ∃ t, exec (.stitchDiscard l h d) s = .next t ∧ OnlyRegs s t ∧
    t.fld (rStc l) 32 16 = min (2 ^ 16 - 1) (s.fld (rStc l) 32 16 + 1)) ∧
  (∀ s l, (s.stitch l).up = true → l < 12 → ∃ t, exec (.stitchLinkReinit l) s = .next t ∧ (t.stitch l).up = false ∧
    t.fld (rStc l) 8 8 = min (2 ^ 8 - 1) (s.fld (rStc l) 8 8 + 1)) ∧
  (∀ s l k, l < 12 → s.clasp.rails = true → (s.fabric (l / 6)).failed = false → (s.stitch l).waiting = [] → ∃ t, exec (.stitchLinkTrained l k) s = .next t ∧ (t.stitch l).up = true ∧
    (t.stitch l).idle = false ∧ (t.stitch l).lanes = min 8 k ∧ (t.stitch l).reqCredit = 256 ∧ (t.stitch l).cplCredit = 256)

/-- DIE_FAILURE, RAIL_RESET_TRIP, UNCORRECTABLE_UNIT_ERROR, BOOKS_CHECK: what completes. R49's steps end with the die's rails gated; the trip's code is a free value (log 6). -/
def Obligations.DieFailuresAndUnitErrors : Prop :=
  (∀ s d k, exec (.dieFailure d k) s = .next (s.dieFail d k)) ∧
  (∀ s d k, (1 < d ∨ s.clasp.rails = false ∨ (s.fabric d).failed = true) → exec (.dieFailure d k) s = .next s) ∧
  (∀ s d k, d ≤ 1 → s.clasp.rails = true → (s.fabric d).failed = false → s.clasp.inReset = true →
    exec (.dieFailure d k) s = .next ((s.hwError 18 10 k d 0 0x3F 0xFFFF).gateDie d)) ∧
  (∀ (s : State) d k, k < 8 → d ≤ 1 → ((s.gateDie d).fabric d).failed = true ∧ ((s.gateDie d).fabric d).running = false ∧ ((s.gateDie d).region (8 * d + k)).powered = false) ∧
  (∀ s k, k < 16 → exec (.railResetTrip k) s = .next (s.useFree.dieFail (k / 8) (s.freeNat % 256))) ∧
  (∀ s k, k = 16 ∨ k = 17 → exec (.railResetTrip k) s = .next (s.useFree.dieFail (k - 16) (s.freeNat % 256))) ∧
  (∀ s u k w a, s.clasp.rails = true → u ≠ 3 →
    exec (.uncorrectableUnitError u k w a false) s = .next (s.hwError (unitIsland u w) u k w a 0x3F 0xFFFF)) ∧
  (∀ s k w a, s.clasp.rails = true → exec (.uncorrectableUnitError 9 k w a true) s =
    .next { s.hwError 18 9 k w a 0x3F 0xFFFF with link := { (s.hwError 18 9 k w a 0x3F 0xFFFF).link with viral := true } }) ∧
  (∀ s u k w a, s.clasp.rails = true → u ∈ [2, 4, 6, 7, 8] →
    exec (.uncorrectableUnitError u k w a true) s = .next ((s.hwError (unitIsland u w) u k w a 0x3F 0xFFFF).dieFail (bits w 24 8) k)) ∧
  (∀ (s x : State) k w a m W, s.clasp.rails = true → a < 2 ^ 39 → s.server (a / 2 ^ 33) = some m →
    W = m / 4 / 8 * 2 ^ 24 + m / 4 % 8 * 2 ^ 16 + (4 * (m % 4) + a / 256 % 4) → x = s.hwError (unitIsland 3 W) 3 k W a 0x3F 0xFFFF →
    exec (.uncorrectableUnitError 3 k w a false) s = .next { x with poison := sadd (x.physOf (lineOf a)) x.poison }) ∧
  (∀ s, s.clasp.rails = true → s.booksAt + 1000000 ≤ s.hubCount → s.booksOk = false →
    exec .booksCheck s = .next ({ s with booksAt := s.hubCount }.hwError 18 9 1 0 0 0x3F 0xFFFF)) ∧
  (∀ s, s.clasp.rails = true → s.booksAt + 1000000 ≤ s.hubCount → s.booksOk = true → exec .booksCheck s = .next { s with booksAt := s.hubCount }) ∧
  (∀ s, s.hubCount < s.booksAt + 1000000 → exec .booksCheck s = .next s)

/-- The reset commands, the watchdogs and package standby: what completes. One clause for each row; bounds are the values in force of the watchdog registers. -/
def Obligations.ResetsWatchdogsAndStandby : Prop :=
  (∀ s s1 q x c, Taken s q 0x68 x c s1 → s1.engineBad (c.arg 0x28 1) (c.arg 0x2C 4) = none →
    exec (.engineReset q) s = .next ((if c.arg 0x28 1 = 0 then s1.resetCore (engineCore (c.arg 0x2C 4)) 0 else if c.arg 0x28 1 = 1 then s1.resetCopy (c.arg 0x2C 4) 0 else s1.resetUnit (c.arg 0x2C 4) 0).cmdDone q 0 0)) ∧
  (∀ s s1 q x c, Taken s q 0x69 x c s1 → c.arg 0x28 1 ≠ 0 → c.arg 0x28 1 ≤ 63 → (s1.folio (c.arg 0x28 1)).valid = true →
    exec (.folioReset q) s = .next ((s1.startFolioReset (c.arg 0x28 1) 0 (some q)).setPhase q (.running 0))) ∧
  (∀ s s1 q x c, Taken s q 0x69 x c s1 → c.arg 0x28 1 = 0 → exec (.folioReset q) s = .next (s1.cmdDone q 0x0A 0)) ∧
  (∀ s f reason q h, (s.folio f).resetting = some (reason, q, h) → h + 1000000 ≤ s.hubCount → reason ≠ 1 →
    exec (.folioResetDrainExpiry f) s = .next (((s.loseFolio f).folioReset f reason h).endFor q 0)) ∧
  (∀ s f q h, (s.folio f).resetting = some (1, q, h) → h + 1000000 ≤ s.hubCount →
    exec (.folioResetDrainExpiry f) s = .next ((((s.loseFolio f).folioReset f 1 h).endFor q 0).emit (.flrDone f))) ∧
  (∀ s f reason q h, (s.folio f).resetting = some (reason, q, h) → s.hubCount < h + 1000000 → exec (.folioResetDrainExpiry f) s = .next s) ∧
  (∀ s s1 q x c, Taken s q 0x6A x c s1 → exec (.pkgReset q) s = .next (s1.pkgReset 0 false)) ∧
  (∀ s ctx y a q, s.ctx? ctx = some y → y.act = some a → a.queue = some q → y.rt = false → s.fld rWdogCtl 0 16 ≠ 0 →
    a.release + 1000000 * s.fld rWdogCtl 0 16 ≤ s.hubCount →
    exec (.watchdogAct ctx) s = .next ((s.watchdogRec 1 q (s.hubCount - a.release) y.folio ctx).ctxReset ctx 0x0F 2)) ∧
  (∀ s q x, s.queue? q = some x → x.phase = .waiting → x.waitNoted = false → s.fld rWdogCtl 16 12 ≠ 0 → x.started + 1000000 * s.fld rWdogCtl 16 12 ≤ s.hubCount →
    exec (.watchdogCmdwait q) s = .next ((s.watchdogRec 2 q (s.hubCount - x.started) (s.queueFolio x) x.ctx).setQueue q { x with waitNoted := true })) ∧
  (∀ s core k x, (k, x) ∈ (s.core core).slots → s.ready core k x = true → (s.core core).lastRet + 1000 * s.coreUs ≤ s.hubCount →
    exec (.watchdogCore core) s = .next ((s.watchdogRec 3 (engineWord core) (s.hubCount - (s.core core).lastRet) 0x3F 0xFFFF).resetCore core 4)) ∧
  (∀ s id q c k, s.req? id = some q → q.status = none → q.issuer = .scalar c k → s.toLeaving q = false → q.born + 1000000 * s.reqMs ≤ s.hubCount → ∃ s2 : State,
    exec (.watchdogReq id) s = .next ((s2.hwError 18 (s2.freeNat % 11) (s2.useFree.freeNat % 256) (engineWord c) q.pa q.folio q.ctx).useFree.useFree) ∧
    s2 = (s.watchdogRec 4 (engineWord c) (s.hubCount - q.born) q.folio q.ctx).finish id q .lost []) ∧
  (∀ s, s.clasp.rails = true → s.clasp.boot = .running → exec .watchdogMgmt s = .next ((s.watchdogRec 5 0 100000000 0x3F 0xFFFF).pkgReset 6 false)) ∧
  (∀ s, s.clasp.aux = true → ∃ t, exec .watchdogClasp s = .next t ∧ t.clasp.cycleReq = true) ∧
  (∀ s step n, s.clasp.rails = true → exec (.watchdogStep step n) s = .next (((s.watchdogRec 7 (n % 2 ^ 32) s.freeNat 0x3F 0xFFFF).useFree).escalate step n)) ∧
  (∀ s s1 q x c, Taken s q 0x6B x c s1 → s1.residents = [] → (∀ z, z ∈ s1.queues → z.1 = 0 ∨ z.2.cmds = []) → ∃ t, exec (.pkgStandby q) s = .next t ∧
    t.standby.isSome = true ∧ t.cores = [] ∧ ∀ i, (t.region i).powered = false) ∧
  (∀ s saved, s.standby = some saved → s.woken = true → ∃ t, exec .standbyExit s = .next t ∧ t.standby = none ∧ t.clasp.wake = false) ∧
  (∀ s saved, s.standby = some saved → s.woken = false → exec .standbyExit s = .next s)

/-- Power-on, the image, start-up, self-test and power loss: what completes. One clause for each row of the power-on sequence. -/
def Obligations.PowerOnAndStartUp : Prop :=
  (∀ s b, s.clasp.aux = false → exec (.auxPowerOn b) s = .next { s with clasp := { s.clasp with aux := true, forced := b, boot := if b then .recovery else .verifying } }) ∧
  (∀ s, s.clasp.boot = .verifying → s.clasp.flash = none → ∃ t, exec .imageVerified s = .next t ∧ t.clasp.boot = .running ∧ t.clasp.svn = s.clasp.fuseSvn ∧ t.clasp.fail = 0) ∧
  (∀ s b, s.clasp.boot = .verifying → s.clasp.flash = some b → ∃ t, exec .imageVerified s = .next t ∧ (s.imgFail b = 0 → t.clasp.boot = .running ∧ t.clasp.svn = fieldLe b 8 2) ∧
    (s.imgFail b ≠ 0 → t.clasp.boot = .recovery ∧ t.clasp.fail = s.imgFail b)) ∧
  (∀ s, s.clasp.boot = .flashing → ∃ t, exec .flashWriteDone s = .next t ∧ t.clasp.flash = some s.recvImage ∧ t.clasp.boot = .running ∧ t.clasp.svn = fieldLe s.recvImage 8 2) ∧
  (∀ s, s.clasp.aux = true → exec .hoursUpdate s = .next { s with clasp := { s.clasp with hours := s.clasp.hours + 24 } }) ∧
  (∀ s a, s.clasp.aux = true → exec (.dynamicAddressAssign a) s = .next { s with clasp := { s.clasp with dynAddr := some a } }) ∧
  (∀ s mv, s.clasp.aux = true → s.clasp.boot = .running → s.clasp.pwrgood = false → s.power.tripped = none → 47000 < mv →
    exec (.pwrgoodAssert mv) s = .next { s with clasp := { s.clasp with pwrgood := true }, power := { s.power with busMv := mv } }) ∧
  (∀ s, s.clasp.pwrgood = true → s.clasp.rails = false → ∃ t, exec .railsUp s = .next t ∧ t.clasp.rails = true ∧ t.clasp.inReset = true ∧ t.clasp.stitchWait = true ∧
    (∀ i, i < 16 → (t.region i).powered = true) ∧ (∀ i, i < 16 → (t.region i).setMhz = s.safeMhz i) ∧ (∀ d, d < 2 → (t.fabric d).running = true)) ∧
  (∀ s, s.clasp.rails = true → s.clasp.hbmUp = false → exec .hbmTrained s = .next { s with clasp := { s.clasp with hbmUp := true } }) ∧
  (∀ s, s.clasp.rails = true → s.clasp.stitchWait = true → 300000000 ≤ s.hubCount → exec .stitchWaitTimeout s = .next { s with clasp := { s.clasp with stitchWait := false } }) ∧
  (∀ s ds cs ms, s.clasp.rails = true → s.clasp.hbmUp = true → s.clasp.stitchWait = false → s.clasp.inReset = true → ∃ t, exec (.selfTestComplete ds cs ms true) s = .next t ∧
    t.clasp.inReset = false ∧ t.capState = SelfTest.state { dies := ds ++ [0, 1].filter (fun d => (s.fabric d).failed && !ds.contains d), cores := cs, mems := ms } ∧
    (t.folio 0).valid = true ∧ t.link.retry = false) ∧
  (∀ s ds cs ms, s.clasp.rails = true → s.clasp.hbmUp = true → s.clasp.stitchWait = false → s.clasp.inReset = true →
    exec (.selfTestComplete ds cs ms false) s = .next { s with link := { perstN := s.link.perstN }, clasp := { s.clasp with hubBad := true } }) ∧
  (∀ s mv, mv < 42000 → s.clasp.pwrgood = true → exec (.busUndervoltage mv) s = .next ({ s with power := { s.power with busMv := mv } }).powerDown) ∧
  (∀ s k, s.clasp.pwrgood = true → exec (.powerTrip k) s = .next (s.trip k) ∧ (s.trip k).power.tripped = some k ∧ (s.trip k).clasp.cycleReq = true) ∧
  (∀ s i temp, 115 ≤ temp → (s.region i).powered = true → ∃ t, exec (.thermtrip i temp) s = .next t ∧ t.clasp.thermtripN = false ∧ t.power.tripped = some 4) ∧
  (∀ s, s.clasp.aux = true → ∃ t, exec .auxPowerLoss s = .next t ∧ t.clasp.aux = false ∧ t.fuses = s.fuses ∧ t.clasp.fuseSvn = s.clasp.fuseSvn ∧
    (s.clasp.boot ≠ .flashing → t.clasp.flash = s.clasp.flash) ∧ t.host = s.host)

/-- The cyclic schedule: what completes. One clause for each row; frames run on hub time (log 83). -/
def Obligations.CyclicScheduleRuns : Prop :=
  (∀ s s1 s2 q x c b, Taken s q 0x54 x c s1 → 0 < c.arg 0x30 2 → c.arg 0x30 2 ≤ 256 → s1.hubRead 0 (c.arg 0x28 8) (16 * c.arg 0x30 2) = (some b, s2) →
    s2.entryBad (entriesOf b) = none → ∃ t, exec (.cyclicLoad q) s = .next t ∧ t.cyclic = { s2.cyclic with newTable := some (b, c.arg 0x30 2) }) ∧
  (∀ s s1 q x c, Taken s q 0x55 x c s1 → exec (.cyclicEnter q) s = .next (({ s1 with cyclic := { s1.cyclic with enterQ := some q } }).setPhase q (.running 0))) ∧
  (∀ s s1 q x c, Taken s q 0x56 x c s1 → exec (.cyclicExit q) s = .next (({ s1 with cyclic := { s1.cyclic with exitQ := some q } }).setPhase q (.running 0))) ∧
  (∀ s, s.clasp.rails = true → s.cyclic.frameStart + 62500 ≤ s.hubCount → (s.cyclic.minor + 1) % 16 ≠ 0 → ∃ t, exec .minorFrameBoundary s = .next t ∧
    t.cyclic.minor = (s.cyclic.minor + 1) % 16 ∧ t.cyclic.frameStart = s.cyclic.frameStart + 62500 ∧ t.cyclic.mode = s.cyclic.mode) ∧
  (∀ s q, s.clasp.rails = true → s.cyclic.frameStart + 62500 ≤ s.hubCount → s.cyclic.minor = 15 → s.cyclic.enterQ = some q → ∃ t, exec .minorFrameBoundary s = .next t ∧
    t.cyclic.mode = true ∧ t.cyclic.major = 0 ∧ t.cyclic.minor = 0 ∧ t.cyclic.enterQ = none) ∧
  (∀ s q, s.clasp.rails = true → s.cyclic.frameStart + 62500 ≤ s.hubCount → s.cyclic.minor = 15 → s.cyclic.enterQ = none → s.cyclic.exitQ = some q →
    ∃ t, exec .minorFrameBoundary s = .next t ∧ t.cyclic.mode = false ∧ t.cyclic.exitQ = none) ∧
  (∀ s i e p k u, s.cyclic.table[i]? = some e → e.due = true → s.cyclic.mode = true → e.after = false → e.kind = 1 → exec (.cyclicEntryStart i p k u) s = .next (s.launchEntry i e)) ∧
  (∀ s i e p k u, s.cyclic.table[i]? = some e → e.due = true → s.cyclic.mode = true → e.after = false → e.kind = 2 →
    exec (.cyclicEntryStart i p k u) s = .next ((s.setEntry i { e with due := false, ended := true, began := s.hubCount }).signalEntry e)) ∧
  (∀ s i e p k u, s.cyclic.table[i]? = some e → e.due = true → s.cyclic.mode = true → e.after = false → e.kind = 3 →
    exec (.cyclicEntryStart i p k u) s = .next ((s.setEntry i { e with due := false, ended := true, began := s.hubCount }).selfTestEntry e p k u)) ∧
  (∀ s i e, s.cyclic.table[i]? = some e → e.running = true → s.budgetSpent e = true → ∃ s1, s1 = (s.ctxResetFree e.ctx 0x0F).entryEnded i ∧ exec (.cyclicOverrun i) s =
    .next ((s1.ringPut 0 (s1.record tyCyclicOverrun 0 0 e.ctx 18 (le 1 i ++ le 1 e.minor))).bumpFld rCyclicStat 32 16 1))

/-- The host link, CXL.mem, interrupts, function-level resets: what completes. One clause for each row; the data of a poisoned answer is a free value (log 6). -/
def Obligations.HostLinkEvents : Prop :=
  (∀ s w v x, s.clasp.rails = true → s.link.perstN = true → s.link.up = false → s.clasp.hubBad = false → (w = 8 ∨ w = 16) → (v = 4 ∨ v = 5) → ∃ t, exec (.linkTraining w v x) s = .next t ∧
    t.link.up = true ∧ t.link.cxl = x ∧ t.link.width = w ∧ t.link.speed = v) ∧
  (∀ s w v x, s.clasp.rails = true → s.link.perstN = true → s.link.up = false → s.clasp.hubBad = false → (w ≠ 8 ∧ w ≠ 16) ∨ (v ≠ 4 ∧ v ≠ 5) →
    exec (.linkTraining w v x) s = .next (s.emit (.linkOutcome w v))) ∧
  (∀ s w v x, s.clasp.hubBad = true → exec (.linkTraining w v x) s = .next s) ∧
  (∀ s, s.link.up = true → ∃ t, exec .hostLinkDown s = .next t ∧ t.link.up = false ∧ t.link.cxl = false) ∧
  (∀ s, ∃ t, exec .perstNAssert s = .next t ∧ t.link.perstN = false ∧ t.link.up = false) ∧
  (∀ s, exec .perstNDeassert s = .next { s with link := { s.link with perstN := true } }) ∧
  (∀ s b, s.link.up = true → s.link.cxl = true → exec (.hdmDecoderCommit b) s = .next { s with link := { s.link with hdmBase := some b } }) ∧
  (∀ s h a d, s.hdmAddr h = some a → s.clasp.inReset = false → s.lineIdle a = true → s.hdmRefused a false = none → s.heldLine (lineOf a) = none → s.rawRead (lineOf a) 64 = (.ok, d) →
    exec (.cxlMemRead h) s = .next (s.emit (.memRead h false d))) ∧
  (∀ s h a, s.hdmAddr h = some a → s.clasp.inReset = false → s.lineIdle a = true → s.hdmRefused a false = none → (s.heldLine (lineOf a)).isSome = true →
    exec (.cxlMemRead h) s = .next (s.emit (.memRead h false (s.curLine (lineOf a))))) ∧
  (∀ (s s1 : State) h a r, s.hdmAddr h = some a → s.clasp.inReset = false → s.lineIdle a = true → s.hdmRefused a false = some r → s1 = s.hostRefused a r false →
    exec (.cxlMemRead h) s = .next ((s1.emit (.memRead h true (s1.freeBytes 64))).useFree)) ∧
  (∀ s h a o d, s.hdmAddr h = some a → s.clasp.inReset = false → s.lineIdle a = true → s.hdmRefused a true = none → d.take (64 - o) ≠ [] →
    exec (.cxlMemWrite h o d) s = .next (((s.putLine (lineOf a + o) (d.take (64 - o))).2).wake (lineOf a))) ∧
  (∀ s h a o d r, s.hdmAddr h = some a → s.clasp.inReset = false → s.lineIdle a = true → s.hdmRefused a true = some r → d.take (64 - o) ≠ [] →
    exec (.cxlMemWrite h o d) s = .next (s.hostRefused a r true)) ∧
  (∀ s f v, v < (if f = 0 then 256 else 32) → s.link.unmasked.contains (f, v) = false → ∃ t, exec (.msixUnmask f v) s = .next t ∧ t.link.unmasked.contains (f, v) = true ∧
    t.link.msixPend.contains (f, v) = false ∧ (s.link.msixPend.contains (f, v) = true → s.vectorDue f v = true → t.out = s.out ++ [.msix f v])) ∧
  (∀ s f, f ≠ 0 → f ≤ 63 → s.link.up = true → s.link.cxl = true → (s.folio f).valid = true → exec (.vfFlr f) s = .next (s.startFolioReset f 1 none)) ∧
  (∀ s f, f ≠ 0 → f ≤ 63 → s.link.up = true → s.link.cxl = true → (s.folio f).valid = false → exec (.vfFlr f) s = .next (s.emit (.flrDone f))) ∧
  (∀ s, s.link.up = true → s.clasp.inReset = false → exec .pfFlr s = .next (s.pkgReset 1 false))

/-- CXL.cache completions, timeouts, snoops, ATS invalidations and host writes to fence words: what completes. One clause for each row. -/
def Obligations.HostAnswersAndSnoops : Prop :=
  (∀ s id q d, s.req? id = some q → q.atHost = true → s.link.up = true → s.link.cxl = true →
    exec (.cxlCacheCompletion id true d) s = .next (s.finish id q .hostErr []).atsSettle ∧
    (q.bias = 1 → exec (.cxlCacheCompletion id false d) s = .next (s.setReq id { q with bias := 2 })) ∧
    (q.bias ≠ 1 → exec (.cxlCacheCompletion id false d) s = .next (s.hostAnswer id q d).atsSettle)) ∧
  (∀ s id q, s.req? id = some q → q.atHost = true → q.sentAt + 1000000 * s.ctoMs ≤ s.hubCount →
    exec (.hostTimeout id) s = .next ((s.ringPut 0 (s.record tyHostTimeout q.folio 0 0xFFFF 18
      (le 8 q.pa ++ le 1 0 ++ le 1 q.folio ++ zeros 6 ++ le 8 (s.hubCount - q.sentAt)))).finish id q .hostErr []).atsSettle) ∧
  (∀ s id q, s.req? id = some q → s.hubCount < q.sentAt + 1000000 * s.ctoMs → exec (.hostTimeout id) s = .next s) ∧
  (∀ s a, hostBase ≤ a → a < 2 ^ 46 → s.link.up = true → s.link.cxl = true → tget (lineOf a) s.hostHome.txns = none →
    exec (.snpCur a) s = .next (s.snoopAnswer (lineOf a)) ∧ exec (.snpInv a) s = .next (((s.snoopAnswer (lineOf a)).giveHost (lineOf a)).dropLine (lineOf a))) ∧
  (∀ s a, hostBase ≤ a → a < 2 ^ 46 → s.link.up = true → s.link.cxl = true → tget (lineOf a) s.hostHome.txns = none → tget (lineOf a) s.hostHome.dir = none → ∃ t,
    exec (.snpData a) s = .next t ∧ t.host = ((s.snoopAnswer (lineOf a)).giveHost (lineOf a)).host ∧
    (∀ n l, tget (lineOf a) (t.cache n).lines = some l → l.st = .s ∧ l.data = s.curLine (lineOf a))) ∧
  (∀ s f a n, s.link.up = true → ∃ t, exec (.atsInvalidation f a n) s = .next t ∧ ∀ p g, (f, p, g) ∈ t.link.ats → ¬ (a / 4096 ≤ p ∧ p < cdiv (a + n) 4096)) ∧
  (∀ s f a n, s.link.up = true → s.reqs = [] → s.link.atsWait = [] → ∃ t, exec (.atsInvalidation f a n) s = .next t ∧ t.out = s.out ++ [.atsDone f a]) ∧
  (∀ s a v, hostBase ≤ a → s.hubWatch.any (fun e => lineOf e.pa == lineOf a) = true → ∃ s2, s2 = (s.giveHost (lineOf a)).dropLine (lineOf a) ∧
    exec (.hostFenceWordSnoop a v) s = .next ((({ s2 with host := mwrite s2.host (a - hostBase) (le 8 v.toNat) }).watchLine (lineOf a)).wake (lineOf a)))

/-- DOE, CDAT and SPDM requests: what completes. Versions, capabilities and algorithms are free values (log 6); type numbers and error codes are presumed (log 34). -/
def Obligations.MailboxAnswers : Prop :=
  (∀ s c, c ∈ [Instr.doeDiscovery 0, .doeDiscovery 1, .doeDiscovery 2, .doeDiscovery 3] → s.link.up = true → s.link.retry = false → ∃ t d, exec c s = .next t ∧ t = s.emit (.doe d) ∧ d.length = 4) ∧
  (∀ (s : State) h, s.link.up = true → s.link.retry = false → exec (.cdatAccess h) s = .next (s.emit (.doe (Config.cdat h)))) ∧
  (∀ s r c, c ∈ [Instr.getVersion r, .getCapabilities r, .negotiateAlgorithms r] → s.link.up = true → s.link.retry = false →
    exec c s = .next (s.emit (.doe (s.freeBytes 8))).useFree) ∧
  (∀ s r, s.link.up = true → s.link.retry = false → exec (.getDigests r) s = .next (s.emit (.doe (Config.sha3 Config.certChain))) ∧
    exec (.getCertificate r) s = .next (s.emit (.doe Config.certChain)) ∧ exec (.challenge r) s = .next (s.emit (.doe (Config.aliasSign (Config.sha3 r)))) ∧
    exec (.getMeasurements r) s = .next (s.emit (.doe ([1, 2, 3, 4, 5].flatMap s.measured ++ Config.aliasSign (Config.sha3 (r ++ [1, 2, 3, 4, 5].flatMap s.measured)))))) ∧
  (∀ s r, s.link.up = true → s.link.retry = false → ∃ t d, exec (.spdmUnsupported r) s = .next t ∧ t = s.emit (.doe d) ∧ d.take 2 = [0x12, 0x7F]) ∧
  (∀ s r c, c ∈ [Instr.getVersion r, .getCapabilities r, .negotiateAlgorithms r, .getDigests r, .getCertificate r, .challenge r, .getMeasurements r, .spdmUnsupported r, .cdatAccess 0, .doeDiscovery 0] →
    (s.link.up = false ∨ s.link.retry = true) → exec c s = .next s)

/-- CONF_KEYS, KEY_ROTATE, KEY_ROTATE_DONE and ATTEST: what completes. A folio that is not confidential ends BADSTATE. -/
def Obligations.KeysAndAttestation : Prop :=
  (∀ s s1 s2 q x c b, Taken s q 0x60 x c s1 → s1.confArg (c.arg 0x28 1) = none → c.arg 0x29 1 ≤ 3 → c.arg 0x30 8 ≠ 0 → s1.hubRead 0 (c.arg 0x30 8) 2592 = (some b, s2) →
    ∃ t, exec (.confKeys q) s = .next t ∧ t.folio (c.arg 0x28 1) = { s2.folio (c.arg 0x28 1) with qkeys := tput (c.arg 0x29 1) b (s2.folio (c.arg 0x28 1)).qkeys }) ∧
  (∀ s s1 q x c, Taken s q 0x60 x c s1 → s1.confArg (c.arg 0x28 1) = none → c.arg 0x29 1 ≤ 3 → c.arg 0x30 8 = 0 → ∃ t, exec (.confKeys q) s = .next t ∧
    tget (c.arg 0x29 1) (t.folio (c.arg 0x28 1)).qkeys = none ∧ ∀ k, k ≠ c.arg 0x29 1 → tget k (t.folio (c.arg 0x28 1)).qkeys = tget k (s1.folio (c.arg 0x28 1)).qkeys) ∧
  (∀ s s1 q x c, Taken s q 0x61 x c s1 → s1.confArg (c.arg 0x28 1) = none → (s1.folio (c.arg 0x28 1)).prevKeys = false → ∃ t, exec (.keyRotate q) s = .next t ∧
    (t.folio (c.arg 0x28 1)).keyEpoch = ((s1.folio (c.arg 0x28 1)).keyEpoch + 1) % 256 ∧ (t.folio (c.arg 0x28 1)).prevKeys = true ∧
    (t.folio (c.arg 0x28 1)).rotQueue = some q ∧ SameMemory s1 t) ∧
  (∀ s s1 q x c, Taken s q 0x61 x c s1 → s1.confArg (c.arg 0x28 1) = none → (s1.folio (c.arg 0x28 1)).prevKeys = true → exec (.keyRotate q) s = .next (s1.cmdDone q 5 0)) ∧
  (∀ s f q, (s.folio f).rotQueue = some q → s.oldInflight f = 0 → ∃ s1, s1 = foldS (s.folioMems f) s (fun st m =>
      let st1 := if (st.memSlice m).rotAt.isSome then st.rotateUnits m rotEnd else st
      st1.setMemSlice m { st1.memSlice m with rotAt := none }) ∧
    exec (.keyRotateDone f) s = .next ((s1.setFolio f { s.folio f with prevKeys := false, oldKeys := {}, rotQueue := none }).cmdDone q 0 0)) ∧
  (∀ s f q, (s.folio f).rotQueue = some q → s.oldInflight f ≠ 0 → exec (.keyRotateDone f) s = .next s) ∧
  (∀ s s1 s2 s3 q x c n, Taken s q 0x62 x c s1 → x.type = .mgmt → s1.folioBad (c.arg 0x28 1) 0x28 = none → c.arg 0x38 8 ≠ 0 → c.index.isSome = true →
    s1.hubRead x.ctx (c.arg 0x30 8) 32 = (some n, s2) → s2.hubWrite x.ctx (c.arg 0x38 8) (s2.attestReport (c.arg 0x28 1) n) = (true, s3) →
    exec (.attest q) s = .next (s3.cmdDone q 0 0))

/-- Urgency levels and spine lanes: what completes. One clause for each row and outcome. The windows of 1 ms are fixed ones and the lost die's code is a free value (logs 6 and 86). -/
def Obligations.UrgencyAndSpine : Prop :=
  (∀ s m fill, s.isMaster m = true → ∃ t, exec (.urgencyLevelChange m fill) s = .next t ∧ t.urgLevel m = urgNext (s.urgThr m) (s.urgLevel m) (s.urgFill m fill) ∧
    (∀ j, j ≠ m → t.urgLevel j = s.urgLevel j) ∧ t.regs = s.regs ∧ t.out = s.out ∧ SameMemory s t) ∧
  (∀ thr level fill, (thr.2.1 ≤ fill → urgNext thr level fill = 2) ∧ (fill < thr.2.1 → level < 2 → thr.1 ≤ fill → urgNext thr level fill = 1) ∧
    (fill < thr.1 → fill < thr.2.1 → level = 0 → urgNext thr level fill = 0)) ∧
  (∀ s m fill, s.isMaster m = true → s.urgLevel m ≠ 2 → urgNext (s.urgThr m) (s.urgLevel m) (s.urgFill m fill) = 2 → ∃ t, exec (.urgencyLevelChange m fill) s = .next t ∧ tget m t.urgSince = some s.hubCount) ∧
  (∀ s m k a o since, tget m s.urgSince = some since → s.urgLevel m = 2 → since + 100000 ≤ s.hubCount → s.urgNoted.contains m = false → ∃ t, exec (.urgencyHeld m k a o) s = .next t ∧
    t.urgNoted.contains m = true ∧ t.urgency = s.urgency ∧ exec (.urgencyHeld m k a o) t = .next t) ∧
  (∀ s d w, d ≤ 1 → s.clasp.rails = true → exec (.fabQosWtWrite d w) s = .next (s.writeFld (rQosWt d) 0 32 w.toNat)) ∧
  (∀ s d l, d ≤ 1 → l ≤ 2 → (s.lane l).up = true → s.spineOn = true → ∃ t, exec (.spineReplay d l) s = .next t ∧
    ((t.lane l).up = false ↔ (s.lane l).window = s.hubCount / 1000000 ∧ 16 ≤ (s.lane l).replays) ∧ (∀ j, j ≠ l → t.lane j = s.lane j) ∧ t.spineFailed = false) ∧
  (∀ s l, l ≤ 2 → (s.lane l).up = true → s.spineOn = true → ∃ t, exec (.spineLaneReinit l) s = .next t ∧ t.lane l = { s.lane l with up := false } ∧ ∀ j, j ≠ l → t.lane j = s.lane j) ∧
  (∀ s l, l ≤ 2 → (s.lane l).up = false → s.spineOn = true → exec (.spineReinitDone l true) s =
    .next { s.setLane l { s.lane l with up := true, replays := 0, fails := 0 } with net := s.net.renewLane l }) ∧
  (∀ s l, l ≤ 2 → (s.lane l).up = false → s.spineOn = true → (s.lane l).fails < 2 → exec (.spineReinitDone l false) s = .next (s.setLane l { s.lane l with fails := (s.lane l).fails + 1 })) ∧
  (∀ s l, l ≤ 2 → (s.lane l).up = false → s.spineOn = true → 2 ≤ (s.lane l).fails → ∃ s1, s1 = ({ s with spineFailed := true, spine := [] }).useFree ∧
    exec (.spineReinitDone l false) s = .next (s1.dieFail (if (s.fabric 0).passed then 1 else 0) (s.freeNat % 256)))

/-- Correlation samples and the forerunner window: what completes. One clause for each row. UTIL and the jitter of a captured count are free values (logs 6 and 7). -/
def Obligations.CorrelationSamplesAreTaken : Prop :=
  (∀ s i d, s.corrDue.find? (fun d => d.2 == i) = some d → bit (s.reg rCorrCtl) 0 = true → bit (s.reg rCorrCtl) 14 = true →
    exec (.corrEventSample i) s = .next (({ s with corrDue := dropDue i s.corrDue }).postSample d.1 i)) ∧
  (∀ s i d, s.corrDue.find? (fun d => d.2 == i) = some d → bit (s.reg rCorrCtl) 0 = false ∨ bit (s.reg rCorrCtl) 14 = false →
    exec (.corrEventSample i) s = .next { s with corrDue := dropDue i s.corrDue }) ∧
  (∀ s, s.clasp.rails = true → bit (s.reg rCorrCtl) 0 = true → s.corrFrom + 100000 * s.corrPeriod ≤ s.hubCount →
    exec .corrPeriodicSample s = .next (({ s with corrFrom := s.corrFrom + 100000 * s.corrPeriod }).postSample 0 0x1F)) ∧
  (∀ s, s.clasp.rails = true → exec .corrReq s = .next (s.postSample 3 0x1F)) ∧
  (∀ (s : State) n i, s.captured n 18 = s.hubCount ∧ (i ≠ 18 → s.count i + Config.captureDelay i ≤ s.captured n i + 2 ∧ s.captured n i ≤ s.count i + Config.captureDelay i + 2)) ∧
  (∀ (s : State) q r c n see, (s.sample q r c n see).length = 256 ∧ (s.sample q r c n see).take 8 = le 8 q) ∧
  (∀ (s : State) r c, (s.postSample r c).corrSeq = (s.corrSeq + 1) % 2 ^ 64 ∧ (s.postSample r c).pending = s.pending ∧ (s.postSample r c).regs = s.regs ∧ (s.postSample r c).cores = s.cores) ∧
  (∀ (s : State) r c, s.fld rCorrBase 12 34 = 0 → s.folios = [] → (s.postSample r c).host = s.host) ∧
  (∀ s w, s.clasp.rails = true → ∃ t, exec (.corrPeriodRestart w) s = .next t ∧ bits (t.reg rCorrCtl) 4 10 = bits w.toNat 4 10 ∧ bit (t.reg rCorrCtl) 0 = bit w.toNat 0 ∧
    bit (t.reg rCorrCtl) 14 = bit w.toNat 14 ∧ (bits w.toNat 4 10 ≠ s.fld rCorrCtl 4 10 → t.corrFrom = s.hubCount) ∧
    (bit w.toNat 1 = true → t.corrSeq = (s.corrSeq + 1) % 2 ^ 64) ∧ (bit w.toNat 1 = false → t.corrSeq = s.corrSeq)) ∧
  (∀ s, s.clasp.rails = true → s.foreAt + 10000000 ≤ s.hubCount → exec .forerunnerRefresh s = .next
    ({ s with foreAt := s.hubCount, fore := tmap (fun i (c : Context) => s.foreEntry (s.freeNat / 2 ^ (32 * i)) c) s.ctxs }).useFree)

/-- BAR0 reads and writes, timeouts, the debug window, latency maxima and the sticky log: what completes. One clause for each row and outcome. Whether a timed-out write took effect is a free value (log 6). -/
def Obligations.RegistersAreReadAndWritten : Prop :=
  (∀ s off z v c, s.clasp.rails = true → off < 0x4000000 → s.slotAt off = some c → badAccess c off z true = false → s.dark (regIsland c) = false →
    exec (.registerWrite off z v) s = .next (s.slotWrite c off z v)) ∧
  (∀ s off z v, s.slotAt off = none → exec (.registerWrite off z v) s = .next s) ∧
  (∀ s off z v c, s.clasp.rails = true → off < 0x4000000 → s.slotAt off = some c → badAccess c off z true = true →
    exec (.registerWrite off z v) s = .next (s.hwError 18 9 4 off 0 0x3F 0xFFFF)) ∧
  (∀ s off z v c, s.clasp.rails = true → off < 0x4000000 → s.slotAt off = some c → badAccess c off z true = false → s.dark (regIsland c) = true →
    exec (.registerWrite off z v) s = .next (s.darkRecord (regIsland c) off)) ∧
  (∀ s off z c, s.clasp.rails = true → off < 0x4000000 → s.slotAt off = some c → coreSlot c = none → badAccess c off z false = false → s.dark (regIsland c) = false →
    exec (.readClear off z) s = .next ((s.clearRc c (accMask off z)).emit (.regRead off (BitVec.ofNat 64 (accDown off z (s.readReg c)))))) ∧
  (∀ s off z, s.clasp.rails = true → off < 0x4000000 → s.slotAt off = none → exec (.readClear off z) s = .next (s.emit (.regRead off 0))) ∧
  (∀ s off z c, s.clasp.rails = true → off < 0x4000000 → s.slotAt off = some c → badAccess c off z false = false → s.dark (regIsland c) = true →
    exec (.readClear off z) s = .next ((s.darkRecord (regIsland c) off).emit (.regReadAll1 off z))) ∧
  (∀ s off z c, s.clasp.rails = true → off < 0x4000000 → s.slotAt off = some c → badAccess c off z false = false → s.dark (regIsland c) = false →
    exec (.registerAccessTimeout off z none) s = .next ((s.hwError 18 9 3 off 0 0x3F 0xFFFF).emit (.regReadAll1 off z))) ∧
  (∀ s off z v c, s.clasp.rails = true → off < 0x4000000 → s.slotAt off = some c → badAccess c off z true = false → s.dark (regIsland c) = false →
    ∃ s1, (s1 = s.useFree.slotWrite c off z v ∨ s1 = s.useFree) ∧ exec (.registerAccessTimeout off z (some v)) s = .next (s1.hwError 18 9 3 off 0 0x3F 0xFFFF)) ∧
  (∀ s k, k ≤ 575 → s.clasp.rails = true → s.slotAt (rDbgData k) = some (rDbgData k) → coreSlot (rDbgData k) = some k → s.dark (regIsland (rDbgData k)) = false →
    exec (.cmpDbgDataAccess k none) s = .next ((s.dbgAccess k none).2.emit (.regRead (rDbgData k) (BitVec.ofNat 64 (s.dbgAccess k none).1))) ∧
    ∀ v, exec (.cmpDbgDataAccess k (some v)) s = .next (s.dbgAccess k (some v)).2) ∧
  (∀ (s : State) k w, bits (((s.dbgAccess k w).2).reg (rDbgAddr k)) 3 16 = (bits (s.reg (rDbgAddr k)) 3 16 + 1) % 2 ^ 16) ∧
  (∀ s h, h ≤ 63 → s.clasp.rails = true → ∃ t, exec (.homClrOwn h) s = .next t ∧ (∀ k, k < 4 → t.reg (rLatOwn h k) = 0) ∧ (∀ k, k < 4 → t.reg (rLatOth h k) = s.reg (rLatOth h k))) ∧
  (∀ s h, h ≤ 63 → s.clasp.rails = true → ∃ t, exec (.homClrOth h) s = .next t ∧ (∀ k, k < 4 → t.reg (rLatOth h k) = 0) ∧ (∀ k, k < 4 → t.reg (rLatOwn h k) = s.reg (rLatOwn h k))) ∧
  (∀ s, s.clasp.rails = true → ∃ t, exec .errLogClear s = .next t ∧ t.fld rErrStat 0 6 = 0 ∧ t.fld rErrStat 16 16 = 0 ∧ (∀ k, k < 128 → t.reg (0x30100 + 8 * k) = 0))

/-- The configuration check and region power: what completes. One clause for each row and outcome. -/
def Obligations.ConfigurationIsChecked : Prop :=
  (∀ s, s.clasp.rails = true → s.cfg.sweeping = false → s.hubCount % 2 ^ 21 = 0 → ∃ t, exec .cfgSweepStart s = .next t ∧ t.cfg.sweeping = true ∧ t.cfg.void = false ∧
    t.cfg.commitPend = false ∧ t.cfg.capArmed = false ∧ (s.cfg.commitPend = true → t.fld rCfgCur 32 32 = s.fld rCfgRef 0 32) ∧ (s.cfg.commitPend = false → t.regs = s.regs)) ∧
  (∀ s, s.cfg.sweeping = true → s.cfg.void = true → exec .cfgSweepEnd s = .next { s with cfg := { s.cfg with sweeping := false, void := false } }) ∧
  (∀ s, s.cfg.sweeping = true → s.cfg.void = false → s.cfg.capSweep = true → ∃ t, exec .cfgSweepEnd s = .next t ∧ t.fld rCfgCur 0 32 = s.sweepCrc % 2 ^ 32 ∧
    t.fld rCfgRef 0 32 = s.sweepCrc % 2 ^ 32 ∧ t.fld rCfgCur 32 32 = s.sweepCrc % 2 ^ 32 ∧ t.cfg.capSweep = false) ∧
  (∀ s, s.cfg.sweeping = true → s.cfg.void = false → s.cfg.capSweep = false → s.sweepCrc = s.fld rCfgCur 32 32 → ∃ t, exec .cfgSweepEnd s = .next t ∧
    t.fld rCfgCur 0 32 = s.sweepCrc % 2 ^ 32 ∧ t.fld rCfgCtl 3 1 = s.fld rCfgCtl 3 1 ∧ (bit (s.reg rCfgCtl) 0 = true → t.cfg.differed = false)) ∧
  (∀ s, s.cfg.sweeping = true → s.cfg.void = false → s.cfg.capSweep = false → bit (s.reg rCfgCtl) 0 = true → s.sweepCrc ≠ s.fld rCfgCur 32 32 → ∃ t,
    exec .cfgSweepEnd s = .next t ∧ t.cfg.differed = true ∧ t.fld rCfgCtl 3 1 = 1 ∧ t.fld rCfgCtl 8 16 = min (2 ^ 16 - 1) (s.fld rCfgCtl 8 16 + 1)) ∧
  (∀ s, s.clasp.rails = true → exec .cfgchkCommit s = .next { s with cfg := { s.cfg with commitPend := true, differed := false } }) ∧
  (∀ s, s.clasp.rails = true → exec .cfgchkCapture s = .next { s with cfg := { s.cfg with capArmed := true, differed := false } }) ∧
  (∀ s v, s.clasp.rails = true → ∃ t, exec (.cfgchkEn v) s = .next t ∧ t.fld rCfgCtl 0 1 = b2n v ∧ (∀ r, r ≠ rCfgCtl → t.reg r = s.reg r)) ∧
  (∀ s v, s.clasp.rails = true → exec (.rgnPwrOff v) s = .next (s.writeFld rRgnPwr 0 16 v.toNat)) ∧
  (∀ s i, i ≤ 15 → (s.region i).powered = true → bit (s.fld rRgnPwr 0 16) i = true → s.wayOwned i = false → ∃ t, exec (.regionPowerDown i) s = .next t ∧
    (t.region i).powered = false ∧ (∀ c k, coreIsland c = i → tget c t.cores = some k → k.sp = [] ∧ k.acc = [] ∧ k.tlb = []) ∧
    (∀ r, 0x2000000 ≤ r → regIsland r = i → t.reg r = resetOf r % 2 ^ 64)) ∧
  (∀ s i, i ≤ 15 → s.clasp.rails = true → s.standby = none → (s.region i).powered = false → (s.fabric (i / 8)).failed = false → bit (s.fld rRgnPwr 0 16) i = false →
    exec (.regionPowerUp i) s = .next (s.regionUp i).voidSweep.capChange)

/-- Messages of the management bus: what completes. One clause for each row. The widths of some payloads are the model's choice (log 88). -/
def Obligations.ManagementBusAnswers : Prop :=
  (∀ (s : State) op p (c : BitVec 32) a g f, s.clasp.aux = true → c.toNat ≠ msgCrc op p → s.message op p c a g f = .next (s.emit (.mgmt op 1 []))) ∧
  (∀ s c, s.clasp.aux = true → c.toNat = msgCrc 0x01 [] → ∃ t b, exec (.status [] c) s = .next (t.emit (.mgmt 0x01 0 b)) ∧ t = ({ s with clasp := { s.clasp with statusRead := true } }).alert ∧ b.length = 15) ∧
  (∀ s c, s.clasp.aux = true → s.clasp.boot = .running → c.toNat = msgCrc 0x02 [] →
    (s.clasp.unread = [] → exec (.eventRead [] c) s = .next (s.emit (.mgmt 0x02 0 []))) ∧
    ∀ b r, s.clasp.unread = b :: r → exec (.eventRead [] c) s = .next ((({ s with clasp := { s.clasp with unread := r } }).alert).emit (.mgmt 0x02 0 b))) ∧
  (∀ s p c, s.clasp.aux = true → p.length = 1 → fieldLe p 0 1 < 64 → c.toNat = msgCrc 0x03 p → ∃ b, exec (.logRead p c) s = .next (s.emit (.mgmt 0x03 0 b)) ∧ b.length = 24) ∧
  (∀ s p c, s.clasp.aux = true → p.length = 2 → c.toNat = msgCrc 0x04 p → s.otherFolio = false →
    exec (.setPkgId p c) s = .next (({ s with clasp := { s.clasp with pkgId := fieldLe p 0 2 } }).emit (.mgmt 0x04 0 []))) ∧
  (∀ s p c, s.clasp.aux = true → c.toNat = msgCrc 0x04 p → s.clasp.inReset = false → s.tableState ≠ 1 → s.otherFolio = true →
    exec (.setPkgId p c) s = .next (s.emit (.mgmt 0x04 2 []))) ∧
  (∀ s p c, s.clasp.aux = true → s.clasp.boot = .running → p.length = 2 → c.toNat = msgCrc 0x05 p →
    exec (.groupTotal p c) s = .next (({ s with power := { s.power with totalW := fieldLe p 0 2, totalChanged := true } }).emit (.mgmt 0x05 0 []))) ∧
  (∀ s c, s.clasp.aux = true → s.standby.isSome = true → c.toNat = msgCrc 0x06 [] →
    exec (.wake [] c) s = .next (({ s with clasp := { s.clasp with wake := true } }).emit (.mgmt 0x06 0 []))) ∧
  (∀ s p c, s.clasp.aux = true → p.length = 4 → fieldLe p 0 4 % 256 = 0 → fieldLe p 0 4 < 65536 → c.toNat = msgCrc 0x08 p →
    exec (.calRead p c) s = .next (s.emit (.mgmt 0x08 0 (s.calBytes (fieldLe p 0 4) 256)))) ∧
  (∀ s p c, s.clasp.aux = true → s.clasp.pwrgood = false → chunkOk p 65536 = true → c.toNat = msgCrc 0x09 p → ∃ t, exec (.calWrite p c) s = .next t ∧
    (∀ a, fieldLe p 0 4 ≤ a → a < fieldLe p 0 4 + (p.length - 4) → ¬ (0x10 ≤ a ∧ a < 0x18) → tget a t.clasp.cal = p[4 + (a - fieldLe p 0 4)]?) ∧
    (∀ a, ¬ (fieldLe p 0 4 ≤ a ∧ a < fieldLe p 0 4 + (p.length - 4)) → tget a t.clasp.cal = tget a s.clasp.cal)) ∧
  (∀ s p c, s.clasp.aux = true → s.clasp.boot = .recovery → p.length = 4 → fieldLe p 0 4 ≤ 2 ^ 24 → c.toNat = msgCrc 0x10 p →
    exec (.imgBegin p c) s = .next (({ s with clasp := { s.clasp with imgSize := fieldLe p 0 4, img := [] } }).emit (.mgmt 0x10 0 []))) ∧
  (∀ s p c, s.clasp.aux = true → s.clasp.boot = .recovery → chunkOk p s.clasp.imgSize = true → c.toNat = msgCrc 0x11 p → ∃ t, exec (.imgData p c) s = .next t ∧
    ∀ a, mbyte t.clasp.img a = if fieldLe p 0 4 ≤ a ∧ a < fieldLe p 0 4 + (p.length - 4) then p.getD (4 + (a - fieldLe p 0 4)) 0 else mbyte s.clasp.img a) ∧
  (∀ s c, s.clasp.aux = true → s.clasp.boot = .recovery → c.toNat = msgCrc 0x12 [] → ∃ t, exec (.imgEnd [] c) s = .next t ∧
    (t.clasp.boot = .flashing ↔ s.imgFail s.recvImage = 0) ∧ t.clasp.flash = s.clasp.flash ∧ t.out = s.out ++ [.mgmt 0x12 0 (le 1 (s.imgFail s.recvImage))])

/-- Every command answers a next state, and takes back nothing. No command stops the machine; a command that the part is not ready for changes nothing (log 3). -/
def Obligations.EveryCommandAnswersANextState : Prop :=
  (∀ (c : Instr) (s : State), ∃ t l, exec c s = .next t ∧ t.pending = s.pending ∧ t.out = s.out ++ l) ∧
  (∀ s : State, ∃ t l, step s = .next t ∧ t.pending = s.pending.tail ∧ t.out = s.out ++ l)

/-- The state at reset. The register values are those of the field tables; what the tables do not give is the model's choice (logs 4 and 5). -/
def Obligations.ResetLeavesThePartUnpowered : Prop :=
  State.reset.pending = [] ∧ State.reset.clasp.aux = false ∧ State.reset.clasp.rails = false ∧ State.reset.hubCount = 0 ∧
  (∀ i, (State.reset.region i).count = 0 ∧ (State.reset.region i).powered = false) ∧ (∀ d, (State.reset.fabric d).count = 0 ∧ (State.reset.fabric d).running = false) ∧
  (∀ c, State.reset.reg c = resetOf c % 2 ^ 64) ∧ (∀ i, State.reset.ctx? i = none ∧ State.reset.queue? i = none ∧ State.reset.req? i = none) ∧
  (∀ c k, State.reset.slot? c k = none) ∧ State.reset.hbm = [] ∧ State.reset.host = [] ∧ State.reset.out = [] ∧ MemoryOk State.reset

/-- Every step keeps the memories in canonical form. Equal memories are equal data after any number of steps; ResetLeavesThePartUnpowered says that reset has the form. -/
def Obligations.EveryStepKeepsMemoryCanonical : Prop :=
  ∀ s t : State, MemoryOk s → step s = .next t → MemoryOk t

/-- FUSE_SVN is blown at READY and no step takes it back. R566: the blow, that it lasts for the life of the part, and what it refuses. -/
def Obligations.RolledBackImagesStayRefused : Prop :=
  (∀ s ds cs ms, s.clasp.rails = true → s.clasp.hbmUp = true → s.clasp.stitchWait = false → s.clasp.inReset = true →
    s.clasp.commitSvn = true → s.clasp.fuseSvn < s.clasp.svn → ∃ t, exec (.selfTestComplete ds cs ms true) s = .next t ∧
    (t.capState = 0 → t.clasp.fuseSvn = s.clasp.svn) ∧ (t.capState ≠ 0 → t.clasp.fuseSvn = s.clasp.fuseSvn)) ∧
  (∀ s t : State, step s = .next t → FusesKept s t) ∧
  (∀ (s : State) b, fieldLe b 8 2 < s.clasp.fuseSvn → s.imgFail b ≠ 0) ∧
  (∀ (s t : State) b, step s = .next t → fieldLe b 8 2 < s.clasp.fuseSvn → t.imgFail b ≠ 0)

/-- What ALU, ALUI, SRD, BR, JMP and a scratchpad LD leave alone. The frame relative to the state that the instruction's fetch leaves. BR has no destination: every scalar register stands. -/
def Obligations.RegisterInstructionsChangeOneRegister : Prop :=
  (∀ s s1 core w k x, Ready s core w 0x00 k x s1 → ∃ t, exec (.alu core w) s = .next t ∧ SlotFrame s1 t core k x (fd w 53 5)) ∧
  (∀ s s1 core w k x, Ready s core w 0x01 k x s1 → ∃ t, exec (.alui core w) s = .next t ∧ SlotFrame s1 t core k x (fd w 53 5)) ∧
  (∀ s s1 core w k x, Ready s core w 0x07 k x s1 → ∃ t, exec (.srd core w) s = .next t ∧ SlotFrame s1 t core k x (fd w 53 5)) ∧
  (∀ s s1 core w k x, Ready s core w 0x05 k x s1 → brTaken (fd w 45 3) (x.sr (fd w 53 5)) (x.sr (fd w 48 5)) = false ∨ pcOk (x.pc + imm32 w) = true →
    ∃ t, exec (.br core w) s = .next t ∧ SlotFrame s1 t core k x 0) ∧
  (∀ s s1 core w k x, Ready s core w 0x06 k x s1 → pcOk (jmpTarget w x) = true → ∃ t, exec (.jmp core w) s = .next t ∧ SlotFrame s1 t core k x (fd w 53 5)) ∧
  (∀ s s1 core w k x, Ready s core w 0x02 k x s1 → lsAddr w x % lsSize w = 0 → fbit w 45 = true →
    x.spIn (lsAddr w x % 2 ^ 19) (lsSize w) = true → (s1.core core).spFree k x (lsAddr w x % 2 ^ 19) (lsSize w) false = true →
    ∃ t, exec (.ld core w) s = .next t ∧ SlotFrame s1 t core k x (fd w 53 5)) ∧
  (∀ (x : Slot) v, x.setSr 0 v = x ∧ x.sr 0 = 0) ∧
  (∀ (x : Slot) i v, i ≠ 0 → (x.setSr i v).sr i = v)

/-- What a scratchpad store changes. The stored bytes are those at the physical places of the local addresses that the instruction computes. -/
def Obligations.ScratchpadStoresChangeTheirBytes : Prop :=
  (∀ s s1 core w k x a n, a = lsAddr w x % 2 ^ 19 → n = lsSize w → Ready s core w 0x03 k x s1 → lsAddr w x % n = 0 → fbit w 45 = true →
    x.spIn a n = true → (s1.core core).spFree k x a n true = true →
    ∃ t, exec (.st core w) s = .next t ∧ t = { s1 with cores := t.cores } ∧ SlotKeeps t core k x 0 ∧
      (∀ c, c ≠ core → t.core c = s1.core c) ∧ (∀ j, j ≠ k → t.slot? core j = s1.slot? core j) ∧ t.core core = { s1.core core with slots := (t.core core).slots, lastRet := (t.core core).lastRet, retAt := (t.core core).retAt, sp := (t.core core).sp } ∧
      (∀ p, (∀ i, i < n → p ≠ x.spPhys (a + i)) → mbyte (t.core core).sp p = mbyte (s1.core core).sp p)) ∧
  (∀ s s1 core w k x a n, a = vlsAddr w x % 2 ^ 19 → n = 64 * vlsLane w → Ready s core w 0x11 k x s1 → fd w 55 3 = 1 → a % 32 = 0 →
    x.spIn a n = true → (s1.core core).spFree k x a n true = true →
    ∃ t, exec (.vls core w) s = .next t ∧ t = { s1 with cores := t.cores } ∧ SlotKeeps t core k x 0 ∧
      (∀ c, c ≠ core → t.core c = s1.core c) ∧ (∀ j, j ≠ k → t.slot? core j = s1.slot? core j) ∧ t.core core = { s1.core core with slots := (t.core core).slots, lastRet := (t.core core).lastRet, retAt := (t.core core).retAt, sp := (t.core core).sp } ∧
      (∀ p, (∀ i, i < n → p ≠ x.spPhys (a + i)) → mbyte (t.core core).sp p = mbyte (s1.core core).sp p)) ∧
  (∀ (c : Core) (x : Slot) a (d : Bytes), x.spWays.Nodup → x.spIn a d.length = true → (c.spWrite x a d).spRead x a d.length = d)

/-- What a store or an atomic on a held line changes. The address is the one the instruction translates; u is the state with the line changed, before the waits are woken. -/
def Obligations.CachedStoresChangeTheirBytes : Prop :=
  (∀ s s1 s2 core w k x pa l, Ready s core w 0x03 k x s1 → lsAddr w x % lsSize w = 0 → fbit w 45 = false →
    s1.xlate core k x (lsAddr w x) 1 0 = .ok (pa, false, s2) → (s2.route pa = .hbm ∨ ∃ a, s2.route pa = .host a) →
    s2.storeBusy core k (lineOf pa) = false → s2.lineBusy (s2.sliceOf core) (lineOf pa) = false →
    s2.line? (s2.sliceOf core) (lineOf pa) = some l → (l.st = .m ∨ l.st = .e) →
    ∃ u : State, exec (.st core w) s = .next ((u.wake (lineOf pa)).retire core k x.advance) ∧ u = { s2 with caches := u.caches, ctxs := u.ctxs } ∧
      (∀ c, u.ctx? c = s2.ctx? c ∨ (s2.ctx? c).map (fun y => { y with far := true }) = u.ctx? c) ∧
      u.line? (s2.sliceOf core) (lineOf pa) = some { st := .m, data := patch l.data (pa % 64) (le (lsSize w) (x.sr (fd w 53 5)).toNat) } ∧
      ∀ n line, (n ≠ s2.sliceOf core ∨ line ≠ lineOf pa) → u.line? n line = s2.line? n line) ∧
  (∀ s s1 s2 core w k x pa l, Ready s core w 0x04 k x s1 → (x.sr (fd w 48 5)).toNat % (if fbit w 35 then 8 else 4) = 0 → x.wait = .none →
    s1.xlate core k x (x.sr (fd w 48 5)).toNat 3 0 = .ok (pa, false, s2) → (s2.route pa = .hbm ∨ ∃ a, s2.route pa = .host a) →
    s2.storeBusy core k (lineOf pa) = false → s2.lineBusy (s2.sliceOf core) (lineOf pa) = false →
    s2.line? (s2.sliceOf core) (lineOf pa) = some l → (l.st = .m ∨ l.st = .e) →
    ∃ (u : State) (v : Word) (d : Bytes), exec (.amo core w) s = .next ((u.wake (lineOf pa)).retire core k (x.setSr (fd w 53 5) v).advance) ∧ u = { s2 with caches := u.caches, ctxs := u.ctxs } ∧
      (∀ c, u.ctx? c = s2.ctx? c ∨ (s2.ctx? c).map (fun y => { y with far := true }) = u.ctx? c) ∧
      d.length = (if fbit w 35 then 8 else 4) ∧ u.line? (s2.sliceOf core) (lineOf pa) = some { st := .m, data := patch l.data (pa % 64) d } ∧
      ∀ n line, (n ≠ s2.sliceOf core ∨ line ≠ lineOf pa) → u.line? n line = s2.line? n line) ∧
  (∀ (s : State) line, SameMemory s (s.wake line) ∧ (s.wake line).caches = s.caches ∧ (s.wake line).regs = s.regs ∧ (s.wake line).hostLines = s.hostLines) ∧
  (∀ (s : State) line, s.watches.all (fun e => lineOf e.pa != line) = true → s.wake line = s) ∧
  (∀ (b d : Bytes) o, o + d.length ≤ b.length → slice (patch b o d) o d.length = d ∧ (patch b o d).length = b.length ∧
    ∀ i, i < o ∨ o + d.length ≤ i → (patch b o d)[i]? = b[i]?)

/-- What a write of device memory changes, and what a protection set keeps. The laws that a home's raw and coherent writes rest on; slices are named by their numbers, bytes by their offsets. -/
def Obligations.WritesLandAndAreProtected : Prop :=
  (∀ (s : State) pa (d : Bytes) m, s.server (pa / 2 ^ 33) = some m → s.setOf m = none → pa % 2 ^ 33 + d.length ≤ 2 ^ 33 → s.partialBad pa d.length = none →
    ∃ t, s.rawWrite pa d = (.ok, t) ∧ t.readSlice m (pa % 2 ^ 33) d.length = d ∧ t.host = s.host ∧
      ∀ a, a < slicePa m (pa % 2 ^ 33) ∨ slicePa m (pa % 2 ^ 33) + d.length ≤ a → mbyte t.hbm a = mbyte s.hbm a) ∧
  (∀ (s : State) m q o (d : Bytes) p, s.setOf m = some p → p.members = [(0, m), (0, q)] → p.lost = [] → m ≠ q → o + d.length ≤ 2 ^ 33 →
    mread (s.writeSlice m o d).hbm (slicePa m o) d.length = d ∧ mread (s.writeSlice m o d).hbm (slicePa q o) d.length = d) ∧
  (∀ (s : State) a b c e q m o (d : Bytes) p, s.setOf m = some p → p.members = [(0, a), (0, b), (0, c), (0, e), (0, q)] → p.lost = [] → [a, b, c, e, q].Nodup →
    m ∈ [a, b, c, e] → o + d.length ≤ 2 ^ 33 → ParityOk s a b c e q → ParityOk (s.writeSlice m o d) a b c e q ∧ mread (s.writeSlice m o d).hbm (slicePa m o) d.length = d) ∧
  (∀ (s : State) a b c e q m o n p, s.setOf q = some p → p.members = [(0, a), (0, b), (0, c), (0, e), (0, q)] → p.lost = [m] → [a, b, c, e, q].Nodup →
    m ∈ [a, b, c, e] → o + n ≤ 2 ^ 33 → ParityOk s a b c e q → s.readSlice q o n = mread s.hbm (slicePa m o) n)

/-- Access types of register fields. R17 for the stored value; the fields with effects of their own have them in their own rows. -/
def Obligations.RegisterFieldsFollowTheirAccess : Prop :=
  (∀ (s : State) c v mask f, f ∈ fieldsOf c → bits mask f.lo f.wd = 2 ^ f.wd - 1 → bits (s.writeStored c v mask) f.lo f.wd = (match f.acc with
    | .rw => bits v f.lo f.wd | .rws => bits v f.lo f.wd | .rwf => bits v f.lo f.wd
    | .w1c => bits (s.reg c) f.lo f.wd &&& (2 ^ f.wd - 1 - bits v f.lo f.wd) | .w1s => bits (s.reg c) f.lo f.wd ||| bits v f.lo f.wd
    | .ro => bits (s.reg c) f.lo f.wd | .rc => bits (s.reg c) f.lo f.wd | .wo => bits (s.reg c) f.lo f.wd)) ∧
  (∀ (s : State) c v mask f, f ∈ fieldsOf c → bits mask f.lo f.wd ≠ 2 ^ f.wd - 1 → bits (s.writeStored c v mask) f.lo f.wd = bits (s.reg c) f.lo f.wd) ∧
  (∀ (s : State) c v mask i, (∀ f ∈ fieldsOf c, i < f.lo ∨ f.lo + f.wd ≤ i) → (s.writeStored c v mask).testBit i = (s.reg c).testBit i) ∧
  (∀ (s : State) c i, s.live c = none → (∀ f ∈ fieldsOf c, f.acc = .wo ∨ i < f.lo ∨ f.lo + f.wd ≤ i) → (s.readReg c).testBit i = false) ∧
  (∀ (s : State) c v mask, c ∉ [rCorrCtl, rCfgCtl, rMgmtqRing, rPwrLimit, rErrStat, rPwrGroup] → ¬ (0x100000 ≤ c ∧ c < 0x110000) → ¬ (0x50000 ≤ c ∧ c < 0x60000) →
    (s.regWrite c v mask).reg c = s.writeStored c v mask % 2 ^ 64 ∧ OnlyRegs s (s.regWrite c v mask) ∧ ∀ r, r ≠ c → (s.regWrite c v mask).reg r = s.reg r)

/-- What the rows that set a register leave alone. The frame of every row that only writes registers. -/
def Obligations.SettingRowsChangeTheirRegister : Prop :=
  (∀ s t d w, exec (.fabQosWtWrite d w) s = .next t → OnlyRegs s t ∧ ∀ r, r ≠ rQosWt d → t.reg r = s.reg r) ∧
  (∀ s t v, exec (.rgnPwrOff v) s = .next t → OnlyRegs s t ∧ ∀ r, r ≠ rRgnPwr → t.reg r = s.reg r) ∧
  (∀ s t v, exec (.cfgchkEn v) s = .next t → OnlyRegs s t ∧ (∀ r, r ≠ rCfgCtl → t.reg r = s.reg r) ∧
    ∀ lo wd, lo + wd ≤ 64 → 1 ≤ lo → t.fld rCfgCtl lo wd = s.fld rCfgCtl lo wd) ∧
  (∀ s t h, exec (.homClrOwn h) s = .next t → OnlyRegs s t ∧ ∀ r, (∀ k, k < 4 → r ≠ rLatOwn h k) → t.reg r = s.reg r) ∧
  (∀ s t h, exec (.homClrOth h) s = .next t → OnlyRegs s t ∧ ∀ r, (∀ k, k < 4 → r ≠ rLatOth h k) → t.reg r = s.reg r) ∧
  (∀ s t, exec .errLogClear s = .next t → OnlyRegs s t ∧ ∀ r, r ≠ rErrStat → (∀ k, k < 128 → r ≠ 0x30100 + 8 * k) → t.reg r = s.reg r)

/-- What snoops and writeback acknowledgements leave alone. A snooped cache answers its home; what the home does with the answer is PRB_DATA and PRB_MISS. -/
def Obligations.SnoopsTouchOneLine : Prop :=
  (∀ s t n line c, c ∈ [Instr.prbShare n line, .prbOwn n line, .prbGlance n line, .prbInv n line, .retireAck n line] → exec c s = .next t →
    t = { s with caches := t.caches } ∧ (∀ j, j ≠ n → t.cache j = s.cache j) ∧ ∀ l, l ≠ line → tget l (t.cache n).lines = tget l (s.cache n).lines ∧
      tget l (t.cache n).wb = tget l (s.cache n).wb ∧ tget l (t.cache n).answers = tget l (s.cache n).answers ∧ tget l (t.cache n).probes = tget l (s.cache n).probes)

/-- Every finite code of a floating format is its own conversion. The plain and wide formats: E2M1, E2M3, E3M2, E4M3, E5M2, FP16, BF16 and FP32, in nearest mode. -/
def Obligations.FiniteCodesConvertToThemselves : Prop :=
  ∀ f ∈ [fpE2M1, fpE2M3, fpE3M2, fpE4M3, fpE5M2, fpFP16, fpBF16, fpFP32], ∀ sat code, code < 2 ^ f.width →
    (∃ n m e, f.decode code = .fin n m e) → f.encode sat none (f.decode code) = (code, noEvents)

/-- What messages of the management bus leave alone. The eleven messages of R642 that the table names as rows. -/
def Obligations.ManagementMessagesTouchOnlyTheClasp : Prop :=
  (∀ s t p v c, c ∈ [Instr.status p v, .eventRead p v, .logRead p v, .setPkgId p v, .groupTotal p v, .wake p v, .calRead p v, .calWrite p v, .imgBegin p v, .imgData p v, .imgEnd p v] →
    exec c s = .next t → t = { s with clasp := t.clasp, power := t.power, out := t.out } ∧
      t.power = { s.power with totalW := t.power.totalW, totalChanged := t.power.totalChanged } ∧
      t.clasp.fuseSvn = s.clasp.fuseSvn ∧ t.clasp.flash = s.clasp.flash ∧ (s.clasp.aux = false → t = s))
end

