-- ==== Sys2Proof/Laws/Tables.lean ====
section
/-! SUPPORT. Sys2Proof/Laws/Tables.lean: what reading a table or a byte memory gives after a write, and that writes keep the canonical form. -/

namespace Sys2Proof.Machine

variable {α : Type}

@[simp] theorem tget_nil (k : Nat) : tget k ([] : Tbl α) = none := rfl

@[simp] theorem tget_tput_self (k : Nat) (v : α) (t : Tbl α) : tget k (tput k v t) = some v := by
  induction t with
  | nil => simp [tput, tget]
  | cons e t ih => obtain ⟨a, u⟩ := e; simp only [tput]; split_ifs with h1 h2 <;> simp_all [tget]

theorem tget_tput_ne {j k : Nat} (h : j ≠ k) (v : α) (t : Tbl α) : tget j (tput k v t) = tget j t := by
  induction t with
  | nil => simp [tput, tget, Ne.symm h]
  | cons e t ih =>
    obtain ⟨a, u⟩ := e; simp only [tput]; split_ifs with h1 h2
    · simp [tget, Ne.symm h]
    · subst h2; simp [tget, Ne.symm h]
    · simp only [tget, ih]

theorem tget_tput (j k : Nat) (v : α) (t : Tbl α) : tget j (tput k v t) = if j = k then some v else tget j t := by
  split_ifs with h
  · subst h; simp
  · exact tget_tput_ne h v t

theorem tget_filter_of {p : Nat × α → Bool} {j : Nat} (h : ∀ v, p (j, v) = true) (t : Tbl α) : tget j (t.filter p) = tget j t := by
  induction t with
  | nil => rfl
  | cons e t ih =>
    obtain ⟨a, u⟩ := e; simp only [List.filter_cons]
    by_cases ha : a = j
    · subst ha; simp [h, tget]
    · split_ifs <;> simp [tget, ha, ih]

theorem tget_filter_none {p : Nat × α → Bool} {j : Nat} (h : ∀ v, p (j, v) = false) (t : Tbl α) : tget j (t.filter p) = none := by
  induction t with
  | nil => rfl
  | cons e t ih =>
    obtain ⟨a, u⟩ := e; simp only [List.filter_cons]
    by_cases ha : a = j
    · subst ha; simp [h, ih]
    · split_ifs <;> simp [tget, ha, ih]

@[simp] theorem tget_tdel_self (k : Nat) (t : Tbl α) : tget k (tdel k t) = none := tget_filter_none (by simp) t

theorem tget_tdel_ne {j k : Nat} (h : j ≠ k) (t : Tbl α) : tget j (tdel k t) = tget j t := tget_filter_of (by simp [h]) t

@[simp] theorem tgetD_tputD_self [DecidableEq α] (d : α) (k : Nat) (v : α) (t : Tbl α) : tgetD d k (tputD d k v t) = v := by
  unfold tgetD tputD; split_ifs with h
  · subst h; simp
  · simp

theorem tgetD_tputD_ne [DecidableEq α] {j k : Nat} (h : j ≠ k) (d v : α) (t : Tbl α) : tgetD d j (tputD d k v t) = tgetD d j t := by
  unfold tgetD tputD; split_ifs with hv
  · rw [tget_tdel_ne h]
  · rw [tget_tput_ne h]

theorem tget_tmap {β : Type} (f : Nat → α → β) (k : Nat) (t : Tbl α) : tget k (tmap f t) = (tget k t).map (f k) := by
  induction t with
  | nil => rfl
  | cons e t ih =>
    obtain ⟨a, u⟩ := e
    by_cases ha : a = k
    · subst ha; simp [tmap, tget]
    · simp only [tmap, List.map_cons, tget, if_neg ha]; exact ih

/-! ## The canonical form -/

theorem risingFrom_mono {lo lo' : Option Nat} (h : ∀ l, lo = some l → ∃ l', lo' = some l' ∧ l ≤ l') {t : Tbl α} (ht : risingFrom lo' t = true) :
    risingFrom lo t = true := by
  cases t with
  | nil => rfl
  | cons e t =>
    obtain ⟨a, u⟩ := e
    simp only [risingFrom, Bool.and_eq_true] at ht ⊢
    refine ⟨?_, ht.2⟩
    cases lo with
    | none => rfl
    | some l => obtain ⟨l', h1, h2⟩ := h l rfl; subst h1; simp only [decide_eq_true_eq] at ht ⊢; omega

theorem risingFrom_filter (p : Nat × α → Bool) (lo : Option Nat) {t : Tbl α} (h : risingFrom lo t = true) : risingFrom lo (t.filter p) = true := by
  induction t generalizing lo with
  | nil => rfl
  | cons e t ih =>
    obtain ⟨a, u⟩ := e
    simp only [risingFrom, Bool.and_eq_true] at h
    simp only [List.filter_cons]; split_ifs
    · simp only [risingFrom, Bool.and_eq_true]; exact ⟨h.1, ih _ h.2⟩
    · apply ih
      refine risingFrom_mono ?_ h.2
      intro l hl; subst hl
      simp only [decide_eq_true_eq] at h
      exact ⟨a, rfl, by omega⟩

theorem risingFrom_tput (k : Nat) (v : α) (lo : Option Nat) (hk : ∀ l, lo = some l → l < k) {t : Tbl α} (h : risingFrom lo t = true) :
    risingFrom lo (tput k v t) = true := by
  induction t generalizing lo with
  | nil => cases lo with
    | none => rfl
    | some l => simp [tput, risingFrom, hk l rfl]
  | cons e t ih =>
    obtain ⟨a, u⟩ := e
    simp only [risingFrom, Bool.and_eq_true] at h
    simp only [tput]; split_ifs with h1 h2
    · simp only [risingFrom, Bool.and_eq_true, decide_eq_true_eq]
      refine ⟨?_, h1, h.2⟩
      cases lo with
      | none => rfl
      | some l => simp [hk l rfl]
    · subst h2
      simp only [risingFrom, Bool.and_eq_true]; exact h
    · simp only [risingFrom, Bool.and_eq_true]
      refine ⟨h.1, ih _ ?_ h.2⟩
      intro l hl; cases hl; omega

theorem all_tput {p : Nat × α → Bool} (k : Nat) {v : α} (hv : p (k, v) = true) {t : Tbl α} (h : t.all p = true) : (tput k v t).all p = true := by
  induction t with
  | nil => simp [tput, hv]
  | cons e t ih =>
    obtain ⟨a, u⟩ := e
    simp only [List.all_cons, Bool.and_eq_true] at h
    simp only [tput]; split_ifs
    · simp only [List.all_cons, Bool.and_eq_true]; exact ⟨hv, h⟩
    · simp only [List.all_cons, Bool.and_eq_true]; exact ⟨hv, h.2⟩
    · simp only [List.all_cons, Bool.and_eq_true]; exact ⟨h.1, ih h.2⟩

theorem all_filter {p q : Nat × α → Bool} {t : Tbl α} (h : t.all p = true) : (t.filter q).all p = true := by
  simp only [List.all_eq_true, List.mem_filter] at h ⊢; exact fun x hx => h x hx.1

variable [DecidableEq α]

theorem tblWf_filter (d : α) (p : Nat × α → Bool) {t : Tbl α} (h : tblWf d t = true) : tblWf d (t.filter p) = true := by
  simp only [tblWf, Bool.and_eq_true] at h ⊢; exact ⟨risingFrom_filter p none h.1, all_filter h.2⟩

/-- A write keeps a table's canonical form. -/
theorem tblWf_tputD (d : α) (k : Nat) (v : α) {t : Tbl α} (h : tblWf d t = true) : tblWf d (tputD d k v t) = true := by
  unfold tputD; split_ifs with hv
  · exact tblWf_filter d _ h
  · simp only [tblWf, Bool.and_eq_true] at h ⊢
    exact ⟨risingFrom_tput k v none (by simp) h.1, all_tput k (by simpa using hv) h.2⟩

/-! ## Byte memories -/

@[simp] theorem mbyte_mset_self (m : List Host.Cell) (a : Nat) (v : Byte) : mbyte (mset m a v) a = v := tgetD_tputD_self 0 a v m

theorem mbyte_mset_ne {a b : Nat} (h : a ≠ b) (m : List Host.Cell) (v : Byte) : mbyte (mset m b v) a = mbyte m a := tgetD_tputD_ne h 0 v m

theorem wf_mset {m : List Host.Cell} (a : Nat) (v : Byte) (h : Memory.wf m = true) : Memory.wf (mset m a v) = true := tblWf_tputD 0 a v h

theorem wf_mwrite {m : List Host.Cell} (a : Nat) (b : Bytes) (h : Memory.wf m = true) : Memory.wf (mwrite m a b) = true := by
  induction b generalizing m a with
  | nil => exact h
  | cons v t ih => exact ih _ (wf_mset a v h)

theorem wf_mzero {m : List Host.Cell} (a n : Nat) (h : Memory.wf m = true) : Memory.wf (mzero m a n) = true := tblWf_filter 0 _ h

theorem wf_nil : Memory.wf [] = true := rfl

/-- A byte outside a written range stands. -/
theorem mbyte_mwrite_out {m : List Host.Cell} {a x : Nat} {b : Bytes} (h : x < a ∨ a + b.length ≤ x) : mbyte (mwrite m a b) x = mbyte m x := by
  induction b generalizing m a with
  | nil => rfl
  | cons v t ih =>
    simp only [List.length_cons] at h
    simp only [mwrite]; rw [ih (by omega), mbyte_mset_ne (by omega)]

/-- A byte inside a written range is the written one. -/
theorem mbyte_mwrite_in {m : List Host.Cell} {a i : Nat} {b : Bytes} (h : i < b.length) : mbyte (mwrite m a b) (a + i) = b[i] := by
  induction b generalizing m a i with
  | nil => simp at h
  | cons v t ih =>
    cases i with
    | zero => simp only [mwrite, Nat.add_zero]; rw [mbyte_mwrite_out (by omega)]; simp
    | succ i =>
      have h2 : i < t.length := by simpa using h
      have := ih (m := mset m a v) (a := a + 1) h2
      simp only [mwrite]; rw [show a + (i + 1) = a + 1 + i by omega, this]; rfl

theorem mbyte_mzero (m : List Host.Cell) (a n x : Nat) : mbyte (mzero m a n) x = if a ≤ x ∧ x < a + n then 0 else mbyte m x := by
  unfold mbyte tgetD mzero; split_ifs with h
  · rw [tget_filter_none (by simp; omega)]; rfl
  · rw [tget_filter_of (by simp; omega)]

/-- What is read back is what was written. -/
theorem mread_mwrite (m : List Host.Cell) (a : Nat) (b : Bytes) : mread (mwrite m a b) a b.length = b := by
  have key : ∀ (w : Bytes) (x : Nat) (m' : List Host.Cell), (∀ i (h : i < w.length), mbyte m' (x + i) = w[i]) → mread m' x w.length = w := by
    intro w; induction w with
    | nil => intros; rfl
    | cons v t ih =>
      intro x m' h
      have h0 := h 0 (by simp)
      simp only [List.length_cons, mread]
      rw [ih (x + 1) m' (fun i hi => by have := h (i + 1) (by simpa using hi); rw [show x + 1 + i = x + (i + 1) by omega, this]; rfl)]
      simpa using h0
  exact key b a _ (fun i h => mbyte_mwrite_in h)

/-- A read that misses a written range gives what it gave. -/
theorem mread_mwrite_out {m : List Host.Cell} {a x n : Nat} {b : Bytes} (h : x + n ≤ a ∨ a + b.length ≤ x) : mread (mwrite m a b) x n = mread m x n := by
  induction n generalizing x with
  | zero => rfl
  | succ n ih => simp only [mread]; rw [ih (by omega), mbyte_mwrite_out (by omega)]

/-- Keys strictly rising, as a relation between entries. -/
theorem risingFrom_iff {α : Type} (lo : Option Nat) (t : Tbl α) :
    risingFrom lo t = true ↔ (∀ l, lo = some l → ∀ e ∈ t, l < e.1) ∧ t.Pairwise (fun a b => a.1 < b.1) := by
  induction t generalizing lo with
  | nil => simp [risingFrom]
  | cons e t ih =>
    obtain ⟨a, u⟩ := e
    simp only [risingFrom, Bool.and_eq_true, ih, List.pairwise_cons, List.mem_cons]
    constructor
    · rintro ⟨h1, h2, h3⟩
      refine ⟨?_, fun b hb => h2 a rfl b hb, h3⟩
      rintro l rfl b (rfl | hb)
      · simpa using h1
      · exact lt_trans (by simpa using h1) (h2 a rfl b hb)
    · rintro ⟨h1, h2, h3⟩
      refine ⟨?_, ?_, h3⟩
      · cases lo with
        | none => rfl
        | some l => simpa using h1 l rfl (a, u) (Or.inl rfl)
      · rintro l hl b hb; cases hl; exact h2 b hb

/-- The canonical form of a byte memory: addresses strictly rising, no byte 0 listed. -/
theorem wf_iff (m : List Host.Cell) : Memory.wf m = true ↔ m.Pairwise (fun a b => a.1 < b.1) ∧ ∀ e ∈ m, e.2 ≠ 0 := by
  unfold Memory.wf tblWf
  rw [Bool.and_eq_true, risingFrom_iff]
  simp [List.all_eq_true]

theorem wf_filter {m : List Host.Cell} (p : Host.Cell → Bool) (h : Memory.wf m = true) : Memory.wf (m.filter p) = true := tblWf_filter 0 p h

/-- Two memories one after the other, the second's addresses above the first's. -/
theorem wf_append {l m : List Host.Cell} (hl : Memory.wf l = true) (hm : Memory.wf m = true) (h : ∀ a ∈ l, ∀ b ∈ m, a.1 < b.1) :
    Memory.wf (l ++ m) = true := by
  rw [wf_iff] at *
  refine ⟨List.pairwise_append.2 ⟨hl.1, hm.1, h⟩, fun e he => ?_⟩
  rcases List.mem_append.1 he with he | he
  · exact hl.2 e he
  · exact hm.2 e he

/-- Addresses moved by a map that keeps their order. -/
theorem wf_map {m : List Host.Cell} (f : Nat → Nat) (h : Memory.wf m = true) (hf : ∀ a ∈ m, ∀ b ∈ m, a.1 < b.1 → f a.1 < f b.1) :
    Memory.wf (m.map (fun c => (f c.1, c.2))) = true := by
  rw [wf_iff] at *
  refine ⟨?_, ?_⟩
  · rw [List.pairwise_map]
    exact h.1.imp_of_mem (fun ha hb hab => hf _ ha _ hb hab)
  · intro e he
    obtain ⟨c, hc, rfl⟩ := List.mem_map.1 he
    exact h.2 c hc

theorem wf_foldl {β : Type} {l : List β} {f : List Host.Cell → β → List Host.Cell} {m : List Host.Cell} (hm : Memory.wf m = true)
    (hf : ∀ k b, Memory.wf k = true → Memory.wf (f k b) = true) : Memory.wf (l.foldl f m) = true := by
  induction l generalizing m with
  | nil => exact hm
  | cons b l ih => exact ih (hf _ _ hm)

end Sys2Proof.Machine
end

