-- ==== Sys2Proof/Laws/Aside.lean ====
section
/-! SUPPORT. Sys2Proof/Laws/Aside.lean: what an operation that records, counts, sends or moves data leaves alone. -/

namespace Sys2Proof.Machine

/-- From `s` to `t` only memories, caches, homes, requests, registers, rings, links, the host link, the Clasp, translation caches, outputs and
    counters of ids and free values may differ. -/
def Aside (s t : State) : Prop :=
  t = { s with
    free := t.free, regs := t.regs, hbm := t.hbm, host := t.host, poison := t.poison, tags := t.tags, caches := t.caches, homes :=
    t.homes, hostHome := t.hostHome, hostLines := t.hostLines, reqs := t.reqs, nextId := t.nextId, walkers := t.walkers, hubTlb :=
    t.hubTlb, links := t.links, evrings := t.evrings, lastRefs := t.lastRefs, clasp := t.clasp, link := t.link, out := t.out }

theorem Aside.rfl' (s : State) : Aside s s := rfl

theorem Aside.upd {s t u : State} (h : Aside s t) (e : u = { t with
    free := u.free, regs := u.regs, hbm := u.hbm, host := u.host, poison := u.poison, tags := u.tags, caches := u.caches, homes :=
    u.homes, hostHome := u.hostHome, hostLines := u.hostLines, reqs := u.reqs, nextId := u.nextId, walkers := u.walkers, hubTlb :=
    u.hubTlb, links := u.links, evrings := u.evrings, lastRefs := u.lastRefs, clasp := u.clasp, link := u.link, out := u.out }) :
    Aside s u := by
  unfold Aside at h ⊢; rw [h] at e; exact e

theorem Aside.trans {s t u : State} (h : Aside s t) (g : Aside t u) : Aside s u := Aside.upd h g

theorem Aside.pending {s t : State} (h : Aside s t) : t.pending = s.pending := by unfold Aside at h; rw [h]
theorem Aside.hubCount {s t : State} (h : Aside s t) : t.hubCount = s.hubCount := by unfold Aside at h; rw [h]
theorem Aside.frames {s t : State} (h : Aside s t) : t.frames = s.frames := by unfold Aside at h; rw [h]
theorem Aside.regions {s t : State} (h : Aside s t) : t.regions = s.regions := by unfold Aside at h; rw [h]
theorem Aside.fabrics {s t : State} (h : Aside s t) : t.fabrics = s.fabrics := by unfold Aside at h; rw [h]
theorem Aside.spine {s t : State} (h : Aside s t) : t.spine = s.spine := by unfold Aside at h; rw [h]
theorem Aside.spineFailed {s t : State} (h : Aside s t) : t.spineFailed = s.spineFailed := by unfold Aside at h; rw [h]
theorem Aside.cores {s t : State} (h : Aside s t) : t.cores = s.cores := by unfold Aside at h; rw [h]
theorem Aside.hubWatch {s t : State} (h : Aside s t) : t.hubWatch = s.hubWatch := by unfold Aside at h; rw [h]
theorem Aside.booksAt {s t : State} (h : Aside s t) : t.booksAt = s.booksAt := by unfold Aside at h; rw [h]
theorem Aside.foreAt {s t : State} (h : Aside s t) : t.foreAt = s.foreAt := by unfold Aside at h; rw [h]
theorem Aside.offers {s t : State} (h : Aside s t) : t.offers = s.offers := by unfold Aside at h; rw [h]
theorem Aside.updates {s t : State} (h : Aside s t) : t.updates = s.updates := by unfold Aside at h; rw [h]
theorem Aside.bars {s t : State} (h : Aside s t) : t.bars = s.bars := by unfold Aside at h; rw [h]
theorem Aside.sifts {s t : State} (h : Aside s t) : t.sifts = s.sifts := by unfold Aside at h; rw [h]
theorem Aside.units {s t : State} (h : Aside s t) : t.units = s.units := by unfold Aside at h; rw [h]
theorem Aside.walks {s t : State} (h : Aside s t) : t.walks = s.walks := by unfold Aside at h; rw [h]
theorem Aside.cpyTlb {s t : State} (h : Aside s t) : t.cpyTlb = s.cpyTlb := by unfold Aside at h; rw [h]
theorem Aside.chans {s t : State} (h : Aside s t) : t.chans = s.chans := by unfold Aside at h; rw [h]
theorem Aside.ctxs {s t : State} (h : Aside s t) : t.ctxs = s.ctxs := by unfold Aside at h; rw [h]
theorem Aside.folios {s t : State} (h : Aside s t) : t.folios = s.folios := by unfold Aside at h; rw [h]
theorem Aside.coreSl {s t : State} (h : Aside s t) : t.coreSl = s.coreSl := by unfold Aside at h; rw [h]
theorem Aside.memSl {s t : State} (h : Aside s t) : t.memSl = s.memSl := by unfold Aside at h; rw [h]
theorem Aside.linkSl {s t : State} (h : Aside s t) : t.linkSl = s.linkSl := by unfold Aside at h; rw [h]
theorem Aside.prots {s t : State} (h : Aside s t) : t.prots = s.prots := by unfold Aside at h; rw [h]
theorem Aside.queues {s t : State} (h : Aside s t) : t.queues = s.queues := by unfold Aside at h; rw [h]
theorem Aside.refSubs {s t : State} (h : Aside s t) : t.refSubs = s.refSubs := by unfold Aside at h; rw [h]
theorem Aside.cyclic {s t : State} (h : Aside s t) : t.cyclic = s.cyclic := by unfold Aside at h; rw [h]
theorem Aside.corrSeq {s t : State} (h : Aside s t) : t.corrSeq = s.corrSeq := by unfold Aside at h; rw [h]
theorem Aside.corrFrom {s t : State} (h : Aside s t) : t.corrFrom = s.corrFrom := by unfold Aside at h; rw [h]
theorem Aside.corrDue {s t : State} (h : Aside s t) : t.corrDue = s.corrDue := by unfold Aside at h; rw [h]
theorem Aside.cfg {s t : State} (h : Aside s t) : t.cfg = s.cfg := by unfold Aside at h; rw [h]
theorem Aside.power {s t : State} (h : Aside s t) : t.power = s.power := by unfold Aside at h; rw [h]
theorem Aside.net {s t : State} (h : Aside s t) : t.net = s.net := by unfold Aside at h; rw [h]
theorem Aside.rounds {s t : State} (h : Aside s t) : t.rounds = s.rounds := by unfold Aside at h; rw [h]
theorem Aside.urgency {s t : State} (h : Aside s t) : t.urgency = s.urgency := by unfold Aside at h; rw [h]
theorem Aside.urgSince {s t : State} (h : Aside s t) : t.urgSince = s.urgSince := by unfold Aside at h; rw [h]
theorem Aside.urgNoted {s t : State} (h : Aside s t) : t.urgNoted = s.urgNoted := by unfold Aside at h; rw [h]
theorem Aside.fuses {s t : State} (h : Aside s t) : t.fuses = s.fuses := by unfold Aside at h; rw [h]
theorem Aside.capState {s t : State} (h : Aside s t) : t.capState = s.capState := by unfold Aside at h; rw [h]
theorem Aside.capGen {s t : State} (h : Aside s t) : t.capGen = s.capGen := by unfold Aside at h; rw [h]
theorem Aside.fore {s t : State} (h : Aside s t) : t.fore = s.fore := by unfold Aside at h; rw [h]
theorem Aside.standby {s t : State} (h : Aside s t) : t.standby = s.standby := by unfold Aside at h; rw [h]
theorem Aside.peerLost {s t : State} (h : Aside s t) : t.peerLost = s.peerLost := by unfold Aside at h; rw [h]
theorem Aside.kept {s t : State} (h : Aside s t) : t.kept = s.kept := by unfold Aside at h; rw [h]
theorem Aside.darkNoted {s t : State} (h : Aside s t) : t.darkNoted = s.darkNoted := by unfold Aside at h; rw [h]

theorem Aside.ite {c : Prop} [Decidable c] {s a b : State} (ha : Aside s a) (hb : Aside s b) : Aside s (if c then a else b) := by
  split <;> assumption

theorem Aside.snd {α : Type} {s t : State} {a : α} {x : α × State} (e : x = (a, t)) (h : Aside s x.2) : Aside s t := by
  subst e; exact h

theorem Aside.snd2 {α β : Type} {s t : State} {a : α} {b : β} {x : α × β × State} (e : x = (a, b, t)) (h : Aside s x.2.2) : Aside s t := by
  subst e; exact h

theorem foldS_aside {β : Type} {s0 s : State} (h : Aside s0 s) (l : List β) (f : State → β → State)
    (hf : ∀ st a, Aside s0 st → Aside s0 (f st a)) : Aside s0 (foldS l s f) := by
  unfold foldS
  induction l generalizing s with
  | nil => exact h
  | cons a l ih => exact ih (hf _ _ h)

theorem foldl_aside {β : Type} {s0 s : State} {l : List β} {f : State → β → State} (h : Aside s0 s)
    (hf : ∀ st a, Aside s0 st → Aside s0 (f st a)) : Aside s0 (l.foldl f s) := foldS_aside h l f hf

/-- What holds of the state in a result that may be an error. -/
def OnStateaside {α β : Type} (s0 : State) (f : β → State) (g : α → State) : Except β α → Prop
  | .error e => Aside s0 (f e)
  | .ok a => Aside s0 (g a)



theorem State.setCache_aside {s0 s : State} (h : Aside s0 s) (n : Nat) (v : Cache) :
    Aside s0 (s.setCache n v) := by
  unfold State.setCache; repeat' first
    | intro _ | with_reducible assumption | with_reducible apply Aside.ite | (fail_if_no_progress (with_reducible (refine Aside.upd ?_ rfl)))

theorem State.setHome_aside {s0 s : State} (h : Aside s0 s) (h : Nat) (v : Home) :
    Aside s0 (s.setHome h v) := by
  unfold State.setHome; repeat' first
    | intro _ | with_reducible assumption | with_reducible apply Aside.ite | (fail_if_no_progress (with_reducible (refine Aside.upd ?_ rfl)))

theorem State.setStitch_aside {s0 s : State} (h : Aside s0 s) (l : Nat) (v : Link) :
    Aside s0 (s.setStitch l v) := by
  unfold State.setStitch; repeat' first
    | intro _ | with_reducible assumption | with_reducible apply Aside.ite | (fail_if_no_progress (with_reducible (refine Aside.upd ?_ rfl)))

theorem State.setWalker_aside {s0 s : State} (h : Aside s0 s) (d : Nat) (v : Walker) :
    Aside s0 (s.setWalker d v) := by
  unfold State.setWalker; repeat' first
    | intro _ | with_reducible assumption | with_reducible apply Aside.ite | (fail_if_no_progress (with_reducible (refine Aside.upd ?_ rfl)))

theorem State.setReq_aside {s0 s : State} (h : Aside s0 s) (r : Nat) (v : Req) :
    Aside s0 (s.setReq r v) := by
  unfold State.setReq; repeat' first
    | intro _ | with_reducible assumption | with_reducible apply Aside.ite | (fail_if_no_progress (with_reducible (refine Aside.upd ?_ rfl)))

theorem State.dropReq_aside {s0 s : State} (h : Aside s0 s) (r : Nat) :
    Aside s0 (s.dropReq r) := by
  unfold State.dropReq; repeat' first
    | intro _ | with_reducible assumption | with_reducible apply Aside.ite | (fail_if_no_progress (with_reducible (refine Aside.upd ?_ rfl)))

theorem State.addReq_aside {s0 s : State} (h : Aside s0 s) (r : Req) :
    Aside s0 (s.addReq r) := by
  unfold State.addReq; repeat' first
    | intro _ | with_reducible assumption | with_reducible apply Aside.ite | (fail_if_no_progress (with_reducible (refine Aside.upd ?_ rfl)))

theorem State.bumpId_aside {s0 s : State} (h : Aside s0 s)  :
    Aside s0 (s.bumpId) := by
  unfold State.bumpId; repeat' first
    | intro _ | with_reducible assumption | with_reducible apply Aside.ite | (fail_if_no_progress (with_reducible (refine Aside.upd ?_ rfl)))

theorem State.useFree_aside {s0 s : State} (h : Aside s0 s)  :
    Aside s0 (s.useFree) := by
  unfold State.useFree; repeat' first
    | intro _ | with_reducible assumption | with_reducible apply Aside.ite | (fail_if_no_progress (with_reducible (refine Aside.upd ?_ rfl)))

theorem State.emit_aside {s0 s : State} (h : Aside s0 s) (o : Out) :
    Aside s0 (s.emit o) := by
  unfold State.emit; repeat' first
    | intro _ | with_reducible assumption | with_reducible apply Aside.ite | (fail_if_no_progress (with_reducible (refine Aside.upd ?_ rfl)))

theorem State.modReq_aside {s0 s : State} (h : Aside s0 s) (r : Nat) (f : Req → Req) :
    Aside s0 (s.modReq r f) := by
  unfold State.modReq; repeat' first
    | intro _ | with_reducible assumption | with_reducible apply State.setReq_aside | with_reducible apply Aside.ite
    | (fail_if_no_progress (with_reducible (refine Aside.upd ?_ rfl))) | with_reducible (refine Aside.snd (by assumption) ?_)
    | with_reducible (refine Aside.snd2 (by assumption) ?_) | with_reducible apply foldl_aside | split

theorem State.setReg_aside {s0 s : State} (h : Aside s0 s) (c : Nat) (v : Nat) :
    Aside s0 (s.setReg c v) := by
  unfold State.setReg; repeat' first
    | intro _ | with_reducible assumption | with_reducible apply Aside.ite | (fail_if_no_progress (with_reducible (refine Aside.upd ?_ rfl)))

theorem State.setFld_aside {s0 s : State} (h : Aside s0 s) (c : Nat) (lo : Nat) (wd : Nat) (v : Nat) :
    Aside s0 (s.setFld c lo wd v) := by
  unfold State.setFld; repeat' first
    | intro _ | with_reducible assumption | with_reducible apply State.setReg_aside

theorem State.bumpFld_aside {s0 s : State} (h : Aside s0 s) (c : Nat) (lo : Nat) (wd : Nat) (k : Nat) :
    Aside s0 (s.bumpFld c lo wd k) := by
  unfold State.bumpFld; repeat' first
    | intro _ | with_reducible assumption | with_reducible apply State.setFld_aside

theorem State.noteWalk_aside {s0 s : State} (h : Aside s0 s) (die : Nat) (ctx : Nat) (va : Nat) :
    Aside s0 (s.noteWalk die ctx va) := by
  unfold State.noteWalk; repeat' first
    | intro _ | with_reducible assumption | with_reducible apply State.bumpFld_aside | with_reducible apply Aside.ite

theorem State.clearRc_aside {s0 s : State} (h : Aside s0 s) (c : Nat) (mask : Nat) :
    Aside s0 (s.clearRc c mask) := by
  unfold State.clearRc; repeat' first
    | intro _ | with_reducible assumption | with_reducible apply State.setReg_aside

theorem State.send_aside {s0 s : State} (h : Aside s0 s) (p : Packet) :
    Aside s0 (s.send p) := by
  unfold State.send; repeat' first
    | intro _ | with_reducible assumption | with_reducible apply State.setStitch_aside | with_reducible apply State.emit_aside
    | with_reducible apply Aside.ite

theorem State.sendWaiting_aside {s0 s : State} (h : Aside s0 s) (link : Nat) :
    Aside s0 (s.sendWaiting link) := by
  unfold State.sendWaiting; repeat' first
    | intro _ | with_reducible assumption | with_reducible apply State.setStitch_aside | with_reducible apply foldS_aside
    | with_reducible apply State.send_aside

theorem State.mirrorSend_aside {s0 s : State} (h : Aside s0 s) (f : Nat) (pkg : Nat) (q : Nat) (o : Nat) (d : Bytes) (tag : Nat) :
    Aside s0 (s.mirrorSend f pkg q o d tag) := by
  unfold State.mirrorSend; repeat' first
    | intro _ | with_reducible assumption | with_reducible apply foldS_aside | with_reducible apply State.send_aside

theorem State.writeSlice_aside {s0 s : State} (h : Aside s0 s) (m : Nat) (o : Nat) (d : Bytes) (tag : optParam Nat 65534) :
    Aside s0 (s.writeSlice m o d tag) := by
  unfold State.writeSlice; repeat' first
    | intro _ | with_reducible assumption | with_reducible apply State.mirrorSend_aside | with_reducible apply Aside.ite
    | (fail_if_no_progress (with_reducible (refine Aside.upd ?_ rfl))) | with_reducible (refine Aside.snd (by assumption) ?_)
    | with_reducible (refine Aside.snd2 (by assumption) ?_) | with_reducible apply foldl_aside | split

theorem State.heal_aside {s0 s : State} (h : Aside s0 s) (pa : Nat) (n : Nat) :
    Aside s0 (s.heal pa n) := by
  unfold State.heal; repeat' first
    | intro _ | with_reducible assumption | with_reducible apply Aside.ite | (fail_if_no_progress (with_reducible (refine Aside.upd ?_ rfl)))

theorem State.rawWrite_aside {s0 s : State} (h : Aside s0 s) (pa : Nat) (d : Bytes) (tag : optParam Nat 65534) :
    Aside s0 (s.rawWrite pa d tag).2 := by
  unfold State.rawWrite; repeat' first
    | intro _ | with_reducible assumption | with_reducible apply State.heal_aside | with_reducible apply State.writeSlice_aside
    | with_reducible apply Aside.ite | (fail_if_no_progress (with_reducible (refine Aside.upd ?_ rfl)))
    | with_reducible (refine Aside.snd (by assumption) ?_) | with_reducible (refine Aside.snd2 (by assumption) ?_) | with_reducible apply foldl_aside
    | split

theorem State.atsFill_aside {s0 s : State} (h : Aside s0 s) (fn : Nat) (pa : Nat) :
    Aside s0 (s.atsFill fn pa) := by
  unfold State.atsFill; repeat' first
    | intro _ | with_reducible assumption | with_reducible apply Aside.ite | (fail_if_no_progress (with_reducible (refine Aside.upd ?_ rfl)))
    | with_reducible (refine Aside.snd (by assumption) ?_) | with_reducible (refine Aside.snd2 (by assumption) ?_) | with_reducible apply foldl_aside
    | split

theorem State.dropLine_aside {s0 s : State} (h : Aside s0 s) (line : Nat) :
    Aside s0 (s.dropLine line) := by
  unfold State.dropLine; repeat' first
    | intro _ | with_reducible assumption | with_reducible apply State.setHome_aside | with_reducible apply Aside.ite
    | (fail_if_no_progress (with_reducible (refine Aside.upd ?_ rfl))) | with_reducible (refine Aside.snd (by assumption) ?_)
    | with_reducible (refine Aside.snd2 (by assumption) ?_) | with_reducible apply foldl_aside | split | dsimp only

theorem State.patchCopies_aside {s0 s : State} (h : Aside s0 s) (line : Nat) (o : Nat) (d : Bytes) :
    Aside s0 (s.patchCopies line o d) := by
  unfold State.patchCopies; repeat' first
    | intro _ | with_reducible assumption | with_reducible apply Aside.ite | (fail_if_no_progress (with_reducible (refine Aside.upd ?_ rfl)))

theorem State.putLine_aside {s0 s : State} (h : Aside s0 s) (pa : Nat) (d : Bytes) (tag : optParam Nat 65534) :
    Aside s0 (s.putLine pa d tag).2 := by
  unfold State.putLine; repeat' first
    | intro _ | with_reducible assumption | with_reducible apply State.rawWrite_aside | with_reducible apply State.dropLine_aside
    | with_reducible apply State.patchCopies_aside | with_reducible apply Aside.ite
    | (fail_if_no_progress (with_reducible (refine Aside.upd ?_ rfl))) | with_reducible (refine Aside.snd (by assumption) ?_)
    | with_reducible (refine Aside.snd2 (by assumption) ?_) | with_reducible apply foldl_aside | split | dsimp only

theorem State.putBytes_aside {s0 s : State} (h : Aside s0 s) (pa : Nat) (fuel : Nat) (l : Bytes) :
    Aside s0 (s.putBytes pa fuel l).2 := by
  induction fuel generalizing s pa l with
  | zero => unfold State.putBytes; exact h
  | succ fuel ih =>
  unfold State.putBytes; repeat' first
    | with_reducible apply ih | intro _ | with_reducible assumption | with_reducible apply State.putLine_aside
    | with_reducible apply State.putLine_aside | with_reducible apply Aside.ite | (fail_if_no_progress (with_reducible (refine Aside.upd ?_ rfl)))
    | with_reducible (refine Aside.snd (by assumption) ?_) | with_reducible (refine Aside.snd2 (by assumption) ?_) | with_reducible apply foldl_aside
    | split | dsimp only

theorem State.hostWrite_aside {s0 s : State} (h : Aside s0 s) (pa : Nat) (d : Bytes) :
    Aside s0 (s.hostWrite pa d) := by
  unfold State.hostWrite; repeat' first
    | intro _ | with_reducible assumption | with_reducible apply State.putBytes_aside

theorem State.dirDel_aside {s0 s : State} (h : Aside s0 s) (h : Nat) (line : Nat) :
    Aside s0 (s.dirDel h line) := by
  unfold State.dirDel; repeat' first
    | intro _ | with_reducible assumption | with_reducible apply State.setHome_aside

theorem State.takeBack_aside {s0 s : State} (h : Aside s0 s) (line : Nat) (d : Bytes) :
    Aside s0 (s.takeBack line d) := by
  unfold State.takeBack; repeat' first
    | intro _ | with_reducible assumption | with_reducible apply State.rawWrite_aside | with_reducible apply Aside.ite
    | (fail_if_no_progress (with_reducible (refine Aside.upd ?_ rfl))) | with_reducible (refine Aside.snd (by assumption) ?_)
    | with_reducible (refine Aside.snd2 (by assumption) ?_) | with_reducible apply foldl_aside | split

theorem State.dropCopies_aside {s0 s : State} (h : Aside s0 s) (h : Nat) (line : Nat) :
    Aside s0 (s.dropCopies h line) := by
  unfold State.dropCopies; repeat' first
    | intro _ | with_reducible assumption | with_reducible apply State.dirDel_aside | with_reducible apply Aside.ite
    | (fail_if_no_progress (with_reducible (refine Aside.upd ?_ rfl)))

theorem State.recallLine_aside {s0 s : State} (h : Aside s0 s) (h : Nat) (line : Nat) :
    Aside s0 (s.recallLine h line) := by
  unfold State.recallLine; repeat' first
    | intro _ | with_reducible assumption | with_reducible apply State.dropCopies_aside | with_reducible apply State.takeBack_aside
    | with_reducible apply Aside.ite | (fail_if_no_progress (with_reducible (refine Aside.upd ?_ rfl)))
    | with_reducible (refine Aside.snd (by assumption) ?_) | with_reducible (refine Aside.snd2 (by assumption) ?_) | with_reducible apply foldl_aside
    | split

theorem State.evictHostLine_aside {s0 s : State} (h : Aside s0 s) (line : Nat) :
    Aside s0 (s.evictHostLine line) := by
  unfold State.evictHostLine; repeat' first
    | intro _ | with_reducible assumption | with_reducible apply State.recallLine_aside | with_reducible apply State.emit_aside
    | with_reducible apply Aside.ite | (fail_if_no_progress (with_reducible (refine Aside.upd ?_ rfl)))
    | with_reducible (refine Aside.snd (by assumption) ?_) | with_reducible (refine Aside.snd2 (by assumption) ?_) | with_reducible apply foldl_aside
    | split | dsimp only

theorem State.fillHostLine_aside {s0 s : State} (h : Aside s0 s) (line : Nat) (st : LineSt) (d : Bytes) :
    Aside s0 (s.fillHostLine line st d) := by
  unfold State.fillHostLine; repeat' first
    | intro _ | with_reducible assumption | with_reducible apply State.evictHostLine_aside | with_reducible apply State.useFree_aside
    | with_reducible apply Aside.ite | (fail_if_no_progress (with_reducible (refine Aside.upd ?_ rfl)))

theorem State.watchLine_aside {s0 s : State} (h : Aside s0 s) (line : Nat) :
    Aside s0 (s.watchLine line) := by
  unfold State.watchLine; repeat' first
    | intro _ | with_reducible assumption | with_reducible apply State.fillHostLine_aside | with_reducible apply State.emit_aside
    | with_reducible apply Aside.ite | (fail_if_no_progress (with_reducible (refine Aside.upd ?_ rfl)))
    | with_reducible (refine Aside.snd (by assumption) ?_) | with_reducible (refine Aside.snd2 (by assumption) ?_) | with_reducible apply foldl_aside
    | split

theorem State.msix_aside {s0 s : State} (h : Aside s0 s) (fn : Nat) (v : Nat) :
    Aside s0 (s.msix fn v) := by
  unfold State.msix; repeat' first
    | intro _ | with_reducible assumption | with_reducible apply State.emit_aside | with_reducible apply Aside.ite
    | (fail_if_no_progress (with_reducible (refine Aside.upd ?_ rfl)))

theorem State.putRing_aside {s0 s : State} (h : Aside s0 s) (r : Nat) (e : EvRing) :
    Aside s0 (s.putRing r e) := by
  unfold State.putRing; repeat' first
    | intro _ | with_reducible assumption | with_reducible apply State.hostWrite_aside | with_reducible apply Aside.ite
    | (fail_if_no_progress (with_reducible (refine Aside.upd ?_ rfl)))

theorem State.store_aside {s0 s : State} (h : Aside s0 s) (r : Nat) (e : EvRing) (rec : Bytes) :
    Aside s0 (s.store r e rec) := by
  unfold State.store; repeat' first
    | intro _ | with_reducible assumption | with_reducible apply State.hostWrite_aside | with_reducible apply State.msix_aside
    | with_reducible apply State.putRing_aside | with_reducible apply Aside.ite

theorem State.ringPut_aside {s0 s : State} (h : Aside s0 s) (r : Nat) (rec : Bytes) :
    Aside s0 (s.ringPut r rec) := by
  unfold State.ringPut; repeat' first
    | intro _ | with_reducible assumption | with_reducible apply State.store_aside | with_reducible apply State.putRing_aside
    | with_reducible apply Aside.ite | (fail_if_no_progress (with_reducible (refine Aside.upd ?_ rfl)))
    | with_reducible (refine Aside.snd (by assumption) ?_) | with_reducible (refine Aside.snd2 (by assumption) ?_) | with_reducible apply foldl_aside
    | split

theorem State.ringBoth_aside {s0 s : State} (h : Aside s0 s) (r : Nat) (rec : Bytes) (opcopy : Bytes) :
    Aside s0 (s.ringBoth r rec opcopy) := by
  unfold State.ringBoth; repeat' first
    | intro _ | with_reducible assumption | with_reducible apply State.ringPut_aside | with_reducible apply Aside.ite

theorem State.alert_aside {s0 s : State} (h : Aside s0 s)  :
    Aside s0 (s.alert) := by
  unfold State.alert; repeat' first
    | intro _ | with_reducible assumption | with_reducible apply Aside.ite | (fail_if_no_progress (with_reducible (refine Aside.upd ?_ rfl)))

theorem State.toTray_aside {s0 s : State} (h : Aside s0 s) (rec : Bytes) :
    Aside s0 (s.toTray rec) := by
  unfold State.toTray; repeat' first
    | intro _ | with_reducible assumption | with_reducible apply State.alert_aside | with_reducible apply Aside.ite
    | (fail_if_no_progress (with_reducible (refine Aside.upd ?_ rfl)))

theorem State.errLog_aside {s0 s : State} (h : Aside s0 s) (ty : Nat) (code : Nat) (isl : Nat) (wher : Nat) :
    Aside s0 (s.errLog ty code isl wher) := by
  unfold State.errLog; repeat' first
    | intro _ | with_reducible assumption | with_reducible apply State.setReg_aside | with_reducible apply State.bumpFld_aside
    | with_reducible apply State.setFld_aside

theorem State.hwError_aside {s0 s : State} (h : Aside s0 s) (isl : Nat) (unit : Nat) (code : Nat) (wher : Nat) (addr : Nat) (folio : Nat) (ctx : Nat) :
    Aside s0 (s.hwError isl unit code wher addr folio ctx) := by
  unfold State.hwError; repeat' first
    | intro _ | with_reducible assumption | with_reducible apply State.errLog_aside | with_reducible apply State.ringPut_aside
    | with_reducible apply State.toTray_aside

theorem State.watchdogRec_aside {s0 s : State} (h : Aside s0 s) (kind : Nat) (target : Nat) (elapsed : Nat) (folio : Nat) (ctx : Nat) :
    Aside s0 (s.watchdogRec kind target elapsed folio ctx) := by
  unfold State.watchdogRec; repeat' first
    | intro _ | with_reducible assumption | with_reducible apply State.errLog_aside | with_reducible apply State.ringPut_aside
    | with_reducible apply State.toTray_aside

theorem State.resetRec_aside {s0 s : State} (h : Aside s0 s) (step : Nat) (reason : Nat) (target : Nat) (elapsed : Nat) (folio : Nat) (ctx : Nat) :
    Aside s0 (s.resetRec step reason target elapsed folio ctx) := by
  unfold State.resetRec; repeat' first
    | intro _ | with_reducible assumption | with_reducible apply State.errLog_aside | with_reducible apply State.ringPut_aside
    | with_reducible apply State.toTray_aside

theorem State.powerEvent_aside {s0 s : State} (h : Aside s0 s) (kind : Nat) (isl : Nat) (before : Nat) (after : Nat) (lowest : Nat) (dur : Nat) :
    Aside s0 (s.powerEvent kind isl before after lowest dur) := by
  unfold State.powerEvent; repeat' first
    | intro _ | with_reducible assumption | with_reducible apply State.ringPut_aside | with_reducible apply State.toTray_aside

theorem State.powerCycle_aside {s0 s : State} (h : Aside s0 s)  :
    Aside s0 (s.powerCycle) := by
  unfold State.powerCycle; repeat' first
    | intro _ | with_reducible assumption | with_reducible apply State.alert_aside | with_reducible apply Aside.ite
    | (fail_if_no_progress (with_reducible (refine Aside.upd ?_ rfl)))

theorem State.fillWalker_aside {s0 s : State} (h : Aside s0 s) (die : Nat) (e : TlbEntry) (ups : List WalkCEntry) :
    Aside s0 (s.fillWalker die e ups) := by
  unfold State.fillWalker; repeat' first
    | intro _ | with_reducible assumption | with_reducible apply State.setWalker_aside

theorem State.hubXlate_aside {s0 s : State} (h : Aside s0 s) (ctx : Nat) (va : Nat) (acc : Nat) :
    Aside s0 (s.hubXlate ctx va acc).2 := by
  unfold State.hubXlate; repeat' first
    | intro _ | with_reducible assumption | with_reducible apply State.fillWalker_aside | with_reducible apply State.bumpFld_aside
    | with_reducible apply State.noteWalk_aside | with_reducible apply Aside.ite | (fail_if_no_progress (with_reducible (refine Aside.upd ?_ rfl)))
    | with_reducible (refine Aside.snd (by assumption) ?_) | with_reducible (refine Aside.snd2 (by assumption) ?_) | with_reducible apply foldl_aside
    | split | dsimp only

theorem State.xltRecord_aside {s0 s : State} (h : Aside s0 s) (isl : Nat) (ctx : Nat) (va : Nat) (pc : Nat) (sub : Nat) (acc : Nat) (src : Nat)
    (lvl : Nat) (index : Nat) (engine : Bytes) :
    Aside s0 (s.xltRecord isl ctx va pc sub acc src lvl index engine) := by
  unfold State.xltRecord; repeat' first
    | intro _ | with_reducible assumption | with_reducible apply State.ringBoth_aside

theorem State.integFail_aside {s0 s : State} (h : Aside s0 s) (pa : Nat) (src : Nat) :
    Aside s0 (s.integFail pa src) := by
  unfold State.integFail; repeat' first
    | intro _ | with_reducible assumption | with_reducible apply State.ringPut_aside | with_reducible apply Aside.ite
    | (fail_if_no_progress (with_reducible (refine Aside.upd ?_ rfl))) | with_reducible (refine Aside.snd (by assumption) ?_)
    | with_reducible (refine Aside.snd2 (by assumption) ?_) | with_reducible apply foldl_aside | split

theorem State.readLine_aside {s0 s : State} (h : Aside s0 s) (ctx : Nat) (folio : Nat) (pa : Nat) (n : Nat) :
    Aside s0 (s.readLine ctx folio pa n).2.2 := by
  unfold State.readLine; repeat' first
    | intro _ | with_reducible assumption | with_reducible apply State.integFail_aside | with_reducible apply State.useFree_aside
    | with_reducible apply State.send_aside | with_reducible apply Aside.ite | (fail_if_no_progress (with_reducible (refine Aside.upd ?_ rfl)))
    | with_reducible (refine Aside.snd (by assumption) ?_) | with_reducible (refine Aside.snd2 (by assumption) ?_) | with_reducible apply foldl_aside
    | split | dsimp only

theorem State.writeLine_aside {s0 s : State} (h : Aside s0 s) (ctx : Nat) (folio : Nat) (pa : Nat) (d : Bytes) :
    Aside s0 (s.writeLine ctx folio pa d).2 := by
  unfold State.writeLine; repeat' first
    | intro _ | with_reducible assumption | with_reducible apply State.putLine_aside | with_reducible apply State.send_aside
    | with_reducible apply Aside.ite | (fail_if_no_progress (with_reducible (refine Aside.upd ?_ rfl)))
    | with_reducible (refine Aside.snd (by assumption) ?_) | with_reducible (refine Aside.snd2 (by assumption) ?_) | with_reducible apply foldl_aside
    | split

theorem State.hubReadN_aside {s0 s : State} (h : Aside s0 s) (ctx : Nat) (va : Nat) (fuel : Nat) (n : Nat) :
    Aside s0 (s.hubReadN ctx va fuel n).2 := by
  induction fuel generalizing s ctx va n with
  | zero => unfold State.hubReadN; exact h
  | succ fuel ih =>
  unfold State.hubReadN; repeat' first
    | with_reducible apply ih | intro _ | with_reducible assumption | with_reducible apply State.readLine_aside
    | with_reducible apply State.hubXlate_aside | with_reducible apply State.xltRecord_aside | with_reducible apply State.hubXlate_aside
    | with_reducible apply State.readLine_aside | with_reducible apply State.xltRecord_aside | with_reducible apply Aside.ite
    | (fail_if_no_progress (with_reducible (refine Aside.upd ?_ rfl))) | with_reducible (refine Aside.snd (by assumption) ?_)
    | with_reducible (refine Aside.snd2 (by assumption) ?_) | with_reducible apply foldl_aside | split | dsimp only

theorem State.hubRead_aside {s0 s : State} (h : Aside s0 s) (ctx : Nat) (va : Nat) (n : Nat) :
    Aside s0 (s.hubRead ctx va n).2 := by
  unfold State.hubRead; repeat' first
    | intro _ | with_reducible assumption | with_reducible apply State.hubReadN_aside

theorem State.hubWriteN_aside {s0 s : State} (h : Aside s0 s) (ctx : Nat) (va : Nat) (acc : Nat) (fuel : Nat) (l : Bytes) :
    Aside s0 (s.hubWriteN ctx va acc fuel l).2 := by
  induction fuel generalizing s ctx va acc l with
  | zero => unfold State.hubWriteN; exact h
  | succ fuel ih =>
  unfold State.hubWriteN; repeat' first
    | with_reducible apply ih | intro _ | with_reducible assumption | with_reducible apply State.hubXlate_aside
    | with_reducible apply State.writeLine_aside | with_reducible apply State.xltRecord_aside | with_reducible apply State.hubXlate_aside
    | with_reducible apply State.writeLine_aside | with_reducible apply State.xltRecord_aside | with_reducible apply Aside.ite
    | (fail_if_no_progress (with_reducible (refine Aside.upd ?_ rfl))) | with_reducible (refine Aside.snd (by assumption) ?_)
    | with_reducible (refine Aside.snd2 (by assumption) ?_) | with_reducible apply foldl_aside | split | dsimp only

theorem State.hubWrite_aside {s0 s : State} (h : Aside s0 s) (ctx : Nat) (va : Nat) (d : Bytes) :
    Aside s0 (s.hubWrite ctx va d).2 := by
  unfold State.hubWrite; repeat' first
    | intro _ | with_reducible assumption | with_reducible apply State.hubWriteN_aside

theorem State.hubAdd_aside {s0 s : State} (h : Aside s0 s) (ctx : Nat) (va : Nat) (w : Nat) (inc : Nat) :
    Aside s0 (s.hubAdd ctx va w inc).2.2 := by
  unfold State.hubAdd; repeat' first
    | intro _ | with_reducible assumption | with_reducible apply State.readLine_aside | with_reducible apply State.hubXlate_aside
    | with_reducible apply State.writeLine_aside | with_reducible apply State.xltRecord_aside | with_reducible apply Aside.ite
    | (fail_if_no_progress (with_reducible (refine Aside.upd ?_ rfl))) | with_reducible (refine Aside.snd (by assumption) ?_)
    | with_reducible (refine Aside.snd2 (by assumption) ?_) | with_reducible apply foldl_aside | split

theorem State.toPeer_aside {s0 s : State} (h : Aside s0 s) (id : Nat) (r : Req) (i : Nat) (off : Nat) :
    Aside s0 (s.toPeer id r i off) := by
  unfold State.toPeer; repeat' first
    | intro _ | with_reducible assumption | with_reducible apply State.setReq_aside | with_reducible apply foldS_aside
    | with_reducible apply State.send_aside | with_reducible apply Aside.ite | (fail_if_no_progress (with_reducible (refine Aside.upd ?_ rfl)))

theorem State.dropAsk_aside {s0 s : State} (h : Aside s0 s) (ask : Option Nat) :
    Aside s0 (s.dropAsk ask) := by
  unfold State.dropAsk; repeat' first
    | intro _ | with_reducible assumption | with_reducible apply State.dropReq_aside | with_reducible apply State.setReq_aside
    | with_reducible apply Aside.ite | (fail_if_no_progress (with_reducible (refine Aside.upd ?_ rfl)))
    | with_reducible (refine Aside.snd (by assumption) ?_) | with_reducible (refine Aside.snd2 (by assumption) ?_) | with_reducible apply foldl_aside
    | split

theorem State.touch_aside {s0 s : State} (h : Aside s0 s) (n : Nat) (line : Nat) :
    Aside s0 (s.touch n line) := by
  unfold State.touch; repeat' first
    | intro _ | with_reducible assumption | with_reducible apply State.setCache_aside

theorem State.putLineIn_aside {s0 s : State} (h : Aside s0 s) (n : Nat) (line : Nat) (l : CLine) :
    Aside s0 (s.putLineIn n line l) := by
  unfold State.putLineIn; repeat' first
    | intro _ | with_reducible assumption | with_reducible apply State.touch_aside | with_reducible apply State.setCache_aside

theorem State.sgRecord_aside {s0 s : State} (h : Aside s0 s) (ctx : Nat) (tenant : Bytes) (op : Option Bytes) :
    Aside s0 (s.sgRecord ctx tenant op) := by
  unfold State.sgRecord; repeat' first
    | intro _ | with_reducible assumption | with_reducible apply State.ringPut_aside | with_reducible apply Aside.ite
    | (fail_if_no_progress (with_reducible (refine Aside.upd ?_ rfl))) | with_reducible (refine Aside.snd (by assumption) ?_)
    | with_reducible (refine Aside.snd2 (by assumption) ?_) | with_reducible apply foldl_aside | split

theorem State.sieveCtx_aside {s0 s : State} (h : Aside s0 s) (c : Nat) (ctx : Nat) (k : Nat) (total : Nat) (thr : Nat) :
    Aside s0 (s.sieveCtx c ctx k total thr) := by
  unfold State.sieveCtx; repeat' first
    | intro _ | with_reducible assumption | with_reducible apply State.sgRecord_aside

theorem State.missPut_aside {s0 s : State} (h : Aside s0 s) (ctx : Nat) (floorOnly : Bool) (tenant : Bytes) (full : Bytes) :
    Aside s0 (s.missPut ctx floorOnly tenant full) := by
  unfold State.missPut; repeat' first
    | intro _ | with_reducible assumption | with_reducible apply State.sgRecord_aside | with_reducible apply State.ringPut_aside
    | with_reducible apply Aside.ite | (fail_if_no_progress (with_reducible (refine Aside.upd ?_ rfl)))
    | with_reducible (refine Aside.snd (by assumption) ?_) | with_reducible (refine Aside.snd2 (by assumption) ?_) | with_reducible apply foldl_aside
    | split | dsimp only

theorem State.ctxFaultRecord_aside {s0 s : State} (h : Aside s0 s) (ctx : Nat) (isl : Nat) (core : Option Nat) (f : FaultInfo) :
    Aside s0 (s.ctxFaultRecord ctx isl core f) := by
  unfold State.ctxFaultRecord; repeat' first
    | intro _ | with_reducible assumption | with_reducible apply State.ringBoth_aside

theorem State.sgFailed_aside {s0 s : State} (h : Aside s0 s) (u : SgUpdate) (va : Nat) (status : Nat) :
    Aside s0 (s.sgFailed u va status) := by
  unfold State.sgFailed; repeat' first
    | intro _ | with_reducible assumption | with_reducible apply State.ctxFaultRecord_aside | with_reducible apply State.useFree_aside

theorem State.barSend_aside {s0 s : State} (h : Aside s0 s) (m : BarMsg) :
    Aside s0 (s.barSend m) := by
  unfold State.barSend; repeat' first
    | intro _ | with_reducible assumption | with_reducible apply State.useFree_aside | with_reducible apply foldS_aside
    | with_reducible apply State.send_aside | with_reducible apply Aside.ite | (fail_if_no_progress (with_reducible (refine Aside.upd ?_ rfl)))
    | with_reducible (refine Aside.snd (by assumption) ?_) | with_reducible (refine Aside.snd2 (by assumption) ?_) | with_reducible apply foldl_aside
    | split

theorem State.measure_aside {s0 s : State} (h : Aside s0 s) (h : Nat) (qos : Nat) (folio : Nat) (lat : Nat) :
    Aside s0 (s.measure h qos folio lat) := by
  unfold State.measure; repeat' first
    | intro _ | with_reducible assumption | with_reducible apply State.setFld_aside | with_reducible apply Aside.ite

theorem State.latency_aside {s0 s : State} (h : Aside s0 s) (q : Req) :
    Aside s0 (s.latency q) := by
  unfold State.latency; repeat' first
    | intro _ | with_reducible assumption | with_reducible apply State.measure_aside | with_reducible apply Aside.ite
    | (fail_if_no_progress (with_reducible (refine Aside.upd ?_ rfl))) | with_reducible (refine Aside.snd (by assumption) ?_)
    | with_reducible (refine Aside.snd2 (by assumption) ?_) | with_reducible apply foldl_aside | split

theorem State.dirPut_aside {s0 s : State} (h : Aside s0 s) (h : Nat) (line : Nat) (e : DirEntry) :
    Aside s0 (s.dirPut h line e) := by
  unfold State.dirPut; repeat' first
    | intro _ | with_reducible assumption | with_reducible apply State.setHome_aside

theorem State.dirRemove_aside {s0 s : State} (h : Aside s0 s) (h : Nat) (line : Nat) (n : Nat) :
    Aside s0 (s.dirRemove h line n) := by
  unfold State.dirRemove; repeat' first
    | intro _ | with_reducible assumption | with_reducible apply State.dirPut_aside | with_reducible apply State.dirDel_aside
    | with_reducible apply Aside.ite | (fail_if_no_progress (with_reducible (refine Aside.upd ?_ rfl)))
    | with_reducible (refine Aside.snd (by assumption) ?_) | with_reducible (refine Aside.snd2 (by assumption) ?_) | with_reducible apply foldl_aside
    | split

theorem State.dirGrant_aside {s0 s : State} (h : Aside s0 s) (h : Nat) (line : Nat) (n : Nat) (st : LineSt) :
    Aside s0 (s.dirGrant h line n st) := by
  unfold State.dirGrant; repeat' first
    | intro _ | with_reducible assumption | with_reducible apply State.dirPut_aside | with_reducible apply Aside.ite
    | (fail_if_no_progress (with_reducible (refine Aside.upd ?_ rfl))) | with_reducible (refine Aside.snd (by assumption) ?_)
    | with_reducible (refine Aside.snd2 (by assumption) ?_) | with_reducible apply foldl_aside | split

theorem State.cohCount_aside {s0 s : State} (h : Aside s0 s) (h : Nat) (lo : Nat) (wd : Nat) :
    Aside s0 (s.cohCount h lo wd) := by
  unfold State.cohCount; repeat' first
    | intro _ | with_reducible assumption | with_reducible apply State.bumpFld_aside | with_reducible apply Aside.ite

theorem State.makeRoom_aside {s0 s : State} (h : Aside s0 s) (h : Nat) (line : Nat) :
    Aside s0 (s.makeRoom h line) := by
  unfold State.makeRoom; repeat' first
    | intro _ | with_reducible assumption | with_reducible apply State.cohCount_aside | with_reducible apply State.recallLine_aside
    | with_reducible apply Aside.ite | (fail_if_no_progress (with_reducible (refine Aside.upd ?_ rfl)))
    | with_reducible (refine Aside.snd (by assumption) ?_) | with_reducible (refine Aside.snd2 (by assumption) ?_) | with_reducible apply foldl_aside
    | split

theorem State.startTxn_aside {s0 s : State} (h : Aside s0 s) (h : Nat) (line : Nat) (req : Option Nat) (probes : List (Nat × PrbKind)) :
    Aside s0 (s.startTxn h line req probes) := by
  unfold State.startTxn; repeat' first
    | intro _ | with_reducible assumption | with_reducible apply State.setCache_aside | with_reducible apply State.setHome_aside
    | with_reducible apply foldS_aside

theorem State.endTxn_aside {s0 s : State} (h : Aside s0 s) (h : Nat) (line : Nat) :
    Aside s0 (s.endTxn h line) := by
  unfold State.endTxn; repeat' first
    | intro _ | with_reducible assumption | with_reducible apply State.setHome_aside

theorem State.grantWith_aside {s0 s : State} (h : Aside s0 s) (h : Nat) (line : Nat) (id : Nat) (q : Req) (d : Bytes) :
    Aside s0 (s.grantWith h line id q d) := by
  unfold State.grantWith; repeat' first
    | intro _ | with_reducible assumption | with_reducible apply State.latency_aside | with_reducible apply State.setReq_aside
    | with_reducible apply State.setHome_aside | with_reducible apply State.dirGrant_aside

theorem State.askBias_aside {s0 s : State} (h : Aside s0 s) (id : Nat) (q : Req) :
    Aside s0 (s.askBias id q) := by
  unfold State.askBias; repeat' first
    | intro _ | with_reducible assumption | with_reducible apply State.setReq_aside | with_reducible apply foldS_aside
    | with_reducible apply State.emit_aside

theorem State.answer_aside {s0 s : State} (h : Aside s0 s) (n : Nat) (line : Nat) (k : PrbKind) :
    Aside s0 (s.answer n line k) := by
  unfold State.answer; repeat' first
    | intro _ | with_reducible assumption | with_reducible apply State.setCache_aside | with_reducible apply Aside.ite
    | (fail_if_no_progress (with_reducible (refine Aside.upd ?_ rfl))) | with_reducible (refine Aside.snd (by assumption) ?_)
    | with_reducible (refine Aside.snd2 (by assumption) ?_) | with_reducible apply foldl_aside | split | dsimp only

theorem State.answerDir_aside {s0 s : State} (h : Aside s0 s) (h : Nat) (line : Nat) (n : Nat) (kind : Option ReqKind) (whole : Bool) (a : PrbAns) :
    Aside s0 (s.answerDir h line n kind whole a) := by
  unfold State.answerDir; repeat' first
    | intro _ | with_reducible assumption | with_reducible apply State.takeBack_aside | with_reducible apply State.dirPut_aside
    | with_reducible apply State.dirRemove_aside | with_reducible apply Aside.ite | (fail_if_no_progress (with_reducible (refine Aside.upd ?_ rfl)))
    | with_reducible (refine Aside.snd (by assumption) ?_) | with_reducible (refine Aside.snd2 (by assumption) ?_) | with_reducible apply foldl_aside
    | split

theorem State.unanswer_aside {s0 s : State} (h : Aside s0 s) (n : Nat) (line : Nat) :
    Aside s0 (s.unanswer n line) := by
  unfold State.unanswer; repeat' first
    | intro _ | with_reducible assumption | with_reducible apply State.setCache_aside

theorem State.retireHome_aside {s0 s : State} (h : Aside s0 s) (n : Nat) (line : Nat) (w : WbEntry) :
    Aside s0 (s.retireHome n line w) := by
  unfold State.retireHome; repeat' first
    | intro _ | with_reducible assumption | with_reducible apply State.cohCount_aside | with_reducible apply State.takeBack_aside
    | with_reducible apply State.setCache_aside | with_reducible apply State.dirRemove_aside | with_reducible apply Aside.ite
    | (fail_if_no_progress (with_reducible (refine Aside.upd ?_ rfl))) | with_reducible (refine Aside.snd (by assumption) ?_)
    | with_reducible (refine Aside.snd2 (by assumption) ?_) | with_reducible apply foldl_aside | split

theorem State.evict_aside {s0 s : State} (h : Aside s0 s) (n : Nat) (line : Nat) (l : CLine) :
    Aside s0 (s.evict n line l) := by
  unfold State.evict; repeat' first
    | intro _ | with_reducible assumption | with_reducible apply State.setCache_aside

theorem State.promotionEnd_aside {s0 s : State} (h : Aside s0 s) (c : Nat) (ctx : Nat) (g : Guard) (outcome : Nat) :
    Aside s0 (s.promotionEnd c ctx g outcome) := by
  unfold State.promotionEnd; repeat' first
    | intro _ | with_reducible assumption | with_reducible apply State.missPut_aside

theorem State.cleanLine_aside {s0 s : State} (h : Aside s0 s) (n : Nat) (line : Nat) (keep : Bool) :
    Aside s0 (s.cleanLine n line keep) := by
  unfold State.cleanLine; repeat' first
    | intro _ | with_reducible assumption | with_reducible apply State.takeBack_aside | with_reducible apply State.setCache_aside
    | with_reducible apply State.dirPut_aside | with_reducible apply State.dirRemove_aside | with_reducible apply State.putLineIn_aside
    | with_reducible apply Aside.ite | (fail_if_no_progress (with_reducible (refine Aside.upd ?_ rfl)))
    | with_reducible (refine Aside.snd (by assumption) ?_) | with_reducible (refine Aside.snd2 (by assumption) ?_) | with_reducible apply foldl_aside
    | split | dsimp only

theorem State.cpyFault_aside {s0 s : State} (h : Aside s0 s) (ch : Nat) (va : Nat) (acc : Nat) (sub : Nat) (lvl : Nat) :
    Aside s0 (s.cpyFault ch va acc sub lvl) := by
  unfold State.cpyFault; repeat' first
    | intro _ | with_reducible assumption | with_reducible apply State.xltRecord_aside

theorem State.cpyLost_aside {s0 s : State} (h : Aside s0 s) (ch : Nat) (va : Nat) (pa : Nat) (e : Cpl) :
    Aside s0 (s.cpyLost ch va pa e) := by
  unfold State.cpyLost; repeat' first
    | intro _ | with_reducible assumption | with_reducible apply State.ctxFaultRecord_aside | with_reducible apply Aside.ite

theorem State.lastStatus_aside {s0 s : State} (h : Aside s0 s) (ch : Nat) (status : Nat) :
    Aside s0 (s.lastStatus ch status) := by
  unfold State.lastStatus; repeat' first
    | intro _ | with_reducible assumption | with_reducible apply State.setFld_aside | with_reducible apply Aside.ite

theorem State.copyRecord_aside {s0 s : State} (h : Aside s0 s) (ch : Nat) (status : Nat) (detail : Nat) (done : Nat) :
    Aside s0 (s.copyRecord ch status detail done) := by
  unfold State.copyRecord; repeat' first
    | intro _ | with_reducible assumption | with_reducible apply State.ringPut_aside | with_reducible apply Aside.ite
    | (fail_if_no_progress (with_reducible (refine Aside.upd ?_ rfl))) | with_reducible (refine Aside.snd (by assumption) ?_)
    | with_reducible (refine Aside.snd2 (by assumption) ?_) | with_reducible apply foldl_aside | split | dsimp only

theorem State.readRefs_onaside {s0 s : State} (h : Aside s0 s) (ctx va : Nat) : OnStateaside s0 (fun r => r.2.2) Prod.snd (s.readRefs ctx va) := by
  have g := State.hubRead_aside h ctx va 128
  unfold State.readRefs; dsimp only
  split
  · exact h
  · split <;> rename_i e <;> rw [e] at g
    · exact g
    · split
      · exact g
      · split
        · exact g
        · suffices H : ∀ (l : List Nat) (r : Except (Nat × Nat × State) (List (Nat × Nat) × State)), OnStateaside s0 (fun r => r.2.2) Prod.snd r →
              OnStateaside s0 (fun r => r.2.2) Prod.snd (l.foldl _ r) from H _ _ g
          intro l
          induction l with
          | nil => exact fun r hr => hr
          | cons i l ih =>
            intro r hr
            refine ih _ ?_
            dsimp only
            split
            · exact hr
            · split
              · exact hr
              · split <;> rename_i e2
                · split <;> exact Aside.snd e2 (State.hubXlate_aside hr _ _ _)
                · exact State.xltRecord_aside (Aside.snd e2 (State.hubXlate_aside hr _ _ _)) _ _ _ _ _ _ _ _ _ _
                · exact Aside.snd e2 (State.hubXlate_aside hr _ _ _)

theorem State.readRefs_aside {s0 s t : State} (h : Aside s0 s) {ctx va : Nat} {l : List (Nat × Nat)} (e : s.readRefs ctx va = .ok (l, t)) :
    Aside s0 t := by
  have g := State.readRefs_onaside h ctx va
  rw [e] at g; exact g

theorem State.readRefs_error_aside {s0 s t : State} (h : Aside s0 s) {ctx va a b : Nat} (e : s.readRefs ctx va = .error (a, b, t)) :
    Aside s0 t := by
  have g := State.readRefs_onaside h ctx va
  rw [e] at g; exact g

theorem State.readRefs_if_onaside {s0 s : State} (h : Aside s0 s) (c : Prop) [Decidable c] (ctx va : Nat) :
    OnStateaside s0 (fun r => r.2.2) Prod.snd (if c then s.readRefs ctx va else .ok ([], s)) := by
  split
  · exact State.readRefs_onaside h ctx va
  · exact h

theorem State.readRefs_if_aside {s0 s t : State} (h : Aside s0 s) {c : Prop} [Decidable c] {ctx va : Nat} {l : List (Nat × Nat)}
    (e : (if c then s.readRefs ctx va else .ok ([], s)) = .ok (l, t)) : Aside s0 t := by
  have g := State.readRefs_if_onaside h c ctx va
  rw [e] at g; exact g

theorem State.readRefs_if_error_aside {s0 s t : State} (h : Aside s0 s) {c : Prop} [Decidable c] {ctx va a b : Nat}
    (e : (if c then s.readRefs ctx va else .ok ([], s)) = .error (a, b, t)) : Aside s0 t := by
  have g := State.readRefs_if_onaside h c ctx va
  rw [e] at g; exact g

theorem State.doneRecord_aside {s0 s : State} (h : Aside s0 s) (q : Nat) (x : Queue) (c : Cmd) (status : Nat) (detail : Nat) :
    Aside s0 (s.doneRecord q x c status detail) := by
  unfold State.doneRecord; repeat' first
    | intro _ | with_reducible assumption | with_reducible apply State.ringPut_aside

theorem State.signalFor_aside {s0 s : State} (h : Aside s0 s) (q : Nat) (x : Queue) (c : Cmd) (status : Nat) :
    Aside s0 (s.signalFor q x c status).2.2 := by
  unfold State.signalFor; repeat' first
    | intro _ | with_reducible assumption | with_reducible apply State.hubXlate_aside | with_reducible apply State.xltRecord_aside
    | with_reducible apply Aside.ite | (fail_if_no_progress (with_reducible (refine Aside.upd ?_ rfl)))
    | with_reducible (refine Aside.snd (by assumption) ?_) | with_reducible (refine Aside.snd2 (by assumption) ?_) | with_reducible apply foldl_aside
    | split | dsimp only

theorem State.pmEntry_aside {s0 s : State} (h : Aside s0 s) (off : Nat) (n : Nat) (zero : Bool) :
    Aside s0 (s.pmEntry off n zero) := by
  unfold State.pmEntry; repeat' first
    | intro _ | with_reducible assumption | with_reducible apply State.useFree_aside | with_reducible apply State.putBytes_aside

theorem State.snapshot_aside {s0 s : State} (h : Aside s0 s) (step : Nat) (reason : Nat) (target : Nat) (valid : Nat) (entries : List (Nat × Nat × Bool)) :
    Aside s0 (s.snapshot step reason target valid entries) := by
  unfold State.snapshot; repeat' first
    | intro _ | with_reducible assumption | with_reducible apply State.bumpFld_aside | with_reducible apply State.setFld_aside
    | with_reducible apply State.pmEntry_aside | with_reducible apply foldS_aside | with_reducible apply State.putBytes_aside
    | with_reducible apply Aside.ite

theorem State.flushCaches_aside {s0 s : State} (h : Aside s0 s) (f : Nat) :
    Aside s0 (s.flushCaches f) := by
  unfold State.flushCaches; repeat' first
    | intro _ | with_reducible assumption | with_reducible apply State.cleanLine_aside | with_reducible apply foldS_aside

theorem State.headWrite_aside {s0 s : State} (h : Aside s0 s) (x : Queue) (d : Bytes) :
    Aside s0 (s.headWrite x d) := by
  unfold State.headWrite; repeat' first
    | intro _ | with_reducible assumption | with_reducible apply State.hostWrite_aside | with_reducible apply State.emit_aside

theorem State.watchDoorbell_aside {s0 s : State} (h : Aside s0 s) (x : Queue) :
    Aside s0 (s.watchDoorbell x) := by
  unfold State.watchDoorbell; repeat' first
    | intro _ | with_reducible assumption | with_reducible apply State.watchLine_aside | with_reducible apply Aside.ite

theorem State.drainHeld_aside {s0 s : State} (h : Aside s0 s) (r : Nat) (fuel : Nat) :
    Aside s0 (s.drainHeld r fuel) := by
  induction fuel generalizing s r with
  | zero => unfold State.drainHeld; exact h
  | succ fuel ih =>
  unfold State.drainHeld; repeat' first
    | with_reducible apply ih | intro _ | with_reducible assumption | with_reducible apply State.store_aside | with_reducible apply State.store_aside
    | with_reducible apply Aside.ite | (fail_if_no_progress (with_reducible (refine Aside.upd ?_ rfl)))
    | with_reducible (refine Aside.snd (by assumption) ?_) | with_reducible (refine Aside.snd2 (by assumption) ?_) | with_reducible apply foldl_aside
    | split

theorem State.copyPage_aside {s0 s : State} (h : Aside s0 s) (src : Nat) (dst : Nat) (size : Nat) :
    Aside s0 (s.copyPage src dst size) := by
  unfold State.copyPage; repeat' first
    | intro _ | with_reducible assumption | with_reducible apply State.recallLine_aside | with_reducible apply State.putLine_aside
    | with_reducible apply foldS_aside | with_reducible apply Aside.ite | (fail_if_no_progress (with_reducible (refine Aside.upd ?_ rfl)))
    | with_reducible (refine Aside.snd (by assumption) ?_) | with_reducible (refine Aside.snd2 (by assumption) ?_) | with_reducible apply foldl_aside
    | split

theorem State.migratePage_aside {s0 s : State} (h : Aside s0 s) (root : Nat) (b : Bytes) (i : Nat) :
    Aside s0 (s.migratePage root b i) := by
  unfold State.migratePage; repeat' first
    | intro _ | with_reducible assumption | with_reducible apply State.putLine_aside | with_reducible apply State.copyPage_aside
    | with_reducible apply Aside.ite | (fail_if_no_progress (with_reducible (refine Aside.upd ?_ rfl)))
    | with_reducible (refine Aside.snd (by assumption) ?_) | with_reducible (refine Aside.snd2 (by assumption) ?_) | with_reducible apply foldl_aside
    | split | dsimp only

theorem State.adviseWalk_aside {s0 s : State} (h : Aside s0 s) (ctx : Nat) (pages : List Nat) :
    Aside s0 (s.adviseWalk ctx pages) := by
  unfold State.adviseWalk; repeat' first
    | intro _ | with_reducible assumption | with_reducible apply State.fillWalker_aside | with_reducible apply State.bumpFld_aside
    | with_reducible apply foldS_aside | with_reducible apply State.noteWalk_aside | with_reducible apply Aside.ite
    | (fail_if_no_progress (with_reducible (refine Aside.upd ?_ rfl))) | with_reducible (refine Aside.snd (by assumption) ?_)
    | with_reducible (refine Aside.snd2 (by assumption) ?_) | with_reducible apply foldl_aside | split

theorem State.adviseClean_aside {s0 s : State} (h : Aside s0 s) (ctx : Nat) (pages : List Nat) (keep : Bool) :
    Aside s0 (s.adviseClean ctx pages keep) := by
  unfold State.adviseClean; repeat' first
    | intro _ | with_reducible assumption | with_reducible apply State.cleanLine_aside | with_reducible apply foldS_aside

theorem State.trimEvent_aside {s0 s : State} (h : Aside s0 s) (isl : Nat) :
    Aside s0 (s.trimEvent isl) := by
  unfold State.trimEvent; repeat' first
    | intro _ | with_reducible assumption | with_reducible apply State.useFree_aside | with_reducible apply State.powerEvent_aside

theorem State.groupSend_aside {s0 s : State} (h : Aside s0 s) (i : Nat) (ty : Nat) (d : Bytes) :
    Aside s0 (s.groupSend i ty d) := by
  unfold State.groupSend; repeat' first
    | intro _ | with_reducible assumption | with_reducible apply State.send_aside | with_reducible apply Aside.ite
    | (fail_if_no_progress (with_reducible (refine Aside.upd ?_ rfl))) | with_reducible (refine Aside.snd (by assumption) ?_)
    | with_reducible (refine Aside.snd2 (by assumption) ?_) | with_reducible apply foldl_aside | split

theorem State.rebind_aside {s0 s : State} (h : Aside s0 s) (kind : Nat) (n : Nat) (outcome : Nat) (frm : Nat) (dest : Nat) (efrom : Nat) (eto :
    Nat) (lost : Nat) (first : Option Nat) (started : Nat) :
    Aside s0 (s.rebind kind n outcome frm dest efrom eto lost first started) := by
  unfold State.rebind; repeat' first
    | intro _ | with_reducible assumption | with_reducible apply State.ringPut_aside | with_reducible apply Aside.ite

theorem State.clearLat_aside {s0 s : State} (h : Aside s0 s) (h : Nat) :
    Aside s0 (s.clearLat h) := by
  unfold State.clearLat; repeat' first
    | intro _ | with_reducible assumption | with_reducible apply State.setReg_aside | with_reducible apply foldS_aside

theorem State.wipeSlice_aside {s0 s : State} (h : Aside s0 s) (n : Nat) :
    Aside s0 (s.wipeSlice n) := by
  unfold State.wipeSlice; repeat' first
    | intro _ | with_reducible assumption | with_reducible apply Aside.ite | (fail_if_no_progress (with_reducible (refine Aside.upd ?_ rfl)))

theorem State.loseHome_aside {s0 s : State} (h : Aside s0 s) (n : Nat) :
    Aside s0 (s.loseHome n) := by
  unfold State.loseHome; repeat' first
    | intro _ | with_reducible assumption | with_reducible apply State.setHome_aside | with_reducible apply Aside.ite
    | (fail_if_no_progress (with_reducible (refine Aside.upd ?_ rfl)))

theorem State.copySlice_aside {s0 s : State} (h : Aside s0 s) (x : Nat) (y : Nat) :
    Aside s0 (s.copySlice x y) := by
  unfold State.copySlice; repeat' first
    | intro _ | with_reducible assumption | with_reducible apply Aside.ite | (fail_if_no_progress (with_reducible (refine Aside.upd ?_ rfl)))

theorem State.fillLast_aside {s0 s : State} (h : Aside s0 s) (op : Nat) (last : Nat) (data : List Nat) :
    Aside s0 (s.fillLast op last data) := by
  unfold State.fillLast; repeat' first
    | intro _ | with_reducible assumption | with_reducible apply State.wipeSlice_aside | with_reducible apply State.copySlice_aside
    | with_reducible apply Aside.ite | (fail_if_no_progress (with_reducible (refine Aside.upd ?_ rfl)))
    | with_reducible (refine Aside.snd (by assumption) ?_) | with_reducible (refine Aside.snd2 (by assumption) ?_) | with_reducible apply foldl_aside
    | split

theorem State.takeEntryOf_aside {s0 s : State} (h : Aside s0 s) (l : Nat) :
    Aside s0 (s.takeEntryOf l) := by
  unfold State.takeEntryOf; repeat' first
    | intro _ | with_reducible assumption | with_reducible apply State.setStitch_aside

theorem State.answerPacket_aside {s0 s : State} (h : Aside s0 s) (l : Nat) (h : Bytes) (status : Nat) (d : Bytes) :
    Aside s0 (s.answerPacket l h status d) := by
  unfold State.answerPacket; repeat' first
    | intro _ | with_reducible assumption | with_reducible apply State.send_aside

theorem State.guestReq_aside {s0 s : State} (h : Aside s0 s) (l : Nat) (h : Bytes) (d : Bytes) (kind : ReqKind) (n : Nat) (atomic : Bool) :
    Aside s0 (s.guestReq l h d kind n atomic) := by
  unfold State.guestReq; repeat' first
    | intro _ | with_reducible assumption | with_reducible apply State.answerPacket_aside | with_reducible apply State.takeEntryOf_aside
    | with_reducible apply State.addReq_aside | with_reducible apply Aside.ite | (fail_if_no_progress (with_reducible (refine Aside.upd ?_ rfl)))
    | with_reducible (refine Aside.snd (by assumption) ?_) | with_reducible (refine Aside.snd2 (by assumption) ?_) | with_reducible apply foldl_aside
    | split

theorem State.useImage_aside {s0 s : State} (h : Aside s0 s) (b : Bytes) :
    Aside s0 (s.useImage b) := by
  unfold State.useImage; repeat' first
    | intro _ | with_reducible assumption | with_reducible apply Aside.ite | (fail_if_no_progress (with_reducible (refine Aside.upd ?_ rfl)))

theorem State.flushHost_aside {s0 s : State} (h : Aside s0 s)  :
    Aside s0 (s.flushHost) := by
  unfold State.flushHost; repeat' first
    | intro _ | with_reducible assumption | with_reducible apply foldS_aside | with_reducible apply State.emit_aside | with_reducible apply Aside.ite
    | (fail_if_no_progress (with_reducible (refine Aside.upd ?_ rfl)))

theorem State.commitFuse_aside {s0 s : State} (h : Aside s0 s)  :
    Aside s0 (s.commitFuse) := by
  unfold State.commitFuse; repeat' first
    | intro _ | with_reducible assumption | with_reducible apply Aside.ite | (fail_if_no_progress (with_reducible (refine Aside.upd ?_ rfl)))

theorem State.recallLost_aside {s0 s : State} (h : Aside s0 s) (d : Nat) (h : Nat) (line : Nat) :
    Aside s0 (s.recallLost d h line) := by
  unfold State.recallLost; repeat' first
    | intro _ | with_reducible assumption | with_reducible apply State.recallLine_aside | with_reducible apply foldS_aside
    | with_reducible apply State.dirRemove_aside | with_reducible apply Aside.ite

theorem State.emptyCaches_aside {s0 s : State} (h : Aside s0 s)  :
    Aside s0 (s.emptyCaches) := by
  unfold State.emptyCaches; repeat' first
    | intro _ | with_reducible assumption | with_reducible apply State.cleanLine_aside | with_reducible apply State.takeBack_aside
    | with_reducible apply foldS_aside | with_reducible apply Aside.ite | (fail_if_no_progress (with_reducible (refine Aside.upd ?_ rfl)))

theorem State.atsSettle_aside {s0 s : State} (h : Aside s0 s)  :
    Aside s0 (s.atsSettle) := by
  unfold State.atsSettle; repeat' first
    | intro _ | with_reducible assumption | with_reducible apply State.bumpFld_aside | with_reducible apply foldS_aside
    | with_reducible apply State.emit_aside | with_reducible apply Aside.ite | (fail_if_no_progress (with_reducible (refine Aside.upd ?_ rfl)))

theorem State.fromHost_aside {s0 s : State} (h : Aside s0 s) (line : Nat) (d : Bytes) :
    Aside s0 (s.fromHost line d) := by
  unfold State.fromHost; repeat' first
    | intro _ | with_reducible assumption | with_reducible apply Aside.ite | (fail_if_no_progress (with_reducible (refine Aside.upd ?_ rfl)))

theorem State.snoopAnswer_aside {s0 s : State} (h : Aside s0 s) (line : Nat) :
    Aside s0 (s.snoopAnswer line) := by
  unfold State.snoopAnswer; repeat' first
    | intro _ | with_reducible assumption | with_reducible apply State.emit_aside

theorem State.giveHost_aside {s0 s : State} (h : Aside s0 s) (line : Nat) :
    Aside s0 (s.giveHost line) := by
  unfold State.giveHost; repeat' first
    | intro _ | with_reducible assumption | with_reducible apply Aside.ite | (fail_if_no_progress (with_reducible (refine Aside.upd ?_ rfl)))

theorem State.hostRefused_aside {s0 s : State} (h : Aside s0 s) (pa : Nat) (reason : Nat) (write : Bool) :
    Aside s0 (s.hostRefused pa reason write) := by
  unfold State.hostRefused; repeat' first
    | intro _ | with_reducible assumption | with_reducible apply State.ringPut_aside | with_reducible apply Aside.ite
    | (fail_if_no_progress (with_reducible (refine Aside.upd ?_ rfl)))

theorem State.spdmFree_aside {s0 s : State} (h : Aside s0 s)  :
    Aside s0 (s.spdmFree) := by
  unfold State.spdmFree; repeat' first
    | intro _ | with_reducible assumption | with_reducible apply State.useFree_aside | with_reducible apply State.emit_aside

theorem State.retag_aside {s0 s : State} (h : Aside s0 s) (m : Nat) (o : Nat) (bad : Bool) :
    Aside s0 (s.retag m o bad) := by
  unfold State.retag; repeat' first
    | intro _ | with_reducible assumption | with_reducible apply Aside.ite | (fail_if_no_progress (with_reducible (refine Aside.upd ?_ rfl)))

theorem State.errClear_aside {s0 s : State} (h : Aside s0 s)  :
    Aside s0 (s.errClear) := by
  unfold State.errClear; repeat' first
    | intro _ | with_reducible assumption | with_reducible apply State.setReg_aside | with_reducible apply State.setFld_aside
    | with_reducible apply foldS_aside

theorem State.denied_aside {s0 s : State} (h : Aside s0 s)  :
    Aside s0 (s.denied) := by
  unfold State.denied; repeat' first
    | intro _ | with_reducible assumption | with_reducible apply State.bumpFld_aside


end Sys2Proof.Machine
end

