-- ==== Sys2Proof/Laws/State.lean ====
section
/-! SUPPORT. Sys2Proof/Laws/State.lean: each field after each update of State, and what an accessor reads after a setter. -/

set_option linter.unusedVariables false

namespace Sys2Proof.Machine

variable (s : State)

/-! ### setCore -/
@[simp] theorem State.setCore_pending (c : Nat) (v : Core) : (s.setCore c v).pending = s.pending := rfl
@[simp] theorem State.setCore_free (c : Nat) (v : Core) : (s.setCore c v).free = s.free := rfl
@[simp] theorem State.setCore_hubCount (c : Nat) (v : Core) : (s.setCore c v).hubCount = s.hubCount := rfl
@[simp] theorem State.setCore_regs (c : Nat) (v : Core) : (s.setCore c v).regs = s.regs := rfl
@[simp] theorem State.setCore_hbm (c : Nat) (v : Core) : (s.setCore c v).hbm = s.hbm := rfl
@[simp] theorem State.setCore_host (c : Nat) (v : Core) : (s.setCore c v).host = s.host := rfl
@[simp] theorem State.setCore_poison (c : Nat) (v : Core) : (s.setCore c v).poison = s.poison := rfl
@[simp] theorem State.setCore_tags (c : Nat) (v : Core) : (s.setCore c v).tags = s.tags := rfl
@[simp] theorem State.setCore_frames (c : Nat) (v : Core) : (s.setCore c v).frames = s.frames := rfl
@[simp] theorem State.setCore_regions (c : Nat) (v : Core) : (s.setCore c v).regions = s.regions := rfl
@[simp] theorem State.setCore_fabrics (c : Nat) (v : Core) : (s.setCore c v).fabrics = s.fabrics := rfl
@[simp] theorem State.setCore_spine (c : Nat) (v : Core) : (s.setCore c v).spine = s.spine := rfl
@[simp] theorem State.setCore_spineFailed (c : Nat) (v : Core) : (s.setCore c v).spineFailed = s.spineFailed := rfl
@[simp] theorem State.setCore_caches (c : Nat) (v : Core) : (s.setCore c v).caches = s.caches := rfl
@[simp] theorem State.setCore_homes (c : Nat) (v : Core) : (s.setCore c v).homes = s.homes := rfl
@[simp] theorem State.setCore_hostHome (c : Nat) (v : Core) : (s.setCore c v).hostHome = s.hostHome := rfl
@[simp] theorem State.setCore_hostLines (c : Nat) (v : Core) : (s.setCore c v).hostLines = s.hostLines := rfl
@[simp] theorem State.setCore_hubWatch (c : Nat) (v : Core) : (s.setCore c v).hubWatch = s.hubWatch := rfl
@[simp] theorem State.setCore_booksAt (c : Nat) (v : Core) : (s.setCore c v).booksAt = s.booksAt := rfl
@[simp] theorem State.setCore_foreAt (c : Nat) (v : Core) : (s.setCore c v).foreAt = s.foreAt := rfl
@[simp] theorem State.setCore_reqs (c : Nat) (v : Core) : (s.setCore c v).reqs = s.reqs := rfl
@[simp] theorem State.setCore_nextId (c : Nat) (v : Core) : (s.setCore c v).nextId = s.nextId := rfl
@[simp] theorem State.setCore_offers (c : Nat) (v : Core) : (s.setCore c v).offers = s.offers := rfl
@[simp] theorem State.setCore_updates (c : Nat) (v : Core) : (s.setCore c v).updates = s.updates := rfl
@[simp] theorem State.setCore_bars (c : Nat) (v : Core) : (s.setCore c v).bars = s.bars := rfl
@[simp] theorem State.setCore_sifts (c : Nat) (v : Core) : (s.setCore c v).sifts = s.sifts := rfl
@[simp] theorem State.setCore_units (c : Nat) (v : Core) : (s.setCore c v).units = s.units := rfl
@[simp] theorem State.setCore_walks (c : Nat) (v : Core) : (s.setCore c v).walks = s.walks := rfl
@[simp] theorem State.setCore_walkers (c : Nat) (v : Core) : (s.setCore c v).walkers = s.walkers := rfl
@[simp] theorem State.setCore_hubTlb (c : Nat) (v : Core) : (s.setCore c v).hubTlb = s.hubTlb := rfl
@[simp] theorem State.setCore_cpyTlb (c : Nat) (v : Core) : (s.setCore c v).cpyTlb = s.cpyTlb := rfl
@[simp] theorem State.setCore_chans (c : Nat) (v : Core) : (s.setCore c v).chans = s.chans := rfl
@[simp] theorem State.setCore_ctxs (c : Nat) (v : Core) : (s.setCore c v).ctxs = s.ctxs := rfl
@[simp] theorem State.setCore_folios (c : Nat) (v : Core) : (s.setCore c v).folios = s.folios := rfl
@[simp] theorem State.setCore_coreSl (c : Nat) (v : Core) : (s.setCore c v).coreSl = s.coreSl := rfl
@[simp] theorem State.setCore_memSl (c : Nat) (v : Core) : (s.setCore c v).memSl = s.memSl := rfl
@[simp] theorem State.setCore_linkSl (c : Nat) (v : Core) : (s.setCore c v).linkSl = s.linkSl := rfl
@[simp] theorem State.setCore_prots (c : Nat) (v : Core) : (s.setCore c v).prots = s.prots := rfl
@[simp] theorem State.setCore_links (c : Nat) (v : Core) : (s.setCore c v).links = s.links := rfl
@[simp] theorem State.setCore_queues (c : Nat) (v : Core) : (s.setCore c v).queues = s.queues := rfl
@[simp] theorem State.setCore_evrings (c : Nat) (v : Core) : (s.setCore c v).evrings = s.evrings := rfl
@[simp] theorem State.setCore_refSubs (c : Nat) (v : Core) : (s.setCore c v).refSubs = s.refSubs := rfl
@[simp] theorem State.setCore_lastRefs (c : Nat) (v : Core) : (s.setCore c v).lastRefs = s.lastRefs := rfl
@[simp] theorem State.setCore_cyclic (c : Nat) (v : Core) : (s.setCore c v).cyclic = s.cyclic := rfl
@[simp] theorem State.setCore_corrSeq (c : Nat) (v : Core) : (s.setCore c v).corrSeq = s.corrSeq := rfl
@[simp] theorem State.setCore_corrFrom (c : Nat) (v : Core) : (s.setCore c v).corrFrom = s.corrFrom := rfl
@[simp] theorem State.setCore_corrDue (c : Nat) (v : Core) : (s.setCore c v).corrDue = s.corrDue := rfl
@[simp] theorem State.setCore_cfg (c : Nat) (v : Core) : (s.setCore c v).cfg = s.cfg := rfl
@[simp] theorem State.setCore_power (c : Nat) (v : Core) : (s.setCore c v).power = s.power := rfl
@[simp] theorem State.setCore_net (c : Nat) (v : Core) : (s.setCore c v).net = s.net := rfl
@[simp] theorem State.setCore_rounds (c : Nat) (v : Core) : (s.setCore c v).rounds = s.rounds := rfl
@[simp] theorem State.setCore_urgency (c : Nat) (v : Core) : (s.setCore c v).urgency = s.urgency := rfl
@[simp] theorem State.setCore_urgSince (c : Nat) (v : Core) : (s.setCore c v).urgSince = s.urgSince := rfl
@[simp] theorem State.setCore_urgNoted (c : Nat) (v : Core) : (s.setCore c v).urgNoted = s.urgNoted := rfl
@[simp] theorem State.setCore_clasp (c : Nat) (v : Core) : (s.setCore c v).clasp = s.clasp := rfl
@[simp] theorem State.setCore_link (c : Nat) (v : Core) : (s.setCore c v).link = s.link := rfl
@[simp] theorem State.setCore_fuses (c : Nat) (v : Core) : (s.setCore c v).fuses = s.fuses := rfl
@[simp] theorem State.setCore_capState (c : Nat) (v : Core) : (s.setCore c v).capState = s.capState := rfl
@[simp] theorem State.setCore_capGen (c : Nat) (v : Core) : (s.setCore c v).capGen = s.capGen := rfl
@[simp] theorem State.setCore_fore (c : Nat) (v : Core) : (s.setCore c v).fore = s.fore := rfl
@[simp] theorem State.setCore_standby (c : Nat) (v : Core) : (s.setCore c v).standby = s.standby := rfl
@[simp] theorem State.setCore_peerLost (c : Nat) (v : Core) : (s.setCore c v).peerLost = s.peerLost := rfl
@[simp] theorem State.setCore_kept (c : Nat) (v : Core) : (s.setCore c v).kept = s.kept := rfl
@[simp] theorem State.setCore_darkNoted (c : Nat) (v : Core) : (s.setCore c v).darkNoted = s.darkNoted := rfl
@[simp] theorem State.setCore_out (c : Nat) (v : Core) : (s.setCore c v).out = s.out := rfl

/-! ### setSlot -/
@[simp] theorem State.setSlot_pending (c k : Nat) (v : Slot) : (s.setSlot c k v).pending = s.pending := rfl
@[simp] theorem State.setSlot_free (c k : Nat) (v : Slot) : (s.setSlot c k v).free = s.free := rfl
@[simp] theorem State.setSlot_hubCount (c k : Nat) (v : Slot) : (s.setSlot c k v).hubCount = s.hubCount := rfl
@[simp] theorem State.setSlot_regs (c k : Nat) (v : Slot) : (s.setSlot c k v).regs = s.regs := rfl
@[simp] theorem State.setSlot_hbm (c k : Nat) (v : Slot) : (s.setSlot c k v).hbm = s.hbm := rfl
@[simp] theorem State.setSlot_host (c k : Nat) (v : Slot) : (s.setSlot c k v).host = s.host := rfl
@[simp] theorem State.setSlot_poison (c k : Nat) (v : Slot) : (s.setSlot c k v).poison = s.poison := rfl
@[simp] theorem State.setSlot_tags (c k : Nat) (v : Slot) : (s.setSlot c k v).tags = s.tags := rfl
@[simp] theorem State.setSlot_frames (c k : Nat) (v : Slot) : (s.setSlot c k v).frames = s.frames := rfl
@[simp] theorem State.setSlot_regions (c k : Nat) (v : Slot) : (s.setSlot c k v).regions = s.regions := rfl
@[simp] theorem State.setSlot_fabrics (c k : Nat) (v : Slot) : (s.setSlot c k v).fabrics = s.fabrics := rfl
@[simp] theorem State.setSlot_spine (c k : Nat) (v : Slot) : (s.setSlot c k v).spine = s.spine := rfl
@[simp] theorem State.setSlot_spineFailed (c k : Nat) (v : Slot) : (s.setSlot c k v).spineFailed = s.spineFailed := rfl
@[simp] theorem State.setSlot_caches (c k : Nat) (v : Slot) : (s.setSlot c k v).caches = s.caches := rfl
@[simp] theorem State.setSlot_homes (c k : Nat) (v : Slot) : (s.setSlot c k v).homes = s.homes := rfl
@[simp] theorem State.setSlot_hostHome (c k : Nat) (v : Slot) : (s.setSlot c k v).hostHome = s.hostHome := rfl
@[simp] theorem State.setSlot_hostLines (c k : Nat) (v : Slot) : (s.setSlot c k v).hostLines = s.hostLines := rfl
@[simp] theorem State.setSlot_hubWatch (c k : Nat) (v : Slot) : (s.setSlot c k v).hubWatch = s.hubWatch := rfl
@[simp] theorem State.setSlot_booksAt (c k : Nat) (v : Slot) : (s.setSlot c k v).booksAt = s.booksAt := rfl
@[simp] theorem State.setSlot_foreAt (c k : Nat) (v : Slot) : (s.setSlot c k v).foreAt = s.foreAt := rfl
@[simp] theorem State.setSlot_reqs (c k : Nat) (v : Slot) : (s.setSlot c k v).reqs = s.reqs := rfl
@[simp] theorem State.setSlot_nextId (c k : Nat) (v : Slot) : (s.setSlot c k v).nextId = s.nextId := rfl
@[simp] theorem State.setSlot_offers (c k : Nat) (v : Slot) : (s.setSlot c k v).offers = s.offers := rfl
@[simp] theorem State.setSlot_updates (c k : Nat) (v : Slot) : (s.setSlot c k v).updates = s.updates := rfl
@[simp] theorem State.setSlot_bars (c k : Nat) (v : Slot) : (s.setSlot c k v).bars = s.bars := rfl
@[simp] theorem State.setSlot_sifts (c k : Nat) (v : Slot) : (s.setSlot c k v).sifts = s.sifts := rfl
@[simp] theorem State.setSlot_units (c k : Nat) (v : Slot) : (s.setSlot c k v).units = s.units := rfl
@[simp] theorem State.setSlot_walks (c k : Nat) (v : Slot) : (s.setSlot c k v).walks = s.walks := rfl
@[simp] theorem State.setSlot_walkers (c k : Nat) (v : Slot) : (s.setSlot c k v).walkers = s.walkers := rfl
@[simp] theorem State.setSlot_hubTlb (c k : Nat) (v : Slot) : (s.setSlot c k v).hubTlb = s.hubTlb := rfl
@[simp] theorem State.setSlot_cpyTlb (c k : Nat) (v : Slot) : (s.setSlot c k v).cpyTlb = s.cpyTlb := rfl
@[simp] theorem State.setSlot_chans (c k : Nat) (v : Slot) : (s.setSlot c k v).chans = s.chans := rfl
@[simp] theorem State.setSlot_ctxs (c k : Nat) (v : Slot) : (s.setSlot c k v).ctxs = s.ctxs := rfl
@[simp] theorem State.setSlot_folios (c k : Nat) (v : Slot) : (s.setSlot c k v).folios = s.folios := rfl
@[simp] theorem State.setSlot_coreSl (c k : Nat) (v : Slot) : (s.setSlot c k v).coreSl = s.coreSl := rfl
@[simp] theorem State.setSlot_memSl (c k : Nat) (v : Slot) : (s.setSlot c k v).memSl = s.memSl := rfl
@[simp] theorem State.setSlot_linkSl (c k : Nat) (v : Slot) : (s.setSlot c k v).linkSl = s.linkSl := rfl
@[simp] theorem State.setSlot_prots (c k : Nat) (v : Slot) : (s.setSlot c k v).prots = s.prots := rfl
@[simp] theorem State.setSlot_links (c k : Nat) (v : Slot) : (s.setSlot c k v).links = s.links := rfl
@[simp] theorem State.setSlot_queues (c k : Nat) (v : Slot) : (s.setSlot c k v).queues = s.queues := rfl
@[simp] theorem State.setSlot_evrings (c k : Nat) (v : Slot) : (s.setSlot c k v).evrings = s.evrings := rfl
@[simp] theorem State.setSlot_refSubs (c k : Nat) (v : Slot) : (s.setSlot c k v).refSubs = s.refSubs := rfl
@[simp] theorem State.setSlot_lastRefs (c k : Nat) (v : Slot) : (s.setSlot c k v).lastRefs = s.lastRefs := rfl
@[simp] theorem State.setSlot_cyclic (c k : Nat) (v : Slot) : (s.setSlot c k v).cyclic = s.cyclic := rfl
@[simp] theorem State.setSlot_corrSeq (c k : Nat) (v : Slot) : (s.setSlot c k v).corrSeq = s.corrSeq := rfl
@[simp] theorem State.setSlot_corrFrom (c k : Nat) (v : Slot) : (s.setSlot c k v).corrFrom = s.corrFrom := rfl
@[simp] theorem State.setSlot_corrDue (c k : Nat) (v : Slot) : (s.setSlot c k v).corrDue = s.corrDue := rfl
@[simp] theorem State.setSlot_cfg (c k : Nat) (v : Slot) : (s.setSlot c k v).cfg = s.cfg := rfl
@[simp] theorem State.setSlot_power (c k : Nat) (v : Slot) : (s.setSlot c k v).power = s.power := rfl
@[simp] theorem State.setSlot_net (c k : Nat) (v : Slot) : (s.setSlot c k v).net = s.net := rfl
@[simp] theorem State.setSlot_rounds (c k : Nat) (v : Slot) : (s.setSlot c k v).rounds = s.rounds := rfl
@[simp] theorem State.setSlot_urgency (c k : Nat) (v : Slot) : (s.setSlot c k v).urgency = s.urgency := rfl
@[simp] theorem State.setSlot_urgSince (c k : Nat) (v : Slot) : (s.setSlot c k v).urgSince = s.urgSince := rfl
@[simp] theorem State.setSlot_urgNoted (c k : Nat) (v : Slot) : (s.setSlot c k v).urgNoted = s.urgNoted := rfl
@[simp] theorem State.setSlot_clasp (c k : Nat) (v : Slot) : (s.setSlot c k v).clasp = s.clasp := rfl
@[simp] theorem State.setSlot_link (c k : Nat) (v : Slot) : (s.setSlot c k v).link = s.link := rfl
@[simp] theorem State.setSlot_fuses (c k : Nat) (v : Slot) : (s.setSlot c k v).fuses = s.fuses := rfl
@[simp] theorem State.setSlot_capState (c k : Nat) (v : Slot) : (s.setSlot c k v).capState = s.capState := rfl
@[simp] theorem State.setSlot_capGen (c k : Nat) (v : Slot) : (s.setSlot c k v).capGen = s.capGen := rfl
@[simp] theorem State.setSlot_fore (c k : Nat) (v : Slot) : (s.setSlot c k v).fore = s.fore := rfl
@[simp] theorem State.setSlot_standby (c k : Nat) (v : Slot) : (s.setSlot c k v).standby = s.standby := rfl
@[simp] theorem State.setSlot_peerLost (c k : Nat) (v : Slot) : (s.setSlot c k v).peerLost = s.peerLost := rfl
@[simp] theorem State.setSlot_kept (c k : Nat) (v : Slot) : (s.setSlot c k v).kept = s.kept := rfl
@[simp] theorem State.setSlot_darkNoted (c k : Nat) (v : Slot) : (s.setSlot c k v).darkNoted = s.darkNoted := rfl
@[simp] theorem State.setSlot_out (c k : Nat) (v : Slot) : (s.setSlot c k v).out = s.out := rfl

/-! ### setCache -/
@[simp] theorem State.setCache_pending (n : Nat) (v : Cache) : (s.setCache n v).pending = s.pending := rfl
@[simp] theorem State.setCache_free (n : Nat) (v : Cache) : (s.setCache n v).free = s.free := rfl
@[simp] theorem State.setCache_hubCount (n : Nat) (v : Cache) : (s.setCache n v).hubCount = s.hubCount := rfl
@[simp] theorem State.setCache_regs (n : Nat) (v : Cache) : (s.setCache n v).regs = s.regs := rfl
@[simp] theorem State.setCache_hbm (n : Nat) (v : Cache) : (s.setCache n v).hbm = s.hbm := rfl
@[simp] theorem State.setCache_host (n : Nat) (v : Cache) : (s.setCache n v).host = s.host := rfl
@[simp] theorem State.setCache_poison (n : Nat) (v : Cache) : (s.setCache n v).poison = s.poison := rfl
@[simp] theorem State.setCache_tags (n : Nat) (v : Cache) : (s.setCache n v).tags = s.tags := rfl
@[simp] theorem State.setCache_frames (n : Nat) (v : Cache) : (s.setCache n v).frames = s.frames := rfl
@[simp] theorem State.setCache_regions (n : Nat) (v : Cache) : (s.setCache n v).regions = s.regions := rfl
@[simp] theorem State.setCache_fabrics (n : Nat) (v : Cache) : (s.setCache n v).fabrics = s.fabrics := rfl
@[simp] theorem State.setCache_spine (n : Nat) (v : Cache) : (s.setCache n v).spine = s.spine := rfl
@[simp] theorem State.setCache_spineFailed (n : Nat) (v : Cache) : (s.setCache n v).spineFailed = s.spineFailed := rfl
@[simp] theorem State.setCache_cores (n : Nat) (v : Cache) : (s.setCache n v).cores = s.cores := rfl
@[simp] theorem State.setCache_homes (n : Nat) (v : Cache) : (s.setCache n v).homes = s.homes := rfl
@[simp] theorem State.setCache_hostHome (n : Nat) (v : Cache) : (s.setCache n v).hostHome = s.hostHome := rfl
@[simp] theorem State.setCache_hostLines (n : Nat) (v : Cache) : (s.setCache n v).hostLines = s.hostLines := rfl
@[simp] theorem State.setCache_hubWatch (n : Nat) (v : Cache) : (s.setCache n v).hubWatch = s.hubWatch := rfl
@[simp] theorem State.setCache_booksAt (n : Nat) (v : Cache) : (s.setCache n v).booksAt = s.booksAt := rfl
@[simp] theorem State.setCache_foreAt (n : Nat) (v : Cache) : (s.setCache n v).foreAt = s.foreAt := rfl
@[simp] theorem State.setCache_reqs (n : Nat) (v : Cache) : (s.setCache n v).reqs = s.reqs := rfl
@[simp] theorem State.setCache_nextId (n : Nat) (v : Cache) : (s.setCache n v).nextId = s.nextId := rfl
@[simp] theorem State.setCache_offers (n : Nat) (v : Cache) : (s.setCache n v).offers = s.offers := rfl
@[simp] theorem State.setCache_updates (n : Nat) (v : Cache) : (s.setCache n v).updates = s.updates := rfl
@[simp] theorem State.setCache_bars (n : Nat) (v : Cache) : (s.setCache n v).bars = s.bars := rfl
@[simp] theorem State.setCache_sifts (n : Nat) (v : Cache) : (s.setCache n v).sifts = s.sifts := rfl
@[simp] theorem State.setCache_units (n : Nat) (v : Cache) : (s.setCache n v).units = s.units := rfl
@[simp] theorem State.setCache_walks (n : Nat) (v : Cache) : (s.setCache n v).walks = s.walks := rfl
@[simp] theorem State.setCache_walkers (n : Nat) (v : Cache) : (s.setCache n v).walkers = s.walkers := rfl
@[simp] theorem State.setCache_hubTlb (n : Nat) (v : Cache) : (s.setCache n v).hubTlb = s.hubTlb := rfl
@[simp] theorem State.setCache_cpyTlb (n : Nat) (v : Cache) : (s.setCache n v).cpyTlb = s.cpyTlb := rfl
@[simp] theorem State.setCache_chans (n : Nat) (v : Cache) : (s.setCache n v).chans = s.chans := rfl
@[simp] theorem State.setCache_ctxs (n : Nat) (v : Cache) : (s.setCache n v).ctxs = s.ctxs := rfl
@[simp] theorem State.setCache_folios (n : Nat) (v : Cache) : (s.setCache n v).folios = s.folios := rfl
@[simp] theorem State.setCache_coreSl (n : Nat) (v : Cache) : (s.setCache n v).coreSl = s.coreSl := rfl
@[simp] theorem State.setCache_memSl (n : Nat) (v : Cache) : (s.setCache n v).memSl = s.memSl := rfl
@[simp] theorem State.setCache_linkSl (n : Nat) (v : Cache) : (s.setCache n v).linkSl = s.linkSl := rfl
@[simp] theorem State.setCache_prots (n : Nat) (v : Cache) : (s.setCache n v).prots = s.prots := rfl
@[simp] theorem State.setCache_links (n : Nat) (v : Cache) : (s.setCache n v).links = s.links := rfl
@[simp] theorem State.setCache_queues (n : Nat) (v : Cache) : (s.setCache n v).queues = s.queues := rfl
@[simp] theorem State.setCache_evrings (n : Nat) (v : Cache) : (s.setCache n v).evrings = s.evrings := rfl
@[simp] theorem State.setCache_refSubs (n : Nat) (v : Cache) : (s.setCache n v).refSubs = s.refSubs := rfl
@[simp] theorem State.setCache_lastRefs (n : Nat) (v : Cache) : (s.setCache n v).lastRefs = s.lastRefs := rfl
@[simp] theorem State.setCache_cyclic (n : Nat) (v : Cache) : (s.setCache n v).cyclic = s.cyclic := rfl
@[simp] theorem State.setCache_corrSeq (n : Nat) (v : Cache) : (s.setCache n v).corrSeq = s.corrSeq := rfl
@[simp] theorem State.setCache_corrFrom (n : Nat) (v : Cache) : (s.setCache n v).corrFrom = s.corrFrom := rfl
@[simp] theorem State.setCache_corrDue (n : Nat) (v : Cache) : (s.setCache n v).corrDue = s.corrDue := rfl
@[simp] theorem State.setCache_cfg (n : Nat) (v : Cache) : (s.setCache n v).cfg = s.cfg := rfl
@[simp] theorem State.setCache_power (n : Nat) (v : Cache) : (s.setCache n v).power = s.power := rfl
@[simp] theorem State.setCache_net (n : Nat) (v : Cache) : (s.setCache n v).net = s.net := rfl
@[simp] theorem State.setCache_rounds (n : Nat) (v : Cache) : (s.setCache n v).rounds = s.rounds := rfl
@[simp] theorem State.setCache_urgency (n : Nat) (v : Cache) : (s.setCache n v).urgency = s.urgency := rfl
@[simp] theorem State.setCache_urgSince (n : Nat) (v : Cache) : (s.setCache n v).urgSince = s.urgSince := rfl
@[simp] theorem State.setCache_urgNoted (n : Nat) (v : Cache) : (s.setCache n v).urgNoted = s.urgNoted := rfl
@[simp] theorem State.setCache_clasp (n : Nat) (v : Cache) : (s.setCache n v).clasp = s.clasp := rfl
@[simp] theorem State.setCache_link (n : Nat) (v : Cache) : (s.setCache n v).link = s.link := rfl
@[simp] theorem State.setCache_fuses (n : Nat) (v : Cache) : (s.setCache n v).fuses = s.fuses := rfl
@[simp] theorem State.setCache_capState (n : Nat) (v : Cache) : (s.setCache n v).capState = s.capState := rfl
@[simp] theorem State.setCache_capGen (n : Nat) (v : Cache) : (s.setCache n v).capGen = s.capGen := rfl
@[simp] theorem State.setCache_fore (n : Nat) (v : Cache) : (s.setCache n v).fore = s.fore := rfl
@[simp] theorem State.setCache_standby (n : Nat) (v : Cache) : (s.setCache n v).standby = s.standby := rfl
@[simp] theorem State.setCache_peerLost (n : Nat) (v : Cache) : (s.setCache n v).peerLost = s.peerLost := rfl
@[simp] theorem State.setCache_kept (n : Nat) (v : Cache) : (s.setCache n v).kept = s.kept := rfl
@[simp] theorem State.setCache_darkNoted (n : Nat) (v : Cache) : (s.setCache n v).darkNoted = s.darkNoted := rfl
@[simp] theorem State.setCache_out (n : Nat) (v : Cache) : (s.setCache n v).out = s.out := rfl

/-! ### setRegion -/
@[simp] theorem State.setRegion_pending (i : Nat) (v : Region) : (s.setRegion i v).pending = s.pending := rfl
@[simp] theorem State.setRegion_free (i : Nat) (v : Region) : (s.setRegion i v).free = s.free := rfl
@[simp] theorem State.setRegion_hubCount (i : Nat) (v : Region) : (s.setRegion i v).hubCount = s.hubCount := rfl
@[simp] theorem State.setRegion_regs (i : Nat) (v : Region) : (s.setRegion i v).regs = s.regs := rfl
@[simp] theorem State.setRegion_hbm (i : Nat) (v : Region) : (s.setRegion i v).hbm = s.hbm := rfl
@[simp] theorem State.setRegion_host (i : Nat) (v : Region) : (s.setRegion i v).host = s.host := rfl
@[simp] theorem State.setRegion_poison (i : Nat) (v : Region) : (s.setRegion i v).poison = s.poison := rfl
@[simp] theorem State.setRegion_tags (i : Nat) (v : Region) : (s.setRegion i v).tags = s.tags := rfl
@[simp] theorem State.setRegion_frames (i : Nat) (v : Region) : (s.setRegion i v).frames = s.frames := rfl
@[simp] theorem State.setRegion_fabrics (i : Nat) (v : Region) : (s.setRegion i v).fabrics = s.fabrics := rfl
@[simp] theorem State.setRegion_spine (i : Nat) (v : Region) : (s.setRegion i v).spine = s.spine := rfl
@[simp] theorem State.setRegion_spineFailed (i : Nat) (v : Region) : (s.setRegion i v).spineFailed = s.spineFailed := rfl
@[simp] theorem State.setRegion_cores (i : Nat) (v : Region) : (s.setRegion i v).cores = s.cores := rfl
@[simp] theorem State.setRegion_caches (i : Nat) (v : Region) : (s.setRegion i v).caches = s.caches := rfl
@[simp] theorem State.setRegion_homes (i : Nat) (v : Region) : (s.setRegion i v).homes = s.homes := rfl
@[simp] theorem State.setRegion_hostHome (i : Nat) (v : Region) : (s.setRegion i v).hostHome = s.hostHome := rfl
@[simp] theorem State.setRegion_hostLines (i : Nat) (v : Region) : (s.setRegion i v).hostLines = s.hostLines := rfl
@[simp] theorem State.setRegion_hubWatch (i : Nat) (v : Region) : (s.setRegion i v).hubWatch = s.hubWatch := rfl
@[simp] theorem State.setRegion_booksAt (i : Nat) (v : Region) : (s.setRegion i v).booksAt = s.booksAt := rfl
@[simp] theorem State.setRegion_foreAt (i : Nat) (v : Region) : (s.setRegion i v).foreAt = s.foreAt := rfl
@[simp] theorem State.setRegion_reqs (i : Nat) (v : Region) : (s.setRegion i v).reqs = s.reqs := rfl
@[simp] theorem State.setRegion_nextId (i : Nat) (v : Region) : (s.setRegion i v).nextId = s.nextId := rfl
@[simp] theorem State.setRegion_offers (i : Nat) (v : Region) : (s.setRegion i v).offers = s.offers := rfl
@[simp] theorem State.setRegion_updates (i : Nat) (v : Region) : (s.setRegion i v).updates = s.updates := rfl
@[simp] theorem State.setRegion_bars (i : Nat) (v : Region) : (s.setRegion i v).bars = s.bars := rfl
@[simp] theorem State.setRegion_sifts (i : Nat) (v : Region) : (s.setRegion i v).sifts = s.sifts := rfl
@[simp] theorem State.setRegion_units (i : Nat) (v : Region) : (s.setRegion i v).units = s.units := rfl
@[simp] theorem State.setRegion_walks (i : Nat) (v : Region) : (s.setRegion i v).walks = s.walks := rfl
@[simp] theorem State.setRegion_walkers (i : Nat) (v : Region) : (s.setRegion i v).walkers = s.walkers := rfl
@[simp] theorem State.setRegion_hubTlb (i : Nat) (v : Region) : (s.setRegion i v).hubTlb = s.hubTlb := rfl
@[simp] theorem State.setRegion_cpyTlb (i : Nat) (v : Region) : (s.setRegion i v).cpyTlb = s.cpyTlb := rfl
@[simp] theorem State.setRegion_chans (i : Nat) (v : Region) : (s.setRegion i v).chans = s.chans := rfl
@[simp] theorem State.setRegion_ctxs (i : Nat) (v : Region) : (s.setRegion i v).ctxs = s.ctxs := rfl
@[simp] theorem State.setRegion_folios (i : Nat) (v : Region) : (s.setRegion i v).folios = s.folios := rfl
@[simp] theorem State.setRegion_coreSl (i : Nat) (v : Region) : (s.setRegion i v).coreSl = s.coreSl := rfl
@[simp] theorem State.setRegion_memSl (i : Nat) (v : Region) : (s.setRegion i v).memSl = s.memSl := rfl
@[simp] theorem State.setRegion_linkSl (i : Nat) (v : Region) : (s.setRegion i v).linkSl = s.linkSl := rfl
@[simp] theorem State.setRegion_prots (i : Nat) (v : Region) : (s.setRegion i v).prots = s.prots := rfl
@[simp] theorem State.setRegion_links (i : Nat) (v : Region) : (s.setRegion i v).links = s.links := rfl
@[simp] theorem State.setRegion_queues (i : Nat) (v : Region) : (s.setRegion i v).queues = s.queues := rfl
@[simp] theorem State.setRegion_evrings (i : Nat) (v : Region) : (s.setRegion i v).evrings = s.evrings := rfl
@[simp] theorem State.setRegion_refSubs (i : Nat) (v : Region) : (s.setRegion i v).refSubs = s.refSubs := rfl
@[simp] theorem State.setRegion_lastRefs (i : Nat) (v : Region) : (s.setRegion i v).lastRefs = s.lastRefs := rfl
@[simp] theorem State.setRegion_cyclic (i : Nat) (v : Region) : (s.setRegion i v).cyclic = s.cyclic := rfl
@[simp] theorem State.setRegion_corrSeq (i : Nat) (v : Region) : (s.setRegion i v).corrSeq = s.corrSeq := rfl
@[simp] theorem State.setRegion_corrFrom (i : Nat) (v : Region) : (s.setRegion i v).corrFrom = s.corrFrom := rfl
@[simp] theorem State.setRegion_corrDue (i : Nat) (v : Region) : (s.setRegion i v).corrDue = s.corrDue := rfl
@[simp] theorem State.setRegion_cfg (i : Nat) (v : Region) : (s.setRegion i v).cfg = s.cfg := rfl
@[simp] theorem State.setRegion_power (i : Nat) (v : Region) : (s.setRegion i v).power = s.power := rfl
@[simp] theorem State.setRegion_net (i : Nat) (v : Region) : (s.setRegion i v).net = s.net := rfl
@[simp] theorem State.setRegion_rounds (i : Nat) (v : Region) : (s.setRegion i v).rounds = s.rounds := rfl
@[simp] theorem State.setRegion_urgency (i : Nat) (v : Region) : (s.setRegion i v).urgency = s.urgency := rfl
@[simp] theorem State.setRegion_urgSince (i : Nat) (v : Region) : (s.setRegion i v).urgSince = s.urgSince := rfl
@[simp] theorem State.setRegion_urgNoted (i : Nat) (v : Region) : (s.setRegion i v).urgNoted = s.urgNoted := rfl
@[simp] theorem State.setRegion_clasp (i : Nat) (v : Region) : (s.setRegion i v).clasp = s.clasp := rfl
@[simp] theorem State.setRegion_link (i : Nat) (v : Region) : (s.setRegion i v).link = s.link := rfl
@[simp] theorem State.setRegion_fuses (i : Nat) (v : Region) : (s.setRegion i v).fuses = s.fuses := rfl
@[simp] theorem State.setRegion_capState (i : Nat) (v : Region) : (s.setRegion i v).capState = s.capState := rfl
@[simp] theorem State.setRegion_capGen (i : Nat) (v : Region) : (s.setRegion i v).capGen = s.capGen := rfl
@[simp] theorem State.setRegion_fore (i : Nat) (v : Region) : (s.setRegion i v).fore = s.fore := rfl
@[simp] theorem State.setRegion_standby (i : Nat) (v : Region) : (s.setRegion i v).standby = s.standby := rfl
@[simp] theorem State.setRegion_peerLost (i : Nat) (v : Region) : (s.setRegion i v).peerLost = s.peerLost := rfl
@[simp] theorem State.setRegion_kept (i : Nat) (v : Region) : (s.setRegion i v).kept = s.kept := rfl
@[simp] theorem State.setRegion_darkNoted (i : Nat) (v : Region) : (s.setRegion i v).darkNoted = s.darkNoted := rfl
@[simp] theorem State.setRegion_out (i : Nat) (v : Region) : (s.setRegion i v).out = s.out := rfl

/-! ### setFabric -/
@[simp] theorem State.setFabric_pending (d : Nat) (v : Fabric) : (s.setFabric d v).pending = s.pending := rfl
@[simp] theorem State.setFabric_free (d : Nat) (v : Fabric) : (s.setFabric d v).free = s.free := rfl
@[simp] theorem State.setFabric_hubCount (d : Nat) (v : Fabric) : (s.setFabric d v).hubCount = s.hubCount := rfl
@[simp] theorem State.setFabric_regs (d : Nat) (v : Fabric) : (s.setFabric d v).regs = s.regs := rfl
@[simp] theorem State.setFabric_hbm (d : Nat) (v : Fabric) : (s.setFabric d v).hbm = s.hbm := rfl
@[simp] theorem State.setFabric_host (d : Nat) (v : Fabric) : (s.setFabric d v).host = s.host := rfl
@[simp] theorem State.setFabric_poison (d : Nat) (v : Fabric) : (s.setFabric d v).poison = s.poison := rfl
@[simp] theorem State.setFabric_tags (d : Nat) (v : Fabric) : (s.setFabric d v).tags = s.tags := rfl
@[simp] theorem State.setFabric_frames (d : Nat) (v : Fabric) : (s.setFabric d v).frames = s.frames := rfl
@[simp] theorem State.setFabric_regions (d : Nat) (v : Fabric) : (s.setFabric d v).regions = s.regions := rfl
@[simp] theorem State.setFabric_spine (d : Nat) (v : Fabric) : (s.setFabric d v).spine = s.spine := rfl
@[simp] theorem State.setFabric_spineFailed (d : Nat) (v : Fabric) : (s.setFabric d v).spineFailed = s.spineFailed := rfl
@[simp] theorem State.setFabric_cores (d : Nat) (v : Fabric) : (s.setFabric d v).cores = s.cores := rfl
@[simp] theorem State.setFabric_caches (d : Nat) (v : Fabric) : (s.setFabric d v).caches = s.caches := rfl
@[simp] theorem State.setFabric_homes (d : Nat) (v : Fabric) : (s.setFabric d v).homes = s.homes := rfl
@[simp] theorem State.setFabric_hostHome (d : Nat) (v : Fabric) : (s.setFabric d v).hostHome = s.hostHome := rfl
@[simp] theorem State.setFabric_hostLines (d : Nat) (v : Fabric) : (s.setFabric d v).hostLines = s.hostLines := rfl
@[simp] theorem State.setFabric_hubWatch (d : Nat) (v : Fabric) : (s.setFabric d v).hubWatch = s.hubWatch := rfl
@[simp] theorem State.setFabric_booksAt (d : Nat) (v : Fabric) : (s.setFabric d v).booksAt = s.booksAt := rfl
@[simp] theorem State.setFabric_foreAt (d : Nat) (v : Fabric) : (s.setFabric d v).foreAt = s.foreAt := rfl
@[simp] theorem State.setFabric_reqs (d : Nat) (v : Fabric) : (s.setFabric d v).reqs = s.reqs := rfl
@[simp] theorem State.setFabric_nextId (d : Nat) (v : Fabric) : (s.setFabric d v).nextId = s.nextId := rfl
@[simp] theorem State.setFabric_offers (d : Nat) (v : Fabric) : (s.setFabric d v).offers = s.offers := rfl
@[simp] theorem State.setFabric_updates (d : Nat) (v : Fabric) : (s.setFabric d v).updates = s.updates := rfl
@[simp] theorem State.setFabric_bars (d : Nat) (v : Fabric) : (s.setFabric d v).bars = s.bars := rfl
@[simp] theorem State.setFabric_sifts (d : Nat) (v : Fabric) : (s.setFabric d v).sifts = s.sifts := rfl
@[simp] theorem State.setFabric_units (d : Nat) (v : Fabric) : (s.setFabric d v).units = s.units := rfl
@[simp] theorem State.setFabric_walks (d : Nat) (v : Fabric) : (s.setFabric d v).walks = s.walks := rfl
@[simp] theorem State.setFabric_walkers (d : Nat) (v : Fabric) : (s.setFabric d v).walkers = s.walkers := rfl
@[simp] theorem State.setFabric_hubTlb (d : Nat) (v : Fabric) : (s.setFabric d v).hubTlb = s.hubTlb := rfl
@[simp] theorem State.setFabric_cpyTlb (d : Nat) (v : Fabric) : (s.setFabric d v).cpyTlb = s.cpyTlb := rfl
@[simp] theorem State.setFabric_chans (d : Nat) (v : Fabric) : (s.setFabric d v).chans = s.chans := rfl
@[simp] theorem State.setFabric_ctxs (d : Nat) (v : Fabric) : (s.setFabric d v).ctxs = s.ctxs := rfl
@[simp] theorem State.setFabric_folios (d : Nat) (v : Fabric) : (s.setFabric d v).folios = s.folios := rfl
@[simp] theorem State.setFabric_coreSl (d : Nat) (v : Fabric) : (s.setFabric d v).coreSl = s.coreSl := rfl
@[simp] theorem State.setFabric_memSl (d : Nat) (v : Fabric) : (s.setFabric d v).memSl = s.memSl := rfl
@[simp] theorem State.setFabric_linkSl (d : Nat) (v : Fabric) : (s.setFabric d v).linkSl = s.linkSl := rfl
@[simp] theorem State.setFabric_prots (d : Nat) (v : Fabric) : (s.setFabric d v).prots = s.prots := rfl
@[simp] theorem State.setFabric_links (d : Nat) (v : Fabric) : (s.setFabric d v).links = s.links := rfl
@[simp] theorem State.setFabric_queues (d : Nat) (v : Fabric) : (s.setFabric d v).queues = s.queues := rfl
@[simp] theorem State.setFabric_evrings (d : Nat) (v : Fabric) : (s.setFabric d v).evrings = s.evrings := rfl
@[simp] theorem State.setFabric_refSubs (d : Nat) (v : Fabric) : (s.setFabric d v).refSubs = s.refSubs := rfl
@[simp] theorem State.setFabric_lastRefs (d : Nat) (v : Fabric) : (s.setFabric d v).lastRefs = s.lastRefs := rfl
@[simp] theorem State.setFabric_cyclic (d : Nat) (v : Fabric) : (s.setFabric d v).cyclic = s.cyclic := rfl
@[simp] theorem State.setFabric_corrSeq (d : Nat) (v : Fabric) : (s.setFabric d v).corrSeq = s.corrSeq := rfl
@[simp] theorem State.setFabric_corrFrom (d : Nat) (v : Fabric) : (s.setFabric d v).corrFrom = s.corrFrom := rfl
@[simp] theorem State.setFabric_corrDue (d : Nat) (v : Fabric) : (s.setFabric d v).corrDue = s.corrDue := rfl
@[simp] theorem State.setFabric_cfg (d : Nat) (v : Fabric) : (s.setFabric d v).cfg = s.cfg := rfl
@[simp] theorem State.setFabric_power (d : Nat) (v : Fabric) : (s.setFabric d v).power = s.power := rfl
@[simp] theorem State.setFabric_net (d : Nat) (v : Fabric) : (s.setFabric d v).net = s.net := rfl
@[simp] theorem State.setFabric_rounds (d : Nat) (v : Fabric) : (s.setFabric d v).rounds = s.rounds := rfl
@[simp] theorem State.setFabric_urgency (d : Nat) (v : Fabric) : (s.setFabric d v).urgency = s.urgency := rfl
@[simp] theorem State.setFabric_urgSince (d : Nat) (v : Fabric) : (s.setFabric d v).urgSince = s.urgSince := rfl
@[simp] theorem State.setFabric_urgNoted (d : Nat) (v : Fabric) : (s.setFabric d v).urgNoted = s.urgNoted := rfl
@[simp] theorem State.setFabric_clasp (d : Nat) (v : Fabric) : (s.setFabric d v).clasp = s.clasp := rfl
@[simp] theorem State.setFabric_link (d : Nat) (v : Fabric) : (s.setFabric d v).link = s.link := rfl
@[simp] theorem State.setFabric_fuses (d : Nat) (v : Fabric) : (s.setFabric d v).fuses = s.fuses := rfl
@[simp] theorem State.setFabric_capState (d : Nat) (v : Fabric) : (s.setFabric d v).capState = s.capState := rfl
@[simp] theorem State.setFabric_capGen (d : Nat) (v : Fabric) : (s.setFabric d v).capGen = s.capGen := rfl
@[simp] theorem State.setFabric_fore (d : Nat) (v : Fabric) : (s.setFabric d v).fore = s.fore := rfl
@[simp] theorem State.setFabric_standby (d : Nat) (v : Fabric) : (s.setFabric d v).standby = s.standby := rfl
@[simp] theorem State.setFabric_peerLost (d : Nat) (v : Fabric) : (s.setFabric d v).peerLost = s.peerLost := rfl
@[simp] theorem State.setFabric_kept (d : Nat) (v : Fabric) : (s.setFabric d v).kept = s.kept := rfl
@[simp] theorem State.setFabric_darkNoted (d : Nat) (v : Fabric) : (s.setFabric d v).darkNoted = s.darkNoted := rfl
@[simp] theorem State.setFabric_out (d : Nat) (v : Fabric) : (s.setFabric d v).out = s.out := rfl

/-! ### setCtx -/
@[simp] theorem State.setCtx_pending (i : Nat) (v : Context) : (s.setCtx i v).pending = s.pending := rfl
@[simp] theorem State.setCtx_free (i : Nat) (v : Context) : (s.setCtx i v).free = s.free := rfl
@[simp] theorem State.setCtx_hubCount (i : Nat) (v : Context) : (s.setCtx i v).hubCount = s.hubCount := rfl
@[simp] theorem State.setCtx_regs (i : Nat) (v : Context) : (s.setCtx i v).regs = s.regs := rfl
@[simp] theorem State.setCtx_hbm (i : Nat) (v : Context) : (s.setCtx i v).hbm = s.hbm := rfl
@[simp] theorem State.setCtx_host (i : Nat) (v : Context) : (s.setCtx i v).host = s.host := rfl
@[simp] theorem State.setCtx_poison (i : Nat) (v : Context) : (s.setCtx i v).poison = s.poison := rfl
@[simp] theorem State.setCtx_tags (i : Nat) (v : Context) : (s.setCtx i v).tags = s.tags := rfl
@[simp] theorem State.setCtx_frames (i : Nat) (v : Context) : (s.setCtx i v).frames = s.frames := rfl
@[simp] theorem State.setCtx_regions (i : Nat) (v : Context) : (s.setCtx i v).regions = s.regions := rfl
@[simp] theorem State.setCtx_fabrics (i : Nat) (v : Context) : (s.setCtx i v).fabrics = s.fabrics := rfl
@[simp] theorem State.setCtx_spine (i : Nat) (v : Context) : (s.setCtx i v).spine = s.spine := rfl
@[simp] theorem State.setCtx_spineFailed (i : Nat) (v : Context) : (s.setCtx i v).spineFailed = s.spineFailed := rfl
@[simp] theorem State.setCtx_cores (i : Nat) (v : Context) : (s.setCtx i v).cores = s.cores := rfl
@[simp] theorem State.setCtx_caches (i : Nat) (v : Context) : (s.setCtx i v).caches = s.caches := rfl
@[simp] theorem State.setCtx_homes (i : Nat) (v : Context) : (s.setCtx i v).homes = s.homes := rfl
@[simp] theorem State.setCtx_hostHome (i : Nat) (v : Context) : (s.setCtx i v).hostHome = s.hostHome := rfl
@[simp] theorem State.setCtx_hostLines (i : Nat) (v : Context) : (s.setCtx i v).hostLines = s.hostLines := rfl
@[simp] theorem State.setCtx_hubWatch (i : Nat) (v : Context) : (s.setCtx i v).hubWatch = s.hubWatch := rfl
@[simp] theorem State.setCtx_booksAt (i : Nat) (v : Context) : (s.setCtx i v).booksAt = s.booksAt := rfl
@[simp] theorem State.setCtx_foreAt (i : Nat) (v : Context) : (s.setCtx i v).foreAt = s.foreAt := rfl
@[simp] theorem State.setCtx_reqs (i : Nat) (v : Context) : (s.setCtx i v).reqs = s.reqs := rfl
@[simp] theorem State.setCtx_nextId (i : Nat) (v : Context) : (s.setCtx i v).nextId = s.nextId := rfl
@[simp] theorem State.setCtx_offers (i : Nat) (v : Context) : (s.setCtx i v).offers = s.offers := rfl
@[simp] theorem State.setCtx_updates (i : Nat) (v : Context) : (s.setCtx i v).updates = s.updates := rfl
@[simp] theorem State.setCtx_bars (i : Nat) (v : Context) : (s.setCtx i v).bars = s.bars := rfl
@[simp] theorem State.setCtx_sifts (i : Nat) (v : Context) : (s.setCtx i v).sifts = s.sifts := rfl
@[simp] theorem State.setCtx_units (i : Nat) (v : Context) : (s.setCtx i v).units = s.units := rfl
@[simp] theorem State.setCtx_walks (i : Nat) (v : Context) : (s.setCtx i v).walks = s.walks := rfl
@[simp] theorem State.setCtx_walkers (i : Nat) (v : Context) : (s.setCtx i v).walkers = s.walkers := rfl
@[simp] theorem State.setCtx_hubTlb (i : Nat) (v : Context) : (s.setCtx i v).hubTlb = s.hubTlb := rfl
@[simp] theorem State.setCtx_cpyTlb (i : Nat) (v : Context) : (s.setCtx i v).cpyTlb = s.cpyTlb := rfl
@[simp] theorem State.setCtx_chans (i : Nat) (v : Context) : (s.setCtx i v).chans = s.chans := rfl
@[simp] theorem State.setCtx_folios (i : Nat) (v : Context) : (s.setCtx i v).folios = s.folios := rfl
@[simp] theorem State.setCtx_coreSl (i : Nat) (v : Context) : (s.setCtx i v).coreSl = s.coreSl := rfl
@[simp] theorem State.setCtx_memSl (i : Nat) (v : Context) : (s.setCtx i v).memSl = s.memSl := rfl
@[simp] theorem State.setCtx_linkSl (i : Nat) (v : Context) : (s.setCtx i v).linkSl = s.linkSl := rfl
@[simp] theorem State.setCtx_prots (i : Nat) (v : Context) : (s.setCtx i v).prots = s.prots := rfl
@[simp] theorem State.setCtx_links (i : Nat) (v : Context) : (s.setCtx i v).links = s.links := rfl
@[simp] theorem State.setCtx_queues (i : Nat) (v : Context) : (s.setCtx i v).queues = s.queues := rfl
@[simp] theorem State.setCtx_evrings (i : Nat) (v : Context) : (s.setCtx i v).evrings = s.evrings := rfl
@[simp] theorem State.setCtx_refSubs (i : Nat) (v : Context) : (s.setCtx i v).refSubs = s.refSubs := rfl
@[simp] theorem State.setCtx_lastRefs (i : Nat) (v : Context) : (s.setCtx i v).lastRefs = s.lastRefs := rfl
@[simp] theorem State.setCtx_cyclic (i : Nat) (v : Context) : (s.setCtx i v).cyclic = s.cyclic := rfl
@[simp] theorem State.setCtx_corrSeq (i : Nat) (v : Context) : (s.setCtx i v).corrSeq = s.corrSeq := rfl
@[simp] theorem State.setCtx_corrFrom (i : Nat) (v : Context) : (s.setCtx i v).corrFrom = s.corrFrom := rfl
@[simp] theorem State.setCtx_corrDue (i : Nat) (v : Context) : (s.setCtx i v).corrDue = s.corrDue := rfl
@[simp] theorem State.setCtx_cfg (i : Nat) (v : Context) : (s.setCtx i v).cfg = s.cfg := rfl
@[simp] theorem State.setCtx_power (i : Nat) (v : Context) : (s.setCtx i v).power = s.power := rfl
@[simp] theorem State.setCtx_net (i : Nat) (v : Context) : (s.setCtx i v).net = s.net := rfl
@[simp] theorem State.setCtx_rounds (i : Nat) (v : Context) : (s.setCtx i v).rounds = s.rounds := rfl
@[simp] theorem State.setCtx_urgency (i : Nat) (v : Context) : (s.setCtx i v).urgency = s.urgency := rfl
@[simp] theorem State.setCtx_urgSince (i : Nat) (v : Context) : (s.setCtx i v).urgSince = s.urgSince := rfl
@[simp] theorem State.setCtx_urgNoted (i : Nat) (v : Context) : (s.setCtx i v).urgNoted = s.urgNoted := rfl
@[simp] theorem State.setCtx_clasp (i : Nat) (v : Context) : (s.setCtx i v).clasp = s.clasp := rfl
@[simp] theorem State.setCtx_link (i : Nat) (v : Context) : (s.setCtx i v).link = s.link := rfl
@[simp] theorem State.setCtx_fuses (i : Nat) (v : Context) : (s.setCtx i v).fuses = s.fuses := rfl
@[simp] theorem State.setCtx_capState (i : Nat) (v : Context) : (s.setCtx i v).capState = s.capState := rfl
@[simp] theorem State.setCtx_capGen (i : Nat) (v : Context) : (s.setCtx i v).capGen = s.capGen := rfl
@[simp] theorem State.setCtx_fore (i : Nat) (v : Context) : (s.setCtx i v).fore = s.fore := rfl
@[simp] theorem State.setCtx_standby (i : Nat) (v : Context) : (s.setCtx i v).standby = s.standby := rfl
@[simp] theorem State.setCtx_peerLost (i : Nat) (v : Context) : (s.setCtx i v).peerLost = s.peerLost := rfl
@[simp] theorem State.setCtx_kept (i : Nat) (v : Context) : (s.setCtx i v).kept = s.kept := rfl
@[simp] theorem State.setCtx_darkNoted (i : Nat) (v : Context) : (s.setCtx i v).darkNoted = s.darkNoted := rfl
@[simp] theorem State.setCtx_out (i : Nat) (v : Context) : (s.setCtx i v).out = s.out := rfl

/-! ### setFolio -/
@[simp] theorem State.setFolio_pending (f : Nat) (v : Folio) : (s.setFolio f v).pending = s.pending := rfl
@[simp] theorem State.setFolio_free (f : Nat) (v : Folio) : (s.setFolio f v).free = s.free := rfl
@[simp] theorem State.setFolio_hubCount (f : Nat) (v : Folio) : (s.setFolio f v).hubCount = s.hubCount := rfl
@[simp] theorem State.setFolio_regs (f : Nat) (v : Folio) : (s.setFolio f v).regs = s.regs := rfl
@[simp] theorem State.setFolio_hbm (f : Nat) (v : Folio) : (s.setFolio f v).hbm = s.hbm := rfl
@[simp] theorem State.setFolio_host (f : Nat) (v : Folio) : (s.setFolio f v).host = s.host := rfl
@[simp] theorem State.setFolio_poison (f : Nat) (v : Folio) : (s.setFolio f v).poison = s.poison := rfl
@[simp] theorem State.setFolio_tags (f : Nat) (v : Folio) : (s.setFolio f v).tags = s.tags := rfl
@[simp] theorem State.setFolio_frames (f : Nat) (v : Folio) : (s.setFolio f v).frames = s.frames := rfl
@[simp] theorem State.setFolio_regions (f : Nat) (v : Folio) : (s.setFolio f v).regions = s.regions := rfl
@[simp] theorem State.setFolio_fabrics (f : Nat) (v : Folio) : (s.setFolio f v).fabrics = s.fabrics := rfl
@[simp] theorem State.setFolio_spine (f : Nat) (v : Folio) : (s.setFolio f v).spine = s.spine := rfl
@[simp] theorem State.setFolio_spineFailed (f : Nat) (v : Folio) : (s.setFolio f v).spineFailed = s.spineFailed := rfl
@[simp] theorem State.setFolio_cores (f : Nat) (v : Folio) : (s.setFolio f v).cores = s.cores := rfl
@[simp] theorem State.setFolio_caches (f : Nat) (v : Folio) : (s.setFolio f v).caches = s.caches := rfl
@[simp] theorem State.setFolio_homes (f : Nat) (v : Folio) : (s.setFolio f v).homes = s.homes := rfl
@[simp] theorem State.setFolio_hostHome (f : Nat) (v : Folio) : (s.setFolio f v).hostHome = s.hostHome := rfl
@[simp] theorem State.setFolio_hostLines (f : Nat) (v : Folio) : (s.setFolio f v).hostLines = s.hostLines := rfl
@[simp] theorem State.setFolio_hubWatch (f : Nat) (v : Folio) : (s.setFolio f v).hubWatch = s.hubWatch := rfl
@[simp] theorem State.setFolio_booksAt (f : Nat) (v : Folio) : (s.setFolio f v).booksAt = s.booksAt := rfl
@[simp] theorem State.setFolio_foreAt (f : Nat) (v : Folio) : (s.setFolio f v).foreAt = s.foreAt := rfl
@[simp] theorem State.setFolio_reqs (f : Nat) (v : Folio) : (s.setFolio f v).reqs = s.reqs := rfl
@[simp] theorem State.setFolio_nextId (f : Nat) (v : Folio) : (s.setFolio f v).nextId = s.nextId := rfl
@[simp] theorem State.setFolio_offers (f : Nat) (v : Folio) : (s.setFolio f v).offers = s.offers := rfl
@[simp] theorem State.setFolio_updates (f : Nat) (v : Folio) : (s.setFolio f v).updates = s.updates := rfl
@[simp] theorem State.setFolio_bars (f : Nat) (v : Folio) : (s.setFolio f v).bars = s.bars := rfl
@[simp] theorem State.setFolio_sifts (f : Nat) (v : Folio) : (s.setFolio f v).sifts = s.sifts := rfl
@[simp] theorem State.setFolio_units (f : Nat) (v : Folio) : (s.setFolio f v).units = s.units := rfl
@[simp] theorem State.setFolio_walks (f : Nat) (v : Folio) : (s.setFolio f v).walks = s.walks := rfl
@[simp] theorem State.setFolio_walkers (f : Nat) (v : Folio) : (s.setFolio f v).walkers = s.walkers := rfl
@[simp] theorem State.setFolio_hubTlb (f : Nat) (v : Folio) : (s.setFolio f v).hubTlb = s.hubTlb := rfl
@[simp] theorem State.setFolio_cpyTlb (f : Nat) (v : Folio) : (s.setFolio f v).cpyTlb = s.cpyTlb := rfl
@[simp] theorem State.setFolio_chans (f : Nat) (v : Folio) : (s.setFolio f v).chans = s.chans := rfl
@[simp] theorem State.setFolio_ctxs (f : Nat) (v : Folio) : (s.setFolio f v).ctxs = s.ctxs := rfl
@[simp] theorem State.setFolio_coreSl (f : Nat) (v : Folio) : (s.setFolio f v).coreSl = s.coreSl := rfl
@[simp] theorem State.setFolio_memSl (f : Nat) (v : Folio) : (s.setFolio f v).memSl = s.memSl := rfl
@[simp] theorem State.setFolio_linkSl (f : Nat) (v : Folio) : (s.setFolio f v).linkSl = s.linkSl := rfl
@[simp] theorem State.setFolio_prots (f : Nat) (v : Folio) : (s.setFolio f v).prots = s.prots := rfl
@[simp] theorem State.setFolio_links (f : Nat) (v : Folio) : (s.setFolio f v).links = s.links := rfl
@[simp] theorem State.setFolio_queues (f : Nat) (v : Folio) : (s.setFolio f v).queues = s.queues := rfl
@[simp] theorem State.setFolio_evrings (f : Nat) (v : Folio) : (s.setFolio f v).evrings = s.evrings := rfl
@[simp] theorem State.setFolio_refSubs (f : Nat) (v : Folio) : (s.setFolio f v).refSubs = s.refSubs := rfl
@[simp] theorem State.setFolio_lastRefs (f : Nat) (v : Folio) : (s.setFolio f v).lastRefs = s.lastRefs := rfl
@[simp] theorem State.setFolio_cyclic (f : Nat) (v : Folio) : (s.setFolio f v).cyclic = s.cyclic := rfl
@[simp] theorem State.setFolio_corrSeq (f : Nat) (v : Folio) : (s.setFolio f v).corrSeq = s.corrSeq := rfl
@[simp] theorem State.setFolio_corrFrom (f : Nat) (v : Folio) : (s.setFolio f v).corrFrom = s.corrFrom := rfl
@[simp] theorem State.setFolio_corrDue (f : Nat) (v : Folio) : (s.setFolio f v).corrDue = s.corrDue := rfl
@[simp] theorem State.setFolio_cfg (f : Nat) (v : Folio) : (s.setFolio f v).cfg = s.cfg := rfl
@[simp] theorem State.setFolio_power (f : Nat) (v : Folio) : (s.setFolio f v).power = s.power := rfl
@[simp] theorem State.setFolio_net (f : Nat) (v : Folio) : (s.setFolio f v).net = s.net := rfl
@[simp] theorem State.setFolio_rounds (f : Nat) (v : Folio) : (s.setFolio f v).rounds = s.rounds := rfl
@[simp] theorem State.setFolio_urgency (f : Nat) (v : Folio) : (s.setFolio f v).urgency = s.urgency := rfl
@[simp] theorem State.setFolio_urgSince (f : Nat) (v : Folio) : (s.setFolio f v).urgSince = s.urgSince := rfl
@[simp] theorem State.setFolio_urgNoted (f : Nat) (v : Folio) : (s.setFolio f v).urgNoted = s.urgNoted := rfl
@[simp] theorem State.setFolio_clasp (f : Nat) (v : Folio) : (s.setFolio f v).clasp = s.clasp := rfl
@[simp] theorem State.setFolio_link (f : Nat) (v : Folio) : (s.setFolio f v).link = s.link := rfl
@[simp] theorem State.setFolio_fuses (f : Nat) (v : Folio) : (s.setFolio f v).fuses = s.fuses := rfl
@[simp] theorem State.setFolio_capState (f : Nat) (v : Folio) : (s.setFolio f v).capState = s.capState := rfl
@[simp] theorem State.setFolio_capGen (f : Nat) (v : Folio) : (s.setFolio f v).capGen = s.capGen := rfl
@[simp] theorem State.setFolio_fore (f : Nat) (v : Folio) : (s.setFolio f v).fore = s.fore := rfl
@[simp] theorem State.setFolio_standby (f : Nat) (v : Folio) : (s.setFolio f v).standby = s.standby := rfl
@[simp] theorem State.setFolio_peerLost (f : Nat) (v : Folio) : (s.setFolio f v).peerLost = s.peerLost := rfl
@[simp] theorem State.setFolio_kept (f : Nat) (v : Folio) : (s.setFolio f v).kept = s.kept := rfl
@[simp] theorem State.setFolio_darkNoted (f : Nat) (v : Folio) : (s.setFolio f v).darkNoted = s.darkNoted := rfl
@[simp] theorem State.setFolio_out (f : Nat) (v : Folio) : (s.setFolio f v).out = s.out := rfl

/-! ### setQueue -/
@[simp] theorem State.setQueue_pending (q : Nat) (v : Queue) : (s.setQueue q v).pending = s.pending := rfl
@[simp] theorem State.setQueue_free (q : Nat) (v : Queue) : (s.setQueue q v).free = s.free := rfl
@[simp] theorem State.setQueue_hubCount (q : Nat) (v : Queue) : (s.setQueue q v).hubCount = s.hubCount := rfl
@[simp] theorem State.setQueue_regs (q : Nat) (v : Queue) : (s.setQueue q v).regs = s.regs := rfl
@[simp] theorem State.setQueue_hbm (q : Nat) (v : Queue) : (s.setQueue q v).hbm = s.hbm := rfl
@[simp] theorem State.setQueue_host (q : Nat) (v : Queue) : (s.setQueue q v).host = s.host := rfl
@[simp] theorem State.setQueue_poison (q : Nat) (v : Queue) : (s.setQueue q v).poison = s.poison := rfl
@[simp] theorem State.setQueue_tags (q : Nat) (v : Queue) : (s.setQueue q v).tags = s.tags := rfl
@[simp] theorem State.setQueue_frames (q : Nat) (v : Queue) : (s.setQueue q v).frames = s.frames := rfl
@[simp] theorem State.setQueue_regions (q : Nat) (v : Queue) : (s.setQueue q v).regions = s.regions := rfl
@[simp] theorem State.setQueue_fabrics (q : Nat) (v : Queue) : (s.setQueue q v).fabrics = s.fabrics := rfl
@[simp] theorem State.setQueue_spine (q : Nat) (v : Queue) : (s.setQueue q v).spine = s.spine := rfl
@[simp] theorem State.setQueue_spineFailed (q : Nat) (v : Queue) : (s.setQueue q v).spineFailed = s.spineFailed := rfl
@[simp] theorem State.setQueue_cores (q : Nat) (v : Queue) : (s.setQueue q v).cores = s.cores := rfl
@[simp] theorem State.setQueue_caches (q : Nat) (v : Queue) : (s.setQueue q v).caches = s.caches := rfl
@[simp] theorem State.setQueue_homes (q : Nat) (v : Queue) : (s.setQueue q v).homes = s.homes := rfl
@[simp] theorem State.setQueue_hostHome (q : Nat) (v : Queue) : (s.setQueue q v).hostHome = s.hostHome := rfl
@[simp] theorem State.setQueue_hostLines (q : Nat) (v : Queue) : (s.setQueue q v).hostLines = s.hostLines := rfl
@[simp] theorem State.setQueue_hubWatch (q : Nat) (v : Queue) : (s.setQueue q v).hubWatch = s.hubWatch := rfl
@[simp] theorem State.setQueue_booksAt (q : Nat) (v : Queue) : (s.setQueue q v).booksAt = s.booksAt := rfl
@[simp] theorem State.setQueue_foreAt (q : Nat) (v : Queue) : (s.setQueue q v).foreAt = s.foreAt := rfl
@[simp] theorem State.setQueue_reqs (q : Nat) (v : Queue) : (s.setQueue q v).reqs = s.reqs := rfl
@[simp] theorem State.setQueue_nextId (q : Nat) (v : Queue) : (s.setQueue q v).nextId = s.nextId := rfl
@[simp] theorem State.setQueue_offers (q : Nat) (v : Queue) : (s.setQueue q v).offers = s.offers := rfl
@[simp] theorem State.setQueue_updates (q : Nat) (v : Queue) : (s.setQueue q v).updates = s.updates := rfl
@[simp] theorem State.setQueue_bars (q : Nat) (v : Queue) : (s.setQueue q v).bars = s.bars := rfl
@[simp] theorem State.setQueue_sifts (q : Nat) (v : Queue) : (s.setQueue q v).sifts = s.sifts := rfl
@[simp] theorem State.setQueue_units (q : Nat) (v : Queue) : (s.setQueue q v).units = s.units := rfl
@[simp] theorem State.setQueue_walks (q : Nat) (v : Queue) : (s.setQueue q v).walks = s.walks := rfl
@[simp] theorem State.setQueue_walkers (q : Nat) (v : Queue) : (s.setQueue q v).walkers = s.walkers := rfl
@[simp] theorem State.setQueue_hubTlb (q : Nat) (v : Queue) : (s.setQueue q v).hubTlb = s.hubTlb := rfl
@[simp] theorem State.setQueue_cpyTlb (q : Nat) (v : Queue) : (s.setQueue q v).cpyTlb = s.cpyTlb := rfl
@[simp] theorem State.setQueue_chans (q : Nat) (v : Queue) : (s.setQueue q v).chans = s.chans := rfl
@[simp] theorem State.setQueue_ctxs (q : Nat) (v : Queue) : (s.setQueue q v).ctxs = s.ctxs := rfl
@[simp] theorem State.setQueue_folios (q : Nat) (v : Queue) : (s.setQueue q v).folios = s.folios := rfl
@[simp] theorem State.setQueue_coreSl (q : Nat) (v : Queue) : (s.setQueue q v).coreSl = s.coreSl := rfl
@[simp] theorem State.setQueue_memSl (q : Nat) (v : Queue) : (s.setQueue q v).memSl = s.memSl := rfl
@[simp] theorem State.setQueue_linkSl (q : Nat) (v : Queue) : (s.setQueue q v).linkSl = s.linkSl := rfl
@[simp] theorem State.setQueue_prots (q : Nat) (v : Queue) : (s.setQueue q v).prots = s.prots := rfl
@[simp] theorem State.setQueue_links (q : Nat) (v : Queue) : (s.setQueue q v).links = s.links := rfl
@[simp] theorem State.setQueue_evrings (q : Nat) (v : Queue) : (s.setQueue q v).evrings = s.evrings := rfl
@[simp] theorem State.setQueue_refSubs (q : Nat) (v : Queue) : (s.setQueue q v).refSubs = s.refSubs := rfl
@[simp] theorem State.setQueue_lastRefs (q : Nat) (v : Queue) : (s.setQueue q v).lastRefs = s.lastRefs := rfl
@[simp] theorem State.setQueue_cyclic (q : Nat) (v : Queue) : (s.setQueue q v).cyclic = s.cyclic := rfl
@[simp] theorem State.setQueue_corrSeq (q : Nat) (v : Queue) : (s.setQueue q v).corrSeq = s.corrSeq := rfl
@[simp] theorem State.setQueue_corrFrom (q : Nat) (v : Queue) : (s.setQueue q v).corrFrom = s.corrFrom := rfl
@[simp] theorem State.setQueue_corrDue (q : Nat) (v : Queue) : (s.setQueue q v).corrDue = s.corrDue := rfl
@[simp] theorem State.setQueue_cfg (q : Nat) (v : Queue) : (s.setQueue q v).cfg = s.cfg := rfl
@[simp] theorem State.setQueue_power (q : Nat) (v : Queue) : (s.setQueue q v).power = s.power := rfl
@[simp] theorem State.setQueue_net (q : Nat) (v : Queue) : (s.setQueue q v).net = s.net := rfl
@[simp] theorem State.setQueue_rounds (q : Nat) (v : Queue) : (s.setQueue q v).rounds = s.rounds := rfl
@[simp] theorem State.setQueue_urgency (q : Nat) (v : Queue) : (s.setQueue q v).urgency = s.urgency := rfl
@[simp] theorem State.setQueue_urgSince (q : Nat) (v : Queue) : (s.setQueue q v).urgSince = s.urgSince := rfl
@[simp] theorem State.setQueue_urgNoted (q : Nat) (v : Queue) : (s.setQueue q v).urgNoted = s.urgNoted := rfl
@[simp] theorem State.setQueue_clasp (q : Nat) (v : Queue) : (s.setQueue q v).clasp = s.clasp := rfl
@[simp] theorem State.setQueue_link (q : Nat) (v : Queue) : (s.setQueue q v).link = s.link := rfl
@[simp] theorem State.setQueue_fuses (q : Nat) (v : Queue) : (s.setQueue q v).fuses = s.fuses := rfl
@[simp] theorem State.setQueue_capState (q : Nat) (v : Queue) : (s.setQueue q v).capState = s.capState := rfl
@[simp] theorem State.setQueue_capGen (q : Nat) (v : Queue) : (s.setQueue q v).capGen = s.capGen := rfl
@[simp] theorem State.setQueue_fore (q : Nat) (v : Queue) : (s.setQueue q v).fore = s.fore := rfl
@[simp] theorem State.setQueue_standby (q : Nat) (v : Queue) : (s.setQueue q v).standby = s.standby := rfl
@[simp] theorem State.setQueue_peerLost (q : Nat) (v : Queue) : (s.setQueue q v).peerLost = s.peerLost := rfl
@[simp] theorem State.setQueue_kept (q : Nat) (v : Queue) : (s.setQueue q v).kept = s.kept := rfl
@[simp] theorem State.setQueue_darkNoted (q : Nat) (v : Queue) : (s.setQueue q v).darkNoted = s.darkNoted := rfl
@[simp] theorem State.setQueue_out (q : Nat) (v : Queue) : (s.setQueue q v).out = s.out := rfl

/-! ### setChan -/
@[simp] theorem State.setChan_pending (c : Nat) (v : Chan) : (s.setChan c v).pending = s.pending := rfl
@[simp] theorem State.setChan_free (c : Nat) (v : Chan) : (s.setChan c v).free = s.free := rfl
@[simp] theorem State.setChan_hubCount (c : Nat) (v : Chan) : (s.setChan c v).hubCount = s.hubCount := rfl
@[simp] theorem State.setChan_regs (c : Nat) (v : Chan) : (s.setChan c v).regs = s.regs := rfl
@[simp] theorem State.setChan_hbm (c : Nat) (v : Chan) : (s.setChan c v).hbm = s.hbm := rfl
@[simp] theorem State.setChan_host (c : Nat) (v : Chan) : (s.setChan c v).host = s.host := rfl
@[simp] theorem State.setChan_poison (c : Nat) (v : Chan) : (s.setChan c v).poison = s.poison := rfl
@[simp] theorem State.setChan_tags (c : Nat) (v : Chan) : (s.setChan c v).tags = s.tags := rfl
@[simp] theorem State.setChan_frames (c : Nat) (v : Chan) : (s.setChan c v).frames = s.frames := rfl
@[simp] theorem State.setChan_regions (c : Nat) (v : Chan) : (s.setChan c v).regions = s.regions := rfl
@[simp] theorem State.setChan_fabrics (c : Nat) (v : Chan) : (s.setChan c v).fabrics = s.fabrics := rfl
@[simp] theorem State.setChan_spine (c : Nat) (v : Chan) : (s.setChan c v).spine = s.spine := rfl
@[simp] theorem State.setChan_spineFailed (c : Nat) (v : Chan) : (s.setChan c v).spineFailed = s.spineFailed := rfl
@[simp] theorem State.setChan_cores (c : Nat) (v : Chan) : (s.setChan c v).cores = s.cores := rfl
@[simp] theorem State.setChan_caches (c : Nat) (v : Chan) : (s.setChan c v).caches = s.caches := rfl
@[simp] theorem State.setChan_homes (c : Nat) (v : Chan) : (s.setChan c v).homes = s.homes := rfl
@[simp] theorem State.setChan_hostHome (c : Nat) (v : Chan) : (s.setChan c v).hostHome = s.hostHome := rfl
@[simp] theorem State.setChan_hostLines (c : Nat) (v : Chan) : (s.setChan c v).hostLines = s.hostLines := rfl
@[simp] theorem State.setChan_hubWatch (c : Nat) (v : Chan) : (s.setChan c v).hubWatch = s.hubWatch := rfl
@[simp] theorem State.setChan_booksAt (c : Nat) (v : Chan) : (s.setChan c v).booksAt = s.booksAt := rfl
@[simp] theorem State.setChan_foreAt (c : Nat) (v : Chan) : (s.setChan c v).foreAt = s.foreAt := rfl
@[simp] theorem State.setChan_reqs (c : Nat) (v : Chan) : (s.setChan c v).reqs = s.reqs := rfl
@[simp] theorem State.setChan_nextId (c : Nat) (v : Chan) : (s.setChan c v).nextId = s.nextId := rfl
@[simp] theorem State.setChan_offers (c : Nat) (v : Chan) : (s.setChan c v).offers = s.offers := rfl
@[simp] theorem State.setChan_updates (c : Nat) (v : Chan) : (s.setChan c v).updates = s.updates := rfl
@[simp] theorem State.setChan_bars (c : Nat) (v : Chan) : (s.setChan c v).bars = s.bars := rfl
@[simp] theorem State.setChan_sifts (c : Nat) (v : Chan) : (s.setChan c v).sifts = s.sifts := rfl
@[simp] theorem State.setChan_units (c : Nat) (v : Chan) : (s.setChan c v).units = s.units := rfl
@[simp] theorem State.setChan_walks (c : Nat) (v : Chan) : (s.setChan c v).walks = s.walks := rfl
@[simp] theorem State.setChan_walkers (c : Nat) (v : Chan) : (s.setChan c v).walkers = s.walkers := rfl
@[simp] theorem State.setChan_hubTlb (c : Nat) (v : Chan) : (s.setChan c v).hubTlb = s.hubTlb := rfl
@[simp] theorem State.setChan_cpyTlb (c : Nat) (v : Chan) : (s.setChan c v).cpyTlb = s.cpyTlb := rfl
@[simp] theorem State.setChan_ctxs (c : Nat) (v : Chan) : (s.setChan c v).ctxs = s.ctxs := rfl
@[simp] theorem State.setChan_folios (c : Nat) (v : Chan) : (s.setChan c v).folios = s.folios := rfl
@[simp] theorem State.setChan_coreSl (c : Nat) (v : Chan) : (s.setChan c v).coreSl = s.coreSl := rfl
@[simp] theorem State.setChan_memSl (c : Nat) (v : Chan) : (s.setChan c v).memSl = s.memSl := rfl
@[simp] theorem State.setChan_linkSl (c : Nat) (v : Chan) : (s.setChan c v).linkSl = s.linkSl := rfl
@[simp] theorem State.setChan_prots (c : Nat) (v : Chan) : (s.setChan c v).prots = s.prots := rfl
@[simp] theorem State.setChan_links (c : Nat) (v : Chan) : (s.setChan c v).links = s.links := rfl
@[simp] theorem State.setChan_queues (c : Nat) (v : Chan) : (s.setChan c v).queues = s.queues := rfl
@[simp] theorem State.setChan_evrings (c : Nat) (v : Chan) : (s.setChan c v).evrings = s.evrings := rfl
@[simp] theorem State.setChan_refSubs (c : Nat) (v : Chan) : (s.setChan c v).refSubs = s.refSubs := rfl
@[simp] theorem State.setChan_lastRefs (c : Nat) (v : Chan) : (s.setChan c v).lastRefs = s.lastRefs := rfl
@[simp] theorem State.setChan_cyclic (c : Nat) (v : Chan) : (s.setChan c v).cyclic = s.cyclic := rfl
@[simp] theorem State.setChan_corrSeq (c : Nat) (v : Chan) : (s.setChan c v).corrSeq = s.corrSeq := rfl
@[simp] theorem State.setChan_corrFrom (c : Nat) (v : Chan) : (s.setChan c v).corrFrom = s.corrFrom := rfl
@[simp] theorem State.setChan_corrDue (c : Nat) (v : Chan) : (s.setChan c v).corrDue = s.corrDue := rfl
@[simp] theorem State.setChan_cfg (c : Nat) (v : Chan) : (s.setChan c v).cfg = s.cfg := rfl
@[simp] theorem State.setChan_power (c : Nat) (v : Chan) : (s.setChan c v).power = s.power := rfl
@[simp] theorem State.setChan_net (c : Nat) (v : Chan) : (s.setChan c v).net = s.net := rfl
@[simp] theorem State.setChan_rounds (c : Nat) (v : Chan) : (s.setChan c v).rounds = s.rounds := rfl
@[simp] theorem State.setChan_urgency (c : Nat) (v : Chan) : (s.setChan c v).urgency = s.urgency := rfl
@[simp] theorem State.setChan_urgSince (c : Nat) (v : Chan) : (s.setChan c v).urgSince = s.urgSince := rfl
@[simp] theorem State.setChan_urgNoted (c : Nat) (v : Chan) : (s.setChan c v).urgNoted = s.urgNoted := rfl
@[simp] theorem State.setChan_clasp (c : Nat) (v : Chan) : (s.setChan c v).clasp = s.clasp := rfl
@[simp] theorem State.setChan_link (c : Nat) (v : Chan) : (s.setChan c v).link = s.link := rfl
@[simp] theorem State.setChan_fuses (c : Nat) (v : Chan) : (s.setChan c v).fuses = s.fuses := rfl
@[simp] theorem State.setChan_capState (c : Nat) (v : Chan) : (s.setChan c v).capState = s.capState := rfl
@[simp] theorem State.setChan_capGen (c : Nat) (v : Chan) : (s.setChan c v).capGen = s.capGen := rfl
@[simp] theorem State.setChan_fore (c : Nat) (v : Chan) : (s.setChan c v).fore = s.fore := rfl
@[simp] theorem State.setChan_standby (c : Nat) (v : Chan) : (s.setChan c v).standby = s.standby := rfl
@[simp] theorem State.setChan_peerLost (c : Nat) (v : Chan) : (s.setChan c v).peerLost = s.peerLost := rfl
@[simp] theorem State.setChan_kept (c : Nat) (v : Chan) : (s.setChan c v).kept = s.kept := rfl
@[simp] theorem State.setChan_darkNoted (c : Nat) (v : Chan) : (s.setChan c v).darkNoted = s.darkNoted := rfl
@[simp] theorem State.setChan_out (c : Nat) (v : Chan) : (s.setChan c v).out = s.out := rfl

/-! ### setStitch -/
@[simp] theorem State.setStitch_pending (l : Nat) (v : Link) : (s.setStitch l v).pending = s.pending := rfl
@[simp] theorem State.setStitch_free (l : Nat) (v : Link) : (s.setStitch l v).free = s.free := rfl
@[simp] theorem State.setStitch_hubCount (l : Nat) (v : Link) : (s.setStitch l v).hubCount = s.hubCount := rfl
@[simp] theorem State.setStitch_regs (l : Nat) (v : Link) : (s.setStitch l v).regs = s.regs := rfl
@[simp] theorem State.setStitch_hbm (l : Nat) (v : Link) : (s.setStitch l v).hbm = s.hbm := rfl
@[simp] theorem State.setStitch_host (l : Nat) (v : Link) : (s.setStitch l v).host = s.host := rfl
@[simp] theorem State.setStitch_poison (l : Nat) (v : Link) : (s.setStitch l v).poison = s.poison := rfl
@[simp] theorem State.setStitch_tags (l : Nat) (v : Link) : (s.setStitch l v).tags = s.tags := rfl
@[simp] theorem State.setStitch_frames (l : Nat) (v : Link) : (s.setStitch l v).frames = s.frames := rfl
@[simp] theorem State.setStitch_regions (l : Nat) (v : Link) : (s.setStitch l v).regions = s.regions := rfl
@[simp] theorem State.setStitch_fabrics (l : Nat) (v : Link) : (s.setStitch l v).fabrics = s.fabrics := rfl
@[simp] theorem State.setStitch_spine (l : Nat) (v : Link) : (s.setStitch l v).spine = s.spine := rfl
@[simp] theorem State.setStitch_spineFailed (l : Nat) (v : Link) : (s.setStitch l v).spineFailed = s.spineFailed := rfl
@[simp] theorem State.setStitch_cores (l : Nat) (v : Link) : (s.setStitch l v).cores = s.cores := rfl
@[simp] theorem State.setStitch_caches (l : Nat) (v : Link) : (s.setStitch l v).caches = s.caches := rfl
@[simp] theorem State.setStitch_homes (l : Nat) (v : Link) : (s.setStitch l v).homes = s.homes := rfl
@[simp] theorem State.setStitch_hostHome (l : Nat) (v : Link) : (s.setStitch l v).hostHome = s.hostHome := rfl
@[simp] theorem State.setStitch_hostLines (l : Nat) (v : Link) : (s.setStitch l v).hostLines = s.hostLines := rfl
@[simp] theorem State.setStitch_hubWatch (l : Nat) (v : Link) : (s.setStitch l v).hubWatch = s.hubWatch := rfl
@[simp] theorem State.setStitch_booksAt (l : Nat) (v : Link) : (s.setStitch l v).booksAt = s.booksAt := rfl
@[simp] theorem State.setStitch_foreAt (l : Nat) (v : Link) : (s.setStitch l v).foreAt = s.foreAt := rfl
@[simp] theorem State.setStitch_reqs (l : Nat) (v : Link) : (s.setStitch l v).reqs = s.reqs := rfl
@[simp] theorem State.setStitch_nextId (l : Nat) (v : Link) : (s.setStitch l v).nextId = s.nextId := rfl
@[simp] theorem State.setStitch_offers (l : Nat) (v : Link) : (s.setStitch l v).offers = s.offers := rfl
@[simp] theorem State.setStitch_updates (l : Nat) (v : Link) : (s.setStitch l v).updates = s.updates := rfl
@[simp] theorem State.setStitch_bars (l : Nat) (v : Link) : (s.setStitch l v).bars = s.bars := rfl
@[simp] theorem State.setStitch_sifts (l : Nat) (v : Link) : (s.setStitch l v).sifts = s.sifts := rfl
@[simp] theorem State.setStitch_units (l : Nat) (v : Link) : (s.setStitch l v).units = s.units := rfl
@[simp] theorem State.setStitch_walks (l : Nat) (v : Link) : (s.setStitch l v).walks = s.walks := rfl
@[simp] theorem State.setStitch_walkers (l : Nat) (v : Link) : (s.setStitch l v).walkers = s.walkers := rfl
@[simp] theorem State.setStitch_hubTlb (l : Nat) (v : Link) : (s.setStitch l v).hubTlb = s.hubTlb := rfl
@[simp] theorem State.setStitch_cpyTlb (l : Nat) (v : Link) : (s.setStitch l v).cpyTlb = s.cpyTlb := rfl
@[simp] theorem State.setStitch_chans (l : Nat) (v : Link) : (s.setStitch l v).chans = s.chans := rfl
@[simp] theorem State.setStitch_ctxs (l : Nat) (v : Link) : (s.setStitch l v).ctxs = s.ctxs := rfl
@[simp] theorem State.setStitch_folios (l : Nat) (v : Link) : (s.setStitch l v).folios = s.folios := rfl
@[simp] theorem State.setStitch_coreSl (l : Nat) (v : Link) : (s.setStitch l v).coreSl = s.coreSl := rfl
@[simp] theorem State.setStitch_memSl (l : Nat) (v : Link) : (s.setStitch l v).memSl = s.memSl := rfl
@[simp] theorem State.setStitch_linkSl (l : Nat) (v : Link) : (s.setStitch l v).linkSl = s.linkSl := rfl
@[simp] theorem State.setStitch_prots (l : Nat) (v : Link) : (s.setStitch l v).prots = s.prots := rfl
@[simp] theorem State.setStitch_queues (l : Nat) (v : Link) : (s.setStitch l v).queues = s.queues := rfl
@[simp] theorem State.setStitch_evrings (l : Nat) (v : Link) : (s.setStitch l v).evrings = s.evrings := rfl
@[simp] theorem State.setStitch_refSubs (l : Nat) (v : Link) : (s.setStitch l v).refSubs = s.refSubs := rfl
@[simp] theorem State.setStitch_lastRefs (l : Nat) (v : Link) : (s.setStitch l v).lastRefs = s.lastRefs := rfl
@[simp] theorem State.setStitch_cyclic (l : Nat) (v : Link) : (s.setStitch l v).cyclic = s.cyclic := rfl
@[simp] theorem State.setStitch_corrSeq (l : Nat) (v : Link) : (s.setStitch l v).corrSeq = s.corrSeq := rfl
@[simp] theorem State.setStitch_corrFrom (l : Nat) (v : Link) : (s.setStitch l v).corrFrom = s.corrFrom := rfl
@[simp] theorem State.setStitch_corrDue (l : Nat) (v : Link) : (s.setStitch l v).corrDue = s.corrDue := rfl
@[simp] theorem State.setStitch_cfg (l : Nat) (v : Link) : (s.setStitch l v).cfg = s.cfg := rfl
@[simp] theorem State.setStitch_power (l : Nat) (v : Link) : (s.setStitch l v).power = s.power := rfl
@[simp] theorem State.setStitch_net (l : Nat) (v : Link) : (s.setStitch l v).net = s.net := rfl
@[simp] theorem State.setStitch_rounds (l : Nat) (v : Link) : (s.setStitch l v).rounds = s.rounds := rfl
@[simp] theorem State.setStitch_urgency (l : Nat) (v : Link) : (s.setStitch l v).urgency = s.urgency := rfl
@[simp] theorem State.setStitch_urgSince (l : Nat) (v : Link) : (s.setStitch l v).urgSince = s.urgSince := rfl
@[simp] theorem State.setStitch_urgNoted (l : Nat) (v : Link) : (s.setStitch l v).urgNoted = s.urgNoted := rfl
@[simp] theorem State.setStitch_clasp (l : Nat) (v : Link) : (s.setStitch l v).clasp = s.clasp := rfl
@[simp] theorem State.setStitch_link (l : Nat) (v : Link) : (s.setStitch l v).link = s.link := rfl
@[simp] theorem State.setStitch_fuses (l : Nat) (v : Link) : (s.setStitch l v).fuses = s.fuses := rfl
@[simp] theorem State.setStitch_capState (l : Nat) (v : Link) : (s.setStitch l v).capState = s.capState := rfl
@[simp] theorem State.setStitch_capGen (l : Nat) (v : Link) : (s.setStitch l v).capGen = s.capGen := rfl
@[simp] theorem State.setStitch_fore (l : Nat) (v : Link) : (s.setStitch l v).fore = s.fore := rfl
@[simp] theorem State.setStitch_standby (l : Nat) (v : Link) : (s.setStitch l v).standby = s.standby := rfl
@[simp] theorem State.setStitch_peerLost (l : Nat) (v : Link) : (s.setStitch l v).peerLost = s.peerLost := rfl
@[simp] theorem State.setStitch_kept (l : Nat) (v : Link) : (s.setStitch l v).kept = s.kept := rfl
@[simp] theorem State.setStitch_darkNoted (l : Nat) (v : Link) : (s.setStitch l v).darkNoted = s.darkNoted := rfl
@[simp] theorem State.setStitch_out (l : Nat) (v : Link) : (s.setStitch l v).out = s.out := rfl

/-! ### setUnit -/
@[simp] theorem State.setUnit_pending (u : Nat) (v : SiftUnit) : (s.setUnit u v).pending = s.pending := rfl
@[simp] theorem State.setUnit_free (u : Nat) (v : SiftUnit) : (s.setUnit u v).free = s.free := rfl
@[simp] theorem State.setUnit_hubCount (u : Nat) (v : SiftUnit) : (s.setUnit u v).hubCount = s.hubCount := rfl
@[simp] theorem State.setUnit_regs (u : Nat) (v : SiftUnit) : (s.setUnit u v).regs = s.regs := rfl
@[simp] theorem State.setUnit_hbm (u : Nat) (v : SiftUnit) : (s.setUnit u v).hbm = s.hbm := rfl
@[simp] theorem State.setUnit_host (u : Nat) (v : SiftUnit) : (s.setUnit u v).host = s.host := rfl
@[simp] theorem State.setUnit_poison (u : Nat) (v : SiftUnit) : (s.setUnit u v).poison = s.poison := rfl
@[simp] theorem State.setUnit_tags (u : Nat) (v : SiftUnit) : (s.setUnit u v).tags = s.tags := rfl
@[simp] theorem State.setUnit_frames (u : Nat) (v : SiftUnit) : (s.setUnit u v).frames = s.frames := rfl
@[simp] theorem State.setUnit_regions (u : Nat) (v : SiftUnit) : (s.setUnit u v).regions = s.regions := rfl
@[simp] theorem State.setUnit_fabrics (u : Nat) (v : SiftUnit) : (s.setUnit u v).fabrics = s.fabrics := rfl
@[simp] theorem State.setUnit_spine (u : Nat) (v : SiftUnit) : (s.setUnit u v).spine = s.spine := rfl
@[simp] theorem State.setUnit_spineFailed (u : Nat) (v : SiftUnit) : (s.setUnit u v).spineFailed = s.spineFailed := rfl
@[simp] theorem State.setUnit_cores (u : Nat) (v : SiftUnit) : (s.setUnit u v).cores = s.cores := rfl
@[simp] theorem State.setUnit_caches (u : Nat) (v : SiftUnit) : (s.setUnit u v).caches = s.caches := rfl
@[simp] theorem State.setUnit_homes (u : Nat) (v : SiftUnit) : (s.setUnit u v).homes = s.homes := rfl
@[simp] theorem State.setUnit_hostHome (u : Nat) (v : SiftUnit) : (s.setUnit u v).hostHome = s.hostHome := rfl
@[simp] theorem State.setUnit_hostLines (u : Nat) (v : SiftUnit) : (s.setUnit u v).hostLines = s.hostLines := rfl
@[simp] theorem State.setUnit_hubWatch (u : Nat) (v : SiftUnit) : (s.setUnit u v).hubWatch = s.hubWatch := rfl
@[simp] theorem State.setUnit_booksAt (u : Nat) (v : SiftUnit) : (s.setUnit u v).booksAt = s.booksAt := rfl
@[simp] theorem State.setUnit_foreAt (u : Nat) (v : SiftUnit) : (s.setUnit u v).foreAt = s.foreAt := rfl
@[simp] theorem State.setUnit_reqs (u : Nat) (v : SiftUnit) : (s.setUnit u v).reqs = s.reqs := rfl
@[simp] theorem State.setUnit_nextId (u : Nat) (v : SiftUnit) : (s.setUnit u v).nextId = s.nextId := rfl
@[simp] theorem State.setUnit_offers (u : Nat) (v : SiftUnit) : (s.setUnit u v).offers = s.offers := rfl
@[simp] theorem State.setUnit_updates (u : Nat) (v : SiftUnit) : (s.setUnit u v).updates = s.updates := rfl
@[simp] theorem State.setUnit_bars (u : Nat) (v : SiftUnit) : (s.setUnit u v).bars = s.bars := rfl
@[simp] theorem State.setUnit_sifts (u : Nat) (v : SiftUnit) : (s.setUnit u v).sifts = s.sifts := rfl
@[simp] theorem State.setUnit_walks (u : Nat) (v : SiftUnit) : (s.setUnit u v).walks = s.walks := rfl
@[simp] theorem State.setUnit_walkers (u : Nat) (v : SiftUnit) : (s.setUnit u v).walkers = s.walkers := rfl
@[simp] theorem State.setUnit_hubTlb (u : Nat) (v : SiftUnit) : (s.setUnit u v).hubTlb = s.hubTlb := rfl
@[simp] theorem State.setUnit_cpyTlb (u : Nat) (v : SiftUnit) : (s.setUnit u v).cpyTlb = s.cpyTlb := rfl
@[simp] theorem State.setUnit_chans (u : Nat) (v : SiftUnit) : (s.setUnit u v).chans = s.chans := rfl
@[simp] theorem State.setUnit_ctxs (u : Nat) (v : SiftUnit) : (s.setUnit u v).ctxs = s.ctxs := rfl
@[simp] theorem State.setUnit_folios (u : Nat) (v : SiftUnit) : (s.setUnit u v).folios = s.folios := rfl
@[simp] theorem State.setUnit_coreSl (u : Nat) (v : SiftUnit) : (s.setUnit u v).coreSl = s.coreSl := rfl
@[simp] theorem State.setUnit_memSl (u : Nat) (v : SiftUnit) : (s.setUnit u v).memSl = s.memSl := rfl
@[simp] theorem State.setUnit_linkSl (u : Nat) (v : SiftUnit) : (s.setUnit u v).linkSl = s.linkSl := rfl
@[simp] theorem State.setUnit_prots (u : Nat) (v : SiftUnit) : (s.setUnit u v).prots = s.prots := rfl
@[simp] theorem State.setUnit_links (u : Nat) (v : SiftUnit) : (s.setUnit u v).links = s.links := rfl
@[simp] theorem State.setUnit_queues (u : Nat) (v : SiftUnit) : (s.setUnit u v).queues = s.queues := rfl
@[simp] theorem State.setUnit_evrings (u : Nat) (v : SiftUnit) : (s.setUnit u v).evrings = s.evrings := rfl
@[simp] theorem State.setUnit_refSubs (u : Nat) (v : SiftUnit) : (s.setUnit u v).refSubs = s.refSubs := rfl
@[simp] theorem State.setUnit_lastRefs (u : Nat) (v : SiftUnit) : (s.setUnit u v).lastRefs = s.lastRefs := rfl
@[simp] theorem State.setUnit_cyclic (u : Nat) (v : SiftUnit) : (s.setUnit u v).cyclic = s.cyclic := rfl
@[simp] theorem State.setUnit_corrSeq (u : Nat) (v : SiftUnit) : (s.setUnit u v).corrSeq = s.corrSeq := rfl
@[simp] theorem State.setUnit_corrFrom (u : Nat) (v : SiftUnit) : (s.setUnit u v).corrFrom = s.corrFrom := rfl
@[simp] theorem State.setUnit_corrDue (u : Nat) (v : SiftUnit) : (s.setUnit u v).corrDue = s.corrDue := rfl
@[simp] theorem State.setUnit_cfg (u : Nat) (v : SiftUnit) : (s.setUnit u v).cfg = s.cfg := rfl
@[simp] theorem State.setUnit_power (u : Nat) (v : SiftUnit) : (s.setUnit u v).power = s.power := rfl
@[simp] theorem State.setUnit_net (u : Nat) (v : SiftUnit) : (s.setUnit u v).net = s.net := rfl
@[simp] theorem State.setUnit_rounds (u : Nat) (v : SiftUnit) : (s.setUnit u v).rounds = s.rounds := rfl
@[simp] theorem State.setUnit_urgency (u : Nat) (v : SiftUnit) : (s.setUnit u v).urgency = s.urgency := rfl
@[simp] theorem State.setUnit_urgSince (u : Nat) (v : SiftUnit) : (s.setUnit u v).urgSince = s.urgSince := rfl
@[simp] theorem State.setUnit_urgNoted (u : Nat) (v : SiftUnit) : (s.setUnit u v).urgNoted = s.urgNoted := rfl
@[simp] theorem State.setUnit_clasp (u : Nat) (v : SiftUnit) : (s.setUnit u v).clasp = s.clasp := rfl
@[simp] theorem State.setUnit_link (u : Nat) (v : SiftUnit) : (s.setUnit u v).link = s.link := rfl
@[simp] theorem State.setUnit_fuses (u : Nat) (v : SiftUnit) : (s.setUnit u v).fuses = s.fuses := rfl
@[simp] theorem State.setUnit_capState (u : Nat) (v : SiftUnit) : (s.setUnit u v).capState = s.capState := rfl
@[simp] theorem State.setUnit_capGen (u : Nat) (v : SiftUnit) : (s.setUnit u v).capGen = s.capGen := rfl
@[simp] theorem State.setUnit_fore (u : Nat) (v : SiftUnit) : (s.setUnit u v).fore = s.fore := rfl
@[simp] theorem State.setUnit_standby (u : Nat) (v : SiftUnit) : (s.setUnit u v).standby = s.standby := rfl
@[simp] theorem State.setUnit_peerLost (u : Nat) (v : SiftUnit) : (s.setUnit u v).peerLost = s.peerLost := rfl
@[simp] theorem State.setUnit_kept (u : Nat) (v : SiftUnit) : (s.setUnit u v).kept = s.kept := rfl
@[simp] theorem State.setUnit_darkNoted (u : Nat) (v : SiftUnit) : (s.setUnit u v).darkNoted = s.darkNoted := rfl
@[simp] theorem State.setUnit_out (u : Nat) (v : SiftUnit) : (s.setUnit u v).out = s.out := rfl

/-! ### setWalker -/
@[simp] theorem State.setWalker_pending (d : Nat) (v : Walker) : (s.setWalker d v).pending = s.pending := rfl
@[simp] theorem State.setWalker_free (d : Nat) (v : Walker) : (s.setWalker d v).free = s.free := rfl
@[simp] theorem State.setWalker_hubCount (d : Nat) (v : Walker) : (s.setWalker d v).hubCount = s.hubCount := rfl
@[simp] theorem State.setWalker_regs (d : Nat) (v : Walker) : (s.setWalker d v).regs = s.regs := rfl
@[simp] theorem State.setWalker_hbm (d : Nat) (v : Walker) : (s.setWalker d v).hbm = s.hbm := rfl
@[simp] theorem State.setWalker_host (d : Nat) (v : Walker) : (s.setWalker d v).host = s.host := rfl
@[simp] theorem State.setWalker_poison (d : Nat) (v : Walker) : (s.setWalker d v).poison = s.poison := rfl
@[simp] theorem State.setWalker_tags (d : Nat) (v : Walker) : (s.setWalker d v).tags = s.tags := rfl
@[simp] theorem State.setWalker_frames (d : Nat) (v : Walker) : (s.setWalker d v).frames = s.frames := rfl
@[simp] theorem State.setWalker_regions (d : Nat) (v : Walker) : (s.setWalker d v).regions = s.regions := rfl
@[simp] theorem State.setWalker_fabrics (d : Nat) (v : Walker) : (s.setWalker d v).fabrics = s.fabrics := rfl
@[simp] theorem State.setWalker_spine (d : Nat) (v : Walker) : (s.setWalker d v).spine = s.spine := rfl
@[simp] theorem State.setWalker_spineFailed (d : Nat) (v : Walker) : (s.setWalker d v).spineFailed = s.spineFailed := rfl
@[simp] theorem State.setWalker_cores (d : Nat) (v : Walker) : (s.setWalker d v).cores = s.cores := rfl
@[simp] theorem State.setWalker_caches (d : Nat) (v : Walker) : (s.setWalker d v).caches = s.caches := rfl
@[simp] theorem State.setWalker_homes (d : Nat) (v : Walker) : (s.setWalker d v).homes = s.homes := rfl
@[simp] theorem State.setWalker_hostHome (d : Nat) (v : Walker) : (s.setWalker d v).hostHome = s.hostHome := rfl
@[simp] theorem State.setWalker_hostLines (d : Nat) (v : Walker) : (s.setWalker d v).hostLines = s.hostLines := rfl
@[simp] theorem State.setWalker_hubWatch (d : Nat) (v : Walker) : (s.setWalker d v).hubWatch = s.hubWatch := rfl
@[simp] theorem State.setWalker_booksAt (d : Nat) (v : Walker) : (s.setWalker d v).booksAt = s.booksAt := rfl
@[simp] theorem State.setWalker_foreAt (d : Nat) (v : Walker) : (s.setWalker d v).foreAt = s.foreAt := rfl
@[simp] theorem State.setWalker_reqs (d : Nat) (v : Walker) : (s.setWalker d v).reqs = s.reqs := rfl
@[simp] theorem State.setWalker_nextId (d : Nat) (v : Walker) : (s.setWalker d v).nextId = s.nextId := rfl
@[simp] theorem State.setWalker_offers (d : Nat) (v : Walker) : (s.setWalker d v).offers = s.offers := rfl
@[simp] theorem State.setWalker_updates (d : Nat) (v : Walker) : (s.setWalker d v).updates = s.updates := rfl
@[simp] theorem State.setWalker_bars (d : Nat) (v : Walker) : (s.setWalker d v).bars = s.bars := rfl
@[simp] theorem State.setWalker_sifts (d : Nat) (v : Walker) : (s.setWalker d v).sifts = s.sifts := rfl
@[simp] theorem State.setWalker_units (d : Nat) (v : Walker) : (s.setWalker d v).units = s.units := rfl
@[simp] theorem State.setWalker_walks (d : Nat) (v : Walker) : (s.setWalker d v).walks = s.walks := rfl
@[simp] theorem State.setWalker_hubTlb (d : Nat) (v : Walker) : (s.setWalker d v).hubTlb = s.hubTlb := rfl
@[simp] theorem State.setWalker_cpyTlb (d : Nat) (v : Walker) : (s.setWalker d v).cpyTlb = s.cpyTlb := rfl
@[simp] theorem State.setWalker_chans (d : Nat) (v : Walker) : (s.setWalker d v).chans = s.chans := rfl
@[simp] theorem State.setWalker_ctxs (d : Nat) (v : Walker) : (s.setWalker d v).ctxs = s.ctxs := rfl
@[simp] theorem State.setWalker_folios (d : Nat) (v : Walker) : (s.setWalker d v).folios = s.folios := rfl
@[simp] theorem State.setWalker_coreSl (d : Nat) (v : Walker) : (s.setWalker d v).coreSl = s.coreSl := rfl
@[simp] theorem State.setWalker_memSl (d : Nat) (v : Walker) : (s.setWalker d v).memSl = s.memSl := rfl
@[simp] theorem State.setWalker_linkSl (d : Nat) (v : Walker) : (s.setWalker d v).linkSl = s.linkSl := rfl
@[simp] theorem State.setWalker_prots (d : Nat) (v : Walker) : (s.setWalker d v).prots = s.prots := rfl
@[simp] theorem State.setWalker_links (d : Nat) (v : Walker) : (s.setWalker d v).links = s.links := rfl
@[simp] theorem State.setWalker_queues (d : Nat) (v : Walker) : (s.setWalker d v).queues = s.queues := rfl
@[simp] theorem State.setWalker_evrings (d : Nat) (v : Walker) : (s.setWalker d v).evrings = s.evrings := rfl
@[simp] theorem State.setWalker_refSubs (d : Nat) (v : Walker) : (s.setWalker d v).refSubs = s.refSubs := rfl
@[simp] theorem State.setWalker_lastRefs (d : Nat) (v : Walker) : (s.setWalker d v).lastRefs = s.lastRefs := rfl
@[simp] theorem State.setWalker_cyclic (d : Nat) (v : Walker) : (s.setWalker d v).cyclic = s.cyclic := rfl
@[simp] theorem State.setWalker_corrSeq (d : Nat) (v : Walker) : (s.setWalker d v).corrSeq = s.corrSeq := rfl
@[simp] theorem State.setWalker_corrFrom (d : Nat) (v : Walker) : (s.setWalker d v).corrFrom = s.corrFrom := rfl
@[simp] theorem State.setWalker_corrDue (d : Nat) (v : Walker) : (s.setWalker d v).corrDue = s.corrDue := rfl
@[simp] theorem State.setWalker_cfg (d : Nat) (v : Walker) : (s.setWalker d v).cfg = s.cfg := rfl
@[simp] theorem State.setWalker_power (d : Nat) (v : Walker) : (s.setWalker d v).power = s.power := rfl
@[simp] theorem State.setWalker_net (d : Nat) (v : Walker) : (s.setWalker d v).net = s.net := rfl
@[simp] theorem State.setWalker_rounds (d : Nat) (v : Walker) : (s.setWalker d v).rounds = s.rounds := rfl
@[simp] theorem State.setWalker_urgency (d : Nat) (v : Walker) : (s.setWalker d v).urgency = s.urgency := rfl
@[simp] theorem State.setWalker_urgSince (d : Nat) (v : Walker) : (s.setWalker d v).urgSince = s.urgSince := rfl
@[simp] theorem State.setWalker_urgNoted (d : Nat) (v : Walker) : (s.setWalker d v).urgNoted = s.urgNoted := rfl
@[simp] theorem State.setWalker_clasp (d : Nat) (v : Walker) : (s.setWalker d v).clasp = s.clasp := rfl
@[simp] theorem State.setWalker_link (d : Nat) (v : Walker) : (s.setWalker d v).link = s.link := rfl
@[simp] theorem State.setWalker_fuses (d : Nat) (v : Walker) : (s.setWalker d v).fuses = s.fuses := rfl
@[simp] theorem State.setWalker_capState (d : Nat) (v : Walker) : (s.setWalker d v).capState = s.capState := rfl
@[simp] theorem State.setWalker_capGen (d : Nat) (v : Walker) : (s.setWalker d v).capGen = s.capGen := rfl
@[simp] theorem State.setWalker_fore (d : Nat) (v : Walker) : (s.setWalker d v).fore = s.fore := rfl
@[simp] theorem State.setWalker_standby (d : Nat) (v : Walker) : (s.setWalker d v).standby = s.standby := rfl
@[simp] theorem State.setWalker_peerLost (d : Nat) (v : Walker) : (s.setWalker d v).peerLost = s.peerLost := rfl
@[simp] theorem State.setWalker_kept (d : Nat) (v : Walker) : (s.setWalker d v).kept = s.kept := rfl
@[simp] theorem State.setWalker_darkNoted (d : Nat) (v : Walker) : (s.setWalker d v).darkNoted = s.darkNoted := rfl
@[simp] theorem State.setWalker_out (d : Nat) (v : Walker) : (s.setWalker d v).out = s.out := rfl

/-! ### setReq -/
@[simp] theorem State.setReq_pending (r : Nat) (v : Req) : (s.setReq r v).pending = s.pending := rfl
@[simp] theorem State.setReq_free (r : Nat) (v : Req) : (s.setReq r v).free = s.free := rfl
@[simp] theorem State.setReq_hubCount (r : Nat) (v : Req) : (s.setReq r v).hubCount = s.hubCount := rfl
@[simp] theorem State.setReq_regs (r : Nat) (v : Req) : (s.setReq r v).regs = s.regs := rfl
@[simp] theorem State.setReq_hbm (r : Nat) (v : Req) : (s.setReq r v).hbm = s.hbm := rfl
@[simp] theorem State.setReq_host (r : Nat) (v : Req) : (s.setReq r v).host = s.host := rfl
@[simp] theorem State.setReq_poison (r : Nat) (v : Req) : (s.setReq r v).poison = s.poison := rfl
@[simp] theorem State.setReq_tags (r : Nat) (v : Req) : (s.setReq r v).tags = s.tags := rfl
@[simp] theorem State.setReq_frames (r : Nat) (v : Req) : (s.setReq r v).frames = s.frames := rfl
@[simp] theorem State.setReq_regions (r : Nat) (v : Req) : (s.setReq r v).regions = s.regions := rfl
@[simp] theorem State.setReq_fabrics (r : Nat) (v : Req) : (s.setReq r v).fabrics = s.fabrics := rfl
@[simp] theorem State.setReq_spine (r : Nat) (v : Req) : (s.setReq r v).spine = s.spine := rfl
@[simp] theorem State.setReq_spineFailed (r : Nat) (v : Req) : (s.setReq r v).spineFailed = s.spineFailed := rfl
@[simp] theorem State.setReq_cores (r : Nat) (v : Req) : (s.setReq r v).cores = s.cores := rfl
@[simp] theorem State.setReq_caches (r : Nat) (v : Req) : (s.setReq r v).caches = s.caches := rfl
@[simp] theorem State.setReq_homes (r : Nat) (v : Req) : (s.setReq r v).homes = s.homes := rfl
@[simp] theorem State.setReq_hostHome (r : Nat) (v : Req) : (s.setReq r v).hostHome = s.hostHome := rfl
@[simp] theorem State.setReq_hostLines (r : Nat) (v : Req) : (s.setReq r v).hostLines = s.hostLines := rfl
@[simp] theorem State.setReq_hubWatch (r : Nat) (v : Req) : (s.setReq r v).hubWatch = s.hubWatch := rfl
@[simp] theorem State.setReq_booksAt (r : Nat) (v : Req) : (s.setReq r v).booksAt = s.booksAt := rfl
@[simp] theorem State.setReq_foreAt (r : Nat) (v : Req) : (s.setReq r v).foreAt = s.foreAt := rfl
@[simp] theorem State.setReq_nextId (r : Nat) (v : Req) : (s.setReq r v).nextId = s.nextId := rfl
@[simp] theorem State.setReq_offers (r : Nat) (v : Req) : (s.setReq r v).offers = s.offers := rfl
@[simp] theorem State.setReq_updates (r : Nat) (v : Req) : (s.setReq r v).updates = s.updates := rfl
@[simp] theorem State.setReq_bars (r : Nat) (v : Req) : (s.setReq r v).bars = s.bars := rfl
@[simp] theorem State.setReq_sifts (r : Nat) (v : Req) : (s.setReq r v).sifts = s.sifts := rfl
@[simp] theorem State.setReq_units (r : Nat) (v : Req) : (s.setReq r v).units = s.units := rfl
@[simp] theorem State.setReq_walks (r : Nat) (v : Req) : (s.setReq r v).walks = s.walks := rfl
@[simp] theorem State.setReq_walkers (r : Nat) (v : Req) : (s.setReq r v).walkers = s.walkers := rfl
@[simp] theorem State.setReq_hubTlb (r : Nat) (v : Req) : (s.setReq r v).hubTlb = s.hubTlb := rfl
@[simp] theorem State.setReq_cpyTlb (r : Nat) (v : Req) : (s.setReq r v).cpyTlb = s.cpyTlb := rfl
@[simp] theorem State.setReq_chans (r : Nat) (v : Req) : (s.setReq r v).chans = s.chans := rfl
@[simp] theorem State.setReq_ctxs (r : Nat) (v : Req) : (s.setReq r v).ctxs = s.ctxs := rfl
@[simp] theorem State.setReq_folios (r : Nat) (v : Req) : (s.setReq r v).folios = s.folios := rfl
@[simp] theorem State.setReq_coreSl (r : Nat) (v : Req) : (s.setReq r v).coreSl = s.coreSl := rfl
@[simp] theorem State.setReq_memSl (r : Nat) (v : Req) : (s.setReq r v).memSl = s.memSl := rfl
@[simp] theorem State.setReq_linkSl (r : Nat) (v : Req) : (s.setReq r v).linkSl = s.linkSl := rfl
@[simp] theorem State.setReq_prots (r : Nat) (v : Req) : (s.setReq r v).prots = s.prots := rfl
@[simp] theorem State.setReq_links (r : Nat) (v : Req) : (s.setReq r v).links = s.links := rfl
@[simp] theorem State.setReq_queues (r : Nat) (v : Req) : (s.setReq r v).queues = s.queues := rfl
@[simp] theorem State.setReq_evrings (r : Nat) (v : Req) : (s.setReq r v).evrings = s.evrings := rfl
@[simp] theorem State.setReq_refSubs (r : Nat) (v : Req) : (s.setReq r v).refSubs = s.refSubs := rfl
@[simp] theorem State.setReq_lastRefs (r : Nat) (v : Req) : (s.setReq r v).lastRefs = s.lastRefs := rfl
@[simp] theorem State.setReq_cyclic (r : Nat) (v : Req) : (s.setReq r v).cyclic = s.cyclic := rfl
@[simp] theorem State.setReq_corrSeq (r : Nat) (v : Req) : (s.setReq r v).corrSeq = s.corrSeq := rfl
@[simp] theorem State.setReq_corrFrom (r : Nat) (v : Req) : (s.setReq r v).corrFrom = s.corrFrom := rfl
@[simp] theorem State.setReq_corrDue (r : Nat) (v : Req) : (s.setReq r v).corrDue = s.corrDue := rfl
@[simp] theorem State.setReq_cfg (r : Nat) (v : Req) : (s.setReq r v).cfg = s.cfg := rfl
@[simp] theorem State.setReq_power (r : Nat) (v : Req) : (s.setReq r v).power = s.power := rfl
@[simp] theorem State.setReq_net (r : Nat) (v : Req) : (s.setReq r v).net = s.net := rfl
@[simp] theorem State.setReq_rounds (r : Nat) (v : Req) : (s.setReq r v).rounds = s.rounds := rfl
@[simp] theorem State.setReq_urgency (r : Nat) (v : Req) : (s.setReq r v).urgency = s.urgency := rfl
@[simp] theorem State.setReq_urgSince (r : Nat) (v : Req) : (s.setReq r v).urgSince = s.urgSince := rfl
@[simp] theorem State.setReq_urgNoted (r : Nat) (v : Req) : (s.setReq r v).urgNoted = s.urgNoted := rfl
@[simp] theorem State.setReq_clasp (r : Nat) (v : Req) : (s.setReq r v).clasp = s.clasp := rfl
@[simp] theorem State.setReq_link (r : Nat) (v : Req) : (s.setReq r v).link = s.link := rfl
@[simp] theorem State.setReq_fuses (r : Nat) (v : Req) : (s.setReq r v).fuses = s.fuses := rfl
@[simp] theorem State.setReq_capState (r : Nat) (v : Req) : (s.setReq r v).capState = s.capState := rfl
@[simp] theorem State.setReq_capGen (r : Nat) (v : Req) : (s.setReq r v).capGen = s.capGen := rfl
@[simp] theorem State.setReq_fore (r : Nat) (v : Req) : (s.setReq r v).fore = s.fore := rfl
@[simp] theorem State.setReq_standby (r : Nat) (v : Req) : (s.setReq r v).standby = s.standby := rfl
@[simp] theorem State.setReq_peerLost (r : Nat) (v : Req) : (s.setReq r v).peerLost = s.peerLost := rfl
@[simp] theorem State.setReq_kept (r : Nat) (v : Req) : (s.setReq r v).kept = s.kept := rfl
@[simp] theorem State.setReq_darkNoted (r : Nat) (v : Req) : (s.setReq r v).darkNoted = s.darkNoted := rfl
@[simp] theorem State.setReq_out (r : Nat) (v : Req) : (s.setReq r v).out = s.out := rfl

/-! ### dropReq -/
@[simp] theorem State.dropReq_pending (r : Nat) : (s.dropReq r).pending = s.pending := rfl
@[simp] theorem State.dropReq_free (r : Nat) : (s.dropReq r).free = s.free := rfl
@[simp] theorem State.dropReq_hubCount (r : Nat) : (s.dropReq r).hubCount = s.hubCount := rfl
@[simp] theorem State.dropReq_regs (r : Nat) : (s.dropReq r).regs = s.regs := rfl
@[simp] theorem State.dropReq_hbm (r : Nat) : (s.dropReq r).hbm = s.hbm := rfl
@[simp] theorem State.dropReq_host (r : Nat) : (s.dropReq r).host = s.host := rfl
@[simp] theorem State.dropReq_poison (r : Nat) : (s.dropReq r).poison = s.poison := rfl
@[simp] theorem State.dropReq_tags (r : Nat) : (s.dropReq r).tags = s.tags := rfl
@[simp] theorem State.dropReq_frames (r : Nat) : (s.dropReq r).frames = s.frames := rfl
@[simp] theorem State.dropReq_regions (r : Nat) : (s.dropReq r).regions = s.regions := rfl
@[simp] theorem State.dropReq_fabrics (r : Nat) : (s.dropReq r).fabrics = s.fabrics := rfl
@[simp] theorem State.dropReq_spine (r : Nat) : (s.dropReq r).spine = s.spine := rfl
@[simp] theorem State.dropReq_spineFailed (r : Nat) : (s.dropReq r).spineFailed = s.spineFailed := rfl
@[simp] theorem State.dropReq_cores (r : Nat) : (s.dropReq r).cores = s.cores := rfl
@[simp] theorem State.dropReq_caches (r : Nat) : (s.dropReq r).caches = s.caches := rfl
@[simp] theorem State.dropReq_homes (r : Nat) : (s.dropReq r).homes = s.homes := rfl
@[simp] theorem State.dropReq_hostHome (r : Nat) : (s.dropReq r).hostHome = s.hostHome := rfl
@[simp] theorem State.dropReq_hostLines (r : Nat) : (s.dropReq r).hostLines = s.hostLines := rfl
@[simp] theorem State.dropReq_hubWatch (r : Nat) : (s.dropReq r).hubWatch = s.hubWatch := rfl
@[simp] theorem State.dropReq_booksAt (r : Nat) : (s.dropReq r).booksAt = s.booksAt := rfl
@[simp] theorem State.dropReq_foreAt (r : Nat) : (s.dropReq r).foreAt = s.foreAt := rfl
@[simp] theorem State.dropReq_nextId (r : Nat) : (s.dropReq r).nextId = s.nextId := rfl
@[simp] theorem State.dropReq_offers (r : Nat) : (s.dropReq r).offers = s.offers := rfl
@[simp] theorem State.dropReq_updates (r : Nat) : (s.dropReq r).updates = s.updates := rfl
@[simp] theorem State.dropReq_bars (r : Nat) : (s.dropReq r).bars = s.bars := rfl
@[simp] theorem State.dropReq_sifts (r : Nat) : (s.dropReq r).sifts = s.sifts := rfl
@[simp] theorem State.dropReq_units (r : Nat) : (s.dropReq r).units = s.units := rfl
@[simp] theorem State.dropReq_walks (r : Nat) : (s.dropReq r).walks = s.walks := rfl
@[simp] theorem State.dropReq_walkers (r : Nat) : (s.dropReq r).walkers = s.walkers := rfl
@[simp] theorem State.dropReq_hubTlb (r : Nat) : (s.dropReq r).hubTlb = s.hubTlb := rfl
@[simp] theorem State.dropReq_cpyTlb (r : Nat) : (s.dropReq r).cpyTlb = s.cpyTlb := rfl
@[simp] theorem State.dropReq_chans (r : Nat) : (s.dropReq r).chans = s.chans := rfl
@[simp] theorem State.dropReq_ctxs (r : Nat) : (s.dropReq r).ctxs = s.ctxs := rfl
@[simp] theorem State.dropReq_folios (r : Nat) : (s.dropReq r).folios = s.folios := rfl
@[simp] theorem State.dropReq_coreSl (r : Nat) : (s.dropReq r).coreSl = s.coreSl := rfl
@[simp] theorem State.dropReq_memSl (r : Nat) : (s.dropReq r).memSl = s.memSl := rfl
@[simp] theorem State.dropReq_linkSl (r : Nat) : (s.dropReq r).linkSl = s.linkSl := rfl
@[simp] theorem State.dropReq_prots (r : Nat) : (s.dropReq r).prots = s.prots := rfl
@[simp] theorem State.dropReq_links (r : Nat) : (s.dropReq r).links = s.links := rfl
@[simp] theorem State.dropReq_queues (r : Nat) : (s.dropReq r).queues = s.queues := rfl
@[simp] theorem State.dropReq_evrings (r : Nat) : (s.dropReq r).evrings = s.evrings := rfl
@[simp] theorem State.dropReq_refSubs (r : Nat) : (s.dropReq r).refSubs = s.refSubs := rfl
@[simp] theorem State.dropReq_lastRefs (r : Nat) : (s.dropReq r).lastRefs = s.lastRefs := rfl
@[simp] theorem State.dropReq_cyclic (r : Nat) : (s.dropReq r).cyclic = s.cyclic := rfl
@[simp] theorem State.dropReq_corrSeq (r : Nat) : (s.dropReq r).corrSeq = s.corrSeq := rfl
@[simp] theorem State.dropReq_corrFrom (r : Nat) : (s.dropReq r).corrFrom = s.corrFrom := rfl
@[simp] theorem State.dropReq_corrDue (r : Nat) : (s.dropReq r).corrDue = s.corrDue := rfl
@[simp] theorem State.dropReq_cfg (r : Nat) : (s.dropReq r).cfg = s.cfg := rfl
@[simp] theorem State.dropReq_power (r : Nat) : (s.dropReq r).power = s.power := rfl
@[simp] theorem State.dropReq_net (r : Nat) : (s.dropReq r).net = s.net := rfl
@[simp] theorem State.dropReq_rounds (r : Nat) : (s.dropReq r).rounds = s.rounds := rfl
@[simp] theorem State.dropReq_urgency (r : Nat) : (s.dropReq r).urgency = s.urgency := rfl
@[simp] theorem State.dropReq_urgSince (r : Nat) : (s.dropReq r).urgSince = s.urgSince := rfl
@[simp] theorem State.dropReq_urgNoted (r : Nat) : (s.dropReq r).urgNoted = s.urgNoted := rfl
@[simp] theorem State.dropReq_clasp (r : Nat) : (s.dropReq r).clasp = s.clasp := rfl
@[simp] theorem State.dropReq_link (r : Nat) : (s.dropReq r).link = s.link := rfl
@[simp] theorem State.dropReq_fuses (r : Nat) : (s.dropReq r).fuses = s.fuses := rfl
@[simp] theorem State.dropReq_capState (r : Nat) : (s.dropReq r).capState = s.capState := rfl
@[simp] theorem State.dropReq_capGen (r : Nat) : (s.dropReq r).capGen = s.capGen := rfl
@[simp] theorem State.dropReq_fore (r : Nat) : (s.dropReq r).fore = s.fore := rfl
@[simp] theorem State.dropReq_standby (r : Nat) : (s.dropReq r).standby = s.standby := rfl
@[simp] theorem State.dropReq_peerLost (r : Nat) : (s.dropReq r).peerLost = s.peerLost := rfl
@[simp] theorem State.dropReq_kept (r : Nat) : (s.dropReq r).kept = s.kept := rfl
@[simp] theorem State.dropReq_darkNoted (r : Nat) : (s.dropReq r).darkNoted = s.darkNoted := rfl
@[simp] theorem State.dropReq_out (r : Nat) : (s.dropReq r).out = s.out := rfl

/-! ### setCoreSlice -/
@[simp] theorem State.setCoreSlice_pending (n : Nat) (v : SliceE) : (s.setCoreSlice n v).pending = s.pending := rfl
@[simp] theorem State.setCoreSlice_free (n : Nat) (v : SliceE) : (s.setCoreSlice n v).free = s.free := rfl
@[simp] theorem State.setCoreSlice_hubCount (n : Nat) (v : SliceE) : (s.setCoreSlice n v).hubCount = s.hubCount := rfl
@[simp] theorem State.setCoreSlice_regs (n : Nat) (v : SliceE) : (s.setCoreSlice n v).regs = s.regs := rfl
@[simp] theorem State.setCoreSlice_hbm (n : Nat) (v : SliceE) : (s.setCoreSlice n v).hbm = s.hbm := rfl
@[simp] theorem State.setCoreSlice_host (n : Nat) (v : SliceE) : (s.setCoreSlice n v).host = s.host := rfl
@[simp] theorem State.setCoreSlice_poison (n : Nat) (v : SliceE) : (s.setCoreSlice n v).poison = s.poison := rfl
@[simp] theorem State.setCoreSlice_tags (n : Nat) (v : SliceE) : (s.setCoreSlice n v).tags = s.tags := rfl
@[simp] theorem State.setCoreSlice_frames (n : Nat) (v : SliceE) : (s.setCoreSlice n v).frames = s.frames := rfl
@[simp] theorem State.setCoreSlice_regions (n : Nat) (v : SliceE) : (s.setCoreSlice n v).regions = s.regions := rfl
@[simp] theorem State.setCoreSlice_fabrics (n : Nat) (v : SliceE) : (s.setCoreSlice n v).fabrics = s.fabrics := rfl
@[simp] theorem State.setCoreSlice_spine (n : Nat) (v : SliceE) : (s.setCoreSlice n v).spine = s.spine := rfl
@[simp] theorem State.setCoreSlice_spineFailed (n : Nat) (v : SliceE) : (s.setCoreSlice n v).spineFailed = s.spineFailed := rfl
@[simp] theorem State.setCoreSlice_cores (n : Nat) (v : SliceE) : (s.setCoreSlice n v).cores = s.cores := rfl
@[simp] theorem State.setCoreSlice_caches (n : Nat) (v : SliceE) : (s.setCoreSlice n v).caches = s.caches := rfl
@[simp] theorem State.setCoreSlice_homes (n : Nat) (v : SliceE) : (s.setCoreSlice n v).homes = s.homes := rfl
@[simp] theorem State.setCoreSlice_hostHome (n : Nat) (v : SliceE) : (s.setCoreSlice n v).hostHome = s.hostHome := rfl
@[simp] theorem State.setCoreSlice_hostLines (n : Nat) (v : SliceE) : (s.setCoreSlice n v).hostLines = s.hostLines := rfl
@[simp] theorem State.setCoreSlice_hubWatch (n : Nat) (v : SliceE) : (s.setCoreSlice n v).hubWatch = s.hubWatch := rfl
@[simp] theorem State.setCoreSlice_booksAt (n : Nat) (v : SliceE) : (s.setCoreSlice n v).booksAt = s.booksAt := rfl
@[simp] theorem State.setCoreSlice_foreAt (n : Nat) (v : SliceE) : (s.setCoreSlice n v).foreAt = s.foreAt := rfl
@[simp] theorem State.setCoreSlice_reqs (n : Nat) (v : SliceE) : (s.setCoreSlice n v).reqs = s.reqs := rfl
@[simp] theorem State.setCoreSlice_nextId (n : Nat) (v : SliceE) : (s.setCoreSlice n v).nextId = s.nextId := rfl
@[simp] theorem State.setCoreSlice_offers (n : Nat) (v : SliceE) : (s.setCoreSlice n v).offers = s.offers := rfl
@[simp] theorem State.setCoreSlice_updates (n : Nat) (v : SliceE) : (s.setCoreSlice n v).updates = s.updates := rfl
@[simp] theorem State.setCoreSlice_bars (n : Nat) (v : SliceE) : (s.setCoreSlice n v).bars = s.bars := rfl
@[simp] theorem State.setCoreSlice_sifts (n : Nat) (v : SliceE) : (s.setCoreSlice n v).sifts = s.sifts := rfl
@[simp] theorem State.setCoreSlice_units (n : Nat) (v : SliceE) : (s.setCoreSlice n v).units = s.units := rfl
@[simp] theorem State.setCoreSlice_walks (n : Nat) (v : SliceE) : (s.setCoreSlice n v).walks = s.walks := rfl
@[simp] theorem State.setCoreSlice_walkers (n : Nat) (v : SliceE) : (s.setCoreSlice n v).walkers = s.walkers := rfl
@[simp] theorem State.setCoreSlice_hubTlb (n : Nat) (v : SliceE) : (s.setCoreSlice n v).hubTlb = s.hubTlb := rfl
@[simp] theorem State.setCoreSlice_cpyTlb (n : Nat) (v : SliceE) : (s.setCoreSlice n v).cpyTlb = s.cpyTlb := rfl
@[simp] theorem State.setCoreSlice_chans (n : Nat) (v : SliceE) : (s.setCoreSlice n v).chans = s.chans := rfl
@[simp] theorem State.setCoreSlice_ctxs (n : Nat) (v : SliceE) : (s.setCoreSlice n v).ctxs = s.ctxs := rfl
@[simp] theorem State.setCoreSlice_folios (n : Nat) (v : SliceE) : (s.setCoreSlice n v).folios = s.folios := rfl
@[simp] theorem State.setCoreSlice_memSl (n : Nat) (v : SliceE) : (s.setCoreSlice n v).memSl = s.memSl := rfl
@[simp] theorem State.setCoreSlice_linkSl (n : Nat) (v : SliceE) : (s.setCoreSlice n v).linkSl = s.linkSl := rfl
@[simp] theorem State.setCoreSlice_prots (n : Nat) (v : SliceE) : (s.setCoreSlice n v).prots = s.prots := rfl
@[simp] theorem State.setCoreSlice_links (n : Nat) (v : SliceE) : (s.setCoreSlice n v).links = s.links := rfl
@[simp] theorem State.setCoreSlice_queues (n : Nat) (v : SliceE) : (s.setCoreSlice n v).queues = s.queues := rfl
@[simp] theorem State.setCoreSlice_evrings (n : Nat) (v : SliceE) : (s.setCoreSlice n v).evrings = s.evrings := rfl
@[simp] theorem State.setCoreSlice_refSubs (n : Nat) (v : SliceE) : (s.setCoreSlice n v).refSubs = s.refSubs := rfl
@[simp] theorem State.setCoreSlice_lastRefs (n : Nat) (v : SliceE) : (s.setCoreSlice n v).lastRefs = s.lastRefs := rfl
@[simp] theorem State.setCoreSlice_cyclic (n : Nat) (v : SliceE) : (s.setCoreSlice n v).cyclic = s.cyclic := rfl
@[simp] theorem State.setCoreSlice_corrSeq (n : Nat) (v : SliceE) : (s.setCoreSlice n v).corrSeq = s.corrSeq := rfl
@[simp] theorem State.setCoreSlice_corrFrom (n : Nat) (v : SliceE) : (s.setCoreSlice n v).corrFrom = s.corrFrom := rfl
@[simp] theorem State.setCoreSlice_corrDue (n : Nat) (v : SliceE) : (s.setCoreSlice n v).corrDue = s.corrDue := rfl
@[simp] theorem State.setCoreSlice_cfg (n : Nat) (v : SliceE) : (s.setCoreSlice n v).cfg = s.cfg := rfl
@[simp] theorem State.setCoreSlice_power (n : Nat) (v : SliceE) : (s.setCoreSlice n v).power = s.power := rfl
@[simp] theorem State.setCoreSlice_net (n : Nat) (v : SliceE) : (s.setCoreSlice n v).net = s.net := rfl
@[simp] theorem State.setCoreSlice_rounds (n : Nat) (v : SliceE) : (s.setCoreSlice n v).rounds = s.rounds := rfl
@[simp] theorem State.setCoreSlice_urgency (n : Nat) (v : SliceE) : (s.setCoreSlice n v).urgency = s.urgency := rfl
@[simp] theorem State.setCoreSlice_urgSince (n : Nat) (v : SliceE) : (s.setCoreSlice n v).urgSince = s.urgSince := rfl
@[simp] theorem State.setCoreSlice_urgNoted (n : Nat) (v : SliceE) : (s.setCoreSlice n v).urgNoted = s.urgNoted := rfl
@[simp] theorem State.setCoreSlice_clasp (n : Nat) (v : SliceE) : (s.setCoreSlice n v).clasp = s.clasp := rfl
@[simp] theorem State.setCoreSlice_link (n : Nat) (v : SliceE) : (s.setCoreSlice n v).link = s.link := rfl
@[simp] theorem State.setCoreSlice_fuses (n : Nat) (v : SliceE) : (s.setCoreSlice n v).fuses = s.fuses := rfl
@[simp] theorem State.setCoreSlice_capState (n : Nat) (v : SliceE) : (s.setCoreSlice n v).capState = s.capState := rfl
@[simp] theorem State.setCoreSlice_capGen (n : Nat) (v : SliceE) : (s.setCoreSlice n v).capGen = s.capGen := rfl
@[simp] theorem State.setCoreSlice_fore (n : Nat) (v : SliceE) : (s.setCoreSlice n v).fore = s.fore := rfl
@[simp] theorem State.setCoreSlice_standby (n : Nat) (v : SliceE) : (s.setCoreSlice n v).standby = s.standby := rfl
@[simp] theorem State.setCoreSlice_peerLost (n : Nat) (v : SliceE) : (s.setCoreSlice n v).peerLost = s.peerLost := rfl
@[simp] theorem State.setCoreSlice_kept (n : Nat) (v : SliceE) : (s.setCoreSlice n v).kept = s.kept := rfl
@[simp] theorem State.setCoreSlice_darkNoted (n : Nat) (v : SliceE) : (s.setCoreSlice n v).darkNoted = s.darkNoted := rfl
@[simp] theorem State.setCoreSlice_out (n : Nat) (v : SliceE) : (s.setCoreSlice n v).out = s.out := rfl

/-! ### setMemSlice -/
@[simp] theorem State.setMemSlice_pending (n : Nat) (v : SliceE) : (s.setMemSlice n v).pending = s.pending := rfl
@[simp] theorem State.setMemSlice_free (n : Nat) (v : SliceE) : (s.setMemSlice n v).free = s.free := rfl
@[simp] theorem State.setMemSlice_hubCount (n : Nat) (v : SliceE) : (s.setMemSlice n v).hubCount = s.hubCount := rfl
@[simp] theorem State.setMemSlice_regs (n : Nat) (v : SliceE) : (s.setMemSlice n v).regs = s.regs := rfl
@[simp] theorem State.setMemSlice_hbm (n : Nat) (v : SliceE) : (s.setMemSlice n v).hbm = s.hbm := rfl
@[simp] theorem State.setMemSlice_host (n : Nat) (v : SliceE) : (s.setMemSlice n v).host = s.host := rfl
@[simp] theorem State.setMemSlice_poison (n : Nat) (v : SliceE) : (s.setMemSlice n v).poison = s.poison := rfl
@[simp] theorem State.setMemSlice_tags (n : Nat) (v : SliceE) : (s.setMemSlice n v).tags = s.tags := rfl
@[simp] theorem State.setMemSlice_frames (n : Nat) (v : SliceE) : (s.setMemSlice n v).frames = s.frames := rfl
@[simp] theorem State.setMemSlice_regions (n : Nat) (v : SliceE) : (s.setMemSlice n v).regions = s.regions := rfl
@[simp] theorem State.setMemSlice_fabrics (n : Nat) (v : SliceE) : (s.setMemSlice n v).fabrics = s.fabrics := rfl
@[simp] theorem State.setMemSlice_spine (n : Nat) (v : SliceE) : (s.setMemSlice n v).spine = s.spine := rfl
@[simp] theorem State.setMemSlice_spineFailed (n : Nat) (v : SliceE) : (s.setMemSlice n v).spineFailed = s.spineFailed := rfl
@[simp] theorem State.setMemSlice_cores (n : Nat) (v : SliceE) : (s.setMemSlice n v).cores = s.cores := rfl
@[simp] theorem State.setMemSlice_caches (n : Nat) (v : SliceE) : (s.setMemSlice n v).caches = s.caches := rfl
@[simp] theorem State.setMemSlice_homes (n : Nat) (v : SliceE) : (s.setMemSlice n v).homes = s.homes := rfl
@[simp] theorem State.setMemSlice_hostHome (n : Nat) (v : SliceE) : (s.setMemSlice n v).hostHome = s.hostHome := rfl
@[simp] theorem State.setMemSlice_hostLines (n : Nat) (v : SliceE) : (s.setMemSlice n v).hostLines = s.hostLines := rfl
@[simp] theorem State.setMemSlice_hubWatch (n : Nat) (v : SliceE) : (s.setMemSlice n v).hubWatch = s.hubWatch := rfl
@[simp] theorem State.setMemSlice_booksAt (n : Nat) (v : SliceE) : (s.setMemSlice n v).booksAt = s.booksAt := rfl
@[simp] theorem State.setMemSlice_foreAt (n : Nat) (v : SliceE) : (s.setMemSlice n v).foreAt = s.foreAt := rfl
@[simp] theorem State.setMemSlice_reqs (n : Nat) (v : SliceE) : (s.setMemSlice n v).reqs = s.reqs := rfl
@[simp] theorem State.setMemSlice_nextId (n : Nat) (v : SliceE) : (s.setMemSlice n v).nextId = s.nextId := rfl
@[simp] theorem State.setMemSlice_offers (n : Nat) (v : SliceE) : (s.setMemSlice n v).offers = s.offers := rfl
@[simp] theorem State.setMemSlice_updates (n : Nat) (v : SliceE) : (s.setMemSlice n v).updates = s.updates := rfl
@[simp] theorem State.setMemSlice_bars (n : Nat) (v : SliceE) : (s.setMemSlice n v).bars = s.bars := rfl
@[simp] theorem State.setMemSlice_sifts (n : Nat) (v : SliceE) : (s.setMemSlice n v).sifts = s.sifts := rfl
@[simp] theorem State.setMemSlice_units (n : Nat) (v : SliceE) : (s.setMemSlice n v).units = s.units := rfl
@[simp] theorem State.setMemSlice_walks (n : Nat) (v : SliceE) : (s.setMemSlice n v).walks = s.walks := rfl
@[simp] theorem State.setMemSlice_walkers (n : Nat) (v : SliceE) : (s.setMemSlice n v).walkers = s.walkers := rfl
@[simp] theorem State.setMemSlice_hubTlb (n : Nat) (v : SliceE) : (s.setMemSlice n v).hubTlb = s.hubTlb := rfl
@[simp] theorem State.setMemSlice_cpyTlb (n : Nat) (v : SliceE) : (s.setMemSlice n v).cpyTlb = s.cpyTlb := rfl
@[simp] theorem State.setMemSlice_chans (n : Nat) (v : SliceE) : (s.setMemSlice n v).chans = s.chans := rfl
@[simp] theorem State.setMemSlice_ctxs (n : Nat) (v : SliceE) : (s.setMemSlice n v).ctxs = s.ctxs := rfl
@[simp] theorem State.setMemSlice_folios (n : Nat) (v : SliceE) : (s.setMemSlice n v).folios = s.folios := rfl
@[simp] theorem State.setMemSlice_coreSl (n : Nat) (v : SliceE) : (s.setMemSlice n v).coreSl = s.coreSl := rfl
@[simp] theorem State.setMemSlice_linkSl (n : Nat) (v : SliceE) : (s.setMemSlice n v).linkSl = s.linkSl := rfl
@[simp] theorem State.setMemSlice_prots (n : Nat) (v : SliceE) : (s.setMemSlice n v).prots = s.prots := rfl
@[simp] theorem State.setMemSlice_links (n : Nat) (v : SliceE) : (s.setMemSlice n v).links = s.links := rfl
@[simp] theorem State.setMemSlice_queues (n : Nat) (v : SliceE) : (s.setMemSlice n v).queues = s.queues := rfl
@[simp] theorem State.setMemSlice_evrings (n : Nat) (v : SliceE) : (s.setMemSlice n v).evrings = s.evrings := rfl
@[simp] theorem State.setMemSlice_refSubs (n : Nat) (v : SliceE) : (s.setMemSlice n v).refSubs = s.refSubs := rfl
@[simp] theorem State.setMemSlice_lastRefs (n : Nat) (v : SliceE) : (s.setMemSlice n v).lastRefs = s.lastRefs := rfl
@[simp] theorem State.setMemSlice_cyclic (n : Nat) (v : SliceE) : (s.setMemSlice n v).cyclic = s.cyclic := rfl
@[simp] theorem State.setMemSlice_corrSeq (n : Nat) (v : SliceE) : (s.setMemSlice n v).corrSeq = s.corrSeq := rfl
@[simp] theorem State.setMemSlice_corrFrom (n : Nat) (v : SliceE) : (s.setMemSlice n v).corrFrom = s.corrFrom := rfl
@[simp] theorem State.setMemSlice_corrDue (n : Nat) (v : SliceE) : (s.setMemSlice n v).corrDue = s.corrDue := rfl
@[simp] theorem State.setMemSlice_cfg (n : Nat) (v : SliceE) : (s.setMemSlice n v).cfg = s.cfg := rfl
@[simp] theorem State.setMemSlice_power (n : Nat) (v : SliceE) : (s.setMemSlice n v).power = s.power := rfl
@[simp] theorem State.setMemSlice_net (n : Nat) (v : SliceE) : (s.setMemSlice n v).net = s.net := rfl
@[simp] theorem State.setMemSlice_rounds (n : Nat) (v : SliceE) : (s.setMemSlice n v).rounds = s.rounds := rfl
@[simp] theorem State.setMemSlice_urgency (n : Nat) (v : SliceE) : (s.setMemSlice n v).urgency = s.urgency := rfl
@[simp] theorem State.setMemSlice_urgSince (n : Nat) (v : SliceE) : (s.setMemSlice n v).urgSince = s.urgSince := rfl
@[simp] theorem State.setMemSlice_urgNoted (n : Nat) (v : SliceE) : (s.setMemSlice n v).urgNoted = s.urgNoted := rfl
@[simp] theorem State.setMemSlice_clasp (n : Nat) (v : SliceE) : (s.setMemSlice n v).clasp = s.clasp := rfl
@[simp] theorem State.setMemSlice_link (n : Nat) (v : SliceE) : (s.setMemSlice n v).link = s.link := rfl
@[simp] theorem State.setMemSlice_fuses (n : Nat) (v : SliceE) : (s.setMemSlice n v).fuses = s.fuses := rfl
@[simp] theorem State.setMemSlice_capState (n : Nat) (v : SliceE) : (s.setMemSlice n v).capState = s.capState := rfl
@[simp] theorem State.setMemSlice_capGen (n : Nat) (v : SliceE) : (s.setMemSlice n v).capGen = s.capGen := rfl
@[simp] theorem State.setMemSlice_fore (n : Nat) (v : SliceE) : (s.setMemSlice n v).fore = s.fore := rfl
@[simp] theorem State.setMemSlice_standby (n : Nat) (v : SliceE) : (s.setMemSlice n v).standby = s.standby := rfl
@[simp] theorem State.setMemSlice_peerLost (n : Nat) (v : SliceE) : (s.setMemSlice n v).peerLost = s.peerLost := rfl
@[simp] theorem State.setMemSlice_kept (n : Nat) (v : SliceE) : (s.setMemSlice n v).kept = s.kept := rfl
@[simp] theorem State.setMemSlice_darkNoted (n : Nat) (v : SliceE) : (s.setMemSlice n v).darkNoted = s.darkNoted := rfl
@[simp] theorem State.setMemSlice_out (n : Nat) (v : SliceE) : (s.setMemSlice n v).out = s.out := rfl

/-! ### setLinkSlice -/
@[simp] theorem State.setLinkSlice_pending (n : Nat) (v : SliceE) : (s.setLinkSlice n v).pending = s.pending := rfl
@[simp] theorem State.setLinkSlice_free (n : Nat) (v : SliceE) : (s.setLinkSlice n v).free = s.free := rfl
@[simp] theorem State.setLinkSlice_hubCount (n : Nat) (v : SliceE) : (s.setLinkSlice n v).hubCount = s.hubCount := rfl
@[simp] theorem State.setLinkSlice_regs (n : Nat) (v : SliceE) : (s.setLinkSlice n v).regs = s.regs := rfl
@[simp] theorem State.setLinkSlice_hbm (n : Nat) (v : SliceE) : (s.setLinkSlice n v).hbm = s.hbm := rfl
@[simp] theorem State.setLinkSlice_host (n : Nat) (v : SliceE) : (s.setLinkSlice n v).host = s.host := rfl
@[simp] theorem State.setLinkSlice_poison (n : Nat) (v : SliceE) : (s.setLinkSlice n v).poison = s.poison := rfl
@[simp] theorem State.setLinkSlice_tags (n : Nat) (v : SliceE) : (s.setLinkSlice n v).tags = s.tags := rfl
@[simp] theorem State.setLinkSlice_frames (n : Nat) (v : SliceE) : (s.setLinkSlice n v).frames = s.frames := rfl
@[simp] theorem State.setLinkSlice_regions (n : Nat) (v : SliceE) : (s.setLinkSlice n v).regions = s.regions := rfl
@[simp] theorem State.setLinkSlice_fabrics (n : Nat) (v : SliceE) : (s.setLinkSlice n v).fabrics = s.fabrics := rfl
@[simp] theorem State.setLinkSlice_spine (n : Nat) (v : SliceE) : (s.setLinkSlice n v).spine = s.spine := rfl
@[simp] theorem State.setLinkSlice_spineFailed (n : Nat) (v : SliceE) : (s.setLinkSlice n v).spineFailed = s.spineFailed := rfl
@[simp] theorem State.setLinkSlice_cores (n : Nat) (v : SliceE) : (s.setLinkSlice n v).cores = s.cores := rfl
@[simp] theorem State.setLinkSlice_caches (n : Nat) (v : SliceE) : (s.setLinkSlice n v).caches = s.caches := rfl
@[simp] theorem State.setLinkSlice_homes (n : Nat) (v : SliceE) : (s.setLinkSlice n v).homes = s.homes := rfl
@[simp] theorem State.setLinkSlice_hostHome (n : Nat) (v : SliceE) : (s.setLinkSlice n v).hostHome = s.hostHome := rfl
@[simp] theorem State.setLinkSlice_hostLines (n : Nat) (v : SliceE) : (s.setLinkSlice n v).hostLines = s.hostLines := rfl
@[simp] theorem State.setLinkSlice_hubWatch (n : Nat) (v : SliceE) : (s.setLinkSlice n v).hubWatch = s.hubWatch := rfl
@[simp] theorem State.setLinkSlice_booksAt (n : Nat) (v : SliceE) : (s.setLinkSlice n v).booksAt = s.booksAt := rfl
@[simp] theorem State.setLinkSlice_foreAt (n : Nat) (v : SliceE) : (s.setLinkSlice n v).foreAt = s.foreAt := rfl
@[simp] theorem State.setLinkSlice_reqs (n : Nat) (v : SliceE) : (s.setLinkSlice n v).reqs = s.reqs := rfl
@[simp] theorem State.setLinkSlice_nextId (n : Nat) (v : SliceE) : (s.setLinkSlice n v).nextId = s.nextId := rfl
@[simp] theorem State.setLinkSlice_offers (n : Nat) (v : SliceE) : (s.setLinkSlice n v).offers = s.offers := rfl
@[simp] theorem State.setLinkSlice_updates (n : Nat) (v : SliceE) : (s.setLinkSlice n v).updates = s.updates := rfl
@[simp] theorem State.setLinkSlice_bars (n : Nat) (v : SliceE) : (s.setLinkSlice n v).bars = s.bars := rfl
@[simp] theorem State.setLinkSlice_sifts (n : Nat) (v : SliceE) : (s.setLinkSlice n v).sifts = s.sifts := rfl
@[simp] theorem State.setLinkSlice_units (n : Nat) (v : SliceE) : (s.setLinkSlice n v).units = s.units := rfl
@[simp] theorem State.setLinkSlice_walks (n : Nat) (v : SliceE) : (s.setLinkSlice n v).walks = s.walks := rfl
@[simp] theorem State.setLinkSlice_walkers (n : Nat) (v : SliceE) : (s.setLinkSlice n v).walkers = s.walkers := rfl
@[simp] theorem State.setLinkSlice_hubTlb (n : Nat) (v : SliceE) : (s.setLinkSlice n v).hubTlb = s.hubTlb := rfl
@[simp] theorem State.setLinkSlice_cpyTlb (n : Nat) (v : SliceE) : (s.setLinkSlice n v).cpyTlb = s.cpyTlb := rfl
@[simp] theorem State.setLinkSlice_chans (n : Nat) (v : SliceE) : (s.setLinkSlice n v).chans = s.chans := rfl
@[simp] theorem State.setLinkSlice_ctxs (n : Nat) (v : SliceE) : (s.setLinkSlice n v).ctxs = s.ctxs := rfl
@[simp] theorem State.setLinkSlice_folios (n : Nat) (v : SliceE) : (s.setLinkSlice n v).folios = s.folios := rfl
@[simp] theorem State.setLinkSlice_coreSl (n : Nat) (v : SliceE) : (s.setLinkSlice n v).coreSl = s.coreSl := rfl
@[simp] theorem State.setLinkSlice_memSl (n : Nat) (v : SliceE) : (s.setLinkSlice n v).memSl = s.memSl := rfl
@[simp] theorem State.setLinkSlice_prots (n : Nat) (v : SliceE) : (s.setLinkSlice n v).prots = s.prots := rfl
@[simp] theorem State.setLinkSlice_links (n : Nat) (v : SliceE) : (s.setLinkSlice n v).links = s.links := rfl
@[simp] theorem State.setLinkSlice_queues (n : Nat) (v : SliceE) : (s.setLinkSlice n v).queues = s.queues := rfl
@[simp] theorem State.setLinkSlice_evrings (n : Nat) (v : SliceE) : (s.setLinkSlice n v).evrings = s.evrings := rfl
@[simp] theorem State.setLinkSlice_refSubs (n : Nat) (v : SliceE) : (s.setLinkSlice n v).refSubs = s.refSubs := rfl
@[simp] theorem State.setLinkSlice_lastRefs (n : Nat) (v : SliceE) : (s.setLinkSlice n v).lastRefs = s.lastRefs := rfl
@[simp] theorem State.setLinkSlice_cyclic (n : Nat) (v : SliceE) : (s.setLinkSlice n v).cyclic = s.cyclic := rfl
@[simp] theorem State.setLinkSlice_corrSeq (n : Nat) (v : SliceE) : (s.setLinkSlice n v).corrSeq = s.corrSeq := rfl
@[simp] theorem State.setLinkSlice_corrFrom (n : Nat) (v : SliceE) : (s.setLinkSlice n v).corrFrom = s.corrFrom := rfl
@[simp] theorem State.setLinkSlice_corrDue (n : Nat) (v : SliceE) : (s.setLinkSlice n v).corrDue = s.corrDue := rfl
@[simp] theorem State.setLinkSlice_cfg (n : Nat) (v : SliceE) : (s.setLinkSlice n v).cfg = s.cfg := rfl
@[simp] theorem State.setLinkSlice_power (n : Nat) (v : SliceE) : (s.setLinkSlice n v).power = s.power := rfl
@[simp] theorem State.setLinkSlice_net (n : Nat) (v : SliceE) : (s.setLinkSlice n v).net = s.net := rfl
@[simp] theorem State.setLinkSlice_rounds (n : Nat) (v : SliceE) : (s.setLinkSlice n v).rounds = s.rounds := rfl
@[simp] theorem State.setLinkSlice_urgency (n : Nat) (v : SliceE) : (s.setLinkSlice n v).urgency = s.urgency := rfl
@[simp] theorem State.setLinkSlice_urgSince (n : Nat) (v : SliceE) : (s.setLinkSlice n v).urgSince = s.urgSince := rfl
@[simp] theorem State.setLinkSlice_urgNoted (n : Nat) (v : SliceE) : (s.setLinkSlice n v).urgNoted = s.urgNoted := rfl
@[simp] theorem State.setLinkSlice_clasp (n : Nat) (v : SliceE) : (s.setLinkSlice n v).clasp = s.clasp := rfl
@[simp] theorem State.setLinkSlice_link (n : Nat) (v : SliceE) : (s.setLinkSlice n v).link = s.link := rfl
@[simp] theorem State.setLinkSlice_fuses (n : Nat) (v : SliceE) : (s.setLinkSlice n v).fuses = s.fuses := rfl
@[simp] theorem State.setLinkSlice_capState (n : Nat) (v : SliceE) : (s.setLinkSlice n v).capState = s.capState := rfl
@[simp] theorem State.setLinkSlice_capGen (n : Nat) (v : SliceE) : (s.setLinkSlice n v).capGen = s.capGen := rfl
@[simp] theorem State.setLinkSlice_fore (n : Nat) (v : SliceE) : (s.setLinkSlice n v).fore = s.fore := rfl
@[simp] theorem State.setLinkSlice_standby (n : Nat) (v : SliceE) : (s.setLinkSlice n v).standby = s.standby := rfl
@[simp] theorem State.setLinkSlice_peerLost (n : Nat) (v : SliceE) : (s.setLinkSlice n v).peerLost = s.peerLost := rfl
@[simp] theorem State.setLinkSlice_kept (n : Nat) (v : SliceE) : (s.setLinkSlice n v).kept = s.kept := rfl
@[simp] theorem State.setLinkSlice_darkNoted (n : Nat) (v : SliceE) : (s.setLinkSlice n v).darkNoted = s.darkNoted := rfl
@[simp] theorem State.setLinkSlice_out (n : Nat) (v : SliceE) : (s.setLinkSlice n v).out = s.out := rfl

/-! ### addReq -/
@[simp] theorem State.addReq_pending (r : Req) : (s.addReq r).pending = s.pending := rfl
@[simp] theorem State.addReq_free (r : Req) : (s.addReq r).free = s.free := rfl
@[simp] theorem State.addReq_hubCount (r : Req) : (s.addReq r).hubCount = s.hubCount := rfl
@[simp] theorem State.addReq_regs (r : Req) : (s.addReq r).regs = s.regs := rfl
@[simp] theorem State.addReq_hbm (r : Req) : (s.addReq r).hbm = s.hbm := rfl
@[simp] theorem State.addReq_host (r : Req) : (s.addReq r).host = s.host := rfl
@[simp] theorem State.addReq_poison (r : Req) : (s.addReq r).poison = s.poison := rfl
@[simp] theorem State.addReq_tags (r : Req) : (s.addReq r).tags = s.tags := rfl
@[simp] theorem State.addReq_frames (r : Req) : (s.addReq r).frames = s.frames := rfl
@[simp] theorem State.addReq_regions (r : Req) : (s.addReq r).regions = s.regions := rfl
@[simp] theorem State.addReq_fabrics (r : Req) : (s.addReq r).fabrics = s.fabrics := rfl
@[simp] theorem State.addReq_spine (r : Req) : (s.addReq r).spine = s.spine := rfl
@[simp] theorem State.addReq_spineFailed (r : Req) : (s.addReq r).spineFailed = s.spineFailed := rfl
@[simp] theorem State.addReq_cores (r : Req) : (s.addReq r).cores = s.cores := rfl
@[simp] theorem State.addReq_caches (r : Req) : (s.addReq r).caches = s.caches := rfl
@[simp] theorem State.addReq_homes (r : Req) : (s.addReq r).homes = s.homes := rfl
@[simp] theorem State.addReq_hostHome (r : Req) : (s.addReq r).hostHome = s.hostHome := rfl
@[simp] theorem State.addReq_hostLines (r : Req) : (s.addReq r).hostLines = s.hostLines := rfl
@[simp] theorem State.addReq_hubWatch (r : Req) : (s.addReq r).hubWatch = s.hubWatch := rfl
@[simp] theorem State.addReq_booksAt (r : Req) : (s.addReq r).booksAt = s.booksAt := rfl
@[simp] theorem State.addReq_foreAt (r : Req) : (s.addReq r).foreAt = s.foreAt := rfl
@[simp] theorem State.addReq_offers (r : Req) : (s.addReq r).offers = s.offers := rfl
@[simp] theorem State.addReq_updates (r : Req) : (s.addReq r).updates = s.updates := rfl
@[simp] theorem State.addReq_bars (r : Req) : (s.addReq r).bars = s.bars := rfl
@[simp] theorem State.addReq_sifts (r : Req) : (s.addReq r).sifts = s.sifts := rfl
@[simp] theorem State.addReq_units (r : Req) : (s.addReq r).units = s.units := rfl
@[simp] theorem State.addReq_walks (r : Req) : (s.addReq r).walks = s.walks := rfl
@[simp] theorem State.addReq_walkers (r : Req) : (s.addReq r).walkers = s.walkers := rfl
@[simp] theorem State.addReq_hubTlb (r : Req) : (s.addReq r).hubTlb = s.hubTlb := rfl
@[simp] theorem State.addReq_cpyTlb (r : Req) : (s.addReq r).cpyTlb = s.cpyTlb := rfl
@[simp] theorem State.addReq_chans (r : Req) : (s.addReq r).chans = s.chans := rfl
@[simp] theorem State.addReq_ctxs (r : Req) : (s.addReq r).ctxs = s.ctxs := rfl
@[simp] theorem State.addReq_folios (r : Req) : (s.addReq r).folios = s.folios := rfl
@[simp] theorem State.addReq_coreSl (r : Req) : (s.addReq r).coreSl = s.coreSl := rfl
@[simp] theorem State.addReq_memSl (r : Req) : (s.addReq r).memSl = s.memSl := rfl
@[simp] theorem State.addReq_linkSl (r : Req) : (s.addReq r).linkSl = s.linkSl := rfl
@[simp] theorem State.addReq_prots (r : Req) : (s.addReq r).prots = s.prots := rfl
@[simp] theorem State.addReq_links (r : Req) : (s.addReq r).links = s.links := rfl
@[simp] theorem State.addReq_queues (r : Req) : (s.addReq r).queues = s.queues := rfl
@[simp] theorem State.addReq_evrings (r : Req) : (s.addReq r).evrings = s.evrings := rfl
@[simp] theorem State.addReq_refSubs (r : Req) : (s.addReq r).refSubs = s.refSubs := rfl
@[simp] theorem State.addReq_lastRefs (r : Req) : (s.addReq r).lastRefs = s.lastRefs := rfl
@[simp] theorem State.addReq_cyclic (r : Req) : (s.addReq r).cyclic = s.cyclic := rfl
@[simp] theorem State.addReq_corrSeq (r : Req) : (s.addReq r).corrSeq = s.corrSeq := rfl
@[simp] theorem State.addReq_corrFrom (r : Req) : (s.addReq r).corrFrom = s.corrFrom := rfl
@[simp] theorem State.addReq_corrDue (r : Req) : (s.addReq r).corrDue = s.corrDue := rfl
@[simp] theorem State.addReq_cfg (r : Req) : (s.addReq r).cfg = s.cfg := rfl
@[simp] theorem State.addReq_power (r : Req) : (s.addReq r).power = s.power := rfl
@[simp] theorem State.addReq_net (r : Req) : (s.addReq r).net = s.net := rfl
@[simp] theorem State.addReq_rounds (r : Req) : (s.addReq r).rounds = s.rounds := rfl
@[simp] theorem State.addReq_urgency (r : Req) : (s.addReq r).urgency = s.urgency := rfl
@[simp] theorem State.addReq_urgSince (r : Req) : (s.addReq r).urgSince = s.urgSince := rfl
@[simp] theorem State.addReq_urgNoted (r : Req) : (s.addReq r).urgNoted = s.urgNoted := rfl
@[simp] theorem State.addReq_clasp (r : Req) : (s.addReq r).clasp = s.clasp := rfl
@[simp] theorem State.addReq_link (r : Req) : (s.addReq r).link = s.link := rfl
@[simp] theorem State.addReq_fuses (r : Req) : (s.addReq r).fuses = s.fuses := rfl
@[simp] theorem State.addReq_capState (r : Req) : (s.addReq r).capState = s.capState := rfl
@[simp] theorem State.addReq_capGen (r : Req) : (s.addReq r).capGen = s.capGen := rfl
@[simp] theorem State.addReq_fore (r : Req) : (s.addReq r).fore = s.fore := rfl
@[simp] theorem State.addReq_standby (r : Req) : (s.addReq r).standby = s.standby := rfl
@[simp] theorem State.addReq_peerLost (r : Req) : (s.addReq r).peerLost = s.peerLost := rfl
@[simp] theorem State.addReq_kept (r : Req) : (s.addReq r).kept = s.kept := rfl
@[simp] theorem State.addReq_darkNoted (r : Req) : (s.addReq r).darkNoted = s.darkNoted := rfl
@[simp] theorem State.addReq_out (r : Req) : (s.addReq r).out = s.out := rfl

/-! ### bumpId -/
@[simp] theorem State.bumpId_pending : (s.bumpId ).pending = s.pending := rfl
@[simp] theorem State.bumpId_free : (s.bumpId ).free = s.free := rfl
@[simp] theorem State.bumpId_hubCount : (s.bumpId ).hubCount = s.hubCount := rfl
@[simp] theorem State.bumpId_regs : (s.bumpId ).regs = s.regs := rfl
@[simp] theorem State.bumpId_hbm : (s.bumpId ).hbm = s.hbm := rfl
@[simp] theorem State.bumpId_host : (s.bumpId ).host = s.host := rfl
@[simp] theorem State.bumpId_poison : (s.bumpId ).poison = s.poison := rfl
@[simp] theorem State.bumpId_tags : (s.bumpId ).tags = s.tags := rfl
@[simp] theorem State.bumpId_frames : (s.bumpId ).frames = s.frames := rfl
@[simp] theorem State.bumpId_regions : (s.bumpId ).regions = s.regions := rfl
@[simp] theorem State.bumpId_fabrics : (s.bumpId ).fabrics = s.fabrics := rfl
@[simp] theorem State.bumpId_spine : (s.bumpId ).spine = s.spine := rfl
@[simp] theorem State.bumpId_spineFailed : (s.bumpId ).spineFailed = s.spineFailed := rfl
@[simp] theorem State.bumpId_cores : (s.bumpId ).cores = s.cores := rfl
@[simp] theorem State.bumpId_caches : (s.bumpId ).caches = s.caches := rfl
@[simp] theorem State.bumpId_homes : (s.bumpId ).homes = s.homes := rfl
@[simp] theorem State.bumpId_hostHome : (s.bumpId ).hostHome = s.hostHome := rfl
@[simp] theorem State.bumpId_hostLines : (s.bumpId ).hostLines = s.hostLines := rfl
@[simp] theorem State.bumpId_hubWatch : (s.bumpId ).hubWatch = s.hubWatch := rfl
@[simp] theorem State.bumpId_booksAt : (s.bumpId ).booksAt = s.booksAt := rfl
@[simp] theorem State.bumpId_foreAt : (s.bumpId ).foreAt = s.foreAt := rfl
@[simp] theorem State.bumpId_reqs : (s.bumpId ).reqs = s.reqs := rfl
@[simp] theorem State.bumpId_offers : (s.bumpId ).offers = s.offers := rfl
@[simp] theorem State.bumpId_updates : (s.bumpId ).updates = s.updates := rfl
@[simp] theorem State.bumpId_bars : (s.bumpId ).bars = s.bars := rfl
@[simp] theorem State.bumpId_sifts : (s.bumpId ).sifts = s.sifts := rfl
@[simp] theorem State.bumpId_units : (s.bumpId ).units = s.units := rfl
@[simp] theorem State.bumpId_walks : (s.bumpId ).walks = s.walks := rfl
@[simp] theorem State.bumpId_walkers : (s.bumpId ).walkers = s.walkers := rfl
@[simp] theorem State.bumpId_hubTlb : (s.bumpId ).hubTlb = s.hubTlb := rfl
@[simp] theorem State.bumpId_cpyTlb : (s.bumpId ).cpyTlb = s.cpyTlb := rfl
@[simp] theorem State.bumpId_chans : (s.bumpId ).chans = s.chans := rfl
@[simp] theorem State.bumpId_ctxs : (s.bumpId ).ctxs = s.ctxs := rfl
@[simp] theorem State.bumpId_folios : (s.bumpId ).folios = s.folios := rfl
@[simp] theorem State.bumpId_coreSl : (s.bumpId ).coreSl = s.coreSl := rfl
@[simp] theorem State.bumpId_memSl : (s.bumpId ).memSl = s.memSl := rfl
@[simp] theorem State.bumpId_linkSl : (s.bumpId ).linkSl = s.linkSl := rfl
@[simp] theorem State.bumpId_prots : (s.bumpId ).prots = s.prots := rfl
@[simp] theorem State.bumpId_links : (s.bumpId ).links = s.links := rfl
@[simp] theorem State.bumpId_queues : (s.bumpId ).queues = s.queues := rfl
@[simp] theorem State.bumpId_evrings : (s.bumpId ).evrings = s.evrings := rfl
@[simp] theorem State.bumpId_refSubs : (s.bumpId ).refSubs = s.refSubs := rfl
@[simp] theorem State.bumpId_lastRefs : (s.bumpId ).lastRefs = s.lastRefs := rfl
@[simp] theorem State.bumpId_cyclic : (s.bumpId ).cyclic = s.cyclic := rfl
@[simp] theorem State.bumpId_corrSeq : (s.bumpId ).corrSeq = s.corrSeq := rfl
@[simp] theorem State.bumpId_corrFrom : (s.bumpId ).corrFrom = s.corrFrom := rfl
@[simp] theorem State.bumpId_corrDue : (s.bumpId ).corrDue = s.corrDue := rfl
@[simp] theorem State.bumpId_cfg : (s.bumpId ).cfg = s.cfg := rfl
@[simp] theorem State.bumpId_power : (s.bumpId ).power = s.power := rfl
@[simp] theorem State.bumpId_net : (s.bumpId ).net = s.net := rfl
@[simp] theorem State.bumpId_rounds : (s.bumpId ).rounds = s.rounds := rfl
@[simp] theorem State.bumpId_urgency : (s.bumpId ).urgency = s.urgency := rfl
@[simp] theorem State.bumpId_urgSince : (s.bumpId ).urgSince = s.urgSince := rfl
@[simp] theorem State.bumpId_urgNoted : (s.bumpId ).urgNoted = s.urgNoted := rfl
@[simp] theorem State.bumpId_clasp : (s.bumpId ).clasp = s.clasp := rfl
@[simp] theorem State.bumpId_link : (s.bumpId ).link = s.link := rfl
@[simp] theorem State.bumpId_fuses : (s.bumpId ).fuses = s.fuses := rfl
@[simp] theorem State.bumpId_capState : (s.bumpId ).capState = s.capState := rfl
@[simp] theorem State.bumpId_capGen : (s.bumpId ).capGen = s.capGen := rfl
@[simp] theorem State.bumpId_fore : (s.bumpId ).fore = s.fore := rfl
@[simp] theorem State.bumpId_standby : (s.bumpId ).standby = s.standby := rfl
@[simp] theorem State.bumpId_peerLost : (s.bumpId ).peerLost = s.peerLost := rfl
@[simp] theorem State.bumpId_kept : (s.bumpId ).kept = s.kept := rfl
@[simp] theorem State.bumpId_darkNoted : (s.bumpId ).darkNoted = s.darkNoted := rfl
@[simp] theorem State.bumpId_out : (s.bumpId ).out = s.out := rfl

/-! ### useFree -/
@[simp] theorem State.useFree_pending : (s.useFree ).pending = s.pending := rfl
@[simp] theorem State.useFree_hubCount : (s.useFree ).hubCount = s.hubCount := rfl
@[simp] theorem State.useFree_regs : (s.useFree ).regs = s.regs := rfl
@[simp] theorem State.useFree_hbm : (s.useFree ).hbm = s.hbm := rfl
@[simp] theorem State.useFree_host : (s.useFree ).host = s.host := rfl
@[simp] theorem State.useFree_poison : (s.useFree ).poison = s.poison := rfl
@[simp] theorem State.useFree_tags : (s.useFree ).tags = s.tags := rfl
@[simp] theorem State.useFree_frames : (s.useFree ).frames = s.frames := rfl
@[simp] theorem State.useFree_regions : (s.useFree ).regions = s.regions := rfl
@[simp] theorem State.useFree_fabrics : (s.useFree ).fabrics = s.fabrics := rfl
@[simp] theorem State.useFree_spine : (s.useFree ).spine = s.spine := rfl
@[simp] theorem State.useFree_spineFailed : (s.useFree ).spineFailed = s.spineFailed := rfl
@[simp] theorem State.useFree_cores : (s.useFree ).cores = s.cores := rfl
@[simp] theorem State.useFree_caches : (s.useFree ).caches = s.caches := rfl
@[simp] theorem State.useFree_homes : (s.useFree ).homes = s.homes := rfl
@[simp] theorem State.useFree_hostHome : (s.useFree ).hostHome = s.hostHome := rfl
@[simp] theorem State.useFree_hostLines : (s.useFree ).hostLines = s.hostLines := rfl
@[simp] theorem State.useFree_hubWatch : (s.useFree ).hubWatch = s.hubWatch := rfl
@[simp] theorem State.useFree_booksAt : (s.useFree ).booksAt = s.booksAt := rfl
@[simp] theorem State.useFree_foreAt : (s.useFree ).foreAt = s.foreAt := rfl
@[simp] theorem State.useFree_reqs : (s.useFree ).reqs = s.reqs := rfl
@[simp] theorem State.useFree_nextId : (s.useFree ).nextId = s.nextId := rfl
@[simp] theorem State.useFree_offers : (s.useFree ).offers = s.offers := rfl
@[simp] theorem State.useFree_updates : (s.useFree ).updates = s.updates := rfl
@[simp] theorem State.useFree_bars : (s.useFree ).bars = s.bars := rfl
@[simp] theorem State.useFree_sifts : (s.useFree ).sifts = s.sifts := rfl
@[simp] theorem State.useFree_units : (s.useFree ).units = s.units := rfl
@[simp] theorem State.useFree_walks : (s.useFree ).walks = s.walks := rfl
@[simp] theorem State.useFree_walkers : (s.useFree ).walkers = s.walkers := rfl
@[simp] theorem State.useFree_hubTlb : (s.useFree ).hubTlb = s.hubTlb := rfl
@[simp] theorem State.useFree_cpyTlb : (s.useFree ).cpyTlb = s.cpyTlb := rfl
@[simp] theorem State.useFree_chans : (s.useFree ).chans = s.chans := rfl
@[simp] theorem State.useFree_ctxs : (s.useFree ).ctxs = s.ctxs := rfl
@[simp] theorem State.useFree_folios : (s.useFree ).folios = s.folios := rfl
@[simp] theorem State.useFree_coreSl : (s.useFree ).coreSl = s.coreSl := rfl
@[simp] theorem State.useFree_memSl : (s.useFree ).memSl = s.memSl := rfl
@[simp] theorem State.useFree_linkSl : (s.useFree ).linkSl = s.linkSl := rfl
@[simp] theorem State.useFree_prots : (s.useFree ).prots = s.prots := rfl
@[simp] theorem State.useFree_links : (s.useFree ).links = s.links := rfl
@[simp] theorem State.useFree_queues : (s.useFree ).queues = s.queues := rfl
@[simp] theorem State.useFree_evrings : (s.useFree ).evrings = s.evrings := rfl
@[simp] theorem State.useFree_refSubs : (s.useFree ).refSubs = s.refSubs := rfl
@[simp] theorem State.useFree_lastRefs : (s.useFree ).lastRefs = s.lastRefs := rfl
@[simp] theorem State.useFree_cyclic : (s.useFree ).cyclic = s.cyclic := rfl
@[simp] theorem State.useFree_corrSeq : (s.useFree ).corrSeq = s.corrSeq := rfl
@[simp] theorem State.useFree_corrFrom : (s.useFree ).corrFrom = s.corrFrom := rfl
@[simp] theorem State.useFree_corrDue : (s.useFree ).corrDue = s.corrDue := rfl
@[simp] theorem State.useFree_cfg : (s.useFree ).cfg = s.cfg := rfl
@[simp] theorem State.useFree_power : (s.useFree ).power = s.power := rfl
@[simp] theorem State.useFree_net : (s.useFree ).net = s.net := rfl
@[simp] theorem State.useFree_rounds : (s.useFree ).rounds = s.rounds := rfl
@[simp] theorem State.useFree_urgency : (s.useFree ).urgency = s.urgency := rfl
@[simp] theorem State.useFree_urgSince : (s.useFree ).urgSince = s.urgSince := rfl
@[simp] theorem State.useFree_urgNoted : (s.useFree ).urgNoted = s.urgNoted := rfl
@[simp] theorem State.useFree_clasp : (s.useFree ).clasp = s.clasp := rfl
@[simp] theorem State.useFree_link : (s.useFree ).link = s.link := rfl
@[simp] theorem State.useFree_fuses : (s.useFree ).fuses = s.fuses := rfl
@[simp] theorem State.useFree_capState : (s.useFree ).capState = s.capState := rfl
@[simp] theorem State.useFree_capGen : (s.useFree ).capGen = s.capGen := rfl
@[simp] theorem State.useFree_fore : (s.useFree ).fore = s.fore := rfl
@[simp] theorem State.useFree_standby : (s.useFree ).standby = s.standby := rfl
@[simp] theorem State.useFree_peerLost : (s.useFree ).peerLost = s.peerLost := rfl
@[simp] theorem State.useFree_kept : (s.useFree ).kept = s.kept := rfl
@[simp] theorem State.useFree_darkNoted : (s.useFree ).darkNoted = s.darkNoted := rfl
@[simp] theorem State.useFree_out : (s.useFree ).out = s.out := rfl

/-! ### emit -/
@[simp] theorem State.emit_pending (o : Out) : (s.emit o).pending = s.pending := rfl
@[simp] theorem State.emit_free (o : Out) : (s.emit o).free = s.free := rfl
@[simp] theorem State.emit_hubCount (o : Out) : (s.emit o).hubCount = s.hubCount := rfl
@[simp] theorem State.emit_regs (o : Out) : (s.emit o).regs = s.regs := rfl
@[simp] theorem State.emit_hbm (o : Out) : (s.emit o).hbm = s.hbm := rfl
@[simp] theorem State.emit_host (o : Out) : (s.emit o).host = s.host := rfl
@[simp] theorem State.emit_poison (o : Out) : (s.emit o).poison = s.poison := rfl
@[simp] theorem State.emit_tags (o : Out) : (s.emit o).tags = s.tags := rfl
@[simp] theorem State.emit_frames (o : Out) : (s.emit o).frames = s.frames := rfl
@[simp] theorem State.emit_regions (o : Out) : (s.emit o).regions = s.regions := rfl
@[simp] theorem State.emit_fabrics (o : Out) : (s.emit o).fabrics = s.fabrics := rfl
@[simp] theorem State.emit_spine (o : Out) : (s.emit o).spine = s.spine := rfl
@[simp] theorem State.emit_spineFailed (o : Out) : (s.emit o).spineFailed = s.spineFailed := rfl
@[simp] theorem State.emit_cores (o : Out) : (s.emit o).cores = s.cores := rfl
@[simp] theorem State.emit_caches (o : Out) : (s.emit o).caches = s.caches := rfl
@[simp] theorem State.emit_homes (o : Out) : (s.emit o).homes = s.homes := rfl
@[simp] theorem State.emit_hostHome (o : Out) : (s.emit o).hostHome = s.hostHome := rfl
@[simp] theorem State.emit_hostLines (o : Out) : (s.emit o).hostLines = s.hostLines := rfl
@[simp] theorem State.emit_hubWatch (o : Out) : (s.emit o).hubWatch = s.hubWatch := rfl
@[simp] theorem State.emit_booksAt (o : Out) : (s.emit o).booksAt = s.booksAt := rfl
@[simp] theorem State.emit_foreAt (o : Out) : (s.emit o).foreAt = s.foreAt := rfl
@[simp] theorem State.emit_reqs (o : Out) : (s.emit o).reqs = s.reqs := rfl
@[simp] theorem State.emit_nextId (o : Out) : (s.emit o).nextId = s.nextId := rfl
@[simp] theorem State.emit_offers (o : Out) : (s.emit o).offers = s.offers := rfl
@[simp] theorem State.emit_updates (o : Out) : (s.emit o).updates = s.updates := rfl
@[simp] theorem State.emit_bars (o : Out) : (s.emit o).bars = s.bars := rfl
@[simp] theorem State.emit_sifts (o : Out) : (s.emit o).sifts = s.sifts := rfl
@[simp] theorem State.emit_units (o : Out) : (s.emit o).units = s.units := rfl
@[simp] theorem State.emit_walks (o : Out) : (s.emit o).walks = s.walks := rfl
@[simp] theorem State.emit_walkers (o : Out) : (s.emit o).walkers = s.walkers := rfl
@[simp] theorem State.emit_hubTlb (o : Out) : (s.emit o).hubTlb = s.hubTlb := rfl
@[simp] theorem State.emit_cpyTlb (o : Out) : (s.emit o).cpyTlb = s.cpyTlb := rfl
@[simp] theorem State.emit_chans (o : Out) : (s.emit o).chans = s.chans := rfl
@[simp] theorem State.emit_ctxs (o : Out) : (s.emit o).ctxs = s.ctxs := rfl
@[simp] theorem State.emit_folios (o : Out) : (s.emit o).folios = s.folios := rfl
@[simp] theorem State.emit_coreSl (o : Out) : (s.emit o).coreSl = s.coreSl := rfl
@[simp] theorem State.emit_memSl (o : Out) : (s.emit o).memSl = s.memSl := rfl
@[simp] theorem State.emit_linkSl (o : Out) : (s.emit o).linkSl = s.linkSl := rfl
@[simp] theorem State.emit_prots (o : Out) : (s.emit o).prots = s.prots := rfl
@[simp] theorem State.emit_links (o : Out) : (s.emit o).links = s.links := rfl
@[simp] theorem State.emit_queues (o : Out) : (s.emit o).queues = s.queues := rfl
@[simp] theorem State.emit_evrings (o : Out) : (s.emit o).evrings = s.evrings := rfl
@[simp] theorem State.emit_refSubs (o : Out) : (s.emit o).refSubs = s.refSubs := rfl
@[simp] theorem State.emit_lastRefs (o : Out) : (s.emit o).lastRefs = s.lastRefs := rfl
@[simp] theorem State.emit_cyclic (o : Out) : (s.emit o).cyclic = s.cyclic := rfl
@[simp] theorem State.emit_corrSeq (o : Out) : (s.emit o).corrSeq = s.corrSeq := rfl
@[simp] theorem State.emit_corrFrom (o : Out) : (s.emit o).corrFrom = s.corrFrom := rfl
@[simp] theorem State.emit_corrDue (o : Out) : (s.emit o).corrDue = s.corrDue := rfl
@[simp] theorem State.emit_cfg (o : Out) : (s.emit o).cfg = s.cfg := rfl
@[simp] theorem State.emit_power (o : Out) : (s.emit o).power = s.power := rfl
@[simp] theorem State.emit_net (o : Out) : (s.emit o).net = s.net := rfl
@[simp] theorem State.emit_rounds (o : Out) : (s.emit o).rounds = s.rounds := rfl
@[simp] theorem State.emit_urgency (o : Out) : (s.emit o).urgency = s.urgency := rfl
@[simp] theorem State.emit_urgSince (o : Out) : (s.emit o).urgSince = s.urgSince := rfl
@[simp] theorem State.emit_urgNoted (o : Out) : (s.emit o).urgNoted = s.urgNoted := rfl
@[simp] theorem State.emit_clasp (o : Out) : (s.emit o).clasp = s.clasp := rfl
@[simp] theorem State.emit_link (o : Out) : (s.emit o).link = s.link := rfl
@[simp] theorem State.emit_fuses (o : Out) : (s.emit o).fuses = s.fuses := rfl
@[simp] theorem State.emit_capState (o : Out) : (s.emit o).capState = s.capState := rfl
@[simp] theorem State.emit_capGen (o : Out) : (s.emit o).capGen = s.capGen := rfl
@[simp] theorem State.emit_fore (o : Out) : (s.emit o).fore = s.fore := rfl
@[simp] theorem State.emit_standby (o : Out) : (s.emit o).standby = s.standby := rfl
@[simp] theorem State.emit_peerLost (o : Out) : (s.emit o).peerLost = s.peerLost := rfl
@[simp] theorem State.emit_kept (o : Out) : (s.emit o).kept = s.kept := rfl
@[simp] theorem State.emit_darkNoted (o : Out) : (s.emit o).darkNoted = s.darkNoted := rfl

/-! ### setReg -/
@[simp] theorem State.setReg_pending (c v : Nat) : (s.setReg c v).pending = s.pending := rfl
@[simp] theorem State.setReg_free (c v : Nat) : (s.setReg c v).free = s.free := rfl
@[simp] theorem State.setReg_hubCount (c v : Nat) : (s.setReg c v).hubCount = s.hubCount := rfl
@[simp] theorem State.setReg_hbm (c v : Nat) : (s.setReg c v).hbm = s.hbm := rfl
@[simp] theorem State.setReg_host (c v : Nat) : (s.setReg c v).host = s.host := rfl
@[simp] theorem State.setReg_poison (c v : Nat) : (s.setReg c v).poison = s.poison := rfl
@[simp] theorem State.setReg_tags (c v : Nat) : (s.setReg c v).tags = s.tags := rfl
@[simp] theorem State.setReg_frames (c v : Nat) : (s.setReg c v).frames = s.frames := rfl
@[simp] theorem State.setReg_regions (c v : Nat) : (s.setReg c v).regions = s.regions := rfl
@[simp] theorem State.setReg_fabrics (c v : Nat) : (s.setReg c v).fabrics = s.fabrics := rfl
@[simp] theorem State.setReg_spine (c v : Nat) : (s.setReg c v).spine = s.spine := rfl
@[simp] theorem State.setReg_spineFailed (c v : Nat) : (s.setReg c v).spineFailed = s.spineFailed := rfl
@[simp] theorem State.setReg_cores (c v : Nat) : (s.setReg c v).cores = s.cores := rfl
@[simp] theorem State.setReg_caches (c v : Nat) : (s.setReg c v).caches = s.caches := rfl
@[simp] theorem State.setReg_homes (c v : Nat) : (s.setReg c v).homes = s.homes := rfl
@[simp] theorem State.setReg_hostHome (c v : Nat) : (s.setReg c v).hostHome = s.hostHome := rfl
@[simp] theorem State.setReg_hostLines (c v : Nat) : (s.setReg c v).hostLines = s.hostLines := rfl
@[simp] theorem State.setReg_hubWatch (c v : Nat) : (s.setReg c v).hubWatch = s.hubWatch := rfl
@[simp] theorem State.setReg_booksAt (c v : Nat) : (s.setReg c v).booksAt = s.booksAt := rfl
@[simp] theorem State.setReg_foreAt (c v : Nat) : (s.setReg c v).foreAt = s.foreAt := rfl
@[simp] theorem State.setReg_reqs (c v : Nat) : (s.setReg c v).reqs = s.reqs := rfl
@[simp] theorem State.setReg_nextId (c v : Nat) : (s.setReg c v).nextId = s.nextId := rfl
@[simp] theorem State.setReg_offers (c v : Nat) : (s.setReg c v).offers = s.offers := rfl
@[simp] theorem State.setReg_updates (c v : Nat) : (s.setReg c v).updates = s.updates := rfl
@[simp] theorem State.setReg_bars (c v : Nat) : (s.setReg c v).bars = s.bars := rfl
@[simp] theorem State.setReg_sifts (c v : Nat) : (s.setReg c v).sifts = s.sifts := rfl
@[simp] theorem State.setReg_units (c v : Nat) : (s.setReg c v).units = s.units := rfl
@[simp] theorem State.setReg_walks (c v : Nat) : (s.setReg c v).walks = s.walks := rfl
@[simp] theorem State.setReg_walkers (c v : Nat) : (s.setReg c v).walkers = s.walkers := rfl
@[simp] theorem State.setReg_hubTlb (c v : Nat) : (s.setReg c v).hubTlb = s.hubTlb := rfl
@[simp] theorem State.setReg_cpyTlb (c v : Nat) : (s.setReg c v).cpyTlb = s.cpyTlb := rfl
@[simp] theorem State.setReg_chans (c v : Nat) : (s.setReg c v).chans = s.chans := rfl
@[simp] theorem State.setReg_ctxs (c v : Nat) : (s.setReg c v).ctxs = s.ctxs := rfl
@[simp] theorem State.setReg_folios (c v : Nat) : (s.setReg c v).folios = s.folios := rfl
@[simp] theorem State.setReg_coreSl (c v : Nat) : (s.setReg c v).coreSl = s.coreSl := rfl
@[simp] theorem State.setReg_memSl (c v : Nat) : (s.setReg c v).memSl = s.memSl := rfl
@[simp] theorem State.setReg_linkSl (c v : Nat) : (s.setReg c v).linkSl = s.linkSl := rfl
@[simp] theorem State.setReg_prots (c v : Nat) : (s.setReg c v).prots = s.prots := rfl
@[simp] theorem State.setReg_links (c v : Nat) : (s.setReg c v).links = s.links := rfl
@[simp] theorem State.setReg_queues (c v : Nat) : (s.setReg c v).queues = s.queues := rfl
@[simp] theorem State.setReg_evrings (c v : Nat) : (s.setReg c v).evrings = s.evrings := rfl
@[simp] theorem State.setReg_refSubs (c v : Nat) : (s.setReg c v).refSubs = s.refSubs := rfl
@[simp] theorem State.setReg_lastRefs (c v : Nat) : (s.setReg c v).lastRefs = s.lastRefs := rfl
@[simp] theorem State.setReg_cyclic (c v : Nat) : (s.setReg c v).cyclic = s.cyclic := rfl
@[simp] theorem State.setReg_corrSeq (c v : Nat) : (s.setReg c v).corrSeq = s.corrSeq := rfl
@[simp] theorem State.setReg_corrFrom (c v : Nat) : (s.setReg c v).corrFrom = s.corrFrom := rfl
@[simp] theorem State.setReg_corrDue (c v : Nat) : (s.setReg c v).corrDue = s.corrDue := rfl
@[simp] theorem State.setReg_cfg (c v : Nat) : (s.setReg c v).cfg = s.cfg := rfl
@[simp] theorem State.setReg_power (c v : Nat) : (s.setReg c v).power = s.power := rfl
@[simp] theorem State.setReg_net (c v : Nat) : (s.setReg c v).net = s.net := rfl
@[simp] theorem State.setReg_rounds (c v : Nat) : (s.setReg c v).rounds = s.rounds := rfl
@[simp] theorem State.setReg_urgency (c v : Nat) : (s.setReg c v).urgency = s.urgency := rfl
@[simp] theorem State.setReg_urgSince (c v : Nat) : (s.setReg c v).urgSince = s.urgSince := rfl
@[simp] theorem State.setReg_urgNoted (c v : Nat) : (s.setReg c v).urgNoted = s.urgNoted := rfl
@[simp] theorem State.setReg_clasp (c v : Nat) : (s.setReg c v).clasp = s.clasp := rfl
@[simp] theorem State.setReg_link (c v : Nat) : (s.setReg c v).link = s.link := rfl
@[simp] theorem State.setReg_fuses (c v : Nat) : (s.setReg c v).fuses = s.fuses := rfl
@[simp] theorem State.setReg_capState (c v : Nat) : (s.setReg c v).capState = s.capState := rfl
@[simp] theorem State.setReg_capGen (c v : Nat) : (s.setReg c v).capGen = s.capGen := rfl
@[simp] theorem State.setReg_fore (c v : Nat) : (s.setReg c v).fore = s.fore := rfl
@[simp] theorem State.setReg_standby (c v : Nat) : (s.setReg c v).standby = s.standby := rfl
@[simp] theorem State.setReg_peerLost (c v : Nat) : (s.setReg c v).peerLost = s.peerLost := rfl
@[simp] theorem State.setReg_kept (c v : Nat) : (s.setReg c v).kept = s.kept := rfl
@[simp] theorem State.setReg_darkNoted (c v : Nat) : (s.setReg c v).darkNoted = s.darkNoted := rfl
@[simp] theorem State.setReg_out (c v : Nat) : (s.setReg c v).out = s.out := rfl

/-! ### setFld -/
@[simp] theorem State.setFld_pending (c lo wd v : Nat) : (s.setFld c lo wd v).pending = s.pending := rfl
@[simp] theorem State.setFld_free (c lo wd v : Nat) : (s.setFld c lo wd v).free = s.free := rfl
@[simp] theorem State.setFld_hubCount (c lo wd v : Nat) : (s.setFld c lo wd v).hubCount = s.hubCount := rfl
@[simp] theorem State.setFld_hbm (c lo wd v : Nat) : (s.setFld c lo wd v).hbm = s.hbm := rfl
@[simp] theorem State.setFld_host (c lo wd v : Nat) : (s.setFld c lo wd v).host = s.host := rfl
@[simp] theorem State.setFld_poison (c lo wd v : Nat) : (s.setFld c lo wd v).poison = s.poison := rfl
@[simp] theorem State.setFld_tags (c lo wd v : Nat) : (s.setFld c lo wd v).tags = s.tags := rfl
@[simp] theorem State.setFld_frames (c lo wd v : Nat) : (s.setFld c lo wd v).frames = s.frames := rfl
@[simp] theorem State.setFld_regions (c lo wd v : Nat) : (s.setFld c lo wd v).regions = s.regions := rfl
@[simp] theorem State.setFld_fabrics (c lo wd v : Nat) : (s.setFld c lo wd v).fabrics = s.fabrics := rfl
@[simp] theorem State.setFld_spine (c lo wd v : Nat) : (s.setFld c lo wd v).spine = s.spine := rfl
@[simp] theorem State.setFld_spineFailed (c lo wd v : Nat) : (s.setFld c lo wd v).spineFailed = s.spineFailed := rfl
@[simp] theorem State.setFld_cores (c lo wd v : Nat) : (s.setFld c lo wd v).cores = s.cores := rfl
@[simp] theorem State.setFld_caches (c lo wd v : Nat) : (s.setFld c lo wd v).caches = s.caches := rfl
@[simp] theorem State.setFld_homes (c lo wd v : Nat) : (s.setFld c lo wd v).homes = s.homes := rfl
@[simp] theorem State.setFld_hostHome (c lo wd v : Nat) : (s.setFld c lo wd v).hostHome = s.hostHome := rfl
@[simp] theorem State.setFld_hostLines (c lo wd v : Nat) : (s.setFld c lo wd v).hostLines = s.hostLines := rfl
@[simp] theorem State.setFld_hubWatch (c lo wd v : Nat) : (s.setFld c lo wd v).hubWatch = s.hubWatch := rfl
@[simp] theorem State.setFld_booksAt (c lo wd v : Nat) : (s.setFld c lo wd v).booksAt = s.booksAt := rfl
@[simp] theorem State.setFld_foreAt (c lo wd v : Nat) : (s.setFld c lo wd v).foreAt = s.foreAt := rfl
@[simp] theorem State.setFld_reqs (c lo wd v : Nat) : (s.setFld c lo wd v).reqs = s.reqs := rfl
@[simp] theorem State.setFld_nextId (c lo wd v : Nat) : (s.setFld c lo wd v).nextId = s.nextId := rfl
@[simp] theorem State.setFld_offers (c lo wd v : Nat) : (s.setFld c lo wd v).offers = s.offers := rfl
@[simp] theorem State.setFld_updates (c lo wd v : Nat) : (s.setFld c lo wd v).updates = s.updates := rfl
@[simp] theorem State.setFld_bars (c lo wd v : Nat) : (s.setFld c lo wd v).bars = s.bars := rfl
@[simp] theorem State.setFld_sifts (c lo wd v : Nat) : (s.setFld c lo wd v).sifts = s.sifts := rfl
@[simp] theorem State.setFld_units (c lo wd v : Nat) : (s.setFld c lo wd v).units = s.units := rfl
@[simp] theorem State.setFld_walks (c lo wd v : Nat) : (s.setFld c lo wd v).walks = s.walks := rfl
@[simp] theorem State.setFld_walkers (c lo wd v : Nat) : (s.setFld c lo wd v).walkers = s.walkers := rfl
@[simp] theorem State.setFld_hubTlb (c lo wd v : Nat) : (s.setFld c lo wd v).hubTlb = s.hubTlb := rfl
@[simp] theorem State.setFld_cpyTlb (c lo wd v : Nat) : (s.setFld c lo wd v).cpyTlb = s.cpyTlb := rfl
@[simp] theorem State.setFld_chans (c lo wd v : Nat) : (s.setFld c lo wd v).chans = s.chans := rfl
@[simp] theorem State.setFld_ctxs (c lo wd v : Nat) : (s.setFld c lo wd v).ctxs = s.ctxs := rfl
@[simp] theorem State.setFld_folios (c lo wd v : Nat) : (s.setFld c lo wd v).folios = s.folios := rfl
@[simp] theorem State.setFld_coreSl (c lo wd v : Nat) : (s.setFld c lo wd v).coreSl = s.coreSl := rfl
@[simp] theorem State.setFld_memSl (c lo wd v : Nat) : (s.setFld c lo wd v).memSl = s.memSl := rfl
@[simp] theorem State.setFld_linkSl (c lo wd v : Nat) : (s.setFld c lo wd v).linkSl = s.linkSl := rfl
@[simp] theorem State.setFld_prots (c lo wd v : Nat) : (s.setFld c lo wd v).prots = s.prots := rfl
@[simp] theorem State.setFld_links (c lo wd v : Nat) : (s.setFld c lo wd v).links = s.links := rfl
@[simp] theorem State.setFld_queues (c lo wd v : Nat) : (s.setFld c lo wd v).queues = s.queues := rfl
@[simp] theorem State.setFld_evrings (c lo wd v : Nat) : (s.setFld c lo wd v).evrings = s.evrings := rfl
@[simp] theorem State.setFld_refSubs (c lo wd v : Nat) : (s.setFld c lo wd v).refSubs = s.refSubs := rfl
@[simp] theorem State.setFld_lastRefs (c lo wd v : Nat) : (s.setFld c lo wd v).lastRefs = s.lastRefs := rfl
@[simp] theorem State.setFld_cyclic (c lo wd v : Nat) : (s.setFld c lo wd v).cyclic = s.cyclic := rfl
@[simp] theorem State.setFld_corrSeq (c lo wd v : Nat) : (s.setFld c lo wd v).corrSeq = s.corrSeq := rfl
@[simp] theorem State.setFld_corrFrom (c lo wd v : Nat) : (s.setFld c lo wd v).corrFrom = s.corrFrom := rfl
@[simp] theorem State.setFld_corrDue (c lo wd v : Nat) : (s.setFld c lo wd v).corrDue = s.corrDue := rfl
@[simp] theorem State.setFld_cfg (c lo wd v : Nat) : (s.setFld c lo wd v).cfg = s.cfg := rfl
@[simp] theorem State.setFld_power (c lo wd v : Nat) : (s.setFld c lo wd v).power = s.power := rfl
@[simp] theorem State.setFld_net (c lo wd v : Nat) : (s.setFld c lo wd v).net = s.net := rfl
@[simp] theorem State.setFld_rounds (c lo wd v : Nat) : (s.setFld c lo wd v).rounds = s.rounds := rfl
@[simp] theorem State.setFld_urgency (c lo wd v : Nat) : (s.setFld c lo wd v).urgency = s.urgency := rfl
@[simp] theorem State.setFld_urgSince (c lo wd v : Nat) : (s.setFld c lo wd v).urgSince = s.urgSince := rfl
@[simp] theorem State.setFld_urgNoted (c lo wd v : Nat) : (s.setFld c lo wd v).urgNoted = s.urgNoted := rfl
@[simp] theorem State.setFld_clasp (c lo wd v : Nat) : (s.setFld c lo wd v).clasp = s.clasp := rfl
@[simp] theorem State.setFld_link (c lo wd v : Nat) : (s.setFld c lo wd v).link = s.link := rfl
@[simp] theorem State.setFld_fuses (c lo wd v : Nat) : (s.setFld c lo wd v).fuses = s.fuses := rfl
@[simp] theorem State.setFld_capState (c lo wd v : Nat) : (s.setFld c lo wd v).capState = s.capState := rfl
@[simp] theorem State.setFld_capGen (c lo wd v : Nat) : (s.setFld c lo wd v).capGen = s.capGen := rfl
@[simp] theorem State.setFld_fore (c lo wd v : Nat) : (s.setFld c lo wd v).fore = s.fore := rfl
@[simp] theorem State.setFld_standby (c lo wd v : Nat) : (s.setFld c lo wd v).standby = s.standby := rfl
@[simp] theorem State.setFld_peerLost (c lo wd v : Nat) : (s.setFld c lo wd v).peerLost = s.peerLost := rfl
@[simp] theorem State.setFld_kept (c lo wd v : Nat) : (s.setFld c lo wd v).kept = s.kept := rfl
@[simp] theorem State.setFld_darkNoted (c lo wd v : Nat) : (s.setFld c lo wd v).darkNoted = s.darkNoted := rfl
@[simp] theorem State.setFld_out (c lo wd v : Nat) : (s.setFld c lo wd v).out = s.out := rfl

/-! ### bumpFld -/
@[simp] theorem State.bumpFld_pending (c lo wd k : Nat) : (s.bumpFld c lo wd k).pending = s.pending := rfl
@[simp] theorem State.bumpFld_free (c lo wd k : Nat) : (s.bumpFld c lo wd k).free = s.free := rfl
@[simp] theorem State.bumpFld_hubCount (c lo wd k : Nat) : (s.bumpFld c lo wd k).hubCount = s.hubCount := rfl
@[simp] theorem State.bumpFld_hbm (c lo wd k : Nat) : (s.bumpFld c lo wd k).hbm = s.hbm := rfl
@[simp] theorem State.bumpFld_host (c lo wd k : Nat) : (s.bumpFld c lo wd k).host = s.host := rfl
@[simp] theorem State.bumpFld_poison (c lo wd k : Nat) : (s.bumpFld c lo wd k).poison = s.poison := rfl
@[simp] theorem State.bumpFld_tags (c lo wd k : Nat) : (s.bumpFld c lo wd k).tags = s.tags := rfl
@[simp] theorem State.bumpFld_frames (c lo wd k : Nat) : (s.bumpFld c lo wd k).frames = s.frames := rfl
@[simp] theorem State.bumpFld_regions (c lo wd k : Nat) : (s.bumpFld c lo wd k).regions = s.regions := rfl
@[simp] theorem State.bumpFld_fabrics (c lo wd k : Nat) : (s.bumpFld c lo wd k).fabrics = s.fabrics := rfl
@[simp] theorem State.bumpFld_spine (c lo wd k : Nat) : (s.bumpFld c lo wd k).spine = s.spine := rfl
@[simp] theorem State.bumpFld_spineFailed (c lo wd k : Nat) : (s.bumpFld c lo wd k).spineFailed = s.spineFailed := rfl
@[simp] theorem State.bumpFld_cores (c lo wd k : Nat) : (s.bumpFld c lo wd k).cores = s.cores := rfl
@[simp] theorem State.bumpFld_caches (c lo wd k : Nat) : (s.bumpFld c lo wd k).caches = s.caches := rfl
@[simp] theorem State.bumpFld_homes (c lo wd k : Nat) : (s.bumpFld c lo wd k).homes = s.homes := rfl
@[simp] theorem State.bumpFld_hostHome (c lo wd k : Nat) : (s.bumpFld c lo wd k).hostHome = s.hostHome := rfl
@[simp] theorem State.bumpFld_hostLines (c lo wd k : Nat) : (s.bumpFld c lo wd k).hostLines = s.hostLines := rfl
@[simp] theorem State.bumpFld_hubWatch (c lo wd k : Nat) : (s.bumpFld c lo wd k).hubWatch = s.hubWatch := rfl
@[simp] theorem State.bumpFld_booksAt (c lo wd k : Nat) : (s.bumpFld c lo wd k).booksAt = s.booksAt := rfl
@[simp] theorem State.bumpFld_foreAt (c lo wd k : Nat) : (s.bumpFld c lo wd k).foreAt = s.foreAt := rfl
@[simp] theorem State.bumpFld_reqs (c lo wd k : Nat) : (s.bumpFld c lo wd k).reqs = s.reqs := rfl
@[simp] theorem State.bumpFld_nextId (c lo wd k : Nat) : (s.bumpFld c lo wd k).nextId = s.nextId := rfl
@[simp] theorem State.bumpFld_offers (c lo wd k : Nat) : (s.bumpFld c lo wd k).offers = s.offers := rfl
@[simp] theorem State.bumpFld_updates (c lo wd k : Nat) : (s.bumpFld c lo wd k).updates = s.updates := rfl
@[simp] theorem State.bumpFld_bars (c lo wd k : Nat) : (s.bumpFld c lo wd k).bars = s.bars := rfl
@[simp] theorem State.bumpFld_sifts (c lo wd k : Nat) : (s.bumpFld c lo wd k).sifts = s.sifts := rfl
@[simp] theorem State.bumpFld_units (c lo wd k : Nat) : (s.bumpFld c lo wd k).units = s.units := rfl
@[simp] theorem State.bumpFld_walks (c lo wd k : Nat) : (s.bumpFld c lo wd k).walks = s.walks := rfl
@[simp] theorem State.bumpFld_walkers (c lo wd k : Nat) : (s.bumpFld c lo wd k).walkers = s.walkers := rfl
@[simp] theorem State.bumpFld_hubTlb (c lo wd k : Nat) : (s.bumpFld c lo wd k).hubTlb = s.hubTlb := rfl
@[simp] theorem State.bumpFld_cpyTlb (c lo wd k : Nat) : (s.bumpFld c lo wd k).cpyTlb = s.cpyTlb := rfl
@[simp] theorem State.bumpFld_chans (c lo wd k : Nat) : (s.bumpFld c lo wd k).chans = s.chans := rfl
@[simp] theorem State.bumpFld_ctxs (c lo wd k : Nat) : (s.bumpFld c lo wd k).ctxs = s.ctxs := rfl
@[simp] theorem State.bumpFld_folios (c lo wd k : Nat) : (s.bumpFld c lo wd k).folios = s.folios := rfl
@[simp] theorem State.bumpFld_coreSl (c lo wd k : Nat) : (s.bumpFld c lo wd k).coreSl = s.coreSl := rfl
@[simp] theorem State.bumpFld_memSl (c lo wd k : Nat) : (s.bumpFld c lo wd k).memSl = s.memSl := rfl
@[simp] theorem State.bumpFld_linkSl (c lo wd k : Nat) : (s.bumpFld c lo wd k).linkSl = s.linkSl := rfl
@[simp] theorem State.bumpFld_prots (c lo wd k : Nat) : (s.bumpFld c lo wd k).prots = s.prots := rfl
@[simp] theorem State.bumpFld_links (c lo wd k : Nat) : (s.bumpFld c lo wd k).links = s.links := rfl
@[simp] theorem State.bumpFld_queues (c lo wd k : Nat) : (s.bumpFld c lo wd k).queues = s.queues := rfl
@[simp] theorem State.bumpFld_evrings (c lo wd k : Nat) : (s.bumpFld c lo wd k).evrings = s.evrings := rfl
@[simp] theorem State.bumpFld_refSubs (c lo wd k : Nat) : (s.bumpFld c lo wd k).refSubs = s.refSubs := rfl
@[simp] theorem State.bumpFld_lastRefs (c lo wd k : Nat) : (s.bumpFld c lo wd k).lastRefs = s.lastRefs := rfl
@[simp] theorem State.bumpFld_cyclic (c lo wd k : Nat) : (s.bumpFld c lo wd k).cyclic = s.cyclic := rfl
@[simp] theorem State.bumpFld_corrSeq (c lo wd k : Nat) : (s.bumpFld c lo wd k).corrSeq = s.corrSeq := rfl
@[simp] theorem State.bumpFld_corrFrom (c lo wd k : Nat) : (s.bumpFld c lo wd k).corrFrom = s.corrFrom := rfl
@[simp] theorem State.bumpFld_corrDue (c lo wd k : Nat) : (s.bumpFld c lo wd k).corrDue = s.corrDue := rfl
@[simp] theorem State.bumpFld_cfg (c lo wd k : Nat) : (s.bumpFld c lo wd k).cfg = s.cfg := rfl
@[simp] theorem State.bumpFld_power (c lo wd k : Nat) : (s.bumpFld c lo wd k).power = s.power := rfl
@[simp] theorem State.bumpFld_net (c lo wd k : Nat) : (s.bumpFld c lo wd k).net = s.net := rfl
@[simp] theorem State.bumpFld_rounds (c lo wd k : Nat) : (s.bumpFld c lo wd k).rounds = s.rounds := rfl
@[simp] theorem State.bumpFld_urgency (c lo wd k : Nat) : (s.bumpFld c lo wd k).urgency = s.urgency := rfl
@[simp] theorem State.bumpFld_urgSince (c lo wd k : Nat) : (s.bumpFld c lo wd k).urgSince = s.urgSince := rfl
@[simp] theorem State.bumpFld_urgNoted (c lo wd k : Nat) : (s.bumpFld c lo wd k).urgNoted = s.urgNoted := rfl
@[simp] theorem State.bumpFld_clasp (c lo wd k : Nat) : (s.bumpFld c lo wd k).clasp = s.clasp := rfl
@[simp] theorem State.bumpFld_link (c lo wd k : Nat) : (s.bumpFld c lo wd k).link = s.link := rfl
@[simp] theorem State.bumpFld_fuses (c lo wd k : Nat) : (s.bumpFld c lo wd k).fuses = s.fuses := rfl
@[simp] theorem State.bumpFld_capState (c lo wd k : Nat) : (s.bumpFld c lo wd k).capState = s.capState := rfl
@[simp] theorem State.bumpFld_capGen (c lo wd k : Nat) : (s.bumpFld c lo wd k).capGen = s.capGen := rfl
@[simp] theorem State.bumpFld_fore (c lo wd k : Nat) : (s.bumpFld c lo wd k).fore = s.fore := rfl
@[simp] theorem State.bumpFld_standby (c lo wd k : Nat) : (s.bumpFld c lo wd k).standby = s.standby := rfl
@[simp] theorem State.bumpFld_peerLost (c lo wd k : Nat) : (s.bumpFld c lo wd k).peerLost = s.peerLost := rfl
@[simp] theorem State.bumpFld_kept (c lo wd k : Nat) : (s.bumpFld c lo wd k).kept = s.kept := rfl
@[simp] theorem State.bumpFld_darkNoted (c lo wd k : Nat) : (s.bumpFld c lo wd k).darkNoted = s.darkNoted := rfl
@[simp] theorem State.bumpFld_out (c lo wd k : Nat) : (s.bumpFld c lo wd k).out = s.out := rfl

/-! ### setHome -/
@[simp] theorem State.setHome_pending (h : Nat) (v : Home) : (s.setHome h v).pending = s.pending := by unfold State.setHome; split <;> rfl
@[simp] theorem State.setHome_free (h : Nat) (v : Home) : (s.setHome h v).free = s.free := by unfold State.setHome; split <;> rfl
@[simp] theorem State.setHome_hubCount (h : Nat) (v : Home) : (s.setHome h v).hubCount = s.hubCount := by unfold State.setHome; split <;> rfl
@[simp] theorem State.setHome_regs (h : Nat) (v : Home) : (s.setHome h v).regs = s.regs := by unfold State.setHome; split <;> rfl
@[simp] theorem State.setHome_hbm (h : Nat) (v : Home) : (s.setHome h v).hbm = s.hbm := by unfold State.setHome; split <;> rfl
@[simp] theorem State.setHome_host (h : Nat) (v : Home) : (s.setHome h v).host = s.host := by unfold State.setHome; split <;> rfl
@[simp] theorem State.setHome_poison (h : Nat) (v : Home) : (s.setHome h v).poison = s.poison := by unfold State.setHome; split <;> rfl
@[simp] theorem State.setHome_tags (h : Nat) (v : Home) : (s.setHome h v).tags = s.tags := by unfold State.setHome; split <;> rfl
@[simp] theorem State.setHome_frames (h : Nat) (v : Home) : (s.setHome h v).frames = s.frames := by unfold State.setHome; split <;> rfl
@[simp] theorem State.setHome_regions (h : Nat) (v : Home) : (s.setHome h v).regions = s.regions := by unfold State.setHome; split <;> rfl
@[simp] theorem State.setHome_fabrics (h : Nat) (v : Home) : (s.setHome h v).fabrics = s.fabrics := by unfold State.setHome; split <;> rfl
@[simp] theorem State.setHome_spine (h : Nat) (v : Home) : (s.setHome h v).spine = s.spine := by unfold State.setHome; split <;> rfl
@[simp] theorem State.setHome_spineFailed (h : Nat) (v : Home) : (s.setHome h v).spineFailed = s.spineFailed := by unfold State.setHome; split <;> rfl
@[simp] theorem State.setHome_cores (h : Nat) (v : Home) : (s.setHome h v).cores = s.cores := by unfold State.setHome; split <;> rfl
@[simp] theorem State.setHome_caches (h : Nat) (v : Home) : (s.setHome h v).caches = s.caches := by unfold State.setHome; split <;> rfl
@[simp] theorem State.setHome_hostLines (h : Nat) (v : Home) : (s.setHome h v).hostLines = s.hostLines := by unfold State.setHome; split <;> rfl
@[simp] theorem State.setHome_hubWatch (h : Nat) (v : Home) : (s.setHome h v).hubWatch = s.hubWatch := by unfold State.setHome; split <;> rfl
@[simp] theorem State.setHome_booksAt (h : Nat) (v : Home) : (s.setHome h v).booksAt = s.booksAt := by unfold State.setHome; split <;> rfl
@[simp] theorem State.setHome_foreAt (h : Nat) (v : Home) : (s.setHome h v).foreAt = s.foreAt := by unfold State.setHome; split <;> rfl
@[simp] theorem State.setHome_reqs (h : Nat) (v : Home) : (s.setHome h v).reqs = s.reqs := by unfold State.setHome; split <;> rfl
@[simp] theorem State.setHome_nextId (h : Nat) (v : Home) : (s.setHome h v).nextId = s.nextId := by unfold State.setHome; split <;> rfl
@[simp] theorem State.setHome_offers (h : Nat) (v : Home) : (s.setHome h v).offers = s.offers := by unfold State.setHome; split <;> rfl
@[simp] theorem State.setHome_updates (h : Nat) (v : Home) : (s.setHome h v).updates = s.updates := by unfold State.setHome; split <;> rfl
@[simp] theorem State.setHome_bars (h : Nat) (v : Home) : (s.setHome h v).bars = s.bars := by unfold State.setHome; split <;> rfl
@[simp] theorem State.setHome_sifts (h : Nat) (v : Home) : (s.setHome h v).sifts = s.sifts := by unfold State.setHome; split <;> rfl
@[simp] theorem State.setHome_units (h : Nat) (v : Home) : (s.setHome h v).units = s.units := by unfold State.setHome; split <;> rfl
@[simp] theorem State.setHome_walks (h : Nat) (v : Home) : (s.setHome h v).walks = s.walks := by unfold State.setHome; split <;> rfl
@[simp] theorem State.setHome_walkers (h : Nat) (v : Home) : (s.setHome h v).walkers = s.walkers := by unfold State.setHome; split <;> rfl
@[simp] theorem State.setHome_hubTlb (h : Nat) (v : Home) : (s.setHome h v).hubTlb = s.hubTlb := by unfold State.setHome; split <;> rfl
@[simp] theorem State.setHome_cpyTlb (h : Nat) (v : Home) : (s.setHome h v).cpyTlb = s.cpyTlb := by unfold State.setHome; split <;> rfl
@[simp] theorem State.setHome_chans (h : Nat) (v : Home) : (s.setHome h v).chans = s.chans := by unfold State.setHome; split <;> rfl
@[simp] theorem State.setHome_ctxs (h : Nat) (v : Home) : (s.setHome h v).ctxs = s.ctxs := by unfold State.setHome; split <;> rfl
@[simp] theorem State.setHome_folios (h : Nat) (v : Home) : (s.setHome h v).folios = s.folios := by unfold State.setHome; split <;> rfl
@[simp] theorem State.setHome_coreSl (h : Nat) (v : Home) : (s.setHome h v).coreSl = s.coreSl := by unfold State.setHome; split <;> rfl
@[simp] theorem State.setHome_memSl (h : Nat) (v : Home) : (s.setHome h v).memSl = s.memSl := by unfold State.setHome; split <;> rfl
@[simp] theorem State.setHome_linkSl (h : Nat) (v : Home) : (s.setHome h v).linkSl = s.linkSl := by unfold State.setHome; split <;> rfl
@[simp] theorem State.setHome_prots (h : Nat) (v : Home) : (s.setHome h v).prots = s.prots := by unfold State.setHome; split <;> rfl
@[simp] theorem State.setHome_links (h : Nat) (v : Home) : (s.setHome h v).links = s.links := by unfold State.setHome; split <;> rfl
@[simp] theorem State.setHome_queues (h : Nat) (v : Home) : (s.setHome h v).queues = s.queues := by unfold State.setHome; split <;> rfl
@[simp] theorem State.setHome_evrings (h : Nat) (v : Home) : (s.setHome h v).evrings = s.evrings := by unfold State.setHome; split <;> rfl
@[simp] theorem State.setHome_refSubs (h : Nat) (v : Home) : (s.setHome h v).refSubs = s.refSubs := by unfold State.setHome; split <;> rfl
@[simp] theorem State.setHome_lastRefs (h : Nat) (v : Home) : (s.setHome h v).lastRefs = s.lastRefs := by unfold State.setHome; split <;> rfl
@[simp] theorem State.setHome_cyclic (h : Nat) (v : Home) : (s.setHome h v).cyclic = s.cyclic := by unfold State.setHome; split <;> rfl
@[simp] theorem State.setHome_corrSeq (h : Nat) (v : Home) : (s.setHome h v).corrSeq = s.corrSeq := by unfold State.setHome; split <;> rfl
@[simp] theorem State.setHome_corrFrom (h : Nat) (v : Home) : (s.setHome h v).corrFrom = s.corrFrom := by unfold State.setHome; split <;> rfl
@[simp] theorem State.setHome_corrDue (h : Nat) (v : Home) : (s.setHome h v).corrDue = s.corrDue := by unfold State.setHome; split <;> rfl
@[simp] theorem State.setHome_cfg (h : Nat) (v : Home) : (s.setHome h v).cfg = s.cfg := by unfold State.setHome; split <;> rfl
@[simp] theorem State.setHome_power (h : Nat) (v : Home) : (s.setHome h v).power = s.power := by unfold State.setHome; split <;> rfl
@[simp] theorem State.setHome_net (h : Nat) (v : Home) : (s.setHome h v).net = s.net := by unfold State.setHome; split <;> rfl
@[simp] theorem State.setHome_rounds (h : Nat) (v : Home) : (s.setHome h v).rounds = s.rounds := by unfold State.setHome; split <;> rfl
@[simp] theorem State.setHome_urgency (h : Nat) (v : Home) : (s.setHome h v).urgency = s.urgency := by unfold State.setHome; split <;> rfl
@[simp] theorem State.setHome_urgSince (h : Nat) (v : Home) : (s.setHome h v).urgSince = s.urgSince := by unfold State.setHome; split <;> rfl
@[simp] theorem State.setHome_urgNoted (h : Nat) (v : Home) : (s.setHome h v).urgNoted = s.urgNoted := by unfold State.setHome; split <;> rfl
@[simp] theorem State.setHome_clasp (h : Nat) (v : Home) : (s.setHome h v).clasp = s.clasp := by unfold State.setHome; split <;> rfl
@[simp] theorem State.setHome_link (h : Nat) (v : Home) : (s.setHome h v).link = s.link := by unfold State.setHome; split <;> rfl
@[simp] theorem State.setHome_fuses (h : Nat) (v : Home) : (s.setHome h v).fuses = s.fuses := by unfold State.setHome; split <;> rfl
@[simp] theorem State.setHome_capState (h : Nat) (v : Home) : (s.setHome h v).capState = s.capState := by unfold State.setHome; split <;> rfl
@[simp] theorem State.setHome_capGen (h : Nat) (v : Home) : (s.setHome h v).capGen = s.capGen := by unfold State.setHome; split <;> rfl
@[simp] theorem State.setHome_fore (h : Nat) (v : Home) : (s.setHome h v).fore = s.fore := by unfold State.setHome; split <;> rfl
@[simp] theorem State.setHome_standby (h : Nat) (v : Home) : (s.setHome h v).standby = s.standby := by unfold State.setHome; split <;> rfl
@[simp] theorem State.setHome_peerLost (h : Nat) (v : Home) : (s.setHome h v).peerLost = s.peerLost := by unfold State.setHome; split <;> rfl
@[simp] theorem State.setHome_kept (h : Nat) (v : Home) : (s.setHome h v).kept = s.kept := by unfold State.setHome; split <;> rfl
@[simp] theorem State.setHome_darkNoted (h : Nat) (v : Home) : (s.setHome h v).darkNoted = s.darkNoted := by unfold State.setHome; split <;> rfl
@[simp] theorem State.setHome_out (h : Nat) (v : Home) : (s.setHome h v).out = s.out := by unfold State.setHome; split <;> rfl

/-! ### modSlot -/
@[simp] theorem State.modSlot_pending (c k : Nat) (f : Slot → Slot) : (s.modSlot c k f).pending = s.pending := by unfold State.modSlot; split <;> rfl
@[simp] theorem State.modSlot_free (c k : Nat) (f : Slot → Slot) : (s.modSlot c k f).free = s.free := by unfold State.modSlot; split <;> rfl
@[simp] theorem State.modSlot_hubCount (c k : Nat) (f : Slot → Slot) : (s.modSlot c k f).hubCount = s.hubCount := by unfold State.modSlot; split <;> rfl
@[simp] theorem State.modSlot_regs (c k : Nat) (f : Slot → Slot) : (s.modSlot c k f).regs = s.regs := by unfold State.modSlot; split <;> rfl
@[simp] theorem State.modSlot_hbm (c k : Nat) (f : Slot → Slot) : (s.modSlot c k f).hbm = s.hbm := by unfold State.modSlot; split <;> rfl
@[simp] theorem State.modSlot_host (c k : Nat) (f : Slot → Slot) : (s.modSlot c k f).host = s.host := by unfold State.modSlot; split <;> rfl
@[simp] theorem State.modSlot_poison (c k : Nat) (f : Slot → Slot) : (s.modSlot c k f).poison = s.poison := by unfold State.modSlot; split <;> rfl
@[simp] theorem State.modSlot_tags (c k : Nat) (f : Slot → Slot) : (s.modSlot c k f).tags = s.tags := by unfold State.modSlot; split <;> rfl
@[simp] theorem State.modSlot_frames (c k : Nat) (f : Slot → Slot) : (s.modSlot c k f).frames = s.frames := by unfold State.modSlot; split <;> rfl
@[simp] theorem State.modSlot_regions (c k : Nat) (f : Slot → Slot) : (s.modSlot c k f).regions = s.regions := by unfold State.modSlot; split <;> rfl
@[simp] theorem State.modSlot_fabrics (c k : Nat) (f : Slot → Slot) : (s.modSlot c k f).fabrics = s.fabrics := by unfold State.modSlot; split <;> rfl
@[simp] theorem State.modSlot_spine (c k : Nat) (f : Slot → Slot) : (s.modSlot c k f).spine = s.spine := by unfold State.modSlot; split <;> rfl
@[simp] theorem State.modSlot_spineFailed (c k : Nat) (f : Slot → Slot) : (s.modSlot c k f).spineFailed = s.spineFailed := by unfold State.modSlot; split <;> rfl
@[simp] theorem State.modSlot_caches (c k : Nat) (f : Slot → Slot) : (s.modSlot c k f).caches = s.caches := by unfold State.modSlot; split <;> rfl
@[simp] theorem State.modSlot_homes (c k : Nat) (f : Slot → Slot) : (s.modSlot c k f).homes = s.homes := by unfold State.modSlot; split <;> rfl
@[simp] theorem State.modSlot_hostHome (c k : Nat) (f : Slot → Slot) : (s.modSlot c k f).hostHome = s.hostHome := by unfold State.modSlot; split <;> rfl
@[simp] theorem State.modSlot_hostLines (c k : Nat) (f : Slot → Slot) : (s.modSlot c k f).hostLines = s.hostLines := by unfold State.modSlot; split <;> rfl
@[simp] theorem State.modSlot_hubWatch (c k : Nat) (f : Slot → Slot) : (s.modSlot c k f).hubWatch = s.hubWatch := by unfold State.modSlot; split <;> rfl
@[simp] theorem State.modSlot_booksAt (c k : Nat) (f : Slot → Slot) : (s.modSlot c k f).booksAt = s.booksAt := by unfold State.modSlot; split <;> rfl
@[simp] theorem State.modSlot_foreAt (c k : Nat) (f : Slot → Slot) : (s.modSlot c k f).foreAt = s.foreAt := by unfold State.modSlot; split <;> rfl
@[simp] theorem State.modSlot_reqs (c k : Nat) (f : Slot → Slot) : (s.modSlot c k f).reqs = s.reqs := by unfold State.modSlot; split <;> rfl
@[simp] theorem State.modSlot_nextId (c k : Nat) (f : Slot → Slot) : (s.modSlot c k f).nextId = s.nextId := by unfold State.modSlot; split <;> rfl
@[simp] theorem State.modSlot_offers (c k : Nat) (f : Slot → Slot) : (s.modSlot c k f).offers = s.offers := by unfold State.modSlot; split <;> rfl
@[simp] theorem State.modSlot_updates (c k : Nat) (f : Slot → Slot) : (s.modSlot c k f).updates = s.updates := by unfold State.modSlot; split <;> rfl
@[simp] theorem State.modSlot_bars (c k : Nat) (f : Slot → Slot) : (s.modSlot c k f).bars = s.bars := by unfold State.modSlot; split <;> rfl
@[simp] theorem State.modSlot_sifts (c k : Nat) (f : Slot → Slot) : (s.modSlot c k f).sifts = s.sifts := by unfold State.modSlot; split <;> rfl
@[simp] theorem State.modSlot_units (c k : Nat) (f : Slot → Slot) : (s.modSlot c k f).units = s.units := by unfold State.modSlot; split <;> rfl
@[simp] theorem State.modSlot_walks (c k : Nat) (f : Slot → Slot) : (s.modSlot c k f).walks = s.walks := by unfold State.modSlot; split <;> rfl
@[simp] theorem State.modSlot_walkers (c k : Nat) (f : Slot → Slot) : (s.modSlot c k f).walkers = s.walkers := by unfold State.modSlot; split <;> rfl
@[simp] theorem State.modSlot_hubTlb (c k : Nat) (f : Slot → Slot) : (s.modSlot c k f).hubTlb = s.hubTlb := by unfold State.modSlot; split <;> rfl
@[simp] theorem State.modSlot_cpyTlb (c k : Nat) (f : Slot → Slot) : (s.modSlot c k f).cpyTlb = s.cpyTlb := by unfold State.modSlot; split <;> rfl
@[simp] theorem State.modSlot_chans (c k : Nat) (f : Slot → Slot) : (s.modSlot c k f).chans = s.chans := by unfold State.modSlot; split <;> rfl
@[simp] theorem State.modSlot_ctxs (c k : Nat) (f : Slot → Slot) : (s.modSlot c k f).ctxs = s.ctxs := by unfold State.modSlot; split <;> rfl
@[simp] theorem State.modSlot_folios (c k : Nat) (f : Slot → Slot) : (s.modSlot c k f).folios = s.folios := by unfold State.modSlot; split <;> rfl
@[simp] theorem State.modSlot_coreSl (c k : Nat) (f : Slot → Slot) : (s.modSlot c k f).coreSl = s.coreSl := by unfold State.modSlot; split <;> rfl
@[simp] theorem State.modSlot_memSl (c k : Nat) (f : Slot → Slot) : (s.modSlot c k f).memSl = s.memSl := by unfold State.modSlot; split <;> rfl
@[simp] theorem State.modSlot_linkSl (c k : Nat) (f : Slot → Slot) : (s.modSlot c k f).linkSl = s.linkSl := by unfold State.modSlot; split <;> rfl
@[simp] theorem State.modSlot_prots (c k : Nat) (f : Slot → Slot) : (s.modSlot c k f).prots = s.prots := by unfold State.modSlot; split <;> rfl
@[simp] theorem State.modSlot_links (c k : Nat) (f : Slot → Slot) : (s.modSlot c k f).links = s.links := by unfold State.modSlot; split <;> rfl
@[simp] theorem State.modSlot_queues (c k : Nat) (f : Slot → Slot) : (s.modSlot c k f).queues = s.queues := by unfold State.modSlot; split <;> rfl
@[simp] theorem State.modSlot_evrings (c k : Nat) (f : Slot → Slot) : (s.modSlot c k f).evrings = s.evrings := by unfold State.modSlot; split <;> rfl
@[simp] theorem State.modSlot_refSubs (c k : Nat) (f : Slot → Slot) : (s.modSlot c k f).refSubs = s.refSubs := by unfold State.modSlot; split <;> rfl
@[simp] theorem State.modSlot_lastRefs (c k : Nat) (f : Slot → Slot) : (s.modSlot c k f).lastRefs = s.lastRefs := by unfold State.modSlot; split <;> rfl
@[simp] theorem State.modSlot_cyclic (c k : Nat) (f : Slot → Slot) : (s.modSlot c k f).cyclic = s.cyclic := by unfold State.modSlot; split <;> rfl
@[simp] theorem State.modSlot_corrSeq (c k : Nat) (f : Slot → Slot) : (s.modSlot c k f).corrSeq = s.corrSeq := by unfold State.modSlot; split <;> rfl
@[simp] theorem State.modSlot_corrFrom (c k : Nat) (f : Slot → Slot) : (s.modSlot c k f).corrFrom = s.corrFrom := by unfold State.modSlot; split <;> rfl
@[simp] theorem State.modSlot_corrDue (c k : Nat) (f : Slot → Slot) : (s.modSlot c k f).corrDue = s.corrDue := by unfold State.modSlot; split <;> rfl
@[simp] theorem State.modSlot_cfg (c k : Nat) (f : Slot → Slot) : (s.modSlot c k f).cfg = s.cfg := by unfold State.modSlot; split <;> rfl
@[simp] theorem State.modSlot_power (c k : Nat) (f : Slot → Slot) : (s.modSlot c k f).power = s.power := by unfold State.modSlot; split <;> rfl
@[simp] theorem State.modSlot_net (c k : Nat) (f : Slot → Slot) : (s.modSlot c k f).net = s.net := by unfold State.modSlot; split <;> rfl
@[simp] theorem State.modSlot_rounds (c k : Nat) (f : Slot → Slot) : (s.modSlot c k f).rounds = s.rounds := by unfold State.modSlot; split <;> rfl
@[simp] theorem State.modSlot_urgency (c k : Nat) (f : Slot → Slot) : (s.modSlot c k f).urgency = s.urgency := by unfold State.modSlot; split <;> rfl
@[simp] theorem State.modSlot_urgSince (c k : Nat) (f : Slot → Slot) : (s.modSlot c k f).urgSince = s.urgSince := by unfold State.modSlot; split <;> rfl
@[simp] theorem State.modSlot_urgNoted (c k : Nat) (f : Slot → Slot) : (s.modSlot c k f).urgNoted = s.urgNoted := by unfold State.modSlot; split <;> rfl
@[simp] theorem State.modSlot_clasp (c k : Nat) (f : Slot → Slot) : (s.modSlot c k f).clasp = s.clasp := by unfold State.modSlot; split <;> rfl
@[simp] theorem State.modSlot_link (c k : Nat) (f : Slot → Slot) : (s.modSlot c k f).link = s.link := by unfold State.modSlot; split <;> rfl
@[simp] theorem State.modSlot_fuses (c k : Nat) (f : Slot → Slot) : (s.modSlot c k f).fuses = s.fuses := by unfold State.modSlot; split <;> rfl
@[simp] theorem State.modSlot_capState (c k : Nat) (f : Slot → Slot) : (s.modSlot c k f).capState = s.capState := by unfold State.modSlot; split <;> rfl
@[simp] theorem State.modSlot_capGen (c k : Nat) (f : Slot → Slot) : (s.modSlot c k f).capGen = s.capGen := by unfold State.modSlot; split <;> rfl
@[simp] theorem State.modSlot_fore (c k : Nat) (f : Slot → Slot) : (s.modSlot c k f).fore = s.fore := by unfold State.modSlot; split <;> rfl
@[simp] theorem State.modSlot_standby (c k : Nat) (f : Slot → Slot) : (s.modSlot c k f).standby = s.standby := by unfold State.modSlot; split <;> rfl
@[simp] theorem State.modSlot_peerLost (c k : Nat) (f : Slot → Slot) : (s.modSlot c k f).peerLost = s.peerLost := by unfold State.modSlot; split <;> rfl
@[simp] theorem State.modSlot_kept (c k : Nat) (f : Slot → Slot) : (s.modSlot c k f).kept = s.kept := by unfold State.modSlot; split <;> rfl
@[simp] theorem State.modSlot_darkNoted (c k : Nat) (f : Slot → Slot) : (s.modSlot c k f).darkNoted = s.darkNoted := by unfold State.modSlot; split <;> rfl
@[simp] theorem State.modSlot_out (c k : Nat) (f : Slot → Slot) : (s.modSlot c k f).out = s.out := by unfold State.modSlot; split <;> rfl

/-! ### modCtx -/
@[simp] theorem State.modCtx_pending (i : Nat) (f : Context → Context) : (s.modCtx i f).pending = s.pending := by unfold State.modCtx; split <;> rfl
@[simp] theorem State.modCtx_free (i : Nat) (f : Context → Context) : (s.modCtx i f).free = s.free := by unfold State.modCtx; split <;> rfl
@[simp] theorem State.modCtx_hubCount (i : Nat) (f : Context → Context) : (s.modCtx i f).hubCount = s.hubCount := by unfold State.modCtx; split <;> rfl
@[simp] theorem State.modCtx_regs (i : Nat) (f : Context → Context) : (s.modCtx i f).regs = s.regs := by unfold State.modCtx; split <;> rfl
@[simp] theorem State.modCtx_hbm (i : Nat) (f : Context → Context) : (s.modCtx i f).hbm = s.hbm := by unfold State.modCtx; split <;> rfl
@[simp] theorem State.modCtx_host (i : Nat) (f : Context → Context) : (s.modCtx i f).host = s.host := by unfold State.modCtx; split <;> rfl
@[simp] theorem State.modCtx_poison (i : Nat) (f : Context → Context) : (s.modCtx i f).poison = s.poison := by unfold State.modCtx; split <;> rfl
@[simp] theorem State.modCtx_tags (i : Nat) (f : Context → Context) : (s.modCtx i f).tags = s.tags := by unfold State.modCtx; split <;> rfl
@[simp] theorem State.modCtx_frames (i : Nat) (f : Context → Context) : (s.modCtx i f).frames = s.frames := by unfold State.modCtx; split <;> rfl
@[simp] theorem State.modCtx_regions (i : Nat) (f : Context → Context) : (s.modCtx i f).regions = s.regions := by unfold State.modCtx; split <;> rfl
@[simp] theorem State.modCtx_fabrics (i : Nat) (f : Context → Context) : (s.modCtx i f).fabrics = s.fabrics := by unfold State.modCtx; split <;> rfl
@[simp] theorem State.modCtx_spine (i : Nat) (f : Context → Context) : (s.modCtx i f).spine = s.spine := by unfold State.modCtx; split <;> rfl
@[simp] theorem State.modCtx_spineFailed (i : Nat) (f : Context → Context) : (s.modCtx i f).spineFailed = s.spineFailed := by unfold State.modCtx; split <;> rfl
@[simp] theorem State.modCtx_cores (i : Nat) (f : Context → Context) : (s.modCtx i f).cores = s.cores := by unfold State.modCtx; split <;> rfl
@[simp] theorem State.modCtx_caches (i : Nat) (f : Context → Context) : (s.modCtx i f).caches = s.caches := by unfold State.modCtx; split <;> rfl
@[simp] theorem State.modCtx_homes (i : Nat) (f : Context → Context) : (s.modCtx i f).homes = s.homes := by unfold State.modCtx; split <;> rfl
@[simp] theorem State.modCtx_hostHome (i : Nat) (f : Context → Context) : (s.modCtx i f).hostHome = s.hostHome := by unfold State.modCtx; split <;> rfl
@[simp] theorem State.modCtx_hostLines (i : Nat) (f : Context → Context) : (s.modCtx i f).hostLines = s.hostLines := by unfold State.modCtx; split <;> rfl
@[simp] theorem State.modCtx_hubWatch (i : Nat) (f : Context → Context) : (s.modCtx i f).hubWatch = s.hubWatch := by unfold State.modCtx; split <;> rfl
@[simp] theorem State.modCtx_booksAt (i : Nat) (f : Context → Context) : (s.modCtx i f).booksAt = s.booksAt := by unfold State.modCtx; split <;> rfl
@[simp] theorem State.modCtx_foreAt (i : Nat) (f : Context → Context) : (s.modCtx i f).foreAt = s.foreAt := by unfold State.modCtx; split <;> rfl
@[simp] theorem State.modCtx_reqs (i : Nat) (f : Context → Context) : (s.modCtx i f).reqs = s.reqs := by unfold State.modCtx; split <;> rfl
@[simp] theorem State.modCtx_nextId (i : Nat) (f : Context → Context) : (s.modCtx i f).nextId = s.nextId := by unfold State.modCtx; split <;> rfl
@[simp] theorem State.modCtx_offers (i : Nat) (f : Context → Context) : (s.modCtx i f).offers = s.offers := by unfold State.modCtx; split <;> rfl
@[simp] theorem State.modCtx_updates (i : Nat) (f : Context → Context) : (s.modCtx i f).updates = s.updates := by unfold State.modCtx; split <;> rfl
@[simp] theorem State.modCtx_bars (i : Nat) (f : Context → Context) : (s.modCtx i f).bars = s.bars := by unfold State.modCtx; split <;> rfl
@[simp] theorem State.modCtx_sifts (i : Nat) (f : Context → Context) : (s.modCtx i f).sifts = s.sifts := by unfold State.modCtx; split <;> rfl
@[simp] theorem State.modCtx_units (i : Nat) (f : Context → Context) : (s.modCtx i f).units = s.units := by unfold State.modCtx; split <;> rfl
@[simp] theorem State.modCtx_walks (i : Nat) (f : Context → Context) : (s.modCtx i f).walks = s.walks := by unfold State.modCtx; split <;> rfl
@[simp] theorem State.modCtx_walkers (i : Nat) (f : Context → Context) : (s.modCtx i f).walkers = s.walkers := by unfold State.modCtx; split <;> rfl
@[simp] theorem State.modCtx_hubTlb (i : Nat) (f : Context → Context) : (s.modCtx i f).hubTlb = s.hubTlb := by unfold State.modCtx; split <;> rfl
@[simp] theorem State.modCtx_cpyTlb (i : Nat) (f : Context → Context) : (s.modCtx i f).cpyTlb = s.cpyTlb := by unfold State.modCtx; split <;> rfl
@[simp] theorem State.modCtx_chans (i : Nat) (f : Context → Context) : (s.modCtx i f).chans = s.chans := by unfold State.modCtx; split <;> rfl
@[simp] theorem State.modCtx_folios (i : Nat) (f : Context → Context) : (s.modCtx i f).folios = s.folios := by unfold State.modCtx; split <;> rfl
@[simp] theorem State.modCtx_coreSl (i : Nat) (f : Context → Context) : (s.modCtx i f).coreSl = s.coreSl := by unfold State.modCtx; split <;> rfl
@[simp] theorem State.modCtx_memSl (i : Nat) (f : Context → Context) : (s.modCtx i f).memSl = s.memSl := by unfold State.modCtx; split <;> rfl
@[simp] theorem State.modCtx_linkSl (i : Nat) (f : Context → Context) : (s.modCtx i f).linkSl = s.linkSl := by unfold State.modCtx; split <;> rfl
@[simp] theorem State.modCtx_prots (i : Nat) (f : Context → Context) : (s.modCtx i f).prots = s.prots := by unfold State.modCtx; split <;> rfl
@[simp] theorem State.modCtx_links (i : Nat) (f : Context → Context) : (s.modCtx i f).links = s.links := by unfold State.modCtx; split <;> rfl
@[simp] theorem State.modCtx_queues (i : Nat) (f : Context → Context) : (s.modCtx i f).queues = s.queues := by unfold State.modCtx; split <;> rfl
@[simp] theorem State.modCtx_evrings (i : Nat) (f : Context → Context) : (s.modCtx i f).evrings = s.evrings := by unfold State.modCtx; split <;> rfl
@[simp] theorem State.modCtx_refSubs (i : Nat) (f : Context → Context) : (s.modCtx i f).refSubs = s.refSubs := by unfold State.modCtx; split <;> rfl
@[simp] theorem State.modCtx_lastRefs (i : Nat) (f : Context → Context) : (s.modCtx i f).lastRefs = s.lastRefs := by unfold State.modCtx; split <;> rfl
@[simp] theorem State.modCtx_cyclic (i : Nat) (f : Context → Context) : (s.modCtx i f).cyclic = s.cyclic := by unfold State.modCtx; split <;> rfl
@[simp] theorem State.modCtx_corrSeq (i : Nat) (f : Context → Context) : (s.modCtx i f).corrSeq = s.corrSeq := by unfold State.modCtx; split <;> rfl
@[simp] theorem State.modCtx_corrFrom (i : Nat) (f : Context → Context) : (s.modCtx i f).corrFrom = s.corrFrom := by unfold State.modCtx; split <;> rfl
@[simp] theorem State.modCtx_corrDue (i : Nat) (f : Context → Context) : (s.modCtx i f).corrDue = s.corrDue := by unfold State.modCtx; split <;> rfl
@[simp] theorem State.modCtx_cfg (i : Nat) (f : Context → Context) : (s.modCtx i f).cfg = s.cfg := by unfold State.modCtx; split <;> rfl
@[simp] theorem State.modCtx_power (i : Nat) (f : Context → Context) : (s.modCtx i f).power = s.power := by unfold State.modCtx; split <;> rfl
@[simp] theorem State.modCtx_net (i : Nat) (f : Context → Context) : (s.modCtx i f).net = s.net := by unfold State.modCtx; split <;> rfl
@[simp] theorem State.modCtx_rounds (i : Nat) (f : Context → Context) : (s.modCtx i f).rounds = s.rounds := by unfold State.modCtx; split <;> rfl
@[simp] theorem State.modCtx_urgency (i : Nat) (f : Context → Context) : (s.modCtx i f).urgency = s.urgency := by unfold State.modCtx; split <;> rfl
@[simp] theorem State.modCtx_urgSince (i : Nat) (f : Context → Context) : (s.modCtx i f).urgSince = s.urgSince := by unfold State.modCtx; split <;> rfl
@[simp] theorem State.modCtx_urgNoted (i : Nat) (f : Context → Context) : (s.modCtx i f).urgNoted = s.urgNoted := by unfold State.modCtx; split <;> rfl
@[simp] theorem State.modCtx_clasp (i : Nat) (f : Context → Context) : (s.modCtx i f).clasp = s.clasp := by unfold State.modCtx; split <;> rfl
@[simp] theorem State.modCtx_link (i : Nat) (f : Context → Context) : (s.modCtx i f).link = s.link := by unfold State.modCtx; split <;> rfl
@[simp] theorem State.modCtx_fuses (i : Nat) (f : Context → Context) : (s.modCtx i f).fuses = s.fuses := by unfold State.modCtx; split <;> rfl
@[simp] theorem State.modCtx_capState (i : Nat) (f : Context → Context) : (s.modCtx i f).capState = s.capState := by unfold State.modCtx; split <;> rfl
@[simp] theorem State.modCtx_capGen (i : Nat) (f : Context → Context) : (s.modCtx i f).capGen = s.capGen := by unfold State.modCtx; split <;> rfl
@[simp] theorem State.modCtx_fore (i : Nat) (f : Context → Context) : (s.modCtx i f).fore = s.fore := by unfold State.modCtx; split <;> rfl
@[simp] theorem State.modCtx_standby (i : Nat) (f : Context → Context) : (s.modCtx i f).standby = s.standby := by unfold State.modCtx; split <;> rfl
@[simp] theorem State.modCtx_peerLost (i : Nat) (f : Context → Context) : (s.modCtx i f).peerLost = s.peerLost := by unfold State.modCtx; split <;> rfl
@[simp] theorem State.modCtx_kept (i : Nat) (f : Context → Context) : (s.modCtx i f).kept = s.kept := by unfold State.modCtx; split <;> rfl
@[simp] theorem State.modCtx_darkNoted (i : Nat) (f : Context → Context) : (s.modCtx i f).darkNoted = s.darkNoted := by unfold State.modCtx; split <;> rfl
@[simp] theorem State.modCtx_out (i : Nat) (f : Context → Context) : (s.modCtx i f).out = s.out := by unfold State.modCtx; split <;> rfl

/-! ### modQueue -/
@[simp] theorem State.modQueue_pending (q : Nat) (f : Queue → Queue) : (s.modQueue q f).pending = s.pending := by unfold State.modQueue; split <;> rfl
@[simp] theorem State.modQueue_free (q : Nat) (f : Queue → Queue) : (s.modQueue q f).free = s.free := by unfold State.modQueue; split <;> rfl
@[simp] theorem State.modQueue_hubCount (q : Nat) (f : Queue → Queue) : (s.modQueue q f).hubCount = s.hubCount := by unfold State.modQueue; split <;> rfl
@[simp] theorem State.modQueue_regs (q : Nat) (f : Queue → Queue) : (s.modQueue q f).regs = s.regs := by unfold State.modQueue; split <;> rfl
@[simp] theorem State.modQueue_hbm (q : Nat) (f : Queue → Queue) : (s.modQueue q f).hbm = s.hbm := by unfold State.modQueue; split <;> rfl
@[simp] theorem State.modQueue_host (q : Nat) (f : Queue → Queue) : (s.modQueue q f).host = s.host := by unfold State.modQueue; split <;> rfl
@[simp] theorem State.modQueue_poison (q : Nat) (f : Queue → Queue) : (s.modQueue q f).poison = s.poison := by unfold State.modQueue; split <;> rfl
@[simp] theorem State.modQueue_tags (q : Nat) (f : Queue → Queue) : (s.modQueue q f).tags = s.tags := by unfold State.modQueue; split <;> rfl
@[simp] theorem State.modQueue_frames (q : Nat) (f : Queue → Queue) : (s.modQueue q f).frames = s.frames := by unfold State.modQueue; split <;> rfl
@[simp] theorem State.modQueue_regions (q : Nat) (f : Queue → Queue) : (s.modQueue q f).regions = s.regions := by unfold State.modQueue; split <;> rfl
@[simp] theorem State.modQueue_fabrics (q : Nat) (f : Queue → Queue) : (s.modQueue q f).fabrics = s.fabrics := by unfold State.modQueue; split <;> rfl
@[simp] theorem State.modQueue_spine (q : Nat) (f : Queue → Queue) : (s.modQueue q f).spine = s.spine := by unfold State.modQueue; split <;> rfl
@[simp] theorem State.modQueue_spineFailed (q : Nat) (f : Queue → Queue) : (s.modQueue q f).spineFailed = s.spineFailed := by unfold State.modQueue; split <;> rfl
@[simp] theorem State.modQueue_cores (q : Nat) (f : Queue → Queue) : (s.modQueue q f).cores = s.cores := by unfold State.modQueue; split <;> rfl
@[simp] theorem State.modQueue_caches (q : Nat) (f : Queue → Queue) : (s.modQueue q f).caches = s.caches := by unfold State.modQueue; split <;> rfl
@[simp] theorem State.modQueue_homes (q : Nat) (f : Queue → Queue) : (s.modQueue q f).homes = s.homes := by unfold State.modQueue; split <;> rfl
@[simp] theorem State.modQueue_hostHome (q : Nat) (f : Queue → Queue) : (s.modQueue q f).hostHome = s.hostHome := by unfold State.modQueue; split <;> rfl
@[simp] theorem State.modQueue_hostLines (q : Nat) (f : Queue → Queue) : (s.modQueue q f).hostLines = s.hostLines := by unfold State.modQueue; split <;> rfl
@[simp] theorem State.modQueue_hubWatch (q : Nat) (f : Queue → Queue) : (s.modQueue q f).hubWatch = s.hubWatch := by unfold State.modQueue; split <;> rfl
@[simp] theorem State.modQueue_booksAt (q : Nat) (f : Queue → Queue) : (s.modQueue q f).booksAt = s.booksAt := by unfold State.modQueue; split <;> rfl
@[simp] theorem State.modQueue_foreAt (q : Nat) (f : Queue → Queue) : (s.modQueue q f).foreAt = s.foreAt := by unfold State.modQueue; split <;> rfl
@[simp] theorem State.modQueue_reqs (q : Nat) (f : Queue → Queue) : (s.modQueue q f).reqs = s.reqs := by unfold State.modQueue; split <;> rfl
@[simp] theorem State.modQueue_nextId (q : Nat) (f : Queue → Queue) : (s.modQueue q f).nextId = s.nextId := by unfold State.modQueue; split <;> rfl
@[simp] theorem State.modQueue_offers (q : Nat) (f : Queue → Queue) : (s.modQueue q f).offers = s.offers := by unfold State.modQueue; split <;> rfl
@[simp] theorem State.modQueue_updates (q : Nat) (f : Queue → Queue) : (s.modQueue q f).updates = s.updates := by unfold State.modQueue; split <;> rfl
@[simp] theorem State.modQueue_bars (q : Nat) (f : Queue → Queue) : (s.modQueue q f).bars = s.bars := by unfold State.modQueue; split <;> rfl
@[simp] theorem State.modQueue_sifts (q : Nat) (f : Queue → Queue) : (s.modQueue q f).sifts = s.sifts := by unfold State.modQueue; split <;> rfl
@[simp] theorem State.modQueue_units (q : Nat) (f : Queue → Queue) : (s.modQueue q f).units = s.units := by unfold State.modQueue; split <;> rfl
@[simp] theorem State.modQueue_walks (q : Nat) (f : Queue → Queue) : (s.modQueue q f).walks = s.walks := by unfold State.modQueue; split <;> rfl
@[simp] theorem State.modQueue_walkers (q : Nat) (f : Queue → Queue) : (s.modQueue q f).walkers = s.walkers := by unfold State.modQueue; split <;> rfl
@[simp] theorem State.modQueue_hubTlb (q : Nat) (f : Queue → Queue) : (s.modQueue q f).hubTlb = s.hubTlb := by unfold State.modQueue; split <;> rfl
@[simp] theorem State.modQueue_cpyTlb (q : Nat) (f : Queue → Queue) : (s.modQueue q f).cpyTlb = s.cpyTlb := by unfold State.modQueue; split <;> rfl
@[simp] theorem State.modQueue_chans (q : Nat) (f : Queue → Queue) : (s.modQueue q f).chans = s.chans := by unfold State.modQueue; split <;> rfl
@[simp] theorem State.modQueue_ctxs (q : Nat) (f : Queue → Queue) : (s.modQueue q f).ctxs = s.ctxs := by unfold State.modQueue; split <;> rfl
@[simp] theorem State.modQueue_folios (q : Nat) (f : Queue → Queue) : (s.modQueue q f).folios = s.folios := by unfold State.modQueue; split <;> rfl
@[simp] theorem State.modQueue_coreSl (q : Nat) (f : Queue → Queue) : (s.modQueue q f).coreSl = s.coreSl := by unfold State.modQueue; split <;> rfl
@[simp] theorem State.modQueue_memSl (q : Nat) (f : Queue → Queue) : (s.modQueue q f).memSl = s.memSl := by unfold State.modQueue; split <;> rfl
@[simp] theorem State.modQueue_linkSl (q : Nat) (f : Queue → Queue) : (s.modQueue q f).linkSl = s.linkSl := by unfold State.modQueue; split <;> rfl
@[simp] theorem State.modQueue_prots (q : Nat) (f : Queue → Queue) : (s.modQueue q f).prots = s.prots := by unfold State.modQueue; split <;> rfl
@[simp] theorem State.modQueue_links (q : Nat) (f : Queue → Queue) : (s.modQueue q f).links = s.links := by unfold State.modQueue; split <;> rfl
@[simp] theorem State.modQueue_evrings (q : Nat) (f : Queue → Queue) : (s.modQueue q f).evrings = s.evrings := by unfold State.modQueue; split <;> rfl
@[simp] theorem State.modQueue_refSubs (q : Nat) (f : Queue → Queue) : (s.modQueue q f).refSubs = s.refSubs := by unfold State.modQueue; split <;> rfl
@[simp] theorem State.modQueue_lastRefs (q : Nat) (f : Queue → Queue) : (s.modQueue q f).lastRefs = s.lastRefs := by unfold State.modQueue; split <;> rfl
@[simp] theorem State.modQueue_cyclic (q : Nat) (f : Queue → Queue) : (s.modQueue q f).cyclic = s.cyclic := by unfold State.modQueue; split <;> rfl
@[simp] theorem State.modQueue_corrSeq (q : Nat) (f : Queue → Queue) : (s.modQueue q f).corrSeq = s.corrSeq := by unfold State.modQueue; split <;> rfl
@[simp] theorem State.modQueue_corrFrom (q : Nat) (f : Queue → Queue) : (s.modQueue q f).corrFrom = s.corrFrom := by unfold State.modQueue; split <;> rfl
@[simp] theorem State.modQueue_corrDue (q : Nat) (f : Queue → Queue) : (s.modQueue q f).corrDue = s.corrDue := by unfold State.modQueue; split <;> rfl
@[simp] theorem State.modQueue_cfg (q : Nat) (f : Queue → Queue) : (s.modQueue q f).cfg = s.cfg := by unfold State.modQueue; split <;> rfl
@[simp] theorem State.modQueue_power (q : Nat) (f : Queue → Queue) : (s.modQueue q f).power = s.power := by unfold State.modQueue; split <;> rfl
@[simp] theorem State.modQueue_net (q : Nat) (f : Queue → Queue) : (s.modQueue q f).net = s.net := by unfold State.modQueue; split <;> rfl
@[simp] theorem State.modQueue_rounds (q : Nat) (f : Queue → Queue) : (s.modQueue q f).rounds = s.rounds := by unfold State.modQueue; split <;> rfl
@[simp] theorem State.modQueue_urgency (q : Nat) (f : Queue → Queue) : (s.modQueue q f).urgency = s.urgency := by unfold State.modQueue; split <;> rfl
@[simp] theorem State.modQueue_urgSince (q : Nat) (f : Queue → Queue) : (s.modQueue q f).urgSince = s.urgSince := by unfold State.modQueue; split <;> rfl
@[simp] theorem State.modQueue_urgNoted (q : Nat) (f : Queue → Queue) : (s.modQueue q f).urgNoted = s.urgNoted := by unfold State.modQueue; split <;> rfl
@[simp] theorem State.modQueue_clasp (q : Nat) (f : Queue → Queue) : (s.modQueue q f).clasp = s.clasp := by unfold State.modQueue; split <;> rfl
@[simp] theorem State.modQueue_link (q : Nat) (f : Queue → Queue) : (s.modQueue q f).link = s.link := by unfold State.modQueue; split <;> rfl
@[simp] theorem State.modQueue_fuses (q : Nat) (f : Queue → Queue) : (s.modQueue q f).fuses = s.fuses := by unfold State.modQueue; split <;> rfl
@[simp] theorem State.modQueue_capState (q : Nat) (f : Queue → Queue) : (s.modQueue q f).capState = s.capState := by unfold State.modQueue; split <;> rfl
@[simp] theorem State.modQueue_capGen (q : Nat) (f : Queue → Queue) : (s.modQueue q f).capGen = s.capGen := by unfold State.modQueue; split <;> rfl
@[simp] theorem State.modQueue_fore (q : Nat) (f : Queue → Queue) : (s.modQueue q f).fore = s.fore := by unfold State.modQueue; split <;> rfl
@[simp] theorem State.modQueue_standby (q : Nat) (f : Queue → Queue) : (s.modQueue q f).standby = s.standby := by unfold State.modQueue; split <;> rfl
@[simp] theorem State.modQueue_peerLost (q : Nat) (f : Queue → Queue) : (s.modQueue q f).peerLost = s.peerLost := by unfold State.modQueue; split <;> rfl
@[simp] theorem State.modQueue_kept (q : Nat) (f : Queue → Queue) : (s.modQueue q f).kept = s.kept := by unfold State.modQueue; split <;> rfl
@[simp] theorem State.modQueue_darkNoted (q : Nat) (f : Queue → Queue) : (s.modQueue q f).darkNoted = s.darkNoted := by unfold State.modQueue; split <;> rfl
@[simp] theorem State.modQueue_out (q : Nat) (f : Queue → Queue) : (s.modQueue q f).out = s.out := by unfold State.modQueue; split <;> rfl

/-! ### modReq -/
@[simp] theorem State.modReq_pending (r : Nat) (f : Req → Req) : (s.modReq r f).pending = s.pending := by unfold State.modReq; split <;> rfl
@[simp] theorem State.modReq_free (r : Nat) (f : Req → Req) : (s.modReq r f).free = s.free := by unfold State.modReq; split <;> rfl
@[simp] theorem State.modReq_hubCount (r : Nat) (f : Req → Req) : (s.modReq r f).hubCount = s.hubCount := by unfold State.modReq; split <;> rfl
@[simp] theorem State.modReq_regs (r : Nat) (f : Req → Req) : (s.modReq r f).regs = s.regs := by unfold State.modReq; split <;> rfl
@[simp] theorem State.modReq_hbm (r : Nat) (f : Req → Req) : (s.modReq r f).hbm = s.hbm := by unfold State.modReq; split <;> rfl
@[simp] theorem State.modReq_host (r : Nat) (f : Req → Req) : (s.modReq r f).host = s.host := by unfold State.modReq; split <;> rfl
@[simp] theorem State.modReq_poison (r : Nat) (f : Req → Req) : (s.modReq r f).poison = s.poison := by unfold State.modReq; split <;> rfl
@[simp] theorem State.modReq_tags (r : Nat) (f : Req → Req) : (s.modReq r f).tags = s.tags := by unfold State.modReq; split <;> rfl
@[simp] theorem State.modReq_frames (r : Nat) (f : Req → Req) : (s.modReq r f).frames = s.frames := by unfold State.modReq; split <;> rfl
@[simp] theorem State.modReq_regions (r : Nat) (f : Req → Req) : (s.modReq r f).regions = s.regions := by unfold State.modReq; split <;> rfl
@[simp] theorem State.modReq_fabrics (r : Nat) (f : Req → Req) : (s.modReq r f).fabrics = s.fabrics := by unfold State.modReq; split <;> rfl
@[simp] theorem State.modReq_spine (r : Nat) (f : Req → Req) : (s.modReq r f).spine = s.spine := by unfold State.modReq; split <;> rfl
@[simp] theorem State.modReq_spineFailed (r : Nat) (f : Req → Req) : (s.modReq r f).spineFailed = s.spineFailed := by unfold State.modReq; split <;> rfl
@[simp] theorem State.modReq_cores (r : Nat) (f : Req → Req) : (s.modReq r f).cores = s.cores := by unfold State.modReq; split <;> rfl
@[simp] theorem State.modReq_caches (r : Nat) (f : Req → Req) : (s.modReq r f).caches = s.caches := by unfold State.modReq; split <;> rfl
@[simp] theorem State.modReq_homes (r : Nat) (f : Req → Req) : (s.modReq r f).homes = s.homes := by unfold State.modReq; split <;> rfl
@[simp] theorem State.modReq_hostHome (r : Nat) (f : Req → Req) : (s.modReq r f).hostHome = s.hostHome := by unfold State.modReq; split <;> rfl
@[simp] theorem State.modReq_hostLines (r : Nat) (f : Req → Req) : (s.modReq r f).hostLines = s.hostLines := by unfold State.modReq; split <;> rfl
@[simp] theorem State.modReq_hubWatch (r : Nat) (f : Req → Req) : (s.modReq r f).hubWatch = s.hubWatch := by unfold State.modReq; split <;> rfl
@[simp] theorem State.modReq_booksAt (r : Nat) (f : Req → Req) : (s.modReq r f).booksAt = s.booksAt := by unfold State.modReq; split <;> rfl
@[simp] theorem State.modReq_foreAt (r : Nat) (f : Req → Req) : (s.modReq r f).foreAt = s.foreAt := by unfold State.modReq; split <;> rfl
@[simp] theorem State.modReq_nextId (r : Nat) (f : Req → Req) : (s.modReq r f).nextId = s.nextId := by unfold State.modReq; split <;> rfl
@[simp] theorem State.modReq_offers (r : Nat) (f : Req → Req) : (s.modReq r f).offers = s.offers := by unfold State.modReq; split <;> rfl
@[simp] theorem State.modReq_updates (r : Nat) (f : Req → Req) : (s.modReq r f).updates = s.updates := by unfold State.modReq; split <;> rfl
@[simp] theorem State.modReq_bars (r : Nat) (f : Req → Req) : (s.modReq r f).bars = s.bars := by unfold State.modReq; split <;> rfl
@[simp] theorem State.modReq_sifts (r : Nat) (f : Req → Req) : (s.modReq r f).sifts = s.sifts := by unfold State.modReq; split <;> rfl
@[simp] theorem State.modReq_units (r : Nat) (f : Req → Req) : (s.modReq r f).units = s.units := by unfold State.modReq; split <;> rfl
@[simp] theorem State.modReq_walks (r : Nat) (f : Req → Req) : (s.modReq r f).walks = s.walks := by unfold State.modReq; split <;> rfl
@[simp] theorem State.modReq_walkers (r : Nat) (f : Req → Req) : (s.modReq r f).walkers = s.walkers := by unfold State.modReq; split <;> rfl
@[simp] theorem State.modReq_hubTlb (r : Nat) (f : Req → Req) : (s.modReq r f).hubTlb = s.hubTlb := by unfold State.modReq; split <;> rfl
@[simp] theorem State.modReq_cpyTlb (r : Nat) (f : Req → Req) : (s.modReq r f).cpyTlb = s.cpyTlb := by unfold State.modReq; split <;> rfl
@[simp] theorem State.modReq_chans (r : Nat) (f : Req → Req) : (s.modReq r f).chans = s.chans := by unfold State.modReq; split <;> rfl
@[simp] theorem State.modReq_ctxs (r : Nat) (f : Req → Req) : (s.modReq r f).ctxs = s.ctxs := by unfold State.modReq; split <;> rfl
@[simp] theorem State.modReq_folios (r : Nat) (f : Req → Req) : (s.modReq r f).folios = s.folios := by unfold State.modReq; split <;> rfl
@[simp] theorem State.modReq_coreSl (r : Nat) (f : Req → Req) : (s.modReq r f).coreSl = s.coreSl := by unfold State.modReq; split <;> rfl
@[simp] theorem State.modReq_memSl (r : Nat) (f : Req → Req) : (s.modReq r f).memSl = s.memSl := by unfold State.modReq; split <;> rfl
@[simp] theorem State.modReq_linkSl (r : Nat) (f : Req → Req) : (s.modReq r f).linkSl = s.linkSl := by unfold State.modReq; split <;> rfl
@[simp] theorem State.modReq_prots (r : Nat) (f : Req → Req) : (s.modReq r f).prots = s.prots := by unfold State.modReq; split <;> rfl
@[simp] theorem State.modReq_links (r : Nat) (f : Req → Req) : (s.modReq r f).links = s.links := by unfold State.modReq; split <;> rfl
@[simp] theorem State.modReq_queues (r : Nat) (f : Req → Req) : (s.modReq r f).queues = s.queues := by unfold State.modReq; split <;> rfl
@[simp] theorem State.modReq_evrings (r : Nat) (f : Req → Req) : (s.modReq r f).evrings = s.evrings := by unfold State.modReq; split <;> rfl
@[simp] theorem State.modReq_refSubs (r : Nat) (f : Req → Req) : (s.modReq r f).refSubs = s.refSubs := by unfold State.modReq; split <;> rfl
@[simp] theorem State.modReq_lastRefs (r : Nat) (f : Req → Req) : (s.modReq r f).lastRefs = s.lastRefs := by unfold State.modReq; split <;> rfl
@[simp] theorem State.modReq_cyclic (r : Nat) (f : Req → Req) : (s.modReq r f).cyclic = s.cyclic := by unfold State.modReq; split <;> rfl
@[simp] theorem State.modReq_corrSeq (r : Nat) (f : Req → Req) : (s.modReq r f).corrSeq = s.corrSeq := by unfold State.modReq; split <;> rfl
@[simp] theorem State.modReq_corrFrom (r : Nat) (f : Req → Req) : (s.modReq r f).corrFrom = s.corrFrom := by unfold State.modReq; split <;> rfl
@[simp] theorem State.modReq_corrDue (r : Nat) (f : Req → Req) : (s.modReq r f).corrDue = s.corrDue := by unfold State.modReq; split <;> rfl
@[simp] theorem State.modReq_cfg (r : Nat) (f : Req → Req) : (s.modReq r f).cfg = s.cfg := by unfold State.modReq; split <;> rfl
@[simp] theorem State.modReq_power (r : Nat) (f : Req → Req) : (s.modReq r f).power = s.power := by unfold State.modReq; split <;> rfl
@[simp] theorem State.modReq_net (r : Nat) (f : Req → Req) : (s.modReq r f).net = s.net := by unfold State.modReq; split <;> rfl
@[simp] theorem State.modReq_rounds (r : Nat) (f : Req → Req) : (s.modReq r f).rounds = s.rounds := by unfold State.modReq; split <;> rfl
@[simp] theorem State.modReq_urgency (r : Nat) (f : Req → Req) : (s.modReq r f).urgency = s.urgency := by unfold State.modReq; split <;> rfl
@[simp] theorem State.modReq_urgSince (r : Nat) (f : Req → Req) : (s.modReq r f).urgSince = s.urgSince := by unfold State.modReq; split <;> rfl
@[simp] theorem State.modReq_urgNoted (r : Nat) (f : Req → Req) : (s.modReq r f).urgNoted = s.urgNoted := by unfold State.modReq; split <;> rfl
@[simp] theorem State.modReq_clasp (r : Nat) (f : Req → Req) : (s.modReq r f).clasp = s.clasp := by unfold State.modReq; split <;> rfl
@[simp] theorem State.modReq_link (r : Nat) (f : Req → Req) : (s.modReq r f).link = s.link := by unfold State.modReq; split <;> rfl
@[simp] theorem State.modReq_fuses (r : Nat) (f : Req → Req) : (s.modReq r f).fuses = s.fuses := by unfold State.modReq; split <;> rfl
@[simp] theorem State.modReq_capState (r : Nat) (f : Req → Req) : (s.modReq r f).capState = s.capState := by unfold State.modReq; split <;> rfl
@[simp] theorem State.modReq_capGen (r : Nat) (f : Req → Req) : (s.modReq r f).capGen = s.capGen := by unfold State.modReq; split <;> rfl
@[simp] theorem State.modReq_fore (r : Nat) (f : Req → Req) : (s.modReq r f).fore = s.fore := by unfold State.modReq; split <;> rfl
@[simp] theorem State.modReq_standby (r : Nat) (f : Req → Req) : (s.modReq r f).standby = s.standby := by unfold State.modReq; split <;> rfl
@[simp] theorem State.modReq_peerLost (r : Nat) (f : Req → Req) : (s.modReq r f).peerLost = s.peerLost := by unfold State.modReq; split <;> rfl
@[simp] theorem State.modReq_kept (r : Nat) (f : Req → Req) : (s.modReq r f).kept = s.kept := by unfold State.modReq; split <;> rfl
@[simp] theorem State.modReq_darkNoted (r : Nat) (f : Req → Req) : (s.modReq r f).darkNoted = s.darkNoted := by unfold State.modReq; split <;> rfl
@[simp] theorem State.modReq_out (r : Nat) (f : Req → Req) : (s.modReq r f).out = s.out := by unfold State.modReq; split <;> rfl

/-! ### voidSweep -/
@[simp] theorem State.voidSweep_pending : (s.voidSweep ).pending = s.pending := by unfold State.voidSweep; split <;> rfl
@[simp] theorem State.voidSweep_free : (s.voidSweep ).free = s.free := by unfold State.voidSweep; split <;> rfl
@[simp] theorem State.voidSweep_hubCount : (s.voidSweep ).hubCount = s.hubCount := by unfold State.voidSweep; split <;> rfl
@[simp] theorem State.voidSweep_regs : (s.voidSweep ).regs = s.regs := by unfold State.voidSweep; split <;> rfl
@[simp] theorem State.voidSweep_hbm : (s.voidSweep ).hbm = s.hbm := by unfold State.voidSweep; split <;> rfl
@[simp] theorem State.voidSweep_host : (s.voidSweep ).host = s.host := by unfold State.voidSweep; split <;> rfl
@[simp] theorem State.voidSweep_poison : (s.voidSweep ).poison = s.poison := by unfold State.voidSweep; split <;> rfl
@[simp] theorem State.voidSweep_tags : (s.voidSweep ).tags = s.tags := by unfold State.voidSweep; split <;> rfl
@[simp] theorem State.voidSweep_frames : (s.voidSweep ).frames = s.frames := by unfold State.voidSweep; split <;> rfl
@[simp] theorem State.voidSweep_regions : (s.voidSweep ).regions = s.regions := by unfold State.voidSweep; split <;> rfl
@[simp] theorem State.voidSweep_fabrics : (s.voidSweep ).fabrics = s.fabrics := by unfold State.voidSweep; split <;> rfl
@[simp] theorem State.voidSweep_spine : (s.voidSweep ).spine = s.spine := by unfold State.voidSweep; split <;> rfl
@[simp] theorem State.voidSweep_spineFailed : (s.voidSweep ).spineFailed = s.spineFailed := by unfold State.voidSweep; split <;> rfl
@[simp] theorem State.voidSweep_cores : (s.voidSweep ).cores = s.cores := by unfold State.voidSweep; split <;> rfl
@[simp] theorem State.voidSweep_caches : (s.voidSweep ).caches = s.caches := by unfold State.voidSweep; split <;> rfl
@[simp] theorem State.voidSweep_homes : (s.voidSweep ).homes = s.homes := by unfold State.voidSweep; split <;> rfl
@[simp] theorem State.voidSweep_hostHome : (s.voidSweep ).hostHome = s.hostHome := by unfold State.voidSweep; split <;> rfl
@[simp] theorem State.voidSweep_hostLines : (s.voidSweep ).hostLines = s.hostLines := by unfold State.voidSweep; split <;> rfl
@[simp] theorem State.voidSweep_hubWatch : (s.voidSweep ).hubWatch = s.hubWatch := by unfold State.voidSweep; split <;> rfl
@[simp] theorem State.voidSweep_booksAt : (s.voidSweep ).booksAt = s.booksAt := by unfold State.voidSweep; split <;> rfl
@[simp] theorem State.voidSweep_foreAt : (s.voidSweep ).foreAt = s.foreAt := by unfold State.voidSweep; split <;> rfl
@[simp] theorem State.voidSweep_reqs : (s.voidSweep ).reqs = s.reqs := by unfold State.voidSweep; split <;> rfl
@[simp] theorem State.voidSweep_nextId : (s.voidSweep ).nextId = s.nextId := by unfold State.voidSweep; split <;> rfl
@[simp] theorem State.voidSweep_offers : (s.voidSweep ).offers = s.offers := by unfold State.voidSweep; split <;> rfl
@[simp] theorem State.voidSweep_updates : (s.voidSweep ).updates = s.updates := by unfold State.voidSweep; split <;> rfl
@[simp] theorem State.voidSweep_bars : (s.voidSweep ).bars = s.bars := by unfold State.voidSweep; split <;> rfl
@[simp] theorem State.voidSweep_sifts : (s.voidSweep ).sifts = s.sifts := by unfold State.voidSweep; split <;> rfl
@[simp] theorem State.voidSweep_units : (s.voidSweep ).units = s.units := by unfold State.voidSweep; split <;> rfl
@[simp] theorem State.voidSweep_walks : (s.voidSweep ).walks = s.walks := by unfold State.voidSweep; split <;> rfl
@[simp] theorem State.voidSweep_walkers : (s.voidSweep ).walkers = s.walkers := by unfold State.voidSweep; split <;> rfl
@[simp] theorem State.voidSweep_hubTlb : (s.voidSweep ).hubTlb = s.hubTlb := by unfold State.voidSweep; split <;> rfl
@[simp] theorem State.voidSweep_cpyTlb : (s.voidSweep ).cpyTlb = s.cpyTlb := by unfold State.voidSweep; split <;> rfl
@[simp] theorem State.voidSweep_chans : (s.voidSweep ).chans = s.chans := by unfold State.voidSweep; split <;> rfl
@[simp] theorem State.voidSweep_ctxs : (s.voidSweep ).ctxs = s.ctxs := by unfold State.voidSweep; split <;> rfl
@[simp] theorem State.voidSweep_folios : (s.voidSweep ).folios = s.folios := by unfold State.voidSweep; split <;> rfl
@[simp] theorem State.voidSweep_coreSl : (s.voidSweep ).coreSl = s.coreSl := by unfold State.voidSweep; split <;> rfl
@[simp] theorem State.voidSweep_memSl : (s.voidSweep ).memSl = s.memSl := by unfold State.voidSweep; split <;> rfl
@[simp] theorem State.voidSweep_linkSl : (s.voidSweep ).linkSl = s.linkSl := by unfold State.voidSweep; split <;> rfl
@[simp] theorem State.voidSweep_prots : (s.voidSweep ).prots = s.prots := by unfold State.voidSweep; split <;> rfl
@[simp] theorem State.voidSweep_links : (s.voidSweep ).links = s.links := by unfold State.voidSweep; split <;> rfl
@[simp] theorem State.voidSweep_queues : (s.voidSweep ).queues = s.queues := by unfold State.voidSweep; split <;> rfl
@[simp] theorem State.voidSweep_evrings : (s.voidSweep ).evrings = s.evrings := by unfold State.voidSweep; split <;> rfl
@[simp] theorem State.voidSweep_refSubs : (s.voidSweep ).refSubs = s.refSubs := by unfold State.voidSweep; split <;> rfl
@[simp] theorem State.voidSweep_lastRefs : (s.voidSweep ).lastRefs = s.lastRefs := by unfold State.voidSweep; split <;> rfl
@[simp] theorem State.voidSweep_cyclic : (s.voidSweep ).cyclic = s.cyclic := by unfold State.voidSweep; split <;> rfl
@[simp] theorem State.voidSweep_corrSeq : (s.voidSweep ).corrSeq = s.corrSeq := by unfold State.voidSweep; split <;> rfl
@[simp] theorem State.voidSweep_corrFrom : (s.voidSweep ).corrFrom = s.corrFrom := by unfold State.voidSweep; split <;> rfl
@[simp] theorem State.voidSweep_corrDue : (s.voidSweep ).corrDue = s.corrDue := by unfold State.voidSweep; split <;> rfl
@[simp] theorem State.voidSweep_power : (s.voidSweep ).power = s.power := by unfold State.voidSweep; split <;> rfl
@[simp] theorem State.voidSweep_net : (s.voidSweep ).net = s.net := by unfold State.voidSweep; split <;> rfl
@[simp] theorem State.voidSweep_rounds : (s.voidSweep ).rounds = s.rounds := by unfold State.voidSweep; split <;> rfl
@[simp] theorem State.voidSweep_urgency : (s.voidSweep ).urgency = s.urgency := by unfold State.voidSweep; split <;> rfl
@[simp] theorem State.voidSweep_urgSince : (s.voidSweep ).urgSince = s.urgSince := by unfold State.voidSweep; split <;> rfl
@[simp] theorem State.voidSweep_urgNoted : (s.voidSweep ).urgNoted = s.urgNoted := by unfold State.voidSweep; split <;> rfl
@[simp] theorem State.voidSweep_clasp : (s.voidSweep ).clasp = s.clasp := by unfold State.voidSweep; split <;> rfl
@[simp] theorem State.voidSweep_link : (s.voidSweep ).link = s.link := by unfold State.voidSweep; split <;> rfl
@[simp] theorem State.voidSweep_fuses : (s.voidSweep ).fuses = s.fuses := by unfold State.voidSweep; split <;> rfl
@[simp] theorem State.voidSweep_capState : (s.voidSweep ).capState = s.capState := by unfold State.voidSweep; split <;> rfl
@[simp] theorem State.voidSweep_capGen : (s.voidSweep ).capGen = s.capGen := by unfold State.voidSweep; split <;> rfl
@[simp] theorem State.voidSweep_fore : (s.voidSweep ).fore = s.fore := by unfold State.voidSweep; split <;> rfl
@[simp] theorem State.voidSweep_standby : (s.voidSweep ).standby = s.standby := by unfold State.voidSweep; split <;> rfl
@[simp] theorem State.voidSweep_peerLost : (s.voidSweep ).peerLost = s.peerLost := by unfold State.voidSweep; split <;> rfl
@[simp] theorem State.voidSweep_kept : (s.voidSweep ).kept = s.kept := by unfold State.voidSweep; split <;> rfl
@[simp] theorem State.voidSweep_darkNoted : (s.voidSweep ).darkNoted = s.darkNoted := by unfold State.voidSweep; split <;> rfl
@[simp] theorem State.voidSweep_out : (s.voidSweep ).out = s.out := by unfold State.voidSweep; split <;> rfl

/-! ### writeFld -/
@[simp] theorem State.writeFld_pending (c lo wd v : Nat) : (s.writeFld c lo wd v).pending = s.pending := by simp [State.writeFld]
@[simp] theorem State.writeFld_free (c lo wd v : Nat) : (s.writeFld c lo wd v).free = s.free := by simp [State.writeFld]
@[simp] theorem State.writeFld_hubCount (c lo wd v : Nat) : (s.writeFld c lo wd v).hubCount = s.hubCount := by simp [State.writeFld]
@[simp] theorem State.writeFld_hbm (c lo wd v : Nat) : (s.writeFld c lo wd v).hbm = s.hbm := by simp [State.writeFld]
@[simp] theorem State.writeFld_host (c lo wd v : Nat) : (s.writeFld c lo wd v).host = s.host := by simp [State.writeFld]
@[simp] theorem State.writeFld_poison (c lo wd v : Nat) : (s.writeFld c lo wd v).poison = s.poison := by simp [State.writeFld]
@[simp] theorem State.writeFld_tags (c lo wd v : Nat) : (s.writeFld c lo wd v).tags = s.tags := by simp [State.writeFld]
@[simp] theorem State.writeFld_frames (c lo wd v : Nat) : (s.writeFld c lo wd v).frames = s.frames := by simp [State.writeFld]
@[simp] theorem State.writeFld_regions (c lo wd v : Nat) : (s.writeFld c lo wd v).regions = s.regions := by simp [State.writeFld]
@[simp] theorem State.writeFld_fabrics (c lo wd v : Nat) : (s.writeFld c lo wd v).fabrics = s.fabrics := by simp [State.writeFld]
@[simp] theorem State.writeFld_spine (c lo wd v : Nat) : (s.writeFld c lo wd v).spine = s.spine := by simp [State.writeFld]
@[simp] theorem State.writeFld_spineFailed (c lo wd v : Nat) : (s.writeFld c lo wd v).spineFailed = s.spineFailed := by simp [State.writeFld]
@[simp] theorem State.writeFld_cores (c lo wd v : Nat) : (s.writeFld c lo wd v).cores = s.cores := by simp [State.writeFld]
@[simp] theorem State.writeFld_caches (c lo wd v : Nat) : (s.writeFld c lo wd v).caches = s.caches := by simp [State.writeFld]
@[simp] theorem State.writeFld_homes (c lo wd v : Nat) : (s.writeFld c lo wd v).homes = s.homes := by simp [State.writeFld]
@[simp] theorem State.writeFld_hostHome (c lo wd v : Nat) : (s.writeFld c lo wd v).hostHome = s.hostHome := by simp [State.writeFld]
@[simp] theorem State.writeFld_hostLines (c lo wd v : Nat) : (s.writeFld c lo wd v).hostLines = s.hostLines := by simp [State.writeFld]
@[simp] theorem State.writeFld_hubWatch (c lo wd v : Nat) : (s.writeFld c lo wd v).hubWatch = s.hubWatch := by simp [State.writeFld]
@[simp] theorem State.writeFld_booksAt (c lo wd v : Nat) : (s.writeFld c lo wd v).booksAt = s.booksAt := by simp [State.writeFld]
@[simp] theorem State.writeFld_foreAt (c lo wd v : Nat) : (s.writeFld c lo wd v).foreAt = s.foreAt := by simp [State.writeFld]
@[simp] theorem State.writeFld_reqs (c lo wd v : Nat) : (s.writeFld c lo wd v).reqs = s.reqs := by simp [State.writeFld]
@[simp] theorem State.writeFld_nextId (c lo wd v : Nat) : (s.writeFld c lo wd v).nextId = s.nextId := by simp [State.writeFld]
@[simp] theorem State.writeFld_offers (c lo wd v : Nat) : (s.writeFld c lo wd v).offers = s.offers := by simp [State.writeFld]
@[simp] theorem State.writeFld_updates (c lo wd v : Nat) : (s.writeFld c lo wd v).updates = s.updates := by simp [State.writeFld]
@[simp] theorem State.writeFld_bars (c lo wd v : Nat) : (s.writeFld c lo wd v).bars = s.bars := by simp [State.writeFld]
@[simp] theorem State.writeFld_sifts (c lo wd v : Nat) : (s.writeFld c lo wd v).sifts = s.sifts := by simp [State.writeFld]
@[simp] theorem State.writeFld_units (c lo wd v : Nat) : (s.writeFld c lo wd v).units = s.units := by simp [State.writeFld]
@[simp] theorem State.writeFld_walks (c lo wd v : Nat) : (s.writeFld c lo wd v).walks = s.walks := by simp [State.writeFld]
@[simp] theorem State.writeFld_walkers (c lo wd v : Nat) : (s.writeFld c lo wd v).walkers = s.walkers := by simp [State.writeFld]
@[simp] theorem State.writeFld_hubTlb (c lo wd v : Nat) : (s.writeFld c lo wd v).hubTlb = s.hubTlb := by simp [State.writeFld]
@[simp] theorem State.writeFld_cpyTlb (c lo wd v : Nat) : (s.writeFld c lo wd v).cpyTlb = s.cpyTlb := by simp [State.writeFld]
@[simp] theorem State.writeFld_chans (c lo wd v : Nat) : (s.writeFld c lo wd v).chans = s.chans := by simp [State.writeFld]
@[simp] theorem State.writeFld_ctxs (c lo wd v : Nat) : (s.writeFld c lo wd v).ctxs = s.ctxs := by simp [State.writeFld]
@[simp] theorem State.writeFld_folios (c lo wd v : Nat) : (s.writeFld c lo wd v).folios = s.folios := by simp [State.writeFld]
@[simp] theorem State.writeFld_coreSl (c lo wd v : Nat) : (s.writeFld c lo wd v).coreSl = s.coreSl := by simp [State.writeFld]
@[simp] theorem State.writeFld_memSl (c lo wd v : Nat) : (s.writeFld c lo wd v).memSl = s.memSl := by simp [State.writeFld]
@[simp] theorem State.writeFld_linkSl (c lo wd v : Nat) : (s.writeFld c lo wd v).linkSl = s.linkSl := by simp [State.writeFld]
@[simp] theorem State.writeFld_prots (c lo wd v : Nat) : (s.writeFld c lo wd v).prots = s.prots := by simp [State.writeFld]
@[simp] theorem State.writeFld_links (c lo wd v : Nat) : (s.writeFld c lo wd v).links = s.links := by simp [State.writeFld]
@[simp] theorem State.writeFld_queues (c lo wd v : Nat) : (s.writeFld c lo wd v).queues = s.queues := by simp [State.writeFld]
@[simp] theorem State.writeFld_evrings (c lo wd v : Nat) : (s.writeFld c lo wd v).evrings = s.evrings := by simp [State.writeFld]
@[simp] theorem State.writeFld_refSubs (c lo wd v : Nat) : (s.writeFld c lo wd v).refSubs = s.refSubs := by simp [State.writeFld]
@[simp] theorem State.writeFld_lastRefs (c lo wd v : Nat) : (s.writeFld c lo wd v).lastRefs = s.lastRefs := by simp [State.writeFld]
@[simp] theorem State.writeFld_cyclic (c lo wd v : Nat) : (s.writeFld c lo wd v).cyclic = s.cyclic := by simp [State.writeFld]
@[simp] theorem State.writeFld_corrSeq (c lo wd v : Nat) : (s.writeFld c lo wd v).corrSeq = s.corrSeq := by simp [State.writeFld]
@[simp] theorem State.writeFld_corrFrom (c lo wd v : Nat) : (s.writeFld c lo wd v).corrFrom = s.corrFrom := by simp [State.writeFld]
@[simp] theorem State.writeFld_corrDue (c lo wd v : Nat) : (s.writeFld c lo wd v).corrDue = s.corrDue := by simp [State.writeFld]
@[simp] theorem State.writeFld_power (c lo wd v : Nat) : (s.writeFld c lo wd v).power = s.power := by simp [State.writeFld]
@[simp] theorem State.writeFld_net (c lo wd v : Nat) : (s.writeFld c lo wd v).net = s.net := by simp [State.writeFld]
@[simp] theorem State.writeFld_rounds (c lo wd v : Nat) : (s.writeFld c lo wd v).rounds = s.rounds := by simp [State.writeFld]
@[simp] theorem State.writeFld_urgency (c lo wd v : Nat) : (s.writeFld c lo wd v).urgency = s.urgency := by simp [State.writeFld]
@[simp] theorem State.writeFld_urgSince (c lo wd v : Nat) : (s.writeFld c lo wd v).urgSince = s.urgSince := by simp [State.writeFld]
@[simp] theorem State.writeFld_urgNoted (c lo wd v : Nat) : (s.writeFld c lo wd v).urgNoted = s.urgNoted := by simp [State.writeFld]
@[simp] theorem State.writeFld_clasp (c lo wd v : Nat) : (s.writeFld c lo wd v).clasp = s.clasp := by simp [State.writeFld]
@[simp] theorem State.writeFld_link (c lo wd v : Nat) : (s.writeFld c lo wd v).link = s.link := by simp [State.writeFld]
@[simp] theorem State.writeFld_fuses (c lo wd v : Nat) : (s.writeFld c lo wd v).fuses = s.fuses := by simp [State.writeFld]
@[simp] theorem State.writeFld_capState (c lo wd v : Nat) : (s.writeFld c lo wd v).capState = s.capState := by simp [State.writeFld]
@[simp] theorem State.writeFld_capGen (c lo wd v : Nat) : (s.writeFld c lo wd v).capGen = s.capGen := by simp [State.writeFld]
@[simp] theorem State.writeFld_fore (c lo wd v : Nat) : (s.writeFld c lo wd v).fore = s.fore := by simp [State.writeFld]
@[simp] theorem State.writeFld_standby (c lo wd v : Nat) : (s.writeFld c lo wd v).standby = s.standby := by simp [State.writeFld]
@[simp] theorem State.writeFld_peerLost (c lo wd v : Nat) : (s.writeFld c lo wd v).peerLost = s.peerLost := by simp [State.writeFld]
@[simp] theorem State.writeFld_kept (c lo wd v : Nat) : (s.writeFld c lo wd v).kept = s.kept := by simp [State.writeFld]
@[simp] theorem State.writeFld_darkNoted (c lo wd v : Nat) : (s.writeFld c lo wd v).darkNoted = s.darkNoted := by simp [State.writeFld]
@[simp] theorem State.writeFld_out (c lo wd v : Nat) : (s.writeFld c lo wd v).out = s.out := by simp [State.writeFld]

/-! ## Accessors after setters -/

@[simp] theorem State.core_setCore_self (k : Nat) (v : Core) : (s.setCore k v).core k = v := tgetD_tputD_self _ _ _ _
theorem State.core_setCore_ne {j k : Nat} (h : j ≠ k) (v : Core) : (s.setCore k v).core j = s.core j := tgetD_tputD_ne h _ _ _
@[simp] theorem State.core_setCache (n : Nat) (v : Cache) (d : Nat) : (s.setCache n v).core d = s.core d := rfl
@[simp] theorem State.core_setRegion (i : Nat) (v : Region) (d : Nat) : (s.setRegion i v).core d = s.core d := rfl
@[simp] theorem State.core_setFabric (d : Nat) (v : Fabric) (d : Nat) : (s.setFabric d v).core d = s.core d := rfl
@[simp] theorem State.core_setCtx (i : Nat) (v : Context) (d : Nat) : (s.setCtx i v).core d = s.core d := rfl
@[simp] theorem State.core_setFolio (f : Nat) (v : Folio) (d : Nat) : (s.setFolio f v).core d = s.core d := rfl
@[simp] theorem State.core_setQueue (q : Nat) (v : Queue) (d : Nat) : (s.setQueue q v).core d = s.core d := rfl
@[simp] theorem State.core_setChan (c : Nat) (v : Chan) (d : Nat) : (s.setChan c v).core d = s.core d := rfl
@[simp] theorem State.core_setStitch (l : Nat) (v : Link) (d : Nat) : (s.setStitch l v).core d = s.core d := rfl
@[simp] theorem State.core_setUnit (u : Nat) (v : SiftUnit) (d : Nat) : (s.setUnit u v).core d = s.core d := rfl
@[simp] theorem State.core_setWalker (d : Nat) (v : Walker) (d : Nat) : (s.setWalker d v).core d = s.core d := rfl
@[simp] theorem State.core_setReq (r : Nat) (v : Req) (d : Nat) : (s.setReq r v).core d = s.core d := rfl
@[simp] theorem State.core_dropReq (r : Nat) (d : Nat) : (s.dropReq r).core d = s.core d := rfl
@[simp] theorem State.core_setCoreSlice (n : Nat) (v : SliceE) (d : Nat) : (s.setCoreSlice n v).core d = s.core d := rfl
@[simp] theorem State.core_setMemSlice (n : Nat) (v : SliceE) (d : Nat) : (s.setMemSlice n v).core d = s.core d := rfl
@[simp] theorem State.core_setLinkSlice (n : Nat) (v : SliceE) (d : Nat) : (s.setLinkSlice n v).core d = s.core d := rfl
@[simp] theorem State.core_addReq (r : Req) (d : Nat) : (s.addReq r).core d = s.core d := rfl
@[simp] theorem State.core_bumpId (d : Nat) : (s.bumpId ).core d = s.core d := rfl
@[simp] theorem State.core_useFree (d : Nat) : (s.useFree ).core d = s.core d := rfl
@[simp] theorem State.core_emit (o : Out) (d : Nat) : (s.emit o).core d = s.core d := rfl
@[simp] theorem State.core_setReg (c v : Nat) (d : Nat) : (s.setReg c v).core d = s.core d := rfl
@[simp] theorem State.core_setFld (c lo wd v : Nat) (d : Nat) : (s.setFld c lo wd v).core d = s.core d := rfl
@[simp] theorem State.core_bumpFld (c lo wd k : Nat) (d : Nat) : (s.bumpFld c lo wd k).core d = s.core d := rfl
@[simp] theorem State.core_setHome (h : Nat) (v : Home) (d : Nat) : (s.setHome h v).core d = s.core d := by unfold State.setHome; split <;> rfl
@[simp] theorem State.core_modCtx (i : Nat) (f : Context → Context) (d : Nat) : (s.modCtx i f).core d = s.core d := by unfold State.modCtx; split <;> rfl
@[simp] theorem State.core_modQueue (q : Nat) (f : Queue → Queue) (d : Nat) : (s.modQueue q f).core d = s.core d := by unfold State.modQueue; split <;> rfl
@[simp] theorem State.core_modReq (r : Nat) (f : Req → Req) (d : Nat) : (s.modReq r f).core d = s.core d := by unfold State.modReq; split <;> rfl
@[simp] theorem State.core_voidSweep (d : Nat) : (s.voidSweep ).core d = s.core d := by unfold State.voidSweep; split <;> rfl
@[simp] theorem State.core_writeFld (c lo wd v : Nat) (d : Nat) : (s.writeFld c lo wd v).core d = s.core d := by unfold State.writeFld; simp only [State.voidSweep]; split <;> rfl

@[simp] theorem State.cache_setCache_self (k : Nat) (v : Cache) : (s.setCache k v).cache k = v := tgetD_tputD_self _ _ _ _
theorem State.cache_setCache_ne {j k : Nat} (h : j ≠ k) (v : Cache) : (s.setCache k v).cache j = s.cache j := tgetD_tputD_ne h _ _ _
@[simp] theorem State.cache_setCore (c : Nat) (v : Core) (d : Nat) : (s.setCore c v).cache d = s.cache d := rfl
@[simp] theorem State.cache_setSlot (c k : Nat) (v : Slot) (d : Nat) : (s.setSlot c k v).cache d = s.cache d := rfl
@[simp] theorem State.cache_setRegion (i : Nat) (v : Region) (d : Nat) : (s.setRegion i v).cache d = s.cache d := rfl
@[simp] theorem State.cache_setFabric (d : Nat) (v : Fabric) (d : Nat) : (s.setFabric d v).cache d = s.cache d := rfl
@[simp] theorem State.cache_setCtx (i : Nat) (v : Context) (d : Nat) : (s.setCtx i v).cache d = s.cache d := rfl
@[simp] theorem State.cache_setFolio (f : Nat) (v : Folio) (d : Nat) : (s.setFolio f v).cache d = s.cache d := rfl
@[simp] theorem State.cache_setQueue (q : Nat) (v : Queue) (d : Nat) : (s.setQueue q v).cache d = s.cache d := rfl
@[simp] theorem State.cache_setChan (c : Nat) (v : Chan) (d : Nat) : (s.setChan c v).cache d = s.cache d := rfl
@[simp] theorem State.cache_setStitch (l : Nat) (v : Link) (d : Nat) : (s.setStitch l v).cache d = s.cache d := rfl
@[simp] theorem State.cache_setUnit (u : Nat) (v : SiftUnit) (d : Nat) : (s.setUnit u v).cache d = s.cache d := rfl
@[simp] theorem State.cache_setWalker (d : Nat) (v : Walker) (d : Nat) : (s.setWalker d v).cache d = s.cache d := rfl
@[simp] theorem State.cache_setReq (r : Nat) (v : Req) (d : Nat) : (s.setReq r v).cache d = s.cache d := rfl
@[simp] theorem State.cache_dropReq (r : Nat) (d : Nat) : (s.dropReq r).cache d = s.cache d := rfl
@[simp] theorem State.cache_setCoreSlice (n : Nat) (v : SliceE) (d : Nat) : (s.setCoreSlice n v).cache d = s.cache d := rfl
@[simp] theorem State.cache_setMemSlice (n : Nat) (v : SliceE) (d : Nat) : (s.setMemSlice n v).cache d = s.cache d := rfl
@[simp] theorem State.cache_setLinkSlice (n : Nat) (v : SliceE) (d : Nat) : (s.setLinkSlice n v).cache d = s.cache d := rfl
@[simp] theorem State.cache_addReq (r : Req) (d : Nat) : (s.addReq r).cache d = s.cache d := rfl
@[simp] theorem State.cache_bumpId (d : Nat) : (s.bumpId ).cache d = s.cache d := rfl
@[simp] theorem State.cache_useFree (d : Nat) : (s.useFree ).cache d = s.cache d := rfl
@[simp] theorem State.cache_emit (o : Out) (d : Nat) : (s.emit o).cache d = s.cache d := rfl
@[simp] theorem State.cache_setReg (c v : Nat) (d : Nat) : (s.setReg c v).cache d = s.cache d := rfl
@[simp] theorem State.cache_setFld (c lo wd v : Nat) (d : Nat) : (s.setFld c lo wd v).cache d = s.cache d := rfl
@[simp] theorem State.cache_bumpFld (c lo wd k : Nat) (d : Nat) : (s.bumpFld c lo wd k).cache d = s.cache d := rfl
@[simp] theorem State.cache_setHome (h : Nat) (v : Home) (d : Nat) : (s.setHome h v).cache d = s.cache d := by unfold State.setHome; split <;> rfl
@[simp] theorem State.cache_modSlot (c k : Nat) (f : Slot → Slot) (d : Nat) : (s.modSlot c k f).cache d = s.cache d := by unfold State.modSlot; split <;> rfl
@[simp] theorem State.cache_modCtx (i : Nat) (f : Context → Context) (d : Nat) : (s.modCtx i f).cache d = s.cache d := by unfold State.modCtx; split <;> rfl
@[simp] theorem State.cache_modQueue (q : Nat) (f : Queue → Queue) (d : Nat) : (s.modQueue q f).cache d = s.cache d := by unfold State.modQueue; split <;> rfl
@[simp] theorem State.cache_modReq (r : Nat) (f : Req → Req) (d : Nat) : (s.modReq r f).cache d = s.cache d := by unfold State.modReq; split <;> rfl
@[simp] theorem State.cache_voidSweep (d : Nat) : (s.voidSweep ).cache d = s.cache d := by unfold State.voidSweep; split <;> rfl
@[simp] theorem State.cache_writeFld (c lo wd v : Nat) (d : Nat) : (s.writeFld c lo wd v).cache d = s.cache d := by unfold State.writeFld; simp only [State.voidSweep]; split <;> rfl

@[simp] theorem State.region_setRegion_self (k : Nat) (v : Region) : (s.setRegion k v).region k = v := tgetD_tputD_self _ _ _ _
theorem State.region_setRegion_ne {j k : Nat} (h : j ≠ k) (v : Region) : (s.setRegion k v).region j = s.region j := tgetD_tputD_ne h _ _ _
@[simp] theorem State.region_setCore (c : Nat) (v : Core) (d : Nat) : (s.setCore c v).region d = s.region d := rfl
@[simp] theorem State.region_setSlot (c k : Nat) (v : Slot) (d : Nat) : (s.setSlot c k v).region d = s.region d := rfl
@[simp] theorem State.region_setCache (n : Nat) (v : Cache) (d : Nat) : (s.setCache n v).region d = s.region d := rfl
@[simp] theorem State.region_setFabric (d : Nat) (v : Fabric) (d : Nat) : (s.setFabric d v).region d = s.region d := rfl
@[simp] theorem State.region_setCtx (i : Nat) (v : Context) (d : Nat) : (s.setCtx i v).region d = s.region d := rfl
@[simp] theorem State.region_setFolio (f : Nat) (v : Folio) (d : Nat) : (s.setFolio f v).region d = s.region d := rfl
@[simp] theorem State.region_setQueue (q : Nat) (v : Queue) (d : Nat) : (s.setQueue q v).region d = s.region d := rfl
@[simp] theorem State.region_setChan (c : Nat) (v : Chan) (d : Nat) : (s.setChan c v).region d = s.region d := rfl
@[simp] theorem State.region_setStitch (l : Nat) (v : Link) (d : Nat) : (s.setStitch l v).region d = s.region d := rfl
@[simp] theorem State.region_setUnit (u : Nat) (v : SiftUnit) (d : Nat) : (s.setUnit u v).region d = s.region d := rfl
@[simp] theorem State.region_setWalker (d : Nat) (v : Walker) (d : Nat) : (s.setWalker d v).region d = s.region d := rfl
@[simp] theorem State.region_setReq (r : Nat) (v : Req) (d : Nat) : (s.setReq r v).region d = s.region d := rfl
@[simp] theorem State.region_dropReq (r : Nat) (d : Nat) : (s.dropReq r).region d = s.region d := rfl
@[simp] theorem State.region_setCoreSlice (n : Nat) (v : SliceE) (d : Nat) : (s.setCoreSlice n v).region d = s.region d := rfl
@[simp] theorem State.region_setMemSlice (n : Nat) (v : SliceE) (d : Nat) : (s.setMemSlice n v).region d = s.region d := rfl
@[simp] theorem State.region_setLinkSlice (n : Nat) (v : SliceE) (d : Nat) : (s.setLinkSlice n v).region d = s.region d := rfl
@[simp] theorem State.region_addReq (r : Req) (d : Nat) : (s.addReq r).region d = s.region d := rfl
@[simp] theorem State.region_bumpId (d : Nat) : (s.bumpId ).region d = s.region d := rfl
@[simp] theorem State.region_useFree (d : Nat) : (s.useFree ).region d = s.region d := rfl
@[simp] theorem State.region_emit (o : Out) (d : Nat) : (s.emit o).region d = s.region d := rfl
@[simp] theorem State.region_setReg (c v : Nat) (d : Nat) : (s.setReg c v).region d = s.region d := rfl
@[simp] theorem State.region_setFld (c lo wd v : Nat) (d : Nat) : (s.setFld c lo wd v).region d = s.region d := rfl
@[simp] theorem State.region_bumpFld (c lo wd k : Nat) (d : Nat) : (s.bumpFld c lo wd k).region d = s.region d := rfl
@[simp] theorem State.region_setHome (h : Nat) (v : Home) (d : Nat) : (s.setHome h v).region d = s.region d := by unfold State.setHome; split <;> rfl
@[simp] theorem State.region_modSlot (c k : Nat) (f : Slot → Slot) (d : Nat) : (s.modSlot c k f).region d = s.region d := by unfold State.modSlot; split <;> rfl
@[simp] theorem State.region_modCtx (i : Nat) (f : Context → Context) (d : Nat) : (s.modCtx i f).region d = s.region d := by unfold State.modCtx; split <;> rfl
@[simp] theorem State.region_modQueue (q : Nat) (f : Queue → Queue) (d : Nat) : (s.modQueue q f).region d = s.region d := by unfold State.modQueue; split <;> rfl
@[simp] theorem State.region_modReq (r : Nat) (f : Req → Req) (d : Nat) : (s.modReq r f).region d = s.region d := by unfold State.modReq; split <;> rfl
@[simp] theorem State.region_voidSweep (d : Nat) : (s.voidSweep ).region d = s.region d := by unfold State.voidSweep; split <;> rfl
@[simp] theorem State.region_writeFld (c lo wd v : Nat) (d : Nat) : (s.writeFld c lo wd v).region d = s.region d := by unfold State.writeFld; simp only [State.voidSweep]; split <;> rfl

@[simp] theorem State.fabric_setFabric_self (k : Nat) (v : Fabric) : (s.setFabric k v).fabric k = v := tgetD_tputD_self _ _ _ _
theorem State.fabric_setFabric_ne {j k : Nat} (h : j ≠ k) (v : Fabric) : (s.setFabric k v).fabric j = s.fabric j := tgetD_tputD_ne h _ _ _
@[simp] theorem State.fabric_setCore (c : Nat) (v : Core) (d : Nat) : (s.setCore c v).fabric d = s.fabric d := rfl
@[simp] theorem State.fabric_setSlot (c k : Nat) (v : Slot) (d : Nat) : (s.setSlot c k v).fabric d = s.fabric d := rfl
@[simp] theorem State.fabric_setCache (n : Nat) (v : Cache) (d : Nat) : (s.setCache n v).fabric d = s.fabric d := rfl
@[simp] theorem State.fabric_setRegion (i : Nat) (v : Region) (d : Nat) : (s.setRegion i v).fabric d = s.fabric d := rfl
@[simp] theorem State.fabric_setCtx (i : Nat) (v : Context) (d : Nat) : (s.setCtx i v).fabric d = s.fabric d := rfl
@[simp] theorem State.fabric_setFolio (f : Nat) (v : Folio) (d : Nat) : (s.setFolio f v).fabric d = s.fabric d := rfl
@[simp] theorem State.fabric_setQueue (q : Nat) (v : Queue) (d : Nat) : (s.setQueue q v).fabric d = s.fabric d := rfl
@[simp] theorem State.fabric_setChan (c : Nat) (v : Chan) (d : Nat) : (s.setChan c v).fabric d = s.fabric d := rfl
@[simp] theorem State.fabric_setStitch (l : Nat) (v : Link) (d : Nat) : (s.setStitch l v).fabric d = s.fabric d := rfl
@[simp] theorem State.fabric_setUnit (u : Nat) (v : SiftUnit) (d : Nat) : (s.setUnit u v).fabric d = s.fabric d := rfl
@[simp] theorem State.fabric_setWalker (d : Nat) (v : Walker) (d : Nat) : (s.setWalker d v).fabric d = s.fabric d := rfl
@[simp] theorem State.fabric_setReq (r : Nat) (v : Req) (d : Nat) : (s.setReq r v).fabric d = s.fabric d := rfl
@[simp] theorem State.fabric_dropReq (r : Nat) (d : Nat) : (s.dropReq r).fabric d = s.fabric d := rfl
@[simp] theorem State.fabric_setCoreSlice (n : Nat) (v : SliceE) (d : Nat) : (s.setCoreSlice n v).fabric d = s.fabric d := rfl
@[simp] theorem State.fabric_setMemSlice (n : Nat) (v : SliceE) (d : Nat) : (s.setMemSlice n v).fabric d = s.fabric d := rfl
@[simp] theorem State.fabric_setLinkSlice (n : Nat) (v : SliceE) (d : Nat) : (s.setLinkSlice n v).fabric d = s.fabric d := rfl
@[simp] theorem State.fabric_addReq (r : Req) (d : Nat) : (s.addReq r).fabric d = s.fabric d := rfl
@[simp] theorem State.fabric_bumpId (d : Nat) : (s.bumpId ).fabric d = s.fabric d := rfl
@[simp] theorem State.fabric_useFree (d : Nat) : (s.useFree ).fabric d = s.fabric d := rfl
@[simp] theorem State.fabric_emit (o : Out) (d : Nat) : (s.emit o).fabric d = s.fabric d := rfl
@[simp] theorem State.fabric_setReg (c v : Nat) (d : Nat) : (s.setReg c v).fabric d = s.fabric d := rfl
@[simp] theorem State.fabric_setFld (c lo wd v : Nat) (d : Nat) : (s.setFld c lo wd v).fabric d = s.fabric d := rfl
@[simp] theorem State.fabric_bumpFld (c lo wd k : Nat) (d : Nat) : (s.bumpFld c lo wd k).fabric d = s.fabric d := rfl
@[simp] theorem State.fabric_setHome (h : Nat) (v : Home) (d : Nat) : (s.setHome h v).fabric d = s.fabric d := by unfold State.setHome; split <;> rfl
@[simp] theorem State.fabric_modSlot (c k : Nat) (f : Slot → Slot) (d : Nat) : (s.modSlot c k f).fabric d = s.fabric d := by unfold State.modSlot; split <;> rfl
@[simp] theorem State.fabric_modCtx (i : Nat) (f : Context → Context) (d : Nat) : (s.modCtx i f).fabric d = s.fabric d := by unfold State.modCtx; split <;> rfl
@[simp] theorem State.fabric_modQueue (q : Nat) (f : Queue → Queue) (d : Nat) : (s.modQueue q f).fabric d = s.fabric d := by unfold State.modQueue; split <;> rfl
@[simp] theorem State.fabric_modReq (r : Nat) (f : Req → Req) (d : Nat) : (s.modReq r f).fabric d = s.fabric d := by unfold State.modReq; split <;> rfl
@[simp] theorem State.fabric_voidSweep (d : Nat) : (s.voidSweep ).fabric d = s.fabric d := by unfold State.voidSweep; split <;> rfl
@[simp] theorem State.fabric_writeFld (c lo wd v : Nat) (d : Nat) : (s.writeFld c lo wd v).fabric d = s.fabric d := by unfold State.writeFld; simp only [State.voidSweep]; split <;> rfl

@[simp] theorem State.ctxQ_setCtx_self (k : Nat) (v : Context) : (s.setCtx k v).ctx? k = some v := tget_tput_self _ _ _
theorem State.ctxQ_setCtx_ne {j k : Nat} (h : j ≠ k) (v : Context) : (s.setCtx k v).ctx? j = s.ctx? j := tget_tput_ne h _ _
@[simp] theorem State.ctxQ_setCore (c : Nat) (v : Core) (d : Nat) : (s.setCore c v).ctx? d = s.ctx? d := rfl
@[simp] theorem State.ctxQ_setSlot (c k : Nat) (v : Slot) (d : Nat) : (s.setSlot c k v).ctx? d = s.ctx? d := rfl
@[simp] theorem State.ctxQ_setCache (n : Nat) (v : Cache) (d : Nat) : (s.setCache n v).ctx? d = s.ctx? d := rfl
@[simp] theorem State.ctxQ_setRegion (i : Nat) (v : Region) (d : Nat) : (s.setRegion i v).ctx? d = s.ctx? d := rfl
@[simp] theorem State.ctxQ_setFabric (d : Nat) (v : Fabric) (d : Nat) : (s.setFabric d v).ctx? d = s.ctx? d := rfl
@[simp] theorem State.ctxQ_setFolio (f : Nat) (v : Folio) (d : Nat) : (s.setFolio f v).ctx? d = s.ctx? d := rfl
@[simp] theorem State.ctxQ_setQueue (q : Nat) (v : Queue) (d : Nat) : (s.setQueue q v).ctx? d = s.ctx? d := rfl
@[simp] theorem State.ctxQ_setChan (c : Nat) (v : Chan) (d : Nat) : (s.setChan c v).ctx? d = s.ctx? d := rfl
@[simp] theorem State.ctxQ_setStitch (l : Nat) (v : Link) (d : Nat) : (s.setStitch l v).ctx? d = s.ctx? d := rfl
@[simp] theorem State.ctxQ_setUnit (u : Nat) (v : SiftUnit) (d : Nat) : (s.setUnit u v).ctx? d = s.ctx? d := rfl
@[simp] theorem State.ctxQ_setWalker (d : Nat) (v : Walker) (d : Nat) : (s.setWalker d v).ctx? d = s.ctx? d := rfl
@[simp] theorem State.ctxQ_setReq (r : Nat) (v : Req) (d : Nat) : (s.setReq r v).ctx? d = s.ctx? d := rfl
@[simp] theorem State.ctxQ_dropReq (r : Nat) (d : Nat) : (s.dropReq r).ctx? d = s.ctx? d := rfl
@[simp] theorem State.ctxQ_setCoreSlice (n : Nat) (v : SliceE) (d : Nat) : (s.setCoreSlice n v).ctx? d = s.ctx? d := rfl
@[simp] theorem State.ctxQ_setMemSlice (n : Nat) (v : SliceE) (d : Nat) : (s.setMemSlice n v).ctx? d = s.ctx? d := rfl
@[simp] theorem State.ctxQ_setLinkSlice (n : Nat) (v : SliceE) (d : Nat) : (s.setLinkSlice n v).ctx? d = s.ctx? d := rfl
@[simp] theorem State.ctxQ_addReq (r : Req) (d : Nat) : (s.addReq r).ctx? d = s.ctx? d := rfl
@[simp] theorem State.ctxQ_bumpId (d : Nat) : (s.bumpId ).ctx? d = s.ctx? d := rfl
@[simp] theorem State.ctxQ_useFree (d : Nat) : (s.useFree ).ctx? d = s.ctx? d := rfl
@[simp] theorem State.ctxQ_emit (o : Out) (d : Nat) : (s.emit o).ctx? d = s.ctx? d := rfl
@[simp] theorem State.ctxQ_setReg (c v : Nat) (d : Nat) : (s.setReg c v).ctx? d = s.ctx? d := rfl
@[simp] theorem State.ctxQ_setFld (c lo wd v : Nat) (d : Nat) : (s.setFld c lo wd v).ctx? d = s.ctx? d := rfl
@[simp] theorem State.ctxQ_bumpFld (c lo wd k : Nat) (d : Nat) : (s.bumpFld c lo wd k).ctx? d = s.ctx? d := rfl
@[simp] theorem State.ctxQ_setHome (h : Nat) (v : Home) (d : Nat) : (s.setHome h v).ctx? d = s.ctx? d := by unfold State.setHome; split <;> rfl
@[simp] theorem State.ctxQ_modSlot (c k : Nat) (f : Slot → Slot) (d : Nat) : (s.modSlot c k f).ctx? d = s.ctx? d := by unfold State.modSlot; split <;> rfl
@[simp] theorem State.ctxQ_modQueue (q : Nat) (f : Queue → Queue) (d : Nat) : (s.modQueue q f).ctx? d = s.ctx? d := by unfold State.modQueue; split <;> rfl
@[simp] theorem State.ctxQ_modReq (r : Nat) (f : Req → Req) (d : Nat) : (s.modReq r f).ctx? d = s.ctx? d := by unfold State.modReq; split <;> rfl
@[simp] theorem State.ctxQ_voidSweep (d : Nat) : (s.voidSweep ).ctx? d = s.ctx? d := by unfold State.voidSweep; split <;> rfl
@[simp] theorem State.ctxQ_writeFld (c lo wd v : Nat) (d : Nat) : (s.writeFld c lo wd v).ctx? d = s.ctx? d := by unfold State.writeFld; simp only [State.voidSweep]; split <;> rfl

@[simp] theorem State.folio_setFolio_self (k : Nat) (v : Folio) : (s.setFolio k v).folio k = v := tgetD_tputD_self _ _ _ _
theorem State.folio_setFolio_ne {j k : Nat} (h : j ≠ k) (v : Folio) : (s.setFolio k v).folio j = s.folio j := tgetD_tputD_ne h _ _ _
@[simp] theorem State.folio_setCore (c : Nat) (v : Core) (d : Nat) : (s.setCore c v).folio d = s.folio d := rfl
@[simp] theorem State.folio_setSlot (c k : Nat) (v : Slot) (d : Nat) : (s.setSlot c k v).folio d = s.folio d := rfl
@[simp] theorem State.folio_setCache (n : Nat) (v : Cache) (d : Nat) : (s.setCache n v).folio d = s.folio d := rfl
@[simp] theorem State.folio_setRegion (i : Nat) (v : Region) (d : Nat) : (s.setRegion i v).folio d = s.folio d := rfl
@[simp] theorem State.folio_setFabric (d : Nat) (v : Fabric) (d : Nat) : (s.setFabric d v).folio d = s.folio d := rfl
@[simp] theorem State.folio_setCtx (i : Nat) (v : Context) (d : Nat) : (s.setCtx i v).folio d = s.folio d := rfl
@[simp] theorem State.folio_setQueue (q : Nat) (v : Queue) (d : Nat) : (s.setQueue q v).folio d = s.folio d := rfl
@[simp] theorem State.folio_setChan (c : Nat) (v : Chan) (d : Nat) : (s.setChan c v).folio d = s.folio d := rfl
@[simp] theorem State.folio_setStitch (l : Nat) (v : Link) (d : Nat) : (s.setStitch l v).folio d = s.folio d := rfl
@[simp] theorem State.folio_setUnit (u : Nat) (v : SiftUnit) (d : Nat) : (s.setUnit u v).folio d = s.folio d := rfl
@[simp] theorem State.folio_setWalker (d : Nat) (v : Walker) (d : Nat) : (s.setWalker d v).folio d = s.folio d := rfl
@[simp] theorem State.folio_setReq (r : Nat) (v : Req) (d : Nat) : (s.setReq r v).folio d = s.folio d := rfl
@[simp] theorem State.folio_dropReq (r : Nat) (d : Nat) : (s.dropReq r).folio d = s.folio d := rfl
@[simp] theorem State.folio_setCoreSlice (n : Nat) (v : SliceE) (d : Nat) : (s.setCoreSlice n v).folio d = s.folio d := rfl
@[simp] theorem State.folio_setMemSlice (n : Nat) (v : SliceE) (d : Nat) : (s.setMemSlice n v).folio d = s.folio d := rfl
@[simp] theorem State.folio_setLinkSlice (n : Nat) (v : SliceE) (d : Nat) : (s.setLinkSlice n v).folio d = s.folio d := rfl
@[simp] theorem State.folio_addReq (r : Req) (d : Nat) : (s.addReq r).folio d = s.folio d := rfl
@[simp] theorem State.folio_bumpId (d : Nat) : (s.bumpId ).folio d = s.folio d := rfl
@[simp] theorem State.folio_useFree (d : Nat) : (s.useFree ).folio d = s.folio d := rfl
@[simp] theorem State.folio_emit (o : Out) (d : Nat) : (s.emit o).folio d = s.folio d := rfl
@[simp] theorem State.folio_setReg (c v : Nat) (d : Nat) : (s.setReg c v).folio d = s.folio d := rfl
@[simp] theorem State.folio_setFld (c lo wd v : Nat) (d : Nat) : (s.setFld c lo wd v).folio d = s.folio d := rfl
@[simp] theorem State.folio_bumpFld (c lo wd k : Nat) (d : Nat) : (s.bumpFld c lo wd k).folio d = s.folio d := rfl
@[simp] theorem State.folio_setHome (h : Nat) (v : Home) (d : Nat) : (s.setHome h v).folio d = s.folio d := by unfold State.setHome; split <;> rfl
@[simp] theorem State.folio_modSlot (c k : Nat) (f : Slot → Slot) (d : Nat) : (s.modSlot c k f).folio d = s.folio d := by unfold State.modSlot; split <;> rfl
@[simp] theorem State.folio_modCtx (i : Nat) (f : Context → Context) (d : Nat) : (s.modCtx i f).folio d = s.folio d := by unfold State.modCtx; split <;> rfl
@[simp] theorem State.folio_modQueue (q : Nat) (f : Queue → Queue) (d : Nat) : (s.modQueue q f).folio d = s.folio d := by unfold State.modQueue; split <;> rfl
@[simp] theorem State.folio_modReq (r : Nat) (f : Req → Req) (d : Nat) : (s.modReq r f).folio d = s.folio d := by unfold State.modReq; split <;> rfl
@[simp] theorem State.folio_voidSweep (d : Nat) : (s.voidSweep ).folio d = s.folio d := by unfold State.voidSweep; split <;> rfl
@[simp] theorem State.folio_writeFld (c lo wd v : Nat) (d : Nat) : (s.writeFld c lo wd v).folio d = s.folio d := by unfold State.writeFld; simp only [State.voidSweep]; split <;> rfl

@[simp] theorem State.queueQ_setQueue_self (k : Nat) (v : Queue) : (s.setQueue k v).queue? k = some v := tget_tput_self _ _ _
theorem State.queueQ_setQueue_ne {j k : Nat} (h : j ≠ k) (v : Queue) : (s.setQueue k v).queue? j = s.queue? j := tget_tput_ne h _ _
@[simp] theorem State.queueQ_setCore (c : Nat) (v : Core) (d : Nat) : (s.setCore c v).queue? d = s.queue? d := rfl
@[simp] theorem State.queueQ_setSlot (c k : Nat) (v : Slot) (d : Nat) : (s.setSlot c k v).queue? d = s.queue? d := rfl
@[simp] theorem State.queueQ_setCache (n : Nat) (v : Cache) (d : Nat) : (s.setCache n v).queue? d = s.queue? d := rfl
@[simp] theorem State.queueQ_setRegion (i : Nat) (v : Region) (d : Nat) : (s.setRegion i v).queue? d = s.queue? d := rfl
@[simp] theorem State.queueQ_setFabric (d : Nat) (v : Fabric) (d : Nat) : (s.setFabric d v).queue? d = s.queue? d := rfl
@[simp] theorem State.queueQ_setCtx (i : Nat) (v : Context) (d : Nat) : (s.setCtx i v).queue? d = s.queue? d := rfl
@[simp] theorem State.queueQ_setFolio (f : Nat) (v : Folio) (d : Nat) : (s.setFolio f v).queue? d = s.queue? d := rfl
@[simp] theorem State.queueQ_setChan (c : Nat) (v : Chan) (d : Nat) : (s.setChan c v).queue? d = s.queue? d := rfl
@[simp] theorem State.queueQ_setStitch (l : Nat) (v : Link) (d : Nat) : (s.setStitch l v).queue? d = s.queue? d := rfl
@[simp] theorem State.queueQ_setUnit (u : Nat) (v : SiftUnit) (d : Nat) : (s.setUnit u v).queue? d = s.queue? d := rfl
@[simp] theorem State.queueQ_setWalker (d : Nat) (v : Walker) (d : Nat) : (s.setWalker d v).queue? d = s.queue? d := rfl
@[simp] theorem State.queueQ_setReq (r : Nat) (v : Req) (d : Nat) : (s.setReq r v).queue? d = s.queue? d := rfl
@[simp] theorem State.queueQ_dropReq (r : Nat) (d : Nat) : (s.dropReq r).queue? d = s.queue? d := rfl
@[simp] theorem State.queueQ_setCoreSlice (n : Nat) (v : SliceE) (d : Nat) : (s.setCoreSlice n v).queue? d = s.queue? d := rfl
@[simp] theorem State.queueQ_setMemSlice (n : Nat) (v : SliceE) (d : Nat) : (s.setMemSlice n v).queue? d = s.queue? d := rfl
@[simp] theorem State.queueQ_setLinkSlice (n : Nat) (v : SliceE) (d : Nat) : (s.setLinkSlice n v).queue? d = s.queue? d := rfl
@[simp] theorem State.queueQ_addReq (r : Req) (d : Nat) : (s.addReq r).queue? d = s.queue? d := rfl
@[simp] theorem State.queueQ_bumpId (d : Nat) : (s.bumpId ).queue? d = s.queue? d := rfl
@[simp] theorem State.queueQ_useFree (d : Nat) : (s.useFree ).queue? d = s.queue? d := rfl
@[simp] theorem State.queueQ_emit (o : Out) (d : Nat) : (s.emit o).queue? d = s.queue? d := rfl
@[simp] theorem State.queueQ_setReg (c v : Nat) (d : Nat) : (s.setReg c v).queue? d = s.queue? d := rfl
@[simp] theorem State.queueQ_setFld (c lo wd v : Nat) (d : Nat) : (s.setFld c lo wd v).queue? d = s.queue? d := rfl
@[simp] theorem State.queueQ_bumpFld (c lo wd k : Nat) (d : Nat) : (s.bumpFld c lo wd k).queue? d = s.queue? d := rfl
@[simp] theorem State.queueQ_setHome (h : Nat) (v : Home) (d : Nat) : (s.setHome h v).queue? d = s.queue? d := by unfold State.setHome; split <;> rfl
@[simp] theorem State.queueQ_modSlot (c k : Nat) (f : Slot → Slot) (d : Nat) : (s.modSlot c k f).queue? d = s.queue? d := by unfold State.modSlot; split <;> rfl
@[simp] theorem State.queueQ_modCtx (i : Nat) (f : Context → Context) (d : Nat) : (s.modCtx i f).queue? d = s.queue? d := by unfold State.modCtx; split <;> rfl
@[simp] theorem State.queueQ_modReq (r : Nat) (f : Req → Req) (d : Nat) : (s.modReq r f).queue? d = s.queue? d := by unfold State.modReq; split <;> rfl
@[simp] theorem State.queueQ_voidSweep (d : Nat) : (s.voidSweep ).queue? d = s.queue? d := by unfold State.voidSweep; split <;> rfl
@[simp] theorem State.queueQ_writeFld (c lo wd v : Nat) (d : Nat) : (s.writeFld c lo wd v).queue? d = s.queue? d := by unfold State.writeFld; simp only [State.voidSweep]; split <;> rfl

@[simp] theorem State.chan_setChan_self (k : Nat) (v : Chan) : (s.setChan k v).chan k = v := tgetD_tputD_self _ _ _ _
theorem State.chan_setChan_ne {j k : Nat} (h : j ≠ k) (v : Chan) : (s.setChan k v).chan j = s.chan j := tgetD_tputD_ne h _ _ _
@[simp] theorem State.chan_setCore (c : Nat) (v : Core) (d : Nat) : (s.setCore c v).chan d = s.chan d := rfl
@[simp] theorem State.chan_setSlot (c k : Nat) (v : Slot) (d : Nat) : (s.setSlot c k v).chan d = s.chan d := rfl
@[simp] theorem State.chan_setCache (n : Nat) (v : Cache) (d : Nat) : (s.setCache n v).chan d = s.chan d := rfl
@[simp] theorem State.chan_setRegion (i : Nat) (v : Region) (d : Nat) : (s.setRegion i v).chan d = s.chan d := rfl
@[simp] theorem State.chan_setFabric (d : Nat) (v : Fabric) (d : Nat) : (s.setFabric d v).chan d = s.chan d := rfl
@[simp] theorem State.chan_setCtx (i : Nat) (v : Context) (d : Nat) : (s.setCtx i v).chan d = s.chan d := rfl
@[simp] theorem State.chan_setFolio (f : Nat) (v : Folio) (d : Nat) : (s.setFolio f v).chan d = s.chan d := rfl
@[simp] theorem State.chan_setQueue (q : Nat) (v : Queue) (d : Nat) : (s.setQueue q v).chan d = s.chan d := rfl
@[simp] theorem State.chan_setStitch (l : Nat) (v : Link) (d : Nat) : (s.setStitch l v).chan d = s.chan d := rfl
@[simp] theorem State.chan_setUnit (u : Nat) (v : SiftUnit) (d : Nat) : (s.setUnit u v).chan d = s.chan d := rfl
@[simp] theorem State.chan_setWalker (d : Nat) (v : Walker) (d : Nat) : (s.setWalker d v).chan d = s.chan d := rfl
@[simp] theorem State.chan_setReq (r : Nat) (v : Req) (d : Nat) : (s.setReq r v).chan d = s.chan d := rfl
@[simp] theorem State.chan_dropReq (r : Nat) (d : Nat) : (s.dropReq r).chan d = s.chan d := rfl
@[simp] theorem State.chan_setCoreSlice (n : Nat) (v : SliceE) (d : Nat) : (s.setCoreSlice n v).chan d = s.chan d := rfl
@[simp] theorem State.chan_setMemSlice (n : Nat) (v : SliceE) (d : Nat) : (s.setMemSlice n v).chan d = s.chan d := rfl
@[simp] theorem State.chan_setLinkSlice (n : Nat) (v : SliceE) (d : Nat) : (s.setLinkSlice n v).chan d = s.chan d := rfl
@[simp] theorem State.chan_addReq (r : Req) (d : Nat) : (s.addReq r).chan d = s.chan d := rfl
@[simp] theorem State.chan_bumpId (d : Nat) : (s.bumpId ).chan d = s.chan d := rfl
@[simp] theorem State.chan_useFree (d : Nat) : (s.useFree ).chan d = s.chan d := rfl
@[simp] theorem State.chan_emit (o : Out) (d : Nat) : (s.emit o).chan d = s.chan d := rfl
@[simp] theorem State.chan_setReg (c v : Nat) (d : Nat) : (s.setReg c v).chan d = s.chan d := rfl
@[simp] theorem State.chan_setFld (c lo wd v : Nat) (d : Nat) : (s.setFld c lo wd v).chan d = s.chan d := rfl
@[simp] theorem State.chan_bumpFld (c lo wd k : Nat) (d : Nat) : (s.bumpFld c lo wd k).chan d = s.chan d := rfl
@[simp] theorem State.chan_setHome (h : Nat) (v : Home) (d : Nat) : (s.setHome h v).chan d = s.chan d := by unfold State.setHome; split <;> rfl
@[simp] theorem State.chan_modSlot (c k : Nat) (f : Slot → Slot) (d : Nat) : (s.modSlot c k f).chan d = s.chan d := by unfold State.modSlot; split <;> rfl
@[simp] theorem State.chan_modCtx (i : Nat) (f : Context → Context) (d : Nat) : (s.modCtx i f).chan d = s.chan d := by unfold State.modCtx; split <;> rfl
@[simp] theorem State.chan_modQueue (q : Nat) (f : Queue → Queue) (d : Nat) : (s.modQueue q f).chan d = s.chan d := by unfold State.modQueue; split <;> rfl
@[simp] theorem State.chan_modReq (r : Nat) (f : Req → Req) (d : Nat) : (s.modReq r f).chan d = s.chan d := by unfold State.modReq; split <;> rfl
@[simp] theorem State.chan_voidSweep (d : Nat) : (s.voidSweep ).chan d = s.chan d := by unfold State.voidSweep; split <;> rfl
@[simp] theorem State.chan_writeFld (c lo wd v : Nat) (d : Nat) : (s.writeFld c lo wd v).chan d = s.chan d := by unfold State.writeFld; simp only [State.voidSweep]; split <;> rfl

@[simp] theorem State.stitch_setStitch_self (k : Nat) (v : Link) : (s.setStitch k v).stitch k = v := tgetD_tputD_self _ _ _ _
theorem State.stitch_setStitch_ne {j k : Nat} (h : j ≠ k) (v : Link) : (s.setStitch k v).stitch j = s.stitch j := tgetD_tputD_ne h _ _ _
@[simp] theorem State.stitch_setCore (c : Nat) (v : Core) (d : Nat) : (s.setCore c v).stitch d = s.stitch d := rfl
@[simp] theorem State.stitch_setSlot (c k : Nat) (v : Slot) (d : Nat) : (s.setSlot c k v).stitch d = s.stitch d := rfl
@[simp] theorem State.stitch_setCache (n : Nat) (v : Cache) (d : Nat) : (s.setCache n v).stitch d = s.stitch d := rfl
@[simp] theorem State.stitch_setRegion (i : Nat) (v : Region) (d : Nat) : (s.setRegion i v).stitch d = s.stitch d := rfl
@[simp] theorem State.stitch_setFabric (d : Nat) (v : Fabric) (d : Nat) : (s.setFabric d v).stitch d = s.stitch d := rfl
@[simp] theorem State.stitch_setCtx (i : Nat) (v : Context) (d : Nat) : (s.setCtx i v).stitch d = s.stitch d := rfl
@[simp] theorem State.stitch_setFolio (f : Nat) (v : Folio) (d : Nat) : (s.setFolio f v).stitch d = s.stitch d := rfl
@[simp] theorem State.stitch_setQueue (q : Nat) (v : Queue) (d : Nat) : (s.setQueue q v).stitch d = s.stitch d := rfl
@[simp] theorem State.stitch_setChan (c : Nat) (v : Chan) (d : Nat) : (s.setChan c v).stitch d = s.stitch d := rfl
@[simp] theorem State.stitch_setUnit (u : Nat) (v : SiftUnit) (d : Nat) : (s.setUnit u v).stitch d = s.stitch d := rfl
@[simp] theorem State.stitch_setWalker (d : Nat) (v : Walker) (d : Nat) : (s.setWalker d v).stitch d = s.stitch d := rfl
@[simp] theorem State.stitch_setReq (r : Nat) (v : Req) (d : Nat) : (s.setReq r v).stitch d = s.stitch d := rfl
@[simp] theorem State.stitch_dropReq (r : Nat) (d : Nat) : (s.dropReq r).stitch d = s.stitch d := rfl
@[simp] theorem State.stitch_setCoreSlice (n : Nat) (v : SliceE) (d : Nat) : (s.setCoreSlice n v).stitch d = s.stitch d := rfl
@[simp] theorem State.stitch_setMemSlice (n : Nat) (v : SliceE) (d : Nat) : (s.setMemSlice n v).stitch d = s.stitch d := rfl
@[simp] theorem State.stitch_setLinkSlice (n : Nat) (v : SliceE) (d : Nat) : (s.setLinkSlice n v).stitch d = s.stitch d := rfl
@[simp] theorem State.stitch_addReq (r : Req) (d : Nat) : (s.addReq r).stitch d = s.stitch d := rfl
@[simp] theorem State.stitch_bumpId (d : Nat) : (s.bumpId ).stitch d = s.stitch d := rfl
@[simp] theorem State.stitch_useFree (d : Nat) : (s.useFree ).stitch d = s.stitch d := rfl
@[simp] theorem State.stitch_emit (o : Out) (d : Nat) : (s.emit o).stitch d = s.stitch d := rfl
@[simp] theorem State.stitch_setReg (c v : Nat) (d : Nat) : (s.setReg c v).stitch d = s.stitch d := rfl
@[simp] theorem State.stitch_setFld (c lo wd v : Nat) (d : Nat) : (s.setFld c lo wd v).stitch d = s.stitch d := rfl
@[simp] theorem State.stitch_bumpFld (c lo wd k : Nat) (d : Nat) : (s.bumpFld c lo wd k).stitch d = s.stitch d := rfl
@[simp] theorem State.stitch_setHome (h : Nat) (v : Home) (d : Nat) : (s.setHome h v).stitch d = s.stitch d := by unfold State.setHome; split <;> rfl
@[simp] theorem State.stitch_modSlot (c k : Nat) (f : Slot → Slot) (d : Nat) : (s.modSlot c k f).stitch d = s.stitch d := by unfold State.modSlot; split <;> rfl
@[simp] theorem State.stitch_modCtx (i : Nat) (f : Context → Context) (d : Nat) : (s.modCtx i f).stitch d = s.stitch d := by unfold State.modCtx; split <;> rfl
@[simp] theorem State.stitch_modQueue (q : Nat) (f : Queue → Queue) (d : Nat) : (s.modQueue q f).stitch d = s.stitch d := by unfold State.modQueue; split <;> rfl
@[simp] theorem State.stitch_modReq (r : Nat) (f : Req → Req) (d : Nat) : (s.modReq r f).stitch d = s.stitch d := by unfold State.modReq; split <;> rfl
@[simp] theorem State.stitch_voidSweep (d : Nat) : (s.voidSweep ).stitch d = s.stitch d := by unfold State.voidSweep; split <;> rfl
@[simp] theorem State.stitch_writeFld (c lo wd v : Nat) (d : Nat) : (s.writeFld c lo wd v).stitch d = s.stitch d := by unfold State.writeFld; simp only [State.voidSweep]; split <;> rfl

@[simp] theorem State.unit_setUnit_self (k : Nat) (v : SiftUnit) : (s.setUnit k v).unit k = v := tgetD_tputD_self _ _ _ _
theorem State.unit_setUnit_ne {j k : Nat} (h : j ≠ k) (v : SiftUnit) : (s.setUnit k v).unit j = s.unit j := tgetD_tputD_ne h _ _ _
@[simp] theorem State.unit_setCore (c : Nat) (v : Core) (d : Nat) : (s.setCore c v).unit d = s.unit d := rfl
@[simp] theorem State.unit_setSlot (c k : Nat) (v : Slot) (d : Nat) : (s.setSlot c k v).unit d = s.unit d := rfl
@[simp] theorem State.unit_setCache (n : Nat) (v : Cache) (d : Nat) : (s.setCache n v).unit d = s.unit d := rfl
@[simp] theorem State.unit_setRegion (i : Nat) (v : Region) (d : Nat) : (s.setRegion i v).unit d = s.unit d := rfl
@[simp] theorem State.unit_setFabric (d : Nat) (v : Fabric) (d : Nat) : (s.setFabric d v).unit d = s.unit d := rfl
@[simp] theorem State.unit_setCtx (i : Nat) (v : Context) (d : Nat) : (s.setCtx i v).unit d = s.unit d := rfl
@[simp] theorem State.unit_setFolio (f : Nat) (v : Folio) (d : Nat) : (s.setFolio f v).unit d = s.unit d := rfl
@[simp] theorem State.unit_setQueue (q : Nat) (v : Queue) (d : Nat) : (s.setQueue q v).unit d = s.unit d := rfl
@[simp] theorem State.unit_setChan (c : Nat) (v : Chan) (d : Nat) : (s.setChan c v).unit d = s.unit d := rfl
@[simp] theorem State.unit_setStitch (l : Nat) (v : Link) (d : Nat) : (s.setStitch l v).unit d = s.unit d := rfl
@[simp] theorem State.unit_setWalker (d : Nat) (v : Walker) (d : Nat) : (s.setWalker d v).unit d = s.unit d := rfl
@[simp] theorem State.unit_setReq (r : Nat) (v : Req) (d : Nat) : (s.setReq r v).unit d = s.unit d := rfl
@[simp] theorem State.unit_dropReq (r : Nat) (d : Nat) : (s.dropReq r).unit d = s.unit d := rfl
@[simp] theorem State.unit_setCoreSlice (n : Nat) (v : SliceE) (d : Nat) : (s.setCoreSlice n v).unit d = s.unit d := rfl
@[simp] theorem State.unit_setMemSlice (n : Nat) (v : SliceE) (d : Nat) : (s.setMemSlice n v).unit d = s.unit d := rfl
@[simp] theorem State.unit_setLinkSlice (n : Nat) (v : SliceE) (d : Nat) : (s.setLinkSlice n v).unit d = s.unit d := rfl
@[simp] theorem State.unit_addReq (r : Req) (d : Nat) : (s.addReq r).unit d = s.unit d := rfl
@[simp] theorem State.unit_bumpId (d : Nat) : (s.bumpId ).unit d = s.unit d := rfl
@[simp] theorem State.unit_useFree (d : Nat) : (s.useFree ).unit d = s.unit d := rfl
@[simp] theorem State.unit_emit (o : Out) (d : Nat) : (s.emit o).unit d = s.unit d := rfl
@[simp] theorem State.unit_setReg (c v : Nat) (d : Nat) : (s.setReg c v).unit d = s.unit d := rfl
@[simp] theorem State.unit_setFld (c lo wd v : Nat) (d : Nat) : (s.setFld c lo wd v).unit d = s.unit d := rfl
@[simp] theorem State.unit_bumpFld (c lo wd k : Nat) (d : Nat) : (s.bumpFld c lo wd k).unit d = s.unit d := rfl
@[simp] theorem State.unit_setHome (h : Nat) (v : Home) (d : Nat) : (s.setHome h v).unit d = s.unit d := by unfold State.setHome; split <;> rfl
@[simp] theorem State.unit_modSlot (c k : Nat) (f : Slot → Slot) (d : Nat) : (s.modSlot c k f).unit d = s.unit d := by unfold State.modSlot; split <;> rfl
@[simp] theorem State.unit_modCtx (i : Nat) (f : Context → Context) (d : Nat) : (s.modCtx i f).unit d = s.unit d := by unfold State.modCtx; split <;> rfl
@[simp] theorem State.unit_modQueue (q : Nat) (f : Queue → Queue) (d : Nat) : (s.modQueue q f).unit d = s.unit d := by unfold State.modQueue; split <;> rfl
@[simp] theorem State.unit_modReq (r : Nat) (f : Req → Req) (d : Nat) : (s.modReq r f).unit d = s.unit d := by unfold State.modReq; split <;> rfl
@[simp] theorem State.unit_voidSweep (d : Nat) : (s.voidSweep ).unit d = s.unit d := by unfold State.voidSweep; split <;> rfl
@[simp] theorem State.unit_writeFld (c lo wd v : Nat) (d : Nat) : (s.writeFld c lo wd v).unit d = s.unit d := by unfold State.writeFld; simp only [State.voidSweep]; split <;> rfl

@[simp] theorem State.walker_setWalker_self (k : Nat) (v : Walker) : (s.setWalker k v).walker k = v := tgetD_tputD_self _ _ _ _
theorem State.walker_setWalker_ne {j k : Nat} (h : j ≠ k) (v : Walker) : (s.setWalker k v).walker j = s.walker j := tgetD_tputD_ne h _ _ _
@[simp] theorem State.walker_setCore (c : Nat) (v : Core) (d : Nat) : (s.setCore c v).walker d = s.walker d := rfl
@[simp] theorem State.walker_setSlot (c k : Nat) (v : Slot) (d : Nat) : (s.setSlot c k v).walker d = s.walker d := rfl
@[simp] theorem State.walker_setCache (n : Nat) (v : Cache) (d : Nat) : (s.setCache n v).walker d = s.walker d := rfl
@[simp] theorem State.walker_setRegion (i : Nat) (v : Region) (d : Nat) : (s.setRegion i v).walker d = s.walker d := rfl
@[simp] theorem State.walker_setFabric (d : Nat) (v : Fabric) (d : Nat) : (s.setFabric d v).walker d = s.walker d := rfl
@[simp] theorem State.walker_setCtx (i : Nat) (v : Context) (d : Nat) : (s.setCtx i v).walker d = s.walker d := rfl
@[simp] theorem State.walker_setFolio (f : Nat) (v : Folio) (d : Nat) : (s.setFolio f v).walker d = s.walker d := rfl
@[simp] theorem State.walker_setQueue (q : Nat) (v : Queue) (d : Nat) : (s.setQueue q v).walker d = s.walker d := rfl
@[simp] theorem State.walker_setChan (c : Nat) (v : Chan) (d : Nat) : (s.setChan c v).walker d = s.walker d := rfl
@[simp] theorem State.walker_setStitch (l : Nat) (v : Link) (d : Nat) : (s.setStitch l v).walker d = s.walker d := rfl
@[simp] theorem State.walker_setUnit (u : Nat) (v : SiftUnit) (d : Nat) : (s.setUnit u v).walker d = s.walker d := rfl
@[simp] theorem State.walker_setReq (r : Nat) (v : Req) (d : Nat) : (s.setReq r v).walker d = s.walker d := rfl
@[simp] theorem State.walker_dropReq (r : Nat) (d : Nat) : (s.dropReq r).walker d = s.walker d := rfl
@[simp] theorem State.walker_setCoreSlice (n : Nat) (v : SliceE) (d : Nat) : (s.setCoreSlice n v).walker d = s.walker d := rfl
@[simp] theorem State.walker_setMemSlice (n : Nat) (v : SliceE) (d : Nat) : (s.setMemSlice n v).walker d = s.walker d := rfl
@[simp] theorem State.walker_setLinkSlice (n : Nat) (v : SliceE) (d : Nat) : (s.setLinkSlice n v).walker d = s.walker d := rfl
@[simp] theorem State.walker_addReq (r : Req) (d : Nat) : (s.addReq r).walker d = s.walker d := rfl
@[simp] theorem State.walker_bumpId (d : Nat) : (s.bumpId ).walker d = s.walker d := rfl
@[simp] theorem State.walker_useFree (d : Nat) : (s.useFree ).walker d = s.walker d := rfl
@[simp] theorem State.walker_emit (o : Out) (d : Nat) : (s.emit o).walker d = s.walker d := rfl
@[simp] theorem State.walker_setReg (c v : Nat) (d : Nat) : (s.setReg c v).walker d = s.walker d := rfl
@[simp] theorem State.walker_setFld (c lo wd v : Nat) (d : Nat) : (s.setFld c lo wd v).walker d = s.walker d := rfl
@[simp] theorem State.walker_bumpFld (c lo wd k : Nat) (d : Nat) : (s.bumpFld c lo wd k).walker d = s.walker d := rfl
@[simp] theorem State.walker_setHome (h : Nat) (v : Home) (d : Nat) : (s.setHome h v).walker d = s.walker d := by unfold State.setHome; split <;> rfl
@[simp] theorem State.walker_modSlot (c k : Nat) (f : Slot → Slot) (d : Nat) : (s.modSlot c k f).walker d = s.walker d := by unfold State.modSlot; split <;> rfl
@[simp] theorem State.walker_modCtx (i : Nat) (f : Context → Context) (d : Nat) : (s.modCtx i f).walker d = s.walker d := by unfold State.modCtx; split <;> rfl
@[simp] theorem State.walker_modQueue (q : Nat) (f : Queue → Queue) (d : Nat) : (s.modQueue q f).walker d = s.walker d := by unfold State.modQueue; split <;> rfl
@[simp] theorem State.walker_modReq (r : Nat) (f : Req → Req) (d : Nat) : (s.modReq r f).walker d = s.walker d := by unfold State.modReq; split <;> rfl
@[simp] theorem State.walker_voidSweep (d : Nat) : (s.voidSweep ).walker d = s.walker d := by unfold State.voidSweep; split <;> rfl
@[simp] theorem State.walker_writeFld (c lo wd v : Nat) (d : Nat) : (s.writeFld c lo wd v).walker d = s.walker d := by unfold State.writeFld; simp only [State.voidSweep]; split <;> rfl

@[simp] theorem State.reqQ_setReq_self (k : Nat) (v : Req) : (s.setReq k v).req? k = some v := tget_tput_self _ _ _
theorem State.reqQ_setReq_ne {j k : Nat} (h : j ≠ k) (v : Req) : (s.setReq k v).req? j = s.req? j := tget_tput_ne h _ _
@[simp] theorem State.reqQ_setCore (c : Nat) (v : Core) (d : Nat) : (s.setCore c v).req? d = s.req? d := rfl
@[simp] theorem State.reqQ_setSlot (c k : Nat) (v : Slot) (d : Nat) : (s.setSlot c k v).req? d = s.req? d := rfl
@[simp] theorem State.reqQ_setCache (n : Nat) (v : Cache) (d : Nat) : (s.setCache n v).req? d = s.req? d := rfl
@[simp] theorem State.reqQ_setRegion (i : Nat) (v : Region) (d : Nat) : (s.setRegion i v).req? d = s.req? d := rfl
@[simp] theorem State.reqQ_setFabric (d : Nat) (v : Fabric) (d : Nat) : (s.setFabric d v).req? d = s.req? d := rfl
@[simp] theorem State.reqQ_setCtx (i : Nat) (v : Context) (d : Nat) : (s.setCtx i v).req? d = s.req? d := rfl
@[simp] theorem State.reqQ_setFolio (f : Nat) (v : Folio) (d : Nat) : (s.setFolio f v).req? d = s.req? d := rfl
@[simp] theorem State.reqQ_setQueue (q : Nat) (v : Queue) (d : Nat) : (s.setQueue q v).req? d = s.req? d := rfl
@[simp] theorem State.reqQ_setChan (c : Nat) (v : Chan) (d : Nat) : (s.setChan c v).req? d = s.req? d := rfl
@[simp] theorem State.reqQ_setStitch (l : Nat) (v : Link) (d : Nat) : (s.setStitch l v).req? d = s.req? d := rfl
@[simp] theorem State.reqQ_setUnit (u : Nat) (v : SiftUnit) (d : Nat) : (s.setUnit u v).req? d = s.req? d := rfl
@[simp] theorem State.reqQ_setWalker (d : Nat) (v : Walker) (d : Nat) : (s.setWalker d v).req? d = s.req? d := rfl
@[simp] theorem State.reqQ_setCoreSlice (n : Nat) (v : SliceE) (d : Nat) : (s.setCoreSlice n v).req? d = s.req? d := rfl
@[simp] theorem State.reqQ_setMemSlice (n : Nat) (v : SliceE) (d : Nat) : (s.setMemSlice n v).req? d = s.req? d := rfl
@[simp] theorem State.reqQ_setLinkSlice (n : Nat) (v : SliceE) (d : Nat) : (s.setLinkSlice n v).req? d = s.req? d := rfl
@[simp] theorem State.reqQ_bumpId (d : Nat) : (s.bumpId ).req? d = s.req? d := rfl
@[simp] theorem State.reqQ_useFree (d : Nat) : (s.useFree ).req? d = s.req? d := rfl
@[simp] theorem State.reqQ_emit (o : Out) (d : Nat) : (s.emit o).req? d = s.req? d := rfl
@[simp] theorem State.reqQ_setReg (c v : Nat) (d : Nat) : (s.setReg c v).req? d = s.req? d := rfl
@[simp] theorem State.reqQ_setFld (c lo wd v : Nat) (d : Nat) : (s.setFld c lo wd v).req? d = s.req? d := rfl
@[simp] theorem State.reqQ_bumpFld (c lo wd k : Nat) (d : Nat) : (s.bumpFld c lo wd k).req? d = s.req? d := rfl
@[simp] theorem State.reqQ_setHome (h : Nat) (v : Home) (d : Nat) : (s.setHome h v).req? d = s.req? d := by unfold State.setHome; split <;> rfl
@[simp] theorem State.reqQ_modSlot (c k : Nat) (f : Slot → Slot) (d : Nat) : (s.modSlot c k f).req? d = s.req? d := by unfold State.modSlot; split <;> rfl
@[simp] theorem State.reqQ_modCtx (i : Nat) (f : Context → Context) (d : Nat) : (s.modCtx i f).req? d = s.req? d := by unfold State.modCtx; split <;> rfl
@[simp] theorem State.reqQ_modQueue (q : Nat) (f : Queue → Queue) (d : Nat) : (s.modQueue q f).req? d = s.req? d := by unfold State.modQueue; split <;> rfl
@[simp] theorem State.reqQ_voidSweep (d : Nat) : (s.voidSweep ).req? d = s.req? d := by unfold State.voidSweep; split <;> rfl
@[simp] theorem State.reqQ_writeFld (c lo wd v : Nat) (d : Nat) : (s.writeFld c lo wd v).req? d = s.req? d := by unfold State.writeFld; simp only [State.voidSweep]; split <;> rfl

@[simp] theorem State.coreSlice_setCoreSlice_self (k : Nat) (v : SliceE) : (s.setCoreSlice k v).coreSlice k = v := tgetD_tputD_self _ _ _ _
theorem State.coreSlice_setCoreSlice_ne {j k : Nat} (h : j ≠ k) (v : SliceE) : (s.setCoreSlice k v).coreSlice j = s.coreSlice j := tgetD_tputD_ne h _ _ _
@[simp] theorem State.coreSlice_setCore (c : Nat) (v : Core) (d : Nat) : (s.setCore c v).coreSlice d = s.coreSlice d := rfl
@[simp] theorem State.coreSlice_setSlot (c k : Nat) (v : Slot) (d : Nat) : (s.setSlot c k v).coreSlice d = s.coreSlice d := rfl
@[simp] theorem State.coreSlice_setCache (n : Nat) (v : Cache) (d : Nat) : (s.setCache n v).coreSlice d = s.coreSlice d := rfl
@[simp] theorem State.coreSlice_setRegion (i : Nat) (v : Region) (d : Nat) : (s.setRegion i v).coreSlice d = s.coreSlice d := rfl
@[simp] theorem State.coreSlice_setFabric (d : Nat) (v : Fabric) (d : Nat) : (s.setFabric d v).coreSlice d = s.coreSlice d := rfl
@[simp] theorem State.coreSlice_setCtx (i : Nat) (v : Context) (d : Nat) : (s.setCtx i v).coreSlice d = s.coreSlice d := rfl
@[simp] theorem State.coreSlice_setFolio (f : Nat) (v : Folio) (d : Nat) : (s.setFolio f v).coreSlice d = s.coreSlice d := rfl
@[simp] theorem State.coreSlice_setQueue (q : Nat) (v : Queue) (d : Nat) : (s.setQueue q v).coreSlice d = s.coreSlice d := rfl
@[simp] theorem State.coreSlice_setChan (c : Nat) (v : Chan) (d : Nat) : (s.setChan c v).coreSlice d = s.coreSlice d := rfl
@[simp] theorem State.coreSlice_setStitch (l : Nat) (v : Link) (d : Nat) : (s.setStitch l v).coreSlice d = s.coreSlice d := rfl
@[simp] theorem State.coreSlice_setUnit (u : Nat) (v : SiftUnit) (d : Nat) : (s.setUnit u v).coreSlice d = s.coreSlice d := rfl
@[simp] theorem State.coreSlice_setWalker (d : Nat) (v : Walker) (d : Nat) : (s.setWalker d v).coreSlice d = s.coreSlice d := rfl
@[simp] theorem State.coreSlice_setReq (r : Nat) (v : Req) (d : Nat) : (s.setReq r v).coreSlice d = s.coreSlice d := rfl
@[simp] theorem State.coreSlice_dropReq (r : Nat) (d : Nat) : (s.dropReq r).coreSlice d = s.coreSlice d := rfl
@[simp] theorem State.coreSlice_setMemSlice (n : Nat) (v : SliceE) (d : Nat) : (s.setMemSlice n v).coreSlice d = s.coreSlice d := rfl
@[simp] theorem State.coreSlice_setLinkSlice (n : Nat) (v : SliceE) (d : Nat) : (s.setLinkSlice n v).coreSlice d = s.coreSlice d := rfl
@[simp] theorem State.coreSlice_addReq (r : Req) (d : Nat) : (s.addReq r).coreSlice d = s.coreSlice d := rfl
@[simp] theorem State.coreSlice_bumpId (d : Nat) : (s.bumpId ).coreSlice d = s.coreSlice d := rfl
@[simp] theorem State.coreSlice_useFree (d : Nat) : (s.useFree ).coreSlice d = s.coreSlice d := rfl
@[simp] theorem State.coreSlice_emit (o : Out) (d : Nat) : (s.emit o).coreSlice d = s.coreSlice d := rfl
@[simp] theorem State.coreSlice_setReg (c v : Nat) (d : Nat) : (s.setReg c v).coreSlice d = s.coreSlice d := rfl
@[simp] theorem State.coreSlice_setFld (c lo wd v : Nat) (d : Nat) : (s.setFld c lo wd v).coreSlice d = s.coreSlice d := rfl
@[simp] theorem State.coreSlice_bumpFld (c lo wd k : Nat) (d : Nat) : (s.bumpFld c lo wd k).coreSlice d = s.coreSlice d := rfl
@[simp] theorem State.coreSlice_setHome (h : Nat) (v : Home) (d : Nat) : (s.setHome h v).coreSlice d = s.coreSlice d := by unfold State.setHome; split <;> rfl
@[simp] theorem State.coreSlice_modSlot (c k : Nat) (f : Slot → Slot) (d : Nat) : (s.modSlot c k f).coreSlice d = s.coreSlice d := by unfold State.modSlot; split <;> rfl
@[simp] theorem State.coreSlice_modCtx (i : Nat) (f : Context → Context) (d : Nat) : (s.modCtx i f).coreSlice d = s.coreSlice d := by unfold State.modCtx; split <;> rfl
@[simp] theorem State.coreSlice_modQueue (q : Nat) (f : Queue → Queue) (d : Nat) : (s.modQueue q f).coreSlice d = s.coreSlice d := by unfold State.modQueue; split <;> rfl
@[simp] theorem State.coreSlice_modReq (r : Nat) (f : Req → Req) (d : Nat) : (s.modReq r f).coreSlice d = s.coreSlice d := by unfold State.modReq; split <;> rfl
@[simp] theorem State.coreSlice_voidSweep (d : Nat) : (s.voidSweep ).coreSlice d = s.coreSlice d := by unfold State.voidSweep; split <;> rfl
@[simp] theorem State.coreSlice_writeFld (c lo wd v : Nat) (d : Nat) : (s.writeFld c lo wd v).coreSlice d = s.coreSlice d := by unfold State.writeFld; simp only [State.voidSweep]; split <;> rfl

@[simp] theorem State.memSlice_setMemSlice_self (k : Nat) (v : SliceE) : (s.setMemSlice k v).memSlice k = v := tgetD_tputD_self _ _ _ _
theorem State.memSlice_setMemSlice_ne {j k : Nat} (h : j ≠ k) (v : SliceE) : (s.setMemSlice k v).memSlice j = s.memSlice j := by unfold State.memSlice State.setMemSlice tgetD tputD; simp only; split_ifs <;> simp [tget_tdel_ne h, tget_tput_ne h]
@[simp] theorem State.memSlice_setCore (c : Nat) (v : Core) (d : Nat) : (s.setCore c v).memSlice d = s.memSlice d := rfl
@[simp] theorem State.memSlice_setSlot (c k : Nat) (v : Slot) (d : Nat) : (s.setSlot c k v).memSlice d = s.memSlice d := rfl
@[simp] theorem State.memSlice_setCache (n : Nat) (v : Cache) (d : Nat) : (s.setCache n v).memSlice d = s.memSlice d := rfl
@[simp] theorem State.memSlice_setRegion (i : Nat) (v : Region) (d : Nat) : (s.setRegion i v).memSlice d = s.memSlice d := rfl
@[simp] theorem State.memSlice_setFabric (d : Nat) (v : Fabric) (d : Nat) : (s.setFabric d v).memSlice d = s.memSlice d := rfl
@[simp] theorem State.memSlice_setCtx (i : Nat) (v : Context) (d : Nat) : (s.setCtx i v).memSlice d = s.memSlice d := rfl
@[simp] theorem State.memSlice_setFolio (f : Nat) (v : Folio) (d : Nat) : (s.setFolio f v).memSlice d = s.memSlice d := rfl
@[simp] theorem State.memSlice_setQueue (q : Nat) (v : Queue) (d : Nat) : (s.setQueue q v).memSlice d = s.memSlice d := rfl
@[simp] theorem State.memSlice_setChan (c : Nat) (v : Chan) (d : Nat) : (s.setChan c v).memSlice d = s.memSlice d := rfl
@[simp] theorem State.memSlice_setStitch (l : Nat) (v : Link) (d : Nat) : (s.setStitch l v).memSlice d = s.memSlice d := rfl
@[simp] theorem State.memSlice_setUnit (u : Nat) (v : SiftUnit) (d : Nat) : (s.setUnit u v).memSlice d = s.memSlice d := rfl
@[simp] theorem State.memSlice_setWalker (d : Nat) (v : Walker) (d : Nat) : (s.setWalker d v).memSlice d = s.memSlice d := rfl
@[simp] theorem State.memSlice_setReq (r : Nat) (v : Req) (d : Nat) : (s.setReq r v).memSlice d = s.memSlice d := rfl
@[simp] theorem State.memSlice_dropReq (r : Nat) (d : Nat) : (s.dropReq r).memSlice d = s.memSlice d := rfl
@[simp] theorem State.memSlice_setCoreSlice (n : Nat) (v : SliceE) (d : Nat) : (s.setCoreSlice n v).memSlice d = s.memSlice d := rfl
@[simp] theorem State.memSlice_setLinkSlice (n : Nat) (v : SliceE) (d : Nat) : (s.setLinkSlice n v).memSlice d = s.memSlice d := rfl
@[simp] theorem State.memSlice_addReq (r : Req) (d : Nat) : (s.addReq r).memSlice d = s.memSlice d := rfl
@[simp] theorem State.memSlice_bumpId (d : Nat) : (s.bumpId ).memSlice d = s.memSlice d := rfl
@[simp] theorem State.memSlice_useFree (d : Nat) : (s.useFree ).memSlice d = s.memSlice d := rfl
@[simp] theorem State.memSlice_emit (o : Out) (d : Nat) : (s.emit o).memSlice d = s.memSlice d := rfl
@[simp] theorem State.memSlice_setReg (c v : Nat) (d : Nat) : (s.setReg c v).memSlice d = s.memSlice d := rfl
@[simp] theorem State.memSlice_setFld (c lo wd v : Nat) (d : Nat) : (s.setFld c lo wd v).memSlice d = s.memSlice d := rfl
@[simp] theorem State.memSlice_bumpFld (c lo wd k : Nat) (d : Nat) : (s.bumpFld c lo wd k).memSlice d = s.memSlice d := rfl
@[simp] theorem State.memSlice_setHome (h : Nat) (v : Home) (d : Nat) : (s.setHome h v).memSlice d = s.memSlice d := by unfold State.setHome; split <;> rfl
@[simp] theorem State.memSlice_modSlot (c k : Nat) (f : Slot → Slot) (d : Nat) : (s.modSlot c k f).memSlice d = s.memSlice d := by unfold State.modSlot; split <;> rfl
@[simp] theorem State.memSlice_modCtx (i : Nat) (f : Context → Context) (d : Nat) : (s.modCtx i f).memSlice d = s.memSlice d := by unfold State.modCtx; split <;> rfl
@[simp] theorem State.memSlice_modQueue (q : Nat) (f : Queue → Queue) (d : Nat) : (s.modQueue q f).memSlice d = s.memSlice d := by unfold State.modQueue; split <;> rfl
@[simp] theorem State.memSlice_modReq (r : Nat) (f : Req → Req) (d : Nat) : (s.modReq r f).memSlice d = s.memSlice d := by unfold State.modReq; split <;> rfl
@[simp] theorem State.memSlice_voidSweep (d : Nat) : (s.voidSweep ).memSlice d = s.memSlice d := by unfold State.voidSweep; split <;> rfl
@[simp] theorem State.memSlice_writeFld (c lo wd v : Nat) (d : Nat) : (s.writeFld c lo wd v).memSlice d = s.memSlice d := by unfold State.writeFld; simp only [State.voidSweep]; split <;> rfl

@[simp] theorem State.linkSlice_setLinkSlice_self (k : Nat) (v : SliceE) : (s.setLinkSlice k v).linkSlice k = v := tgetD_tputD_self _ _ _ _
theorem State.linkSlice_setLinkSlice_ne {j k : Nat} (h : j ≠ k) (v : SliceE) : (s.setLinkSlice k v).linkSlice j = s.linkSlice j := tgetD_tputD_ne h _ _ _
@[simp] theorem State.linkSlice_setCore (c : Nat) (v : Core) (d : Nat) : (s.setCore c v).linkSlice d = s.linkSlice d := rfl
@[simp] theorem State.linkSlice_setSlot (c k : Nat) (v : Slot) (d : Nat) : (s.setSlot c k v).linkSlice d = s.linkSlice d := rfl
@[simp] theorem State.linkSlice_setCache (n : Nat) (v : Cache) (d : Nat) : (s.setCache n v).linkSlice d = s.linkSlice d := rfl
@[simp] theorem State.linkSlice_setRegion (i : Nat) (v : Region) (d : Nat) : (s.setRegion i v).linkSlice d = s.linkSlice d := rfl
@[simp] theorem State.linkSlice_setFabric (d : Nat) (v : Fabric) (d : Nat) : (s.setFabric d v).linkSlice d = s.linkSlice d := rfl
@[simp] theorem State.linkSlice_setCtx (i : Nat) (v : Context) (d : Nat) : (s.setCtx i v).linkSlice d = s.linkSlice d := rfl
@[simp] theorem State.linkSlice_setFolio (f : Nat) (v : Folio) (d : Nat) : (s.setFolio f v).linkSlice d = s.linkSlice d := rfl
@[simp] theorem State.linkSlice_setQueue (q : Nat) (v : Queue) (d : Nat) : (s.setQueue q v).linkSlice d = s.linkSlice d := rfl
@[simp] theorem State.linkSlice_setChan (c : Nat) (v : Chan) (d : Nat) : (s.setChan c v).linkSlice d = s.linkSlice d := rfl
@[simp] theorem State.linkSlice_setStitch (l : Nat) (v : Link) (d : Nat) : (s.setStitch l v).linkSlice d = s.linkSlice d := rfl
@[simp] theorem State.linkSlice_setUnit (u : Nat) (v : SiftUnit) (d : Nat) : (s.setUnit u v).linkSlice d = s.linkSlice d := rfl
@[simp] theorem State.linkSlice_setWalker (d : Nat) (v : Walker) (d : Nat) : (s.setWalker d v).linkSlice d = s.linkSlice d := rfl
@[simp] theorem State.linkSlice_setReq (r : Nat) (v : Req) (d : Nat) : (s.setReq r v).linkSlice d = s.linkSlice d := rfl
@[simp] theorem State.linkSlice_dropReq (r : Nat) (d : Nat) : (s.dropReq r).linkSlice d = s.linkSlice d := rfl
@[simp] theorem State.linkSlice_setCoreSlice (n : Nat) (v : SliceE) (d : Nat) : (s.setCoreSlice n v).linkSlice d = s.linkSlice d := rfl
@[simp] theorem State.linkSlice_setMemSlice (n : Nat) (v : SliceE) (d : Nat) : (s.setMemSlice n v).linkSlice d = s.linkSlice d := rfl
@[simp] theorem State.linkSlice_addReq (r : Req) (d : Nat) : (s.addReq r).linkSlice d = s.linkSlice d := rfl
@[simp] theorem State.linkSlice_bumpId (d : Nat) : (s.bumpId ).linkSlice d = s.linkSlice d := rfl
@[simp] theorem State.linkSlice_useFree (d : Nat) : (s.useFree ).linkSlice d = s.linkSlice d := rfl
@[simp] theorem State.linkSlice_emit (o : Out) (d : Nat) : (s.emit o).linkSlice d = s.linkSlice d := rfl
@[simp] theorem State.linkSlice_setReg (c v : Nat) (d : Nat) : (s.setReg c v).linkSlice d = s.linkSlice d := rfl
@[simp] theorem State.linkSlice_setFld (c lo wd v : Nat) (d : Nat) : (s.setFld c lo wd v).linkSlice d = s.linkSlice d := rfl
@[simp] theorem State.linkSlice_bumpFld (c lo wd k : Nat) (d : Nat) : (s.bumpFld c lo wd k).linkSlice d = s.linkSlice d := rfl
@[simp] theorem State.linkSlice_setHome (h : Nat) (v : Home) (d : Nat) : (s.setHome h v).linkSlice d = s.linkSlice d := by unfold State.setHome; split <;> rfl
@[simp] theorem State.linkSlice_modSlot (c k : Nat) (f : Slot → Slot) (d : Nat) : (s.modSlot c k f).linkSlice d = s.linkSlice d := by unfold State.modSlot; split <;> rfl
@[simp] theorem State.linkSlice_modCtx (i : Nat) (f : Context → Context) (d : Nat) : (s.modCtx i f).linkSlice d = s.linkSlice d := by unfold State.modCtx; split <;> rfl
@[simp] theorem State.linkSlice_modQueue (q : Nat) (f : Queue → Queue) (d : Nat) : (s.modQueue q f).linkSlice d = s.linkSlice d := by unfold State.modQueue; split <;> rfl
@[simp] theorem State.linkSlice_modReq (r : Nat) (f : Req → Req) (d : Nat) : (s.modReq r f).linkSlice d = s.linkSlice d := by unfold State.modReq; split <;> rfl
@[simp] theorem State.linkSlice_voidSweep (d : Nat) : (s.voidSweep ).linkSlice d = s.linkSlice d := by unfold State.voidSweep; split <;> rfl
@[simp] theorem State.linkSlice_writeFld (c lo wd v : Nat) (d : Nat) : (s.writeFld c lo wd v).linkSlice d = s.linkSlice d := by unfold State.writeFld; simp only [State.voidSweep]; split <;> rfl

@[simp] theorem State.reg_setCore (c : Nat) (v : Core) (d : Nat) : (s.setCore c v).reg d = s.reg d := rfl
@[simp] theorem State.reg_setSlot (c k : Nat) (v : Slot) (d : Nat) : (s.setSlot c k v).reg d = s.reg d := rfl
@[simp] theorem State.reg_setCache (n : Nat) (v : Cache) (d : Nat) : (s.setCache n v).reg d = s.reg d := rfl
@[simp] theorem State.reg_setRegion (i : Nat) (v : Region) (d : Nat) : (s.setRegion i v).reg d = s.reg d := rfl
@[simp] theorem State.reg_setFabric (d : Nat) (v : Fabric) (d : Nat) : (s.setFabric d v).reg d = s.reg d := rfl
@[simp] theorem State.reg_setCtx (i : Nat) (v : Context) (d : Nat) : (s.setCtx i v).reg d = s.reg d := rfl
@[simp] theorem State.reg_setFolio (f : Nat) (v : Folio) (d : Nat) : (s.setFolio f v).reg d = s.reg d := rfl
@[simp] theorem State.reg_setQueue (q : Nat) (v : Queue) (d : Nat) : (s.setQueue q v).reg d = s.reg d := rfl
@[simp] theorem State.reg_setChan (c : Nat) (v : Chan) (d : Nat) : (s.setChan c v).reg d = s.reg d := rfl
@[simp] theorem State.reg_setStitch (l : Nat) (v : Link) (d : Nat) : (s.setStitch l v).reg d = s.reg d := rfl
@[simp] theorem State.reg_setUnit (u : Nat) (v : SiftUnit) (d : Nat) : (s.setUnit u v).reg d = s.reg d := rfl
@[simp] theorem State.reg_setWalker (d : Nat) (v : Walker) (d : Nat) : (s.setWalker d v).reg d = s.reg d := rfl
@[simp] theorem State.reg_setReq (r : Nat) (v : Req) (d : Nat) : (s.setReq r v).reg d = s.reg d := rfl
@[simp] theorem State.reg_dropReq (r : Nat) (d : Nat) : (s.dropReq r).reg d = s.reg d := rfl
@[simp] theorem State.reg_setCoreSlice (n : Nat) (v : SliceE) (d : Nat) : (s.setCoreSlice n v).reg d = s.reg d := rfl
@[simp] theorem State.reg_setMemSlice (n : Nat) (v : SliceE) (d : Nat) : (s.setMemSlice n v).reg d = s.reg d := rfl
@[simp] theorem State.reg_setLinkSlice (n : Nat) (v : SliceE) (d : Nat) : (s.setLinkSlice n v).reg d = s.reg d := rfl
@[simp] theorem State.reg_addReq (r : Req) (d : Nat) : (s.addReq r).reg d = s.reg d := rfl
@[simp] theorem State.reg_bumpId (d : Nat) : (s.bumpId ).reg d = s.reg d := rfl
@[simp] theorem State.reg_useFree (d : Nat) : (s.useFree ).reg d = s.reg d := rfl
@[simp] theorem State.reg_emit (o : Out) (d : Nat) : (s.emit o).reg d = s.reg d := rfl
@[simp] theorem State.reg_setHome (h : Nat) (v : Home) (d : Nat) : (s.setHome h v).reg d = s.reg d := by unfold State.setHome; split <;> rfl
@[simp] theorem State.reg_modSlot (c k : Nat) (f : Slot → Slot) (d : Nat) : (s.modSlot c k f).reg d = s.reg d := by unfold State.modSlot; split <;> rfl
@[simp] theorem State.reg_modCtx (i : Nat) (f : Context → Context) (d : Nat) : (s.modCtx i f).reg d = s.reg d := by unfold State.modCtx; split <;> rfl
@[simp] theorem State.reg_modQueue (q : Nat) (f : Queue → Queue) (d : Nat) : (s.modQueue q f).reg d = s.reg d := by unfold State.modQueue; split <;> rfl
@[simp] theorem State.reg_modReq (r : Nat) (f : Req → Req) (d : Nat) : (s.modReq r f).reg d = s.reg d := by unfold State.modReq; split <;> rfl

@[simp] theorem State.reg_setReg_self (c v : Nat) : (s.setReg c v).reg c = v % 2 ^ 64 := by simp [State.reg, State.setReg]

theorem State.reg_setReg_ne {c j : Nat} (h : j ≠ c) (v : Nat) : (s.setReg c v).reg j = s.reg j := by
  unfold State.reg State.setReg tgetD tputD; simp only; split_ifs <;> simp [tget_tdel_ne h, tget_tput_ne h]

theorem State.reg_setFld_ne {c j : Nat} (h : j ≠ c) (lo wd v : Nat) : (s.setFld c lo wd v).reg j = s.reg j := State.reg_setReg_ne s h _

theorem State.reg_bumpFld_ne {c j : Nat} (h : j ≠ c) (lo wd v : Nat) : (s.bumpFld c lo wd v).reg j = s.reg j := State.reg_setReg_ne s h _

@[simp] theorem State.reg_voidSweep (d : Nat) : s.voidSweep.reg d = s.reg d := by unfold State.voidSweep; split <;> rfl

theorem State.reg_writeFld_ne {c j : Nat} (h : j ≠ c) (lo wd v : Nat) : (s.writeFld c lo wd v).reg j = s.reg j := by simp [State.writeFld, State.reg_setFld_ne s h]

end Sys2Proof.Machine
end

