-- ==== Sys2Proof/Laws/Commands.lean ====
section
/-! SUPPORT. Sys2Proof/Laws/Commands.lean: what the shared ways of issuing an instruction and of starting a queue's command do. -/

namespace Sys2Proof.Machine

/-- A ready word reaches its own meaning. -/
theorem issue_ready {s s1 : State} {core : Nat} {w : Word} {m k : Nat} {x : Slot} (h : Ready s core w m k x s1) (go : State → Nat → Slot → State) : s.issue core w m none go = .next (go s1 k x) := by
  obtain ⟨h1, h2, h3, h4⟩ := h
  simp [State.issue, h1, h2, h3, h4]

/-- A ready word of the system class reaches its own meaning. -/
theorem issue_sys {s s1 : State} {core : Nat} {w : Word} {f k : Nat} {x : Slot} (h : ReadySys s core w f k x s1)
    (go : State → Nat → Slot → State) : s.issue core w 0x3C (some f) go = .next (go s1 k x) := by
  obtain ⟨⟨h1, h2, h3, h4⟩, h5⟩ := h
  simp [State.issue, h1, h2, h3, h4, h5]

/-- A command that starts runs its own effect on the state with its queue wait accounted. -/
theorem runCmd_taken {s s1 : State} {q op : Nat} {x : Queue} {c : Cmd} (h : Taken s q op x c s1) (go : State → Queue → Cmd → State) :
    s.runCmd q op go = .next (go s1 x c) := by
  obtain ⟨h1, h2⟩ := h
  simp [State.runCmd, h1, h2]

/-- The same for a command with an argument block. -/
theorem runCmd_block {s s2 : State} {q op : Nat} {x : Queue} {c : Cmd} {b : Bytes} (h : TakenBlock s q op x c s2 b)
    (go : State → Queue → Cmd → State → Bytes → State) :
    s.runCmd q op (fun s1 x c => s1.withBlock q c 64 (go s1 x c)) = .next (go (s.endQwait q x) x c s2 b) := by
  obtain ⟨h1, h2⟩ := h
  simp [State.runCmd, State.withBlock, h1, h2]

/-- A command that may not start leaves the state. -/
theorem runCmd_none {s : State} {q op : Nat} (h : s.front q op = none) (go : State → Queue → Cmd → State) : s.runCmd q op go = .next s := by
  simp [State.runCmd, h, stay]

@[simp] theorem State.modSlot_of {s : State} {c k : Nat} {x : Slot} (h : s.slot? c k = some x) (f : Slot → Slot) :
    s.modSlot c k f = s.setSlot c k (f x) := by simp [State.modSlot, h]

@[simp] theorem State.modCtx_of {s : State} {i : Nat} {x : Context} (h : s.ctx? i = some x) (f : Context → Context) :
    s.modCtx i f = s.setCtx i (f x) := by simp [State.modCtx, h]

@[simp] theorem State.modQueue_of {s : State} {q : Nat} {x : Queue} (h : s.queue? q = some x) (f : Queue → Queue) :
    s.modQueue q f = s.setQueue q (f x) := by simp [State.modQueue, h]

@[simp] theorem State.modReq_of {s : State} {r : Nat} {x : Req} (h : s.req? r = some x) (f : Req → Req) :
    s.modReq r f = s.setReq r (f x) := by simp [State.modReq, h]

/-! ## The completion point and the phase of a command touch its queue alone -/

@[simp] theorem State.cmdDone_pending (s : State) (q st d : Nat) : (s.cmdDone q st d).pending = s.pending := by simp [State.cmdDone]
@[simp] theorem State.cmdDone_free (s : State) (q st d : Nat) : (s.cmdDone q st d).free = s.free := by simp [State.cmdDone]
@[simp] theorem State.cmdDone_hubCount (s : State) (q st d : Nat) : (s.cmdDone q st d).hubCount = s.hubCount := by simp [State.cmdDone]
@[simp] theorem State.cmdDone_regs (s : State) (q st d : Nat) : (s.cmdDone q st d).regs = s.regs := by simp [State.cmdDone]
@[simp] theorem State.cmdDone_hbm (s : State) (q st d : Nat) : (s.cmdDone q st d).hbm = s.hbm := by simp [State.cmdDone]
@[simp] theorem State.cmdDone_host (s : State) (q st d : Nat) : (s.cmdDone q st d).host = s.host := by simp [State.cmdDone]
@[simp] theorem State.cmdDone_poison (s : State) (q st d : Nat) : (s.cmdDone q st d).poison = s.poison := by simp [State.cmdDone]
@[simp] theorem State.cmdDone_tags (s : State) (q st d : Nat) : (s.cmdDone q st d).tags = s.tags := by simp [State.cmdDone]
@[simp] theorem State.cmdDone_frames (s : State) (q st d : Nat) : (s.cmdDone q st d).frames = s.frames := by simp [State.cmdDone]
@[simp] theorem State.cmdDone_regions (s : State) (q st d : Nat) : (s.cmdDone q st d).regions = s.regions := by simp [State.cmdDone]
@[simp] theorem State.cmdDone_fabrics (s : State) (q st d : Nat) : (s.cmdDone q st d).fabrics = s.fabrics := by simp [State.cmdDone]
@[simp] theorem State.cmdDone_spine (s : State) (q st d : Nat) : (s.cmdDone q st d).spine = s.spine := by simp [State.cmdDone]
@[simp] theorem State.cmdDone_spineFailed (s : State) (q st d : Nat) : (s.cmdDone q st d).spineFailed = s.spineFailed := by simp [State.cmdDone]
@[simp] theorem State.cmdDone_cores (s : State) (q st d : Nat) : (s.cmdDone q st d).cores = s.cores := by simp [State.cmdDone]
@[simp] theorem State.cmdDone_caches (s : State) (q st d : Nat) : (s.cmdDone q st d).caches = s.caches := by simp [State.cmdDone]
@[simp] theorem State.cmdDone_homes (s : State) (q st d : Nat) : (s.cmdDone q st d).homes = s.homes := by simp [State.cmdDone]
@[simp] theorem State.cmdDone_hostHome (s : State) (q st d : Nat) : (s.cmdDone q st d).hostHome = s.hostHome := by simp [State.cmdDone]
@[simp] theorem State.cmdDone_hostLines (s : State) (q st d : Nat) : (s.cmdDone q st d).hostLines = s.hostLines := by simp [State.cmdDone]
@[simp] theorem State.cmdDone_hubWatch (s : State) (q st d : Nat) : (s.cmdDone q st d).hubWatch = s.hubWatch := by simp [State.cmdDone]
@[simp] theorem State.cmdDone_booksAt (s : State) (q st d : Nat) : (s.cmdDone q st d).booksAt = s.booksAt := by simp [State.cmdDone]
@[simp] theorem State.cmdDone_foreAt (s : State) (q st d : Nat) : (s.cmdDone q st d).foreAt = s.foreAt := by simp [State.cmdDone]
@[simp] theorem State.cmdDone_reqs (s : State) (q st d : Nat) : (s.cmdDone q st d).reqs = s.reqs := by simp [State.cmdDone]
@[simp] theorem State.cmdDone_nextId (s : State) (q st d : Nat) : (s.cmdDone q st d).nextId = s.nextId := by simp [State.cmdDone]
@[simp] theorem State.cmdDone_offers (s : State) (q st d : Nat) : (s.cmdDone q st d).offers = s.offers := by simp [State.cmdDone]
@[simp] theorem State.cmdDone_updates (s : State) (q st d : Nat) : (s.cmdDone q st d).updates = s.updates := by simp [State.cmdDone]
@[simp] theorem State.cmdDone_bars (s : State) (q st d : Nat) : (s.cmdDone q st d).bars = s.bars := by simp [State.cmdDone]
@[simp] theorem State.cmdDone_sifts (s : State) (q st d : Nat) : (s.cmdDone q st d).sifts = s.sifts := by simp [State.cmdDone]
@[simp] theorem State.cmdDone_units (s : State) (q st d : Nat) : (s.cmdDone q st d).units = s.units := by simp [State.cmdDone]
@[simp] theorem State.cmdDone_walks (s : State) (q st d : Nat) : (s.cmdDone q st d).walks = s.walks := by simp [State.cmdDone]
@[simp] theorem State.cmdDone_walkers (s : State) (q st d : Nat) : (s.cmdDone q st d).walkers = s.walkers := by simp [State.cmdDone]
@[simp] theorem State.cmdDone_hubTlb (s : State) (q st d : Nat) : (s.cmdDone q st d).hubTlb = s.hubTlb := by simp [State.cmdDone]
@[simp] theorem State.cmdDone_cpyTlb (s : State) (q st d : Nat) : (s.cmdDone q st d).cpyTlb = s.cpyTlb := by simp [State.cmdDone]
@[simp] theorem State.cmdDone_chans (s : State) (q st d : Nat) : (s.cmdDone q st d).chans = s.chans := by simp [State.cmdDone]
@[simp] theorem State.cmdDone_ctxs (s : State) (q st d : Nat) : (s.cmdDone q st d).ctxs = s.ctxs := by simp [State.cmdDone]
@[simp] theorem State.cmdDone_folios (s : State) (q st d : Nat) : (s.cmdDone q st d).folios = s.folios := by simp [State.cmdDone]
@[simp] theorem State.cmdDone_coreSl (s : State) (q st d : Nat) : (s.cmdDone q st d).coreSl = s.coreSl := by simp [State.cmdDone]
@[simp] theorem State.cmdDone_memSl (s : State) (q st d : Nat) : (s.cmdDone q st d).memSl = s.memSl := by simp [State.cmdDone]
@[simp] theorem State.cmdDone_linkSl (s : State) (q st d : Nat) : (s.cmdDone q st d).linkSl = s.linkSl := by simp [State.cmdDone]
@[simp] theorem State.cmdDone_prots (s : State) (q st d : Nat) : (s.cmdDone q st d).prots = s.prots := by simp [State.cmdDone]
@[simp] theorem State.cmdDone_links (s : State) (q st d : Nat) : (s.cmdDone q st d).links = s.links := by simp [State.cmdDone]
@[simp] theorem State.cmdDone_evrings (s : State) (q st d : Nat) : (s.cmdDone q st d).evrings = s.evrings := by simp [State.cmdDone]
@[simp] theorem State.cmdDone_refSubs (s : State) (q st d : Nat) : (s.cmdDone q st d).refSubs = s.refSubs := by simp [State.cmdDone]
@[simp] theorem State.cmdDone_lastRefs (s : State) (q st d : Nat) : (s.cmdDone q st d).lastRefs = s.lastRefs := by simp [State.cmdDone]
@[simp] theorem State.cmdDone_cyclic (s : State) (q st d : Nat) : (s.cmdDone q st d).cyclic = s.cyclic := by simp [State.cmdDone]
@[simp] theorem State.cmdDone_corrSeq (s : State) (q st d : Nat) : (s.cmdDone q st d).corrSeq = s.corrSeq := by simp [State.cmdDone]
@[simp] theorem State.cmdDone_corrFrom (s : State) (q st d : Nat) : (s.cmdDone q st d).corrFrom = s.corrFrom := by simp [State.cmdDone]
@[simp] theorem State.cmdDone_corrDue (s : State) (q st d : Nat) : (s.cmdDone q st d).corrDue = s.corrDue := by simp [State.cmdDone]
@[simp] theorem State.cmdDone_cfg (s : State) (q st d : Nat) : (s.cmdDone q st d).cfg = s.cfg := by simp [State.cmdDone]
@[simp] theorem State.cmdDone_power (s : State) (q st d : Nat) : (s.cmdDone q st d).power = s.power := by simp [State.cmdDone]
@[simp] theorem State.cmdDone_net (s : State) (q st d : Nat) : (s.cmdDone q st d).net = s.net := by simp [State.cmdDone]
@[simp] theorem State.cmdDone_rounds (s : State) (q st d : Nat) : (s.cmdDone q st d).rounds = s.rounds := by simp [State.cmdDone]
@[simp] theorem State.cmdDone_urgency (s : State) (q st d : Nat) : (s.cmdDone q st d).urgency = s.urgency := by simp [State.cmdDone]
@[simp] theorem State.cmdDone_urgSince (s : State) (q st d : Nat) : (s.cmdDone q st d).urgSince = s.urgSince := by simp [State.cmdDone]
@[simp] theorem State.cmdDone_urgNoted (s : State) (q st d : Nat) : (s.cmdDone q st d).urgNoted = s.urgNoted := by simp [State.cmdDone]
@[simp] theorem State.cmdDone_clasp (s : State) (q st d : Nat) : (s.cmdDone q st d).clasp = s.clasp := by simp [State.cmdDone]
@[simp] theorem State.cmdDone_link (s : State) (q st d : Nat) : (s.cmdDone q st d).link = s.link := by simp [State.cmdDone]
@[simp] theorem State.cmdDone_fuses (s : State) (q st d : Nat) : (s.cmdDone q st d).fuses = s.fuses := by simp [State.cmdDone]
@[simp] theorem State.cmdDone_capState (s : State) (q st d : Nat) : (s.cmdDone q st d).capState = s.capState := by simp [State.cmdDone]
@[simp] theorem State.cmdDone_capGen (s : State) (q st d : Nat) : (s.cmdDone q st d).capGen = s.capGen := by simp [State.cmdDone]
@[simp] theorem State.cmdDone_fore (s : State) (q st d : Nat) : (s.cmdDone q st d).fore = s.fore := by simp [State.cmdDone]
@[simp] theorem State.cmdDone_standby (s : State) (q st d : Nat) : (s.cmdDone q st d).standby = s.standby := by simp [State.cmdDone]
@[simp] theorem State.cmdDone_peerLost (s : State) (q st d : Nat) : (s.cmdDone q st d).peerLost = s.peerLost := by simp [State.cmdDone]
@[simp] theorem State.cmdDone_kept (s : State) (q st d : Nat) : (s.cmdDone q st d).kept = s.kept := by simp [State.cmdDone]
@[simp] theorem State.cmdDone_darkNoted (s : State) (q st d : Nat) : (s.cmdDone q st d).darkNoted = s.darkNoted := by simp [State.cmdDone]
@[simp] theorem State.cmdDone_out (s : State) (q st d : Nat) : (s.cmdDone q st d).out = s.out := by simp [State.cmdDone]
@[simp] theorem State.cmdDone_at_core (s : State) (q st d : Nat) (i : Nat) : (s.cmdDone q st d).core i = s.core i := by simp [State.cmdDone]
@[simp] theorem State.cmdDone_at_ctxQ (s : State) (q st d : Nat) (i : Nat) : (s.cmdDone q st d).ctx? i = s.ctx? i := by simp [State.cmdDone]
@[simp] theorem State.cmdDone_at_folio (s : State) (q st d : Nat) (i : Nat) : (s.cmdDone q st d).folio i = s.folio i := by simp [State.cmdDone]
@[simp] theorem State.cmdDone_at_chan (s : State) (q st d : Nat) (i : Nat) : (s.cmdDone q st d).chan i = s.chan i := by simp [State.cmdDone]
@[simp] theorem State.cmdDone_at_unit (s : State) (q st d : Nat) (i : Nat) : (s.cmdDone q st d).unit i = s.unit i := by simp [State.cmdDone]
@[simp] theorem State.cmdDone_at_reqQ (s : State) (q st d : Nat) (i : Nat) : (s.cmdDone q st d).req? i = s.req? i := by simp [State.cmdDone]
@[simp] theorem State.cmdDone_at_coreSlice (s : State) (q st d : Nat) (i : Nat) : (s.cmdDone q st d).coreSlice i = s.coreSlice i := by simp [State.cmdDone]
@[simp] theorem State.cmdDone_at_memSlice (s : State) (q st d : Nat) (i : Nat) : (s.cmdDone q st d).memSlice i = s.memSlice i := by simp [State.cmdDone]
@[simp] theorem State.cmdDone_at_linkSlice (s : State) (q st d : Nat) (i : Nat) : (s.cmdDone q st d).linkSlice i = s.linkSlice i := by simp [State.cmdDone]
@[simp] theorem State.cmdDone_at_reg (s : State) (q st d : Nat) (i : Nat) : (s.cmdDone q st d).reg i = s.reg i := by simp [State.cmdDone]
@[simp] theorem State.cmdDone_at_region (s : State) (q st d : Nat) (i : Nat) : (s.cmdDone q st d).region i = s.region i := by simp [State.cmdDone]

@[simp] theorem State.setPhase_pending (s : State) (q : Nat) (p : CmdPhase) : (s.setPhase q p).pending = s.pending := by simp [State.setPhase]
@[simp] theorem State.setPhase_free (s : State) (q : Nat) (p : CmdPhase) : (s.setPhase q p).free = s.free := by simp [State.setPhase]
@[simp] theorem State.setPhase_hubCount (s : State) (q : Nat) (p : CmdPhase) : (s.setPhase q p).hubCount = s.hubCount := by simp [State.setPhase]
@[simp] theorem State.setPhase_regs (s : State) (q : Nat) (p : CmdPhase) : (s.setPhase q p).regs = s.regs := by simp [State.setPhase]
@[simp] theorem State.setPhase_hbm (s : State) (q : Nat) (p : CmdPhase) : (s.setPhase q p).hbm = s.hbm := by simp [State.setPhase]
@[simp] theorem State.setPhase_host (s : State) (q : Nat) (p : CmdPhase) : (s.setPhase q p).host = s.host := by simp [State.setPhase]
@[simp] theorem State.setPhase_poison (s : State) (q : Nat) (p : CmdPhase) : (s.setPhase q p).poison = s.poison := by simp [State.setPhase]
@[simp] theorem State.setPhase_tags (s : State) (q : Nat) (p : CmdPhase) : (s.setPhase q p).tags = s.tags := by simp [State.setPhase]
@[simp] theorem State.setPhase_frames (s : State) (q : Nat) (p : CmdPhase) : (s.setPhase q p).frames = s.frames := by simp [State.setPhase]
@[simp] theorem State.setPhase_regions (s : State) (q : Nat) (p : CmdPhase) : (s.setPhase q p).regions = s.regions := by simp [State.setPhase]
@[simp] theorem State.setPhase_fabrics (s : State) (q : Nat) (p : CmdPhase) : (s.setPhase q p).fabrics = s.fabrics := by simp [State.setPhase]
@[simp] theorem State.setPhase_spine (s : State) (q : Nat) (p : CmdPhase) : (s.setPhase q p).spine = s.spine := by simp [State.setPhase]
@[simp] theorem State.setPhase_spineFailed (s : State) (q : Nat) (p : CmdPhase) : (s.setPhase q p).spineFailed = s.spineFailed := by simp [State.setPhase]
@[simp] theorem State.setPhase_cores (s : State) (q : Nat) (p : CmdPhase) : (s.setPhase q p).cores = s.cores := by simp [State.setPhase]
@[simp] theorem State.setPhase_caches (s : State) (q : Nat) (p : CmdPhase) : (s.setPhase q p).caches = s.caches := by simp [State.setPhase]
@[simp] theorem State.setPhase_homes (s : State) (q : Nat) (p : CmdPhase) : (s.setPhase q p).homes = s.homes := by simp [State.setPhase]
@[simp] theorem State.setPhase_hostHome (s : State) (q : Nat) (p : CmdPhase) : (s.setPhase q p).hostHome = s.hostHome := by simp [State.setPhase]
@[simp] theorem State.setPhase_hostLines (s : State) (q : Nat) (p : CmdPhase) : (s.setPhase q p).hostLines = s.hostLines := by simp [State.setPhase]
@[simp] theorem State.setPhase_hubWatch (s : State) (q : Nat) (p : CmdPhase) : (s.setPhase q p).hubWatch = s.hubWatch := by simp [State.setPhase]
@[simp] theorem State.setPhase_booksAt (s : State) (q : Nat) (p : CmdPhase) : (s.setPhase q p).booksAt = s.booksAt := by simp [State.setPhase]
@[simp] theorem State.setPhase_foreAt (s : State) (q : Nat) (p : CmdPhase) : (s.setPhase q p).foreAt = s.foreAt := by simp [State.setPhase]
@[simp] theorem State.setPhase_reqs (s : State) (q : Nat) (p : CmdPhase) : (s.setPhase q p).reqs = s.reqs := by simp [State.setPhase]
@[simp] theorem State.setPhase_nextId (s : State) (q : Nat) (p : CmdPhase) : (s.setPhase q p).nextId = s.nextId := by simp [State.setPhase]
@[simp] theorem State.setPhase_offers (s : State) (q : Nat) (p : CmdPhase) : (s.setPhase q p).offers = s.offers := by simp [State.setPhase]
@[simp] theorem State.setPhase_updates (s : State) (q : Nat) (p : CmdPhase) : (s.setPhase q p).updates = s.updates := by simp [State.setPhase]
@[simp] theorem State.setPhase_bars (s : State) (q : Nat) (p : CmdPhase) : (s.setPhase q p).bars = s.bars := by simp [State.setPhase]
@[simp] theorem State.setPhase_sifts (s : State) (q : Nat) (p : CmdPhase) : (s.setPhase q p).sifts = s.sifts := by simp [State.setPhase]
@[simp] theorem State.setPhase_units (s : State) (q : Nat) (p : CmdPhase) : (s.setPhase q p).units = s.units := by simp [State.setPhase]
@[simp] theorem State.setPhase_walks (s : State) (q : Nat) (p : CmdPhase) : (s.setPhase q p).walks = s.walks := by simp [State.setPhase]
@[simp] theorem State.setPhase_walkers (s : State) (q : Nat) (p : CmdPhase) : (s.setPhase q p).walkers = s.walkers := by simp [State.setPhase]
@[simp] theorem State.setPhase_hubTlb (s : State) (q : Nat) (p : CmdPhase) : (s.setPhase q p).hubTlb = s.hubTlb := by simp [State.setPhase]
@[simp] theorem State.setPhase_cpyTlb (s : State) (q : Nat) (p : CmdPhase) : (s.setPhase q p).cpyTlb = s.cpyTlb := by simp [State.setPhase]
@[simp] theorem State.setPhase_chans (s : State) (q : Nat) (p : CmdPhase) : (s.setPhase q p).chans = s.chans := by simp [State.setPhase]
@[simp] theorem State.setPhase_ctxs (s : State) (q : Nat) (p : CmdPhase) : (s.setPhase q p).ctxs = s.ctxs := by simp [State.setPhase]
@[simp] theorem State.setPhase_folios (s : State) (q : Nat) (p : CmdPhase) : (s.setPhase q p).folios = s.folios := by simp [State.setPhase]
@[simp] theorem State.setPhase_coreSl (s : State) (q : Nat) (p : CmdPhase) : (s.setPhase q p).coreSl = s.coreSl := by simp [State.setPhase]
@[simp] theorem State.setPhase_memSl (s : State) (q : Nat) (p : CmdPhase) : (s.setPhase q p).memSl = s.memSl := by simp [State.setPhase]
@[simp] theorem State.setPhase_linkSl (s : State) (q : Nat) (p : CmdPhase) : (s.setPhase q p).linkSl = s.linkSl := by simp [State.setPhase]
@[simp] theorem State.setPhase_prots (s : State) (q : Nat) (p : CmdPhase) : (s.setPhase q p).prots = s.prots := by simp [State.setPhase]
@[simp] theorem State.setPhase_links (s : State) (q : Nat) (p : CmdPhase) : (s.setPhase q p).links = s.links := by simp [State.setPhase]
@[simp] theorem State.setPhase_evrings (s : State) (q : Nat) (p : CmdPhase) : (s.setPhase q p).evrings = s.evrings := by simp [State.setPhase]
@[simp] theorem State.setPhase_refSubs (s : State) (q : Nat) (p : CmdPhase) : (s.setPhase q p).refSubs = s.refSubs := by simp [State.setPhase]
@[simp] theorem State.setPhase_lastRefs (s : State) (q : Nat) (p : CmdPhase) : (s.setPhase q p).lastRefs = s.lastRefs := by simp [State.setPhase]
@[simp] theorem State.setPhase_cyclic (s : State) (q : Nat) (p : CmdPhase) : (s.setPhase q p).cyclic = s.cyclic := by simp [State.setPhase]
@[simp] theorem State.setPhase_corrSeq (s : State) (q : Nat) (p : CmdPhase) : (s.setPhase q p).corrSeq = s.corrSeq := by simp [State.setPhase]
@[simp] theorem State.setPhase_corrFrom (s : State) (q : Nat) (p : CmdPhase) : (s.setPhase q p).corrFrom = s.corrFrom := by simp [State.setPhase]
@[simp] theorem State.setPhase_corrDue (s : State) (q : Nat) (p : CmdPhase) : (s.setPhase q p).corrDue = s.corrDue := by simp [State.setPhase]
@[simp] theorem State.setPhase_cfg (s : State) (q : Nat) (p : CmdPhase) : (s.setPhase q p).cfg = s.cfg := by simp [State.setPhase]
@[simp] theorem State.setPhase_power (s : State) (q : Nat) (p : CmdPhase) : (s.setPhase q p).power = s.power := by simp [State.setPhase]
@[simp] theorem State.setPhase_net (s : State) (q : Nat) (p : CmdPhase) : (s.setPhase q p).net = s.net := by simp [State.setPhase]
@[simp] theorem State.setPhase_rounds (s : State) (q : Nat) (p : CmdPhase) : (s.setPhase q p).rounds = s.rounds := by simp [State.setPhase]
@[simp] theorem State.setPhase_urgency (s : State) (q : Nat) (p : CmdPhase) : (s.setPhase q p).urgency = s.urgency := by simp [State.setPhase]
@[simp] theorem State.setPhase_urgSince (s : State) (q : Nat) (p : CmdPhase) : (s.setPhase q p).urgSince = s.urgSince := by simp [State.setPhase]
@[simp] theorem State.setPhase_urgNoted (s : State) (q : Nat) (p : CmdPhase) : (s.setPhase q p).urgNoted = s.urgNoted := by simp [State.setPhase]
@[simp] theorem State.setPhase_clasp (s : State) (q : Nat) (p : CmdPhase) : (s.setPhase q p).clasp = s.clasp := by simp [State.setPhase]
@[simp] theorem State.setPhase_link (s : State) (q : Nat) (p : CmdPhase) : (s.setPhase q p).link = s.link := by simp [State.setPhase]
@[simp] theorem State.setPhase_fuses (s : State) (q : Nat) (p : CmdPhase) : (s.setPhase q p).fuses = s.fuses := by simp [State.setPhase]
@[simp] theorem State.setPhase_capState (s : State) (q : Nat) (p : CmdPhase) : (s.setPhase q p).capState = s.capState := by simp [State.setPhase]
@[simp] theorem State.setPhase_capGen (s : State) (q : Nat) (p : CmdPhase) : (s.setPhase q p).capGen = s.capGen := by simp [State.setPhase]
@[simp] theorem State.setPhase_fore (s : State) (q : Nat) (p : CmdPhase) : (s.setPhase q p).fore = s.fore := by simp [State.setPhase]
@[simp] theorem State.setPhase_standby (s : State) (q : Nat) (p : CmdPhase) : (s.setPhase q p).standby = s.standby := by simp [State.setPhase]
@[simp] theorem State.setPhase_peerLost (s : State) (q : Nat) (p : CmdPhase) : (s.setPhase q p).peerLost = s.peerLost := by simp [State.setPhase]
@[simp] theorem State.setPhase_kept (s : State) (q : Nat) (p : CmdPhase) : (s.setPhase q p).kept = s.kept := by simp [State.setPhase]
@[simp] theorem State.setPhase_darkNoted (s : State) (q : Nat) (p : CmdPhase) : (s.setPhase q p).darkNoted = s.darkNoted := by simp [State.setPhase]
@[simp] theorem State.setPhase_out (s : State) (q : Nat) (p : CmdPhase) : (s.setPhase q p).out = s.out := by simp [State.setPhase]
@[simp] theorem State.setPhase_at_core (s : State) (q : Nat) (p : CmdPhase) (i : Nat) : (s.setPhase q p).core i = s.core i := by simp [State.setPhase]
@[simp] theorem State.setPhase_at_ctxQ (s : State) (q : Nat) (p : CmdPhase) (i : Nat) : (s.setPhase q p).ctx? i = s.ctx? i := by simp [State.setPhase]
@[simp] theorem State.setPhase_at_folio (s : State) (q : Nat) (p : CmdPhase) (i : Nat) : (s.setPhase q p).folio i = s.folio i := by simp [State.setPhase]
@[simp] theorem State.setPhase_at_chan (s : State) (q : Nat) (p : CmdPhase) (i : Nat) : (s.setPhase q p).chan i = s.chan i := by simp [State.setPhase]
@[simp] theorem State.setPhase_at_unit (s : State) (q : Nat) (p : CmdPhase) (i : Nat) : (s.setPhase q p).unit i = s.unit i := by simp [State.setPhase]
@[simp] theorem State.setPhase_at_reqQ (s : State) (q : Nat) (p : CmdPhase) (i : Nat) : (s.setPhase q p).req? i = s.req? i := by simp [State.setPhase]
@[simp] theorem State.setPhase_at_coreSlice (s : State) (q : Nat) (p : CmdPhase) (i : Nat) : (s.setPhase q p).coreSlice i = s.coreSlice i := by simp [State.setPhase]
@[simp] theorem State.setPhase_at_memSlice (s : State) (q : Nat) (p : CmdPhase) (i : Nat) : (s.setPhase q p).memSlice i = s.memSlice i := by simp [State.setPhase]
@[simp] theorem State.setPhase_at_linkSlice (s : State) (q : Nat) (p : CmdPhase) (i : Nat) : (s.setPhase q p).linkSlice i = s.linkSlice i := by simp [State.setPhase]
@[simp] theorem State.setPhase_at_reg (s : State) (q : Nat) (p : CmdPhase) (i : Nat) : (s.setPhase q p).reg i = s.reg i := by simp [State.setPhase]
@[simp] theorem State.setPhase_at_region (s : State) (q : Nat) (p : CmdPhase) (i : Nat) : (s.setPhase q p).region i = s.region i := by simp [State.setPhase]

/-! ## The end of a queue wait touches the queue and the account of its context -/

@[simp] theorem State.endQwait_pending (s : State) (q : Nat) (x : Queue) : (s.endQwait q x).pending = s.pending := by simp [State.endQwait]
@[simp] theorem State.endQwait_free (s : State) (q : Nat) (x : Queue) : (s.endQwait q x).free = s.free := by simp [State.endQwait]
@[simp] theorem State.endQwait_hubCount (s : State) (q : Nat) (x : Queue) : (s.endQwait q x).hubCount = s.hubCount := by simp [State.endQwait]
@[simp] theorem State.endQwait_regs (s : State) (q : Nat) (x : Queue) : (s.endQwait q x).regs = s.regs := by simp [State.endQwait]
@[simp] theorem State.endQwait_hbm (s : State) (q : Nat) (x : Queue) : (s.endQwait q x).hbm = s.hbm := by simp [State.endQwait]
@[simp] theorem State.endQwait_host (s : State) (q : Nat) (x : Queue) : (s.endQwait q x).host = s.host := by simp [State.endQwait]
@[simp] theorem State.endQwait_poison (s : State) (q : Nat) (x : Queue) : (s.endQwait q x).poison = s.poison := by simp [State.endQwait]
@[simp] theorem State.endQwait_tags (s : State) (q : Nat) (x : Queue) : (s.endQwait q x).tags = s.tags := by simp [State.endQwait]
@[simp] theorem State.endQwait_frames (s : State) (q : Nat) (x : Queue) : (s.endQwait q x).frames = s.frames := by simp [State.endQwait]
@[simp] theorem State.endQwait_regions (s : State) (q : Nat) (x : Queue) : (s.endQwait q x).regions = s.regions := by simp [State.endQwait]
@[simp] theorem State.endQwait_fabrics (s : State) (q : Nat) (x : Queue) : (s.endQwait q x).fabrics = s.fabrics := by simp [State.endQwait]
@[simp] theorem State.endQwait_spine (s : State) (q : Nat) (x : Queue) : (s.endQwait q x).spine = s.spine := by simp [State.endQwait]
@[simp] theorem State.endQwait_spineFailed (s : State) (q : Nat) (x : Queue) : (s.endQwait q x).spineFailed = s.spineFailed := by simp [State.endQwait]
@[simp] theorem State.endQwait_cores (s : State) (q : Nat) (x : Queue) : (s.endQwait q x).cores = s.cores := by simp [State.endQwait]
@[simp] theorem State.endQwait_caches (s : State) (q : Nat) (x : Queue) : (s.endQwait q x).caches = s.caches := by simp [State.endQwait]
@[simp] theorem State.endQwait_homes (s : State) (q : Nat) (x : Queue) : (s.endQwait q x).homes = s.homes := by simp [State.endQwait]
@[simp] theorem State.endQwait_hostHome (s : State) (q : Nat) (x : Queue) : (s.endQwait q x).hostHome = s.hostHome := by simp [State.endQwait]
@[simp] theorem State.endQwait_hostLines (s : State) (q : Nat) (x : Queue) : (s.endQwait q x).hostLines = s.hostLines := by simp [State.endQwait]
@[simp] theorem State.endQwait_hubWatch (s : State) (q : Nat) (x : Queue) : (s.endQwait q x).hubWatch = s.hubWatch := by simp [State.endQwait]
@[simp] theorem State.endQwait_booksAt (s : State) (q : Nat) (x : Queue) : (s.endQwait q x).booksAt = s.booksAt := by simp [State.endQwait]
@[simp] theorem State.endQwait_foreAt (s : State) (q : Nat) (x : Queue) : (s.endQwait q x).foreAt = s.foreAt := by simp [State.endQwait]
@[simp] theorem State.endQwait_reqs (s : State) (q : Nat) (x : Queue) : (s.endQwait q x).reqs = s.reqs := by simp [State.endQwait]
@[simp] theorem State.endQwait_nextId (s : State) (q : Nat) (x : Queue) : (s.endQwait q x).nextId = s.nextId := by simp [State.endQwait]
@[simp] theorem State.endQwait_offers (s : State) (q : Nat) (x : Queue) : (s.endQwait q x).offers = s.offers := by simp [State.endQwait]
@[simp] theorem State.endQwait_updates (s : State) (q : Nat) (x : Queue) : (s.endQwait q x).updates = s.updates := by simp [State.endQwait]
@[simp] theorem State.endQwait_bars (s : State) (q : Nat) (x : Queue) : (s.endQwait q x).bars = s.bars := by simp [State.endQwait]
@[simp] theorem State.endQwait_sifts (s : State) (q : Nat) (x : Queue) : (s.endQwait q x).sifts = s.sifts := by simp [State.endQwait]
@[simp] theorem State.endQwait_units (s : State) (q : Nat) (x : Queue) : (s.endQwait q x).units = s.units := by simp [State.endQwait]
@[simp] theorem State.endQwait_walks (s : State) (q : Nat) (x : Queue) : (s.endQwait q x).walks = s.walks := by simp [State.endQwait]
@[simp] theorem State.endQwait_walkers (s : State) (q : Nat) (x : Queue) : (s.endQwait q x).walkers = s.walkers := by simp [State.endQwait]
@[simp] theorem State.endQwait_hubTlb (s : State) (q : Nat) (x : Queue) : (s.endQwait q x).hubTlb = s.hubTlb := by simp [State.endQwait]
@[simp] theorem State.endQwait_cpyTlb (s : State) (q : Nat) (x : Queue) : (s.endQwait q x).cpyTlb = s.cpyTlb := by simp [State.endQwait]
@[simp] theorem State.endQwait_chans (s : State) (q : Nat) (x : Queue) : (s.endQwait q x).chans = s.chans := by simp [State.endQwait]
@[simp] theorem State.endQwait_folios (s : State) (q : Nat) (x : Queue) : (s.endQwait q x).folios = s.folios := by simp [State.endQwait]
@[simp] theorem State.endQwait_coreSl (s : State) (q : Nat) (x : Queue) : (s.endQwait q x).coreSl = s.coreSl := by simp [State.endQwait]
@[simp] theorem State.endQwait_memSl (s : State) (q : Nat) (x : Queue) : (s.endQwait q x).memSl = s.memSl := by simp [State.endQwait]
@[simp] theorem State.endQwait_linkSl (s : State) (q : Nat) (x : Queue) : (s.endQwait q x).linkSl = s.linkSl := by simp [State.endQwait]
@[simp] theorem State.endQwait_prots (s : State) (q : Nat) (x : Queue) : (s.endQwait q x).prots = s.prots := by simp [State.endQwait]
@[simp] theorem State.endQwait_links (s : State) (q : Nat) (x : Queue) : (s.endQwait q x).links = s.links := by simp [State.endQwait]
@[simp] theorem State.endQwait_evrings (s : State) (q : Nat) (x : Queue) : (s.endQwait q x).evrings = s.evrings := by simp [State.endQwait]
@[simp] theorem State.endQwait_refSubs (s : State) (q : Nat) (x : Queue) : (s.endQwait q x).refSubs = s.refSubs := by simp [State.endQwait]
@[simp] theorem State.endQwait_lastRefs (s : State) (q : Nat) (x : Queue) : (s.endQwait q x).lastRefs = s.lastRefs := by simp [State.endQwait]
@[simp] theorem State.endQwait_cyclic (s : State) (q : Nat) (x : Queue) : (s.endQwait q x).cyclic = s.cyclic := by simp [State.endQwait]
@[simp] theorem State.endQwait_corrSeq (s : State) (q : Nat) (x : Queue) : (s.endQwait q x).corrSeq = s.corrSeq := by simp [State.endQwait]
@[simp] theorem State.endQwait_corrFrom (s : State) (q : Nat) (x : Queue) : (s.endQwait q x).corrFrom = s.corrFrom := by simp [State.endQwait]
@[simp] theorem State.endQwait_corrDue (s : State) (q : Nat) (x : Queue) : (s.endQwait q x).corrDue = s.corrDue := by simp [State.endQwait]
@[simp] theorem State.endQwait_cfg (s : State) (q : Nat) (x : Queue) : (s.endQwait q x).cfg = s.cfg := by simp [State.endQwait]
@[simp] theorem State.endQwait_power (s : State) (q : Nat) (x : Queue) : (s.endQwait q x).power = s.power := by simp [State.endQwait]
@[simp] theorem State.endQwait_net (s : State) (q : Nat) (x : Queue) : (s.endQwait q x).net = s.net := by simp [State.endQwait]
@[simp] theorem State.endQwait_rounds (s : State) (q : Nat) (x : Queue) : (s.endQwait q x).rounds = s.rounds := by simp [State.endQwait]
@[simp] theorem State.endQwait_urgency (s : State) (q : Nat) (x : Queue) : (s.endQwait q x).urgency = s.urgency := by simp [State.endQwait]
@[simp] theorem State.endQwait_urgSince (s : State) (q : Nat) (x : Queue) : (s.endQwait q x).urgSince = s.urgSince := by simp [State.endQwait]
@[simp] theorem State.endQwait_urgNoted (s : State) (q : Nat) (x : Queue) : (s.endQwait q x).urgNoted = s.urgNoted := by simp [State.endQwait]
@[simp] theorem State.endQwait_clasp (s : State) (q : Nat) (x : Queue) : (s.endQwait q x).clasp = s.clasp := by simp [State.endQwait]
@[simp] theorem State.endQwait_link (s : State) (q : Nat) (x : Queue) : (s.endQwait q x).link = s.link := by simp [State.endQwait]
@[simp] theorem State.endQwait_fuses (s : State) (q : Nat) (x : Queue) : (s.endQwait q x).fuses = s.fuses := by simp [State.endQwait]
@[simp] theorem State.endQwait_capState (s : State) (q : Nat) (x : Queue) : (s.endQwait q x).capState = s.capState := by simp [State.endQwait]
@[simp] theorem State.endQwait_capGen (s : State) (q : Nat) (x : Queue) : (s.endQwait q x).capGen = s.capGen := by simp [State.endQwait]
@[simp] theorem State.endQwait_fore (s : State) (q : Nat) (x : Queue) : (s.endQwait q x).fore = s.fore := by simp [State.endQwait]
@[simp] theorem State.endQwait_standby (s : State) (q : Nat) (x : Queue) : (s.endQwait q x).standby = s.standby := by simp [State.endQwait]
@[simp] theorem State.endQwait_peerLost (s : State) (q : Nat) (x : Queue) : (s.endQwait q x).peerLost = s.peerLost := by simp [State.endQwait]
@[simp] theorem State.endQwait_kept (s : State) (q : Nat) (x : Queue) : (s.endQwait q x).kept = s.kept := by simp [State.endQwait]
@[simp] theorem State.endQwait_darkNoted (s : State) (q : Nat) (x : Queue) : (s.endQwait q x).darkNoted = s.darkNoted := by simp [State.endQwait]
@[simp] theorem State.endQwait_out (s : State) (q : Nat) (x : Queue) : (s.endQwait q x).out = s.out := by simp [State.endQwait]
@[simp] theorem State.endQwait_at_core (s : State) (q : Nat) (x : Queue) (i : Nat) : (s.endQwait q x).core i = s.core i := by simp [State.endQwait]
@[simp] theorem State.endQwait_at_folio (s : State) (q : Nat) (x : Queue) (i : Nat) : (s.endQwait q x).folio i = s.folio i := by simp [State.endQwait]
@[simp] theorem State.endQwait_at_chan (s : State) (q : Nat) (x : Queue) (i : Nat) : (s.endQwait q x).chan i = s.chan i := by simp [State.endQwait]
@[simp] theorem State.endQwait_at_unit (s : State) (q : Nat) (x : Queue) (i : Nat) : (s.endQwait q x).unit i = s.unit i := by simp [State.endQwait]
@[simp] theorem State.endQwait_at_reqQ (s : State) (q : Nat) (x : Queue) (i : Nat) : (s.endQwait q x).req? i = s.req? i := by simp [State.endQwait]
@[simp] theorem State.endQwait_at_coreSlice (s : State) (q : Nat) (x : Queue) (i : Nat) : (s.endQwait q x).coreSlice i = s.coreSlice i := by simp [State.endQwait]
@[simp] theorem State.endQwait_at_memSlice (s : State) (q : Nat) (x : Queue) (i : Nat) : (s.endQwait q x).memSlice i = s.memSlice i := by simp [State.endQwait]
@[simp] theorem State.endQwait_at_linkSlice (s : State) (q : Nat) (x : Queue) (i : Nat) : (s.endQwait q x).linkSlice i = s.linkSlice i := by simp [State.endQwait]
@[simp] theorem State.endQwait_at_reg (s : State) (q : Nat) (x : Queue) (i : Nat) : (s.endQwait q x).reg i = s.reg i := by simp [State.endQwait]
@[simp] theorem State.endQwait_at_region (s : State) (q : Nat) (x : Queue) (i : Nat) : (s.endQwait q x).region i = s.region i := by simp [State.endQwait]

end Sys2Proof.Machine
end

