-- ==== Sys2Proof/Laws/Noted.lean ====
section
/-! SUPPORT. Sys2Proof/Laws/Noted.lean: what a record for the host or the tray, a message or a write of memory leaves alone: registers too. -/

namespace Sys2Proof.Machine

/-- From `s` to `t` only memories, caches, homes, requests, rings, links, the host link, the Clasp, translation caches, outputs and counters of
    ids and free values may differ. -/
def Noted (s t : State) : Prop :=
  t = { s with
    free := t.free, hbm := t.hbm, host := t.host, poison := t.poison, tags := t.tags, caches := t.caches, homes := t.homes, hostHome
    := t.hostHome, hostLines := t.hostLines, reqs := t.reqs, nextId := t.nextId, walkers := t.walkers, hubTlb := t.hubTlb, links :=
    t.links, evrings := t.evrings, lastRefs := t.lastRefs, clasp := t.clasp, link := t.link, out := t.out }

theorem Noted.rfl' (s : State) : Noted s s := rfl

theorem Noted.upd {s t u : State} (h : Noted s t) (e : u = { t with
    free := u.free, hbm := u.hbm, host := u.host, poison := u.poison, tags := u.tags, caches := u.caches, homes := u.homes, hostHome
    := u.hostHome, hostLines := u.hostLines, reqs := u.reqs, nextId := u.nextId, walkers := u.walkers, hubTlb := u.hubTlb, links :=
    u.links, evrings := u.evrings, lastRefs := u.lastRefs, clasp := u.clasp, link := u.link, out := u.out }) :
    Noted s u := by
  unfold Noted at h ⊢; rw [h] at e; exact e

theorem Noted.trans {s t u : State} (h : Noted s t) (g : Noted t u) : Noted s u := Noted.upd h g

theorem Noted.pending {s t : State} (h : Noted s t) : t.pending = s.pending := by unfold Noted at h; rw [h]
theorem Noted.hubCount {s t : State} (h : Noted s t) : t.hubCount = s.hubCount := by unfold Noted at h; rw [h]
theorem Noted.regs {s t : State} (h : Noted s t) : t.regs = s.regs := by unfold Noted at h; rw [h]
theorem Noted.frames {s t : State} (h : Noted s t) : t.frames = s.frames := by unfold Noted at h; rw [h]
theorem Noted.regions {s t : State} (h : Noted s t) : t.regions = s.regions := by unfold Noted at h; rw [h]
theorem Noted.fabrics {s t : State} (h : Noted s t) : t.fabrics = s.fabrics := by unfold Noted at h; rw [h]
theorem Noted.spine {s t : State} (h : Noted s t) : t.spine = s.spine := by unfold Noted at h; rw [h]
theorem Noted.spineFailed {s t : State} (h : Noted s t) : t.spineFailed = s.spineFailed := by unfold Noted at h; rw [h]
theorem Noted.cores {s t : State} (h : Noted s t) : t.cores = s.cores := by unfold Noted at h; rw [h]
theorem Noted.hubWatch {s t : State} (h : Noted s t) : t.hubWatch = s.hubWatch := by unfold Noted at h; rw [h]
theorem Noted.booksAt {s t : State} (h : Noted s t) : t.booksAt = s.booksAt := by unfold Noted at h; rw [h]
theorem Noted.foreAt {s t : State} (h : Noted s t) : t.foreAt = s.foreAt := by unfold Noted at h; rw [h]
theorem Noted.offers {s t : State} (h : Noted s t) : t.offers = s.offers := by unfold Noted at h; rw [h]
theorem Noted.updates {s t : State} (h : Noted s t) : t.updates = s.updates := by unfold Noted at h; rw [h]
theorem Noted.bars {s t : State} (h : Noted s t) : t.bars = s.bars := by unfold Noted at h; rw [h]
theorem Noted.sifts {s t : State} (h : Noted s t) : t.sifts = s.sifts := by unfold Noted at h; rw [h]
theorem Noted.units {s t : State} (h : Noted s t) : t.units = s.units := by unfold Noted at h; rw [h]
theorem Noted.walks {s t : State} (h : Noted s t) : t.walks = s.walks := by unfold Noted at h; rw [h]
theorem Noted.cpyTlb {s t : State} (h : Noted s t) : t.cpyTlb = s.cpyTlb := by unfold Noted at h; rw [h]
theorem Noted.chans {s t : State} (h : Noted s t) : t.chans = s.chans := by unfold Noted at h; rw [h]
theorem Noted.ctxs {s t : State} (h : Noted s t) : t.ctxs = s.ctxs := by unfold Noted at h; rw [h]
theorem Noted.folios {s t : State} (h : Noted s t) : t.folios = s.folios := by unfold Noted at h; rw [h]
theorem Noted.coreSl {s t : State} (h : Noted s t) : t.coreSl = s.coreSl := by unfold Noted at h; rw [h]
theorem Noted.memSl {s t : State} (h : Noted s t) : t.memSl = s.memSl := by unfold Noted at h; rw [h]
theorem Noted.linkSl {s t : State} (h : Noted s t) : t.linkSl = s.linkSl := by unfold Noted at h; rw [h]
theorem Noted.prots {s t : State} (h : Noted s t) : t.prots = s.prots := by unfold Noted at h; rw [h]
theorem Noted.queues {s t : State} (h : Noted s t) : t.queues = s.queues := by unfold Noted at h; rw [h]
theorem Noted.refSubs {s t : State} (h : Noted s t) : t.refSubs = s.refSubs := by unfold Noted at h; rw [h]
theorem Noted.cyclic {s t : State} (h : Noted s t) : t.cyclic = s.cyclic := by unfold Noted at h; rw [h]
theorem Noted.corrSeq {s t : State} (h : Noted s t) : t.corrSeq = s.corrSeq := by unfold Noted at h; rw [h]
theorem Noted.corrFrom {s t : State} (h : Noted s t) : t.corrFrom = s.corrFrom := by unfold Noted at h; rw [h]
theorem Noted.corrDue {s t : State} (h : Noted s t) : t.corrDue = s.corrDue := by unfold Noted at h; rw [h]
theorem Noted.cfg {s t : State} (h : Noted s t) : t.cfg = s.cfg := by unfold Noted at h; rw [h]
theorem Noted.power {s t : State} (h : Noted s t) : t.power = s.power := by unfold Noted at h; rw [h]
theorem Noted.net {s t : State} (h : Noted s t) : t.net = s.net := by unfold Noted at h; rw [h]
theorem Noted.rounds {s t : State} (h : Noted s t) : t.rounds = s.rounds := by unfold Noted at h; rw [h]
theorem Noted.urgency {s t : State} (h : Noted s t) : t.urgency = s.urgency := by unfold Noted at h; rw [h]
theorem Noted.urgSince {s t : State} (h : Noted s t) : t.urgSince = s.urgSince := by unfold Noted at h; rw [h]
theorem Noted.urgNoted {s t : State} (h : Noted s t) : t.urgNoted = s.urgNoted := by unfold Noted at h; rw [h]
theorem Noted.fuses {s t : State} (h : Noted s t) : t.fuses = s.fuses := by unfold Noted at h; rw [h]
theorem Noted.capState {s t : State} (h : Noted s t) : t.capState = s.capState := by unfold Noted at h; rw [h]
theorem Noted.capGen {s t : State} (h : Noted s t) : t.capGen = s.capGen := by unfold Noted at h; rw [h]
theorem Noted.fore {s t : State} (h : Noted s t) : t.fore = s.fore := by unfold Noted at h; rw [h]
theorem Noted.standby {s t : State} (h : Noted s t) : t.standby = s.standby := by unfold Noted at h; rw [h]
theorem Noted.peerLost {s t : State} (h : Noted s t) : t.peerLost = s.peerLost := by unfold Noted at h; rw [h]
theorem Noted.kept {s t : State} (h : Noted s t) : t.kept = s.kept := by unfold Noted at h; rw [h]
theorem Noted.darkNoted {s t : State} (h : Noted s t) : t.darkNoted = s.darkNoted := by unfold Noted at h; rw [h]

theorem Noted.ite {c : Prop} [Decidable c] {s a b : State} (ha : Noted s a) (hb : Noted s b) : Noted s (if c then a else b) := by
  split <;> assumption

theorem Noted.snd {α : Type} {s t : State} {a : α} {x : α × State} (e : x = (a, t)) (h : Noted s x.2) : Noted s t := by
  subst e; exact h

theorem Noted.snd2 {α β : Type} {s t : State} {a : α} {b : β} {x : α × β × State} (e : x = (a, b, t)) (h : Noted s x.2.2) : Noted s t := by
  subst e; exact h

theorem foldS_noted {β : Type} {s0 s : State} (h : Noted s0 s) (l : List β) (f : State → β → State)
    (hf : ∀ st a, Noted s0 st → Noted s0 (f st a)) : Noted s0 (foldS l s f) := by
  unfold foldS
  induction l generalizing s with
  | nil => exact h
  | cons a l ih => exact ih (hf _ _ h)

theorem foldl_noted {β : Type} {s0 s : State} {l : List β} {f : State → β → State} (h : Noted s0 s)
    (hf : ∀ st a, Noted s0 st → Noted s0 (f st a)) : Noted s0 (l.foldl f s) := foldS_noted h l f hf

/-- What holds of the state in a result that may be an error. -/
def OnStatenoted {α β : Type} (s0 : State) (f : β → State) (g : α → State) : Except β α → Prop
  | .error e => Noted s0 (f e)
  | .ok a => Noted s0 (g a)



theorem State.setCache_noted {s0 s : State} (h : Noted s0 s) (n : Nat) (v : Cache) :
    Noted s0 (s.setCache n v) := by
  unfold State.setCache; repeat' first
    | intro _ | with_reducible assumption | with_reducible apply Noted.ite | (fail_if_no_progress (with_reducible (refine Noted.upd ?_ rfl)))

theorem State.setHome_noted {s0 s : State} (h : Noted s0 s) (h : Nat) (v : Home) :
    Noted s0 (s.setHome h v) := by
  unfold State.setHome; repeat' first
    | intro _ | with_reducible assumption | with_reducible apply Noted.ite | (fail_if_no_progress (with_reducible (refine Noted.upd ?_ rfl)))

theorem State.setStitch_noted {s0 s : State} (h : Noted s0 s) (l : Nat) (v : Link) :
    Noted s0 (s.setStitch l v) := by
  unfold State.setStitch; repeat' first
    | intro _ | with_reducible assumption | with_reducible apply Noted.ite | (fail_if_no_progress (with_reducible (refine Noted.upd ?_ rfl)))

theorem State.setWalker_noted {s0 s : State} (h : Noted s0 s) (d : Nat) (v : Walker) :
    Noted s0 (s.setWalker d v) := by
  unfold State.setWalker; repeat' first
    | intro _ | with_reducible assumption | with_reducible apply Noted.ite | (fail_if_no_progress (with_reducible (refine Noted.upd ?_ rfl)))

theorem State.setReq_noted {s0 s : State} (h : Noted s0 s) (r : Nat) (v : Req) :
    Noted s0 (s.setReq r v) := by
  unfold State.setReq; repeat' first
    | intro _ | with_reducible assumption | with_reducible apply Noted.ite | (fail_if_no_progress (with_reducible (refine Noted.upd ?_ rfl)))

theorem State.dropReq_noted {s0 s : State} (h : Noted s0 s) (r : Nat) :
    Noted s0 (s.dropReq r) := by
  unfold State.dropReq; repeat' first
    | intro _ | with_reducible assumption | with_reducible apply Noted.ite | (fail_if_no_progress (with_reducible (refine Noted.upd ?_ rfl)))

theorem State.addReq_noted {s0 s : State} (h : Noted s0 s) (r : Req) :
    Noted s0 (s.addReq r) := by
  unfold State.addReq; repeat' first
    | intro _ | with_reducible assumption | with_reducible apply Noted.ite | (fail_if_no_progress (with_reducible (refine Noted.upd ?_ rfl)))

theorem State.bumpId_noted {s0 s : State} (h : Noted s0 s)  :
    Noted s0 (s.bumpId) := by
  unfold State.bumpId; repeat' first
    | intro _ | with_reducible assumption | with_reducible apply Noted.ite | (fail_if_no_progress (with_reducible (refine Noted.upd ?_ rfl)))

theorem State.useFree_noted {s0 s : State} (h : Noted s0 s)  :
    Noted s0 (s.useFree) := by
  unfold State.useFree; repeat' first
    | intro _ | with_reducible assumption | with_reducible apply Noted.ite | (fail_if_no_progress (with_reducible (refine Noted.upd ?_ rfl)))

theorem State.emit_noted {s0 s : State} (h : Noted s0 s) (o : Out) :
    Noted s0 (s.emit o) := by
  unfold State.emit; repeat' first
    | intro _ | with_reducible assumption | with_reducible apply Noted.ite | (fail_if_no_progress (with_reducible (refine Noted.upd ?_ rfl)))

theorem State.modReq_noted {s0 s : State} (h : Noted s0 s) (r : Nat) (f : Req → Req) :
    Noted s0 (s.modReq r f) := by
  unfold State.modReq; repeat' first
    | intro _ | with_reducible assumption | with_reducible apply State.setReq_noted | with_reducible apply Noted.ite
    | (fail_if_no_progress (with_reducible (refine Noted.upd ?_ rfl))) | with_reducible (refine Noted.snd (by assumption) ?_)
    | with_reducible (refine Noted.snd2 (by assumption) ?_) | with_reducible apply foldl_noted | split

theorem State.send_noted {s0 s : State} (h : Noted s0 s) (p : Packet) :
    Noted s0 (s.send p) := by
  unfold State.send; repeat' first
    | intro _ | with_reducible assumption | with_reducible apply State.setStitch_noted | with_reducible apply State.emit_noted
    | with_reducible apply Noted.ite

theorem State.sendWaiting_noted {s0 s : State} (h : Noted s0 s) (link : Nat) :
    Noted s0 (s.sendWaiting link) := by
  unfold State.sendWaiting; repeat' first
    | intro _ | with_reducible assumption | with_reducible apply State.setStitch_noted | with_reducible apply foldS_noted
    | with_reducible apply State.send_noted

theorem State.mirrorSend_noted {s0 s : State} (h : Noted s0 s) (f : Nat) (pkg : Nat) (q : Nat) (o : Nat) (d : Bytes) (tag : Nat) :
    Noted s0 (s.mirrorSend f pkg q o d tag) := by
  unfold State.mirrorSend; repeat' first
    | intro _ | with_reducible assumption | with_reducible apply foldS_noted | with_reducible apply State.send_noted

theorem State.writeSlice_noted {s0 s : State} (h : Noted s0 s) (m : Nat) (o : Nat) (d : Bytes) (tag : optParam Nat 65534) :
    Noted s0 (s.writeSlice m o d tag) := by
  unfold State.writeSlice; repeat' first
    | intro _ | with_reducible assumption | with_reducible apply State.mirrorSend_noted | with_reducible apply Noted.ite
    | (fail_if_no_progress (with_reducible (refine Noted.upd ?_ rfl))) | with_reducible (refine Noted.snd (by assumption) ?_)
    | with_reducible (refine Noted.snd2 (by assumption) ?_) | with_reducible apply foldl_noted | split

theorem State.heal_noted {s0 s : State} (h : Noted s0 s) (pa : Nat) (n : Nat) :
    Noted s0 (s.heal pa n) := by
  unfold State.heal; repeat' first
    | intro _ | with_reducible assumption | with_reducible apply Noted.ite | (fail_if_no_progress (with_reducible (refine Noted.upd ?_ rfl)))

theorem State.rawWrite_noted {s0 s : State} (h : Noted s0 s) (pa : Nat) (d : Bytes) (tag : optParam Nat 65534) :
    Noted s0 (s.rawWrite pa d tag).2 := by
  unfold State.rawWrite; repeat' first
    | intro _ | with_reducible assumption | with_reducible apply State.heal_noted | with_reducible apply State.writeSlice_noted
    | with_reducible apply Noted.ite | (fail_if_no_progress (with_reducible (refine Noted.upd ?_ rfl)))
    | with_reducible (refine Noted.snd (by assumption) ?_) | with_reducible (refine Noted.snd2 (by assumption) ?_) | with_reducible apply foldl_noted
    | split

theorem State.atsFill_noted {s0 s : State} (h : Noted s0 s) (fn : Nat) (pa : Nat) :
    Noted s0 (s.atsFill fn pa) := by
  unfold State.atsFill; repeat' first
    | intro _ | with_reducible assumption | with_reducible apply Noted.ite | (fail_if_no_progress (with_reducible (refine Noted.upd ?_ rfl)))
    | with_reducible (refine Noted.snd (by assumption) ?_) | with_reducible (refine Noted.snd2 (by assumption) ?_) | with_reducible apply foldl_noted
    | split

theorem State.dropLine_noted {s0 s : State} (h : Noted s0 s) (line : Nat) :
    Noted s0 (s.dropLine line) := by
  unfold State.dropLine; repeat' first
    | intro _ | with_reducible assumption | with_reducible apply State.setHome_noted | with_reducible apply Noted.ite
    | (fail_if_no_progress (with_reducible (refine Noted.upd ?_ rfl))) | with_reducible (refine Noted.snd (by assumption) ?_)
    | with_reducible (refine Noted.snd2 (by assumption) ?_) | with_reducible apply foldl_noted | split | dsimp only

theorem State.patchCopies_noted {s0 s : State} (h : Noted s0 s) (line : Nat) (o : Nat) (d : Bytes) :
    Noted s0 (s.patchCopies line o d) := by
  unfold State.patchCopies; repeat' first
    | intro _ | with_reducible assumption | with_reducible apply Noted.ite | (fail_if_no_progress (with_reducible (refine Noted.upd ?_ rfl)))

theorem State.putLine_noted {s0 s : State} (h : Noted s0 s) (pa : Nat) (d : Bytes) (tag : optParam Nat 65534) :
    Noted s0 (s.putLine pa d tag).2 := by
  unfold State.putLine; repeat' first
    | intro _ | with_reducible assumption | with_reducible apply State.rawWrite_noted | with_reducible apply State.dropLine_noted
    | with_reducible apply State.patchCopies_noted | with_reducible apply Noted.ite
    | (fail_if_no_progress (with_reducible (refine Noted.upd ?_ rfl))) | with_reducible (refine Noted.snd (by assumption) ?_)
    | with_reducible (refine Noted.snd2 (by assumption) ?_) | with_reducible apply foldl_noted | split | dsimp only

theorem State.putBytes_noted {s0 s : State} (h : Noted s0 s) (pa : Nat) (fuel : Nat) (l : Bytes) :
    Noted s0 (s.putBytes pa fuel l).2 := by
  induction fuel generalizing s pa l with
  | zero => unfold State.putBytes; exact h
  | succ fuel ih =>
  unfold State.putBytes; repeat' first
    | with_reducible apply ih | intro _ | with_reducible assumption | with_reducible apply State.putLine_noted
    | with_reducible apply State.putLine_noted | with_reducible apply Noted.ite | (fail_if_no_progress (with_reducible (refine Noted.upd ?_ rfl)))
    | with_reducible (refine Noted.snd (by assumption) ?_) | with_reducible (refine Noted.snd2 (by assumption) ?_) | with_reducible apply foldl_noted
    | split | dsimp only

theorem State.hostWrite_noted {s0 s : State} (h : Noted s0 s) (pa : Nat) (d : Bytes) :
    Noted s0 (s.hostWrite pa d) := by
  unfold State.hostWrite; repeat' first
    | intro _ | with_reducible assumption | with_reducible apply State.putBytes_noted

theorem State.dirDel_noted {s0 s : State} (h : Noted s0 s) (h : Nat) (line : Nat) :
    Noted s0 (s.dirDel h line) := by
  unfold State.dirDel; repeat' first
    | intro _ | with_reducible assumption | with_reducible apply State.setHome_noted

theorem State.takeBack_noted {s0 s : State} (h : Noted s0 s) (line : Nat) (d : Bytes) :
    Noted s0 (s.takeBack line d) := by
  unfold State.takeBack; repeat' first
    | intro _ | with_reducible assumption | with_reducible apply State.rawWrite_noted | with_reducible apply Noted.ite
    | (fail_if_no_progress (with_reducible (refine Noted.upd ?_ rfl))) | with_reducible (refine Noted.snd (by assumption) ?_)
    | with_reducible (refine Noted.snd2 (by assumption) ?_) | with_reducible apply foldl_noted | split

theorem State.dropCopies_noted {s0 s : State} (h : Noted s0 s) (h : Nat) (line : Nat) :
    Noted s0 (s.dropCopies h line) := by
  unfold State.dropCopies; repeat' first
    | intro _ | with_reducible assumption | with_reducible apply State.dirDel_noted | with_reducible apply Noted.ite
    | (fail_if_no_progress (with_reducible (refine Noted.upd ?_ rfl)))

theorem State.recallLine_noted {s0 s : State} (h : Noted s0 s) (h : Nat) (line : Nat) :
    Noted s0 (s.recallLine h line) := by
  unfold State.recallLine; repeat' first
    | intro _ | with_reducible assumption | with_reducible apply State.dropCopies_noted | with_reducible apply State.takeBack_noted
    | with_reducible apply Noted.ite | (fail_if_no_progress (with_reducible (refine Noted.upd ?_ rfl)))
    | with_reducible (refine Noted.snd (by assumption) ?_) | with_reducible (refine Noted.snd2 (by assumption) ?_) | with_reducible apply foldl_noted
    | split

theorem State.evictHostLine_noted {s0 s : State} (h : Noted s0 s) (line : Nat) :
    Noted s0 (s.evictHostLine line) := by
  unfold State.evictHostLine; repeat' first
    | intro _ | with_reducible assumption | with_reducible apply State.recallLine_noted | with_reducible apply State.emit_noted
    | with_reducible apply Noted.ite | (fail_if_no_progress (with_reducible (refine Noted.upd ?_ rfl)))
    | with_reducible (refine Noted.snd (by assumption) ?_) | with_reducible (refine Noted.snd2 (by assumption) ?_) | with_reducible apply foldl_noted
    | split | dsimp only

theorem State.fillHostLine_noted {s0 s : State} (h : Noted s0 s) (line : Nat) (st : LineSt) (d : Bytes) :
    Noted s0 (s.fillHostLine line st d) := by
  unfold State.fillHostLine; repeat' first
    | intro _ | with_reducible assumption | with_reducible apply State.evictHostLine_noted | with_reducible apply State.useFree_noted
    | with_reducible apply Noted.ite | (fail_if_no_progress (with_reducible (refine Noted.upd ?_ rfl)))

theorem State.watchLine_noted {s0 s : State} (h : Noted s0 s) (line : Nat) :
    Noted s0 (s.watchLine line) := by
  unfold State.watchLine; repeat' first
    | intro _ | with_reducible assumption | with_reducible apply State.fillHostLine_noted | with_reducible apply State.emit_noted
    | with_reducible apply Noted.ite | (fail_if_no_progress (with_reducible (refine Noted.upd ?_ rfl)))
    | with_reducible (refine Noted.snd (by assumption) ?_) | with_reducible (refine Noted.snd2 (by assumption) ?_) | with_reducible apply foldl_noted
    | split

theorem State.msix_noted {s0 s : State} (h : Noted s0 s) (fn : Nat) (v : Nat) :
    Noted s0 (s.msix fn v) := by
  unfold State.msix; repeat' first
    | intro _ | with_reducible assumption | with_reducible apply State.emit_noted | with_reducible apply Noted.ite
    | (fail_if_no_progress (with_reducible (refine Noted.upd ?_ rfl)))

theorem State.putRing_noted {s0 s : State} (h : Noted s0 s) (r : Nat) (e : EvRing) :
    Noted s0 (s.putRing r e) := by
  unfold State.putRing; repeat' first
    | intro _ | with_reducible assumption | with_reducible apply State.hostWrite_noted | with_reducible apply Noted.ite
    | (fail_if_no_progress (with_reducible (refine Noted.upd ?_ rfl)))

theorem State.store_noted {s0 s : State} (h : Noted s0 s) (r : Nat) (e : EvRing) (rec : Bytes) :
    Noted s0 (s.store r e rec) := by
  unfold State.store; repeat' first
    | intro _ | with_reducible assumption | with_reducible apply State.hostWrite_noted | with_reducible apply State.msix_noted
    | with_reducible apply State.putRing_noted | with_reducible apply Noted.ite

theorem State.ringPut_noted {s0 s : State} (h : Noted s0 s) (r : Nat) (rec : Bytes) :
    Noted s0 (s.ringPut r rec) := by
  unfold State.ringPut; repeat' first
    | intro _ | with_reducible assumption | with_reducible apply State.store_noted | with_reducible apply State.putRing_noted
    | with_reducible apply Noted.ite | (fail_if_no_progress (with_reducible (refine Noted.upd ?_ rfl)))
    | with_reducible (refine Noted.snd (by assumption) ?_) | with_reducible (refine Noted.snd2 (by assumption) ?_) | with_reducible apply foldl_noted
    | split

theorem State.ringBoth_noted {s0 s : State} (h : Noted s0 s) (r : Nat) (rec : Bytes) (opcopy : Bytes) :
    Noted s0 (s.ringBoth r rec opcopy) := by
  unfold State.ringBoth; repeat' first
    | intro _ | with_reducible assumption | with_reducible apply State.ringPut_noted | with_reducible apply Noted.ite

theorem State.alert_noted {s0 s : State} (h : Noted s0 s)  :
    Noted s0 (s.alert) := by
  unfold State.alert; repeat' first
    | intro _ | with_reducible assumption | with_reducible apply Noted.ite | (fail_if_no_progress (with_reducible (refine Noted.upd ?_ rfl)))

theorem State.toTray_noted {s0 s : State} (h : Noted s0 s) (rec : Bytes) :
    Noted s0 (s.toTray rec) := by
  unfold State.toTray; repeat' first
    | intro _ | with_reducible assumption | with_reducible apply State.alert_noted | with_reducible apply Noted.ite
    | (fail_if_no_progress (with_reducible (refine Noted.upd ?_ rfl)))

theorem State.powerEvent_noted {s0 s : State} (h : Noted s0 s) (kind : Nat) (isl : Nat) (before : Nat) (after : Nat) (lowest : Nat) (dur : Nat) :
    Noted s0 (s.powerEvent kind isl before after lowest dur) := by
  unfold State.powerEvent; repeat' first
    | intro _ | with_reducible assumption | with_reducible apply State.ringPut_noted | with_reducible apply State.toTray_noted

theorem State.powerCycle_noted {s0 s : State} (h : Noted s0 s)  :
    Noted s0 (s.powerCycle) := by
  unfold State.powerCycle; repeat' first
    | intro _ | with_reducible assumption | with_reducible apply State.alert_noted | with_reducible apply Noted.ite
    | (fail_if_no_progress (with_reducible (refine Noted.upd ?_ rfl)))

theorem State.fillWalker_noted {s0 s : State} (h : Noted s0 s) (die : Nat) (e : TlbEntry) (ups : List WalkCEntry) :
    Noted s0 (s.fillWalker die e ups) := by
  unfold State.fillWalker; repeat' first
    | intro _ | with_reducible assumption | with_reducible apply State.setWalker_noted

theorem State.xltRecord_noted {s0 s : State} (h : Noted s0 s) (isl : Nat) (ctx : Nat) (va : Nat) (pc : Nat) (sub : Nat) (acc : Nat) (src : Nat)
    (lvl : Nat) (index : Nat) (engine : Bytes) :
    Noted s0 (s.xltRecord isl ctx va pc sub acc src lvl index engine) := by
  unfold State.xltRecord; repeat' first
    | intro _ | with_reducible assumption | with_reducible apply State.ringBoth_noted

theorem State.integFail_noted {s0 s : State} (h : Noted s0 s) (pa : Nat) (src : Nat) :
    Noted s0 (s.integFail pa src) := by
  unfold State.integFail; repeat' first
    | intro _ | with_reducible assumption | with_reducible apply State.ringPut_noted | with_reducible apply Noted.ite
    | (fail_if_no_progress (with_reducible (refine Noted.upd ?_ rfl))) | with_reducible (refine Noted.snd (by assumption) ?_)
    | with_reducible (refine Noted.snd2 (by assumption) ?_) | with_reducible apply foldl_noted | split

theorem State.readLine_noted {s0 s : State} (h : Noted s0 s) (ctx : Nat) (folio : Nat) (pa : Nat) (n : Nat) :
    Noted s0 (s.readLine ctx folio pa n).2.2 := by
  unfold State.readLine; repeat' first
    | intro _ | with_reducible assumption | with_reducible apply State.integFail_noted | with_reducible apply State.useFree_noted
    | with_reducible apply State.send_noted | with_reducible apply Noted.ite | (fail_if_no_progress (with_reducible (refine Noted.upd ?_ rfl)))
    | with_reducible (refine Noted.snd (by assumption) ?_) | with_reducible (refine Noted.snd2 (by assumption) ?_) | with_reducible apply foldl_noted
    | split | dsimp only

theorem State.writeLine_noted {s0 s : State} (h : Noted s0 s) (ctx : Nat) (folio : Nat) (pa : Nat) (d : Bytes) :
    Noted s0 (s.writeLine ctx folio pa d).2 := by
  unfold State.writeLine; repeat' first
    | intro _ | with_reducible assumption | with_reducible apply State.putLine_noted | with_reducible apply State.send_noted
    | with_reducible apply Noted.ite | (fail_if_no_progress (with_reducible (refine Noted.upd ?_ rfl)))
    | with_reducible (refine Noted.snd (by assumption) ?_) | with_reducible (refine Noted.snd2 (by assumption) ?_) | with_reducible apply foldl_noted
    | split

theorem State.toPeer_noted {s0 s : State} (h : Noted s0 s) (id : Nat) (r : Req) (i : Nat) (off : Nat) :
    Noted s0 (s.toPeer id r i off) := by
  unfold State.toPeer; repeat' first
    | intro _ | with_reducible assumption | with_reducible apply State.setReq_noted | with_reducible apply foldS_noted
    | with_reducible apply State.send_noted | with_reducible apply Noted.ite | (fail_if_no_progress (with_reducible (refine Noted.upd ?_ rfl)))

theorem State.dropAsk_noted {s0 s : State} (h : Noted s0 s) (ask : Option Nat) :
    Noted s0 (s.dropAsk ask) := by
  unfold State.dropAsk; repeat' first
    | intro _ | with_reducible assumption | with_reducible apply State.dropReq_noted | with_reducible apply State.setReq_noted
    | with_reducible apply Noted.ite | (fail_if_no_progress (with_reducible (refine Noted.upd ?_ rfl)))
    | with_reducible (refine Noted.snd (by assumption) ?_) | with_reducible (refine Noted.snd2 (by assumption) ?_) | with_reducible apply foldl_noted
    | split

theorem State.touch_noted {s0 s : State} (h : Noted s0 s) (n : Nat) (line : Nat) :
    Noted s0 (s.touch n line) := by
  unfold State.touch; repeat' first
    | intro _ | with_reducible assumption | with_reducible apply State.setCache_noted

theorem State.putLineIn_noted {s0 s : State} (h : Noted s0 s) (n : Nat) (line : Nat) (l : CLine) :
    Noted s0 (s.putLineIn n line l) := by
  unfold State.putLineIn; repeat' first
    | intro _ | with_reducible assumption | with_reducible apply State.touch_noted | with_reducible apply State.setCache_noted

theorem State.sgRecord_noted {s0 s : State} (h : Noted s0 s) (ctx : Nat) (tenant : Bytes) (op : Option Bytes) :
    Noted s0 (s.sgRecord ctx tenant op) := by
  unfold State.sgRecord; repeat' first
    | intro _ | with_reducible assumption | with_reducible apply State.ringPut_noted | with_reducible apply Noted.ite
    | (fail_if_no_progress (with_reducible (refine Noted.upd ?_ rfl))) | with_reducible (refine Noted.snd (by assumption) ?_)
    | with_reducible (refine Noted.snd2 (by assumption) ?_) | with_reducible apply foldl_noted | split

theorem State.sieveCtx_noted {s0 s : State} (h : Noted s0 s) (c : Nat) (ctx : Nat) (k : Nat) (total : Nat) (thr : Nat) :
    Noted s0 (s.sieveCtx c ctx k total thr) := by
  unfold State.sieveCtx; repeat' first
    | intro _ | with_reducible assumption | with_reducible apply State.sgRecord_noted

theorem State.missPut_noted {s0 s : State} (h : Noted s0 s) (ctx : Nat) (floorOnly : Bool) (tenant : Bytes) (full : Bytes) :
    Noted s0 (s.missPut ctx floorOnly tenant full) := by
  unfold State.missPut; repeat' first
    | intro _ | with_reducible assumption | with_reducible apply State.sgRecord_noted | with_reducible apply State.ringPut_noted
    | with_reducible apply Noted.ite | (fail_if_no_progress (with_reducible (refine Noted.upd ?_ rfl)))
    | with_reducible (refine Noted.snd (by assumption) ?_) | with_reducible (refine Noted.snd2 (by assumption) ?_) | with_reducible apply foldl_noted
    | split | dsimp only

theorem State.ctxFaultRecord_noted {s0 s : State} (h : Noted s0 s) (ctx : Nat) (isl : Nat) (core : Option Nat) (f : FaultInfo) :
    Noted s0 (s.ctxFaultRecord ctx isl core f) := by
  unfold State.ctxFaultRecord; repeat' first
    | intro _ | with_reducible assumption | with_reducible apply State.ringBoth_noted

theorem State.sgFailed_noted {s0 s : State} (h : Noted s0 s) (u : SgUpdate) (va : Nat) (status : Nat) :
    Noted s0 (s.sgFailed u va status) := by
  unfold State.sgFailed; repeat' first
    | intro _ | with_reducible assumption | with_reducible apply State.ctxFaultRecord_noted | with_reducible apply State.useFree_noted

theorem State.barSend_noted {s0 s : State} (h : Noted s0 s) (m : BarMsg) :
    Noted s0 (s.barSend m) := by
  unfold State.barSend; repeat' first
    | intro _ | with_reducible assumption | with_reducible apply State.useFree_noted | with_reducible apply foldS_noted
    | with_reducible apply State.send_noted | with_reducible apply Noted.ite | (fail_if_no_progress (with_reducible (refine Noted.upd ?_ rfl)))
    | with_reducible (refine Noted.snd (by assumption) ?_) | with_reducible (refine Noted.snd2 (by assumption) ?_) | with_reducible apply foldl_noted
    | split

theorem State.dirPut_noted {s0 s : State} (h : Noted s0 s) (h : Nat) (line : Nat) (e : DirEntry) :
    Noted s0 (s.dirPut h line e) := by
  unfold State.dirPut; repeat' first
    | intro _ | with_reducible assumption | with_reducible apply State.setHome_noted

theorem State.dirRemove_noted {s0 s : State} (h : Noted s0 s) (h : Nat) (line : Nat) (n : Nat) :
    Noted s0 (s.dirRemove h line n) := by
  unfold State.dirRemove; repeat' first
    | intro _ | with_reducible assumption | with_reducible apply State.dirPut_noted | with_reducible apply State.dirDel_noted
    | with_reducible apply Noted.ite | (fail_if_no_progress (with_reducible (refine Noted.upd ?_ rfl)))
    | with_reducible (refine Noted.snd (by assumption) ?_) | with_reducible (refine Noted.snd2 (by assumption) ?_) | with_reducible apply foldl_noted
    | split

theorem State.dirGrant_noted {s0 s : State} (h : Noted s0 s) (h : Nat) (line : Nat) (n : Nat) (st : LineSt) :
    Noted s0 (s.dirGrant h line n st) := by
  unfold State.dirGrant; repeat' first
    | intro _ | with_reducible assumption | with_reducible apply State.dirPut_noted | with_reducible apply Noted.ite
    | (fail_if_no_progress (with_reducible (refine Noted.upd ?_ rfl))) | with_reducible (refine Noted.snd (by assumption) ?_)
    | with_reducible (refine Noted.snd2 (by assumption) ?_) | with_reducible apply foldl_noted | split

theorem State.startTxn_noted {s0 s : State} (h : Noted s0 s) (h : Nat) (line : Nat) (req : Option Nat) (probes : List (Nat × PrbKind)) :
    Noted s0 (s.startTxn h line req probes) := by
  unfold State.startTxn; repeat' first
    | intro _ | with_reducible assumption | with_reducible apply State.setCache_noted | with_reducible apply State.setHome_noted
    | with_reducible apply foldS_noted

theorem State.endTxn_noted {s0 s : State} (h : Noted s0 s) (h : Nat) (line : Nat) :
    Noted s0 (s.endTxn h line) := by
  unfold State.endTxn; repeat' first
    | intro _ | with_reducible assumption | with_reducible apply State.setHome_noted

theorem State.askBias_noted {s0 s : State} (h : Noted s0 s) (id : Nat) (q : Req) :
    Noted s0 (s.askBias id q) := by
  unfold State.askBias; repeat' first
    | intro _ | with_reducible assumption | with_reducible apply State.setReq_noted | with_reducible apply foldS_noted
    | with_reducible apply State.emit_noted

theorem State.answer_noted {s0 s : State} (h : Noted s0 s) (n : Nat) (line : Nat) (k : PrbKind) :
    Noted s0 (s.answer n line k) := by
  unfold State.answer; repeat' first
    | intro _ | with_reducible assumption | with_reducible apply State.setCache_noted | with_reducible apply Noted.ite
    | (fail_if_no_progress (with_reducible (refine Noted.upd ?_ rfl))) | with_reducible (refine Noted.snd (by assumption) ?_)
    | with_reducible (refine Noted.snd2 (by assumption) ?_) | with_reducible apply foldl_noted | split | dsimp only

theorem State.answerDir_noted {s0 s : State} (h : Noted s0 s) (h : Nat) (line : Nat) (n : Nat) (kind : Option ReqKind) (whole : Bool) (a : PrbAns) :
    Noted s0 (s.answerDir h line n kind whole a) := by
  unfold State.answerDir; repeat' first
    | intro _ | with_reducible assumption | with_reducible apply State.takeBack_noted | with_reducible apply State.dirPut_noted
    | with_reducible apply State.dirRemove_noted | with_reducible apply Noted.ite | (fail_if_no_progress (with_reducible (refine Noted.upd ?_ rfl)))
    | with_reducible (refine Noted.snd (by assumption) ?_) | with_reducible (refine Noted.snd2 (by assumption) ?_) | with_reducible apply foldl_noted
    | split

theorem State.unanswer_noted {s0 s : State} (h : Noted s0 s) (n : Nat) (line : Nat) :
    Noted s0 (s.unanswer n line) := by
  unfold State.unanswer; repeat' first
    | intro _ | with_reducible assumption | with_reducible apply State.setCache_noted

theorem State.evict_noted {s0 s : State} (h : Noted s0 s) (n : Nat) (line : Nat) (l : CLine) :
    Noted s0 (s.evict n line l) := by
  unfold State.evict; repeat' first
    | intro _ | with_reducible assumption | with_reducible apply State.setCache_noted

theorem State.promotionEnd_noted {s0 s : State} (h : Noted s0 s) (c : Nat) (ctx : Nat) (g : Guard) (outcome : Nat) :
    Noted s0 (s.promotionEnd c ctx g outcome) := by
  unfold State.promotionEnd; repeat' first
    | intro _ | with_reducible assumption | with_reducible apply State.missPut_noted

theorem State.cleanLine_noted {s0 s : State} (h : Noted s0 s) (n : Nat) (line : Nat) (keep : Bool) :
    Noted s0 (s.cleanLine n line keep) := by
  unfold State.cleanLine; repeat' first
    | intro _ | with_reducible assumption | with_reducible apply State.takeBack_noted | with_reducible apply State.setCache_noted
    | with_reducible apply State.dirPut_noted | with_reducible apply State.dirRemove_noted | with_reducible apply State.putLineIn_noted
    | with_reducible apply Noted.ite | (fail_if_no_progress (with_reducible (refine Noted.upd ?_ rfl)))
    | with_reducible (refine Noted.snd (by assumption) ?_) | with_reducible (refine Noted.snd2 (by assumption) ?_) | with_reducible apply foldl_noted
    | split | dsimp only

theorem State.cpyFault_noted {s0 s : State} (h : Noted s0 s) (ch : Nat) (va : Nat) (acc : Nat) (sub : Nat) (lvl : Nat) :
    Noted s0 (s.cpyFault ch va acc sub lvl) := by
  unfold State.cpyFault; repeat' first
    | intro _ | with_reducible assumption | with_reducible apply State.xltRecord_noted

theorem State.cpyLost_noted {s0 s : State} (h : Noted s0 s) (ch : Nat) (va : Nat) (pa : Nat) (e : Cpl) :
    Noted s0 (s.cpyLost ch va pa e) := by
  unfold State.cpyLost; repeat' first
    | intro _ | with_reducible assumption | with_reducible apply State.ctxFaultRecord_noted | with_reducible apply Noted.ite

theorem State.copyRecord_noted {s0 s : State} (h : Noted s0 s) (ch : Nat) (status : Nat) (detail : Nat) (done : Nat) :
    Noted s0 (s.copyRecord ch status detail done) := by
  unfold State.copyRecord; repeat' first
    | intro _ | with_reducible assumption | with_reducible apply State.ringPut_noted | with_reducible apply Noted.ite
    | (fail_if_no_progress (with_reducible (refine Noted.upd ?_ rfl))) | with_reducible (refine Noted.snd (by assumption) ?_)
    | with_reducible (refine Noted.snd2 (by assumption) ?_) | with_reducible apply foldl_noted | split | dsimp only

theorem State.doneRecord_noted {s0 s : State} (h : Noted s0 s) (q : Nat) (x : Queue) (c : Cmd) (status : Nat) (detail : Nat) :
    Noted s0 (s.doneRecord q x c status detail) := by
  unfold State.doneRecord; repeat' first
    | intro _ | with_reducible assumption | with_reducible apply State.ringPut_noted

theorem State.pmEntry_noted {s0 s : State} (h : Noted s0 s) (off : Nat) (n : Nat) (zero : Bool) :
    Noted s0 (s.pmEntry off n zero) := by
  unfold State.pmEntry; repeat' first
    | intro _ | with_reducible assumption | with_reducible apply State.useFree_noted | with_reducible apply State.putBytes_noted

theorem State.flushCaches_noted {s0 s : State} (h : Noted s0 s) (f : Nat) :
    Noted s0 (s.flushCaches f) := by
  unfold State.flushCaches; repeat' first
    | intro _ | with_reducible assumption | with_reducible apply State.cleanLine_noted | with_reducible apply foldS_noted

theorem State.headWrite_noted {s0 s : State} (h : Noted s0 s) (x : Queue) (d : Bytes) :
    Noted s0 (s.headWrite x d) := by
  unfold State.headWrite; repeat' first
    | intro _ | with_reducible assumption | with_reducible apply State.hostWrite_noted | with_reducible apply State.emit_noted

theorem State.watchDoorbell_noted {s0 s : State} (h : Noted s0 s) (x : Queue) :
    Noted s0 (s.watchDoorbell x) := by
  unfold State.watchDoorbell; repeat' first
    | intro _ | with_reducible assumption | with_reducible apply State.watchLine_noted | with_reducible apply Noted.ite

theorem State.drainHeld_noted {s0 s : State} (h : Noted s0 s) (r : Nat) (fuel : Nat) :
    Noted s0 (s.drainHeld r fuel) := by
  induction fuel generalizing s r with
  | zero => unfold State.drainHeld; exact h
  | succ fuel ih =>
  unfold State.drainHeld; repeat' first
    | with_reducible apply ih | intro _ | with_reducible assumption | with_reducible apply State.store_noted | with_reducible apply State.store_noted
    | with_reducible apply Noted.ite | (fail_if_no_progress (with_reducible (refine Noted.upd ?_ rfl)))
    | with_reducible (refine Noted.snd (by assumption) ?_) | with_reducible (refine Noted.snd2 (by assumption) ?_) | with_reducible apply foldl_noted
    | split

theorem State.copyPage_noted {s0 s : State} (h : Noted s0 s) (src : Nat) (dst : Nat) (size : Nat) :
    Noted s0 (s.copyPage src dst size) := by
  unfold State.copyPage; repeat' first
    | intro _ | with_reducible assumption | with_reducible apply State.recallLine_noted | with_reducible apply State.putLine_noted
    | with_reducible apply foldS_noted | with_reducible apply Noted.ite | (fail_if_no_progress (with_reducible (refine Noted.upd ?_ rfl)))
    | with_reducible (refine Noted.snd (by assumption) ?_) | with_reducible (refine Noted.snd2 (by assumption) ?_) | with_reducible apply foldl_noted
    | split

theorem State.migratePage_noted {s0 s : State} (h : Noted s0 s) (root : Nat) (b : Bytes) (i : Nat) :
    Noted s0 (s.migratePage root b i) := by
  unfold State.migratePage; repeat' first
    | intro _ | with_reducible assumption | with_reducible apply State.putLine_noted | with_reducible apply State.copyPage_noted
    | with_reducible apply Noted.ite | (fail_if_no_progress (with_reducible (refine Noted.upd ?_ rfl)))
    | with_reducible (refine Noted.snd (by assumption) ?_) | with_reducible (refine Noted.snd2 (by assumption) ?_) | with_reducible apply foldl_noted
    | split | dsimp only

theorem State.adviseClean_noted {s0 s : State} (h : Noted s0 s) (ctx : Nat) (pages : List Nat) (keep : Bool) :
    Noted s0 (s.adviseClean ctx pages keep) := by
  unfold State.adviseClean; repeat' first
    | intro _ | with_reducible assumption | with_reducible apply State.cleanLine_noted | with_reducible apply foldS_noted

theorem State.trimEvent_noted {s0 s : State} (h : Noted s0 s) (isl : Nat) :
    Noted s0 (s.trimEvent isl) := by
  unfold State.trimEvent; repeat' first
    | intro _ | with_reducible assumption | with_reducible apply State.useFree_noted | with_reducible apply State.powerEvent_noted

theorem State.groupSend_noted {s0 s : State} (h : Noted s0 s) (i : Nat) (ty : Nat) (d : Bytes) :
    Noted s0 (s.groupSend i ty d) := by
  unfold State.groupSend; repeat' first
    | intro _ | with_reducible assumption | with_reducible apply State.send_noted | with_reducible apply Noted.ite
    | (fail_if_no_progress (with_reducible (refine Noted.upd ?_ rfl))) | with_reducible (refine Noted.snd (by assumption) ?_)
    | with_reducible (refine Noted.snd2 (by assumption) ?_) | with_reducible apply foldl_noted | split

theorem State.rebind_noted {s0 s : State} (h : Noted s0 s) (kind : Nat) (n : Nat) (outcome : Nat) (frm : Nat) (dest : Nat) (efrom : Nat) (eto :
    Nat) (lost : Nat) (first : Option Nat) (started : Nat) :
    Noted s0 (s.rebind kind n outcome frm dest efrom eto lost first started) := by
  unfold State.rebind; repeat' first
    | intro _ | with_reducible assumption | with_reducible apply State.ringPut_noted | with_reducible apply Noted.ite

theorem State.wipeSlice_noted {s0 s : State} (h : Noted s0 s) (n : Nat) :
    Noted s0 (s.wipeSlice n) := by
  unfold State.wipeSlice; repeat' first
    | intro _ | with_reducible assumption | with_reducible apply Noted.ite | (fail_if_no_progress (with_reducible (refine Noted.upd ?_ rfl)))

theorem State.loseHome_noted {s0 s : State} (h : Noted s0 s) (n : Nat) :
    Noted s0 (s.loseHome n) := by
  unfold State.loseHome; repeat' first
    | intro _ | with_reducible assumption | with_reducible apply State.setHome_noted | with_reducible apply Noted.ite
    | (fail_if_no_progress (with_reducible (refine Noted.upd ?_ rfl)))

theorem State.copySlice_noted {s0 s : State} (h : Noted s0 s) (x : Nat) (y : Nat) :
    Noted s0 (s.copySlice x y) := by
  unfold State.copySlice; repeat' first
    | intro _ | with_reducible assumption | with_reducible apply Noted.ite | (fail_if_no_progress (with_reducible (refine Noted.upd ?_ rfl)))

theorem State.fillLast_noted {s0 s : State} (h : Noted s0 s) (op : Nat) (last : Nat) (data : List Nat) :
    Noted s0 (s.fillLast op last data) := by
  unfold State.fillLast; repeat' first
    | intro _ | with_reducible assumption | with_reducible apply State.wipeSlice_noted | with_reducible apply State.copySlice_noted
    | with_reducible apply Noted.ite | (fail_if_no_progress (with_reducible (refine Noted.upd ?_ rfl)))
    | with_reducible (refine Noted.snd (by assumption) ?_) | with_reducible (refine Noted.snd2 (by assumption) ?_) | with_reducible apply foldl_noted
    | split

theorem State.takeEntryOf_noted {s0 s : State} (h : Noted s0 s) (l : Nat) :
    Noted s0 (s.takeEntryOf l) := by
  unfold State.takeEntryOf; repeat' first
    | intro _ | with_reducible assumption | with_reducible apply State.setStitch_noted

theorem State.answerPacket_noted {s0 s : State} (h : Noted s0 s) (l : Nat) (h : Bytes) (status : Nat) (d : Bytes) :
    Noted s0 (s.answerPacket l h status d) := by
  unfold State.answerPacket; repeat' first
    | intro _ | with_reducible assumption | with_reducible apply State.send_noted

theorem State.guestReq_noted {s0 s : State} (h : Noted s0 s) (l : Nat) (h : Bytes) (d : Bytes) (kind : ReqKind) (n : Nat) (atomic : Bool) :
    Noted s0 (s.guestReq l h d kind n atomic) := by
  unfold State.guestReq; repeat' first
    | intro _ | with_reducible assumption | with_reducible apply State.answerPacket_noted | with_reducible apply State.takeEntryOf_noted
    | with_reducible apply State.addReq_noted | with_reducible apply Noted.ite | (fail_if_no_progress (with_reducible (refine Noted.upd ?_ rfl)))
    | with_reducible (refine Noted.snd (by assumption) ?_) | with_reducible (refine Noted.snd2 (by assumption) ?_) | with_reducible apply foldl_noted
    | split

theorem State.useImage_noted {s0 s : State} (h : Noted s0 s) (b : Bytes) :
    Noted s0 (s.useImage b) := by
  unfold State.useImage; repeat' first
    | intro _ | with_reducible assumption | with_reducible apply Noted.ite | (fail_if_no_progress (with_reducible (refine Noted.upd ?_ rfl)))

theorem State.flushHost_noted {s0 s : State} (h : Noted s0 s)  :
    Noted s0 (s.flushHost) := by
  unfold State.flushHost; repeat' first
    | intro _ | with_reducible assumption | with_reducible apply foldS_noted | with_reducible apply State.emit_noted | with_reducible apply Noted.ite
    | (fail_if_no_progress (with_reducible (refine Noted.upd ?_ rfl)))

theorem State.commitFuse_noted {s0 s : State} (h : Noted s0 s)  :
    Noted s0 (s.commitFuse) := by
  unfold State.commitFuse; repeat' first
    | intro _ | with_reducible assumption | with_reducible apply Noted.ite | (fail_if_no_progress (with_reducible (refine Noted.upd ?_ rfl)))

theorem State.recallLost_noted {s0 s : State} (h : Noted s0 s) (d : Nat) (h : Nat) (line : Nat) :
    Noted s0 (s.recallLost d h line) := by
  unfold State.recallLost; repeat' first
    | intro _ | with_reducible assumption | with_reducible apply State.recallLine_noted | with_reducible apply foldS_noted
    | with_reducible apply State.dirRemove_noted | with_reducible apply Noted.ite

theorem State.emptyCaches_noted {s0 s : State} (h : Noted s0 s)  :
    Noted s0 (s.emptyCaches) := by
  unfold State.emptyCaches; repeat' first
    | intro _ | with_reducible assumption | with_reducible apply State.cleanLine_noted | with_reducible apply State.takeBack_noted
    | with_reducible apply foldS_noted | with_reducible apply Noted.ite | (fail_if_no_progress (with_reducible (refine Noted.upd ?_ rfl)))

theorem State.fromHost_noted {s0 s : State} (h : Noted s0 s) (line : Nat) (d : Bytes) :
    Noted s0 (s.fromHost line d) := by
  unfold State.fromHost; repeat' first
    | intro _ | with_reducible assumption | with_reducible apply Noted.ite | (fail_if_no_progress (with_reducible (refine Noted.upd ?_ rfl)))

theorem State.snoopAnswer_noted {s0 s : State} (h : Noted s0 s) (line : Nat) :
    Noted s0 (s.snoopAnswer line) := by
  unfold State.snoopAnswer; repeat' first
    | intro _ | with_reducible assumption | with_reducible apply State.emit_noted

theorem State.giveHost_noted {s0 s : State} (h : Noted s0 s) (line : Nat) :
    Noted s0 (s.giveHost line) := by
  unfold State.giveHost; repeat' first
    | intro _ | with_reducible assumption | with_reducible apply Noted.ite | (fail_if_no_progress (with_reducible (refine Noted.upd ?_ rfl)))

theorem State.hostRefused_noted {s0 s : State} (h : Noted s0 s) (pa : Nat) (reason : Nat) (write : Bool) :
    Noted s0 (s.hostRefused pa reason write) := by
  unfold State.hostRefused; repeat' first
    | intro _ | with_reducible assumption | with_reducible apply State.ringPut_noted | with_reducible apply Noted.ite
    | (fail_if_no_progress (with_reducible (refine Noted.upd ?_ rfl)))

theorem State.spdmFree_noted {s0 s : State} (h : Noted s0 s)  :
    Noted s0 (s.spdmFree) := by
  unfold State.spdmFree; repeat' first
    | intro _ | with_reducible assumption | with_reducible apply State.useFree_noted | with_reducible apply State.emit_noted

theorem State.retag_noted {s0 s : State} (h : Noted s0 s) (m : Nat) (o : Nat) (bad : Bool) :
    Noted s0 (s.retag m o bad) := by
  unfold State.retag; repeat' first
    | intro _ | with_reducible assumption | with_reducible apply Noted.ite | (fail_if_no_progress (with_reducible (refine Noted.upd ?_ rfl)))


end Sys2Proof.Machine
end

