-- ==== Sys2Proof/Laws/PerInstr.lean ====
section
/-! SUPPORT. Sys2Proof/Laws/PerInstr.lean: the family Shape: a well-formed command's numbered operands lie below the number of units, ids or entries they name. -/

namespace Sys2Proof.Laws

/-- The operands of a command that number something, each with how many there are (R14, R21-R24, R467). -/
def numbered : Instr → List (Nat × Nat)
  | .alu core _ => [(core, 576)]
  | .alui core _ => [(core, 576)]
  | .ld core _ => [(core, 576)]
  | .st core _ => [(core, 576)]
  | .amo core _ => [(core, 576)]
  | .br core _ => [(core, 576)]
  | .jmp core _ => [(core, 576)]
  | .srd core _ => [(core, 576)]
  | .vop core _ => [(core, 576)]
  | .vls core _ => [(core, 576)]
  | .mma core _ => [(core, 576)]
  | .mmaExecute core => [(core, 576)]
  | .rq core _ => [(core, 576)]
  | .rqExecute core => [(core, 576)]
  | .tdma core _ => [(core, 576)]
  | .tileDmaBurstComplete _ => []
  | .dwait core _ => [(core, 576)]
  | .slaunch core _ => [(core, 576)]
  | .scriptEntryIssue core slot lane => [(core, 576), (slot, 4), (lane, 2)]
  | .srel core _ => [(core, 576)]
  | .fsig core _ => [(core, 576)]
  | .fenceOffer _ => []
  | .fwait core _ => [(core, 576)]
  | .fwaitTimeout core slot => [(core, 576), (slot, 4)]
  | .fwaitPoll core slot => [(core, 576), (slot, 4)]
  | .fence core _ => [(core, 576)]
  | .bar core _ => [(core, 576)]
  | .barrierArrival _ => []
  | .sift core _ => [(core, 576)]
  | .halt core _ => [(core, 576)]
  | .yield core _ => [(core, 576)]
  | .seg core _ => [(core, 576)]
  | .gret core _ => [(core, 576)]
  | .trap core _ => [(core, 576)]
  | .bkpt core _ => [(core, 576)]
  | .cinv core _ => [(core, 576)]
  | .cwb core _ => [(core, 576)]
  | .storeCompletion _ => []
  | .ctxFault core slot => [(core, 576), (slot, 4)]
  | .faultHoldExpiry ctx => [(ctx, 4096)]
  | .safeguardUpdateComplete _ => []
  | .contextSwitch core => [(core, 576)]
  | .quantumExpiry core => [(core, 576)]
  | .waitSwExpiry core => [(core, 576)]
  | .rtContextReady core slot => [(core, 576), (slot, 4)]
  | .rtMiss ctx => [(ctx, 4096)]
  | .doorbellSnoop queue _ => [(queue, 16384)]
  | .doorbellRefetch queue => [(queue, 16384)]
  | .doorbellPoll queue => [(queue, 16384)]
  | .commandFetch queue => [(queue, 16384)]
  | .commandWaitSatisfied queue => [(queue, 16384)]
  | .commandComplete queue => [(queue, 16384)]
  | .refCountSubtract _ _ => []
  | .nop queue => [(queue, 16384)]
  | .signal queue => [(queue, 16384)]
  | .launch queue => [(queue, 16384)]
  | .launchStart queue => [(queue, 16384)]
  | .activationComplete ctx => [(ctx, 4096)]
  | .copy queue => [(queue, 16384)]
  | .sieveFlush queue => [(queue, 16384)]
  | .safeSet queue => [(queue, 16384)]
  | .reseed queue => [(queue, 16384)]
  | .progLoad queue => [(queue, 16384)]
  | .progUnload queue => [(queue, 16384)]
  | .ctxCreate queue => [(queue, 16384)]
  | .ctxDestroy queue => [(queue, 16384)]
  | .ctxReset queue => [(queue, 16384)]
  | .resume queue => [(queue, 16384)]
  | .queueCreate queue => [(queue, 16384)]
  | .queueDestroy queue => [(queue, 16384)]
  | .evringCreate queue => [(queue, 16384)]
  | .evringDestroy queue => [(queue, 16384)]
  | .invalidate queue => [(queue, 16384)]
  | .invalidateDrained queue => [(queue, 16384)]
  | .invSlow queue => [(queue, 16384)]
  | .migrate queue => [(queue, 16384)]
  | .migrateCopyComplete queue => [(queue, 16384)]
  | .advise queue => [(queue, 16384)]
  | .frameSet queue => [(queue, 16384)]
  | .biasTakebackDone queue => [(queue, 16384)]
  | .chanAssign queue => [(queue, 16384)]
  | .folioCreate queue => [(queue, 16384)]
  | .folioDestroy queue => [(queue, 16384)]
  | .sliceAttach queue => [(queue, 16384)]
  | .sliceDetach queue => [(queue, 16384)]
  | .sliceTransfer queue => [(queue, 16384)]
  | .sliceMove queue => [(queue, 16384)]
  | .sliceMoveCopyComplete slice => [(slice, 64)]
  | .setProtect queue => [(queue, 16384)]
  | .peerSet queue => [(queue, 16384)]
  | .linkShare queue => [(queue, 16384)]
  | .folioQuery queue => [(queue, 16384)]
  | .folioRing queue => [(queue, 16384)]
  | .epochInForce folio => [(folio, 64)]
  | .drainZero kind slice => [(kind, 3), (slice, 128)]
  | .drainLimitExpiry kind slice => [(kind, 3), (slice, 128)]
  | .scrubComplete slice => [(slice, 64)]
  | .confSliceInitComplete slice => [(slice, 64)]
  | .mirrorMemberLoss slice => [(slice, 64)]
  | .codedMemberLoss slice => [(slice, 64)]
  | .secondLoss slice => [(slice, 64)]
  | .stitchLinkIdle peer => [(peer, 15)]
  | .peerLossDrainExpiry peer folio => [(peer, 15), (folio, 64)]
  | .stitchRead link _ _ => [(link, 12)]
  | .stitchWrite link _ _ => [(link, 12)]
  | .stitchAtomic link _ _ => [(link, 12)]
  | .stitchFenceOffer link _ _ => [(link, 12)]
  | .stitchBarrier link _ _ => [(link, 12)]
  | .stitchMirrorWrite link _ _ => [(link, 12)]
  | .stitchCompletionData link _ _ => [(link, 12)]
  | .stitchCompletion link _ _ => [(link, 12)]
  | .stitchCreditReturn link _ _ => [(link, 12)]
  | .stitchDiscard link _ _ => [(link, 12)]
  | .report link _ => [(link, 12)]
  | .assign link _ => [(link, 12)]
  | .reportPeriod => []
  | .leaderAssign => []
  | .assignTimeout => []
  | .shareSet queue => [(queue, 16384)]
  | .acctRead queue => [(queue, 16384)]
  | .rtAdmit queue => [(queue, 16384)]
  | .rtRelease queue => [(queue, 16384)]
  | .cyclicLoad queue => [(queue, 16384)]
  | .cyclicEnter queue => [(queue, 16384)]
  | .cyclicExit queue => [(queue, 16384)]
  | .minorFrameBoundary => []
  | .cyclicEntryStart entry _ code _ => [(entry, 256), (code, 256)]
  | .cyclicOverrun entry => [(entry, 256)]
  | .powerSet queue => [(queue, 16384)]
  | .energyWatch queue => [(queue, 16384)]
  | .energyEstimate => []
  | .confKeys queue => [(queue, 16384)]
  | .keyRotate queue => [(queue, 16384)]
  | .keyRotateDone folio => [(folio, 64)]
  | .attest queue => [(queue, 16384)]
  | .engineReset queue => [(queue, 16384)]
  | .folioReset queue => [(queue, 16384)]
  | .pkgReset queue => [(queue, 16384)]
  | .pkgStandby queue => [(queue, 16384)]
  | .standbyExit => []
  | .watchdogAct ctx => [(ctx, 4096)]
  | .watchdogCmdwait queue => [(queue, 16384)]
  | .watchdogCore core => [(core, 576)]
  | .watchdogReq _ => []
  | .watchdogMgmt => []
  | .watchdogClasp => []
  | .watchdogStep _ target => [(target / 2 ^ 32, 3)]
  | .booksCheck => []
  | .dieFailure die cause => [(die, 2), (cause, 256)]
  | .walkComplete _ => []
  | .copyDescriptorStart chan => [(chan, 128)]
  | .copyWaitSatisfied chan => [(chan, 128)]
  | .copyBurstIssue engine => [(engine, 8)]
  | .copyBurstComplete chan _ => [(chan, 128)]
  | .copyDescriptorEnd chan => [(chan, 128)]
  | .siftAccept _ => []
  | .siftStart unit => [(unit, 64)]
  | .siftComplete unit => [(unit, 64)]
  | .getShare _ => []
  | .getOwn _ => []
  | .upgrade _ => []
  | .glance _ => []
  | .putHome _ => []
  | .rawGet _ => []
  | .rawPut _ => []
  | .retireDirty slice _ => [(slice, 128)]
  | .retireClean slice _ => [(slice, 128)]
  | .grantAck _ => []
  | .prbMiss slice _ => [(slice, 128)]
  | .grantData slice _ _ => [(slice, 128)]
  | .retireAck slice _ => [(slice, 128)]
  | .prbShare slice _ => [(slice, 128)]
  | .prbOwn slice _ => [(slice, 128)]
  | .prbGlance slice _ => [(slice, 128)]
  | .prbInv slice _ => [(slice, 128)]
  | .snpData _ => []
  | .snpInv _ => []
  | .snpCur _ => []
  | .atsInvalidation fn _ _ => [(fn, 64)]
  | .cxlMemRead _ => []
  | .cxlMemWrite _ off _ => [(off, 64)]
  | .hostTimeout _ => []
  | .linkTraining _ _ _ => []
  | .hostLinkDown => []
  | .hdmDecoderCommit _ => []
  | .msixUnmask fn vector => [(fn, 64), (vector, 256)]
  | .vfFlr fn => [(fn, 64)]
  | .pfFlr => []
  | .perstNAssert => []
  | .perstNDeassert => []
  | .doeDiscovery _ => []
  | .cdatAccess _ => []
  | .getVersion _ => []
  | .getCapabilities _ => []
  | .negotiateAlgorithms _ => []
  | .getDigests _ => []
  | .getCertificate _ => []
  | .challenge _ => []
  | .getMeasurements _ => []
  | .spdmUnsupported _ => []
  | .urgencyLevelChange master _ => [(master, 30)]
  | .urgencyHeld master _ _ _ => [(master, 30)]
  | .spineReplay die lane => [(die, 2), (lane, 3)]
  | .spineLaneReinit lane => [(lane, 3)]
  | .spineReinitDone lane _ => [(lane, 3)]
  | .powerControlTick _ _ _ => []
  | .railRampDone island => [(island, 16)]
  | .clockStepDone island => [(island, 16)]
  | .corrEventSample island => [(island, 19)]
  | .corrPeriodicSample => []
  | .corrReq => []
  | .corrPeriodRestart _ => []
  | .droopAssert island => [(island, 16)]
  | .droopClear island => [(island, 16)]
  | .droopLong island => [(island, 16)]
  | .supplyWarning supply _ => [(supply, 19)]
  | .supplyRelease supply _ => [(supply, 19)]
  | .busUndervoltage _ => []
  | .railResetTrip supply => [(supply, 19)]
  | .powerTrip _ => []
  | .thermalCapFall island _ => [(island, 16)]
  | .thermalCapRise island _ => [(island, 16)]
  | .thermtrip island _ => [(island, 16)]
  | .wearGaugeReading domain _ _ => [(domain, 18)]
  | .hoursUpdate => []
  | .forerunnerRefresh => []
  | .cfgSweepStart => []
  | .cfgSweepEnd => []
  | .cfgchkCommit => []
  | .cfgchkCapture => []
  | .cfgchkEn _ => []
  | .homClrOwn home => [(home, 64)]
  | .homClrOth home => [(home, 64)]
  | .cpyRestart chan _ => [(chan, 128)]
  | .cpyStream chan _ => [(chan, 128)]
  | .cpyMaxbuf chan v => [(chan, 128), (v, 512)]
  | .rgnPwrOff _ => []
  | .regionPowerDown island => [(island, 16)]
  | .regionPowerUp island => [(island, 16)]
  | .mgmtqEnable _ => []
  | .errLogClear => []
  | .cmpDbgDataAccess core _ => [(core, 576)]
  | .pwrLimitWrite _ => []
  | .fabQosWtWrite die _ => [(die, 2)]
  | .registerWrite _ _ _ => []
  | .readClear _ _ => []
  | .registerAccessTimeout _ _ _ => []
  | .status _ _ => []
  | .eventRead _ _ => []
  | .logRead _ _ => []
  | .setPkgId _ _ => []
  | .groupTotal _ _ => []
  | .wake _ _ => []
  | .calRead _ _ => []
  | .calWrite _ _ => []
  | .imgBegin _ _ => []
  | .imgData _ _ => []
  | .imgEnd _ _ => []
  | .flashWriteDone => []
  | .auxPowerOn _ => []
  | .auxPowerLoss => []
  | .imageVerified => []
  | .pwrgoodAssert _ => []
  | .railsUp => []
  | .hbmTrained => []
  | .stitchLinkTrained link _ => [(link, 12)]
  | .stitchWaitTimeout => []
  | .selfTestComplete _ _ _ _ => []
  | .stitchLinkReinit link => [(link, 12)]
  | .prbData slice _ => [(slice, 128)]
  | .cxlCacheCompletion _ _ _ => []
  | .hostFenceWordSnoop _ _ => []
  | .eventRingConsumed ring _ => [(ring, 1024)]
  | .folioResetDrainExpiry folio => [(folio, 64)]
  | .uncorrectableUnitError unit code _ _ _ => [(unit, 11), (code, 256)]
  | .dynamicAddressAssign addr => [(addr, 128)]

/-- A list of numbered operands from what well-formedness checks. -/
theorem ranged {b : Bool} {l : List (Nat × Nat)} (h : b = true → (l.all fun p => decide (p.1 < p.2)) = true) : b = true → ∀ p ∈ l, p.1 < p.2 :=
  fun g p hp => of_decide_eq_true (List.all_eq_true.1 (h g) p hp)

section
set_option Elab.async false

/-- What the family says of one command. -/
def Shape.Statement (i : Instr) : Prop := WellFormed i = true → ∀ p ∈ numbered i, p.1 < p.2

theorem Shape.alu (core : Nat) (w : Word) : Shape.Statement (.alu core w) := ranged (b := decide (core < 576)) (l := [(core, 576)]) (by simp +contextual)
theorem Shape.alui (core : Nat) (w : Word) : Shape.Statement (.alui core w) := ranged (b := decide (core < 576)) (l := [(core, 576)]) (by simp +contextual)
theorem Shape.ld (core : Nat) (w : Word) : Shape.Statement (.ld core w) := ranged (b := decide (core < 576)) (l := [(core, 576)]) (by simp +contextual)
theorem Shape.st (core : Nat) (w : Word) : Shape.Statement (.st core w) := ranged (b := decide (core < 576)) (l := [(core, 576)]) (by simp +contextual)
theorem Shape.amo (core : Nat) (w : Word) : Shape.Statement (.amo core w) := ranged (b := decide (core < 576)) (l := [(core, 576)]) (by simp +contextual)
theorem Shape.br (core : Nat) (w : Word) : Shape.Statement (.br core w) := ranged (b := decide (core < 576)) (l := [(core, 576)]) (by simp +contextual)
theorem Shape.jmp (core : Nat) (w : Word) : Shape.Statement (.jmp core w) := ranged (b := decide (core < 576)) (l := [(core, 576)]) (by simp +contextual)
theorem Shape.srd (core : Nat) (w : Word) : Shape.Statement (.srd core w) := ranged (b := decide (core < 576)) (l := [(core, 576)]) (by simp +contextual)
theorem Shape.vop (core : Nat) (w : Word) : Shape.Statement (.vop core w) := ranged (b := decide (core < 576)) (l := [(core, 576)]) (by simp +contextual)
theorem Shape.vls (core : Nat) (w : Word) : Shape.Statement (.vls core w) := ranged (b := decide (core < 576)) (l := [(core, 576)]) (by simp +contextual)
theorem Shape.mma (core : Nat) (w : Word) : Shape.Statement (.mma core w) := ranged (b := decide (core < 576)) (l := [(core, 576)]) (by simp +contextual)
theorem Shape.mmaExecute (core : Nat) : Shape.Statement (.mmaExecute core) := ranged (b := decide (core < 576)) (l := [(core, 576)]) (by simp +contextual)
theorem Shape.rq (core : Nat) (w : Word) : Shape.Statement (.rq core w) := ranged (b := decide (core < 576)) (l := [(core, 576)]) (by simp +contextual)
theorem Shape.rqExecute (core : Nat) : Shape.Statement (.rqExecute core) := ranged (b := decide (core < 576)) (l := [(core, 576)]) (by simp +contextual)
theorem Shape.tdma (core : Nat) (w : Word) : Shape.Statement (.tdma core w) := ranged (b := decide (core < 576)) (l := [(core, 576)]) (by simp +contextual)
theorem Shape.tileDmaBurstComplete (req : Nat) : Shape.Statement (.tileDmaBurstComplete req) := ranged (b := true) (l := []) (by simp +contextual)
theorem Shape.dwait (core : Nat) (w : Word) : Shape.Statement (.dwait core w) := ranged (b := decide (core < 576)) (l := [(core, 576)]) (by simp +contextual)
theorem Shape.slaunch (core : Nat) (w : Word) : Shape.Statement (.slaunch core w) := ranged (b := decide (core < 576)) (l := [(core, 576)]) (by simp +contextual)
theorem Shape.scriptEntryIssue (core slot lane : Nat) : Shape.Statement (.scriptEntryIssue core slot lane) := ranged (b := decide (core < 576) && decide (slot < 4) && decide (lane < 2)) (l := [(core, 576), (slot, 4), (lane, 2)]) (by simp +contextual)
theorem Shape.srel (core : Nat) (w : Word) : Shape.Statement (.srel core w) := ranged (b := decide (core < 576)) (l := [(core, 576)]) (by simp +contextual)
theorem Shape.fsig (core : Nat) (w : Word) : Shape.Statement (.fsig core w) := ranged (b := decide (core < 576)) (l := [(core, 576)]) (by simp +contextual)
theorem Shape.fenceOffer (offer : Nat) : Shape.Statement (.fenceOffer offer) := ranged (b := true) (l := []) (by simp +contextual)
theorem Shape.fwait (core : Nat) (w : Word) : Shape.Statement (.fwait core w) := ranged (b := decide (core < 576)) (l := [(core, 576)]) (by simp +contextual)
theorem Shape.fwaitTimeout (core slot : Nat) : Shape.Statement (.fwaitTimeout core slot) := ranged (b := decide (core < 576) && decide (slot < 4)) (l := [(core, 576), (slot, 4)]) (by simp +contextual)
theorem Shape.fwaitPoll (core slot : Nat) : Shape.Statement (.fwaitPoll core slot) := ranged (b := decide (core < 576) && decide (slot < 4)) (l := [(core, 576), (slot, 4)]) (by simp +contextual)
theorem Shape.fence (core : Nat) (w : Word) : Shape.Statement (.fence core w) := ranged (b := decide (core < 576)) (l := [(core, 576)]) (by simp +contextual)
theorem Shape.bar (core : Nat) (w : Word) : Shape.Statement (.bar core w) := ranged (b := decide (core < 576)) (l := [(core, 576)]) (by simp +contextual)
theorem Shape.barrierArrival (msg : Nat) : Shape.Statement (.barrierArrival msg) := ranged (b := true) (l := []) (by simp +contextual)
theorem Shape.sift (core : Nat) (w : Word) : Shape.Statement (.sift core w) := ranged (b := decide (core < 576)) (l := [(core, 576)]) (by simp +contextual)
theorem Shape.halt (core : Nat) (w : Word) : Shape.Statement (.halt core w) := ranged (b := decide (core < 576)) (l := [(core, 576)]) (by simp +contextual)
theorem Shape.yield (core : Nat) (w : Word) : Shape.Statement (.yield core w) := ranged (b := decide (core < 576)) (l := [(core, 576)]) (by simp +contextual)
theorem Shape.seg (core : Nat) (w : Word) : Shape.Statement (.seg core w) := ranged (b := decide (core < 576)) (l := [(core, 576)]) (by simp +contextual)
theorem Shape.gret (core : Nat) (w : Word) : Shape.Statement (.gret core w) := ranged (b := decide (core < 576)) (l := [(core, 576)]) (by simp +contextual)
theorem Shape.trap (core : Nat) (w : Word) : Shape.Statement (.trap core w) := ranged (b := decide (core < 576)) (l := [(core, 576)]) (by simp +contextual)
theorem Shape.bkpt (core : Nat) (w : Word) : Shape.Statement (.bkpt core w) := ranged (b := decide (core < 576)) (l := [(core, 576)]) (by simp +contextual)
theorem Shape.cinv (core : Nat) (w : Word) : Shape.Statement (.cinv core w) := ranged (b := decide (core < 576)) (l := [(core, 576)]) (by simp +contextual)
theorem Shape.cwb (core : Nat) (w : Word) : Shape.Statement (.cwb core w) := ranged (b := decide (core < 576)) (l := [(core, 576)]) (by simp +contextual)
theorem Shape.storeCompletion (req : Nat) : Shape.Statement (.storeCompletion req) := ranged (b := true) (l := []) (by simp +contextual)
theorem Shape.ctxFault (core slot : Nat) : Shape.Statement (.ctxFault core slot) := ranged (b := decide (core < 576) && decide (slot < 4)) (l := [(core, 576), (slot, 4)]) (by simp +contextual)
theorem Shape.faultHoldExpiry (ctx : Nat) : Shape.Statement (.faultHoldExpiry ctx) := ranged (b := decide (ctx < 4096)) (l := [(ctx, 4096)]) (by simp +contextual)
theorem Shape.safeguardUpdateComplete (upd : Nat) : Shape.Statement (.safeguardUpdateComplete upd) := ranged (b := true) (l := []) (by simp +contextual)
theorem Shape.contextSwitch (core : Nat) : Shape.Statement (.contextSwitch core) := ranged (b := decide (core < 576)) (l := [(core, 576)]) (by simp +contextual)
theorem Shape.quantumExpiry (core : Nat) : Shape.Statement (.quantumExpiry core) := ranged (b := decide (core < 576)) (l := [(core, 576)]) (by simp +contextual)
theorem Shape.waitSwExpiry (core : Nat) : Shape.Statement (.waitSwExpiry core) := ranged (b := decide (core < 576)) (l := [(core, 576)]) (by simp +contextual)
theorem Shape.rtContextReady (core slot : Nat) : Shape.Statement (.rtContextReady core slot) := ranged (b := decide (core < 576) && decide (slot < 4)) (l := [(core, 576), (slot, 4)]) (by simp +contextual)
theorem Shape.rtMiss (ctx : Nat) : Shape.Statement (.rtMiss ctx) := ranged (b := decide (ctx < 4096)) (l := [(ctx, 4096)]) (by simp +contextual)
theorem Shape.doorbellSnoop (queue : Nat) (line : Bytes) : Shape.Statement (.doorbellSnoop queue line) := ranged (b := decide (queue < 16384) && decide (line.length = 64)) (l := [(queue, 16384)]) (by simp +contextual)
theorem Shape.doorbellRefetch (queue : Nat) : Shape.Statement (.doorbellRefetch queue) := ranged (b := decide (queue < 16384)) (l := [(queue, 16384)]) (by simp +contextual)
theorem Shape.doorbellPoll (queue : Nat) : Shape.Statement (.doorbellPoll queue) := ranged (b := decide (queue < 16384)) (l := [(queue, 16384)]) (by simp +contextual)
theorem Shape.commandFetch (queue : Nat) : Shape.Statement (.commandFetch queue) := ranged (b := decide (queue < 16384)) (l := [(queue, 16384)]) (by simp +contextual)
theorem Shape.commandWaitSatisfied (queue : Nat) : Shape.Statement (.commandWaitSatisfied queue) := ranged (b := decide (queue < 16384)) (l := [(queue, 16384)]) (by simp +contextual)
theorem Shape.commandComplete (queue : Nat) : Shape.Statement (.commandComplete queue) := ranged (b := decide (queue < 16384)) (l := [(queue, 16384)]) (by simp +contextual)
theorem Shape.refCountSubtract (sub : Nat) (hostError : Bool) : Shape.Statement (.refCountSubtract sub hostError) := ranged (b := true) (l := []) (by simp +contextual)
theorem Shape.nop (queue : Nat) : Shape.Statement (.nop queue) := ranged (b := decide (queue < 16384)) (l := [(queue, 16384)]) (by simp +contextual)
theorem Shape.signal (queue : Nat) : Shape.Statement (.signal queue) := ranged (b := decide (queue < 16384)) (l := [(queue, 16384)]) (by simp +contextual)
theorem Shape.launch (queue : Nat) : Shape.Statement (.launch queue) := ranged (b := decide (queue < 16384)) (l := [(queue, 16384)]) (by simp +contextual)
theorem Shape.launchStart (queue : Nat) : Shape.Statement (.launchStart queue) := ranged (b := decide (queue < 16384)) (l := [(queue, 16384)]) (by simp +contextual)
theorem Shape.activationComplete (ctx : Nat) : Shape.Statement (.activationComplete ctx) := ranged (b := decide (ctx < 4096)) (l := [(ctx, 4096)]) (by simp +contextual)
theorem Shape.copy (queue : Nat) : Shape.Statement (.copy queue) := ranged (b := decide (queue < 16384)) (l := [(queue, 16384)]) (by simp +contextual)
theorem Shape.sieveFlush (queue : Nat) : Shape.Statement (.sieveFlush queue) := ranged (b := decide (queue < 16384)) (l := [(queue, 16384)]) (by simp +contextual)
theorem Shape.safeSet (queue : Nat) : Shape.Statement (.safeSet queue) := ranged (b := decide (queue < 16384)) (l := [(queue, 16384)]) (by simp +contextual)
theorem Shape.reseed (queue : Nat) : Shape.Statement (.reseed queue) := ranged (b := decide (queue < 16384)) (l := [(queue, 16384)]) (by simp +contextual)
theorem Shape.progLoad (queue : Nat) : Shape.Statement (.progLoad queue) := ranged (b := decide (queue < 16384)) (l := [(queue, 16384)]) (by simp +contextual)
theorem Shape.progUnload (queue : Nat) : Shape.Statement (.progUnload queue) := ranged (b := decide (queue < 16384)) (l := [(queue, 16384)]) (by simp +contextual)
theorem Shape.ctxCreate (queue : Nat) : Shape.Statement (.ctxCreate queue) := ranged (b := decide (queue < 16384)) (l := [(queue, 16384)]) (by simp +contextual)
theorem Shape.ctxDestroy (queue : Nat) : Shape.Statement (.ctxDestroy queue) := ranged (b := decide (queue < 16384)) (l := [(queue, 16384)]) (by simp +contextual)
theorem Shape.ctxReset (queue : Nat) : Shape.Statement (.ctxReset queue) := ranged (b := decide (queue < 16384)) (l := [(queue, 16384)]) (by simp +contextual)
theorem Shape.resume (queue : Nat) : Shape.Statement (.resume queue) := ranged (b := decide (queue < 16384)) (l := [(queue, 16384)]) (by simp +contextual)
theorem Shape.queueCreate (queue : Nat) : Shape.Statement (.queueCreate queue) := ranged (b := decide (queue < 16384)) (l := [(queue, 16384)]) (by simp +contextual)
theorem Shape.queueDestroy (queue : Nat) : Shape.Statement (.queueDestroy queue) := ranged (b := decide (queue < 16384)) (l := [(queue, 16384)]) (by simp +contextual)
theorem Shape.evringCreate (queue : Nat) : Shape.Statement (.evringCreate queue) := ranged (b := decide (queue < 16384)) (l := [(queue, 16384)]) (by simp +contextual)
theorem Shape.evringDestroy (queue : Nat) : Shape.Statement (.evringDestroy queue) := ranged (b := decide (queue < 16384)) (l := [(queue, 16384)]) (by simp +contextual)
theorem Shape.invalidate (queue : Nat) : Shape.Statement (.invalidate queue) := ranged (b := decide (queue < 16384)) (l := [(queue, 16384)]) (by simp +contextual)
theorem Shape.invalidateDrained (queue : Nat) : Shape.Statement (.invalidateDrained queue) := ranged (b := decide (queue < 16384)) (l := [(queue, 16384)]) (by simp +contextual)
theorem Shape.invSlow (queue : Nat) : Shape.Statement (.invSlow queue) := ranged (b := decide (queue < 16384)) (l := [(queue, 16384)]) (by simp +contextual)
theorem Shape.migrate (queue : Nat) : Shape.Statement (.migrate queue) := ranged (b := decide (queue < 16384)) (l := [(queue, 16384)]) (by simp +contextual)
theorem Shape.migrateCopyComplete (queue : Nat) : Shape.Statement (.migrateCopyComplete queue) := ranged (b := decide (queue < 16384)) (l := [(queue, 16384)]) (by simp +contextual)
theorem Shape.advise (queue : Nat) : Shape.Statement (.advise queue) := ranged (b := decide (queue < 16384)) (l := [(queue, 16384)]) (by simp +contextual)
theorem Shape.frameSet (queue : Nat) : Shape.Statement (.frameSet queue) := ranged (b := decide (queue < 16384)) (l := [(queue, 16384)]) (by simp +contextual)
theorem Shape.biasTakebackDone (queue : Nat) : Shape.Statement (.biasTakebackDone queue) := ranged (b := decide (queue < 16384)) (l := [(queue, 16384)]) (by simp +contextual)
theorem Shape.chanAssign (queue : Nat) : Shape.Statement (.chanAssign queue) := ranged (b := decide (queue < 16384)) (l := [(queue, 16384)]) (by simp +contextual)
theorem Shape.folioCreate (queue : Nat) : Shape.Statement (.folioCreate queue) := ranged (b := decide (queue < 16384)) (l := [(queue, 16384)]) (by simp +contextual)
theorem Shape.folioDestroy (queue : Nat) : Shape.Statement (.folioDestroy queue) := ranged (b := decide (queue < 16384)) (l := [(queue, 16384)]) (by simp +contextual)
theorem Shape.sliceAttach (queue : Nat) : Shape.Statement (.sliceAttach queue) := ranged (b := decide (queue < 16384)) (l := [(queue, 16384)]) (by simp +contextual)
theorem Shape.sliceDetach (queue : Nat) : Shape.Statement (.sliceDetach queue) := ranged (b := decide (queue < 16384)) (l := [(queue, 16384)]) (by simp +contextual)
theorem Shape.sliceTransfer (queue : Nat) : Shape.Statement (.sliceTransfer queue) := ranged (b := decide (queue < 16384)) (l := [(queue, 16384)]) (by simp +contextual)
theorem Shape.sliceMove (queue : Nat) : Shape.Statement (.sliceMove queue) := ranged (b := decide (queue < 16384)) (l := [(queue, 16384)]) (by simp +contextual)
theorem Shape.sliceMoveCopyComplete (slice : Nat) : Shape.Statement (.sliceMoveCopyComplete slice) := ranged (b := decide (slice < 64)) (l := [(slice, 64)]) (by simp +contextual)
theorem Shape.setProtect (queue : Nat) : Shape.Statement (.setProtect queue) := ranged (b := decide (queue < 16384)) (l := [(queue, 16384)]) (by simp +contextual)
theorem Shape.peerSet (queue : Nat) : Shape.Statement (.peerSet queue) := ranged (b := decide (queue < 16384)) (l := [(queue, 16384)]) (by simp +contextual)
theorem Shape.linkShare (queue : Nat) : Shape.Statement (.linkShare queue) := ranged (b := decide (queue < 16384)) (l := [(queue, 16384)]) (by simp +contextual)
theorem Shape.folioQuery (queue : Nat) : Shape.Statement (.folioQuery queue) := ranged (b := decide (queue < 16384)) (l := [(queue, 16384)]) (by simp +contextual)
theorem Shape.folioRing (queue : Nat) : Shape.Statement (.folioRing queue) := ranged (b := decide (queue < 16384)) (l := [(queue, 16384)]) (by simp +contextual)
theorem Shape.epochInForce (folio : Nat) : Shape.Statement (.epochInForce folio) := ranged (b := decide (folio < 64)) (l := [(folio, 64)]) (by simp +contextual)
theorem Shape.drainZero (kind slice : Nat) : Shape.Statement (.drainZero kind slice) := ranged (b := decide (kind < 3) && decide (slice < 128)) (l := [(kind, 3), (slice, 128)]) (by simp +contextual)
theorem Shape.drainLimitExpiry (kind slice : Nat) : Shape.Statement (.drainLimitExpiry kind slice) := ranged (b := decide (kind < 3) && decide (slice < 128)) (l := [(kind, 3), (slice, 128)]) (by simp +contextual)
theorem Shape.scrubComplete (slice : Nat) : Shape.Statement (.scrubComplete slice) := ranged (b := decide (slice < 64)) (l := [(slice, 64)]) (by simp +contextual)
theorem Shape.confSliceInitComplete (slice : Nat) : Shape.Statement (.confSliceInitComplete slice) := ranged (b := decide (slice < 64)) (l := [(slice, 64)]) (by simp +contextual)
theorem Shape.mirrorMemberLoss (slice : Nat) : Shape.Statement (.mirrorMemberLoss slice) := ranged (b := decide (slice < 64)) (l := [(slice, 64)]) (by simp +contextual)
theorem Shape.codedMemberLoss (slice : Nat) : Shape.Statement (.codedMemberLoss slice) := ranged (b := decide (slice < 64)) (l := [(slice, 64)]) (by simp +contextual)
theorem Shape.secondLoss (slice : Nat) : Shape.Statement (.secondLoss slice) := ranged (b := decide (slice < 64)) (l := [(slice, 64)]) (by simp +contextual)
theorem Shape.stitchLinkIdle (peer : Nat) : Shape.Statement (.stitchLinkIdle peer) := ranged (b := decide (peer < 15)) (l := [(peer, 15)]) (by simp +contextual)
theorem Shape.peerLossDrainExpiry (peer folio : Nat) : Shape.Statement (.peerLossDrainExpiry peer folio) := ranged (b := decide (peer < 15) && decide (folio < 64)) (l := [(peer, 15), (folio, 64)]) (by simp +contextual)
theorem Shape.stitchRead (link : Nat) (hdr payload : Bytes) : Shape.Statement (.stitchRead link hdr payload) := ranged (b := decide (link < 12) && decide (hdr.length = 16) && decide (payload.length ≤ 256)) (l := [(link, 12)]) (by simp +contextual)
theorem Shape.stitchWrite (link : Nat) (hdr payload : Bytes) : Shape.Statement (.stitchWrite link hdr payload) := ranged (b := decide (link < 12) && decide (hdr.length = 16) && decide (payload.length ≤ 256)) (l := [(link, 12)]) (by simp +contextual)
theorem Shape.stitchAtomic (link : Nat) (hdr payload : Bytes) : Shape.Statement (.stitchAtomic link hdr payload) := ranged (b := decide (link < 12) && decide (hdr.length = 16) && decide (payload.length ≤ 256)) (l := [(link, 12)]) (by simp +contextual)
theorem Shape.stitchFenceOffer (link : Nat) (hdr payload : Bytes) : Shape.Statement (.stitchFenceOffer link hdr payload) := ranged (b := decide (link < 12) && decide (hdr.length = 16) && decide (payload.length ≤ 256)) (l := [(link, 12)]) (by simp +contextual)
theorem Shape.stitchBarrier (link : Nat) (hdr payload : Bytes) : Shape.Statement (.stitchBarrier link hdr payload) := ranged (b := decide (link < 12) && decide (hdr.length = 16) && decide (payload.length ≤ 256)) (l := [(link, 12)]) (by simp +contextual)
theorem Shape.stitchMirrorWrite (link : Nat) (hdr payload : Bytes) : Shape.Statement (.stitchMirrorWrite link hdr payload) := ranged (b := decide (link < 12) && decide (hdr.length = 16) && decide (payload.length ≤ 256)) (l := [(link, 12)]) (by simp +contextual)
theorem Shape.stitchCompletionData (link : Nat) (hdr payload : Bytes) : Shape.Statement (.stitchCompletionData link hdr payload) := ranged (b := decide (link < 12) && decide (hdr.length = 16) && decide (payload.length ≤ 256)) (l := [(link, 12)]) (by simp +contextual)
theorem Shape.stitchCompletion (link : Nat) (hdr payload : Bytes) : Shape.Statement (.stitchCompletion link hdr payload) := ranged (b := decide (link < 12) && decide (hdr.length = 16) && decide (payload.length ≤ 256)) (l := [(link, 12)]) (by simp +contextual)
theorem Shape.stitchCreditReturn (link : Nat) (hdr payload : Bytes) : Shape.Statement (.stitchCreditReturn link hdr payload) := ranged (b := decide (link < 12) && decide (hdr.length = 16) && decide (payload.length ≤ 256)) (l := [(link, 12)]) (by simp +contextual)
theorem Shape.stitchDiscard (link : Nat) (hdr payload : Bytes) : Shape.Statement (.stitchDiscard link hdr payload) := ranged (b := decide (link < 12) && decide (hdr.length = 16) && decide (payload.length ≤ 256)) (l := [(link, 12)]) (by simp +contextual)
theorem Shape.report (link : Nat) (payload : Bytes) : Shape.Statement (.report link payload) := ranged (b := decide (link < 12)) (l := [(link, 12)]) (by simp +contextual)
theorem Shape.assign (link : Nat) (payload : Bytes) : Shape.Statement (.assign link payload) := ranged (b := decide (link < 12)) (l := [(link, 12)]) (by simp +contextual)
theorem Shape.reportPeriod : Shape.Statement .reportPeriod := ranged (b := true) (l := []) (by simp +contextual)
theorem Shape.leaderAssign : Shape.Statement .leaderAssign := ranged (b := true) (l := []) (by simp +contextual)
theorem Shape.assignTimeout : Shape.Statement .assignTimeout := ranged (b := true) (l := []) (by simp +contextual)
theorem Shape.shareSet (queue : Nat) : Shape.Statement (.shareSet queue) := ranged (b := decide (queue < 16384)) (l := [(queue, 16384)]) (by simp +contextual)
theorem Shape.acctRead (queue : Nat) : Shape.Statement (.acctRead queue) := ranged (b := decide (queue < 16384)) (l := [(queue, 16384)]) (by simp +contextual)
theorem Shape.rtAdmit (queue : Nat) : Shape.Statement (.rtAdmit queue) := ranged (b := decide (queue < 16384)) (l := [(queue, 16384)]) (by simp +contextual)
theorem Shape.rtRelease (queue : Nat) : Shape.Statement (.rtRelease queue) := ranged (b := decide (queue < 16384)) (l := [(queue, 16384)]) (by simp +contextual)
theorem Shape.cyclicLoad (queue : Nat) : Shape.Statement (.cyclicLoad queue) := ranged (b := decide (queue < 16384)) (l := [(queue, 16384)]) (by simp +contextual)
theorem Shape.cyclicEnter (queue : Nat) : Shape.Statement (.cyclicEnter queue) := ranged (b := decide (queue < 16384)) (l := [(queue, 16384)]) (by simp +contextual)
theorem Shape.cyclicExit (queue : Nat) : Shape.Statement (.cyclicExit queue) := ranged (b := decide (queue < 16384)) (l := [(queue, 16384)]) (by simp +contextual)
theorem Shape.minorFrameBoundary : Shape.Statement .minorFrameBoundary := ranged (b := true) (l := []) (by simp +contextual)
theorem Shape.cyclicEntryStart (entry : Nat) (pass : Bool) (code unit : Nat) : Shape.Statement (.cyclicEntryStart entry pass code unit) := ranged (b := decide (entry < 256) && decide (code < 256) && decide (unit < 2 ^ 32)) (l := [(entry, 256), (code, 256)]) (by simp +contextual)
theorem Shape.cyclicOverrun (entry : Nat) : Shape.Statement (.cyclicOverrun entry) := ranged (b := decide (entry < 256)) (l := [(entry, 256)]) (by simp +contextual)
theorem Shape.powerSet (queue : Nat) : Shape.Statement (.powerSet queue) := ranged (b := decide (queue < 16384)) (l := [(queue, 16384)]) (by simp +contextual)
theorem Shape.energyWatch (queue : Nat) : Shape.Statement (.energyWatch queue) := ranged (b := decide (queue < 16384)) (l := [(queue, 16384)]) (by simp +contextual)
theorem Shape.energyEstimate : Shape.Statement .energyEstimate := ranged (b := true) (l := []) (by simp +contextual)
theorem Shape.confKeys (queue : Nat) : Shape.Statement (.confKeys queue) := ranged (b := decide (queue < 16384)) (l := [(queue, 16384)]) (by simp +contextual)
theorem Shape.keyRotate (queue : Nat) : Shape.Statement (.keyRotate queue) := ranged (b := decide (queue < 16384)) (l := [(queue, 16384)]) (by simp +contextual)
theorem Shape.keyRotateDone (folio : Nat) : Shape.Statement (.keyRotateDone folio) := ranged (b := decide (folio < 64)) (l := [(folio, 64)]) (by simp +contextual)
theorem Shape.attest (queue : Nat) : Shape.Statement (.attest queue) := ranged (b := decide (queue < 16384)) (l := [(queue, 16384)]) (by simp +contextual)
theorem Shape.engineReset (queue : Nat) : Shape.Statement (.engineReset queue) := ranged (b := decide (queue < 16384)) (l := [(queue, 16384)]) (by simp +contextual)
theorem Shape.folioReset (queue : Nat) : Shape.Statement (.folioReset queue) := ranged (b := decide (queue < 16384)) (l := [(queue, 16384)]) (by simp +contextual)
theorem Shape.pkgReset (queue : Nat) : Shape.Statement (.pkgReset queue) := ranged (b := decide (queue < 16384)) (l := [(queue, 16384)]) (by simp +contextual)
theorem Shape.pkgStandby (queue : Nat) : Shape.Statement (.pkgStandby queue) := ranged (b := decide (queue < 16384)) (l := [(queue, 16384)]) (by simp +contextual)
theorem Shape.standbyExit : Shape.Statement .standbyExit := ranged (b := true) (l := []) (by simp +contextual)
theorem Shape.watchdogAct (ctx : Nat) : Shape.Statement (.watchdogAct ctx) := ranged (b := decide (ctx < 4096)) (l := [(ctx, 4096)]) (by simp +contextual)
theorem Shape.watchdogCmdwait (queue : Nat) : Shape.Statement (.watchdogCmdwait queue) := ranged (b := decide (queue < 16384)) (l := [(queue, 16384)]) (by simp +contextual)
theorem Shape.watchdogCore (core : Nat) : Shape.Statement (.watchdogCore core) := ranged (b := decide (core < 576)) (l := [(core, 576)]) (by simp +contextual)
theorem Shape.watchdogReq (req : Nat) : Shape.Statement (.watchdogReq req) := ranged (b := true) (l := []) (by simp +contextual)
theorem Shape.watchdogMgmt : Shape.Statement .watchdogMgmt := ranged (b := true) (l := []) (by simp +contextual)
theorem Shape.watchdogClasp : Shape.Statement .watchdogClasp := ranged (b := true) (l := []) (by simp +contextual)
theorem Shape.watchdogStep (step target : Nat) : Shape.Statement (.watchdogStep step target) := ranged (b := decide (1 ≤ step ∧ step ≤ 4) && decide (target / 2 ^ 32 < 3)) (l := [(target / 2 ^ 32, 3)]) (by simp +contextual)
theorem Shape.booksCheck : Shape.Statement .booksCheck := ranged (b := true) (l := []) (by simp +contextual)
theorem Shape.dieFailure (die cause : Nat) : Shape.Statement (.dieFailure die cause) := ranged (b := decide (die < 2) && decide (cause < 256)) (l := [(die, 2), (cause, 256)]) (by simp +contextual)
theorem Shape.walkComplete (walk : Nat) : Shape.Statement (.walkComplete walk) := ranged (b := true) (l := []) (by simp +contextual)
theorem Shape.copyDescriptorStart (chan : Nat) : Shape.Statement (.copyDescriptorStart chan) := ranged (b := decide (chan < 128)) (l := [(chan, 128)]) (by simp +contextual)
theorem Shape.copyWaitSatisfied (chan : Nat) : Shape.Statement (.copyWaitSatisfied chan) := ranged (b := decide (chan < 128)) (l := [(chan, 128)]) (by simp +contextual)
theorem Shape.copyBurstIssue (engine : Nat) : Shape.Statement (.copyBurstIssue engine) := ranged (b := decide (engine < 8)) (l := [(engine, 8)]) (by simp +contextual)
theorem Shape.copyBurstComplete (chan burst : Nat) : Shape.Statement (.copyBurstComplete chan burst) := ranged (b := decide (chan < 128)) (l := [(chan, 128)]) (by simp +contextual)
theorem Shape.copyDescriptorEnd (chan : Nat) : Shape.Statement (.copyDescriptorEnd chan) := ranged (b := decide (chan < 128)) (l := [(chan, 128)]) (by simp +contextual)
theorem Shape.siftAccept (sift : Nat) : Shape.Statement (.siftAccept sift) := ranged (b := true) (l := []) (by simp +contextual)
theorem Shape.siftStart (unit : Nat) : Shape.Statement (.siftStart unit) := ranged (b := decide (unit < 64)) (l := [(unit, 64)]) (by simp +contextual)
theorem Shape.siftComplete (unit : Nat) : Shape.Statement (.siftComplete unit) := ranged (b := decide (unit < 64)) (l := [(unit, 64)]) (by simp +contextual)
theorem Shape.getShare (req : Nat) : Shape.Statement (.getShare req) := ranged (b := true) (l := []) (by simp +contextual)
theorem Shape.getOwn (req : Nat) : Shape.Statement (.getOwn req) := ranged (b := true) (l := []) (by simp +contextual)
theorem Shape.upgrade (req : Nat) : Shape.Statement (.upgrade req) := ranged (b := true) (l := []) (by simp +contextual)
theorem Shape.glance (req : Nat) : Shape.Statement (.glance req) := ranged (b := true) (l := []) (by simp +contextual)
theorem Shape.putHome (req : Nat) : Shape.Statement (.putHome req) := ranged (b := true) (l := []) (by simp +contextual)
theorem Shape.rawGet (req : Nat) : Shape.Statement (.rawGet req) := ranged (b := true) (l := []) (by simp +contextual)
theorem Shape.rawPut (req : Nat) : Shape.Statement (.rawPut req) := ranged (b := true) (l := []) (by simp +contextual)
theorem Shape.retireDirty (slice line : Nat) : Shape.Statement (.retireDirty slice line) := ranged (b := decide (slice < 128) && decide (line % 64 = 0)) (l := [(slice, 128)]) (by simp +contextual)
theorem Shape.retireClean (slice line : Nat) : Shape.Statement (.retireClean slice line) := ranged (b := decide (slice < 128) && decide (line % 64 = 0)) (l := [(slice, 128)]) (by simp +contextual)
theorem Shape.grantAck (line : Nat) : Shape.Statement (.grantAck line) := ranged (b := decide (line % 64 = 0)) (l := []) (by simp +contextual)
theorem Shape.prbMiss (slice line : Nat) : Shape.Statement (.prbMiss slice line) := ranged (b := decide (slice < 128) && decide (line % 64 = 0)) (l := [(slice, 128)]) (by simp +contextual)
theorem Shape.grantData (slice line victim : Nat) : Shape.Statement (.grantData slice line victim) := ranged (b := decide (slice < 128) && decide (line % 64 = 0) && decide (victim % 64 = 0)) (l := [(slice, 128)]) (by simp +contextual)
theorem Shape.retireAck (slice line : Nat) : Shape.Statement (.retireAck slice line) := ranged (b := decide (slice < 128) && decide (line % 64 = 0)) (l := [(slice, 128)]) (by simp +contextual)
theorem Shape.prbShare (slice line : Nat) : Shape.Statement (.prbShare slice line) := ranged (b := decide (slice < 128) && decide (line % 64 = 0)) (l := [(slice, 128)]) (by simp +contextual)
theorem Shape.prbOwn (slice line : Nat) : Shape.Statement (.prbOwn slice line) := ranged (b := decide (slice < 128) && decide (line % 64 = 0)) (l := [(slice, 128)]) (by simp +contextual)
theorem Shape.prbGlance (slice line : Nat) : Shape.Statement (.prbGlance slice line) := ranged (b := decide (slice < 128) && decide (line % 64 = 0)) (l := [(slice, 128)]) (by simp +contextual)
theorem Shape.prbInv (slice line : Nat) : Shape.Statement (.prbInv slice line) := ranged (b := decide (slice < 128) && decide (line % 64 = 0)) (l := [(slice, 128)]) (by simp +contextual)
theorem Shape.snpData (addr : Nat) : Shape.Statement (.snpData addr) := ranged (b := decide (addr < 2 ^ 46)) (l := []) (by simp +contextual)
theorem Shape.snpInv (addr : Nat) : Shape.Statement (.snpInv addr) := ranged (b := decide (addr < 2 ^ 46)) (l := []) (by simp +contextual)
theorem Shape.snpCur (addr : Nat) : Shape.Statement (.snpCur addr) := ranged (b := decide (addr < 2 ^ 46)) (l := []) (by simp +contextual)
theorem Shape.atsInvalidation (fn addr len : Nat) : Shape.Statement (.atsInvalidation fn addr len) := ranged (b := decide (fn < 64)) (l := [(fn, 64)]) (by simp +contextual)
theorem Shape.cxlMemRead (hpa : Nat) : Shape.Statement (.cxlMemRead hpa) := ranged (b := decide (hpa % 64 = 0)) (l := []) (by simp +contextual)
theorem Shape.cxlMemWrite (hpa off : Nat) (data : Bytes) : Shape.Statement (.cxlMemWrite hpa off data) := ranged (b := decide (hpa % 64 = 0) && decide (off < 64)) (l := [(off, 64)]) (by simp +contextual)
theorem Shape.hostTimeout (req : Nat) : Shape.Statement (.hostTimeout req) := ranged (b := true) (l := []) (by simp +contextual)
theorem Shape.linkTraining (width speed : Nat) (cxl : Bool) : Shape.Statement (.linkTraining width speed cxl) := ranged (b := true) (l := []) (by simp +contextual)
theorem Shape.hostLinkDown : Shape.Statement .hostLinkDown := ranged (b := true) (l := []) (by simp +contextual)
theorem Shape.hdmDecoderCommit (base : Nat) : Shape.Statement (.hdmDecoderCommit base) := ranged (b := true) (l := []) (by simp +contextual)
theorem Shape.msixUnmask (fn vector : Nat) : Shape.Statement (.msixUnmask fn vector) := ranged (b := decide (fn < 64) && decide (vector < 256)) (l := [(fn, 64), (vector, 256)]) (by simp +contextual)
theorem Shape.vfFlr (fn : Nat) : Shape.Statement (.vfFlr fn) := ranged (b := decide (fn < 64)) (l := [(fn, 64)]) (by simp +contextual)
theorem Shape.pfFlr : Shape.Statement .pfFlr := ranged (b := true) (l := []) (by simp +contextual)
theorem Shape.perstNAssert : Shape.Statement .perstNAssert := ranged (b := true) (l := []) (by simp +contextual)
theorem Shape.perstNDeassert : Shape.Statement .perstNDeassert := ranged (b := true) (l := []) (by simp +contextual)
theorem Shape.doeDiscovery (index : Nat) : Shape.Statement (.doeDiscovery index) := ranged (b := true) (l := []) (by simp +contextual)
theorem Shape.cdatAccess (handle : Nat) : Shape.Statement (.cdatAccess handle) := ranged (b := true) (l := []) (by simp +contextual)
theorem Shape.getVersion (req : Bytes) : Shape.Statement (.getVersion req) := ranged (b := true) (l := []) (by simp +contextual)
theorem Shape.getCapabilities (req : Bytes) : Shape.Statement (.getCapabilities req) := ranged (b := true) (l := []) (by simp +contextual)
theorem Shape.negotiateAlgorithms (req : Bytes) : Shape.Statement (.negotiateAlgorithms req) := ranged (b := true) (l := []) (by simp +contextual)
theorem Shape.getDigests (req : Bytes) : Shape.Statement (.getDigests req) := ranged (b := true) (l := []) (by simp +contextual)
theorem Shape.getCertificate (req : Bytes) : Shape.Statement (.getCertificate req) := ranged (b := true) (l := []) (by simp +contextual)
theorem Shape.challenge (req : Bytes) : Shape.Statement (.challenge req) := ranged (b := true) (l := []) (by simp +contextual)
theorem Shape.getMeasurements (req : Bytes) : Shape.Statement (.getMeasurements req) := ranged (b := true) (l := []) (by simp +contextual)
theorem Shape.spdmUnsupported (req : Bytes) : Shape.Statement (.spdmUnsupported req) := ranged (b := true) (l := []) (by simp +contextual)
theorem Shape.urgencyLevelChange (master fill : Nat) : Shape.Statement (.urgencyLevelChange master fill) := ranged (b := decide (master < 30)) (l := [(master, 30)]) (by simp +contextual)
theorem Shape.urgencyHeld (master arbKind arbIndex oldest : Nat) : Shape.Statement (.urgencyHeld master arbKind arbIndex oldest) := ranged (b := decide (master < 30)) (l := [(master, 30)]) (by simp +contextual)
theorem Shape.spineReplay (die lane : Nat) : Shape.Statement (.spineReplay die lane) := ranged (b := decide (die < 2) && decide (lane < 3)) (l := [(die, 2), (lane, 3)]) (by simp +contextual)
theorem Shape.spineLaneReinit (lane : Nat) : Shape.Statement (.spineLaneReinit lane) := ranged (b := decide (lane < 3)) (l := [(lane, 3)]) (by simp +contextual)
theorem Shape.spineReinitDone (lane : Nat) (ok : Bool) : Shape.Statement (.spineReinitDone lane ok) := ranged (b := decide (lane < 3)) (l := [(lane, 3)]) (by simp +contextual)
theorem Shape.powerControlTick (p fixed pinned : Nat) : Shape.Statement (.powerControlTick p fixed pinned) := ranged (b := true) (l := []) (by simp +contextual)
theorem Shape.railRampDone (island : Nat) : Shape.Statement (.railRampDone island) := ranged (b := decide (island < 16)) (l := [(island, 16)]) (by simp +contextual)
theorem Shape.clockStepDone (island : Nat) : Shape.Statement (.clockStepDone island) := ranged (b := decide (island < 16)) (l := [(island, 16)]) (by simp +contextual)
theorem Shape.corrEventSample (island : Nat) : Shape.Statement (.corrEventSample island) := ranged (b := decide (island < 19)) (l := [(island, 19)]) (by simp +contextual)
theorem Shape.corrPeriodicSample : Shape.Statement .corrPeriodicSample := ranged (b := true) (l := []) (by simp +contextual)
theorem Shape.corrReq : Shape.Statement .corrReq := ranged (b := true) (l := []) (by simp +contextual)
theorem Shape.corrPeriodRestart (w : Word) : Shape.Statement (.corrPeriodRestart w) := ranged (b := true) (l := []) (by simp +contextual)
theorem Shape.droopAssert (island : Nat) : Shape.Statement (.droopAssert island) := ranged (b := decide (island < 16)) (l := [(island, 16)]) (by simp +contextual)
theorem Shape.droopClear (island : Nat) : Shape.Statement (.droopClear island) := ranged (b := decide (island < 16)) (l := [(island, 16)]) (by simp +contextual)
theorem Shape.droopLong (island : Nat) : Shape.Statement (.droopLong island) := ranged (b := decide (island < 16)) (l := [(island, 16)]) (by simp +contextual)
theorem Shape.supplyWarning (supply mv : Nat) : Shape.Statement (.supplyWarning supply mv) := ranged (b := decide (supply < 19)) (l := [(supply, 19)]) (by simp +contextual)
theorem Shape.supplyRelease (supply lowest : Nat) : Shape.Statement (.supplyRelease supply lowest) := ranged (b := decide (supply < 19)) (l := [(supply, 19)]) (by simp +contextual)
theorem Shape.busUndervoltage (mv : Nat) : Shape.Statement (.busUndervoltage mv) := ranged (b := true) (l := []) (by simp +contextual)
theorem Shape.railResetTrip (supply : Nat) : Shape.Statement (.railResetTrip supply) := ranged (b := decide (supply < 19)) (l := [(supply, 19)]) (by simp +contextual)
theorem Shape.powerTrip (cause : Nat) : Shape.Statement (.powerTrip cause) := ranged (b := decide (1 ≤ cause ∧ cause ≤ 3)) (l := []) (by simp +contextual)
theorem Shape.thermalCapFall (island temp : Nat) : Shape.Statement (.thermalCapFall island temp) := ranged (b := decide (island < 16)) (l := [(island, 16)]) (by simp +contextual)
theorem Shape.thermalCapRise (island temp : Nat) : Shape.Statement (.thermalCapRise island temp) := ranged (b := decide (island < 16)) (l := [(island, 16)]) (by simp +contextual)
theorem Shape.thermtrip (island temp : Nat) : Shape.Statement (.thermtrip island temp) := ranged (b := decide (island < 16)) (l := [(island, 16)]) (by simp +contextual)
theorem Shape.wearGaugeReading (domain need agreeHours : Nat) : Shape.Statement (.wearGaugeReading domain need agreeHours) := ranged (b := decide (domain < 18)) (l := [(domain, 18)]) (by simp +contextual)
theorem Shape.hoursUpdate : Shape.Statement .hoursUpdate := ranged (b := true) (l := []) (by simp +contextual)
theorem Shape.forerunnerRefresh : Shape.Statement .forerunnerRefresh := ranged (b := true) (l := []) (by simp +contextual)
theorem Shape.cfgSweepStart : Shape.Statement .cfgSweepStart := ranged (b := true) (l := []) (by simp +contextual)
theorem Shape.cfgSweepEnd : Shape.Statement .cfgSweepEnd := ranged (b := true) (l := []) (by simp +contextual)
theorem Shape.cfgchkCommit : Shape.Statement .cfgchkCommit := ranged (b := true) (l := []) (by simp +contextual)
theorem Shape.cfgchkCapture : Shape.Statement .cfgchkCapture := ranged (b := true) (l := []) (by simp +contextual)
theorem Shape.cfgchkEn (v : Bool) : Shape.Statement (.cfgchkEn v) := ranged (b := true) (l := []) (by simp +contextual)
theorem Shape.homClrOwn (home : Nat) : Shape.Statement (.homClrOwn home) := ranged (b := decide (home < 64)) (l := [(home, 64)]) (by simp +contextual)
theorem Shape.homClrOth (home : Nat) : Shape.Statement (.homClrOth home) := ranged (b := decide (home < 64)) (l := [(home, 64)]) (by simp +contextual)
theorem Shape.cpyRestart (chan : Nat) (resume : Bool) : Shape.Statement (.cpyRestart chan resume) := ranged (b := decide (chan < 128)) (l := [(chan, 128)]) (by simp +contextual)
theorem Shape.cpyStream (chan : Nat) (v : Bool) : Shape.Statement (.cpyStream chan v) := ranged (b := decide (chan < 128)) (l := [(chan, 128)]) (by simp +contextual)
theorem Shape.cpyMaxbuf (chan v : Nat) : Shape.Statement (.cpyMaxbuf chan v) := ranged (b := decide (chan < 128) && decide (v < 512)) (l := [(chan, 128), (v, 512)]) (by simp +contextual)
theorem Shape.rgnPwrOff (off : BitVec 16) : Shape.Statement (.rgnPwrOff off) := ranged (b := true) (l := []) (by simp +contextual)
theorem Shape.regionPowerDown (island : Nat) : Shape.Statement (.regionPowerDown island) := ranged (b := decide (island < 16)) (l := [(island, 16)]) (by simp +contextual)
theorem Shape.regionPowerUp (island : Nat) : Shape.Statement (.regionPowerUp island) := ranged (b := decide (island < 16)) (l := [(island, 16)]) (by simp +contextual)
theorem Shape.mgmtqEnable (v : Bool) : Shape.Statement (.mgmtqEnable v) := ranged (b := true) (l := []) (by simp +contextual)
theorem Shape.errLogClear : Shape.Statement .errLogClear := ranged (b := true) (l := []) (by simp +contextual)
theorem Shape.cmpDbgDataAccess (core : Nat) (write : Option Word) : Shape.Statement (.cmpDbgDataAccess core write) := ranged (b := decide (core < 576)) (l := [(core, 576)]) (by simp +contextual)
theorem Shape.pwrLimitWrite (w : BitVec 32) : Shape.Statement (.pwrLimitWrite w) := ranged (b := true) (l := []) (by simp +contextual)
theorem Shape.fabQosWtWrite (die : Nat) (w : BitVec 32) : Shape.Statement (.fabQosWtWrite die w) := ranged (b := decide (die < 2)) (l := [(die, 2)]) (by simp +contextual)
theorem Shape.registerWrite (off size : Nat) (v : Word) : Shape.Statement (.registerWrite off size v) := ranged (b := decide (off < 2 ^ 26)) (l := []) (by simp +contextual)
theorem Shape.readClear (off size : Nat) : Shape.Statement (.readClear off size) := ranged (b := decide (off < 2 ^ 26)) (l := []) (by simp +contextual)
theorem Shape.registerAccessTimeout (off size : Nat) (write : Option Word) : Shape.Statement (.registerAccessTimeout off size write) := ranged (b := decide (off < 2 ^ 26)) (l := []) (by simp +contextual)
theorem Shape.status (payload : Bytes) (crc : BitVec 32) : Shape.Statement (.status payload crc) := ranged (b := decide (payload.length ≤ 256)) (l := []) (by simp +contextual)
theorem Shape.eventRead (payload : Bytes) (crc : BitVec 32) : Shape.Statement (.eventRead payload crc) := ranged (b := decide (payload.length ≤ 256)) (l := []) (by simp +contextual)
theorem Shape.logRead (payload : Bytes) (crc : BitVec 32) : Shape.Statement (.logRead payload crc) := ranged (b := decide (payload.length ≤ 256)) (l := []) (by simp +contextual)
theorem Shape.setPkgId (payload : Bytes) (crc : BitVec 32) : Shape.Statement (.setPkgId payload crc) := ranged (b := decide (payload.length ≤ 256)) (l := []) (by simp +contextual)
theorem Shape.groupTotal (payload : Bytes) (crc : BitVec 32) : Shape.Statement (.groupTotal payload crc) := ranged (b := decide (payload.length ≤ 256)) (l := []) (by simp +contextual)
theorem Shape.wake (payload : Bytes) (crc : BitVec 32) : Shape.Statement (.wake payload crc) := ranged (b := decide (payload.length ≤ 256)) (l := []) (by simp +contextual)
theorem Shape.calRead (payload : Bytes) (crc : BitVec 32) : Shape.Statement (.calRead payload crc) := ranged (b := decide (payload.length ≤ 256)) (l := []) (by simp +contextual)
theorem Shape.calWrite (payload : Bytes) (crc : BitVec 32) : Shape.Statement (.calWrite payload crc) := ranged (b := decide (payload.length ≤ 256)) (l := []) (by simp +contextual)
theorem Shape.imgBegin (payload : Bytes) (crc : BitVec 32) : Shape.Statement (.imgBegin payload crc) := ranged (b := decide (payload.length ≤ 256)) (l := []) (by simp +contextual)
theorem Shape.imgData (payload : Bytes) (crc : BitVec 32) : Shape.Statement (.imgData payload crc) := ranged (b := decide (payload.length ≤ 256)) (l := []) (by simp +contextual)
theorem Shape.imgEnd (payload : Bytes) (crc : BitVec 32) : Shape.Statement (.imgEnd payload crc) := ranged (b := decide (payload.length ≤ 256)) (l := []) (by simp +contextual)
theorem Shape.flashWriteDone : Shape.Statement .flashWriteDone := ranged (b := true) (l := []) (by simp +contextual)
theorem Shape.auxPowerOn (claspRecovery : Bool) : Shape.Statement (.auxPowerOn claspRecovery) := ranged (b := true) (l := []) (by simp +contextual)
theorem Shape.auxPowerLoss : Shape.Statement .auxPowerLoss := ranged (b := true) (l := []) (by simp +contextual)
theorem Shape.imageVerified : Shape.Statement .imageVerified := ranged (b := true) (l := []) (by simp +contextual)
theorem Shape.pwrgoodAssert (busMv : Nat) : Shape.Statement (.pwrgoodAssert busMv) := ranged (b := true) (l := []) (by simp +contextual)
theorem Shape.railsUp : Shape.Statement .railsUp := ranged (b := true) (l := []) (by simp +contextual)
theorem Shape.hbmTrained : Shape.Statement .hbmTrained := ranged (b := true) (l := []) (by simp +contextual)
theorem Shape.stitchLinkTrained (link lanes : Nat) : Shape.Statement (.stitchLinkTrained link lanes) := ranged (b := decide (link < 12)) (l := [(link, 12)]) (by simp +contextual)
theorem Shape.stitchWaitTimeout : Shape.Statement .stitchWaitTimeout := ranged (b := true) (l := []) (by simp +contextual)
theorem Shape.selfTestComplete (failDies failCore failMem : List Nat) (hubOk : Bool) : Shape.Statement (.selfTestComplete failDies failCore failMem hubOk) := ranged (b := true) (l := []) (by simp +contextual)
theorem Shape.stitchLinkReinit (link : Nat) : Shape.Statement (.stitchLinkReinit link) := ranged (b := decide (link < 12)) (l := [(link, 12)]) (by simp +contextual)
theorem Shape.prbData (slice line : Nat) : Shape.Statement (.prbData slice line) := ranged (b := decide (slice < 128) && decide (line % 64 = 0)) (l := [(slice, 128)]) (by simp +contextual)
theorem Shape.cxlCacheCompletion (req : Nat) (err : Bool) (data : Bytes) : Shape.Statement (.cxlCacheCompletion req err data) := ranged (b := true) (l := []) (by simp +contextual)
theorem Shape.hostFenceWordSnoop (addr : Nat) (value : Word) : Shape.Statement (.hostFenceWordSnoop addr value) := ranged (b := decide (addr % 8 = 0)) (l := []) (by simp +contextual)
theorem Shape.eventRingConsumed (ring count : Nat) : Shape.Statement (.eventRingConsumed ring count) := ranged (b := decide (ring < 1024)) (l := [(ring, 1024)]) (by simp +contextual)
theorem Shape.folioResetDrainExpiry (folio : Nat) : Shape.Statement (.folioResetDrainExpiry folio) := ranged (b := decide (folio < 64)) (l := [(folio, 64)]) (by simp +contextual)
theorem Shape.uncorrectableUnitError (unit code loc addr : Nat) (fatal : Bool) : Shape.Statement (.uncorrectableUnitError unit code loc addr fatal) := ranged (b := decide (unit < 11) && decide (code < 256)) (l := [(unit, 11), (code, 256)]) (by simp +contextual)
theorem Shape.dynamicAddressAssign (addr : Nat) : Shape.Statement (.dynamicAddressAssign addr) := ranged (b := decide (addr < 128)) (l := [(addr, 128)]) (by simp +contextual)

end

end Sys2Proof.Laws
end

