-- ==== Sys2Proof/Laws/Registers.lean ====
section
/-! SUPPORT. Sys2Proof/Laws/Registers.lean: what a field of a register reads after a write of it or of another field. -/

namespace Sys2Proof.Machine

theorem bits_eq (n lo w : Nat) : bits n lo w = n / 2 ^ lo % 2 ^ w := by simp [bits, Nat.shiftRight_eq_div_pow]

/-- A number, cut below, in and above a field. -/
theorem bits_split (n lo w : Nat) : n = n % 2 ^ lo + 2 ^ lo * (bits n lo w + 2 ^ w * (n / 2 ^ lo / 2 ^ w)) := by
  rw [bits_eq]
  have h1 := Nat.mod_add_div n (2 ^ lo)
  have h2 := Nat.mod_add_div (n / 2 ^ lo) (2 ^ w)
  rw [h2]; exact h1.symm

theorem setBits_eq (n lo w v : Nat) : setBits n lo w v = n % 2 ^ lo + 2 ^ lo * (v % 2 ^ w + 2 ^ w * (n / 2 ^ lo / 2 ^ w)) := by
  unfold setBits
  have h := bits_split n lo w
  have h2 : n - bits n lo w * 2 ^ lo = n % 2 ^ lo + 2 ^ lo * (2 ^ w * (n / 2 ^ lo / 2 ^ w)) := by
    apply Nat.sub_eq_of_eq_add
    conv_lhs => rw [h]
    ring
  rw [h2]; ring

theorem bits_setBits_self (n lo w v : Nat) : bits (setBits n lo w v) lo w = v % 2 ^ w := by
  rw [setBits_eq, bits_eq, Nat.add_mul_div_left _ _ (by positivity), Nat.div_eq_of_lt (Nat.mod_lt _ (by positivity)), Nat.zero_add,
    Nat.add_mul_mod_self_left, Nat.mod_mod]

theorem testBit_bits (n lo w i : Nat) : (bits n lo w).testBit i = (decide (i < w) && n.testBit (lo + i)) := by
  rw [bits_eq, Nat.testBit_mod_two_pow, Nat.testBit_div_two_pow, Nat.add_comm]

theorem testBit_setBits (n lo w v i : Nat) :
    (setBits n lo w v).testBit i = if i < lo then n.testBit i else if i < lo + w then v.testBit (i - lo) else n.testBit i := by
  rw [setBits_eq, Nat.add_comm, Nat.testBit_two_pow_mul_add _ (Nat.mod_lt _ (by positivity))]
  split_ifs with h1 h2
  · rw [Nat.testBit_mod_two_pow]; simp [h1]
  · rw [Nat.add_comm, Nat.testBit_two_pow_mul_add _ (Nat.mod_lt _ (by positivity)), if_pos (by omega), Nat.testBit_mod_two_pow]; simp; omega
  · rw [Nat.add_comm, Nat.testBit_two_pow_mul_add _ (Nat.mod_lt _ (by positivity)), if_neg (by omega), Nat.testBit_div_two_pow,
      Nat.testBit_div_two_pow]; congr 1; omega

/-- A field that does not overlap the written one stands. -/
theorem bits_setBits_ne {n lo w v a k : Nat} (h : a + k ≤ lo ∨ lo + w ≤ a) : bits (setBits n lo w v) a k = bits n a k := by
  apply Nat.eq_of_testBit_eq; intro i
  rw [testBit_bits, testBit_bits, testBit_setBits]
  by_cases hi : i < k
  · rcases h with h | h
    · rw [if_pos (by omega)]
    · split_ifs <;> first | rfl | omega
  · simp [hi]

theorem bits_mod {n lo w : Nat} (h : lo + w ≤ 64) : bits (n % 2 ^ 64) lo w = bits n lo w := by
  apply Nat.eq_of_testBit_eq; intro i
  rw [testBit_bits, testBit_bits, Nat.testBit_mod_two_pow]
  by_cases hi : i < w
  · simp [show lo + i < 64 by omega]
  · simp [hi]

variable (s : State)

/-- A field reads as it was written. -/
theorem State.fld_setFld_self {c lo wd : Nat} (h : lo + wd ≤ 64) (v : Nat) : (s.setFld c lo wd v).fld c lo wd = v % 2 ^ wd := by
  unfold State.fld State.setFld; rw [State.reg_setReg_self, bits_mod h, bits_setBits_self]

theorem State.fld_setFld_ne {c lo wd a k : Nat} (hk : a + k ≤ 64) (h : a + k ≤ lo ∨ lo + wd ≤ a) (v : Nat) :
    (s.setFld c lo wd v).fld c a k = s.fld c a k := by
  unfold State.fld State.setFld; rw [State.reg_setReg_self, bits_mod hk, bits_setBits_ne h]

theorem State.fld_setFld_other {c d : Nat} (h : d ≠ c) (lo wd v a k : Nat) : (s.setFld c lo wd v).fld d a k = s.fld d a k := by
  unfold State.fld; rw [State.reg_setFld_ne s h]

@[simp] theorem State.fld_voidSweep (c lo wd : Nat) : s.voidSweep.fld c lo wd = s.fld c lo wd := by unfold State.fld; simp

theorem State.fld_writeFld_self {c lo wd : Nat} (h : lo + wd ≤ 64) (v : Nat) : (s.writeFld c lo wd v).fld c lo wd = v % 2 ^ wd := by
  unfold State.writeFld; rw [State.fld_voidSweep, State.fld_setFld_self s h]

/-- A register write touches registers alone. -/
theorem onlyRegs_writeFld (c lo wd v : Nat) : OnlyRegs s (s.writeFld c lo wd v) := by
  unfold OnlyRegs State.writeFld State.voidSweep; split_ifs <;> rfl

end Sys2Proof.Machine
end

