-- ==== Sys2Proof/Laws/Steady.lean ====
section
/-! SUPPORT. Sys2Proof/Laws/Steady.lean: what every operation keeps: the queue of commands, the fuses, the memories' canonical form, what has been sent. -/

namespace Sys2Proof.Machine

/-- From `s` to `t` the queue of waiting commands stands, the fuses are kept, the memories stay in canonical form, and nothing that
has left the part is taken back. -/
structure Steady (s t : State) : Prop where
  pending : t.pending = s.pending
  fuses : FusesKept s t
  memory : MemoryOk s → MemoryOk t
  out : s.out <+: t.out

/-- An outcome is a next state, reached steadily. -/
def Answers (s : State) (o : Host.Outcome State Fault Refusal) : Prop := ∃ t, o = .next t ∧ Steady s t

theorem Steady.rfl' (s : State) : Steady s s := ⟨rfl, ⟨rfl, rfl, rfl, Nat.le_refl _⟩, fun h => h, List.prefix_rfl⟩

theorem Steady.trans {s t u : State} (h : Steady s t) (g : Steady t u) : Steady s u :=
  ⟨g.pending.trans h.pending, ⟨g.fuses.1.trans h.fuses.1, g.fuses.2.1.trans h.fuses.2.1, g.fuses.2.2.1.trans h.fuses.2.2.1,
    Nat.le_trans h.fuses.2.2.2 g.fuses.2.2.2⟩, fun m => g.memory (h.memory m), h.out.trans g.out⟩

/-- A change of fields that `Steady` does not speak of. -/
theorem Steady.upd {s t u : State} (h : Steady s t) (e1 : u.pending = t.pending) (e2 : u.fuses = t.fuses) (e3 : u.clasp.lc = t.clasp.lc)
    (e4 : u.clasp.confEn = t.clasp.confEn) (e5 : u.clasp.fuseSvn = t.clasp.fuseSvn) (e6 : u.hbm = t.hbm) (e7 : u.host = t.host)
    (e8 : u.out = t.out) : Steady s u :=
  h.trans ⟨e1, ⟨e2, e3, e4, e5 ▸ Nat.le_refl _⟩, fun m => by simpa [MemoryOk, e6, e7] using m, e8 ▸ List.prefix_rfl⟩

/-- A change of device memory beside fields that `Steady` does not speak of. -/
theorem Steady.hbm {s t u : State} (h : Steady s t) (e6 : Memory.wf t.hbm = true → Memory.wf u.hbm = true) (e1 : u.pending = t.pending) (e2 : u.fuses = t.fuses)
    (e3 : u.clasp = t.clasp) (e7 : u.host = t.host) (e8 : u.out = t.out) : Steady s u :=
  h.trans ⟨e1, ⟨e2, by rw [e3], by rw [e3], by rw [e3]⟩, fun m => ⟨e6 m.1, e7 ▸ m.2⟩, e8 ▸ List.prefix_rfl⟩

/-- A change of host memory beside fields that `Steady` does not speak of. -/
theorem Steady.host {s t u : State} (h : Steady s t) (e6 : Memory.wf t.host = true → Memory.wf u.host = true) (e1 : u.pending = t.pending) (e2 : u.fuses = t.fuses)
    (e3 : u.clasp = t.clasp) (e7 : u.hbm = t.hbm) (e8 : u.out = t.out) : Steady s u :=
  h.trans ⟨e1, ⟨e2, by rw [e3], by rw [e3], by rw [e3]⟩, fun m => ⟨e7 ▸ m.1, e6 m.2⟩, e8 ▸ List.prefix_rfl⟩

theorem Steady.snd {α : Type} {s t : State} {a : α} {x : α × State} (e : x = (a, t)) (h : Steady s x.2) : Steady s t := by
  subst e; exact h

theorem Steady.snd2 {α β : Type} {s t : State} {a : α} {b : β} {x : α × β × State} (e : x = (a, b, t)) (h : Steady s x.2.2) : Steady s t := by
  subst e; exact h

theorem Answers.next {s t : State} (h : Steady s t) : Answers s (.next t) := ⟨t, rfl, h⟩

theorem foldS_steady {β : Type} {s0 s : State} (h : Steady s0 s) (l : List β) (f : State → β → State)
    (hf : ∀ st a, Steady s0 st → Steady s0 (f st a)) : Steady s0 (foldS l s f) := by
  unfold foldS
  induction l generalizing s with
  | nil => exact h
  | cons a l ih => exact ih (hf _ _ h)

/-- `Steady.upd` read off a state written out. -/
theorem Steady.of {s t : State} {pending_ : List Instr} {free_ : Nat} {hubCount_ : Nat} {regs_ : Tbl Word} {hbm_ : List Host.Cell} {host_ : List
    Host.Cell} {poison_ : List Nat} {tags_ : Tbl Word} {frames_ : Tbl Word} {regions_ : Tbl Region} {fabrics_ : Tbl Fabric} {spine_ : Tbl Lane3}
    {spineFailed_ : Bool} {cores_ : Tbl Core} {caches_ : Tbl Cache} {homes_ : Tbl Home} {hostHome_ : Home} {hostLines_ : Tbl CLine} {hubWatch_ : List
    WatchEntry} {booksAt_ : Nat} {foreAt_ : Nat} {reqs_ : Tbl Req} {nextId_ : Nat} {offers_ : Tbl Offer} {updates_ : Tbl SgUpdate} {bars_ : Tbl
    BarMsg} {sifts_ : Tbl SiftReq} {units_ : Tbl SiftUnit} {walks_ : Tbl Walk} {walkers_ : Tbl Walker} {hubTlb_ : List TlbEntry} {cpyTlb_ : Tbl (List
    TlbEntry)} {chans_ : Tbl Chan} {ctxs_ : Tbl Context} {folios_ : Tbl Folio} {coreSl_ : Tbl SliceE} {memSl_ : Tbl SliceE} {linkSl_ : Tbl SliceE}
    {prots_ : List ProtSet} {links_ : Tbl Link} {queues_ : Tbl Queue} {evrings_ : Tbl EvRing} {refSubs_ : Tbl RefSub} {lastRefs_ : Tbl (List (Nat ×
    Nat))} {cyclic_ : Cyclic} {corrSeq_ : Nat} {corrFrom_ : Nat} {corrDue_ : List (Nat × Nat)} {cfg_ : CfgChk} {power_ : PowerCtl} {net_ : Net}
    {rounds_ : Tbl Round} {urgency_ : Tbl Nat} {urgSince_ : Tbl Nat} {urgNoted_ : List Nat} {clasp_ : Clasp} {link_ : HostLink} {fuses_ : Fuses}
    {capState_ : Nat} {capGen_ : Nat} {fore_ : Tbl Bytes} {standby_ : Option (Tbl Word)} {peerLost_ : Tbl Nat} {kept_ : Option (List Nat × List Nat ×
    Option Nat)} {darkNoted_ : Tbl Nat} {out_ : List Out} (h : Steady s t) (e1 : pending_ = t.pending) (e2 : fuses_ = t.fuses) (e6 : hbm_ = t.hbm)
    (e7 : host_ = t.host) (e8 : out_ = t.out) (e3 : clasp_.lc = t.clasp.lc) (e4 : clasp_.confEn = t.clasp.confEn) (e5 : clasp_.fuseSvn =
    t.clasp.fuseSvn) : Steady s ⟨pending_, free_, hubCount_, regs_, hbm_, host_, poison_, tags_, frames_, regions_, fabrics_, spine_, spineFailed_,
    cores_, caches_, homes_, hostHome_, hostLines_, hubWatch_, booksAt_, foreAt_, reqs_, nextId_, offers_, updates_, bars_, sifts_, units_, walks_,
    walkers_, hubTlb_, cpyTlb_, chans_, ctxs_, folios_, coreSl_, memSl_, linkSl_, prots_, links_, queues_, evrings_, refSubs_, lastRefs_, cyclic_,
    corrSeq_, corrFrom_, corrDue_, cfg_, power_, net_, rounds_, urgency_, urgSince_, urgNoted_, clasp_, link_, fuses_, capState_, capGen_, fore_,
    standby_, peerLost_, kept_, darkNoted_, out_⟩ :=
  Steady.upd h e1 e2 e3 e4 e5 e6 e7 e8

/-- The same for a state whose memories change. -/
theorem Steady.ofMem {s t : State} {pending_ : List Instr} {free_ : Nat} {hubCount_ : Nat} {regs_ : Tbl Word} {hbm_ : List Host.Cell} {host_ :
    List Host.Cell} {poison_ : List Nat} {tags_ : Tbl Word} {frames_ : Tbl Word} {regions_ : Tbl Region} {fabrics_ : Tbl Fabric} {spine_ : Tbl Lane3}
    {spineFailed_ : Bool} {cores_ : Tbl Core} {caches_ : Tbl Cache} {homes_ : Tbl Home} {hostHome_ : Home} {hostLines_ : Tbl CLine} {hubWatch_ : List
    WatchEntry} {booksAt_ : Nat} {foreAt_ : Nat} {reqs_ : Tbl Req} {nextId_ : Nat} {offers_ : Tbl Offer} {updates_ : Tbl SgUpdate} {bars_ : Tbl
    BarMsg} {sifts_ : Tbl SiftReq} {units_ : Tbl SiftUnit} {walks_ : Tbl Walk} {walkers_ : Tbl Walker} {hubTlb_ : List TlbEntry} {cpyTlb_ : Tbl (List
    TlbEntry)} {chans_ : Tbl Chan} {ctxs_ : Tbl Context} {folios_ : Tbl Folio} {coreSl_ : Tbl SliceE} {memSl_ : Tbl SliceE} {linkSl_ : Tbl SliceE}
    {prots_ : List ProtSet} {links_ : Tbl Link} {queues_ : Tbl Queue} {evrings_ : Tbl EvRing} {refSubs_ : Tbl RefSub} {lastRefs_ : Tbl (List (Nat ×
    Nat))} {cyclic_ : Cyclic} {corrSeq_ : Nat} {corrFrom_ : Nat} {corrDue_ : List (Nat × Nat)} {cfg_ : CfgChk} {power_ : PowerCtl} {net_ : Net}
    {rounds_ : Tbl Round} {urgency_ : Tbl Nat} {urgSince_ : Tbl Nat} {urgNoted_ : List Nat} {clasp_ : Clasp} {link_ : HostLink} {fuses_ : Fuses}
    {capState_ : Nat} {capGen_ : Nat} {fore_ : Tbl Bytes} {standby_ : Option (Tbl Word)} {peerLost_ : Tbl Nat} {kept_ : Option (List Nat × List Nat ×
    Option Nat)} {darkNoted_ : Tbl Nat} {out_ : List Out} (h : Steady s t) (e1 : pending_ = t.pending) (e2 : fuses_ = t.fuses) (e8 : out_ = t.out)
    (e3 : clasp_.lc = t.clasp.lc) (e4 : clasp_.confEn = t.clasp.confEn) (e5 : clasp_.fuseSvn = t.clasp.fuseSvn) (e6 : Memory.wf t.hbm = true →
    Memory.wf hbm_ = true) (e7 : Memory.wf t.host = true → Memory.wf host_ = true) : Steady s ⟨pending_, free_, hubCount_, regs_, hbm_, host_,
    poison_, tags_, frames_, regions_, fabrics_, spine_, spineFailed_, cores_, caches_, homes_, hostHome_, hostLines_, hubWatch_, booksAt_, foreAt_,
    reqs_, nextId_, offers_, updates_, bars_, sifts_, units_, walks_, walkers_, hubTlb_, cpyTlb_, chans_, ctxs_, folios_, coreSl_, memSl_, linkSl_,
    prots_, links_, queues_, evrings_, refSubs_, lastRefs_, cyclic_, corrSeq_, corrFrom_, corrDue_, cfg_, power_, net_, rounds_, urgency_, urgSince_,
    urgNoted_, clasp_, link_, fuses_, capState_, capGen_, fore_, standby_, peerLost_, kept_, darkNoted_, out_⟩ :=
  h.trans ⟨e1, ⟨e2, e3, e4, e5 ▸ Nat.le_refl _⟩, fun m => ⟨e6 m.1, e7 m.2⟩, e8 ▸ List.prefix_rfl⟩

theorem Steady.ite {c : Prop} [Decidable c] {s a b : State} (ha : Steady s a) (hb : Steady s b) : Steady s (if c then a else b) := by
  split <;> assumption

theorem Answers.ite {c : Prop} [Decidable c] {s : State} {a b : Host.Outcome State Fault Refusal} (ha : Answers s a) (hb : Answers s b) :
    Answers s (if c then a else b) := by
  split <;> assumption

/-- What holds of the state in a result that may be an error, `f` and `g` saying where it lies. -/
def OnState {α β : Type} (s0 : State) (f : β → State) (g : α → State) : Except β α → Prop
  | .error e => Steady s0 (f e)
  | .ok a => Steady s0 (g a)

theorem foldl_steady {β : Type} {s0 s : State} {l : List β} {f : State → β → State} (h : Steady s0 s)
    (hf : ∀ st a, Steady s0 st → Steady s0 (f st a)) : Steady s0 (l.foldl f s) := foldS_steady h l f hf

end Sys2Proof.Machine
end

