-- ==== Sys2Proof/Laws/SteadyOps.lean ====
section
/-! SUPPORT. Sys2Proof/Laws/SteadyOps.lean: each operation is steady (Laws/Steady.lean): the operations over State, registers, memory and the hub. -/

namespace Sys2Proof.Machine

theorem State.setCore_steady {s0 s : State} (h : Steady s0 s) (c : Nat) (v : Core) :
    Steady s0 (s.setCore c v) := by
  unfold State.setCore; repeat' first
    | intro _ | with_reducible assumption | with_reducible apply Steady.ite
    | (fail_if_no_progress (with_reducible (refine Steady.of ?_ rfl rfl rfl rfl rfl rfl rfl rfl)))

theorem State.setSlot_steady {s0 s : State} (h : Steady s0 s) (c : Nat) (k : Nat) (v : Slot) :
    Steady s0 (s.setSlot c k v) := by
  unfold State.setSlot; repeat' first
    | intro _ | with_reducible assumption | with_reducible apply State.setCore_steady

theorem State.setCache_steady {s0 s : State} (h : Steady s0 s) (n : Nat) (v : Cache) :
    Steady s0 (s.setCache n v) := by
  unfold State.setCache; repeat' first
    | intro _ | with_reducible assumption | with_reducible apply Steady.ite
    | (fail_if_no_progress (with_reducible (refine Steady.of ?_ rfl rfl rfl rfl rfl rfl rfl rfl)))

theorem State.setHome_steady {s0 s : State} (h : Steady s0 s) (h : Nat) (v : Home) :
    Steady s0 (s.setHome h v) := by
  unfold State.setHome; repeat' first
    | intro _ | with_reducible assumption | with_reducible apply Steady.ite
    | (fail_if_no_progress (with_reducible (refine Steady.of ?_ rfl rfl rfl rfl rfl rfl rfl rfl)))

theorem State.setRegion_steady {s0 s : State} (h : Steady s0 s) (i : Nat) (v : Region) :
    Steady s0 (s.setRegion i v) := by
  unfold State.setRegion; repeat' first
    | intro _ | with_reducible assumption | with_reducible apply Steady.ite
    | (fail_if_no_progress (with_reducible (refine Steady.of ?_ rfl rfl rfl rfl rfl rfl rfl rfl)))

theorem State.setFabric_steady {s0 s : State} (h : Steady s0 s) (d : Nat) (v : Fabric) :
    Steady s0 (s.setFabric d v) := by
  unfold State.setFabric; repeat' first
    | intro _ | with_reducible assumption | with_reducible apply Steady.ite
    | (fail_if_no_progress (with_reducible (refine Steady.of ?_ rfl rfl rfl rfl rfl rfl rfl rfl)))

theorem State.setCtx_steady {s0 s : State} (h : Steady s0 s) (i : Nat) (v : Context) :
    Steady s0 (s.setCtx i v) := by
  unfold State.setCtx; repeat' first
    | intro _ | with_reducible assumption | with_reducible apply Steady.ite
    | (fail_if_no_progress (with_reducible (refine Steady.of ?_ rfl rfl rfl rfl rfl rfl rfl rfl)))

theorem State.setFolio_steady {s0 s : State} (h : Steady s0 s) (f : Nat) (v : Folio) :
    Steady s0 (s.setFolio f v) := by
  unfold State.setFolio; repeat' first
    | intro _ | with_reducible assumption | with_reducible apply Steady.ite
    | (fail_if_no_progress (with_reducible (refine Steady.of ?_ rfl rfl rfl rfl rfl rfl rfl rfl)))

theorem State.setQueue_steady {s0 s : State} (h : Steady s0 s) (q : Nat) (v : Queue) :
    Steady s0 (s.setQueue q v) := by
  unfold State.setQueue; repeat' first
    | intro _ | with_reducible assumption | with_reducible apply Steady.ite
    | (fail_if_no_progress (with_reducible (refine Steady.of ?_ rfl rfl rfl rfl rfl rfl rfl rfl)))

theorem State.setChan_steady {s0 s : State} (h : Steady s0 s) (c : Nat) (v : Chan) :
    Steady s0 (s.setChan c v) := by
  unfold State.setChan; repeat' first
    | intro _ | with_reducible assumption | with_reducible apply Steady.ite
    | (fail_if_no_progress (with_reducible (refine Steady.of ?_ rfl rfl rfl rfl rfl rfl rfl rfl)))

theorem State.setStitch_steady {s0 s : State} (h : Steady s0 s) (l : Nat) (v : Link) :
    Steady s0 (s.setStitch l v) := by
  unfold State.setStitch; repeat' first
    | intro _ | with_reducible assumption | with_reducible apply Steady.ite
    | (fail_if_no_progress (with_reducible (refine Steady.of ?_ rfl rfl rfl rfl rfl rfl rfl rfl)))

theorem State.setUnit_steady {s0 s : State} (h : Steady s0 s) (u : Nat) (v : SiftUnit) :
    Steady s0 (s.setUnit u v) := by
  unfold State.setUnit; repeat' first
    | intro _ | with_reducible assumption | with_reducible apply Steady.ite
    | (fail_if_no_progress (with_reducible (refine Steady.of ?_ rfl rfl rfl rfl rfl rfl rfl rfl)))

theorem State.setWalker_steady {s0 s : State} (h : Steady s0 s) (d : Nat) (v : Walker) :
    Steady s0 (s.setWalker d v) := by
  unfold State.setWalker; repeat' first
    | intro _ | with_reducible assumption | with_reducible apply Steady.ite
    | (fail_if_no_progress (with_reducible (refine Steady.of ?_ rfl rfl rfl rfl rfl rfl rfl rfl)))

theorem State.setReq_steady {s0 s : State} (h : Steady s0 s) (r : Nat) (v : Req) :
    Steady s0 (s.setReq r v) := by
  unfold State.setReq; repeat' first
    | intro _ | with_reducible assumption | with_reducible apply Steady.ite
    | (fail_if_no_progress (with_reducible (refine Steady.of ?_ rfl rfl rfl rfl rfl rfl rfl rfl)))

theorem State.dropReq_steady {s0 s : State} (h : Steady s0 s) (r : Nat) :
    Steady s0 (s.dropReq r) := by
  unfold State.dropReq; repeat' first
    | intro _ | with_reducible assumption | with_reducible apply Steady.ite
    | (fail_if_no_progress (with_reducible (refine Steady.of ?_ rfl rfl rfl rfl rfl rfl rfl rfl)))

theorem State.setCoreSlice_steady {s0 s : State} (h : Steady s0 s) (n : Nat) (v : SliceE) :
    Steady s0 (s.setCoreSlice n v) := by
  unfold State.setCoreSlice; repeat' first
    | intro _ | with_reducible assumption | with_reducible apply Steady.ite
    | (fail_if_no_progress (with_reducible (refine Steady.of ?_ rfl rfl rfl rfl rfl rfl rfl rfl)))

theorem State.setMemSlice_steady {s0 s : State} (h : Steady s0 s) (n : Nat) (v : SliceE) :
    Steady s0 (s.setMemSlice n v) := by
  unfold State.setMemSlice; repeat' first
    | intro _ | with_reducible assumption | with_reducible apply Steady.ite
    | (fail_if_no_progress (with_reducible (refine Steady.of ?_ rfl rfl rfl rfl rfl rfl rfl rfl)))

theorem State.setLinkSlice_steady {s0 s : State} (h : Steady s0 s) (n : Nat) (v : SliceE) :
    Steady s0 (s.setLinkSlice n v) := by
  unfold State.setLinkSlice; repeat' first
    | intro _ | with_reducible assumption | with_reducible apply Steady.ite
    | (fail_if_no_progress (with_reducible (refine Steady.of ?_ rfl rfl rfl rfl rfl rfl rfl rfl)))

theorem State.setSliceE_steady {s0 s : State} (h : Steady s0 s) (kind : Nat) (n : Nat) (v : SliceE) :
    Steady s0 (s.setSliceE kind n v) := by
  unfold State.setSliceE; repeat' first
    | intro _ | with_reducible assumption | with_reducible apply State.setCoreSlice_steady | with_reducible apply State.setLinkSlice_steady
    | with_reducible apply State.setMemSlice_steady | with_reducible apply Steady.ite

theorem State.addReq_steady {s0 s : State} (h : Steady s0 s) (r : Req) :
    Steady s0 (s.addReq r) := by
  unfold State.addReq; repeat' first
    | intro _ | with_reducible assumption | with_reducible apply Steady.ite
    | (fail_if_no_progress (with_reducible (refine Steady.of ?_ rfl rfl rfl rfl rfl rfl rfl rfl)))

theorem State.bumpId_steady {s0 s : State} (h : Steady s0 s) :
    Steady s0 (s.bumpId) := by
  unfold State.bumpId; repeat' first
    | intro _ | with_reducible assumption | with_reducible apply Steady.ite
    | (fail_if_no_progress (with_reducible (refine Steady.of ?_ rfl rfl rfl rfl rfl rfl rfl rfl)))

theorem State.useFree_steady {s0 s : State} (h : Steady s0 s) :
    Steady s0 (s.useFree) := by
  unfold State.useFree; repeat' first
    | intro _ | with_reducible assumption | with_reducible apply Steady.ite
    | (fail_if_no_progress (with_reducible (refine Steady.of ?_ rfl rfl rfl rfl rfl rfl rfl rfl)))

theorem State.emit_steady {s0 s : State} (h : Steady s0 s) (o : Out) : Steady s0 (s.emit o) :=
  h.trans ⟨rfl, ⟨rfl, rfl, rfl, Nat.le_refl _⟩, fun m => m, List.prefix_append _ _⟩

theorem State.modSlot_steady {s0 s : State} (h : Steady s0 s) (c : Nat) (k : Nat) (f : Slot → Slot) :
    Steady s0 (s.modSlot c k f) := by
  unfold State.modSlot; repeat' first
    | intro _ | with_reducible assumption | with_reducible apply State.setSlot_steady | with_reducible apply Steady.ite
    | (fail_if_no_progress (with_reducible (refine Steady.of ?_ rfl rfl rfl rfl rfl rfl rfl rfl)))
    | with_reducible (refine Steady.snd (by assumption) ?_) | with_reducible (refine Steady.snd2 (by assumption) ?_)
    | with_reducible apply foldl_steady | split

theorem State.modCtx_steady {s0 s : State} (h : Steady s0 s) (i : Nat) (f : Context → Context) :
    Steady s0 (s.modCtx i f) := by
  unfold State.modCtx; repeat' first
    | intro _ | with_reducible assumption | with_reducible apply State.setCtx_steady | with_reducible apply Steady.ite
    | (fail_if_no_progress (with_reducible (refine Steady.of ?_ rfl rfl rfl rfl rfl rfl rfl rfl)))
    | with_reducible (refine Steady.snd (by assumption) ?_) | with_reducible (refine Steady.snd2 (by assumption) ?_)
    | with_reducible apply foldl_steady | split

theorem State.modQueue_steady {s0 s : State} (h : Steady s0 s) (q : Nat) (f : Queue → Queue) :
    Steady s0 (s.modQueue q f) := by
  unfold State.modQueue; repeat' first
    | intro _ | with_reducible assumption | with_reducible apply State.setQueue_steady | with_reducible apply Steady.ite
    | (fail_if_no_progress (with_reducible (refine Steady.of ?_ rfl rfl rfl rfl rfl rfl rfl rfl)))
    | with_reducible (refine Steady.snd (by assumption) ?_) | with_reducible (refine Steady.snd2 (by assumption) ?_)
    | with_reducible apply foldl_steady | split

theorem State.modReq_steady {s0 s : State} (h : Steady s0 s) (r : Nat) (f : Req → Req) :
    Steady s0 (s.modReq r f) := by
  unfold State.modReq; repeat' first
    | intro _ | with_reducible assumption | with_reducible apply State.setReq_steady | with_reducible apply Steady.ite
    | (fail_if_no_progress (with_reducible (refine Steady.of ?_ rfl rfl rfl rfl rfl rfl rfl rfl)))
    | with_reducible (refine Steady.snd (by assumption) ?_) | with_reducible (refine Steady.snd2 (by assumption) ?_)
    | with_reducible apply foldl_steady | split

theorem stay_steady {s0 s : State} (h : Steady s0 s) : Answers s0 (stay s) := Answers.next h

theorem State.setReg_steady {s0 s : State} (h : Steady s0 s) (c : Nat) (v : Nat) :
    Steady s0 (s.setReg c v) := by
  unfold State.setReg; repeat' first
    | intro _ | with_reducible assumption | with_reducible apply Steady.ite
    | (fail_if_no_progress (with_reducible (refine Steady.of ?_ rfl rfl rfl rfl rfl rfl rfl rfl)))

theorem State.setFld_steady {s0 s : State} (h : Steady s0 s) (c : Nat) (lo : Nat) (wd : Nat) (v : Nat) :
    Steady s0 (s.setFld c lo wd v) := by
  unfold State.setFld; repeat' first
    | intro _ | with_reducible assumption | with_reducible apply State.setReg_steady

theorem State.voidSweep_steady {s0 s : State} (h : Steady s0 s) :
    Steady s0 (s.voidSweep) := by
  unfold State.voidSweep; repeat' first
    | intro _ | with_reducible assumption | with_reducible apply Steady.ite
    | (fail_if_no_progress (with_reducible (refine Steady.of ?_ rfl rfl rfl rfl rfl rfl rfl rfl)))

theorem State.writeFld_steady {s0 s : State} (h : Steady s0 s) (c : Nat) (lo : Nat) (wd : Nat) (v : Nat) :
    Steady s0 (s.writeFld c lo wd v) := by
  unfold State.writeFld; repeat' first
    | intro _ | with_reducible assumption | with_reducible apply State.setFld_steady | with_reducible apply State.voidSweep_steady

theorem State.bumpFld_steady {s0 s : State} (h : Steady s0 s) (c : Nat) (lo : Nat) (wd : Nat) (k : Nat) :
    Steady s0 (s.bumpFld c lo wd k) := by
  unfold State.bumpFld; repeat' first
    | intro _ | with_reducible assumption | with_reducible apply State.setFld_steady

theorem State.noteWalk_steady {s0 s : State} (h : Steady s0 s) (die : Nat) (ctx : Nat) (va : Nat) :
    Steady s0 (s.noteWalk die ctx va) := by
  unfold State.noteWalk; repeat' first
    | intro _ | with_reducible assumption | with_reducible apply State.bumpFld_steady | with_reducible apply Steady.ite

theorem State.clearRc_steady {s0 s : State} (h : Steady s0 s) (c : Nat) (mask : Nat) :
    Steady s0 (s.clearRc c mask) := by
  unfold State.clearRc; repeat' first
    | intro _ | with_reducible assumption | with_reducible apply State.setReg_steady

theorem State.setFrame_steady {s0 s : State} (h : Steady s0 s) (m : Nat) (i : Nat) (v : Nat) :
    Steady s0 (s.setFrame m i v) := by
  unfold State.setFrame; repeat' first
    | intro _ | with_reducible assumption | with_reducible apply Steady.ite
    | (fail_if_no_progress (with_reducible (refine Steady.of ?_ rfl rfl rfl rfl rfl rfl rfl rfl)))

theorem State.setFrames_steady {s0 s : State} (h : Steady s0 s) (m : Nat) (f : Nat → Nat) : Steady s0 (s.setFrames m f) :=
  foldS_steady h (List.range 256) _ (fun _ _ g => State.setFrame_steady g _ _ _)

theorem State.send_steady {s0 s : State} (h : Steady s0 s) (p : Packet) :
    Steady s0 (s.send p) := by
  unfold State.send; repeat' first
    | intro _ | with_reducible assumption | with_reducible apply State.setStitch_steady | with_reducible apply State.emit_steady
    | with_reducible apply Steady.ite

theorem State.sendWaiting_steady {s0 s : State} (h : Steady s0 s) (link : Nat) :
    Steady s0 (s.sendWaiting link) := by
  unfold State.sendWaiting; repeat' first
    | intro _ | with_reducible assumption | with_reducible apply State.setStitch_steady | with_reducible apply foldS_steady
    | with_reducible apply State.send_steady

theorem State.mirrorSend_steady {s0 s : State} (h : Steady s0 s) (f : Nat) (pkg : Nat) (q : Nat) (o : Nat) (d : Bytes) (tag : Nat) :
    Steady s0 (s.mirrorSend f pkg q o d tag) := by
  unfold State.mirrorSend; repeat' first
    | intro _ | with_reducible assumption | with_reducible apply foldS_steady | with_reducible apply State.send_steady

theorem State.writeSlice_steady {s0 s : State} (h : Steady s0 s) (m : Nat) (o : Nat) (d : Bytes) (tag : optParam Nat 65534) :
    Steady s0 (s.writeSlice m o d tag) := by
  unfold State.writeSlice; repeat' first
    | intro _ | with_reducible assumption | with_reducible apply State.mirrorSend_steady | with_reducible apply Steady.ite
    | (fail_if_no_progress (with_reducible (refine Steady.of ?_ rfl rfl rfl rfl rfl rfl rfl rfl)))
    | with_reducible (refine Steady.snd (by assumption) ?_) | with_reducible (refine Steady.snd2 (by assumption) ?_)
    | with_reducible apply foldl_steady | split | dsimp only
    | (with_reducible refine Steady.ofMem ?_ rfl rfl rfl rfl rfl rfl ?_ ?_) <;> [skip; (intro hm; repeat' first | exact hm | apply wf_mwrite | apply wf_mzero | apply wf_filter | exact wf_nil); (intro hm; repeat' first | exact hm | apply wf_mwrite)]

theorem State.heal_steady {s0 s : State} (h : Steady s0 s) (pa : Nat) (n : Nat) :
    Steady s0 (s.heal pa n) := by
  unfold State.heal; repeat' first
    | intro _ | with_reducible assumption | with_reducible apply Steady.ite
    | (fail_if_no_progress (with_reducible (refine Steady.of ?_ rfl rfl rfl rfl rfl rfl rfl rfl)))

theorem State.rawWrite_steady {s0 s : State} (h : Steady s0 s) (pa : Nat) (d : Bytes) (tag : optParam Nat 65534) :
    Steady s0 (s.rawWrite pa d tag).2 := by
  unfold State.rawWrite; repeat' first
    | intro _ | with_reducible assumption | with_reducible apply State.heal_steady | with_reducible apply State.writeSlice_steady
    | with_reducible apply Steady.ite | (fail_if_no_progress (with_reducible (refine Steady.of ?_ rfl rfl rfl rfl rfl rfl rfl rfl)))
    | with_reducible (refine Steady.snd (by assumption) ?_) | with_reducible (refine Steady.snd2 (by assumption) ?_)
    | with_reducible apply foldl_steady | split

theorem State.atsFill_steady {s0 s : State} (h : Steady s0 s) (fn : Nat) (pa : Nat) :
    Steady s0 (s.atsFill fn pa) := by
  unfold State.atsFill; repeat' first
    | intro _ | with_reducible assumption | with_reducible apply Steady.ite
    | (fail_if_no_progress (with_reducible (refine Steady.of ?_ rfl rfl rfl rfl rfl rfl rfl rfl)))
    | with_reducible (refine Steady.snd (by assumption) ?_) | with_reducible (refine Steady.snd2 (by assumption) ?_)
    | with_reducible apply foldl_steady | split

theorem State.dropLine_steady {s0 s : State} (h : Steady s0 s) (line : Nat) :
    Steady s0 (s.dropLine line) := by
  unfold State.dropLine; repeat' first
    | intro _ | with_reducible assumption | with_reducible apply State.setHome_steady | with_reducible apply Steady.ite
    | (fail_if_no_progress (with_reducible (refine Steady.of ?_ rfl rfl rfl rfl rfl rfl rfl rfl)))
    | with_reducible (refine Steady.snd (by assumption) ?_) | with_reducible (refine Steady.snd2 (by assumption) ?_)
    | with_reducible apply foldl_steady | split | dsimp only

theorem State.patchCopies_steady {s0 s : State} (h : Steady s0 s) (line : Nat) (o : Nat) (d : Bytes) :
    Steady s0 (s.patchCopies line o d) := by
  unfold State.patchCopies; repeat' first
    | intro _ | with_reducible assumption | with_reducible apply Steady.ite
    | (fail_if_no_progress (with_reducible (refine Steady.of ?_ rfl rfl rfl rfl rfl rfl rfl rfl)))

theorem State.putLine_steady {s0 s : State} (h : Steady s0 s) (pa : Nat) (d : Bytes) (tag : optParam Nat 65534) :
    Steady s0 (s.putLine pa d tag).2 := by
  unfold State.putLine; repeat' first
    | intro _ | with_reducible assumption | with_reducible apply State.rawWrite_steady | with_reducible apply State.dropLine_steady
    | with_reducible apply State.patchCopies_steady | with_reducible apply Steady.ite
    | (fail_if_no_progress (with_reducible (refine Steady.of ?_ rfl rfl rfl rfl rfl rfl rfl rfl)))
    | with_reducible (refine Steady.snd (by assumption) ?_) | with_reducible (refine Steady.snd2 (by assumption) ?_)
    | with_reducible apply foldl_steady | split | dsimp only
    | (with_reducible refine Steady.ofMem ?_ rfl rfl rfl rfl rfl rfl ?_ ?_) <;> [skip; (intro hm; repeat' first | exact hm | apply wf_mwrite | apply wf_mzero | apply wf_filter | exact wf_nil); (intro hm; repeat' first | exact hm | apply wf_mwrite)]

theorem State.putBytes_steady {s0 s : State} (h : Steady s0 s) (pa : Nat) (fuel : Nat) (l : Bytes) :
    Steady s0 (s.putBytes pa fuel l).2 := by
  induction fuel generalizing s pa l with
  | zero => unfold State.putBytes; exact h
  | succ fuel ih =>
  unfold State.putBytes; repeat' first
    | with_reducible apply ih | intro _ | with_reducible assumption | with_reducible apply State.putLine_steady
    | with_reducible apply State.putLine_steady | with_reducible apply Steady.ite
    | (fail_if_no_progress (with_reducible (refine Steady.of ?_ rfl rfl rfl rfl rfl rfl rfl rfl)))
    | with_reducible (refine Steady.snd (by assumption) ?_) | with_reducible (refine Steady.snd2 (by assumption) ?_)
    | with_reducible apply foldl_steady | split | dsimp only

theorem State.hostWrite_steady {s0 s : State} (h : Steady s0 s) (pa : Nat) (d : Bytes) :
    Steady s0 (s.hostWrite pa d) := by
  unfold State.hostWrite; repeat' first
    | intro _ | with_reducible assumption | with_reducible apply State.putBytes_steady

theorem State.dirDel_steady {s0 s : State} (h : Steady s0 s) (h : Nat) (line : Nat) :
    Steady s0 (s.dirDel h line) := by
  unfold State.dirDel; repeat' first
    | intro _ | with_reducible assumption | with_reducible apply State.setHome_steady

theorem State.takeBack_steady {s0 s : State} (h : Steady s0 s) (line : Nat) (d : Bytes) :
    Steady s0 (s.takeBack line d) := by
  unfold State.takeBack; repeat' first
    | intro _ | with_reducible assumption | with_reducible apply State.rawWrite_steady | with_reducible apply Steady.ite
    | (fail_if_no_progress (with_reducible (refine Steady.of ?_ rfl rfl rfl rfl rfl rfl rfl rfl)))
    | with_reducible (refine Steady.snd (by assumption) ?_) | with_reducible (refine Steady.snd2 (by assumption) ?_)
    | with_reducible apply foldl_steady | split

theorem State.dropCopies_steady {s0 s : State} (h : Steady s0 s) (h : Nat) (line : Nat) :
    Steady s0 (s.dropCopies h line) := by
  unfold State.dropCopies; repeat' first
    | intro _ | with_reducible assumption | with_reducible apply State.dirDel_steady | with_reducible apply Steady.ite
    | (fail_if_no_progress (with_reducible (refine Steady.of ?_ rfl rfl rfl rfl rfl rfl rfl rfl)))

theorem State.recallLine_steady {s0 s : State} (h : Steady s0 s) (h : Nat) (line : Nat) :
    Steady s0 (s.recallLine h line) := by
  unfold State.recallLine; repeat' first
    | intro _ | with_reducible assumption | with_reducible apply State.dropCopies_steady | with_reducible apply State.takeBack_steady
    | with_reducible apply Steady.ite | (fail_if_no_progress (with_reducible (refine Steady.of ?_ rfl rfl rfl rfl rfl rfl rfl rfl)))
    | with_reducible (refine Steady.snd (by assumption) ?_) | with_reducible (refine Steady.snd2 (by assumption) ?_)
    | with_reducible apply foldl_steady | split

theorem State.evictHostLine_steady {s0 s : State} (h : Steady s0 s) (line : Nat) :
    Steady s0 (s.evictHostLine line) := by
  unfold State.evictHostLine; repeat' first
    | intro _ | with_reducible assumption | with_reducible apply State.recallLine_steady | with_reducible apply State.emit_steady
    | with_reducible apply Steady.ite | (fail_if_no_progress (with_reducible (refine Steady.of ?_ rfl rfl rfl rfl rfl rfl rfl rfl)))
    | with_reducible (refine Steady.snd (by assumption) ?_) | with_reducible (refine Steady.snd2 (by assumption) ?_)
    | with_reducible apply foldl_steady | split | dsimp only
    | (with_reducible refine Steady.ofMem ?_ rfl rfl rfl rfl rfl rfl ?_ ?_) <;> [skip; (intro hm; repeat' first | exact hm | apply wf_mwrite | apply wf_mzero | apply wf_filter | exact wf_nil); (intro hm; repeat' first | exact hm | apply wf_mwrite)]

theorem State.fillHostLine_steady {s0 s : State} (h : Steady s0 s) (line : Nat) (st : LineSt) (d : Bytes) :
    Steady s0 (s.fillHostLine line st d) := by
  unfold State.fillHostLine; repeat' first
    | intro _ | with_reducible assumption | with_reducible apply State.evictHostLine_steady | with_reducible apply State.useFree_steady
    | with_reducible apply Steady.ite | (fail_if_no_progress (with_reducible (refine Steady.of ?_ rfl rfl rfl rfl rfl rfl rfl rfl)))

theorem State.watchLine_steady {s0 s : State} (h : Steady s0 s) (line : Nat) :
    Steady s0 (s.watchLine line) := by
  unfold State.watchLine; repeat' first
    | intro _ | with_reducible assumption | with_reducible apply State.fillHostLine_steady | with_reducible apply State.emit_steady
    | with_reducible apply Steady.ite | (fail_if_no_progress (with_reducible (refine Steady.of ?_ rfl rfl rfl rfl rfl rfl rfl rfl)))
    | with_reducible (refine Steady.snd (by assumption) ?_) | with_reducible (refine Steady.snd2 (by assumption) ?_)
    | with_reducible apply foldl_steady | split

theorem State.msix_steady {s0 s : State} (h : Steady s0 s) (fn : Nat) (v : Nat) :
    Steady s0 (s.msix fn v) := by
  unfold State.msix; repeat' first
    | intro _ | with_reducible assumption | with_reducible apply State.emit_steady | with_reducible apply Steady.ite
    | (fail_if_no_progress (with_reducible (refine Steady.of ?_ rfl rfl rfl rfl rfl rfl rfl rfl)))

theorem State.putRing_steady {s0 s : State} (h : Steady s0 s) (r : Nat) (e : EvRing) :
    Steady s0 (s.putRing r e) := by
  unfold State.putRing; repeat' first
    | intro _ | with_reducible assumption | with_reducible apply State.hostWrite_steady | with_reducible apply Steady.ite
    | (fail_if_no_progress (with_reducible (refine Steady.of ?_ rfl rfl rfl rfl rfl rfl rfl rfl)))

theorem State.store_steady {s0 s : State} (h : Steady s0 s) (r : Nat) (e : EvRing) (rec : Bytes) :
    Steady s0 (s.store r e rec) := by
  unfold State.store; repeat' first
    | intro _ | with_reducible assumption | with_reducible apply State.hostWrite_steady | with_reducible apply State.msix_steady
    | with_reducible apply State.putRing_steady | with_reducible apply Steady.ite

theorem State.ringPut_steady {s0 s : State} (h : Steady s0 s) (r : Nat) (rec : Bytes) :
    Steady s0 (s.ringPut r rec) := by
  unfold State.ringPut; repeat' first
    | intro _ | with_reducible assumption | with_reducible apply State.store_steady | with_reducible apply State.putRing_steady
    | with_reducible apply Steady.ite | (fail_if_no_progress (with_reducible (refine Steady.of ?_ rfl rfl rfl rfl rfl rfl rfl rfl)))
    | with_reducible (refine Steady.snd (by assumption) ?_) | with_reducible (refine Steady.snd2 (by assumption) ?_)
    | with_reducible apply foldl_steady | split

theorem State.ringBoth_steady {s0 s : State} (h : Steady s0 s) (r : Nat) (rec : Bytes) (opcopy : Bytes) :
    Steady s0 (s.ringBoth r rec opcopy) := by
  unfold State.ringBoth; repeat' first
    | intro _ | with_reducible assumption | with_reducible apply State.ringPut_steady | with_reducible apply Steady.ite

theorem State.alert_steady {s0 s : State} (h : Steady s0 s) :
    Steady s0 (s.alert) := by
  unfold State.alert; repeat' first
    | intro _ | with_reducible assumption | with_reducible apply Steady.ite
    | (fail_if_no_progress (with_reducible (refine Steady.of ?_ rfl rfl rfl rfl rfl rfl rfl rfl)))

theorem State.toTray_steady {s0 s : State} (h : Steady s0 s) (rec : Bytes) :
    Steady s0 (s.toTray rec) := by
  unfold State.toTray; repeat' first
    | intro _ | with_reducible assumption | with_reducible apply State.alert_steady | with_reducible apply Steady.ite
    | (fail_if_no_progress (with_reducible (refine Steady.of ?_ rfl rfl rfl rfl rfl rfl rfl rfl)))

theorem State.errLog_steady {s0 s : State} (h : Steady s0 s) (ty : Nat) (code : Nat) (isl : Nat) (wher : Nat) :
    Steady s0 (s.errLog ty code isl wher) := by
  unfold State.errLog; repeat' first
    | intro _ | with_reducible assumption | with_reducible apply State.setReg_steady | with_reducible apply State.bumpFld_steady
    | with_reducible apply State.setFld_steady

theorem State.hwError_steady {s0 s : State} (h : Steady s0 s) (isl : Nat) (unit : Nat) (code : Nat) (wher : Nat) (addr : Nat) (folio : Nat) (ctx : Nat) :
    Steady s0 (s.hwError isl unit code wher addr folio ctx) := by
  unfold State.hwError; repeat' first
    | intro _ | with_reducible assumption | with_reducible apply State.errLog_steady | with_reducible apply State.ringPut_steady
    | with_reducible apply State.toTray_steady

theorem State.watchdogRec_steady {s0 s : State} (h : Steady s0 s) (kind : Nat) (target : Nat) (elapsed : Nat) (folio : Nat) (ctx : Nat) :
    Steady s0 (s.watchdogRec kind target elapsed folio ctx) := by
  unfold State.watchdogRec; repeat' first
    | intro _ | with_reducible assumption | with_reducible apply State.errLog_steady | with_reducible apply State.ringPut_steady
    | with_reducible apply State.toTray_steady

theorem State.resetRec_steady {s0 s : State} (h : Steady s0 s) (step : Nat) (reason : Nat) (target : Nat) (elapsed : Nat) (folio : Nat) (ctx : Nat) :
    Steady s0 (s.resetRec step reason target elapsed folio ctx) := by
  unfold State.resetRec; repeat' first
    | intro _ | with_reducible assumption | with_reducible apply State.errLog_steady | with_reducible apply State.ringPut_steady
    | with_reducible apply State.toTray_steady

theorem State.powerEvent_steady {s0 s : State} (h : Steady s0 s) (kind : Nat) (isl : Nat) (before : Nat) (after : Nat) (lowest : Nat) (dur : Nat) :
    Steady s0 (s.powerEvent kind isl before after lowest dur) := by
  unfold State.powerEvent; repeat' first
    | intro _ | with_reducible assumption | with_reducible apply State.ringPut_steady | with_reducible apply State.toTray_steady

theorem State.powerCycle_steady {s0 s : State} (h : Steady s0 s) :
    Steady s0 (s.powerCycle) := by
  unfold State.powerCycle; repeat' first
    | intro _ | with_reducible assumption | with_reducible apply State.alert_steady | with_reducible apply Steady.ite
    | (fail_if_no_progress (with_reducible (refine Steady.of ?_ rfl rfl rfl rfl rfl rfl rfl rfl)))

theorem State.fillWalker_steady {s0 s : State} (h : Steady s0 s) (die : Nat) (e : TlbEntry) (ups : List WalkCEntry) :
    Steady s0 (s.fillWalker die e ups) := by
  unfold State.fillWalker; repeat' first
    | intro _ | with_reducible assumption | with_reducible apply State.setWalker_steady

theorem State.hubXlate_steady {s0 s : State} (h : Steady s0 s) (ctx : Nat) (va : Nat) (acc : Nat) :
    Steady s0 (s.hubXlate ctx va acc).2 := by
  unfold State.hubXlate; repeat' first
    | intro _ | with_reducible assumption | with_reducible apply State.fillWalker_steady | with_reducible apply State.bumpFld_steady
    | with_reducible apply State.noteWalk_steady | with_reducible apply Steady.ite
    | (fail_if_no_progress (with_reducible (refine Steady.of ?_ rfl rfl rfl rfl rfl rfl rfl rfl)))
    | with_reducible (refine Steady.snd (by assumption) ?_) | with_reducible (refine Steady.snd2 (by assumption) ?_)
    | with_reducible apply foldl_steady | split | dsimp only

theorem State.xltRecord_steady {s0 s : State} (h : Steady s0 s) (isl : Nat) (ctx : Nat) (va : Nat) (pc : Nat) (sub : Nat) (acc : Nat) (src : Nat) (lvl : Nat) (index : Nat) (engine : Bytes) :
    Steady s0 (s.xltRecord isl ctx va pc sub acc src lvl index engine) := by
  unfold State.xltRecord; repeat' first
    | intro _ | with_reducible assumption | with_reducible apply State.ringBoth_steady

theorem State.integFail_steady {s0 s : State} (h : Steady s0 s) (pa : Nat) (src : Nat) :
    Steady s0 (s.integFail pa src) := by
  unfold State.integFail; repeat' first
    | intro _ | with_reducible assumption | with_reducible apply State.ringPut_steady | with_reducible apply Steady.ite
    | (fail_if_no_progress (with_reducible (refine Steady.of ?_ rfl rfl rfl rfl rfl rfl rfl rfl)))
    | with_reducible (refine Steady.snd (by assumption) ?_) | with_reducible (refine Steady.snd2 (by assumption) ?_)
    | with_reducible apply foldl_steady | split

theorem State.readLine_steady {s0 s : State} (h : Steady s0 s) (ctx : Nat) (folio : Nat) (pa : Nat) (n : Nat) :
    Steady s0 (s.readLine ctx folio pa n).2.2 := by
  unfold State.readLine; repeat' first
    | intro _ | with_reducible assumption | with_reducible apply State.integFail_steady | with_reducible apply State.useFree_steady
    | with_reducible apply State.send_steady | with_reducible apply Steady.ite
    | (fail_if_no_progress (with_reducible (refine Steady.of ?_ rfl rfl rfl rfl rfl rfl rfl rfl)))
    | with_reducible (refine Steady.snd (by assumption) ?_) | with_reducible (refine Steady.snd2 (by assumption) ?_)
    | with_reducible apply foldl_steady | split | dsimp only

theorem State.writeLine_steady {s0 s : State} (h : Steady s0 s) (ctx : Nat) (folio : Nat) (pa : Nat) (d : Bytes) :
    Steady s0 (s.writeLine ctx folio pa d).2 := by
  unfold State.writeLine; repeat' first
    | intro _ | with_reducible assumption | with_reducible apply State.putLine_steady | with_reducible apply State.send_steady
    | with_reducible apply Steady.ite | (fail_if_no_progress (with_reducible (refine Steady.of ?_ rfl rfl rfl rfl rfl rfl rfl rfl)))
    | with_reducible (refine Steady.snd (by assumption) ?_) | with_reducible (refine Steady.snd2 (by assumption) ?_)
    | with_reducible apply foldl_steady | split

theorem State.hubReadN_steady {s0 s : State} (h : Steady s0 s) (ctx : Nat) (va : Nat) (fuel : Nat) (n : Nat) :
    Steady s0 (s.hubReadN ctx va fuel n).2 := by
  induction fuel generalizing s ctx va n with
  | zero => unfold State.hubReadN; exact h
  | succ fuel ih =>
  unfold State.hubReadN; repeat' first
    | with_reducible apply ih | intro _ | with_reducible assumption | with_reducible apply State.readLine_steady
    | with_reducible apply State.hubXlate_steady | with_reducible apply State.xltRecord_steady | with_reducible apply State.hubXlate_steady
    | with_reducible apply State.readLine_steady | with_reducible apply State.xltRecord_steady | with_reducible apply Steady.ite
    | (fail_if_no_progress (with_reducible (refine Steady.of ?_ rfl rfl rfl rfl rfl rfl rfl rfl)))
    | with_reducible (refine Steady.snd (by assumption) ?_) | with_reducible (refine Steady.snd2 (by assumption) ?_)
    | with_reducible apply foldl_steady | split | dsimp only

theorem State.hubRead_steady {s0 s : State} (h : Steady s0 s) (ctx : Nat) (va : Nat) (n : Nat) :
    Steady s0 (s.hubRead ctx va n).2 := by
  unfold State.hubRead; repeat' first
    | intro _ | with_reducible assumption | with_reducible apply State.hubReadN_steady

theorem State.hubWriteN_steady {s0 s : State} (h : Steady s0 s) (ctx : Nat) (va : Nat) (acc : Nat) (fuel : Nat) (l : Bytes) :
    Steady s0 (s.hubWriteN ctx va acc fuel l).2 := by
  induction fuel generalizing s ctx va acc l with
  | zero => unfold State.hubWriteN; exact h
  | succ fuel ih =>
  unfold State.hubWriteN; repeat' first
    | with_reducible apply ih | intro _ | with_reducible assumption | with_reducible apply State.hubXlate_steady
    | with_reducible apply State.writeLine_steady | with_reducible apply State.xltRecord_steady | with_reducible apply State.hubXlate_steady
    | with_reducible apply State.writeLine_steady | with_reducible apply State.xltRecord_steady | with_reducible apply Steady.ite
    | (fail_if_no_progress (with_reducible (refine Steady.of ?_ rfl rfl rfl rfl rfl rfl rfl rfl)))
    | with_reducible (refine Steady.snd (by assumption) ?_) | with_reducible (refine Steady.snd2 (by assumption) ?_)
    | with_reducible apply foldl_steady | split | dsimp only

theorem State.hubWrite_steady {s0 s : State} (h : Steady s0 s) (ctx : Nat) (va : Nat) (d : Bytes) :
    Steady s0 (s.hubWrite ctx va d).2 := by
  unfold State.hubWrite; repeat' first
    | intro _ | with_reducible assumption | with_reducible apply State.hubWriteN_steady

theorem State.hubAdd_steady {s0 s : State} (h : Steady s0 s) (ctx : Nat) (va : Nat) (w : Nat) (inc : Nat) :
    Steady s0 (s.hubAdd ctx va w inc).2.2 := by
  unfold State.hubAdd; repeat' first
    | intro _ | with_reducible assumption | with_reducible apply State.readLine_steady | with_reducible apply State.hubXlate_steady
    | with_reducible apply State.writeLine_steady | with_reducible apply State.xltRecord_steady | with_reducible apply Steady.ite
    | (fail_if_no_progress (with_reducible (refine Steady.of ?_ rfl rfl rfl rfl rfl rfl rfl rfl)))
    | with_reducible (refine Steady.snd (by assumption) ?_) | with_reducible (refine Steady.snd2 (by assumption) ?_)
    | with_reducible apply foldl_steady | split


end Sys2Proof.Machine
end

