-- ==== Sys2Proof/Laws/SteadyCores.lean ====
section
/-! SUPPORT. Sys2Proof/Laws/SteadyCores.lean: each operation is steady (Laws/Steady.lean): instructions and the coherence of cores. -/

namespace Sys2Proof.Machine

theorem State.faultSlot_steady {s0 s : State} (h : Steady s0 s) (c : Nat) (k : Nat) (f : FaultInfo) :
    Steady s0 (s.faultSlot c k f) := by
  unfold State.faultSlot; repeat' first
    | intro _ | with_reducible assumption | with_reducible apply State.modSlot_steady

theorem State.faultAt_steady {s0 s : State} (h : Steady s0 s) (c : Nat) (k : Nat) (x : Slot) (cause : Nat) (addr : Nat) :
    Steady s0 (s.faultAt c k x cause addr) := by
  unfold State.faultAt; repeat' first
    | intro _ | with_reducible assumption | with_reducible apply State.faultSlot_steady

theorem State.faultOn_steady {s0 s : State} (h : Steady s0 s) (c : Nat) (k : Nat) (x : Slot) (e : Cpl) (pa : Nat) (va : Nat) :
    Steady s0 (s.faultOn c k x e pa va) := by
  unfold State.faultOn; repeat' first
    | intro _ | with_reducible assumption | with_reducible apply State.faultSlot_steady

theorem State.chargeCycles_steady {s0 s : State} (h : Steady s0 s) (c : Nat) (k : Nat) (x : Slot) (n : Nat) :
    Steady s0 (s.chargeCycles c k x n) := by
  unfold State.chargeCycles; repeat' first
    | intro _ | with_reducible assumption | with_reducible apply State.setSlot_steady | with_reducible apply State.setCtx_steady
    | with_reducible apply Steady.ite | (fail_if_no_progress (with_reducible (refine Steady.of ?_ rfl rfl rfl rfl rfl rfl rfl rfl)))
    | with_reducible (refine Steady.snd (by assumption) ?_) | with_reducible (refine Steady.snd2 (by assumption) ?_)
    | with_reducible apply foldl_steady | split

theorem State.charge_steady {s0 s : State} (h : Steady s0 s) (c : Nat) :
    Steady s0 (s.charge c) := by
  unfold State.charge; repeat' first
    | intro _ | with_reducible assumption | with_reducible apply State.chargeCycles_steady | with_reducible apply Steady.ite
    | (fail_if_no_progress (with_reducible (refine Steady.of ?_ rfl rfl rfl rfl rfl rfl rfl rfl)))
    | with_reducible (refine Steady.snd (by assumption) ?_) | with_reducible (refine Steady.snd2 (by assumption) ?_)
    | with_reducible apply foldl_steady | split

theorem State.chargeAll_steady {s0 s : State} (h : Steady s0 s) (ctx : Nat) :
    Steady s0 (s.chargeAll ctx) := by
  unfold State.chargeAll; repeat' first
    | intro _ | with_reducible assumption | with_reducible apply State.charge_steady | with_reducible apply foldS_steady
    | with_reducible apply Steady.ite

theorem State.suspend_steady {s0 s : State} (h : Steady s0 s) (ctx : Nat) :
    Steady s0 (s.suspend ctx) := by
  unfold State.suspend; repeat' first
    | intro _ | with_reducible assumption | with_reducible apply State.chargeAll_steady | with_reducible apply State.modCtx_steady

theorem State.xltFault_steady {s0 s : State} (h : Steady s0 s) (c : Nat) (ctx : Nat) (va : Nat) (pc : Nat) (sub : Nat) (acc : Nat) (src : Nat) (lvl : Nat) (index : Nat) :
    Steady s0 (s.xltFault c ctx va pc sub acc src lvl index) := by
  unfold State.xltFault; repeat' first
    | intro _ | with_reducible assumption | with_reducible apply State.suspend_steady | with_reducible apply State.xltRecord_steady

theorem State.lookup_steady {s0 s : State} (h : Steady s0 s) (c : Nat) (ctx : Nat) (va : Nat) (acc : Nat) :
    Steady s0 (s.lookup c ctx va acc).2 := by
  unfold State.lookup; repeat' first
    | intro _ | with_reducible assumption | with_reducible apply State.setCore_steady | with_reducible apply Steady.ite
    | (fail_if_no_progress (with_reducible (refine Steady.of ?_ rfl rfl rfl rfl rfl rfl rfl rfl)))
    | with_reducible (refine Steady.snd (by assumption) ?_) | with_reducible (refine Steady.snd2 (by assumption) ?_)
    | with_reducible apply foldl_steady | split

theorem State.startWalk_steady {s0 s t : State} (h : Steady s0 s) {die ctx va acc : Nat} {asker : WalkFor}
    (e : s.startWalk die ctx va acc asker = some t) : Steady s0 t := by
  unfold State.startWalk at e; split at e
  · cases e; exact Steady.upd (State.noteWalk_steady h _ _ _) rfl rfl rfl rfl rfl rfl rfl rfl
  · cases e

theorem State.startWalk_getD_steady {s0 s t : State} (h : Steady s0 s) (g : Steady s0 t) (die ctx va acc : Nat) (asker : WalkFor) :
    Steady s0 ((s.startWalk die ctx va acc asker).getD t) := by
  cases e : s.startWalk die ctx va acc asker with
  | none => exact g
  | some u => exact State.startWalk_steady h e

theorem State.waitWalk_steady {s0 s : State} (h : Steady s0 s) (c : Nat) (k : Nat) (x : Slot) (va : Nat) (acc : Nat) (src : Nat) (prefetch : optParam Bool false) :
    Steady s0 (s.waitWalk c k x va acc src prefetch) := by
  unfold State.waitWalk; repeat' first
    | intro _ | with_reducible assumption | with_reducible apply State.modSlot_steady
    | with_reducible (refine State.startWalk_steady ?_ (by assumption)) | with_reducible apply State.startWalk_getD_steady
    | with_reducible apply Steady.ite | (fail_if_no_progress (with_reducible (refine Steady.of ?_ rfl rfl rfl rfl rfl rfl rfl rfl)))
    | with_reducible (refine Steady.snd (by assumption) ?_) | with_reducible (refine Steady.snd2 (by assumption) ?_)
    | with_reducible apply foldl_steady | split

theorem State.xlate_on {s0 s : State} (h : Steady s0 s) (c k : Nat) (x : Slot) (va acc src : Nat) :
    OnState s0 id (fun r => r.2.2) (s.xlate c k x va acc src) := by
  have g := State.lookup_steady h c x.ctx va acc
  unfold State.xlate
  split <;> rename_i e <;> rw [e] at g
  · exact g
  · exact State.waitWalk_steady g _ _ _ _ _ _ _
  · exact State.xltFault_steady g _ _ _ _ _ _ _ _ _
  · exact State.faultAt_steady g _ _ _ _ _

theorem State.xlate_steady {s0 s t : State} (h : Steady s0 s) {c k : Nat} {x : Slot} {va acc src a : Nat} {nc : Bool}
    (e : s.xlate c k x va acc src = .ok (a, nc, t)) : Steady s0 t := by
  have g := State.xlate_on h c k x va acc src
  rw [e] at g; exact g

theorem State.xlate_error_steady {s0 s t : State} (h : Steady s0 s) {c k : Nat} {x : Slot} {va acc src : Nat}
    (e : s.xlate c k x va acc src = .error t) : Steady s0 t := by
  have g := State.xlate_on h c k x va acc src
  rw [e] at g; exact g

theorem State.fetch_on {s0 s : State} (h : Steady s0 s) (c k : Nat) (x : Slot) : OnState s0 id id (s.fetch c k x) := by
  unfold State.fetch
  split
  · split
    · exact h
    · exact State.faultAt_steady h _ _ _ _ _
  · dsimp only
    split
    · exact State.xlate_error_steady h ‹_›
    · have g := State.xlate_steady h ‹_›
      split
      · exact Steady.snd2 ‹_› (State.readLine_steady g _ _ _ _)
      · exact State.faultOn_steady (Steady.snd2 ‹_› (State.readLine_steady g _ _ _ _)) _ _ _ _ _ _

theorem State.fetch_steady {s0 s t : State} (h : Steady s0 s) {c k : Nat} {x : Slot} (e : s.fetch c k x = .ok t) : Steady s0 t := by
  have g := State.fetch_on h c k x
  rw [e] at g; exact g

theorem State.fetch_error_steady {s0 s t : State} (h : Steady s0 s) {c k : Nat} {x : Slot} (e : s.fetch c k x = .error t) : Steady s0 t := by
  have g := State.fetch_on h c k x
  rw [e] at g; exact g

theorem State.issue_steady {s0 s : State} (h : Steady s0 s) (c : Nat) (w : Word) (m : Nat) (sf : Option Nat) (go : State → Nat → Slot → State) (h_go : ∀ st y1 y2, Steady s0 st → Steady s0 (go st y1 y2)) :
    Answers s0 (s.issue c w m sf go) := by
  unfold State.issue; repeat' first
    | intro _ | with_reducible assumption | with_reducible apply State.faultAt_steady | with_reducible apply stay_steady
    | with_reducible (refine State.fetch_steady ?_ (by assumption)) | with_reducible (refine State.fetch_error_steady ?_ (by assumption))
    | with_reducible apply Answers.next | with_reducible apply Answers.ite | apply h_go | with_reducible apply Steady.ite
    | (fail_if_no_progress (with_reducible (refine Steady.of ?_ rfl rfl rfl rfl rfl rfl rfl rfl)))
    | with_reducible (refine Steady.snd (by assumption) ?_) | with_reducible (refine Steady.snd2 (by assumption) ?_)
    | with_reducible apply foldl_steady | split

theorem State.retire_steady {s0 s : State} (h : Steady s0 s) (c : Nat) (k : Nat) (x : Slot) :
    Steady s0 (s.retire c k x) := by
  unfold State.retire; repeat' first
    | intro _ | with_reducible assumption | with_reducible apply State.setSlot_steady | with_reducible apply State.setCore_steady

theorem State.stall_steady {s0 s : State} (h : Steady s0 s) (c : Nat) (k : Nat) (x : Slot) :
    Steady s0 (s.stall c k x) := by
  unfold State.stall; repeat' first
    | intro _ | with_reducible assumption | with_reducible apply State.setSlot_steady

theorem State.toPeer_steady {s0 s : State} (h : Steady s0 s) (id : Nat) (r : Req) (i : Nat) (off : Nat) :
    Steady s0 (s.toPeer id r i off) := by
  unfold State.toPeer; repeat' first
    | intro _ | with_reducible assumption | with_reducible apply State.setReq_steady | with_reducible apply foldS_steady
    | with_reducible apply State.send_steady | with_reducible apply Steady.ite
    | (fail_if_no_progress (with_reducible (refine Steady.of ?_ rfl rfl rfl rfl rfl rfl rfl rfl)))

theorem State.noteAway_steady {s0 s : State} (h : Steady s0 s) (r : Req) :
    Steady s0 (s.noteAway r) := by
  unfold State.noteAway; repeat' first
    | intro _ | with_reducible assumption | with_reducible apply State.setChan_steady | with_reducible apply State.modCtx_steady
    | with_reducible apply Steady.ite | (fail_if_no_progress (with_reducible (refine Steady.of ?_ rfl rfl rfl rfl rfl rfl rfl rfl)))
    | with_reducible (refine Steady.snd (by assumption) ?_) | with_reducible (refine Steady.snd2 (by assumption) ?_)
    | with_reducible apply foldl_steady | split

theorem State.issueReq_steady {s0 s : State} (h : Steady s0 s) (r0 : Req) :
    Steady s0 (s.issueReq r0) := by
  unfold State.issueReq; repeat' first
    | intro _ | with_reducible assumption | with_reducible apply State.noteAway_steady | with_reducible apply State.toPeer_steady
    | with_reducible apply State.addReq_steady | with_reducible apply Steady.ite
    | (fail_if_no_progress (with_reducible (refine Steady.of ?_ rfl rfl rfl rfl rfl rfl rfl rfl)))
    | with_reducible (refine Steady.snd (by assumption) ?_) | with_reducible (refine Steady.snd2 (by assumption) ?_)
    | with_reducible apply foldl_steady | split | dsimp only

theorem State.dropWatch_steady {s0 s : State} (h : Steady s0 s) (w : Waiter) :
    Steady s0 (s.dropWatch w) := by
  unfold State.dropWatch; repeat' first
    | intro _ | with_reducible assumption | with_reducible apply Steady.ite
    | (fail_if_no_progress (with_reducible (refine Steady.of ?_ rfl rfl rfl rfl rfl rfl rfl rfl)))

theorem State.takeWatch_steady {s0 s : State} (h : Steady s0 s) (e : WatchEntry) :
    Steady s0 (s.takeWatch e).2 := by
  unfold State.takeWatch; repeat' first
    | intro _ | with_reducible assumption | with_reducible apply State.watchLine_steady | with_reducible apply State.setHome_steady
    | with_reducible apply Steady.ite | (fail_if_no_progress (with_reducible (refine Steady.of ?_ rfl rfl rfl rfl rfl rfl rfl rfl)))
    | with_reducible (refine Steady.snd (by assumption) ?_) | with_reducible (refine Steady.snd2 (by assumption) ?_)
    | with_reducible apply foldl_steady | split

theorem State.dropAsk_steady {s0 s : State} (h : Steady s0 s) (ask : Option Nat) :
    Steady s0 (s.dropAsk ask) := by
  unfold State.dropAsk; repeat' first
    | intro _ | with_reducible assumption | with_reducible apply State.dropReq_steady | with_reducible apply State.setReq_steady
    | with_reducible apply Steady.ite | (fail_if_no_progress (with_reducible (refine Steady.of ?_ rfl rfl rfl rfl rfl rfl rfl rfl)))
    | with_reducible (refine Steady.snd (by assumption) ?_) | with_reducible (refine Steady.snd2 (by assumption) ?_)
    | with_reducible apply foldl_steady | split

theorem State.fwaitDone_steady {s0 s : State} (h : Steady s0 s) (c : Nat) (k : Nat) (v : Word) :
    Steady s0 (s.fwaitDone c k v) := by
  unfold State.fwaitDone; repeat' first
    | intro _ | with_reducible assumption | with_reducible apply State.dropWatch_steady | with_reducible apply State.modSlot_steady
    | with_reducible apply State.setCore_steady | with_reducible apply State.dropAsk_steady | with_reducible apply Steady.ite
    | (fail_if_no_progress (with_reducible (refine Steady.of ?_ rfl rfl rfl rfl rfl rfl rfl rfl)))
    | with_reducible (refine Steady.snd (by assumption) ?_) | with_reducible (refine Steady.snd2 (by assumption) ?_)
    | with_reducible apply foldl_steady | split

theorem State.fenceHit_steady {s0 s : State} (h : Steady s0 s) (c : Nat) (k : Nat) :
    Steady s0 (s.fenceHit c k) := by
  unfold State.fenceHit; repeat' first
    | intro _ | with_reducible assumption | with_reducible apply State.modSlot_steady | with_reducible apply State.fwaitDone_steady
    | with_reducible apply Steady.ite

theorem State.fenceCheck_steady {s0 s : State} (h : Steady s0 s) (c : Nat) (k : Nat) :
    Steady s0 (s.fenceCheck c k) := by
  unfold State.fenceCheck; repeat' first
    | intro _ | with_reducible assumption | with_reducible apply State.fwaitDone_steady | with_reducible apply Steady.ite
    | (fail_if_no_progress (with_reducible (refine Steady.of ?_ rfl rfl rfl rfl rfl rfl rfl rfl)))
    | with_reducible (refine Steady.snd (by assumption) ?_) | with_reducible (refine Steady.snd2 (by assumption) ?_)
    | with_reducible apply foldl_steady | split

theorem State.wake_steady {s0 s : State} (h : Steady s0 s) (line : Nat) :
    Steady s0 (s.wake line) := by
  unfold State.wake; repeat' first
    | intro _ | with_reducible assumption | with_reducible apply State.fenceHit_steady | with_reducible apply foldS_steady
    | with_reducible apply Steady.ite | (fail_if_no_progress (with_reducible (refine Steady.of ?_ rfl rfl rfl rfl rfl rfl rfl rfl)))
    | with_reducible (refine Steady.snd (by assumption) ?_) | with_reducible (refine Steady.snd2 (by assumption) ?_)
    | with_reducible apply foldl_steady | split

theorem State.wakeRange_steady {s0 s : State} (h : Steady s0 s) (pa : Nat) (n : Nat) :
    Steady s0 (s.wakeRange pa n) := by
  unfold State.wakeRange; repeat' first
    | intro _ | with_reducible assumption | with_reducible apply State.wake_steady | with_reducible apply foldS_steady

theorem State.touch_steady {s0 s : State} (h : Steady s0 s) (n : Nat) (line : Nat) :
    Steady s0 (s.touch n line) := by
  unfold State.touch; repeat' first
    | intro _ | with_reducible assumption | with_reducible apply State.setCache_steady

theorem State.putLineIn_steady {s0 s : State} (h : Steady s0 s) (n : Nat) (line : Nat) (l : CLine) :
    Steady s0 (s.putLineIn n line l) := by
  unfold State.putLineIn; repeat' first
    | intro _ | with_reducible assumption | with_reducible apply State.touch_steady | with_reducible apply State.setCache_steady

theorem State.writeHit_steady {s0 s : State} (h : Steady s0 s) (n : Nat) (pa : Nat) (l : CLine) (d : Bytes) :
    Steady s0 (s.writeHit n pa l d) := by
  unfold State.writeHit; repeat' first
    | intro _ | with_reducible assumption | with_reducible apply State.wake_steady | with_reducible apply State.putLineIn_steady

theorem State.loadDone_steady {s0 s : State} (h : Steady s0 s) (c : Nat) (k : Nat) (x : Slot) (r : Nat) (q : Req) (rd : Nat) (v : Word) :
    Steady s0 (s.loadDone c k x r q rd v) := by
  unfold State.loadDone; repeat' first
    | intro _ | with_reducible assumption | with_reducible apply State.retire_steady | with_reducible apply State.dropReq_steady
    | with_reducible apply State.modSlot_steady | with_reducible apply State.faultOn_steady | with_reducible apply Steady.ite

theorem State.waitReq_steady {s0 s : State} (h : Steady s0 s) (c : Nat) (k : Nat) (r : Req) :
    Steady s0 (s.waitReq c k r) := by
  unfold State.waitReq; repeat' first
    | intro _ | with_reducible assumption | with_reducible apply State.issueReq_steady | with_reducible apply State.modSlot_steady

theorem State.loadAt_steady {s0 s : State} (h : Steady s0 s) (c : Nat) (k : Nat) (x : Slot) (rd : Nat) (n : Nat) (va : Nat) (pa : Nat) (nc : Bool) (v : Bool) (sx : Bool) :
    Steady s0 (s.loadAt c k x rd n va pa nc v sx) := by
  unfold State.loadAt; repeat' first
    | intro _ | with_reducible assumption | with_reducible apply State.touch_steady | with_reducible apply State.faultAt_steady
    | with_reducible apply State.stall_steady | with_reducible apply State.retire_steady | with_reducible apply State.waitReq_steady
    | with_reducible apply Steady.ite | (fail_if_no_progress (with_reducible (refine Steady.of ?_ rfl rfl rfl rfl rfl rfl rfl rfl)))
    | with_reducible (refine Steady.snd (by assumption) ?_) | with_reducible (refine Steady.snd2 (by assumption) ?_)
    | with_reducible apply foldl_steady | split

theorem State.storeAt_steady {s0 s : State} (h : Steady s0 s) (c : Nat) (k : Nat) (x : Slot) (va : Nat) (pa : Nat) (nc : Bool) (d : Bytes) :
    Steady s0 (s.storeAt c k x va pa nc d) := by
  unfold State.storeAt; repeat' first
    | intro _ | with_reducible assumption | with_reducible apply State.faultAt_steady | with_reducible apply State.stall_steady
    | with_reducible apply State.retire_steady | with_reducible apply State.issueReq_steady | with_reducible apply State.noteAway_steady
    | with_reducible apply State.writeHit_steady | with_reducible apply Steady.ite
    | (fail_if_no_progress (with_reducible (refine Steady.of ?_ rfl rfl rfl rfl rfl rfl rfl rfl)))
    | with_reducible (refine Steady.snd (by assumption) ?_) | with_reducible (refine Steady.snd2 (by assumption) ?_)
    | with_reducible apply foldl_steady | split

theorem State.amoAt_steady {s0 s : State} (h : Steady s0 s) (c : Nat) (k : Nat) (x : Slot) (rd : Nat) (n : Nat) (va : Nat) (pa : Nat) (nc : Bool) (d : Bytes) :
    Steady s0 (s.amoAt c k x rd n va pa nc d) := by
  unfold State.amoAt; repeat' first
    | intro _ | with_reducible assumption | with_reducible apply State.faultAt_steady | with_reducible apply State.stall_steady
    | with_reducible apply State.retire_steady | with_reducible apply State.waitReq_steady | with_reducible apply State.noteAway_steady
    | with_reducible apply State.writeHit_steady | with_reducible apply Steady.ite
    | (fail_if_no_progress (with_reducible (refine Steady.of ?_ rfl rfl rfl rfl rfl rfl rfl rfl)))
    | with_reducible (refine Steady.snd (by assumption) ?_) | with_reducible (refine Steady.snd2 (by assumption) ?_)
    | with_reducible apply foldl_steady | split

theorem execAlu_steady {s0 s : State} (h : Steady s0 s) (core : Nat) (w : Word) :
    Answers s0 (execAlu core w s) := by
  unfold execAlu; repeat' first
    | intro _ | with_reducible assumption | with_reducible apply State.retire_steady | with_reducible apply State.issue_steady

theorem execAlui_steady {s0 s : State} (h : Steady s0 s) (core : Nat) (w : Word) :
    Answers s0 (execAlui core w s) := by
  unfold execAlui; repeat' first
    | intro _ | with_reducible assumption | with_reducible apply State.retire_steady | with_reducible apply State.issue_steady

theorem State.jumpTo_steady {s0 s : State} (h : Steady s0 s) (c : Nat) (k : Nat) (x : Slot) (t : Word) :
    Steady s0 (s.jumpTo c k x t) := by
  unfold State.jumpTo; repeat' first
    | intro _ | with_reducible assumption | with_reducible apply State.faultAt_steady | with_reducible apply State.retire_steady
    | with_reducible apply Steady.ite

theorem execBr_steady {s0 s : State} (h : Steady s0 s) (core : Nat) (w : Word) :
    Answers s0 (execBr core w s) := by
  unfold execBr; repeat' first
    | intro _ | with_reducible assumption | with_reducible apply State.retire_steady | with_reducible apply State.issue_steady
    | with_reducible apply State.jumpTo_steady | with_reducible apply Answers.next | with_reducible apply Answers.ite
    | with_reducible apply Steady.ite

theorem execJmp_steady {s0 s : State} (h : Steady s0 s) (core : Nat) (w : Word) :
    Answers s0 (execJmp core w s) := by
  unfold execJmp; repeat' first
    | intro _ | with_reducible assumption | with_reducible apply State.faultAt_steady | with_reducible apply State.retire_steady
    | with_reducible apply State.issue_steady | with_reducible apply Answers.next | with_reducible apply Answers.ite
    | with_reducible apply Steady.ite

theorem execSrd_steady {s0 s : State} (h : Steady s0 s) (core : Nat) (w : Word) :
    Answers s0 (execSrd core w s) := by
  unfold execSrd; repeat' first
    | intro _ | with_reducible assumption | with_reducible apply State.retire_steady | with_reducible apply State.issue_steady

theorem execLd_steady {s0 s : State} (h : Steady s0 s) (core : Nat) (w : Word) :
    Answers s0 (execLd core w s) := by
  unfold execLd; repeat' first
    | intro _ | with_reducible assumption | with_reducible apply State.faultAt_steady | with_reducible apply State.stall_steady
    | with_reducible apply State.retire_steady | with_reducible apply State.issue_steady
    | with_reducible (refine State.xlate_steady ?_ (by assumption)) | with_reducible (refine State.xlate_error_steady ?_ (by assumption))
    | with_reducible apply State.loadDone_steady | with_reducible apply State.loadAt_steady | with_reducible apply Answers.next
    | with_reducible apply Answers.ite | with_reducible apply Steady.ite
    | (fail_if_no_progress (with_reducible (refine Steady.of ?_ rfl rfl rfl rfl rfl rfl rfl rfl)))
    | with_reducible (refine Steady.snd (by assumption) ?_) | with_reducible (refine Steady.snd2 (by assumption) ?_)
    | with_reducible apply foldl_steady | split

theorem execSt_steady {s0 s : State} (h : Steady s0 s) (core : Nat) (w : Word) :
    Answers s0 (execSt core w s) := by
  unfold execSt; repeat' first
    | intro _ | with_reducible assumption | with_reducible apply State.faultAt_steady | with_reducible apply State.stall_steady
    | with_reducible apply State.retire_steady | with_reducible apply State.issue_steady
    | with_reducible (refine State.xlate_steady ?_ (by assumption)) | with_reducible (refine State.xlate_error_steady ?_ (by assumption))
    | with_reducible apply State.storeAt_steady | with_reducible apply State.setCore_steady | with_reducible apply Answers.next
    | with_reducible apply Answers.ite | with_reducible apply Steady.ite
    | (fail_if_no_progress (with_reducible (refine Steady.of ?_ rfl rfl rfl rfl rfl rfl rfl rfl)))
    | with_reducible (refine Steady.snd (by assumption) ?_) | with_reducible (refine Steady.snd2 (by assumption) ?_)
    | with_reducible apply foldl_steady | split

theorem execAmo_steady {s0 s : State} (h : Steady s0 s) (core : Nat) (w : Word) :
    Answers s0 (execAmo core w s) := by
  unfold execAmo; repeat' first
    | intro _ | with_reducible assumption | with_reducible apply State.faultAt_steady | with_reducible apply State.stall_steady
    | with_reducible apply State.issue_steady | with_reducible (refine State.xlate_steady ?_ (by assumption))
    | with_reducible (refine State.xlate_error_steady ?_ (by assumption)) | with_reducible apply State.loadDone_steady
    | with_reducible apply State.amoAt_steady | with_reducible apply Answers.next | with_reducible apply Answers.ite
    | with_reducible apply Steady.ite | (fail_if_no_progress (with_reducible (refine Steady.of ?_ rfl rfl rfl rfl rfl rfl rfl rfl)))
    | with_reducible (refine Steady.snd (by assumption) ?_) | with_reducible (refine Steady.snd2 (by assumption) ?_)
    | with_reducible apply foldl_steady | split

theorem State.addUpdate_steady {s0 s : State} (h : Steady s0 s) (u : SgUpdate) :
    Steady s0 (s.addUpdate u) := by
  unfold State.addUpdate; repeat' first
    | intro _ | with_reducible assumption | with_reducible apply Steady.ite
    | (fail_if_no_progress (with_reducible (refine Steady.of ?_ rfl rfl rfl rfl rfl rfl rfl rfl)))

theorem State.flushSlot_steady {s0 s : State} (h : Steady s0 s) (c : Nat) (k : Nat) :
    Steady s0 (s.flushSlot c k) := by
  unfold State.flushSlot; repeat' first
    | intro _ | with_reducible assumption | with_reducible apply State.addUpdate_steady | with_reducible apply State.setSlot_steady
    | with_reducible apply foldS_steady | with_reducible apply Steady.ite
    | (fail_if_no_progress (with_reducible (refine Steady.of ?_ rfl rfl rfl rfl rfl rfl rfl rfl)))
    | with_reducible (refine Steady.snd (by assumption) ?_) | with_reducible (refine Steady.snd2 (by assumption) ?_)
    | with_reducible apply foldl_steady | split

theorem State.addPartials_steady {s0 s : State} (h : Steady s0 s) (c : Nat) (k : Nat) (ev : Events) :
    Steady s0 (s.addPartials c k ev) := by
  unfold State.addPartials; repeat' first
    | intro _ | with_reducible assumption | with_reducible apply State.setSlot_steady | with_reducible apply State.flushSlot_steady
    | with_reducible apply Steady.ite | (fail_if_no_progress (with_reducible (refine Steady.of ?_ rfl rfl rfl rfl rfl rfl rfl rfl)))
    | with_reducible (refine Steady.snd (by assumption) ?_) | with_reducible (refine Steady.snd2 (by assumption) ?_)
    | with_reducible apply foldl_steady | split

theorem State.sgRecord_steady {s0 s : State} (h : Steady s0 s) (ctx : Nat) (tenant : Bytes) (op : Option Bytes) :
    Steady s0 (s.sgRecord ctx tenant op) := by
  unfold State.sgRecord; repeat' first
    | intro _ | with_reducible assumption | with_reducible apply State.ringPut_steady | with_reducible apply Steady.ite
    | (fail_if_no_progress (with_reducible (refine Steady.of ?_ rfl rfl rfl rfl rfl rfl rfl rfl)))
    | with_reducible (refine Steady.snd (by assumption) ?_) | with_reducible (refine Steady.snd2 (by assumption) ?_)
    | with_reducible apply foldl_steady | split

theorem State.sieveTile_steady {s0 s : State} (h : Steady s0 s) (c : Nat) (ctx : Nat) (way : Nat) (tile : Nat) (tag : Nat) (thr : List Nat) :
    Steady s0 (s.sieveTile c ctx way tile tag thr) := by
  unfold State.sieveTile; repeat' first
    | intro _ | with_reducible assumption | with_reducible apply State.sgRecord_steady | with_reducible apply State.setCtx_steady
    | with_reducible apply Steady.ite | (fail_if_no_progress (with_reducible (refine Steady.of ?_ rfl rfl rfl rfl rfl rfl rfl rfl)))
    | with_reducible (refine Steady.snd (by assumption) ?_) | with_reducible (refine Steady.snd2 (by assumption) ?_)
    | with_reducible apply foldl_steady | split

theorem State.sieveCtx_steady {s0 s : State} (h : Steady s0 s) (c : Nat) (ctx : Nat) (k : Nat) (total : Nat) (thr : Nat) :
    Steady s0 (s.sieveCtx c ctx k total thr) := by
  unfold State.sieveCtx; repeat' first
    | intro _ | with_reducible assumption | with_reducible apply State.sgRecord_steady

theorem State.missPut_steady {s0 s : State} (h : Steady s0 s) (ctx : Nat) (floorOnly : Bool) (tenant : Bytes) (full : Bytes) :
    Steady s0 (s.missPut ctx floorOnly tenant full) := by
  unfold State.missPut; repeat' first
    | intro _ | with_reducible assumption | with_reducible apply State.sgRecord_steady | with_reducible apply State.ringPut_steady
    | with_reducible apply Steady.ite | (fail_if_no_progress (with_reducible (refine Steady.of ?_ rfl rfl rfl rfl rfl rfl rfl rfl)))
    | with_reducible (refine Steady.snd (by assumption) ?_) | with_reducible (refine Steady.snd2 (by assumption) ?_)
    | with_reducible apply foldl_steady | split | dsimp only

theorem State.ctxFaultRecord_steady {s0 s : State} (h : Steady s0 s) (ctx : Nat) (isl : Nat) (core : Option Nat) (f : FaultInfo) :
    Steady s0 (s.ctxFaultRecord ctx isl core f) := by
  unfold State.ctxFaultRecord; repeat' first
    | intro _ | with_reducible assumption | with_reducible apply State.ringBoth_steady

theorem execVop_steady {s0 s : State} (h : Steady s0 s) (core : Nat) (w : Word) :
    Answers s0 (execVop core w s) := by
  unfold execVop; repeat' first
    | intro _ | with_reducible assumption | with_reducible apply State.faultAt_steady | with_reducible apply State.retire_steady
    | with_reducible apply State.issue_steady | with_reducible apply State.addPartials_steady | with_reducible apply Answers.next
    | with_reducible apply Answers.ite | with_reducible apply Steady.ite

theorem State.vlsRow_steady {s0 s : State} (h : Steady s0 s) (c : Nat) (k : Nat) (x : Slot) (w : Word) (write : Bool) :
    Steady s0 (s.vlsRow c k x w write) := by
  unfold State.vlsRow; repeat' first
    | intro _ | with_reducible assumption | with_reducible apply State.faultAt_steady | with_reducible apply State.stall_steady
    | with_reducible apply State.retire_steady | with_reducible apply State.setCore_steady | with_reducible apply Steady.ite

theorem execVls_steady {s0 s : State} (h : Steady s0 s) (core : Nat) (w : Word) :
    Answers s0 (execVls core w s) := by
  unfold execVls; repeat' first
    | intro _ | with_reducible assumption | with_reducible apply State.faultAt_steady | with_reducible apply State.stall_steady
    | with_reducible apply State.retire_steady | with_reducible apply State.issue_steady | with_reducible apply State.vlsRow_steady
    | with_reducible apply State.setCore_steady | with_reducible apply Answers.next | with_reducible apply Answers.ite
    | with_reducible apply Steady.ite

theorem execMma_steady {s0 s : State} (h : Steady s0 s) (core : Nat) (w : Word) :
    Answers s0 (execMma core w s) := by
  unfold execMma; repeat' first
    | intro _ | with_reducible assumption | with_reducible apply State.faultAt_steady | with_reducible apply State.stall_steady
    | with_reducible apply State.retire_steady | with_reducible apply State.issue_steady | with_reducible apply State.setCore_steady
    | with_reducible apply Answers.next | with_reducible apply Answers.ite | with_reducible apply Steady.ite
    | (fail_if_no_progress (with_reducible (refine Steady.of ?_ rfl rfl rfl rfl rfl rfl rfl rfl)))
    | with_reducible (refine Steady.snd (by assumption) ?_) | with_reducible (refine Steady.snd2 (by assumption) ?_)
    | with_reducible apply foldl_steady | split

theorem State.matrixTime_steady {s0 s : State} (h : Steady s0 s) (ctx : Nat) (n : Nat) :
    Steady s0 (s.matrixTime ctx n) := by
  unfold State.matrixTime; repeat' first
    | intro _ | with_reducible assumption | with_reducible apply State.modCtx_steady

theorem State.mmaRun_steady {s0 s : State} (h : Steady s0 s) (core : Nat) (k : Nat) (x : Slot) (o : MatOp) (j : Nat) :
    Steady s0 (s.mmaRun core k x o j) := by
  unfold State.mmaRun; repeat' first
    | intro _ | with_reducible assumption | with_reducible apply State.matrixTime_steady | with_reducible apply State.setCore_steady

theorem execMmaExecute_steady {s0 s : State} (h : Steady s0 s) (core : Nat) :
    Answers s0 (execMmaExecute core s) := by
  unfold execMmaExecute; repeat' first
    | intro _ | with_reducible assumption | with_reducible apply stay_steady | with_reducible apply State.mmaRun_steady
    | with_reducible apply Answers.next | with_reducible apply Answers.ite | with_reducible apply Steady.ite
    | (fail_if_no_progress (with_reducible (refine Steady.of ?_ rfl rfl rfl rfl rfl rfl rfl rfl)))
    | with_reducible (refine Steady.snd (by assumption) ?_) | with_reducible (refine Steady.snd2 (by assumption) ?_)
    | with_reducible apply foldl_steady | split

theorem execRq_steady {s0 s : State} (h : Steady s0 s) (core : Nat) (w : Word) :
    Answers s0 (execRq core w s) := by
  unfold execRq; repeat' first
    | intro _ | with_reducible assumption | with_reducible apply State.faultAt_steady | with_reducible apply State.stall_steady
    | with_reducible apply State.issue_steady | with_reducible apply State.setSlot_steady | with_reducible apply State.setCore_steady
    | with_reducible apply Answers.next | with_reducible apply Answers.ite | with_reducible apply Steady.ite
    | (fail_if_no_progress (with_reducible (refine Steady.of ?_ rfl rfl rfl rfl rfl rfl rfl rfl)))
    | with_reducible (refine Steady.snd (by assumption) ?_) | with_reducible (refine Steady.snd2 (by assumption) ?_)
    | with_reducible apply foldl_steady | split

theorem State.rqCounts_steady {s0 s : State} (h : Steady s0 s) (c : Nat) (k : Nat) (x : Slot) (way : Nat) (tile : Nat) (tag : Nat) :
    Steady s0 (s.rqCounts c k x way tile tag) := by
  unfold State.rqCounts; repeat' first
    | intro _ | with_reducible assumption | with_reducible apply State.sieveTile_steady | with_reducible apply State.setCore_steady
    | with_reducible apply State.addPartials_steady | with_reducible apply State.flushSlot_steady | with_reducible apply Steady.ite

theorem State.guardEnter_steady {s0 s : State} (h : Steady s0 s) (c : Nat) (k : Nat) (x : Slot) (o : MatOp) (way : Nat) (a : Assay) (body : Bytes) :
    Steady s0 (s.guardEnter c k x o way a body) := by
  unfold State.guardEnter; repeat' first
    | intro _ | with_reducible assumption | with_reducible apply State.modSlot_steady

theorem State.rqMissed_steady {s0 s : State} (h : Steady s0 s) (c : Nat) (k : Nat) (x : Slot) (o : MatOp) (way : Nat) (a : Assay) (miss : List Nat) :
    Steady s0 (s.rqMissed c k x o way a miss) := by
  unfold State.rqMissed; repeat' first
    | intro _ | with_reducible assumption | with_reducible apply State.modSlot_steady | with_reducible apply State.faultSlot_steady
    | with_reducible apply State.missPut_steady | with_reducible apply Steady.ite

theorem State.bumpSafe_steady {s0 s : State} (h : Steady s0 s) (core : Nat) (k : Nat) (x : Slot) (off : Nat) :
    Steady s0 (s.bumpSafe core k x off) := by
  unfold State.bumpSafe; repeat' first
    | intro _ | with_reducible assumption | with_reducible apply State.addUpdate_steady

theorem State.rqStart_steady {s0 s : State} (h : Steady s0 s) (core : Nat) (k : Nat) (x : Slot) (o : MatOp) :
    Steady s0 (s.rqStart core k x o).2 := by
  unfold State.rqStart; repeat' first
    | intro _ | with_reducible assumption | with_reducible apply State.bumpSafe_steady | with_reducible apply State.matrixTime_steady
    | with_reducible apply State.setCore_steady | with_reducible apply Steady.ite
    | (fail_if_no_progress (with_reducible (refine Steady.of ?_ rfl rfl rfl rfl rfl rfl rfl rfl)))
    | with_reducible (refine Steady.snd (by assumption) ?_) | with_reducible (refine Steady.snd2 (by assumption) ?_)
    | with_reducible apply foldl_steady | split

theorem State.rqRows_steady {s0 s : State} (h : Steady s0 s) (core : Nat) (k : Nat) (x : Slot) (o : MatOp) (j : Nat) :
    Steady s0 (s.rqRows core k x o j) := by
  unfold State.rqRows; repeat' first
    | intro _ | with_reducible assumption | with_reducible apply State.matrixTime_steady | with_reducible apply State.setCore_steady

theorem State.rqLeave_steady {s0 s : State} (h : Steady s0 s) (core : Nat) (k : Nat) :
    Steady s0 (s.rqLeave core k) := by
  unfold State.rqLeave; repeat' first
    | intro _ | with_reducible assumption | with_reducible apply State.setCore_steady

theorem execRqExecute_steady {s0 s : State} (h : Steady s0 s) (core : Nat) :
    Answers s0 (execRqExecute core s) := by
  unfold execRqExecute; repeat' first
    | intro _ | with_reducible assumption | with_reducible apply State.rqLeave_steady | with_reducible apply stay_steady
    | with_reducible apply State.guardEnter_steady | with_reducible apply State.modSlot_steady | with_reducible apply State.rqMissed_steady
    | with_reducible apply State.rqCounts_steady | with_reducible apply State.rqStart_steady | with_reducible apply State.rqRows_steady
    | with_reducible apply Answers.next | with_reducible apply Answers.ite | with_reducible apply Steady.ite
    | (fail_if_no_progress (with_reducible (refine Steady.of ?_ rfl rfl rfl rfl rfl rfl rfl rfl)))
    | with_reducible (refine Steady.snd (by assumption) ?_) | with_reducible (refine Steady.snd2 (by assumption) ?_)
    | with_reducible apply foldl_steady | split

theorem State.matStop_steady {s0 s : State} (h : Steady s0 s) (core : Nat) (k : Nat) :
    Steady s0 (s.matStop core k) := by
  unfold State.matStop; repeat' first
    | intro _ | with_reducible assumption | with_reducible apply State.mmaRun_steady | with_reducible apply State.rqStart_steady
    | with_reducible apply State.useFree_steady | with_reducible apply State.rqRows_steady | with_reducible apply Steady.ite
    | (fail_if_no_progress (with_reducible (refine Steady.of ?_ rfl rfl rfl rfl rfl rfl rfl rfl)))
    | with_reducible (refine Steady.snd (by assumption) ?_) | with_reducible (refine Steady.snd2 (by assumption) ?_)
    | with_reducible apply foldl_steady | split

theorem State.matDrain_steady {s0 s : State} (h : Steady s0 s) (core : Nat) (k : Nat) (fuel : Nat) :
    Steady s0 (s.matDrain core k fuel) := by
  induction fuel generalizing s core k with
  | zero => unfold State.matDrain; exact h
  | succ fuel ih =>
  unfold State.matDrain; repeat' first
    | with_reducible apply ih | intro _ | with_reducible assumption | with_reducible apply State.mmaRun_steady
    | with_reducible apply State.mmaRun_steady | with_reducible apply Steady.ite
    | (fail_if_no_progress (with_reducible (refine Steady.of ?_ rfl rfl rfl rfl rfl rfl rfl rfl)))
    | with_reducible (refine Steady.snd (by assumption) ?_) | with_reducible (refine Steady.snd2 (by assumption) ?_)
    | with_reducible apply foldl_steady | split

theorem State.sgFailed_steady {s0 s : State} (h : Steady s0 s) (u : SgUpdate) (va : Nat) (status : Nat) :
    Steady s0 (s.sgFailed u va status) := by
  unfold State.sgFailed; repeat' first
    | intro _ | with_reducible assumption | with_reducible apply State.ctxFaultRecord_steady | with_reducible apply State.useFree_steady

theorem execSafeguardUpdateComplete_steady {s0 s : State} (h : Steady s0 s) (upd : Nat) :
    Answers s0 (execSafeguardUpdateComplete upd s) := by
  unfold execSafeguardUpdateComplete; repeat' first
    | intro _ | with_reducible assumption | with_reducible apply stay_steady | with_reducible apply State.readLine_steady
    | with_reducible apply State.writeLine_steady | with_reducible apply State.sgFailed_steady | with_reducible apply State.sieveCtx_steady
    | with_reducible apply Answers.next | with_reducible apply Answers.ite | with_reducible apply Steady.ite
    | (fail_if_no_progress (with_reducible (refine Steady.of ?_ rfl rfl rfl rfl rfl rfl rfl rfl)))
    | with_reducible (refine Steady.snd (by assumption) ?_) | with_reducible (refine Steady.snd2 (by assumption) ?_)
    | with_reducible apply foldl_steady | split | dsimp only

theorem State.xlateTile_steady {s0 s : State} (h : Steady s0 s) (c ctx : Nat) (accOf : Nat → Nat) (prefetch : Bool) (dropped : List Nat)
    (l : List (Nat × Nat)) (map : Tbl (Option Nat)) (seen last : Nat) :
    Steady s0 (s.xlateTile c ctx accOf prefetch dropped l map seen last).2 := by
  induction l generalizing s map seen last with
  | nil => exact h
  | cons e l ih =>
    obtain ⟨p, va⟩ := e
    have g := State.lookup_steady h c ctx va (accOf va)
    unfold State.xlateTile; dsimp only
    split
    · exact h
    · split <;> rename_i e <;> rw [e] at g
      · exact ih g _ _ _
      · split
        · exact ih g _ _ _
        · exact g
      · split
        · exact ih g _ _ _
        · exact g
      · exact g

theorem State.issueBurst_steady {s0 s : State} (h : Steady s0 s) (c : Nat) (q : Req) :
    Steady s0 (s.issueBurst c q) := by
  unfold State.issueBurst; repeat' first
    | intro _ | with_reducible assumption | with_reducible apply State.issueReq_steady | with_reducible apply Steady.ite
    | (fail_if_no_progress (with_reducible (refine Steady.of ?_ rfl rfl rfl rfl rfl rfl rfl rfl)))
    | with_reducible (refine Steady.snd (by assumption) ?_) | with_reducible (refine Steady.snd2 (by assumption) ?_)
    | with_reducible apply foldl_steady | split

theorem State.pumpOne_steady {s0 s : State} (h : Steady s0 s) (c : Nat) :
    Steady s0 (s.pumpOne c) := by
  unfold State.pumpOne; repeat' first
    | intro _ | with_reducible assumption | with_reducible apply State.issueBurst_steady | with_reducible apply State.setCore_steady
    | with_reducible apply Steady.ite | (fail_if_no_progress (with_reducible (refine Steady.of ?_ rfl rfl rfl rfl rfl rfl rfl rfl)))
    | with_reducible (refine Steady.snd (by assumption) ?_) | with_reducible (refine Steady.snd2 (by assumption) ?_)
    | with_reducible apply foldl_steady | split

theorem State.pump_steady {s0 s : State} (h : Steady s0 s) (c : Nat) :
    Steady s0 (s.pump c) := by
  unfold State.pump; repeat' first
    | intro _ | with_reducible assumption | with_reducible apply foldS_steady | with_reducible apply State.pumpOne_steady

theorem State.issueTile_steady {s0 s : State} (h : Steady s0 s) (c : Nat) (k : Nat) (x : Slot) (t : Tile) (group : Nat) (lane : Nat) (pc : Word) (map : Tbl (Option Nat)) :
    Steady s0 (s.issueTile c k x t group lane pc map) := by
  unfold State.issueTile; repeat' first
    | intro _ | with_reducible assumption | with_reducible apply State.pump_steady | with_reducible apply State.setCore_steady

theorem execTdma_steady {s0 s : State} (h : Steady s0 s) (core : Nat) (w : Word) :
    Answers s0 (execTdma core w s) := by
  unfold execTdma; repeat' first
    | intro _ | with_reducible assumption | with_reducible apply State.faultAt_steady | with_reducible apply State.stall_steady
    | with_reducible apply State.retire_steady | with_reducible apply State.issue_steady | with_reducible apply State.xltFault_steady
    | with_reducible apply State.xlateTile_steady | with_reducible apply State.waitWalk_steady | with_reducible apply State.issueTile_steady
    | with_reducible apply Answers.next | with_reducible apply Answers.ite | with_reducible apply Steady.ite
    | (fail_if_no_progress (with_reducible (refine Steady.of ?_ rfl rfl rfl rfl rfl rfl rfl rfl)))
    | with_reducible (refine Steady.snd (by assumption) ?_) | with_reducible (refine Steady.snd2 (by assumption) ?_)
    | with_reducible apply foldl_steady | split | dsimp only

theorem State.deliver_steady {s0 s : State} (h : Steady s0 s) (ctx : Nat) (c : Nat) (k : Nat) (l : Nat) (d : Bytes) :
    Steady s0 (s.deliver ctx c k l d) := by
  unfold State.deliver; repeat' first
    | intro _ | with_reducible assumption | with_reducible apply State.setCore_steady | with_reducible apply Steady.ite
    | (fail_if_no_progress (with_reducible (refine Steady.of ?_ rfl rfl rfl rfl rfl rfl rfl rfl)))
    | with_reducible (refine Steady.snd (by assumption) ?_) | with_reducible (refine Steady.snd2 (by assumption) ?_)
    | with_reducible apply foldl_steady | split

theorem execTileDmaBurstComplete_steady {s0 s : State} (h : Steady s0 s) (req : Nat) :
    Answers s0 (execTileDmaBurstComplete req s) := by
  unfold execTileDmaBurstComplete; repeat' first
    | intro _ | with_reducible assumption | with_reducible apply State.pump_steady | with_reducible apply State.dropReq_steady
    | with_reducible apply stay_steady | with_reducible apply State.setCore_steady | with_reducible apply State.faultSlot_steady
    | with_reducible apply State.useFree_steady | with_reducible apply State.deliver_steady | with_reducible apply foldS_steady
    | with_reducible apply Answers.next | with_reducible apply Answers.ite | with_reducible apply Steady.ite
    | (fail_if_no_progress (with_reducible (refine Steady.of ?_ rfl rfl rfl rfl rfl rfl rfl rfl)))
    | with_reducible (refine Steady.snd (by assumption) ?_) | with_reducible (refine Steady.snd2 (by assumption) ?_)
    | with_reducible apply foldl_steady | split

theorem execDwait_steady {s0 s : State} (h : Steady s0 s) (core : Nat) (w : Word) :
    Answers s0 (execDwait core w s) := by
  unfold execDwait; repeat' first
    | intro _ | with_reducible assumption | with_reducible apply State.retire_steady | with_reducible apply State.issue_steady
    | with_reducible apply State.setSlot_steady | with_reducible apply Answers.next | with_reducible apply Answers.ite
    | with_reducible apply Steady.ite

theorem execSlaunch_steady {s0 s : State} (h : Steady s0 s) (core : Nat) (w : Word) :
    Answers s0 (execSlaunch core w s) := by
  unfold execSlaunch; repeat' first
    | intro _ | with_reducible assumption | with_reducible apply State.faultAt_steady | with_reducible apply State.stall_steady
    | with_reducible apply State.retire_steady | with_reducible apply State.issue_steady | with_reducible apply Answers.next
    | with_reducible apply Answers.ite | with_reducible apply Steady.ite

theorem State.scriptRead_on {s0 s : State} (h : Steady s0 s) (c k : Nat) (x : Slot) (l va : Nat) :
    OnState s0 id Prod.snd (s.scriptRead c k x l va) := by
  have g := State.lookup_steady h c x.ctx va 0
  unfold State.scriptRead; dsimp only
  split <;> rename_i e <;> rw [e] at g
  · split
    · exact Steady.snd2 ‹_› (State.readLine_steady g _ _ _ _)
    · exact State.faultSlot_steady (Steady.snd2 ‹_› (State.readLine_steady g _ _ _ _)) _ _ _
  · split
    · exact g
    · exact State.startWalk_getD_steady g g _ _ _ _ _
  · exact State.modSlot_steady (State.xltFault_steady g _ _ _ _ _ _ _ _ _) _ _ _
  · exact State.faultSlot_steady g _ _ _

theorem State.scriptRead_steady {s0 s t : State} (h : Steady s0 s) {c k : Nat} {x : Slot} {l va : Nat} {b : Bytes}
    (e : s.scriptRead c k x l va = .ok (b, t)) : Steady s0 t := by
  have g := State.scriptRead_on h c k x l va
  rw [e] at g; exact g

theorem State.scriptRead_error_steady {s0 s t : State} (h : Steady s0 s) {c k : Nat} {x : Slot} {l va : Nat}
    (e : s.scriptRead c k x l va = .error t) : Steady s0 t := by
  have g := State.scriptRead_on h c k x l va
  rw [e] at g; exact g

theorem State.issueEntry_steady {s0 s : State} (h : Steady s0 s) (c : Nat) (k : Nat) (x : Slot) (l : Nat) (nEntry : Nat) (rep : Bool) (b : Bytes) :
    Steady s0 (s.issueEntry c k x l nEntry rep b) := by
  unfold State.issueEntry; repeat' first
    | intro _ | with_reducible assumption | with_reducible apply State.modSlot_steady | with_reducible apply State.xltFault_steady
    | with_reducible apply State.xlateTile_steady | with_reducible apply State.faultSlot_steady
    | with_reducible (refine State.startWalk_steady ?_ (by assumption)) | with_reducible apply State.startWalk_getD_steady
    | with_reducible apply State.issueTile_steady | with_reducible apply Steady.ite
    | (fail_if_no_progress (with_reducible (refine Steady.of ?_ rfl rfl rfl rfl rfl rfl rfl rfl)))
    | with_reducible (refine Steady.snd (by assumption) ?_) | with_reducible (refine Steady.snd2 (by assumption) ?_)
    | with_reducible apply foldl_steady | split | dsimp only

theorem execScriptEntryIssue_steady {s0 s : State} (h : Steady s0 s) (core : Nat) (slot : Nat) (lane : Nat) :
    Answers s0 (execScriptEntryIssue core slot lane s) := by
  unfold execScriptEntryIssue; repeat' first
    | intro _ | with_reducible assumption | with_reducible (refine State.scriptRead_steady ?_ (by assumption))
    | with_reducible (refine State.scriptRead_error_steady ?_ (by assumption)) | with_reducible apply stay_steady
    | with_reducible apply State.issueEntry_steady | with_reducible apply Answers.next | with_reducible apply Answers.ite
    | with_reducible apply Steady.ite | (fail_if_no_progress (with_reducible (refine Steady.of ?_ rfl rfl rfl rfl rfl rfl rfl rfl)))
    | with_reducible (refine Steady.snd (by assumption) ?_) | with_reducible (refine Steady.snd2 (by assumption) ?_)
    | with_reducible apply foldl_steady | split

theorem execSrel_steady {s0 s : State} (h : Steady s0 s) (core : Nat) (w : Word) :
    Answers s0 (execSrel core w s) := by
  unfold execSrel; repeat' first
    | intro _ | with_reducible assumption | with_reducible apply State.retire_steady | with_reducible apply State.issue_steady

theorem State.postOffer_steady {s0 s : State} (h : Steady s0 s) (o : Offer) :
    Steady s0 (s.postOffer o) := by
  unfold State.postOffer; repeat' first
    | intro _ | with_reducible assumption | with_reducible apply Steady.ite
    | (fail_if_no_progress (with_reducible (refine Steady.of ?_ rfl rfl rfl rfl rfl rfl rfl rfl)))

theorem State.offerWord_steady {s0 s : State} (h : Steady s0 s) (pa : Nat) (v : BitVec 32) :
    Steady s0 (s.offerWord pa v).2.2 := by
  unfold State.offerWord; repeat' first
    | intro _ | with_reducible assumption | with_reducible apply State.wake_steady | with_reducible apply State.putLine_steady
    | with_reducible apply Steady.ite | (fail_if_no_progress (with_reducible (refine Steady.of ?_ rfl rfl rfl rfl rfl rfl rfl rfl)))
    | with_reducible (refine Steady.snd (by assumption) ?_) | with_reducible (refine Steady.snd2 (by assumption) ?_)
    | with_reducible apply foldl_steady | split | dsimp only

theorem State.offerAt_steady {s0 s : State} (h : Steady s0 s) (ctx : Nat) (folio : Nat) (epoch : Nat) (pa : Nat) (v : BitVec 32) :
    Steady s0 (s.offerAt ctx folio epoch pa v).2.2 := by
  unfold State.offerAt; repeat' first
    | intro _ | with_reducible assumption | with_reducible apply State.offerWord_steady | with_reducible apply Steady.ite
    | (fail_if_no_progress (with_reducible (refine Steady.of ?_ rfl rfl rfl rfl rfl rfl rfl rfl)))
    | with_reducible (refine Steady.snd (by assumption) ?_) | with_reducible (refine Steady.snd2 (by assumption) ?_)
    | with_reducible apply foldl_steady | split

theorem State.addStale_steady {s0 s : State} (h : Steady s0 s) (ctx : Nat) :
    Steady s0 (s.addStale ctx) := by
  unfold State.addStale; repeat' first
    | intro _ | with_reducible assumption | with_reducible apply State.modCtx_steady

theorem State.offerFault_steady {s0 s : State} (h : Steady s0 s) (c : Nat) (k : Nat) (o : Offer) (e : Cpl) :
    Steady s0 (s.offerFault c k o e) := by
  unfold State.offerFault; repeat' first
    | intro _ | with_reducible assumption | with_reducible apply State.faultSlot_steady | with_reducible apply Steady.ite
    | (fail_if_no_progress (with_reducible (refine Steady.of ?_ rfl rfl rfl rfl rfl rfl rfl rfl)))
    | with_reducible (refine Steady.snd (by assumption) ?_) | with_reducible (refine Steady.snd2 (by assumption) ?_)
    | with_reducible apply foldl_steady | split

theorem State.offerEnd_steady {s0 s : State} (h : Steady s0 s) (id : Nat) (o : Offer) (e : Cpl) (stale : Bool) :
    Steady s0 (s.offerEnd id o e stale) := by
  unfold State.offerEnd; repeat' first
    | intro _ | with_reducible assumption | with_reducible apply State.offerFault_steady | with_reducible apply State.addStale_steady
    | with_reducible apply Steady.ite | (fail_if_no_progress (with_reducible (refine Steady.of ?_ rfl rfl rfl rfl rfl rfl rfl rfl)))
    | with_reducible (refine Steady.snd (by assumption) ?_) | with_reducible (refine Steady.snd2 (by assumption) ?_)
    | with_reducible apply foldl_steady | split

theorem State.offerReq_steady {s0 s : State} (h : Steady s0 s) (id : Nat) (o : Offer) (len : Nat) (d : Bytes) :
    Steady s0 (s.offerReq id o len d) := by
  unfold State.offerReq; repeat' first
    | intro _ | with_reducible assumption | with_reducible apply State.issueReq_steady

theorem execFenceOffer_steady {s0 s : State} (h : Steady s0 s) (offer : Nat) :
    Answers s0 (execFenceOffer offer s) := by
  unfold execFenceOffer; repeat' first
    | intro _ | with_reducible assumption | with_reducible apply State.offerReq_steady | with_reducible apply stay_steady
    | with_reducible apply State.offerAt_steady | with_reducible apply State.offerEnd_steady | with_reducible apply Answers.next
    | with_reducible apply Answers.ite | with_reducible apply Steady.ite
    | (fail_if_no_progress (with_reducible (refine Steady.of ?_ rfl rfl rfl rfl rfl rfl rfl rfl)))
    | with_reducible (refine Steady.snd (by assumption) ?_) | with_reducible (refine Steady.snd2 (by assumption) ?_)
    | with_reducible apply foldl_steady | split

theorem execFsig_steady {s0 s : State} (h : Steady s0 s) (core : Nat) (w : Word) :
    Answers s0 (execFsig core w s) := by
  unfold execFsig; repeat' first
    | intro _ | with_reducible assumption | with_reducible apply State.postOffer_steady | with_reducible apply State.faultAt_steady
    | with_reducible apply State.retire_steady | with_reducible apply State.issue_steady
    | with_reducible (refine State.xlate_steady ?_ (by assumption)) | with_reducible (refine State.xlate_error_steady ?_ (by assumption))
    | with_reducible apply Answers.next | with_reducible apply Answers.ite | with_reducible apply Steady.ite
    | (fail_if_no_progress (with_reducible (refine Steady.of ?_ rfl rfl rfl rfl rfl rfl rfl rfl)))
    | with_reducible (refine Steady.snd (by assumption) ?_) | with_reducible (refine Steady.snd2 (by assumption) ?_)
    | with_reducible apply foldl_steady | split

theorem State.fwaitWait_steady {s0 s : State} (h : Steady s0 s) (c : Nat) (k : Nat) (x : Slot) (w : Word) (a : Nat) (pa : Nat) (target : BitVec 32) (tmo : Nat) :
    Steady s0 (s.fwaitWait c k x w a pa target tmo) := by
  unfold State.fwaitWait; repeat' first
    | intro _ | with_reducible assumption | with_reducible apply State.setSlot_steady | with_reducible apply State.bumpId_steady
    | with_reducible apply State.takeWatch_steady

theorem State.fwaitRead_steady {s0 s : State} (h : Steady s0 s) (c : Nat) (k : Nat) (x : Slot) (w : Word) (a : Nat) (pa : Nat) (b : Bytes) :
    Steady s0 (s.fwaitRead c k x w a pa b) := by
  unfold State.fwaitRead; repeat' first
    | intro _ | with_reducible assumption | with_reducible apply State.retire_steady | with_reducible apply State.fwaitWait_steady
    | with_reducible apply Steady.ite

theorem execFwait_steady {s0 s : State} (h : Steady s0 s) (core : Nat) (w : Word) :
    Answers s0 (execFwait core w s) := by
  unfold execFwait; repeat' first
    | intro _ | with_reducible assumption | with_reducible apply State.faultAt_steady | with_reducible apply State.stall_steady
    | with_reducible apply State.dropReq_steady | with_reducible apply State.issue_steady | with_reducible apply State.waitReq_steady
    | with_reducible (refine State.xlate_steady ?_ (by assumption)) | with_reducible (refine State.xlate_error_steady ?_ (by assumption))
    | with_reducible apply State.modSlot_steady | with_reducible apply State.readLine_steady | with_reducible apply State.fwaitRead_steady
    | with_reducible apply State.faultOn_steady | with_reducible apply Answers.next | with_reducible apply Answers.ite
    | with_reducible apply Steady.ite | (fail_if_no_progress (with_reducible (refine Steady.of ?_ rfl rfl rfl rfl rfl rfl rfl rfl)))
    | with_reducible (refine Steady.snd (by assumption) ?_) | with_reducible (refine Steady.snd2 (by assumption) ?_)
    | with_reducible apply foldl_steady | split

theorem execFwaitTimeout_steady {s0 s : State} (h : Steady s0 s) (core : Nat) (slot : Nat) :
    Answers s0 (execFwaitTimeout core slot s) := by
  unfold execFwaitTimeout; repeat' first
    | intro _ | with_reducible assumption | with_reducible apply stay_steady | with_reducible apply State.fenceCheck_steady
    | with_reducible apply Answers.next | with_reducible apply Answers.ite | with_reducible apply Steady.ite
    | (fail_if_no_progress (with_reducible (refine Steady.of ?_ rfl rfl rfl rfl rfl rfl rfl rfl)))
    | with_reducible (refine Steady.snd (by assumption) ?_) | with_reducible (refine Steady.snd2 (by assumption) ?_)
    | with_reducible apply foldl_steady | split

theorem State.pollAgain_steady {s0 s : State} (h : Steady s0 s) (c : Nat) (k : Nat) (f : FenceWait) :
    Steady s0 (s.pollAgain c k f) := by
  unfold State.pollAgain; repeat' first
    | intro _ | with_reducible assumption | with_reducible apply State.modSlot_steady

theorem State.pollFault_steady {s0 s : State} (h : Steady s0 s) (c : Nat) (k : Nat) (x : Slot) (f : FenceWait) (e : Cpl) :
    Steady s0 (s.pollFault c k x f e) := by
  unfold State.pollFault; repeat' first
    | intro _ | with_reducible assumption | with_reducible apply State.dropWatch_steady | with_reducible apply State.faultOn_steady

theorem execFwaitPoll_steady {s0 s : State} (h : Steady s0 s) (core : Nat) (slot : Nat) :
    Answers s0 (execFwaitPoll core slot s) := by
  unfold execFwaitPoll; repeat' first
    | intro _ | with_reducible assumption | with_reducible apply State.fenceHit_steady | with_reducible apply State.dropReq_steady
    | with_reducible apply State.pollFault_steady | with_reducible apply stay_steady | with_reducible apply State.issueReq_steady
    | with_reducible apply State.fenceCheck_steady | with_reducible apply State.readLine_steady | with_reducible apply State.pollAgain_steady
    | with_reducible apply Answers.next | with_reducible apply Answers.ite | with_reducible apply Steady.ite
    | (fail_if_no_progress (with_reducible (refine Steady.of ?_ rfl rfl rfl rfl rfl rfl rfl rfl)))
    | with_reducible (refine Steady.snd (by assumption) ?_) | with_reducible (refine Steady.snd2 (by assumption) ?_)
    | with_reducible apply foldl_steady | split

theorem execFence_steady {s0 s : State} (h : Steady s0 s) (core : Nat) (w : Word) :
    Answers s0 (execFence core w s) := by
  unfold execFence; repeat' first
    | intro _ | with_reducible assumption | with_reducible apply State.stall_steady | with_reducible apply State.retire_steady
    | with_reducible apply State.issue_steady | with_reducible apply Answers.next | with_reducible apply Answers.ite
    | with_reducible apply Steady.ite

theorem State.barCheck_steady {s0 s : State} (h : Steady s0 s) (c : Nat) (k : Nat) :
    Steady s0 (s.barCheck c k) := by
  unfold State.barCheck; repeat' first
    | intro _ | with_reducible assumption | with_reducible apply State.setSlot_steady | with_reducible apply Steady.ite
    | (fail_if_no_progress (with_reducible (refine Steady.of ?_ rfl rfl rfl rfl rfl rfl rfl rfl)))
    | with_reducible (refine Steady.snd (by assumption) ?_) | with_reducible (refine Steady.snd2 (by assumption) ?_)
    | with_reducible apply foldl_steady | split

theorem State.recheck_steady {s0 s : State} (h : Steady s0 s) (c : Nat) (k : Nat) :
    Steady s0 (s.recheck c k) := by
  unfold State.recheck; repeat' first
    | intro _ | with_reducible assumption | with_reducible apply State.fenceCheck_steady | with_reducible apply State.barCheck_steady

theorem State.recheckCtx_steady {s0 s : State} (h : Steady s0 s) (ctx : Nat) :
    Steady s0 (s.recheckCtx ctx) := by
  unfold State.recheckCtx; repeat' first
    | intro _ | with_reducible assumption | with_reducible apply State.recheck_steady | with_reducible apply foldS_steady

theorem State.arrive_steady {s0 s : State} (h : Steady s0 s) (ctx : Nat) (id : Nat) (rank : Nat) (phase : Nat) :
    Steady s0 (s.arrive ctx id rank phase) := by
  unfold State.arrive; repeat' first
    | intro _ | with_reducible assumption | with_reducible apply State.barCheck_steady | with_reducible apply State.modSlot_steady
    | with_reducible apply foldS_steady

theorem State.barSend_steady {s0 s : State} (h : Steady s0 s) (m : BarMsg) :
    Steady s0 (s.barSend m) := by
  unfold State.barSend; repeat' first
    | intro _ | with_reducible assumption | with_reducible apply State.useFree_steady | with_reducible apply foldS_steady
    | with_reducible apply State.send_steady | with_reducible apply Steady.ite
    | (fail_if_no_progress (with_reducible (refine Steady.of ?_ rfl rfl rfl rfl rfl rfl rfl rfl)))
    | with_reducible (refine Steady.snd (by assumption) ?_) | with_reducible (refine Steady.snd2 (by assumption) ?_)
    | with_reducible apply foldl_steady | split

theorem execBarrierArrival_steady {s0 s : State} (h : Steady s0 s) (msg : Nat) :
    Answers s0 (execBarrierArrival msg s) := by
  unfold execBarrierArrival; repeat' first
    | intro _ | with_reducible assumption | with_reducible apply stay_steady | with_reducible apply State.arrive_steady
    | with_reducible apply State.barSend_steady | with_reducible apply Answers.next | with_reducible apply Answers.ite
    | with_reducible apply Steady.ite | (fail_if_no_progress (with_reducible (refine Steady.of ?_ rfl rfl rfl rfl rfl rfl rfl rfl)))
    | with_reducible (refine Steady.snd (by assumption) ?_) | with_reducible (refine Steady.snd2 (by assumption) ?_)
    | with_reducible apply foldl_steady | split

theorem State.barArrive_steady {s0 s : State} (h : Steady s0 s) (c : Nat) (k : Nat) (x : Slot) (id : Nat) (scope : Nat) (groups : Nat) :
    Steady s0 (s.barArrive c k x id scope groups) := by
  unfold State.barArrive; repeat' first
    | intro _ | with_reducible assumption | with_reducible apply Steady.ite
    | (fail_if_no_progress (with_reducible (refine Steady.of ?_ rfl rfl rfl rfl rfl rfl rfl rfl)))

theorem State.barWaitAt_steady {s0 s : State} (h : Steady s0 s) (c : Nat) (k : Nat) (x : Slot) (id : Nat) :
    Steady s0 (s.barWaitAt c k x id) := by
  unfold State.barWaitAt; repeat' first
    | intro _ | with_reducible assumption | with_reducible apply State.setSlot_steady

theorem execBar_steady {s0 s : State} (h : Steady s0 s) (core : Nat) (w : Word) :
    Answers s0 (execBar core w s) := by
  unfold execBar; repeat' first
    | intro _ | with_reducible assumption | with_reducible apply State.faultAt_steady | with_reducible apply State.retire_steady
    | with_reducible apply State.issue_steady | with_reducible apply State.barWaitAt_steady | with_reducible apply State.barArrive_steady
    | with_reducible apply Answers.next | with_reducible apply Answers.ite | with_reducible apply Steady.ite

theorem State.arbitrate_steady {s0 s t : State} (h : Steady s0 s) {home id : Nat} {q : Req} (e : s.arbitrate home id q = some t) : Steady s0 t := by
  unfold State.arbitrate at e; dsimp only at e
  split at e
  · split at e
    · cases e; exact Steady.upd h rfl rfl rfl rfl rfl rfl rfl rfl
    · cases e
  · cases e

theorem State.measure_steady {s0 s : State} (h : Steady s0 s) (h : Nat) (qos : Nat) (folio : Nat) (lat : Nat) :
    Steady s0 (s.measure h qos folio lat) := by
  unfold State.measure; repeat' first
    | intro _ | with_reducible assumption | with_reducible apply State.setFld_steady | with_reducible apply Steady.ite

theorem State.latency_steady {s0 s : State} (h : Steady s0 s) (q : Req) :
    Steady s0 (s.latency q) := by
  unfold State.latency; repeat' first
    | intro _ | with_reducible assumption | with_reducible apply State.measure_steady | with_reducible apply Steady.ite
    | (fail_if_no_progress (with_reducible (refine Steady.of ?_ rfl rfl rfl rfl rfl rfl rfl rfl)))
    | with_reducible (refine Steady.snd (by assumption) ?_) | with_reducible (refine Steady.snd2 (by assumption) ?_)
    | with_reducible apply foldl_steady | split

theorem State.finish_steady {s0 s : State} (h : Steady s0 s) (id : Nat) (q : Req) (e : Cpl) (rdata : Bytes) :
    Steady s0 (s.finish id q e rdata) := by
  unfold State.finish; repeat' first
    | intro _ | with_reducible assumption | with_reducible apply State.dropReq_steady | with_reducible apply State.latency_steady
    | with_reducible apply State.setReq_steady | with_reducible apply State.integFail_steady | with_reducible apply State.setStitch_steady
    | with_reducible apply State.send_steady | with_reducible apply State.offerEnd_steady | with_reducible apply Steady.ite
    | (fail_if_no_progress (with_reducible (refine Steady.of ?_ rfl rfl rfl rfl rfl rfl rfl rfl)))
    | with_reducible (refine Steady.snd (by assumption) ?_) | with_reducible (refine Steady.snd2 (by assumption) ?_)
    | with_reducible apply foldl_steady | split

theorem State.dirPut_steady {s0 s : State} (h : Steady s0 s) (h : Nat) (line : Nat) (e : DirEntry) :
    Steady s0 (s.dirPut h line e) := by
  unfold State.dirPut; repeat' first
    | intro _ | with_reducible assumption | with_reducible apply State.setHome_steady

theorem State.dirRemove_steady {s0 s : State} (h : Steady s0 s) (h : Nat) (line : Nat) (n : Nat) :
    Steady s0 (s.dirRemove h line n) := by
  unfold State.dirRemove; repeat' first
    | intro _ | with_reducible assumption | with_reducible apply State.dirPut_steady | with_reducible apply State.dirDel_steady
    | with_reducible apply Steady.ite | (fail_if_no_progress (with_reducible (refine Steady.of ?_ rfl rfl rfl rfl rfl rfl rfl rfl)))
    | with_reducible (refine Steady.snd (by assumption) ?_) | with_reducible (refine Steady.snd2 (by assumption) ?_)
    | with_reducible apply foldl_steady | split

theorem State.dirGrant_steady {s0 s : State} (h : Steady s0 s) (h : Nat) (line : Nat) (n : Nat) (st : LineSt) :
    Steady s0 (s.dirGrant h line n st) := by
  unfold State.dirGrant; repeat' first
    | intro _ | with_reducible assumption | with_reducible apply State.dirPut_steady | with_reducible apply Steady.ite
    | (fail_if_no_progress (with_reducible (refine Steady.of ?_ rfl rfl rfl rfl rfl rfl rfl rfl)))
    | with_reducible (refine Steady.snd (by assumption) ?_) | with_reducible (refine Steady.snd2 (by assumption) ?_)
    | with_reducible apply foldl_steady | split

theorem State.cohCount_steady {s0 s : State} (h : Steady s0 s) (h : Nat) (lo : Nat) (wd : Nat) :
    Steady s0 (s.cohCount h lo wd) := by
  unfold State.cohCount; repeat' first
    | intro _ | with_reducible assumption | with_reducible apply State.bumpFld_steady | with_reducible apply Steady.ite

theorem State.makeRoom_steady {s0 s : State} (h : Steady s0 s) (h : Nat) (line : Nat) :
    Steady s0 (s.makeRoom h line) := by
  unfold State.makeRoom; repeat' first
    | intro _ | with_reducible assumption | with_reducible apply State.cohCount_steady | with_reducible apply State.recallLine_steady
    | with_reducible apply Steady.ite | (fail_if_no_progress (with_reducible (refine Steady.of ?_ rfl rfl rfl rfl rfl rfl rfl rfl)))
    | with_reducible (refine Steady.snd (by assumption) ?_) | with_reducible (refine Steady.snd2 (by assumption) ?_)
    | with_reducible apply foldl_steady | split

theorem State.startTxn_steady {s0 s : State} (h : Steady s0 s) (h : Nat) (line : Nat) (req : Option Nat) (probes : List (Nat × PrbKind)) :
    Steady s0 (s.startTxn h line req probes) := by
  unfold State.startTxn; repeat' first
    | intro _ | with_reducible assumption | with_reducible apply State.setCache_steady | with_reducible apply State.setHome_steady
    | with_reducible apply foldS_steady

theorem State.endTxn_steady {s0 s : State} (h : Steady s0 s) (h : Nat) (line : Nat) :
    Steady s0 (s.endTxn h line) := by
  unfold State.endTxn; repeat' first
    | intro _ | with_reducible assumption | with_reducible apply State.setHome_steady

theorem State.grantWith_steady {s0 s : State} (h : Steady s0 s) (h : Nat) (line : Nat) (id : Nat) (q : Req) (d : Bytes) :
    Steady s0 (s.grantWith h line id q d) := by
  unfold State.grantWith; repeat' first
    | intro _ | with_reducible assumption | with_reducible apply State.latency_steady | with_reducible apply State.setReq_steady
    | with_reducible apply State.setHome_steady | with_reducible apply State.dirGrant_steady

theorem State.grantMem_steady {s0 s : State} (h : Steady s0 s) (h : Nat) (line : Nat) (id : Nat) (q : Req) :
    Steady s0 (s.grantMem h line id q) := by
  unfold State.grantMem; repeat' first
    | intro _ | with_reducible assumption | with_reducible apply State.finish_steady | with_reducible apply State.grantWith_steady
    | with_reducible apply State.endTxn_steady | with_reducible apply Steady.ite
    | (fail_if_no_progress (with_reducible (refine Steady.of ?_ rfl rfl rfl rfl rfl rfl rfl rfl)))
    | with_reducible (refine Steady.snd (by assumption) ?_) | with_reducible (refine Steady.snd2 (by assumption) ?_)
    | with_reducible apply foldl_steady | split

theorem State.toHost_steady {s0 s : State} (h : Steady s0 s) (id : Nat) (q : Req) :
    Steady s0 (s.toHost id q) := by
  unfold State.toHost; repeat' first
    | intro _ | with_reducible assumption | with_reducible apply State.atsFill_steady | with_reducible apply State.setReq_steady
    | with_reducible apply State.finish_steady | with_reducible apply State.emit_steady | with_reducible apply Steady.ite

theorem State.askBias_steady {s0 s : State} (h : Steady s0 s) (id : Nat) (q : Req) :
    Steady s0 (s.askBias id q) := by
  unfold State.askBias; repeat' first
    | intro _ | with_reducible assumption | with_reducible apply State.setReq_steady | with_reducible apply foldS_steady
    | with_reducible apply State.emit_steady

theorem State.serveShare_steady {s0 s : State} (h : Steady s0 s) (h : Nat) (id : Nat) (q : Req) :
    Steady s0 (s.serveShare h id q) := by
  unfold State.serveShare; repeat' first
    | intro _ | with_reducible assumption | with_reducible apply State.makeRoom_steady | with_reducible apply State.grantMem_steady
    | with_reducible apply State.startTxn_steady | with_reducible apply Steady.ite
    | (fail_if_no_progress (with_reducible (refine Steady.of ?_ rfl rfl rfl rfl rfl rfl rfl rfl)))
    | with_reducible (refine Steady.snd (by assumption) ?_) | with_reducible (refine Steady.snd2 (by assumption) ?_)
    | with_reducible apply foldl_steady | split | dsimp only

theorem State.serveOwn_steady {s0 s : State} (h : Steady s0 s) (h : Nat) (id : Nat) (q : Req) :
    Steady s0 (s.serveOwn h id q) := by
  unfold State.serveOwn; repeat' first
    | intro _ | with_reducible assumption | with_reducible apply State.makeRoom_steady | with_reducible apply State.grantMem_steady
    | with_reducible apply State.startTxn_steady | with_reducible apply Steady.ite
    | (fail_if_no_progress (with_reducible (refine Steady.of ?_ rfl rfl rfl rfl rfl rfl rfl rfl)))
    | with_reducible (refine Steady.snd (by assumption) ?_) | with_reducible (refine Steady.snd2 (by assumption) ?_)
    | with_reducible apply foldl_steady | split | dsimp only

theorem State.serveUpgrade_steady {s0 s : State} (h : Steady s0 s) (h : Nat) (id : Nat) (q : Req) :
    Steady s0 (s.serveUpgrade h id q) := by
  unfold State.serveUpgrade; repeat' first
    | intro _ | with_reducible assumption | with_reducible apply State.setReq_steady | with_reducible apply State.serveOwn_steady
    | with_reducible apply State.grantWith_steady | with_reducible apply State.startTxn_steady | with_reducible apply Steady.ite
    | (fail_if_no_progress (with_reducible (refine Steady.of ?_ rfl rfl rfl rfl rfl rfl rfl rfl)))
    | with_reducible (refine Steady.snd (by assumption) ?_) | with_reducible (refine Steady.snd2 (by assumption) ?_)
    | with_reducible apply foldl_steady | split

theorem State.homeServe_steady {s0 s : State} (h : Steady s0 s) (id : Nat) (kinds : List ReqKind) (go : State → Nat → Nat → Req → State) (h_go : ∀ st y1 y2 y3, Steady s0 st → Steady s0 (go st y1 y2 y3)) :
    Answers s0 (s.homeServe id kinds go) := by
  unfold State.homeServe; repeat' first
    | intro _ | with_reducible assumption | with_reducible apply stay_steady | with_reducible apply State.setReq_steady
    | with_reducible apply State.finish_steady | with_reducible apply State.askBias_steady | with_reducible apply State.toHost_steady
    | with_reducible (refine State.arbitrate_steady ?_ (by assumption)) | with_reducible apply Answers.next | with_reducible apply Answers.ite
    | apply h_go | with_reducible apply Steady.ite | (fail_if_no_progress (with_reducible (refine Steady.of ?_ rfl rfl rfl rfl rfl rfl rfl rfl)))
    | with_reducible (refine Steady.snd (by assumption) ?_) | with_reducible (refine Steady.snd2 (by assumption) ?_)
    | with_reducible apply foldl_steady | split | dsimp only

theorem execGetShare_steady {s0 s : State} (h : Steady s0 s) (req : Nat) :
    Answers s0 (execGetShare req s) := by
  unfold execGetShare; repeat' first
    | intro _ | with_reducible assumption | with_reducible apply State.homeServe_steady | with_reducible apply State.serveShare_steady

theorem execGetOwn_steady {s0 s : State} (h : Steady s0 s) (req : Nat) :
    Answers s0 (execGetOwn req s) := by
  unfold execGetOwn; repeat' first
    | intro _ | with_reducible assumption | with_reducible apply State.homeServe_steady | with_reducible apply State.serveOwn_steady

theorem execUpgrade_steady {s0 s : State} (h : Steady s0 s) (req : Nat) :
    Answers s0 (execUpgrade req s) := by
  unfold execUpgrade; repeat' first
    | intro _ | with_reducible assumption | with_reducible apply State.serveUpgrade_steady | with_reducible apply State.homeServe_steady

theorem State.glanceLine_steady {s0 s : State} (h : Steady s0 s) (h : Nat) (id : Nat) (line : Nat) (d : Bytes) :
    Steady s0 (s.glanceLine h id line d) := by
  unfold State.glanceLine; repeat' first
    | intro _ | with_reducible assumption | with_reducible apply State.setReq_steady | with_reducible apply State.finish_steady
    | with_reducible apply Steady.ite | (fail_if_no_progress (with_reducible (refine Steady.of ?_ rfl rfl rfl rfl rfl rfl rfl rfl)))
    | with_reducible (refine Steady.snd (by assumption) ?_) | with_reducible (refine Steady.snd2 (by assumption) ?_)
    | with_reducible apply foldl_steady | split

theorem State.glanceMem_steady {s0 s : State} (h : Steady s0 s) (h : Nat) (id : Nat) (line : Nat) :
    Steady s0 (s.glanceMem h id line) := by
  unfold State.glanceMem; repeat' first
    | intro _ | with_reducible assumption | with_reducible apply State.glanceLine_steady | with_reducible apply State.finish_steady
    | with_reducible apply Steady.ite | (fail_if_no_progress (with_reducible (refine Steady.of ?_ rfl rfl rfl rfl rfl rfl rfl rfl)))
    | with_reducible (refine Steady.snd (by assumption) ?_) | with_reducible (refine Steady.snd2 (by assumption) ?_)
    | with_reducible apply foldl_steady | split

theorem State.serveGlance_steady {s0 s : State} (h : Steady s0 s) (h : Nat) (id : Nat) (q : Req) :
    Steady s0 (s.serveGlance h id q) := by
  unfold State.serveGlance; repeat' first
    | intro _ | with_reducible assumption | with_reducible apply State.setReq_steady | with_reducible apply State.finish_steady
    | with_reducible apply foldS_steady | with_reducible apply State.startTxn_steady | with_reducible apply Steady.ite
    | (fail_if_no_progress (with_reducible (refine Steady.of ?_ rfl rfl rfl rfl rfl rfl rfl rfl)))
    | with_reducible (refine Steady.snd (by assumption) ?_) | with_reducible (refine Steady.snd2 (by assumption) ?_)
    | with_reducible apply foldl_steady | split | dsimp only

theorem execGlance_steady {s0 s : State} (h : Steady s0 s) (req : Nat) :
    Answers s0 (execGlance req s) := by
  unfold execGlance; repeat' first
    | intro _ | with_reducible assumption | with_reducible apply State.homeServe_steady | with_reducible apply State.serveGlance_steady

theorem State.putDone_steady {s0 s : State} (h : Steady s0 s) (id : Nat) (q : Req) :
    Steady s0 (s.putDone id q) := by
  unfold State.putDone; repeat' first
    | intro _ | with_reducible assumption | with_reducible apply State.wake_steady | with_reducible apply State.setReq_steady
    | with_reducible apply State.wakeRange_steady | with_reducible apply State.finish_steady | with_reducible apply State.rawWrite_steady
    | with_reducible apply Steady.ite | (fail_if_no_progress (with_reducible (refine Steady.of ?_ rfl rfl rfl rfl rfl rfl rfl rfl)))
    | with_reducible (refine Steady.snd (by assumption) ?_) | with_reducible (refine Steady.snd2 (by assumption) ?_)
    | with_reducible apply foldl_steady | split | dsimp only
    | (with_reducible refine Steady.ofMem ?_ rfl rfl rfl rfl rfl rfl ?_ ?_) <;> [skip; (intro hm; repeat' first | exact hm | apply wf_mwrite | apply wf_mzero | apply wf_filter | exact wf_nil); (intro hm; repeat' first | exact hm | apply wf_mwrite)]

theorem State.servePut_steady {s0 s : State} (h : Steady s0 s) (h : Nat) (id : Nat) (q : Req) :
    Steady s0 (s.servePut h id q) := by
  unfold State.servePut; repeat' first
    | intro _ | with_reducible assumption | with_reducible apply State.putDone_steady | with_reducible apply foldS_steady
    | with_reducible apply State.startTxn_steady | with_reducible apply Steady.ite

theorem execPutHome_steady {s0 s : State} (h : Steady s0 s) (req : Nat) :
    Answers s0 (execPutHome req s) := by
  unfold execPutHome; repeat' first
    | intro _ | with_reducible assumption | with_reducible apply State.servePut_steady | with_reducible apply State.homeServe_steady

theorem State.serveRawGet_steady {s0 s : State} (h : Steady s0 s) (_h : Nat) (id : Nat) (q : Req) :
    Steady s0 (s.serveRawGet _h id q) := by
  unfold State.serveRawGet; repeat' first
    | intro _ | with_reducible assumption | with_reducible apply State.finish_steady

theorem execRawGet_steady {s0 s : State} (h : Steady s0 s) (req : Nat) :
    Answers s0 (execRawGet req s) := by
  unfold execRawGet; repeat' first
    | intro _ | with_reducible assumption | with_reducible apply State.serveRawGet_steady | with_reducible apply State.homeServe_steady

theorem execRawPut_steady {s0 s : State} (h : Steady s0 s) (req : Nat) :
    Answers s0 (execRawPut req s) := by
  unfold execRawPut; repeat' first
    | intro _ | with_reducible assumption | with_reducible apply State.putDone_steady | with_reducible apply State.homeServe_steady

theorem State.answer_steady {s0 s : State} (h : Steady s0 s) (n : Nat) (line : Nat) (k : PrbKind) :
    Steady s0 (s.answer n line k) := by
  unfold State.answer; repeat' first
    | intro _ | with_reducible assumption | with_reducible apply State.setCache_steady | with_reducible apply Steady.ite
    | (fail_if_no_progress (with_reducible (refine Steady.of ?_ rfl rfl rfl rfl rfl rfl rfl rfl)))
    | with_reducible (refine Steady.snd (by assumption) ?_) | with_reducible (refine Steady.snd2 (by assumption) ?_)
    | with_reducible apply foldl_steady | split | dsimp only

theorem execPrbShare_steady {s0 s : State} (h : Steady s0 s) (slice : Nat) (line : Nat) :
    Answers s0 (execPrbShare slice line s) := by
  unfold execPrbShare; repeat' first
    | intro _ | with_reducible assumption | with_reducible apply State.answer_steady | with_reducible apply stay_steady
    | with_reducible apply Answers.next | with_reducible apply Answers.ite

theorem execPrbOwn_steady {s0 s : State} (h : Steady s0 s) (slice : Nat) (line : Nat) :
    Answers s0 (execPrbOwn slice line s) := by
  unfold execPrbOwn; repeat' first
    | intro _ | with_reducible assumption | with_reducible apply State.answer_steady | with_reducible apply stay_steady
    | with_reducible apply Answers.next | with_reducible apply Answers.ite

theorem execPrbGlance_steady {s0 s : State} (h : Steady s0 s) (slice : Nat) (line : Nat) :
    Answers s0 (execPrbGlance slice line s) := by
  unfold execPrbGlance; repeat' first
    | intro _ | with_reducible assumption | with_reducible apply State.answer_steady | with_reducible apply stay_steady
    | with_reducible apply Answers.next | with_reducible apply Answers.ite

theorem execPrbInv_steady {s0 s : State} (h : Steady s0 s) (slice : Nat) (line : Nat) :
    Answers s0 (execPrbInv slice line s) := by
  unfold execPrbInv; repeat' first
    | intro _ | with_reducible assumption | with_reducible apply State.answer_steady | with_reducible apply stay_steady
    | with_reducible apply Answers.next | with_reducible apply Answers.ite

theorem State.answerDir_steady {s0 s : State} (h : Steady s0 s) (h : Nat) (line : Nat) (n : Nat) (kind : Option ReqKind) (whole : Bool) (a : PrbAns) :
    Steady s0 (s.answerDir h line n kind whole a) := by
  unfold State.answerDir; repeat' first
    | intro _ | with_reducible assumption | with_reducible apply State.takeBack_steady | with_reducible apply State.dirPut_steady
    | with_reducible apply State.dirRemove_steady | with_reducible apply Steady.ite
    | (fail_if_no_progress (with_reducible (refine Steady.of ?_ rfl rfl rfl rfl rfl rfl rfl rfl)))
    | with_reducible (refine Steady.snd (by assumption) ?_) | with_reducible (refine Steady.snd2 (by assumption) ?_)
    | with_reducible apply foldl_steady | split

theorem State.answersIn_steady {s0 s : State} (h : Steady s0 s) (h : Nat) (line : Nat) (t : Txn) (data : Option Bytes) :
    Steady s0 (s.answersIn h line t data) := by
  unfold State.answersIn; repeat' first
    | intro _ | with_reducible assumption | with_reducible apply State.glanceLine_steady | with_reducible apply State.glanceMem_steady
    | with_reducible apply State.putDone_steady | with_reducible apply State.grantWith_steady | with_reducible apply State.grantMem_steady
    | with_reducible apply State.endTxn_steady | with_reducible apply Steady.ite
    | (fail_if_no_progress (with_reducible (refine Steady.of ?_ rfl rfl rfl rfl rfl rfl rfl rfl)))
    | with_reducible (refine Steady.snd (by assumption) ?_) | with_reducible (refine Steady.snd2 (by assumption) ?_)
    | with_reducible apply foldl_steady | split

theorem State.answered_steady {s0 s : State} (h : Steady s0 s) (h : Nat) (line : Nat) (n : Nat) (a : PrbAns) :
    Steady s0 (s.answered h line n a) := by
  unfold State.answered; repeat' first
    | intro _ | with_reducible assumption | with_reducible apply State.answerDir_steady | with_reducible apply State.setReq_steady
    | with_reducible apply State.setHome_steady | with_reducible apply State.answersIn_steady | with_reducible apply Steady.ite
    | (fail_if_no_progress (with_reducible (refine Steady.of ?_ rfl rfl rfl rfl rfl rfl rfl rfl)))
    | with_reducible (refine Steady.snd (by assumption) ?_) | with_reducible (refine Steady.snd2 (by assumption) ?_)
    | with_reducible apply foldl_steady | split

theorem State.unanswer_steady {s0 s : State} (h : Steady s0 s) (n : Nat) (line : Nat) :
    Steady s0 (s.unanswer n line) := by
  unfold State.unanswer; repeat' first
    | intro _ | with_reducible assumption | with_reducible apply State.setCache_steady

theorem execPrbData_steady {s0 s : State} (h : Steady s0 s) (slice : Nat) (line : Nat) :
    Answers s0 (execPrbData slice line s) := by
  unfold execPrbData; repeat' first
    | intro _ | with_reducible assumption | with_reducible apply stay_steady | with_reducible apply State.answered_steady
    | with_reducible apply State.unanswer_steady | with_reducible apply Answers.next | with_reducible apply Answers.ite
    | with_reducible apply Steady.ite | (fail_if_no_progress (with_reducible (refine Steady.of ?_ rfl rfl rfl rfl rfl rfl rfl rfl)))
    | with_reducible (refine Steady.snd (by assumption) ?_) | with_reducible (refine Steady.snd2 (by assumption) ?_)
    | with_reducible apply foldl_steady | split

theorem execPrbMiss_steady {s0 s : State} (h : Steady s0 s) (slice : Nat) (line : Nat) :
    Answers s0 (execPrbMiss slice line s) := by
  unfold execPrbMiss; repeat' first
    | intro _ | with_reducible assumption | with_reducible apply State.cohCount_steady | with_reducible apply stay_steady
    | with_reducible apply State.answered_steady | with_reducible apply State.unanswer_steady | with_reducible apply Answers.next
    | with_reducible apply Answers.ite | with_reducible apply Steady.ite
    | (fail_if_no_progress (with_reducible (refine Steady.of ?_ rfl rfl rfl rfl rfl rfl rfl rfl)))
    | with_reducible (refine Steady.snd (by assumption) ?_) | with_reducible (refine Steady.snd2 (by assumption) ?_)
    | with_reducible apply foldl_steady | split

theorem State.retireHome_steady {s0 s : State} (h : Steady s0 s) (n : Nat) (line : Nat) (w : WbEntry) :
    Steady s0 (s.retireHome n line w) := by
  unfold State.retireHome; repeat' first
    | intro _ | with_reducible assumption | with_reducible apply State.cohCount_steady | with_reducible apply State.takeBack_steady
    | with_reducible apply State.setCache_steady | with_reducible apply State.dirRemove_steady | with_reducible apply Steady.ite
    | (fail_if_no_progress (with_reducible (refine Steady.of ?_ rfl rfl rfl rfl rfl rfl rfl rfl)))
    | with_reducible (refine Steady.snd (by assumption) ?_) | with_reducible (refine Steady.snd2 (by assumption) ?_)
    | with_reducible apply foldl_steady | split

theorem execRetireDirty_steady {s0 s : State} (h : Steady s0 s) (slice : Nat) (line : Nat) :
    Answers s0 (execRetireDirty slice line s) := by
  unfold execRetireDirty; repeat' first
    | intro _ | with_reducible assumption | with_reducible apply stay_steady | with_reducible apply State.retireHome_steady
    | with_reducible apply Answers.next | with_reducible apply Answers.ite | with_reducible apply Steady.ite
    | (fail_if_no_progress (with_reducible (refine Steady.of ?_ rfl rfl rfl rfl rfl rfl rfl rfl)))
    | with_reducible (refine Steady.snd (by assumption) ?_) | with_reducible (refine Steady.snd2 (by assumption) ?_)
    | with_reducible apply foldl_steady | split

theorem execRetireClean_steady {s0 s : State} (h : Steady s0 s) (slice : Nat) (line : Nat) :
    Answers s0 (execRetireClean slice line s) := by
  unfold execRetireClean; repeat' first
    | intro _ | with_reducible assumption | with_reducible apply stay_steady | with_reducible apply State.retireHome_steady
    | with_reducible apply Answers.next | with_reducible apply Answers.ite | with_reducible apply Steady.ite
    | (fail_if_no_progress (with_reducible (refine Steady.of ?_ rfl rfl rfl rfl rfl rfl rfl rfl)))
    | with_reducible (refine Steady.snd (by assumption) ?_) | with_reducible (refine Steady.snd2 (by assumption) ?_)
    | with_reducible apply foldl_steady | split

theorem execRetireAck_steady {s0 s : State} (h : Steady s0 s) (slice : Nat) (line : Nat) :
    Answers s0 (execRetireAck slice line s) := by
  unfold execRetireAck; repeat' first
    | intro _ | with_reducible assumption | with_reducible apply stay_steady | with_reducible apply State.setCache_steady
    | with_reducible apply Answers.next | with_reducible apply Answers.ite | with_reducible apply Steady.ite
    | (fail_if_no_progress (with_reducible (refine Steady.of ?_ rfl rfl rfl rfl rfl rfl rfl rfl)))
    | with_reducible (refine Steady.snd (by assumption) ?_) | with_reducible (refine Steady.snd2 (by assumption) ?_)
    | with_reducible apply foldl_steady | split | dsimp only

theorem State.evict_steady {s0 s : State} (h : Steady s0 s) (n : Nat) (line : Nat) (l : CLine) :
    Steady s0 (s.evict n line l) := by
  unfold State.evict; repeat' first
    | intro _ | with_reducible assumption | with_reducible apply State.setCache_steady

theorem State.install_steady {s0 s : State} (h : Steady s0 s) (n : Nat) (line : Nat) (id : Nat) (q : Req) :
    Steady s0 (s.install n line id q) := by
  unfold State.install; repeat' first
    | intro _ | with_reducible assumption | with_reducible apply State.wake_steady | with_reducible apply State.finish_steady
    | with_reducible apply State.putLineIn_steady | with_reducible apply Steady.ite
    | (fail_if_no_progress (with_reducible (refine Steady.of ?_ rfl rfl rfl rfl rfl rfl rfl rfl)))
    | with_reducible (refine Steady.snd (by assumption) ?_) | with_reducible (refine Steady.snd2 (by assumption) ?_)
    | with_reducible apply foldl_steady | split

theorem execGrantData_steady {s0 s : State} (h : Steady s0 s) (slice : Nat) (line : Nat) (victim : Nat) :
    Answers s0 (execGrantData slice line victim s) := by
  unfold execGrantData; repeat' first
    | intro _ | with_reducible assumption | with_reducible apply stay_steady | with_reducible apply State.evict_steady
    | with_reducible apply State.install_steady | with_reducible apply Answers.next | with_reducible apply Answers.ite
    | with_reducible apply Steady.ite | (fail_if_no_progress (with_reducible (refine Steady.of ?_ rfl rfl rfl rfl rfl rfl rfl rfl)))
    | with_reducible (refine Steady.snd (by assumption) ?_) | with_reducible (refine Steady.snd2 (by assumption) ?_)
    | with_reducible apply foldl_steady | split

theorem execGrantAck_steady {s0 s : State} (h : Steady s0 s) (line : Nat) :
    Answers s0 (execGrantAck line s) := by
  unfold execGrantAck; repeat' first
    | intro _ | with_reducible assumption | with_reducible apply stay_steady | with_reducible apply State.endTxn_steady
    | with_reducible apply Answers.next | with_reducible apply Answers.ite | with_reducible apply Steady.ite
    | (fail_if_no_progress (with_reducible (refine Steady.of ?_ rfl rfl rfl rfl rfl rfl rfl rfl)))
    | with_reducible (refine Steady.snd (by assumption) ?_) | with_reducible (refine Steady.snd2 (by assumption) ?_)
    | with_reducible apply foldl_steady | split


end Sys2Proof.Machine
end

