-- ==== Sys2Proof/Laws/SteadyQueues.lean ====
section
/-! SUPPORT. Sys2Proof/Laws/SteadyQueues.lean: each operation is steady (Laws/Steady.lean): sift units, copy engines, commands of queues, resets, scheduling and translation. -/

namespace Sys2Proof.Machine

theorem execSiftAccept_steady {s0 s : State} (h : Steady s0 s) (sift : Nat) :
    Answers s0 (execSiftAccept sift s) := by
  unfold execSiftAccept; repeat' first
    | intro _ | with_reducible assumption | with_reducible apply stay_steady | with_reducible apply State.setUnit_steady
    | with_reducible apply Answers.next | with_reducible apply Answers.ite | with_reducible apply Steady.ite
    | (fail_if_no_progress (with_reducible (refine Steady.of ?_ rfl rfl rfl rfl rfl rfl rfl rfl)))
    | with_reducible (refine Steady.snd (by assumption) ?_) | with_reducible (refine Steady.snd2 (by assumption) ?_)
    | with_reducible apply foldl_steady | split

theorem execSiftStart_steady {s0 s : State} (h : Steady s0 s) (unit : Nat) :
    Answers s0 (execSiftStart unit s) := by
  unfold execSiftStart; repeat' first
    | intro _ | with_reducible assumption | with_reducible apply stay_steady | with_reducible apply State.setUnit_steady
    | with_reducible apply State.measure_steady | with_reducible apply Answers.next | with_reducible apply Answers.ite
    | with_reducible apply Steady.ite | (fail_if_no_progress (with_reducible (refine Steady.of ?_ rfl rfl rfl rfl rfl rfl rfl rfl)))
    | with_reducible (refine Steady.snd (by assumption) ?_) | with_reducible (refine Steady.snd2 (by assumption) ?_)
    | with_reducible apply foldl_steady | split | dsimp only

theorem State.siftLeave_steady {s0 s : State} (h : Steady s0 s) (id : Nat) (q : SiftReq) :
    Steady s0 (s.siftLeave id q) := by
  unfold State.siftLeave; repeat' first
    | intro _ | with_reducible assumption | with_reducible apply State.modSlot_steady | with_reducible apply State.setUnit_steady
    | with_reducible apply Steady.ite | (fail_if_no_progress (with_reducible (refine Steady.of ?_ rfl rfl rfl rfl rfl rfl rfl rfl)))

theorem State.siftEnd_steady {s0 s : State} (h : Steady s0 s) (id : Nat) (q : SiftReq) (status : Nat) (rows : Nat) (res : Bytes) (ev : Events) (nans : Nat) (drops : Nat) (pa : Nat) :
    Steady s0 (s.siftEnd id q status rows res ev nans drops pa) := by
  unfold State.siftEnd; repeat' first
    | intro _ | with_reducible assumption | with_reducible apply State.postOffer_steady | with_reducible apply State.setReg_steady
    | with_reducible apply State.bumpFld_steady | with_reducible apply State.setFld_steady | with_reducible apply State.siftLeave_steady
    | with_reducible apply State.faultSlot_steady | with_reducible apply State.deliver_steady | with_reducible apply Steady.ite

theorem State.siftFail_steady {s0 s : State} (h : Steady s0 s) (id : Nat) (q : SiftReq) (status : Nat) (rows : Nat) (pa : Nat) :
    Steady s0 (s.siftFail id q status rows pa) := by
  unfold State.siftFail; repeat' first
    | intro _ | with_reducible assumption | with_reducible apply State.siftEnd_steady | with_reducible apply State.useFree_steady

theorem execSift_steady {s0 s : State} (h : Steady s0 s) (core : Nat) (w : Word) :
    Answers s0 (execSift core w s) := by
  unfold execSift; repeat' first
    | intro _ | with_reducible assumption | with_reducible apply State.faultAt_steady | with_reducible apply State.stall_steady
    | with_reducible apply State.retire_steady | with_reducible apply State.siftFail_steady | with_reducible apply State.issue_steady
    | with_reducible apply State.xltFault_steady | with_reducible apply State.xlateTile_steady | with_reducible apply State.waitWalk_steady
    | with_reducible apply Answers.next | with_reducible apply Answers.ite | with_reducible apply Steady.ite
    | (fail_if_no_progress (with_reducible (refine Steady.of ?_ rfl rfl rfl rfl rfl rfl rfl rfl)))
    | with_reducible (refine Steady.snd (by assumption) ?_) | with_reducible (refine Steady.snd2 (by assumption) ?_)
    | with_reducible apply foldl_steady | split | dsimp only

theorem execSiftComplete_steady {s0 s : State} (h : Steady s0 s) (unit : Nat) :
    Answers s0 (execSiftComplete unit s) := by
  unfold execSiftComplete; repeat' first
    | intro _ | with_reducible assumption | with_reducible apply State.siftFail_steady | with_reducible apply stay_steady
    | with_reducible apply State.siftEnd_steady | with_reducible apply State.integFail_steady | with_reducible apply Answers.next
    | with_reducible apply Answers.ite | with_reducible apply Steady.ite
    | (fail_if_no_progress (with_reducible (refine Steady.of ?_ rfl rfl rfl rfl rfl rfl rfl rfl)))
    | with_reducible (refine Steady.snd (by assumption) ?_) | with_reducible (refine Steady.snd2 (by assumption) ?_)
    | with_reducible apply foldl_steady | split

theorem State.choose_steady {s0 s : State} (h : Steady s0 s) (c : Nat) (skip : Option Nat) :
    Steady s0 (s.choose c skip) := by
  unfold State.choose; repeat' first
    | intro _ | with_reducible assumption | with_reducible apply State.setCore_steady | with_reducible apply Steady.ite
    | (fail_if_no_progress (with_reducible (refine Steady.of ?_ rfl rfl rfl rfl rfl rfl rfl rfl)))
    | with_reducible (refine Steady.snd (by assumption) ?_) | with_reducible (refine Steady.snd2 (by assumption) ?_)
    | with_reducible apply foldl_steady | split

theorem execHalt_steady {s0 s : State} (h : Steady s0 s) (core : Nat) (w : Word) :
    Answers s0 (execHalt core w s) := by
  unfold execHalt; repeat' first
    | intro _ | with_reducible assumption | with_reducible apply State.issue_steady | with_reducible apply State.modSlot_steady
    | with_reducible apply State.setSlot_steady | with_reducible apply State.choose_steady | with_reducible apply State.charge_steady
    | with_reducible apply Answers.next | with_reducible apply Answers.ite | with_reducible apply Steady.ite

theorem execYield_steady {s0 s : State} (h : Steady s0 s) (core : Nat) (w : Word) :
    Answers s0 (execYield core w s) := by
  unfold execYield; repeat' first
    | intro _ | with_reducible assumption | with_reducible apply State.retire_steady | with_reducible apply State.issue_steady
    | with_reducible apply State.choose_steady

theorem execSeg_steady {s0 s : State} (h : Steady s0 s) (core : Nat) (w : Word) :
    Answers s0 (execSeg core w s) := by
  unfold execSeg; repeat' first
    | intro _ | with_reducible assumption | with_reducible apply State.retire_steady | with_reducible apply State.issue_steady

theorem State.promotionEnd_steady {s0 s : State} (h : Steady s0 s) (c : Nat) (ctx : Nat) (g : Guard) (outcome : Nat) :
    Steady s0 (s.promotionEnd c ctx g outcome) := by
  unfold State.promotionEnd; repeat' first
    | intro _ | with_reducible assumption | with_reducible apply State.missPut_steady

theorem execGret_steady {s0 s : State} (h : Steady s0 s) (core : Nat) (w : Word) :
    Answers s0 (execGret core w s) := by
  unfold execGret; repeat' first
    | intro _ | with_reducible assumption | with_reducible apply State.bumpSafe_steady | with_reducible apply State.faultAt_steady
    | with_reducible apply State.retire_steady | with_reducible apply State.issue_steady | with_reducible apply State.promotionEnd_steady
    | with_reducible apply Answers.next | with_reducible apply Answers.ite | with_reducible apply Steady.ite
    | (fail_if_no_progress (with_reducible (refine Steady.of ?_ rfl rfl rfl rfl rfl rfl rfl rfl)))
    | with_reducible (refine Steady.snd (by assumption) ?_) | with_reducible (refine Steady.snd2 (by assumption) ?_)
    | with_reducible apply foldl_steady | split

theorem execTrap_steady {s0 s : State} (h : Steady s0 s) (core : Nat) (w : Word) :
    Answers s0 (execTrap core w s) := by
  unfold execTrap; repeat' first
    | intro _ | with_reducible assumption | with_reducible apply State.issue_steady | with_reducible apply State.faultSlot_steady

theorem execBkpt_steady {s0 s : State} (h : Steady s0 s) (core : Nat) (w : Word) :
    Answers s0 (execBkpt core w s) := by
  unfold execBkpt; repeat' first
    | intro _ | with_reducible assumption | with_reducible apply State.retire_steady | with_reducible apply State.issue_steady
    | with_reducible apply State.modCtx_steady | with_reducible apply Answers.next | with_reducible apply Answers.ite
    | with_reducible apply Steady.ite

theorem State.cleanLine_steady {s0 s : State} (h : Steady s0 s) (n : Nat) (line : Nat) (keep : Bool) :
    Steady s0 (s.cleanLine n line keep) := by
  unfold State.cleanLine; repeat' first
    | intro _ | with_reducible assumption | with_reducible apply State.takeBack_steady | with_reducible apply State.setCache_steady
    | with_reducible apply State.dirPut_steady | with_reducible apply State.dirRemove_steady | with_reducible apply State.putLineIn_steady
    | with_reducible apply Steady.ite | (fail_if_no_progress (with_reducible (refine Steady.of ?_ rfl rfl rfl rfl rfl rfl rfl rfl)))
    | with_reducible (refine Steady.snd (by assumption) ?_) | with_reducible (refine Steady.snd2 (by assumption) ?_)
    | with_reducible apply foldl_steady | split | dsimp only

theorem State.cacheOp_steady {s0 s : State} (h : Steady s0 s) (c : Nat) (k : Nat) (x : Slot) (va : Nat) (n : Nat) (keep : Bool) :
    Steady s0 (s.cacheOp c k x va n keep) := by
  unfold State.cacheOp; repeat' first
    | intro _ | with_reducible assumption | with_reducible apply State.stall_steady | with_reducible apply State.retire_steady
    | with_reducible apply State.cleanLine_steady | with_reducible apply foldS_steady | with_reducible apply Steady.ite

theorem execCinv_steady {s0 s : State} (h : Steady s0 s) (core : Nat) (w : Word) :
    Answers s0 (execCinv core w s) := by
  unfold execCinv; repeat' first
    | intro _ | with_reducible assumption | with_reducible apply State.cacheOp_steady | with_reducible apply State.issue_steady

theorem execCwb_steady {s0 s : State} (h : Steady s0 s) (core : Nat) (w : Word) :
    Answers s0 (execCwb core w s) := by
  unfold execCwb; repeat' first
    | intro _ | with_reducible assumption | with_reducible apply State.cacheOp_steady | with_reducible apply State.issue_steady

theorem execStoreCompletion_steady {s0 s : State} (h : Steady s0 s) (req : Nat) :
    Answers s0 (execStoreCompletion req s) := by
  unfold execStoreCompletion; repeat' first
    | intro _ | with_reducible assumption | with_reducible apply State.dropReq_steady | with_reducible apply stay_steady
    | with_reducible apply State.faultSlot_steady | with_reducible apply Answers.next | with_reducible apply Answers.ite
    | with_reducible apply Steady.ite | (fail_if_no_progress (with_reducible (refine Steady.of ?_ rfl rfl rfl rfl rfl rfl rfl rfl)))
    | with_reducible (refine Steady.snd (by assumption) ?_) | with_reducible (refine Steady.snd2 (by assumption) ?_)
    | with_reducible apply foldl_steady | split

theorem State.cpyXlate_steady {s0 s : State} (h : Steady s0 s) (ch : Nat) (va : Nat) (acc : Nat) :
    Steady s0 (s.cpyXlate ch va acc).2 := by
  unfold State.cpyXlate; repeat' first
    | intro _ | with_reducible assumption | with_reducible apply State.fillWalker_steady | with_reducible apply State.bumpFld_steady
    | with_reducible apply State.noteWalk_steady | with_reducible apply Steady.ite
    | (fail_if_no_progress (with_reducible (refine Steady.of ?_ rfl rfl rfl rfl rfl rfl rfl rfl)))
    | with_reducible (refine Steady.snd (by assumption) ?_) | with_reducible (refine Steady.snd2 (by assumption) ?_)
    | with_reducible apply foldl_steady | split | dsimp only

theorem State.cpyFault_steady {s0 s : State} (h : Steady s0 s) (ch : Nat) (va : Nat) (acc : Nat) (sub : Nat) (lvl : Nat) :
    Steady s0 (s.cpyFault ch va acc sub lvl) := by
  unfold State.cpyFault; repeat' first
    | intro _ | with_reducible assumption | with_reducible apply State.xltRecord_steady

theorem State.cpyLost_steady {s0 s : State} (h : Steady s0 s) (ch : Nat) (va : Nat) (pa : Nat) (e : Cpl) :
    Steady s0 (s.cpyLost ch va pa e) := by
  unfold State.cpyLost; repeat' first
    | intro _ | with_reducible assumption | with_reducible apply State.ctxFaultRecord_steady | with_reducible apply Steady.ite

theorem State.cpyWrite_steady {s0 s : State} (h : Steady s0 s) (ch : Nat) (va : Nat) (d : Bytes) :
    Steady s0 (s.cpyWrite ch va d) := by
  unfold State.cpyWrite; repeat' first
    | intro _ | with_reducible assumption | with_reducible apply State.cpyXlate_steady | with_reducible apply State.cpyLost_steady
    | with_reducible apply State.cpyFault_steady | with_reducible apply State.writeLine_steady | with_reducible apply Steady.ite
    | (fail_if_no_progress (with_reducible (refine Steady.of ?_ rfl rfl rfl rfl rfl rfl rfl rfl)))
    | with_reducible (refine Steady.snd (by assumption) ?_) | with_reducible (refine Steady.snd2 (by assumption) ?_)
    | with_reducible apply foldl_steady | split

theorem State.writeStatus_steady {s0 s : State} (h : Steady s0 s) (ch : Nat) (status : Nat) (detail : Nat) (done : Nat) :
    Steady s0 (s.writeStatus ch status detail done) := by
  unfold State.writeStatus; repeat' first
    | intro _ | with_reducible assumption | with_reducible apply State.cpyWrite_steady

theorem State.cmdDone_steady {s0 s : State} (h : Steady s0 s) (q : Nat) (status : Nat) (detail : Nat) :
    Steady s0 (s.cmdDone q status detail) := by
  unfold State.cmdDone; repeat' first
    | intro _ | with_reducible assumption | with_reducible apply State.modQueue_steady

theorem State.lastStatus_steady {s0 s : State} (h : Steady s0 s) (ch : Nat) (status : Nat) :
    Steady s0 (s.lastStatus ch status) := by
  unfold State.lastStatus; repeat' first
    | intro _ | with_reducible assumption | with_reducible apply State.setFld_steady | with_reducible apply Steady.ite

theorem State.copyRecord_steady {s0 s : State} (h : Steady s0 s) (ch : Nat) (status : Nat) (detail : Nat) (done : Nat) :
    Steady s0 (s.copyRecord ch status detail done) := by
  unfold State.copyRecord; repeat' first
    | intro _ | with_reducible assumption | with_reducible apply State.ringPut_steady | with_reducible apply Steady.ite
    | (fail_if_no_progress (with_reducible (refine Steady.of ?_ rfl rfl rfl rfl rfl rfl rfl rfl)))
    | with_reducible (refine Steady.snd (by assumption) ?_) | with_reducible (refine Steady.snd2 (by assumption) ?_)
    | with_reducible apply foldl_steady | split | dsimp only

theorem State.cpySignal_steady {s0 s : State} (h : Steady s0 s) (ch : Nat) :
    Steady s0 (s.cpySignal ch) := by
  unfold State.cpySignal; repeat' first
    | intro _ | with_reducible assumption | with_reducible apply State.cpyXlate_steady | with_reducible apply State.postOffer_steady
    | with_reducible apply State.cpyFault_steady | with_reducible apply Steady.ite
    | (fail_if_no_progress (with_reducible (refine Steady.of ?_ rfl rfl rfl rfl rfl rfl rfl rfl)))
    | with_reducible (refine Steady.snd (by assumption) ?_) | with_reducible (refine Steady.snd2 (by assumption) ?_)
    | with_reducible apply foldl_steady | split

theorem State.cpyNext_steady {s0 s : State} (h : Steady s0 s) (ch : Nat) :
    Steady s0 (s.cpyNext ch) := by
  unfold State.cpyNext; repeat' first
    | intro _ | with_reducible assumption | with_reducible apply State.cmdDone_steady | with_reducible apply State.setChan_steady
    | with_reducible apply Steady.ite | (fail_if_no_progress (with_reducible (refine Steady.of ?_ rfl rfl rfl rfl rfl rfl rfl rfl)))
    | with_reducible (refine Steady.snd (by assumption) ?_) | with_reducible (refine Steady.snd2 (by assumption) ?_)
    | with_reducible apply foldl_steady | split

theorem State.cpyEnd_steady {s0 s : State} (h : Steady s0 s) (ch : Nat) (status : Nat) (detail : Nat) (done : Nat) :
    Steady s0 (s.cpyEnd ch status detail done) := by
  unfold State.cpyEnd; repeat' first
    | intro _ | with_reducible assumption | with_reducible apply State.writeStatus_steady | with_reducible apply State.lastStatus_steady
    | with_reducible apply State.bumpFld_steady | with_reducible apply State.copyRecord_steady | with_reducible apply State.cpySignal_steady
    | with_reducible apply Steady.ite

theorem State.cpyStop_steady {s0 s : State} (h : Steady s0 s) (ch : Nat) (st : ChSt) (status : Nat) (detail : Nat) (done : Nat) :
    Steady s0 (s.cpyStop ch st status detail done) := by
  unfold State.cpyStop; repeat' first
    | intro _ | with_reducible assumption | with_reducible apply State.writeStatus_steady | with_reducible apply State.lastStatus_steady
    | with_reducible apply State.setChan_steady

theorem State.cpyRead_on {s0 s : State} (h : Steady s0 s) (ch va : Nat) : OnState s0 (fun r => r.2.2) Prod.snd (s.cpyRead ch va) := by
  have g := State.cpyXlate_steady h ch va 0
  unfold State.cpyRead; dsimp only
  split <;> rename_i e <;> rw [e] at g
  · split
    · have g2 := Steady.snd2 ‹_› (State.readLine_steady g _ _ _ _)
      split
      · exact Steady.snd2 ‹_› (State.readLine_steady g2 _ _ _ _)
      · exact State.cpyLost_steady (Steady.snd2 ‹_› (State.readLine_steady g2 _ _ _ _)) _ _ _ _
    · exact State.cpyLost_steady (Steady.snd2 ‹_› (State.readLine_steady g _ _ _ _)) _ _ _ _
  · exact State.cpyFault_steady g _ _ _ _ _
  · exact g

theorem State.cpyRead_steady {s0 s t : State} (h : Steady s0 s) {ch va : Nat} {b : Bytes} (e : s.cpyRead ch va = .ok (b, t)) : Steady s0 t := by
  have g := State.cpyRead_on h ch va
  rw [e] at g; exact g

theorem State.cpyRead_error_steady {s0 s t : State} (h : Steady s0 s) {ch va d : Nat} {c : Option Cpl} (e : s.cpyRead ch va = .error (c, d, t)) :
    Steady s0 t := by
  have g := State.cpyRead_on h ch va
  rw [e] at g; exact g

theorem State.cpyBegin_steady {s0 s : State} (h : Steady s0 s) (ch : Nat) (b : Bytes) :
    Steady s0 (s.cpyBegin ch b) := by
  unfold State.cpyBegin; repeat' first
    | intro _ | with_reducible assumption | with_reducible apply State.cpyXlate_steady | with_reducible apply State.setChan_steady
    | with_reducible apply State.cpyStop_steady | with_reducible apply State.cpyFault_steady | with_reducible apply State.bumpId_steady
    | with_reducible apply State.takeWatch_steady | with_reducible apply Steady.ite
    | (fail_if_no_progress (with_reducible (refine Steady.of ?_ rfl rfl rfl rfl rfl rfl rfl rfl)))
    | with_reducible (refine Steady.snd (by assumption) ?_) | with_reducible (refine Steady.snd2 (by assumption) ?_)
    | with_reducible apply foldl_steady | split

theorem execCopyDescriptorStart_steady {s0 s : State} (h : Steady s0 s) (chan : Nat) :
    Answers s0 (execCopyDescriptorStart chan s) := by
  unfold execCopyDescriptorStart; repeat' first
    | intro _ | with_reducible assumption | with_reducible apply stay_steady | with_reducible apply State.setChan_steady
    | with_reducible apply State.cpyStop_steady | with_reducible apply State.cpyBegin_steady
    | with_reducible (refine State.cpyRead_steady ?_ (by assumption)) | with_reducible (refine State.cpyRead_error_steady ?_ (by assumption))
    | with_reducible apply Answers.next | with_reducible apply Answers.ite | with_reducible apply Steady.ite
    | (fail_if_no_progress (with_reducible (refine Steady.of ?_ rfl rfl rfl rfl rfl rfl rfl rfl)))
    | with_reducible (refine Steady.snd (by assumption) ?_) | with_reducible (refine Steady.snd2 (by assumption) ?_)
    | with_reducible apply foldl_steady | split

theorem execCopyWaitSatisfied_steady {s0 s : State} (h : Steady s0 s) (chan : Nat) :
    Answers s0 (execCopyWaitSatisfied chan s) := by
  unfold execCopyWaitSatisfied; repeat' first
    | intro _ | with_reducible assumption | with_reducible apply State.cpyXlate_steady | with_reducible apply State.dropWatch_steady
    | with_reducible apply stay_steady | with_reducible apply State.setChan_steady | with_reducible apply State.readLine_steady
    | with_reducible apply State.cpyStop_steady | with_reducible apply State.cpyLost_steady | with_reducible apply State.cpyFault_steady
    | with_reducible apply Answers.next | with_reducible apply Answers.ite | with_reducible apply Steady.ite
    | (fail_if_no_progress (with_reducible (refine Steady.of ?_ rfl rfl rfl rfl rfl rfl rfl rfl)))
    | with_reducible (refine Steady.snd (by assumption) ?_) | with_reducible (refine Steady.snd2 (by assumption) ?_)
    | with_reducible apply foldl_steady | split

theorem State.cpyXlateFail_steady {s0 s : State} (h : Steady s0 s) (ch : Nat) (va : Nat) (acc : Nat) (sub : Nat) (lvl : Nat) :
    Steady s0 (s.cpyXlateFail ch va acc sub lvl) := by
  unfold State.cpyXlateFail; repeat' first
    | intro _ | with_reducible assumption | with_reducible apply State.setChan_steady | with_reducible apply State.cpyFault_steady

theorem State.cpyPieces_on {s0 s : State} (h : Steady s0 s) (ch va n : Nat) : OnState s0 (fun r => r.2.2) Prod.snd (s.cpyPieces ch va n) := by
  have g := State.cpyXlate_steady h ch va 0
  unfold State.cpyPieces; dsimp only
  split <;> rename_i e <;> rw [e] at g
  · exact g
  · exact g
  · split
    · exact g
    · split
      · exact Steady.snd ‹_› (State.cpyXlate_steady g _ _ _)
      · exact Steady.snd ‹_› (State.cpyXlate_steady g _ _ _)

theorem State.cpyPieces_steady {s0 s t : State} (h : Steady s0 s) {ch va n : Nat} {l : List (Nat × Nat)} (e : s.cpyPieces ch va n = .ok (l, t)) :
    Steady s0 t := by
  have g := State.cpyPieces_on h ch va n
  rw [e] at g; exact g

theorem State.cpyPieces_error_steady {s0 s t : State} (h : Steady s0 s) {ch va n a b : Nat} (e : s.cpyPieces ch va n = .error (a, b, t)) :
    Steady s0 t := by
  have g := State.cpyPieces_on h ch va n
  rw [e] at g; exact g

theorem State.issueAll_steady {s0 s : State} (h : Steady s0 s) (l : List Req) :
    Steady s0 (s.issueAll l).2 := by
  induction l generalizing s with
  | nil => unfold State.issueAll; exact h
  | cons e l ih =>
  unfold State.issueAll; repeat' first
    | with_reducible apply ih | intro _ | with_reducible assumption | with_reducible apply State.issueReq_steady

theorem State.cpyIssue_steady {s0 s : State} (h : Steady s0 s) (ch : Nat) :
    Steady s0 (s.cpyIssue ch) := by
  unfold State.cpyIssue; repeat' first
    | intro _ | with_reducible assumption | with_reducible apply State.cpyXlate_steady | with_reducible apply State.issueAll_steady
    | with_reducible apply State.setChan_steady | with_reducible (refine State.cpyPieces_steady ?_ (by assumption))
    | with_reducible (refine State.cpyPieces_error_steady ?_ (by assumption)) | with_reducible apply State.cpyXlateFail_steady
    | with_reducible apply Steady.ite | (fail_if_no_progress (with_reducible (refine Steady.of ?_ rfl rfl rfl rfl rfl rfl rfl rfl)))
    | with_reducible (refine Steady.snd (by assumption) ?_) | with_reducible (refine Steady.snd2 (by assumption) ?_)
    | with_reducible apply foldl_steady | split | dsimp only

theorem execCopyBurstIssue_steady {s0 s : State} (h : Steady s0 s) (engine : Nat) :
    Answers s0 (execCopyBurstIssue engine s) := by
  unfold execCopyBurstIssue; repeat' first
    | intro _ | with_reducible assumption | with_reducible apply stay_steady | with_reducible apply State.setChan_steady
    | with_reducible apply State.cpyIssue_steady | with_reducible apply foldS_steady | with_reducible apply Answers.next
    | with_reducible apply Answers.ite | with_reducible apply Steady.ite
    | (fail_if_no_progress (with_reducible (refine Steady.of ?_ rfl rfl rfl rfl rfl rfl rfl rfl)))
    | with_reducible (refine Steady.snd (by assumption) ?_) | with_reducible (refine Steady.snd2 (by assumption) ?_)
    | with_reducible apply foldl_steady | split

theorem State.cpyIdle_steady {s0 s : State} (h : Steady s0 s) (ch : Nat) :
    Steady s0 (s.cpyIdle ch) := by
  unfold State.cpyIdle; repeat' first
    | intro _ | with_reducible assumption | with_reducible apply State.setChan_steady | with_reducible apply Steady.ite

theorem State.cpyBad_steady {s0 s : State} (h : Steady s0 s) (ch : Nat) (b : CpBurst) (q : Req) (e : Cpl) :
    Steady s0 (s.cpyBad ch b q e) := by
  unfold State.cpyBad; repeat' first
    | intro _ | with_reducible assumption | with_reducible apply State.setChan_steady | with_reducible apply State.cpyLost_steady
    | with_reducible apply Steady.ite

theorem State.cpyDrop_steady {s0 s : State} (h : Steady s0 s) (ch : Nat) (burst : Nat) (b : CpBurst) :
    Steady s0 (s.cpyDrop ch burst b) := by
  unfold State.cpyDrop; repeat' first
    | intro _ | with_reducible assumption | with_reducible apply State.dropReq_steady | with_reducible apply State.setChan_steady
    | with_reducible apply foldS_steady | with_reducible apply State.cpyIdle_steady

theorem State.cpyWriteBurst_steady {s0 s : State} (h : Steady s0 s) (ch : Nat) (burst : Nat) (b : CpBurst) (data : Bytes) :
    Steady s0 (s.cpyWriteBurst ch burst b data) := by
  unfold State.cpyWriteBurst; repeat' first
    | intro _ | with_reducible assumption | with_reducible apply State.dropReq_steady | with_reducible apply State.issueAll_steady
    | with_reducible apply State.setChan_steady | with_reducible apply foldS_steady

theorem execCopyBurstComplete_steady {s0 s : State} (h : Steady s0 s) (chan : Nat) (burst : Nat) :
    Answers s0 (execCopyBurstComplete chan burst s) := by
  unfold execCopyBurstComplete; repeat' first
    | intro _ | with_reducible assumption | with_reducible apply State.cpyWriteBurst_steady | with_reducible apply stay_steady
    | with_reducible apply State.setChan_steady | with_reducible apply State.cpyBad_steady | with_reducible apply State.cpyDrop_steady
    | with_reducible apply Answers.next | with_reducible apply Answers.ite | with_reducible apply Steady.ite
    | (fail_if_no_progress (with_reducible (refine Steady.of ?_ rfl rfl rfl rfl rfl rfl rfl rfl)))
    | with_reducible (refine Steady.snd (by assumption) ?_) | with_reducible (refine Steady.snd2 (by assumption) ?_)
    | with_reducible apply foldl_steady | split

theorem execCopyDescriptorEnd_steady {s0 s : State} (h : Steady s0 s) (chan : Nat) :
    Answers s0 (execCopyDescriptorEnd chan s) := by
  unfold execCopyDescriptorEnd; repeat' first
    | intro _ | with_reducible assumption | with_reducible apply stay_steady | with_reducible apply State.cpyEnd_steady
    | with_reducible apply State.cpyStop_steady | with_reducible apply State.cpyNext_steady | with_reducible apply Answers.next
    | with_reducible apply Answers.ite

theorem State.cpySkip_steady {s0 s : State} (h : Steady s0 s) (ch : Nat) :
    Steady s0 (s.cpySkip ch) := by
  unfold State.cpySkip; repeat' first
    | intro _ | with_reducible assumption | with_reducible apply State.cpyEnd_steady | with_reducible apply State.cpyNext_steady

theorem execCpyRestart_steady {s0 s : State} (h : Steady s0 s) (chan : Nat) (resume : Bool) :
    Answers s0 (execCpyRestart chan resume s) := by
  unfold execCpyRestart; repeat' first
    | intro _ | with_reducible assumption | with_reducible apply stay_steady | with_reducible apply State.setChan_steady
    | with_reducible apply State.cpySkip_steady | with_reducible apply Answers.next | with_reducible apply Answers.ite

theorem State.chanStop_steady {s0 s : State} (h : Steady s0 s) (ch : Nat) :
    Steady s0 (s.chanStop ch) := by
  unfold State.chanStop; repeat' first
    | intro _ | with_reducible assumption | with_reducible apply State.dropWatch_steady | with_reducible apply State.setChan_steady
    | with_reducible apply State.cpyEnd_steady | with_reducible apply State.cpyIdle_steady | with_reducible apply Steady.ite

theorem execCpyStream_steady {s0 s : State} (h : Steady s0 s) (chan : Nat) (v : Bool) :
    Answers s0 (execCpyStream chan v s) := by
  unfold execCpyStream; repeat' first
    | intro _ | with_reducible assumption | with_reducible apply stay_steady | with_reducible apply State.setChan_steady
    | with_reducible apply State.setFld_steady | with_reducible apply State.writeFld_steady | with_reducible apply Answers.next
    | with_reducible apply Answers.ite | with_reducible apply Steady.ite
    | (fail_if_no_progress (with_reducible (refine Steady.of ?_ rfl rfl rfl rfl rfl rfl rfl rfl)))
    | with_reducible (refine Steady.snd (by assumption) ?_) | with_reducible (refine Steady.snd2 (by assumption) ?_)
    | with_reducible apply foldl_steady | split | dsimp only

theorem execCpyMaxbuf_steady {s0 s : State} (h : Steady s0 s) (chan : Nat) (v : Nat) :
    Answers s0 (execCpyMaxbuf chan v s) := by
  unfold execCpyMaxbuf; repeat' first
    | intro _ | with_reducible assumption | with_reducible apply stay_steady | with_reducible apply State.writeFld_steady
    | with_reducible apply Answers.next | with_reducible apply Answers.ite

theorem State.readRefs_on {s0 s : State} (h : Steady s0 s) (ctx va : Nat) : OnState s0 (fun r => r.2.2) Prod.snd (s.readRefs ctx va) := by
  have g := State.hubRead_steady h ctx va 128
  unfold State.readRefs; dsimp only
  split
  · exact h
  · split <;> rename_i e <;> rw [e] at g
    · exact g
    · split
      · exact g
      · split
        · exact g
        · suffices H : ∀ (l : List Nat) (r : Except (Nat × Nat × State) (List (Nat × Nat) × State)), OnState s0 (fun r => r.2.2) Prod.snd r →
              OnState s0 (fun r => r.2.2) Prod.snd (l.foldl _ r) from H _ _ g
          intro l
          induction l with
          | nil => exact fun r hr => hr
          | cons i l ih =>
            intro r hr
            refine ih _ ?_
            dsimp only
            split
            · exact hr
            · split
              · exact hr
              · split <;> rename_i e2
                · split <;> exact Steady.snd e2 (State.hubXlate_steady hr _ _ _)
                · exact State.xltRecord_steady (Steady.snd e2 (State.hubXlate_steady hr _ _ _)) _ _ _ _ _ _ _ _ _ _
                · exact Steady.snd e2 (State.hubXlate_steady hr _ _ _)

theorem State.readRefs_steady {s0 s t : State} (h : Steady s0 s) {ctx va : Nat} {l : List (Nat × Nat)} (e : s.readRefs ctx va = .ok (l, t)) :
    Steady s0 t := by
  have g := State.readRefs_on h ctx va
  rw [e] at g; exact g

theorem State.readRefs_error_steady {s0 s t : State} (h : Steady s0 s) {ctx va a b : Nat} (e : s.readRefs ctx va = .error (a, b, t)) :
    Steady s0 t := by
  have g := State.readRefs_on h ctx va
  rw [e] at g; exact g

theorem State.readRefs_if_on {s0 s : State} (h : Steady s0 s) (c : Prop) [Decidable c] (ctx va : Nat) :
    OnState s0 (fun r => r.2.2) Prod.snd (if c then s.readRefs ctx va else .ok ([], s)) := by
  split
  · exact State.readRefs_on h ctx va
  · exact h

theorem State.readRefs_if_steady {s0 s t : State} (h : Steady s0 s) {c : Prop} [Decidable c] {ctx va : Nat} {l : List (Nat × Nat)}
    (e : (if c then s.readRefs ctx va else .ok ([], s)) = .ok (l, t)) : Steady s0 t := by
  have g := State.readRefs_if_on h c ctx va
  rw [e] at g; exact g

theorem State.readRefs_if_error_steady {s0 s t : State} (h : Steady s0 s) {c : Prop} [Decidable c] {ctx va a b : Nat}
    (e : (if c then s.readRefs ctx va else .ok ([], s)) = .error (a, b, t)) : Steady s0 t := by
  have g := State.readRefs_if_on h c ctx va
  rw [e] at g; exact g

theorem State.countAdd_steady {s0 s : State} (h : Steady s0 s) (pa : Nat) (inc : Nat) :
    Steady s0 (s.countAdd pa inc) := by
  unfold State.countAdd; repeat' first
    | intro _ | with_reducible assumption | with_reducible apply State.wake_steady | with_reducible apply State.hostWrite_steady

theorem State.subRefs_steady {s0 s : State} (h : Steady s0 s) (refs : List (Nat × Nat)) (q : Nat) (evring : Nat) (op : Nat) :
    Steady s0 (s.subRefs refs q evring op) := by
  unfold State.subRefs; repeat' first
    | intro _ | with_reducible assumption | with_reducible apply foldS_steady | with_reducible apply Steady.ite
    | (fail_if_no_progress (with_reducible (refine Steady.of ?_ rfl rfl rfl rfl rfl rfl rfl rfl)))

theorem State.releaseLast_steady {s0 s : State} (h : Steady s0 s) (key : Nat) (q : Nat) (evring : Nat) (op : Nat) :
    Steady s0 (s.releaseLast key q evring op) := by
  unfold State.releaseLast; repeat' first
    | intro _ | with_reducible assumption | with_reducible apply State.subRefs_steady | with_reducible apply Steady.ite
    | (fail_if_no_progress (with_reducible (refine Steady.of ?_ rfl rfl rfl rfl rfl rfl rfl rfl)))

theorem State.setPhase_steady {s0 s : State} (h : Steady s0 s) (q : Nat) (p : CmdPhase) :
    Steady s0 (s.setPhase q p) := by
  unfold State.setPhase; repeat' first
    | intro _ | with_reducible assumption | with_reducible apply State.modQueue_steady

theorem State.beginWait_steady {s0 s : State} (h : Steady s0 s) (q : Nat) (x : Queue) (c : Cmd) :
    Steady s0 (s.beginWait q x c) := by
  unfold State.beginWait; repeat' first
    | intro _ | with_reducible assumption | with_reducible apply State.cmdDone_steady | with_reducible apply State.hubXlate_steady
    | with_reducible apply State.setPhase_steady | with_reducible apply State.xltRecord_steady | with_reducible apply State.takeWatch_steady
    | with_reducible apply Steady.ite | (fail_if_no_progress (with_reducible (refine Steady.of ?_ rfl rfl rfl rfl rfl rfl rfl rfl)))
    | with_reducible (refine Steady.snd (by assumption) ?_) | with_reducible (refine Steady.snd2 (by assumption) ?_)
    | with_reducible apply foldl_steady | split | dsimp only

theorem State.takeUp_steady {s0 s : State} (h : Steady s0 s) (q : Nat) :
    Steady s0 (s.takeUp q) := by
  unfold State.takeUp; repeat' first
    | intro _ | with_reducible assumption | with_reducible apply State.setQueue_steady | with_reducible apply State.cmdDone_steady
    | with_reducible apply State.modQueue_steady | with_reducible (refine State.readRefs_if_steady ?_ (by assumption))
    | with_reducible (refine State.readRefs_if_error_steady ?_ (by assumption)) | with_reducible apply State.beginWait_steady
    | with_reducible apply Steady.ite | (fail_if_no_progress (with_reducible (refine Steady.of ?_ rfl rfl rfl rfl rfl rfl rfl rfl)))
    | with_reducible (refine Steady.snd (by assumption) ?_) | with_reducible (refine Steady.snd2 (by assumption) ?_)
    | with_reducible apply foldl_steady | split

theorem State.renameCmd_steady {s0 s : State} (h : Steady s0 s) (v : Nat) :
    Steady s0 (s.renameCmd v) := by
  unfold State.renameCmd; repeat' first
    | intro _ | with_reducible assumption | with_reducible apply Steady.ite
    | (fail_if_no_progress (with_reducible (refine Steady.of ?_ rfl rfl rfl rfl rfl rfl rfl rfl)))

theorem State.overlap_steady {s0 s : State} (h : Steady s0 s) :
    Steady s0 (s.overlap) := by
  unfold State.overlap; repeat' first
    | intro _ | with_reducible assumption | with_reducible apply State.setQueue_steady | with_reducible apply State.takeUp_steady
    | with_reducible apply State.renameCmd_steady | with_reducible apply Steady.ite
    | (fail_if_no_progress (with_reducible (refine Steady.of ?_ rfl rfl rfl rfl rfl rfl rfl rfl)))
    | with_reducible (refine Steady.snd (by assumption) ?_) | with_reducible (refine Steady.snd2 (by assumption) ?_)
    | with_reducible apply foldl_steady | split

theorem State.enqueue_steady {s0 s : State} (h : Steady s0 s) (q : Nat) (l : List Cmd) :
    Steady s0 (s.enqueue q l) := by
  unfold State.enqueue; repeat' first
    | intro _ | with_reducible assumption | with_reducible apply State.setQueue_steady | with_reducible apply State.overlap_steady
    | with_reducible apply State.takeUp_steady | with_reducible apply Steady.ite
    | (fail_if_no_progress (with_reducible (refine Steady.of ?_ rfl rfl rfl rfl rfl rfl rfl rfl)))
    | with_reducible (refine Steady.snd (by assumption) ?_) | with_reducible (refine Steady.snd2 (by assumption) ?_)
    | with_reducible apply foldl_steady | split

theorem State.endQwait_steady {s0 s : State} (h : Steady s0 s) (q : Nat) (x : Queue) :
    Steady s0 (s.endQwait q x) := by
  unfold State.endQwait; repeat' first
    | intro _ | with_reducible assumption | with_reducible apply State.modCtx_steady | with_reducible apply State.modQueue_steady

theorem State.runCmd_steady {s0 s : State} (h : Steady s0 s) (q : Nat) (op : Nat) (go : State → Queue → Cmd → State) (h_go : ∀ st y1 y2, Steady s0 st → Steady s0 (go st y1 y2)) :
    Answers s0 (s.runCmd q op go) := by
  unfold State.runCmd; repeat' first
    | intro _ | with_reducible assumption | with_reducible apply State.endQwait_steady | with_reducible apply stay_steady
    | with_reducible apply Answers.next | with_reducible apply Answers.ite | apply h_go | with_reducible apply Steady.ite
    | (fail_if_no_progress (with_reducible (refine Steady.of ?_ rfl rfl rfl rfl rfl rfl rfl rfl)))
    | with_reducible (refine Steady.snd (by assumption) ?_) | with_reducible (refine Steady.snd2 (by assumption) ?_)
    | with_reducible apply foldl_steady | split

theorem State.runComposition_steady {s0 s : State} (h : Steady s0 s) (q : Nat) (op : Nat) (go : State → Queue → Cmd → State) (h_go : ∀ st y1 y2, Steady s0 st → Steady s0 (go st y1 y2)) :
    Answers s0 (s.runComposition q op go) := by
  unfold State.runComposition; repeat' first
    | intro _ | with_reducible assumption | with_reducible apply State.overlap_steady | with_reducible apply State.endQwait_steady
    | with_reducible apply stay_steady | with_reducible apply Answers.next | with_reducible apply Answers.ite | apply h_go
    | with_reducible apply Steady.ite | (fail_if_no_progress (with_reducible (refine Steady.of ?_ rfl rfl rfl rfl rfl rfl rfl rfl)))
    | with_reducible (refine Steady.snd (by assumption) ?_) | with_reducible (refine Steady.snd2 (by assumption) ?_)
    | with_reducible apply foldl_steady | split

theorem State.withBlock_steady {s0 s : State} (h : Steady s0 s) (q : Nat) (c : Cmd) (n : Nat) (go : State → Bytes → State) (h_go : ∀ st y1, Steady s0 st → Steady s0 (go st y1)) :
    Steady s0 (s.withBlock q c n go) := by
  unfold State.withBlock; repeat' first
    | intro _ | with_reducible assumption | with_reducible apply State.hubRead_steady | with_reducible apply State.cmdDone_steady | apply h_go
    | with_reducible apply Steady.ite | (fail_if_no_progress (with_reducible (refine Steady.of ?_ rfl rfl rfl rfl rfl rfl rfl rfl)))
    | with_reducible (refine Steady.snd (by assumption) ?_) | with_reducible (refine Steady.snd2 (by assumption) ?_)
    | with_reducible apply foldl_steady | split

theorem State.doneRecord_steady {s0 s : State} (h : Steady s0 s) (q : Nat) (x : Queue) (c : Cmd) (status : Nat) (detail : Nat) :
    Steady s0 (s.doneRecord q x c status detail) := by
  unfold State.doneRecord; repeat' first
    | intro _ | with_reducible assumption | with_reducible apply State.ringPut_steady

theorem State.signalFor_steady {s0 s : State} (h : Steady s0 s) (q : Nat) (x : Queue) (c : Cmd) (status : Nat) :
    Steady s0 (s.signalFor q x c status).2.2 := by
  unfold State.signalFor; repeat' first
    | intro _ | with_reducible assumption | with_reducible apply State.hubXlate_steady | with_reducible apply State.xltRecord_steady
    | with_reducible apply Steady.ite | (fail_if_no_progress (with_reducible (refine Steady.of ?_ rfl rfl rfl rfl rfl rfl rfl rfl)))
    | with_reducible (refine Steady.snd (by assumption) ?_) | with_reducible (refine Steady.snd2 (by assumption) ?_)
    | with_reducible apply foldl_steady | split | dsimp only

theorem State.lastTake_steady {s0 s : State} (h : Steady s0 s) (x : Queue) (c : Cmd) (status : Nat) (refs : List (Nat × Nat)) :
    Steady s0 (s.lastTake x c status refs) := by
  unfold State.lastTake; repeat' first
    | intro _ | with_reducible assumption | with_reducible apply State.countAdd_steady | with_reducible apply foldS_steady
    | with_reducible apply Steady.ite | (fail_if_no_progress (with_reducible (refine Steady.of ?_ rfl rfl rfl rfl rfl rfl rfl rfl)))
    | with_reducible (refine Steady.snd (by assumption) ?_) | with_reducible (refine Steady.snd2 (by assumption) ?_)
    | with_reducible apply foldl_steady | split

theorem State.lastDrop_steady {s0 s : State} (h : Steady s0 s) (q : Nat) (x : Queue) (c : Cmd) (status : Nat) :
    Steady s0 (s.lastDrop q x c status) := by
  unfold State.lastDrop; repeat' first
    | intro _ | with_reducible assumption | with_reducible apply State.releaseLast_steady | with_reducible apply Steady.ite
    | (fail_if_no_progress (with_reducible (refine Steady.of ?_ rfl rfl rfl rfl rfl rfl rfl rfl)))
    | with_reducible (refine Steady.snd (by assumption) ?_) | with_reducible (refine Steady.snd2 (by assumption) ?_)
    | with_reducible apply foldl_steady | split

theorem State.endCmd_steady {s0 s : State} (h : Steady s0 s) (q : Nat) (x : Queue) (c : Cmd) (refs : List (Nat × Nat)) (status : Nat) (detail : Nat) :
    Steady s0 (s.endCmd q x c refs status detail) := by
  unfold State.endCmd; repeat' first
    | intro _ | with_reducible assumption | with_reducible apply State.postOffer_steady | with_reducible apply State.lastDrop_steady
    | with_reducible apply State.subRefs_steady | with_reducible apply State.doneRecord_steady | with_reducible apply State.signalFor_steady
    | with_reducible apply State.lastTake_steady | with_reducible apply Steady.ite
    | (fail_if_no_progress (with_reducible (refine Steady.of ?_ rfl rfl rfl rfl rfl rfl rfl rfl)))
    | with_reducible (refine Steady.snd (by assumption) ?_) | with_reducible (refine Steady.snd2 (by assumption) ?_)
    | with_reducible apply foldl_steady | split

theorem State.popCmd_steady {s0 s : State} (h : Steady s0 s) (q : Nat) :
    Steady s0 (s.popCmd q) := by
  unfold State.popCmd; repeat' first
    | intro _ | with_reducible assumption | with_reducible apply State.overlap_steady | with_reducible apply State.takeUp_steady
    | with_reducible apply State.modQueue_steady | with_reducible apply Steady.ite
    | (fail_if_no_progress (with_reducible (refine Steady.of ?_ rfl rfl rfl rfl rfl rfl rfl rfl)))

theorem State.abortCmd_steady {s0 s : State} (h : Steady s0 s) (q : Nat) (x : Queue) (c : Cmd) :
    Steady s0 (s.abortCmd q x c) := by
  unfold State.abortCmd; repeat' first
    | intro _ | with_reducible assumption | with_reducible apply State.endCmd_steady
    | with_reducible (refine State.readRefs_if_steady ?_ (by assumption)) | with_reducible (refine State.readRefs_if_error_steady ?_ (by assumption))
    | with_reducible apply Steady.ite | (fail_if_no_progress (with_reducible (refine Steady.of ?_ rfl rfl rfl rfl rfl rfl rfl rfl)))
    | with_reducible (refine Steady.snd (by assumption) ?_) | with_reducible (refine Steady.snd2 (by assumption) ?_)
    | with_reducible apply foldl_steady | split

theorem State.abortWaiting_steady {s0 s : State} (h : Steady s0 s) (q : Nat) :
    Steady s0 (s.abortWaiting q) := by
  unfold State.abortWaiting; repeat' first
    | intro _ | with_reducible assumption | with_reducible apply State.dropWatch_steady | with_reducible apply foldS_steady
    | with_reducible apply State.modQueue_steady | with_reducible apply State.abortCmd_steady | with_reducible apply Steady.ite
    | (fail_if_no_progress (with_reducible (refine Steady.of ?_ rfl rfl rfl rfl rfl rfl rfl rfl)))
    | with_reducible (refine Steady.snd (by assumption) ?_) | with_reducible (refine Steady.snd2 (by assumption) ?_)
    | with_reducible apply foldl_steady | split

theorem State.leaveSlot_steady {s0 s : State} (h : Steady s0 s) (c : Nat) (k : Nat) :
    Steady s0 (s.leaveSlot c k) := by
  unfold State.leaveSlot; repeat' first
    | intro _ | with_reducible assumption | with_reducible apply State.setCore_steady | with_reducible apply State.charge_steady
    | with_reducible apply State.flushSlot_steady

theorem State.evictCtx_steady {s0 s : State} (h : Steady s0 s) (ctx : Nat) :
    Steady s0 (s.evictCtx ctx) := by
  unfold State.evictCtx; repeat' first
    | intro _ | with_reducible assumption | with_reducible apply State.leaveSlot_steady | with_reducible apply State.modCtx_steady
    | with_reducible apply foldS_steady

theorem State.dropXlate_steady {s0 s : State} (h : Steady s0 s) (ctx : Nat) :
    Steady s0 (s.dropXlate ctx) := by
  unfold State.dropXlate; repeat' first
    | intro _ | with_reducible assumption | with_reducible apply Steady.ite
    | (fail_if_no_progress (with_reducible (refine Steady.of ?_ rfl rfl rfl rfl rfl rfl rfl rfl)))

theorem State.squash_steady {s0 s : State} (h : Steady s0 s) (ctx : Nat) :
    Steady s0 (s.squash ctx) := by
  unfold State.squash; repeat' first
    | intro _ | with_reducible assumption | with_reducible apply Steady.ite
    | (fail_if_no_progress (with_reducible (refine Steady.of ?_ rfl rfl rfl rfl rfl rfl rfl rfl)))

theorem State.abandonSifts_steady {s0 s : State} (h : Steady s0 s) (ctx : Nat) :
    Steady s0 (s.abandonSifts ctx) := by
  unfold State.abandonSifts; repeat' first
    | intro _ | with_reducible assumption | with_reducible apply State.siftLeave_steady | with_reducible apply foldS_steady

theorem State.stopChans_steady {s0 s : State} (h : Steady s0 s) (ctx : Nat) :
    Steady s0 (s.stopChans ctx) := by
  unfold State.stopChans; repeat' first
    | intro _ | with_reducible assumption | with_reducible apply State.chanStop_steady | with_reducible apply foldS_steady
    | with_reducible apply Steady.ite | (fail_if_no_progress (with_reducible (refine Steady.of ?_ rfl rfl rfl rfl rfl rfl rfl rfl)))
    | with_reducible (refine Steady.snd (by assumption) ?_) | with_reducible (refine Steady.snd2 (by assumption) ?_)
    | with_reducible apply foldl_steady | split

theorem State.endCmds_steady {s0 s : State} (h : Steady s0 s) (ctx : Nat) (status : Nat) :
    Steady s0 (s.endCmds ctx status) := by
  unfold State.endCmds; repeat' first
    | intro _ | with_reducible assumption | with_reducible apply State.dropWatch_steady | with_reducible apply State.cmdDone_steady
    | with_reducible apply foldS_steady | with_reducible apply Steady.ite
    | (fail_if_no_progress (with_reducible (refine Steady.of ?_ rfl rfl rfl rfl rfl rfl rfl rfl)))
    | with_reducible (refine Steady.snd (by assumption) ?_) | with_reducible (refine Steady.snd2 (by assumption) ?_)
    | with_reducible apply foldl_steady | split

theorem State.resetSlot_steady {s0 s : State} (h : Steady s0 s) (c : Nat) (k : Nat) (x : Slot) :
    Steady s0 (s.resetSlot c k x) := by
  unfold State.resetSlot; repeat' first
    | intro _ | with_reducible assumption | with_reducible apply State.modSlot_steady | with_reducible apply State.promotionEnd_steady
    | with_reducible apply State.setCore_steady | with_reducible apply Steady.ite
    | (fail_if_no_progress (with_reducible (refine Steady.of ?_ rfl rfl rfl rfl rfl rfl rfl rfl)))
    | with_reducible (refine Steady.snd (by assumption) ?_) | with_reducible (refine Steady.snd2 (by assumption) ?_)
    | with_reducible apply foldl_steady | split

theorem State.entryEnded_steady {s0 s : State} (h : Steady s0 s) (i : Nat) :
    Steady s0 (s.entryEnded i) := by
  unfold State.entryEnded; repeat' first
    | intro _ | with_reducible assumption | with_reducible apply Steady.ite
    | (fail_if_no_progress (with_reducible (refine Steady.of ?_ rfl rfl rfl rfl rfl rfl rfl rfl)))

theorem State.ctxResetQuiet_steady {s0 s : State} (h : Steady s0 s) (ctx : Nat) (status : Nat) :
    Steady s0 (s.ctxResetQuiet ctx status) := by
  unfold State.ctxResetQuiet; repeat' first
    | intro _ | with_reducible assumption | with_reducible apply State.stopChans_steady | with_reducible apply State.resetSlot_steady
    | with_reducible apply State.chargeAll_steady | with_reducible apply State.dropWatch_steady | with_reducible apply State.endCmds_steady
    | with_reducible apply State.entryEnded_steady | with_reducible apply State.abandonSifts_steady | with_reducible apply State.squash_steady
    | with_reducible apply State.modCtx_steady | with_reducible apply foldS_steady | with_reducible apply State.dropXlate_steady
    | with_reducible apply Steady.ite | (fail_if_no_progress (with_reducible (refine Steady.of ?_ rfl rfl rfl rfl rfl rfl rfl rfl)))
    | with_reducible (refine Steady.snd (by assumption) ?_) | with_reducible (refine Steady.snd2 (by assumption) ?_)
    | with_reducible apply foldl_steady | split | dsimp only

theorem State.ctxReset_steady {s0 s : State} (h : Steady s0 s) (ctx : Nat) (status : Nat) (reason : Nat) :
    Steady s0 (s.ctxReset ctx status reason) := by
  unfold State.ctxReset; repeat' first
    | intro _ | with_reducible assumption | with_reducible apply State.resetRec_steady | with_reducible apply State.ctxResetQuiet_steady

theorem State.ctxResetFree_steady {s0 s : State} (h : Steady s0 s) (ctx : Nat) (status : Nat) :
    Steady s0 (s.ctxResetFree ctx status) := by
  unfold State.ctxResetFree; repeat' first
    | intro _ | with_reducible assumption | with_reducible apply State.ctxReset_steady | with_reducible apply State.useFree_steady

theorem State.pmEntry_steady {s0 s : State} (h : Steady s0 s) (off : Nat) (n : Nat) (zero : Bool) :
    Steady s0 (s.pmEntry off n zero) := by
  unfold State.pmEntry; repeat' first
    | intro _ | with_reducible assumption | with_reducible apply State.useFree_steady | with_reducible apply State.putBytes_steady

theorem State.snapshot_steady {s0 s : State} (h : Steady s0 s) (step : Nat) (reason : Nat) (target : Nat) (valid : Nat) (entries : List (Nat × Nat × Bool)) :
    Steady s0 (s.snapshot step reason target valid entries) := by
  unfold State.snapshot; repeat' first
    | intro _ | with_reducible assumption | with_reducible apply State.bumpFld_steady | with_reducible apply State.setFld_steady
    | with_reducible apply State.pmEntry_steady | with_reducible apply foldS_steady | with_reducible apply State.putBytes_steady
    | with_reducible apply Steady.ite

theorem State.resetCore_steady {s0 s : State} (h : Steady s0 s) (c : Nat) (reason : Nat) :
    Steady s0 (s.resetCore c reason) := by
  unfold State.resetCore; repeat' first
    | intro _ | with_reducible assumption | with_reducible apply State.setReg_steady | with_reducible apply State.resetRec_steady
    | with_reducible apply State.ctxReset_steady | with_reducible apply State.siftLeave_steady | with_reducible apply State.setCore_steady
    | with_reducible apply State.snapshot_steady | with_reducible apply foldS_steady

theorem State.resetCopy_steady {s0 s : State} (h : Steady s0 s) (e : Nat) (reason : Nat) :
    Steady s0 (s.resetCopy e reason) := by
  unfold State.resetCopy; repeat' first
    | intro _ | with_reducible assumption | with_reducible apply State.resetRec_steady | with_reducible apply State.cmdDone_steady
    | with_reducible apply State.chanStop_steady | with_reducible apply State.snapshot_steady | with_reducible apply foldS_steady
    | with_reducible apply Steady.ite | (fail_if_no_progress (with_reducible (refine Steady.of ?_ rfl rfl rfl rfl rfl rfl rfl rfl)))
    | with_reducible (refine Steady.snd (by assumption) ?_) | with_reducible (refine Steady.snd2 (by assumption) ?_)
    | with_reducible apply foldl_steady | split | dsimp only

theorem State.resetUnit_steady {s0 s : State} (h : Steady s0 s) (u : Nat) (reason : Nat) :
    Steady s0 (s.resetUnit u reason) := by
  unfold State.resetUnit; repeat' first
    | intro _ | with_reducible assumption | with_reducible apply State.resetRec_steady | with_reducible apply State.siftFail_steady
    | with_reducible apply State.snapshot_steady | with_reducible apply foldS_steady | with_reducible apply Steady.ite
    | (fail_if_no_progress (with_reducible (refine Steady.of ?_ rfl rfl rfl rfl rfl rfl rfl rfl)))
    | with_reducible (refine Steady.snd (by assumption) ?_) | with_reducible (refine Steady.snd2 (by assumption) ?_)
    | with_reducible apply foldl_steady | split

theorem State.killQueue_steady {s0 s : State} (h : Steady s0 s) (q : Nat) :
    Steady s0 (s.killQueue q) := by
  unfold State.killQueue; repeat' first
    | intro _ | with_reducible assumption | with_reducible apply State.dropWatch_steady | with_reducible apply State.setChan_steady
    | with_reducible apply State.endCmd_steady | with_reducible apply State.releaseLast_steady | with_reducible apply foldS_steady
    | with_reducible apply State.abortCmd_steady | with_reducible apply Steady.ite
    | (fail_if_no_progress (with_reducible (refine Steady.of ?_ rfl rfl rfl rfl rfl rfl rfl rfl)))
    | with_reducible (refine Steady.snd (by assumption) ?_) | with_reducible (refine Steady.snd2 (by assumption) ?_)
    | with_reducible apply foldl_steady | split

theorem State.killCtx_steady {s0 s : State} (h : Steady s0 s) (ctx : Nat) (q : Nat) (evring : Nat) (op : Nat) :
    Steady s0 (s.killCtx ctx q evring op) := by
  unfold State.killCtx; repeat' first
    | intro _ | with_reducible assumption | with_reducible apply State.releaseLast_steady | with_reducible apply foldS_steady
    | with_reducible apply State.dropXlate_steady | with_reducible apply Steady.ite
    | (fail_if_no_progress (with_reducible (refine Steady.of ?_ rfl rfl rfl rfl rfl rfl rfl rfl)))

theorem State.killRing_steady {s0 s : State} (h : Steady s0 s) (r : Nat) (q : Nat) (evring : Nat) (op : Nat) :
    Steady s0 (s.killRing r q evring op) := by
  unfold State.killRing; repeat' first
    | intro _ | with_reducible assumption | with_reducible apply State.releaseLast_steady | with_reducible apply Steady.ite
    | (fail_if_no_progress (with_reducible (refine Steady.of ?_ rfl rfl rfl rfl rfl rfl rfl rfl)))

theorem State.unserve_steady {s0 s : State} (h : Steady s0 s) (n : Nat) :
    Steady s0 (s.unserve n) := by
  unfold State.unserve; repeat' first
    | intro _ | with_reducible assumption | with_reducible apply State.setFrame_steady | with_reducible apply State.setMemSlice_steady
    | with_reducible apply Steady.ite | (fail_if_no_progress (with_reducible (refine Steady.of ?_ rfl rfl rfl rfl rfl rfl rfl rfl)))
    | with_reducible (refine Steady.snd (by assumption) ?_) | with_reducible (refine Steady.snd2 (by assumption) ?_)
    | with_reducible apply foldl_steady

theorem State.startScrub_steady {s0 s : State} (h : Steady s0 s) (n : Nat) :
    Steady s0 (s.startScrub n) := by
  unfold State.startScrub; repeat' first
    | intro _ | with_reducible assumption | with_reducible apply State.setMemSlice_steady | with_reducible apply State.unserve_steady

theorem State.releaseQuarantine_steady {s0 s : State} (h : Steady s0 s) (f : Nat) :
    Steady s0 (s.releaseQuarantine f) := by
  unfold State.releaseQuarantine; repeat' first
    | intro _ | with_reducible assumption | with_reducible apply State.startScrub_steady | with_reducible apply State.setCoreSlice_steady
    | with_reducible apply State.setLinkSlice_steady | with_reducible apply foldS_steady | with_reducible apply Steady.ite

theorem State.bumpEpoch_steady {s0 s : State} (h : Steady s0 s) (f : Nat) :
    Steady s0 (s.bumpEpoch f) := by
  unfold State.bumpEpoch; repeat' first
    | intro _ | with_reducible assumption | with_reducible apply State.setFolio_steady

theorem State.loseFolio_steady {s0 s : State} (h : Steady s0 s) (f : Nat) :
    Steady s0 (s.loseFolio f) := by
  unfold State.loseFolio; repeat' first
    | intro _ | with_reducible assumption | with_reducible apply State.siftFail_steady | with_reducible apply State.finish_steady
    | with_reducible apply foldS_steady | with_reducible apply Steady.ite
    | (fail_if_no_progress (with_reducible (refine Steady.of ?_ rfl rfl rfl rfl rfl rfl rfl rfl)))
    | with_reducible (refine Steady.snd (by assumption) ?_) | with_reducible (refine Steady.snd2 (by assumption) ?_)
    | with_reducible apply foldl_steady | split

theorem State.flushCaches_steady {s0 s : State} (h : Steady s0 s) (f : Nat) :
    Steady s0 (s.flushCaches f) := by
  unfold State.flushCaches; repeat' first
    | intro _ | with_reducible assumption | with_reducible apply State.cleanLine_steady | with_reducible apply foldS_steady

theorem State.folioReset_steady {s0 s : State} (h : Steady s0 s) (f : Nat) (reason : Nat) (started : Nat) :
    Steady s0 (s.folioReset f reason started) := by
  unfold State.folioReset; repeat' first
    | intro _ | with_reducible assumption | with_reducible apply State.resetRec_steady | with_reducible apply State.killCtx_steady
    | with_reducible apply State.ctxResetQuiet_steady | with_reducible apply State.killRing_steady | with_reducible apply State.flushCaches_steady
    | with_reducible apply State.evictCtx_steady | with_reducible apply State.releaseQuarantine_steady | with_reducible apply State.snapshot_steady
    | with_reducible apply State.bumpEpoch_steady | with_reducible apply foldS_steady | with_reducible apply State.setFolio_steady
    | with_reducible apply State.killQueue_steady

theorem State.startFolioReset_steady {s0 s : State} (h : Steady s0 s) (f : Nat) (reason : Nat) (queue : Option Nat) :
    Steady s0 (s.startFolioReset f reason queue) := by
  unfold State.startFolioReset; repeat' first
    | intro _ | with_reducible assumption | with_reducible apply State.setFolio_steady | with_reducible apply Steady.ite
    | (fail_if_no_progress (with_reducible (refine Steady.of ?_ rfl rfl rfl rfl rfl rfl rfl rfl)))
    | with_reducible (refine Steady.snd (by assumption) ?_) | with_reducible (refine Steady.snd2 (by assumption) ?_)
    | with_reducible apply foldl_steady | split

theorem State.makeRoomOn_steady {s0 s : State} (h : Steady s0 s) (c : Nat) (ctx : Nat) (sp : Nat) (acc : Nat) (fuel : Nat) :
    Steady s0 (s.makeRoomOn c ctx sp acc fuel) := by
  induction fuel generalizing s c ctx sp acc with
  | zero => unfold State.makeRoomOn; exact h
  | succ fuel ih =>
  unfold State.makeRoomOn; repeat' first
    | with_reducible apply ih | intro _ | with_reducible assumption | with_reducible apply State.evictCtx_steady
    | with_reducible apply State.evictCtx_steady | with_reducible apply Steady.ite
    | (fail_if_no_progress (with_reducible (refine Steady.of ?_ rfl rfl rfl rfl rfl rfl rfl rfl)))
    | with_reducible (refine Steady.snd (by assumption) ?_) | with_reducible (refine Steady.snd2 (by assumption) ?_)
    | with_reducible apply foldl_steady | split

theorem State.makeWay_steady {s0 s : State} (h : Steady s0 s) (ctx : Nat) (sp : Nat) (acc : Nat) :
    Steady s0 (s.makeWay ctx sp acc) := by
  unfold State.makeWay; repeat' first
    | intro _ | with_reducible assumption | with_reducible apply State.makeRoomOn_steady | with_reducible apply State.evictCtx_steady
    | with_reducible apply foldS_steady | with_reducible apply Steady.ite
    | (fail_if_no_progress (with_reducible (refine Steady.of ?_ rfl rfl rfl rfl rfl rfl rfl rfl)))
    | with_reducible (refine Steady.snd (by assumption) ?_) | with_reducible (refine Steady.snd2 (by assumption) ?_)
    | with_reducible apply foldl_steady | split

theorem State.takeSlot_steady {s0 s : State} (h : Steady s0 s) (c : Nat) (ctx : Nat) (sp : Nat) (acc : Nat) :
    Steady s0 (s.takeSlot c ctx sp acc) := by
  unfold State.takeSlot; repeat' first
    | intro _ | with_reducible assumption | with_reducible apply State.setSlot_steady | with_reducible apply Steady.ite
    | (fail_if_no_progress (with_reducible (refine Steady.of ?_ rfl rfl rfl rfl rfl rfl rfl rfl)))
    | with_reducible (refine Steady.snd (by assumption) ?_) | with_reducible (refine Steady.snd2 (by assumption) ?_)
    | with_reducible apply foldl_steady | split | dsimp only

theorem State.takeEntry_steady {s0 s : State} (h : Steady s0 s) (ctx : Nat) :
    Steady s0 (s.takeEntry ctx) := by
  unfold State.takeEntry; repeat' first
    | intro _ | with_reducible assumption | with_reducible apply State.modCtx_steady

theorem State.startRank_steady {s0 s : State} (h : Steady s0 s) (t : Start) (p : Program) (n : Nat) (c : Nat) (r : Nat) :
    Steady s0 (s.startRank t p n c r) := by
  unfold State.startRank; repeat' first
    | intro _ | with_reducible assumption | with_reducible apply State.setCore_steady | with_reducible apply Steady.ite
    | (fail_if_no_progress (with_reducible (refine Steady.of ?_ rfl rfl rfl rfl rfl rfl rfl rfl)))
    | with_reducible (refine Steady.snd (by assumption) ?_) | with_reducible (refine Steady.snd2 (by assumption) ?_)
    | with_reducible apply foldl_steady | split

theorem State.activate_steady {s0 s : State} (h : Steady s0 s) (t : Start) (p : Program) (queue : Option Nat) (entry : Option Nat) :
    Steady s0 (s.activate t p queue entry) := by
  unfold State.activate; repeat' first
    | intro _ | with_reducible assumption | with_reducible apply State.takeEntry_steady | with_reducible apply State.startRank_steady
    | with_reducible apply State.takeSlot_steady | with_reducible apply State.modCtx_steady | with_reducible apply foldS_steady
    | with_reducible apply Steady.ite | (fail_if_no_progress (with_reducible (refine Steady.of ?_ rfl rfl rfl rfl rfl rfl rfl rfl)))

theorem execLaunch_steady {s0 s : State} (h : Steady s0 s) (queue : Nat) :
    Answers s0 (execLaunch queue s) := by
  unfold execLaunch; repeat' first
    | intro _ | with_reducible assumption | with_reducible apply stay_steady | with_reducible apply State.cmdDone_steady
    | with_reducible apply State.setPhase_steady | with_reducible apply State.makeWay_steady | with_reducible apply Answers.next
    | with_reducible apply Answers.ite | with_reducible apply Steady.ite
    | (fail_if_no_progress (with_reducible (refine Steady.of ?_ rfl rfl rfl rfl rfl rfl rfl rfl)))
    | with_reducible (refine Steady.snd (by assumption) ?_) | with_reducible (refine Steady.snd2 (by assumption) ?_)
    | with_reducible apply foldl_steady | split

theorem execLaunchStart_steady {s0 s : State} (h : Steady s0 s) (queue : Nat) :
    Answers s0 (execLaunchStart queue s) := by
  unfold execLaunchStart; repeat' first
    | intro _ | with_reducible assumption | with_reducible apply State.endQwait_steady | with_reducible apply stay_steady
    | with_reducible apply State.cmdDone_steady | with_reducible apply State.setPhase_steady | with_reducible apply State.activate_steady
    | with_reducible apply State.makeWay_steady | with_reducible apply Answers.next | with_reducible apply Answers.ite
    | with_reducible apply Steady.ite | (fail_if_no_progress (with_reducible (refine Steady.of ?_ rfl rfl rfl rfl rfl rfl rfl rfl)))
    | with_reducible (refine Steady.snd (by assumption) ?_) | with_reducible (refine Steady.snd2 (by assumption) ?_)
    | with_reducible apply foldl_steady | split

theorem State.leaveDeparting_steady {s0 s : State} (h : Steady s0 s) (ctx : Nat) :
    Steady s0 (s.leaveDeparting ctx) := by
  unfold State.leaveDeparting; repeat' first
    | intro _ | with_reducible assumption | with_reducible apply State.leaveSlot_steady | with_reducible apply State.setCore_steady
    | with_reducible apply foldS_steady | with_reducible apply Steady.ite

theorem execActivationComplete_steady {s0 s : State} (h : Steady s0 s) (ctx : Nat) :
    Answers s0 (execActivationComplete ctx s) := by
  unfold execActivationComplete; repeat' first
    | intro _ | with_reducible assumption | with_reducible apply State.entryEnded_steady | with_reducible apply stay_steady
    | with_reducible apply State.leaveDeparting_steady | with_reducible apply State.cmdDone_steady | with_reducible apply State.setCtx_steady
    | with_reducible apply Answers.next | with_reducible apply Answers.ite | with_reducible apply Steady.ite
    | (fail_if_no_progress (with_reducible (refine Steady.of ?_ rfl rfl rfl rfl rfl rfl rfl rfl)))
    | with_reducible (refine Steady.snd (by assumption) ?_) | with_reducible (refine Steady.snd2 (by assumption) ?_)
    | with_reducible apply foldl_steady | split

theorem execCtxFault_steady {s0 s : State} (h : Steady s0 s) (core : Nat) (slot : Nat) :
    Answers s0 (execCtxFault core slot s) := by
  unfold execCtxFault; repeat' first
    | intro _ | with_reducible assumption | with_reducible apply State.chargeAll_steady | with_reducible apply stay_steady
    | with_reducible apply State.modSlot_steady | with_reducible apply State.matDrain_steady | with_reducible apply State.choose_steady
    | with_reducible apply State.ctxFaultRecord_steady | with_reducible apply State.modCtx_steady | with_reducible apply Answers.next
    | with_reducible apply Answers.ite | with_reducible apply Steady.ite
    | (fail_if_no_progress (with_reducible (refine Steady.of ?_ rfl rfl rfl rfl rfl rfl rfl rfl)))
    | with_reducible (refine Steady.snd (by assumption) ?_) | with_reducible (refine Steady.snd2 (by assumption) ?_)
    | with_reducible apply foldl_steady | split

theorem execFaultHoldExpiry_steady {s0 s : State} (h : Steady s0 s) (ctx : Nat) :
    Answers s0 (execFaultHoldExpiry ctx s) := by
  unfold execFaultHoldExpiry; repeat' first
    | intro _ | with_reducible assumption | with_reducible apply stay_steady | with_reducible apply State.ctxResetFree_steady
    | with_reducible apply Answers.next | with_reducible apply Answers.ite | with_reducible apply Steady.ite
    | (fail_if_no_progress (with_reducible (refine Steady.of ?_ rfl rfl rfl rfl rfl rfl rfl rfl)))
    | with_reducible (refine Steady.snd (by assumption) ?_) | with_reducible (refine Steady.snd2 (by assumption) ?_)
    | with_reducible apply foldl_steady | split

theorem State.countPreempt_steady {s0 s : State} (h : Steady s0 s) (c : Nat) :
    Steady s0 (s.countPreempt c) := by
  unfold State.countPreempt; repeat' first
    | intro _ | with_reducible assumption | with_reducible apply State.modCtx_steady | with_reducible apply Steady.ite
    | (fail_if_no_progress (with_reducible (refine Steady.of ?_ rfl rfl rfl rfl rfl rfl rfl rfl)))
    | with_reducible (refine Steady.snd (by assumption) ?_) | with_reducible (refine Steady.snd2 (by assumption) ?_)
    | with_reducible apply foldl_steady | split

theorem State.stopUnits_steady {s0 s : State} (h : Steady s0 s) (c : Nat) :
    Steady s0 (s.stopUnits c) := by
  unfold State.stopUnits; repeat' first
    | intro _ | with_reducible assumption | with_reducible apply State.matStop_steady | with_reducible apply Steady.ite
    | (fail_if_no_progress (with_reducible (refine Steady.of ?_ rfl rfl rfl rfl rfl rfl rfl rfl)))
    | with_reducible (refine Steady.snd (by assumption) ?_) | with_reducible (refine Steady.snd2 (by assumption) ?_)
    | with_reducible apply foldl_steady | split

theorem State.switchTo_steady {s0 s : State} (h : Steady s0 s) (c : Nat) (k : Nat) :
    Steady s0 (s.switchTo c k) := by
  unfold State.switchTo; repeat' first
    | intro _ | with_reducible assumption | with_reducible apply State.countPreempt_steady | with_reducible apply State.recheck_steady
    | with_reducible apply State.setCore_steady | with_reducible apply State.stopUnits_steady | with_reducible apply State.chargeCycles_steady
    | with_reducible apply State.charge_steady | with_reducible apply Steady.ite
    | (fail_if_no_progress (with_reducible (refine Steady.of ?_ rfl rfl rfl rfl rfl rfl rfl rfl)))
    | with_reducible (refine Steady.snd (by assumption) ?_) | with_reducible (refine Steady.snd2 (by assumption) ?_)
    | with_reducible apply foldl_steady | split | dsimp only

theorem execContextSwitch_steady {s0 s : State} (h : Steady s0 s) (core : Nat) :
    Answers s0 (execContextSwitch core s) := by
  unfold execContextSwitch; repeat' first
    | intro _ | with_reducible assumption | with_reducible apply State.setCore_steady | with_reducible apply State.switchTo_steady
    | with_reducible apply Answers.next | with_reducible apply Answers.ite | with_reducible apply Steady.ite
    | (fail_if_no_progress (with_reducible (refine Steady.of ?_ rfl rfl rfl rfl rfl rfl rfl rfl)))
    | with_reducible (refine Steady.snd (by assumption) ?_) | with_reducible (refine Steady.snd2 (by assumption) ?_)
    | with_reducible apply foldl_steady | split

theorem execQuantumExpiry_steady {s0 s : State} (h : Steady s0 s) (core : Nat) :
    Answers s0 (execQuantumExpiry core s) := by
  unfold execQuantumExpiry; repeat' first
    | intro _ | with_reducible assumption | with_reducible apply stay_steady | with_reducible apply State.setCore_steady
    | with_reducible apply State.charge_steady | with_reducible apply Answers.next | with_reducible apply Answers.ite
    | with_reducible apply Steady.ite | (fail_if_no_progress (with_reducible (refine Steady.of ?_ rfl rfl rfl rfl rfl rfl rfl rfl)))
    | with_reducible (refine Steady.snd (by assumption) ?_) | with_reducible (refine Steady.snd2 (by assumption) ?_)
    | with_reducible apply foldl_steady | split | dsimp only

theorem execWaitSwExpiry_steady {s0 s : State} (h : Steady s0 s) (core : Nat) :
    Answers s0 (execWaitSwExpiry core s) := by
  unfold execWaitSwExpiry; repeat' first
    | intro _ | with_reducible assumption | with_reducible apply stay_steady | with_reducible apply State.choose_steady
    | with_reducible apply Answers.next | with_reducible apply Answers.ite | with_reducible apply Steady.ite
    | (fail_if_no_progress (with_reducible (refine Steady.of ?_ rfl rfl rfl rfl rfl rfl rfl rfl)))
    | with_reducible (refine Steady.snd (by assumption) ?_) | with_reducible (refine Steady.snd2 (by assumption) ?_)
    | with_reducible apply foldl_steady | split

theorem execRtContextReady_steady {s0 s : State} (h : Steady s0 s) (core : Nat) (slot : Nat) :
    Answers s0 (execRtContextReady core slot s) := by
  unfold execRtContextReady; repeat' first
    | intro _ | with_reducible assumption | with_reducible apply stay_steady | with_reducible apply State.setCore_steady
    | with_reducible apply Answers.next | with_reducible apply Answers.ite | with_reducible apply Steady.ite
    | (fail_if_no_progress (with_reducible (refine Steady.of ?_ rfl rfl rfl rfl rfl rfl rfl rfl)))
    | with_reducible (refine Steady.snd (by assumption) ?_) | with_reducible (refine Steady.snd2 (by assumption) ?_)
    | with_reducible apply foldl_steady | split

theorem execShareSet_steady {s0 s : State} (h : Steady s0 s) (queue : Nat) :
    Answers s0 (execShareSet queue s) := by
  unfold execShareSet; repeat' first
    | intro _ | with_reducible assumption | with_reducible apply State.chargeAll_steady | with_reducible apply State.cmdDone_steady
    | with_reducible apply State.modCtx_steady | with_reducible apply State.runCmd_steady | with_reducible apply Answers.next
    | with_reducible apply Answers.ite | with_reducible apply Steady.ite
    | (fail_if_no_progress (with_reducible (refine Steady.of ?_ rfl rfl rfl rfl rfl rfl rfl rfl)))
    | with_reducible (refine Steady.snd (by assumption) ?_) | with_reducible (refine Steady.snd2 (by assumption) ?_)
    | with_reducible apply foldl_steady | split

theorem execAcctRead_steady {s0 s : State} (h : Steady s0 s) (queue : Nat) :
    Answers s0 (execAcctRead queue s) := by
  unfold execAcctRead; repeat' first
    | intro _ | with_reducible assumption | with_reducible apply State.chargeAll_steady | with_reducible apply State.cmdDone_steady
    | with_reducible apply State.hubWrite_steady | with_reducible apply State.runCmd_steady | with_reducible apply Answers.next
    | with_reducible apply Answers.ite | with_reducible apply Steady.ite
    | (fail_if_no_progress (with_reducible (refine Steady.of ?_ rfl rfl rfl rfl rfl rfl rfl rfl)))
    | with_reducible (refine Steady.snd (by assumption) ?_) | with_reducible (refine Steady.snd2 (by assumption) ?_)
    | with_reducible apply foldl_steady | split | dsimp only

theorem State.takeIn_steady {s0 s : State} (h : Steady s0 s) (queue : Nat) (ctx : Nat) (p : Program) (first : Nat) (count : Nat) (period : Nat) (res : Nat) :
    Steady s0 (s.takeIn queue ctx p first count period res) := by
  unfold State.takeIn; repeat' first
    | intro _ | with_reducible assumption | with_reducible apply State.cmdDone_steady | with_reducible apply State.hubWrite_steady
    | with_reducible apply State.modCtx_steady | with_reducible apply State.useFree_steady | with_reducible apply Steady.ite
    | (fail_if_no_progress (with_reducible (refine Steady.of ?_ rfl rfl rfl rfl rfl rfl rfl rfl)))
    | with_reducible (refine Steady.snd (by assumption) ?_) | with_reducible (refine Steady.snd2 (by assumption) ?_)
    | with_reducible apply foldl_steady | split | dsimp only

theorem execRtAdmit_steady {s0 s : State} (h : Steady s0 s) (queue : Nat) :
    Answers s0 (execRtAdmit queue s) := by
  unfold execRtAdmit; repeat' first
    | intro _ | with_reducible assumption | with_reducible apply State.cmdDone_steady | with_reducible apply State.takeIn_steady
    | with_reducible apply State.withBlock_steady | with_reducible apply State.runCmd_steady | with_reducible apply Answers.next
    | with_reducible apply Answers.ite | with_reducible apply Steady.ite
    | (fail_if_no_progress (with_reducible (refine Steady.of ?_ rfl rfl rfl rfl rfl rfl rfl rfl)))
    | with_reducible (refine Steady.snd (by assumption) ?_) | with_reducible (refine Steady.snd2 (by assumption) ?_)
    | with_reducible apply foldl_steady | split

theorem execRtRelease_steady {s0 s : State} (h : Steady s0 s) (queue : Nat) :
    Answers s0 (execRtRelease queue s) := by
  unfold execRtRelease; repeat' first
    | intro _ | with_reducible assumption | with_reducible apply State.cmdDone_steady | with_reducible apply State.modCtx_steady
    | with_reducible apply State.runCmd_steady | with_reducible apply Answers.next | with_reducible apply Answers.ite
    | with_reducible apply Steady.ite | (fail_if_no_progress (with_reducible (refine Steady.of ?_ rfl rfl rfl rfl rfl rfl rfl rfl)))
    | with_reducible (refine Steady.snd (by assumption) ?_) | with_reducible (refine Steady.snd2 (by assumption) ?_)
    | with_reducible apply foldl_steady | split

theorem execRtMiss_steady {s0 s : State} (h : Steady s0 s) (ctx : Nat) :
    Answers s0 (execRtMiss ctx s) := by
  unfold execRtMiss; repeat' first
    | intro _ | with_reducible assumption | with_reducible apply stay_steady | with_reducible apply State.ringPut_steady
    | with_reducible apply State.modCtx_steady | with_reducible apply State.useFree_steady | with_reducible apply Answers.next
    | with_reducible apply Answers.ite | with_reducible apply Steady.ite
    | (fail_if_no_progress (with_reducible (refine Steady.of ?_ rfl rfl rfl rfl rfl rfl rfl rfl)))
    | with_reducible (refine Steady.snd (by assumption) ?_) | with_reducible (refine Steady.snd2 (by assumption) ?_)
    | with_reducible apply foldl_steady | split

theorem State.headWrite_steady {s0 s : State} (h : Steady s0 s) (x : Queue) (d : Bytes) :
    Steady s0 (s.headWrite x d) := by
  unfold State.headWrite; repeat' first
    | intro _ | with_reducible assumption | with_reducible apply State.hostWrite_steady | with_reducible apply State.emit_steady

theorem State.watchDoorbell_steady {s0 s : State} (h : Steady s0 s) (x : Queue) :
    Steady s0 (s.watchDoorbell x) := by
  unfold State.watchDoorbell; repeat' first
    | intro _ | with_reducible assumption | with_reducible apply State.watchLine_steady | with_reducible apply Steady.ite

theorem State.seeDoorbell_steady {s0 s : State} (h : Steady s0 s) (q : Nat) (x : Queue) (line : Bytes) :
    Steady s0 (s.seeDoorbell q x line) := by
  unfold State.seeDoorbell; repeat' first
    | intro _ | with_reducible assumption | with_reducible apply State.setQueue_steady

theorem execDoorbellSnoop_steady {s0 s : State} (h : Steady s0 s) (queue : Nat) (line : Bytes) :
    Answers s0 (execDoorbellSnoop queue line s) := by
  unfold execDoorbellSnoop; repeat' first
    | intro _ | with_reducible assumption | with_reducible apply State.setQueue_steady | with_reducible apply stay_steady
    | with_reducible apply State.hostWrite_steady | with_reducible apply State.dropLine_steady | with_reducible apply Answers.next
    | with_reducible apply Answers.ite | with_reducible apply Steady.ite
    | (fail_if_no_progress (with_reducible (refine Steady.of ?_ rfl rfl rfl rfl rfl rfl rfl rfl)))
    | with_reducible (refine Steady.snd (by assumption) ?_) | with_reducible (refine Steady.snd2 (by assumption) ?_)
    | with_reducible apply foldl_steady | split

theorem execDoorbellRefetch_steady {s0 s : State} (h : Steady s0 s) (queue : Nat) :
    Answers s0 (execDoorbellRefetch queue s) := by
  unfold execDoorbellRefetch; repeat' first
    | intro _ | with_reducible assumption | with_reducible apply State.seeDoorbell_steady | with_reducible apply stay_steady
    | with_reducible apply State.watchDoorbell_steady | with_reducible apply Answers.next | with_reducible apply Answers.ite
    | with_reducible apply Steady.ite | (fail_if_no_progress (with_reducible (refine Steady.of ?_ rfl rfl rfl rfl rfl rfl rfl rfl)))
    | with_reducible (refine Steady.snd (by assumption) ?_) | with_reducible (refine Steady.snd2 (by assumption) ?_)
    | with_reducible apply foldl_steady | split

theorem execDoorbellPoll_steady {s0 s : State} (h : Steady s0 s) (queue : Nat) :
    Answers s0 (execDoorbellPoll queue s) := by
  unfold execDoorbellPoll; repeat' first
    | intro _ | with_reducible assumption | with_reducible apply State.seeDoorbell_steady | with_reducible apply stay_steady
    | with_reducible apply Answers.next | with_reducible apply Answers.ite | with_reducible apply Steady.ite
    | (fail_if_no_progress (with_reducible (refine Steady.of ?_ rfl rfl rfl rfl rfl rfl rfl rfl)))
    | with_reducible (refine Steady.snd (by assumption) ?_) | with_reducible (refine Steady.snd2 (by assumption) ?_)
    | with_reducible apply foldl_steady | split

theorem State.queueStop_steady {s0 s : State} (h : Steady s0 s) (q : Nat) (x : Queue) :
    Steady s0 (s.queueStop q x) := by
  unfold State.queueStop; repeat' first
    | intro _ | with_reducible assumption | with_reducible apply State.setQueue_steady | with_reducible apply State.ringPut_steady

theorem execCommandFetch_steady {s0 s : State} (h : Steady s0 s) (queue : Nat) :
    Answers s0 (execCommandFetch queue s) := by
  unfold execCommandFetch; repeat' first
    | intro _ | with_reducible assumption | with_reducible apply State.setQueue_steady | with_reducible apply State.headWrite_steady
    | with_reducible apply State.enqueue_steady | with_reducible apply stay_steady | with_reducible apply State.queueStop_steady
    | with_reducible apply Answers.next | with_reducible apply Answers.ite | with_reducible apply Steady.ite
    | (fail_if_no_progress (with_reducible (refine Steady.of ?_ rfl rfl rfl rfl rfl rfl rfl rfl)))
    | with_reducible (refine Steady.snd (by assumption) ?_) | with_reducible (refine Steady.snd2 (by assumption) ?_)
    | with_reducible apply foldl_steady | split

theorem execCommandWaitSatisfied_steady {s0 s : State} (h : Steady s0 s) (queue : Nat) :
    Answers s0 (execCommandWaitSatisfied queue s) := by
  unfold execCommandWaitSatisfied; repeat' first
    | intro _ | with_reducible assumption | with_reducible apply State.dropWatch_steady | with_reducible apply stay_steady
    | with_reducible apply State.cmdDone_steady | with_reducible apply State.readLine_steady | with_reducible apply State.hubXlate_steady
    | with_reducible apply State.xltRecord_steady | with_reducible apply State.modQueue_steady | with_reducible apply Answers.next
    | with_reducible apply Answers.ite | with_reducible apply Steady.ite
    | (fail_if_no_progress (with_reducible (refine Steady.of ?_ rfl rfl rfl rfl rfl rfl rfl rfl)))
    | with_reducible (refine Steady.snd (by assumption) ?_) | with_reducible (refine Steady.snd2 (by assumption) ?_)
    | with_reducible apply foldl_steady | split

theorem State.skipList_steady {s0 s : State} (h : Steady s0 s) (ch : Nat) (fuel : Nat) :
    Steady s0 (s.skipList ch fuel) := by
  induction fuel generalizing s ch with
  | zero => unfold State.skipList; exact h
  | succ fuel ih =>
  unfold State.skipList; repeat' first
    | with_reducible apply ih | intro _ | with_reducible assumption | with_reducible apply State.setChan_steady
    | with_reducible apply State.cpySkip_steady | with_reducible (refine State.cpyRead_steady ?_ (by assumption))
    | with_reducible (refine State.cpyRead_error_steady ?_ (by assumption)) | with_reducible apply State.cpySkip_steady
    | with_reducible (refine State.cpyRead_steady ?_ (by assumption)) | with_reducible (refine State.cpyRead_error_steady ?_ (by assumption))
    | with_reducible apply State.setChan_steady | with_reducible apply Steady.ite
    | (fail_if_no_progress (with_reducible (refine Steady.of ?_ rfl rfl rfl rfl rfl rfl rfl rfl)))
    | with_reducible (refine Steady.snd (by assumption) ?_) | with_reducible (refine Steady.snd2 (by assumption) ?_)
    | with_reducible apply foldl_steady | split

theorem State.passChan_steady {s0 s : State} (h : Steady s0 s) (ch : Nat) (f : Nat) :
    Steady s0 (s.passChan ch f) := by
  unfold State.passChan; repeat' first
    | intro _ | with_reducible assumption | with_reducible apply State.cmdDone_steady | with_reducible apply State.setChan_steady
    | with_reducible apply State.skipList_steady | with_reducible apply State.modQueue_steady | with_reducible apply Steady.ite
    | (fail_if_no_progress (with_reducible (refine Steady.of ?_ rfl rfl rfl rfl rfl rfl rfl rfl)))
    | with_reducible (refine Steady.snd (by assumption) ?_) | with_reducible (refine Steady.snd2 (by assumption) ?_)
    | with_reducible apply foldl_steady | split

theorem State.runningDone_steady {s0 s t : State} (h : Steady s0 s) {q : Nat} {x : Queue} {c : Cmd} (e : s.runningDone q x c = some t) :
    Steady s0 t := by
  unfold State.runningDone at e
  split at e
  · split at e <;> cases e; exact h
  · split at e <;> cases e; exact State.killCtx_steady h _ _ _ _
  · split at e
    · cases e; exact h
    · split at e
      · cases e; refine Steady.upd (t := if _ then _ else s) (Steady.ite (State.setChan_steady h _ _) h) rfl rfl rfl rfl rfl rfl rfl rfl
      · cases e
  · split at e <;> cases e; exact h
  · dsimp only at e; split at e
    · cases e; exact h
    · split at e <;> cases e; exact State.passChan_steady h _ _
  · cases e

theorem execCommandComplete_steady {s0 s : State} (h : Steady s0 s) (queue : Nat) :
    Answers s0 (execCommandComplete queue s) := by
  unfold execCommandComplete; repeat' first
    | intro _ | with_reducible assumption | with_reducible apply stay_steady | with_reducible (refine State.runningDone_steady ?_ (by assumption))
    | with_reducible apply State.endCmd_steady | with_reducible apply State.popCmd_steady | with_reducible apply Answers.next
    | with_reducible apply Answers.ite | with_reducible apply Steady.ite
    | (fail_if_no_progress (with_reducible (refine Steady.of ?_ rfl rfl rfl rfl rfl rfl rfl rfl)))
    | with_reducible (refine Steady.snd (by assumption) ?_) | with_reducible (refine Steady.snd2 (by assumption) ?_)
    | with_reducible apply foldl_steady | split

theorem execRefCountSubtract_steady {s0 s : State} (h : Steady s0 s) (sub : Nat) (hostError : Bool) :
    Answers s0 (execRefCountSubtract sub hostError s) := by
  unfold execRefCountSubtract; repeat' first
    | intro _ | with_reducible assumption | with_reducible apply stay_steady | with_reducible apply State.countAdd_steady
    | with_reducible apply State.ringPut_steady | with_reducible apply Answers.next | with_reducible apply Answers.ite
    | with_reducible apply Steady.ite | (fail_if_no_progress (with_reducible (refine Steady.of ?_ rfl rfl rfl rfl rfl rfl rfl rfl)))
    | with_reducible (refine Steady.snd (by assumption) ?_) | with_reducible (refine Steady.snd2 (by assumption) ?_)
    | with_reducible apply foldl_steady | split

theorem execNop_steady {s0 s : State} (h : Steady s0 s) (queue : Nat) :
    Answers s0 (execNop queue s) := by
  unfold execNop; repeat' first
    | intro _ | with_reducible assumption | with_reducible apply State.cmdDone_steady | with_reducible apply State.runCmd_steady

theorem execSignal_steady {s0 s : State} (h : Steady s0 s) (queue : Nat) :
    Answers s0 (execSignal queue s) := by
  unfold execSignal; repeat' first
    | intro _ | with_reducible assumption | with_reducible apply State.cmdDone_steady | with_reducible apply State.runCmd_steady

theorem execCopy_steady {s0 s : State} (h : Steady s0 s) (queue : Nat) :
    Answers s0 (execCopy queue s) := by
  unfold execCopy; repeat' first
    | intro _ | with_reducible assumption | with_reducible apply State.endQwait_steady | with_reducible apply stay_steady
    | with_reducible apply State.cmdDone_steady | with_reducible apply State.setChan_steady | with_reducible apply State.setPhase_steady
    | with_reducible apply Answers.next | with_reducible apply Answers.ite | with_reducible apply Steady.ite
    | (fail_if_no_progress (with_reducible (refine Steady.of ?_ rfl rfl rfl rfl rfl rfl rfl rfl)))
    | with_reducible (refine Steady.snd (by assumption) ?_) | with_reducible (refine Steady.snd2 (by assumption) ?_)
    | with_reducible apply foldl_steady | split

theorem execSieveFlush_steady {s0 s : State} (h : Steady s0 s) (queue : Nat) :
    Answers s0 (execSieveFlush queue s) := by
  unfold execSieveFlush; repeat' first
    | intro _ | with_reducible assumption | with_reducible apply State.setPhase_steady | with_reducible apply foldS_steady
    | with_reducible apply State.runCmd_steady | with_reducible apply State.flushSlot_steady

theorem execSafeSet_steady {s0 s : State} (h : Steady s0 s) (queue : Nat) :
    Answers s0 (execSafeSet queue s) := by
  unfold execSafeSet; repeat' first
    | intro _ | with_reducible assumption | with_reducible apply State.hubRead_steady | with_reducible apply State.cmdDone_steady
    | with_reducible apply State.modCtx_steady | with_reducible apply State.runCmd_steady | with_reducible apply Answers.next
    | with_reducible apply Answers.ite | with_reducible apply Steady.ite
    | (fail_if_no_progress (with_reducible (refine Steady.of ?_ rfl rfl rfl rfl rfl rfl rfl rfl)))
    | with_reducible (refine Steady.snd (by assumption) ?_) | with_reducible (refine Steady.snd2 (by assumption) ?_)
    | with_reducible apply foldl_steady | split

theorem execReseed_steady {s0 s : State} (h : Steady s0 s) (queue : Nat) :
    Answers s0 (execReseed queue s) := by
  unfold execReseed; repeat' first
    | intro _ | with_reducible assumption | with_reducible apply State.cmdDone_steady | with_reducible apply State.modCtx_steady
    | with_reducible apply State.runCmd_steady

theorem execProgLoad_steady {s0 s : State} (h : Steady s0 s) (queue : Nat) :
    Answers s0 (execProgLoad queue s) := by
  unfold execProgLoad; repeat' first
    | intro _ | with_reducible assumption | with_reducible apply State.hubRead_steady | with_reducible apply State.cmdDone_steady
    | with_reducible apply State.modCtx_steady | with_reducible apply State.runCmd_steady | with_reducible apply Answers.next
    | with_reducible apply Answers.ite | with_reducible apply Steady.ite
    | (fail_if_no_progress (with_reducible (refine Steady.of ?_ rfl rfl rfl rfl rfl rfl rfl rfl)))
    | with_reducible (refine Steady.snd (by assumption) ?_) | with_reducible (refine Steady.snd2 (by assumption) ?_)
    | with_reducible apply foldl_steady | split

theorem execProgUnload_steady {s0 s : State} (h : Steady s0 s) (queue : Nat) :
    Answers s0 (execProgUnload queue s) := by
  unfold execProgUnload; repeat' first
    | intro _ | with_reducible assumption | with_reducible apply State.cmdDone_steady | with_reducible apply State.modSlot_steady
    | with_reducible apply State.modCtx_steady | with_reducible apply foldS_steady | with_reducible apply State.runCmd_steady
    | with_reducible apply Answers.next | with_reducible apply Answers.ite | with_reducible apply Steady.ite

theorem State.createCtx_steady {s0 s : State} (h : Steady s0 s) (queue : Nat) (ctx : Nat) (y : Context) :
    Steady s0 (s.createCtx queue ctx y) := by
  unfold State.createCtx; repeat' first
    | intro _ | with_reducible assumption | with_reducible apply State.hubRead_steady | with_reducible apply State.cmdDone_steady
    | with_reducible apply State.setCtx_steady | with_reducible apply State.dropXlate_steady | with_reducible apply Steady.ite
    | (fail_if_no_progress (with_reducible (refine Steady.of ?_ rfl rfl rfl rfl rfl rfl rfl rfl)))
    | with_reducible (refine Steady.snd (by assumption) ?_) | with_reducible (refine Steady.snd2 (by assumption) ?_)
    | with_reducible apply foldl_steady | split | dsimp only

theorem execCtxCreate_steady {s0 s : State} (h : Steady s0 s) (queue : Nat) :
    Answers s0 (execCtxCreate queue s) := by
  unfold execCtxCreate; repeat' first
    | intro _ | with_reducible assumption | with_reducible apply State.createCtx_steady | with_reducible apply State.cmdDone_steady
    | with_reducible apply State.withBlock_steady | with_reducible apply State.runCmd_steady | with_reducible apply Answers.next
    | with_reducible apply Answers.ite | with_reducible apply Steady.ite
    | (fail_if_no_progress (with_reducible (refine Steady.of ?_ rfl rfl rfl rfl rfl rfl rfl rfl)))
    | with_reducible (refine Steady.snd (by assumption) ?_) | with_reducible (refine Steady.snd2 (by assumption) ?_)
    | with_reducible apply foldl_steady | split

theorem execCtxDestroy_steady {s0 s : State} (h : Steady s0 s) (queue : Nat) :
    Answers s0 (execCtxDestroy queue s) := by
  unfold execCtxDestroy; repeat' first
    | intro _ | with_reducible assumption | with_reducible apply State.cmdDone_steady | with_reducible apply State.setPhase_steady
    | with_reducible apply State.runCmd_steady | with_reducible apply Answers.next | with_reducible apply Answers.ite
    | with_reducible apply Steady.ite | (fail_if_no_progress (with_reducible (refine Steady.of ?_ rfl rfl rfl rfl rfl rfl rfl rfl)))
    | with_reducible (refine Steady.snd (by assumption) ?_) | with_reducible (refine Steady.snd2 (by assumption) ?_)
    | with_reducible apply foldl_steady | split

theorem execCtxReset_steady {s0 s : State} (h : Steady s0 s) (queue : Nat) :
    Answers s0 (execCtxReset queue s) := by
  unfold execCtxReset; repeat' first
    | intro _ | with_reducible assumption | with_reducible apply State.cmdDone_steady | with_reducible apply State.ctxReset_steady
    | with_reducible apply State.runCmd_steady | with_reducible apply Answers.next | with_reducible apply Answers.ite
    | with_reducible apply Steady.ite | (fail_if_no_progress (with_reducible (refine Steady.of ?_ rfl rfl rfl rfl rfl rfl rfl rfl)))
    | with_reducible (refine Steady.snd (by assumption) ?_) | with_reducible (refine Steady.snd2 (by assumption) ?_)
    | with_reducible apply foldl_steady | split

theorem execResume_steady {s0 s : State} (h : Steady s0 s) (queue : Nat) :
    Answers s0 (execResume queue s) := by
  unfold execResume; repeat' first
    | intro _ | with_reducible assumption | with_reducible apply State.chargeAll_steady | with_reducible apply State.cmdDone_steady
    | with_reducible apply State.modSlot_steady | with_reducible apply State.modCtx_steady | with_reducible apply State.recheckCtx_steady
    | with_reducible apply foldS_steady | with_reducible apply State.runCmd_steady | with_reducible apply Answers.next
    | with_reducible apply Answers.ite | with_reducible apply Steady.ite
    | (fail_if_no_progress (with_reducible (refine Steady.of ?_ rfl rfl rfl rfl rfl rfl rfl rfl)))
    | with_reducible (refine Steady.snd (by assumption) ?_) | with_reducible (refine Steady.snd2 (by assumption) ?_)
    | with_reducible apply foldl_steady | split

theorem execQueueCreate_steady {s0 s : State} (h : Steady s0 s) (queue : Nat) :
    Answers s0 (execQueueCreate queue s) := by
  unfold execQueueCreate; repeat' first
    | intro _ | with_reducible assumption | with_reducible apply State.setQueue_steady | with_reducible apply State.headWrite_steady
    | with_reducible apply State.cmdDone_steady | with_reducible apply State.setChan_steady | with_reducible apply State.withBlock_steady
    | with_reducible apply State.watchDoorbell_steady | with_reducible apply State.runCmd_steady | with_reducible apply Answers.next
    | with_reducible apply Answers.ite | with_reducible apply Steady.ite
    | (fail_if_no_progress (with_reducible (refine Steady.of ?_ rfl rfl rfl rfl rfl rfl rfl rfl)))
    | with_reducible (refine Steady.snd (by assumption) ?_) | with_reducible (refine Steady.snd2 (by assumption) ?_)
    | with_reducible apply foldl_steady | split

theorem execQueueDestroy_steady {s0 s : State} (h : Steady s0 s) (queue : Nat) :
    Answers s0 (execQueueDestroy queue s) := by
  unfold execQueueDestroy; repeat' first
    | intro _ | with_reducible assumption | with_reducible apply State.cmdDone_steady | with_reducible apply State.setPhase_steady
    | with_reducible apply State.abortWaiting_steady | with_reducible apply State.modQueue_steady | with_reducible apply State.runCmd_steady
    | with_reducible apply Answers.next | with_reducible apply Answers.ite | with_reducible apply Steady.ite

theorem execEvringCreate_steady {s0 s : State} (h : Steady s0 s) (queue : Nat) :
    Answers s0 (execEvringCreate queue s) := by
  unfold execEvringCreate; repeat' first
    | intro _ | with_reducible assumption | with_reducible apply State.cmdDone_steady | with_reducible apply State.withBlock_steady
    | with_reducible apply State.runCmd_steady | with_reducible apply Answers.next | with_reducible apply Answers.ite
    | with_reducible apply Steady.ite | (fail_if_no_progress (with_reducible (refine Steady.of ?_ rfl rfl rfl rfl rfl rfl rfl rfl)))

theorem execEvringDestroy_steady {s0 s : State} (h : Steady s0 s) (queue : Nat) :
    Answers s0 (execEvringDestroy queue s) := by
  unfold execEvringDestroy; repeat' first
    | intro _ | with_reducible assumption | with_reducible apply State.cmdDone_steady | with_reducible apply State.runCmd_steady
    | with_reducible apply Answers.next | with_reducible apply Answers.ite | with_reducible apply Steady.ite
    | (fail_if_no_progress (with_reducible (refine Steady.of ?_ rfl rfl rfl rfl rfl rfl rfl rfl)))

theorem execChanAssign_steady {s0 s : State} (h : Steady s0 s) (queue : Nat) :
    Answers s0 (execChanAssign queue s) := by
  unfold execChanAssign; repeat' first
    | intro _ | with_reducible assumption | with_reducible apply State.cmdDone_steady | with_reducible apply State.setPhase_steady
    | with_reducible apply State.runCmd_steady | with_reducible apply Answers.next | with_reducible apply Answers.ite
    | with_reducible apply Steady.ite

theorem State.drainHeld_steady {s0 s : State} (h : Steady s0 s) (r : Nat) (fuel : Nat) :
    Steady s0 (s.drainHeld r fuel) := by
  induction fuel generalizing s r with
  | zero => unfold State.drainHeld; exact h
  | succ fuel ih =>
  unfold State.drainHeld; repeat' first
    | with_reducible apply ih | intro _ | with_reducible assumption | with_reducible apply State.store_steady
    | with_reducible apply State.store_steady | with_reducible apply Steady.ite
    | (fail_if_no_progress (with_reducible (refine Steady.of ?_ rfl rfl rfl rfl rfl rfl rfl rfl)))
    | with_reducible (refine Steady.snd (by assumption) ?_) | with_reducible (refine Steady.snd2 (by assumption) ?_)
    | with_reducible apply foldl_steady | split

theorem execEventRingConsumed_steady {s0 s : State} (h : Steady s0 s) (ring : Nat) (count : Nat) :
    Answers s0 (execEventRingConsumed ring count s) := by
  unfold execEventRingConsumed; repeat' first
    | intro _ | with_reducible assumption | with_reducible apply State.drainHeld_steady | with_reducible apply stay_steady
    | with_reducible apply State.hostWrite_steady | with_reducible apply Answers.next | with_reducible apply Answers.ite
    | with_reducible apply Steady.ite | (fail_if_no_progress (with_reducible (refine Steady.of ?_ rfl rfl rfl rfl rfl rfl rfl rfl)))
    | with_reducible (refine Steady.snd (by assumption) ?_) | with_reducible (refine Steady.snd2 (by assumption) ?_)
    | with_reducible apply foldl_steady | split

theorem execMgmtqEnable_steady {s0 s : State} (h : Steady s0 s) (v : Bool) :
    Answers s0 (execMgmtqEnable v s) := by
  unfold execMgmtqEnable; repeat' first
    | intro _ | with_reducible assumption | with_reducible apply State.setQueue_steady | with_reducible apply State.headWrite_steady
    | with_reducible apply stay_steady | with_reducible apply State.watchDoorbell_steady | with_reducible apply State.modQueue_steady
    | with_reducible apply State.writeFld_steady | with_reducible apply Answers.next | with_reducible apply Answers.ite

theorem State.dropRange_steady {s0 s : State} (h : Steady s0 s) (ctxs : List Nat) (lo : Nat) (n : Nat) :
    Steady s0 (s.dropRange ctxs lo n) := by
  unfold State.dropRange; repeat' first
    | intro _ | with_reducible assumption | with_reducible apply Steady.ite
    | (fail_if_no_progress (with_reducible (refine Steady.of ?_ rfl rfl rfl rfl rfl rfl rfl rfl)))

theorem execInvalidate_steady {s0 s : State} (h : Steady s0 s) (queue : Nat) :
    Answers s0 (execInvalidate queue s) := by
  unfold execInvalidate; repeat' first
    | intro _ | with_reducible assumption | with_reducible apply State.dropRange_steady | with_reducible apply State.cmdDone_steady
    | with_reducible apply State.setPhase_steady | with_reducible apply State.modQueue_steady | with_reducible apply State.runCmd_steady
    | with_reducible apply Answers.next | with_reducible apply Answers.ite | with_reducible apply Steady.ite
    | (fail_if_no_progress (with_reducible (refine Steady.of ?_ rfl rfl rfl rfl rfl rfl rfl rfl)))
    | with_reducible (refine Steady.snd (by assumption) ?_) | with_reducible (refine Steady.snd2 (by assumption) ?_)
    | with_reducible apply foldl_steady | split

theorem execInvalidateDrained_steady {s0 s : State} (h : Steady s0 s) (queue : Nat) :
    Answers s0 (execInvalidateDrained queue s) := by
  unfold execInvalidateDrained; repeat' first
    | intro _ | with_reducible assumption | with_reducible apply stay_steady | with_reducible apply State.cmdDone_steady
    | with_reducible apply Answers.next | with_reducible apply Answers.ite | with_reducible apply Steady.ite
    | (fail_if_no_progress (with_reducible (refine Steady.of ?_ rfl rfl rfl rfl rfl rfl rfl rfl)))
    | with_reducible (refine Steady.snd (by assumption) ?_) | with_reducible (refine Steady.snd2 (by assumption) ?_)
    | with_reducible apply foldl_steady | split

theorem execInvSlow_steady {s0 s : State} (h : Steady s0 s) (queue : Nat) :
    Answers s0 (execInvSlow queue s) := by
  unfold execInvSlow; repeat' first
    | intro _ | with_reducible assumption | with_reducible apply stay_steady | with_reducible apply State.ringPut_steady
    | with_reducible apply State.modQueue_steady | with_reducible apply Answers.next | with_reducible apply Answers.ite
    | with_reducible apply Steady.ite | (fail_if_no_progress (with_reducible (refine Steady.of ?_ rfl rfl rfl rfl rfl rfl rfl rfl)))
    | with_reducible (refine Steady.snd (by assumption) ?_) | with_reducible (refine Steady.snd2 (by assumption) ?_)
    | with_reducible apply foldl_steady | split

theorem execMigrate_steady {s0 s : State} (h : Steady s0 s) (queue : Nat) :
    Answers s0 (execMigrate queue s) := by
  unfold execMigrate; repeat' first
    | intro _ | with_reducible assumption | with_reducible apply State.dropRange_steady | with_reducible apply State.cmdDone_steady
    | with_reducible apply State.setPhase_steady | with_reducible apply State.withBlock_steady | with_reducible apply State.modQueue_steady
    | with_reducible apply State.runCmd_steady | with_reducible apply Answers.next | with_reducible apply Answers.ite
    | with_reducible apply Steady.ite | (fail_if_no_progress (with_reducible (refine Steady.of ?_ rfl rfl rfl rfl rfl rfl rfl rfl)))
    | with_reducible (refine Steady.snd (by assumption) ?_) | with_reducible (refine Steady.snd2 (by assumption) ?_)
    | with_reducible apply foldl_steady | split

theorem State.copyPage_steady {s0 s : State} (h : Steady s0 s) (src : Nat) (dst : Nat) (size : Nat) :
    Steady s0 (s.copyPage src dst size) := by
  unfold State.copyPage; repeat' first
    | intro _ | with_reducible assumption | with_reducible apply State.recallLine_steady | with_reducible apply State.putLine_steady
    | with_reducible apply foldS_steady | with_reducible apply Steady.ite
    | (fail_if_no_progress (with_reducible (refine Steady.of ?_ rfl rfl rfl rfl rfl rfl rfl rfl)))
    | with_reducible (refine Steady.snd (by assumption) ?_) | with_reducible (refine Steady.snd2 (by assumption) ?_)
    | with_reducible apply foldl_steady | split

theorem State.migratePage_steady {s0 s : State} (h : Steady s0 s) (root : Nat) (b : Bytes) (i : Nat) :
    Steady s0 (s.migratePage root b i) := by
  unfold State.migratePage; repeat' first
    | intro _ | with_reducible assumption | with_reducible apply State.putLine_steady | with_reducible apply State.copyPage_steady
    | with_reducible apply Steady.ite | (fail_if_no_progress (with_reducible (refine Steady.of ?_ rfl rfl rfl rfl rfl rfl rfl rfl)))
    | with_reducible (refine Steady.snd (by assumption) ?_) | with_reducible (refine Steady.snd2 (by assumption) ?_)
    | with_reducible apply foldl_steady | split | dsimp only

theorem execMigrateCopyComplete_steady {s0 s : State} (h : Steady s0 s) (queue : Nat) :
    Answers s0 (execMigrateCopyComplete queue s) := by
  unfold execMigrateCopyComplete; repeat' first
    | intro _ | with_reducible assumption | with_reducible apply State.dropRange_steady | with_reducible apply stay_steady
    | with_reducible apply State.cmdDone_steady | with_reducible apply foldS_steady | with_reducible apply State.modQueue_steady
    | with_reducible apply State.migratePage_steady | with_reducible apply Answers.next | with_reducible apply Answers.ite
    | with_reducible apply Steady.ite | (fail_if_no_progress (with_reducible (refine Steady.of ?_ rfl rfl rfl rfl rfl rfl rfl rfl)))
    | with_reducible (refine Steady.snd (by assumption) ?_) | with_reducible (refine Steady.snd2 (by assumption) ?_)
    | with_reducible apply foldl_steady | split

theorem State.adviseWalk_steady {s0 s : State} (h : Steady s0 s) (ctx : Nat) (pages : List Nat) :
    Steady s0 (s.adviseWalk ctx pages) := by
  unfold State.adviseWalk; repeat' first
    | intro _ | with_reducible assumption | with_reducible apply State.fillWalker_steady | with_reducible apply State.bumpFld_steady
    | with_reducible apply foldS_steady | with_reducible apply State.noteWalk_steady | with_reducible apply Steady.ite
    | (fail_if_no_progress (with_reducible (refine Steady.of ?_ rfl rfl rfl rfl rfl rfl rfl rfl)))
    | with_reducible (refine Steady.snd (by assumption) ?_) | with_reducible (refine Steady.snd2 (by assumption) ?_)
    | with_reducible apply foldl_steady | split

theorem State.adviseClean_steady {s0 s : State} (h : Steady s0 s) (ctx : Nat) (pages : List Nat) (keep : Bool) :
    Steady s0 (s.adviseClean ctx pages keep) := by
  unfold State.adviseClean; repeat' first
    | intro _ | with_reducible assumption | with_reducible apply State.cleanLine_steady | with_reducible apply foldS_steady

theorem execAdvise_steady {s0 s : State} (h : Steady s0 s) (queue : Nat) :
    Answers s0 (execAdvise queue s) := by
  unfold execAdvise; repeat' first
    | intro _ | with_reducible assumption | with_reducible apply State.adviseClean_steady | with_reducible apply stay_steady
    | with_reducible apply State.cmdDone_steady | with_reducible apply State.adviseWalk_steady | with_reducible apply foldS_steady
    | with_reducible apply State.runCmd_steady | with_reducible apply Answers.next | with_reducible apply Answers.ite
    | with_reducible apply Steady.ite | (fail_if_no_progress (with_reducible (refine Steady.of ?_ rfl rfl rfl rfl rfl rfl rfl rfl)))
    | with_reducible (refine Steady.snd (by assumption) ?_) | with_reducible (refine Steady.snd2 (by assumption) ?_)
    | with_reducible apply foldl_steady | split

theorem execFrameSet_steady {s0 s : State} (h : Steady s0 s) (queue : Nat) :
    Answers s0 (execFrameSet queue s) := by
  unfold execFrameSet; repeat' first
    | intro _ | with_reducible assumption | with_reducible apply State.setFrame_steady | with_reducible apply State.cmdDone_steady
    | with_reducible apply State.setPhase_steady | with_reducible apply State.runCmd_steady | with_reducible apply State.emit_steady
    | with_reducible apply Answers.next | with_reducible apply Answers.ite | with_reducible apply Steady.ite
    | (fail_if_no_progress (with_reducible (refine Steady.of ?_ rfl rfl rfl rfl rfl rfl rfl rfl)))
    | with_reducible (refine Steady.snd (by assumption) ?_) | with_reducible (refine Steady.snd2 (by assumption) ?_)
    | with_reducible apply foldl_steady | split

theorem execBiasTakebackDone_steady {s0 s : State} (h : Steady s0 s) (queue : Nat) :
    Answers s0 (execBiasTakebackDone queue s) := by
  unfold execBiasTakebackDone; repeat' first
    | intro _ | with_reducible assumption | with_reducible apply State.setFrame_steady | with_reducible apply stay_steady
    | with_reducible apply State.cmdDone_steady | with_reducible apply State.setPhase_steady | with_reducible apply Answers.next
    | with_reducible apply Answers.ite | with_reducible apply Steady.ite
    | (fail_if_no_progress (with_reducible (refine Steady.of ?_ rfl rfl rfl rfl rfl rfl rfl rfl)))
    | with_reducible (refine Steady.snd (by assumption) ?_) | with_reducible (refine Steady.snd2 (by assumption) ?_)
    | with_reducible apply foldl_steady | split | dsimp only

theorem State.walkOver_steady {s0 s : State} (h : Steady s0 s) (id : Nat) (a : WalkFor) :
    Steady s0 (s.walkOver id a) := by
  unfold State.walkOver; repeat' first
    | intro _ | with_reducible assumption | with_reducible apply State.modSlot_steady | with_reducible apply Steady.ite
    | (fail_if_no_progress (with_reducible (refine Steady.of ?_ rfl rfl rfl rfl rfl rfl rfl rfl)))

theorem State.walkFault_steady {s0 s : State} (h : Steady s0 s) (id : Nat) (w : Walk) (sub : Nat) (lvl : Nat) :
    Steady s0 (s.walkFault id w sub lvl) := by
  unfold State.walkFault; repeat' first
    | intro _ | with_reducible assumption | with_reducible apply State.modSlot_steady | with_reducible apply State.xltFault_steady
    | with_reducible apply State.walkOver_steady | with_reducible apply Steady.ite

theorem State.walkEnd_steady {s0 s : State} (h : Steady s0 s) (id : Nat) (w : Walk) (r : WalkOut) :
    Steady s0 (s.walkEnd id w r) := by
  unfold State.walkEnd; repeat' first
    | intro _ | with_reducible assumption | with_reducible apply State.walkFault_steady | with_reducible apply State.setCore_steady
    | with_reducible apply State.walkOver_steady | with_reducible apply Steady.ite
    | (fail_if_no_progress (with_reducible (refine Steady.of ?_ rfl rfl rfl rfl rfl rfl rfl rfl)))
    | with_reducible (refine Steady.snd (by assumption) ?_) | with_reducible (refine Steady.snd2 (by assumption) ?_)
    | with_reducible apply foldl_steady | split

theorem execWalkComplete_steady {s0 s : State} (h : Steady s0 s) (walk : Nat) :
    Answers s0 (execWalkComplete walk s) := by
  unfold execWalkComplete; repeat' first
    | intro _ | with_reducible assumption | with_reducible apply State.fillWalker_steady | with_reducible apply State.walkEnd_steady
    | with_reducible apply stay_steady | with_reducible apply State.bumpFld_steady | with_reducible apply foldS_steady
    | with_reducible apply Answers.next | with_reducible apply Answers.ite | with_reducible apply Steady.ite
    | (fail_if_no_progress (with_reducible (refine Steady.of ?_ rfl rfl rfl rfl rfl rfl rfl rfl)))
    | with_reducible (refine Steady.snd (by assumption) ?_) | with_reducible (refine Steady.snd2 (by assumption) ?_)
    | with_reducible apply foldl_steady | split


end Sys2Proof.Machine
end

