-- ==== Sys2Proof/Laws/SteadyPart.lean ====
section
/-! SUPPORT. Sys2Proof/Laws/SteadyPart.lean: each operation is steady (Laws/Steady.lean): power, composition, protection, the stitch, the package, the host link, security and registers. -/

namespace Sys2Proof.Machine

theorem State.sampleDue_steady {s0 s : State} (h : Steady s0 s) (reason : Nat) (isl : Nat) :
    Steady s0 (s.sampleDue reason isl) := by
  unfold State.sampleDue; repeat' first
    | intro _ | with_reducible assumption | with_reducible apply Steady.ite
    | (fail_if_no_progress (with_reducible (refine Steady.of ?_ rfl rfl rfl rfl rfl rfl rfl rfl)))

theorem State.capChange_steady {s0 s : State} (h : Steady s0 s) :
    Steady s0 (s.capChange) := by
  unfold State.capChange; repeat' first
    | intro _ | with_reducible assumption | with_reducible apply Steady.ite
    | (fail_if_no_progress (with_reducible (refine Steady.of ?_ rfl rfl rfl rfl rfl rfl rfl rfl)))

theorem State.clockAt_steady {s0 s : State} (h : Steady s0 s) (i : Nat) (f : Nat) :
    Steady s0 (s.clockAt i f) := by
  unfold State.clockAt; repeat' first
    | intro _ | with_reducible assumption | with_reducible apply State.capChange_steady | with_reducible apply State.sampleDue_steady
    | with_reducible apply State.setRegion_steady | with_reducible apply Steady.ite

theorem State.setTarget_steady {s0 s : State} (h : Steady s0 s) (i : Nat) (f : Nat) :
    Steady s0 (s.setTarget i f) := by
  unfold State.setTarget; repeat' first
    | intro _ | with_reducible assumption | with_reducible apply State.setRegion_steady | with_reducible apply Steady.ite

theorem execRailRampDone_steady {s0 s : State} (h : Steady s0 s) (island : Nat) :
    Answers s0 (execRailRampDone island s) := by
  unfold execRailRampDone; repeat' first
    | intro _ | with_reducible assumption | with_reducible apply stay_steady | with_reducible apply State.setRegion_steady
    | with_reducible apply Answers.next | with_reducible apply Answers.ite | with_reducible apply Steady.ite
    | (fail_if_no_progress (with_reducible (refine Steady.of ?_ rfl rfl rfl rfl rfl rfl rfl rfl)))
    | with_reducible (refine Steady.snd (by assumption) ?_) | with_reducible (refine Steady.snd2 (by assumption) ?_)
    | with_reducible apply foldl_steady | split | dsimp only

theorem execClockStepDone_steady {s0 s : State} (h : Steady s0 s) (island : Nat) :
    Answers s0 (execClockStepDone island s) := by
  unfold execClockStepDone; repeat' first
    | intro _ | with_reducible assumption | with_reducible apply stay_steady | with_reducible apply State.clockAt_steady
    | with_reducible apply Answers.next | with_reducible apply Answers.ite | with_reducible apply Steady.ite
    | (fail_if_no_progress (with_reducible (refine Steady.of ?_ rfl rfl rfl rfl rfl rfl rfl rfl)))
    | with_reducible (refine Steady.snd (by assumption) ?_) | with_reducible (refine Steady.snd2 (by assumption) ?_)
    | with_reducible apply foldl_steady | split | dsimp only

theorem State.repinRegion_steady {s0 s : State} (h : Steady s0 s) (i : Nat) :
    Steady s0 (s.repinRegion i) := by
  unfold State.repinRegion; repeat' first
    | intro _ | with_reducible assumption | with_reducible apply State.setTarget_steady | with_reducible apply State.setRegion_steady
    | with_reducible apply Steady.ite | (fail_if_no_progress (with_reducible (refine Steady.of ?_ rfl rfl rfl rfl rfl rfl rfl rfl)))
    | with_reducible (refine Steady.snd (by assumption) ?_) | with_reducible (refine Steady.snd2 (by assumption) ?_)
    | with_reducible apply foldl_steady | split

theorem State.repin_steady {s0 s : State} (h : Steady s0 s) :
    Steady s0 (s.repin) := by
  unfold State.repin; repeat' first
    | intro _ | with_reducible assumption | with_reducible apply State.repinRegion_steady | with_reducible apply foldS_steady

theorem State.slowed_steady {s0 s : State} (h : Steady s0 s) (isl : Nat) :
    Steady s0 (s.slowed isl) := by
  unfold State.slowed; repeat' first
    | intro _ | with_reducible assumption | with_reducible apply Steady.ite
    | (fail_if_no_progress (with_reducible (refine Steady.of ?_ rfl rfl rfl rfl rfl rfl rfl rfl)))

theorem State.loopRegion_steady {s0 s : State} (h : Steady s0 s) (fc : Option Nat) (i : Nat) :
    Steady s0 (s.loopRegion fc i) := by
  unfold State.loopRegion; repeat' first
    | intro _ | with_reducible assumption | with_reducible apply State.setTarget_steady | with_reducible apply State.setRegion_steady
    | with_reducible apply Steady.ite

theorem State.pinover_steady {s0 s : State} (h : Steady s0 s) (met : Bool) :
    Steady s0 (s.pinover met) := by
  unfold State.pinover; repeat' first
    | intro _ | with_reducible assumption | with_reducible apply State.setFld_steady | with_reducible apply State.powerEvent_steady
    | with_reducible apply Steady.ite | (fail_if_no_progress (with_reducible (refine Steady.of ?_ rfl rfl rfl rfl rfl rfl rfl rfl)))

theorem execPowerControlTick_steady {s0 s : State} (h : Steady s0 s) (p : Nat) (fixed : Nat) (pinned : Nat) :
    Answers s0 (execPowerControlTick p fixed pinned s) := by
  unfold execPowerControlTick; repeat' first
    | intro _ | with_reducible assumption | with_reducible apply stay_steady | with_reducible apply State.pinover_steady
    | with_reducible apply foldS_steady | with_reducible apply State.loopRegion_steady | with_reducible apply Answers.next
    | with_reducible apply Answers.ite | with_reducible apply Steady.ite
    | (fail_if_no_progress (with_reducible (refine Steady.of ?_ rfl rfl rfl rfl rfl rfl rfl rfl)))

theorem execDroopAssert_steady {s0 s : State} (h : Steady s0 s) (island : Nat) :
    Answers s0 (execDroopAssert island s) := by
  unfold execDroopAssert; repeat' first
    | intro _ | with_reducible assumption | with_reducible apply State.slowed_steady | with_reducible apply stay_steady
    | with_reducible apply State.bumpFld_steady | with_reducible apply State.setRegion_steady | with_reducible apply Answers.next
    | with_reducible apply Answers.ite

theorem execDroopClear_steady {s0 s : State} (h : Steady s0 s) (island : Nat) :
    Answers s0 (execDroopClear island s) := by
  unfold execDroopClear; repeat' first
    | intro _ | with_reducible assumption | with_reducible apply stay_steady | with_reducible apply State.setRegion_steady
    | with_reducible apply Answers.next | with_reducible apply Answers.ite

theorem execDroopLong_steady {s0 s : State} (h : Steady s0 s) (island : Nat) :
    Answers s0 (execDroopLong island s) := by
  unfold execDroopLong; repeat' first
    | intro _ | with_reducible assumption | with_reducible apply stay_steady | with_reducible apply State.bumpFld_steady
    | with_reducible apply State.setFld_steady | with_reducible apply State.clockAt_steady | with_reducible apply State.setRegion_steady
    | with_reducible apply State.powerEvent_steady | with_reducible apply Answers.next | with_reducible apply Answers.ite

theorem execSupplyWarning_steady {s0 s : State} (h : Steady s0 s) (supply : Nat) (mv : Nat) :
    Answers s0 (execSupplyWarning supply mv s) := by
  unfold execSupplyWarning; repeat' first
    | intro _ | with_reducible assumption | with_reducible apply State.slowed_steady | with_reducible apply stay_steady
    | with_reducible apply State.bumpFld_steady | with_reducible apply State.setFld_steady | with_reducible apply State.clockAt_steady
    | with_reducible apply State.setRegion_steady | with_reducible apply foldS_steady | with_reducible apply Answers.next
    | with_reducible apply Answers.ite | with_reducible apply Steady.ite
    | (fail_if_no_progress (with_reducible (refine Steady.of ?_ rfl rfl rfl rfl rfl rfl rfl rfl)))

theorem execSupplyRelease_steady {s0 s : State} (h : Steady s0 s) (supply : Nat) (lowest : Nat) :
    Answers s0 (execSupplyRelease supply lowest s) := by
  unfold execSupplyRelease; repeat' first
    | intro _ | with_reducible assumption | with_reducible apply State.setTarget_steady | with_reducible apply stay_steady
    | with_reducible apply State.useFree_steady | with_reducible apply State.setRegion_steady | with_reducible apply foldS_steady
    | with_reducible apply State.powerEvent_steady | with_reducible apply Answers.next | with_reducible apply Answers.ite
    | with_reducible apply Steady.ite | (fail_if_no_progress (with_reducible (refine Steady.of ?_ rfl rfl rfl rfl rfl rfl rfl rfl)))
    | with_reducible (refine Steady.snd (by assumption) ?_) | with_reducible (refine Steady.snd2 (by assumption) ?_)
    | with_reducible apply foldl_steady | split

theorem execThermalCapFall_steady {s0 s : State} (h : Steady s0 s) (island : Nat) (temp : Nat) :
    Answers s0 (execThermalCapFall island temp s) := by
  unfold execThermalCapFall; repeat' first
    | intro _ | with_reducible assumption | with_reducible apply State.slowed_steady | with_reducible apply State.setTarget_steady
    | with_reducible apply stay_steady | with_reducible apply State.setFld_steady | with_reducible apply State.setRegion_steady
    | with_reducible apply State.powerEvent_steady | with_reducible apply Answers.next | with_reducible apply Answers.ite
    | with_reducible apply Steady.ite

theorem execThermalCapRise_steady {s0 s : State} (h : Steady s0 s) (island : Nat) (temp : Nat) :
    Answers s0 (execThermalCapRise island temp s) := by
  unfold execThermalCapRise; repeat' first
    | intro _ | with_reducible assumption | with_reducible apply stay_steady | with_reducible apply State.setRegion_steady
    | with_reducible apply Answers.next | with_reducible apply Answers.ite

theorem State.derate_steady {s0 s : State} (h : Steady s0 s) (i : Nat) :
    Steady s0 (s.derate i) := by
  unfold State.derate; repeat' first
    | intro _ | with_reducible assumption | with_reducible apply State.capChange_steady | with_reducible apply State.setRegion_steady
    | with_reducible apply foldS_steady | with_reducible apply State.setFolio_steady | with_reducible apply State.powerEvent_steady
    | with_reducible apply State.repin_steady | with_reducible apply Steady.ite

theorem State.trimEvent_steady {s0 s : State} (h : Steady s0 s) (isl : Nat) :
    Steady s0 (s.trimEvent isl) := by
  unfold State.trimEvent; repeat' first
    | intro _ | with_reducible assumption | with_reducible apply State.useFree_steady | with_reducible apply State.powerEvent_steady

theorem execWearGaugeReading_steady {s0 s : State} (h : Steady s0 s) (domain : Nat) (need : Nat) (agreeHours : Nat) :
    Answers s0 (execWearGaugeReading domain need agreeHours s) := by
  unfold execWearGaugeReading; repeat' first
    | intro _ | with_reducible assumption | with_reducible apply State.setFabric_steady | with_reducible apply stay_steady
    | with_reducible apply State.trimEvent_steady | with_reducible apply State.setRegion_steady | with_reducible apply State.derate_steady
    | with_reducible apply Answers.next | with_reducible apply Answers.ite | with_reducible apply Steady.ite

theorem execPwrLimitWrite_steady {s0 s : State} (h : Steady s0 s) (w : BitVec 32) :
    Answers s0 (execPwrLimitWrite w s) := by
  unfold execPwrLimitWrite; repeat' first
    | intro _ | with_reducible assumption | with_reducible apply stay_steady | with_reducible apply State.setFld_steady
    | with_reducible apply State.writeFld_steady | with_reducible apply Answers.next | with_reducible apply Answers.ite
    | with_reducible apply Steady.ite

theorem execPowerSet_steady {s0 s : State} (h : Steady s0 s) (queue : Nat) :
    Answers s0 (execPowerSet queue s) := by
  unfold execPowerSet; repeat' first
    | intro _ | with_reducible assumption | with_reducible apply State.cmdDone_steady | with_reducible apply State.setFld_steady
    | with_reducible apply State.runCmd_steady | with_reducible apply State.writeFld_steady | with_reducible apply Answers.next
    | with_reducible apply Answers.ite | with_reducible apply Steady.ite

theorem execEnergyWatch_steady {s0 s : State} (h : Steady s0 s) (queue : Nat) :
    Answers s0 (execEnergyWatch queue s) := by
  unfold execEnergyWatch; repeat' first
    | intro _ | with_reducible assumption | with_reducible apply State.cmdDone_steady | with_reducible apply State.setFolio_steady
    | with_reducible apply State.runCmd_steady | with_reducible apply Answers.next | with_reducible apply Answers.ite
    | with_reducible apply Steady.ite

theorem execEnergyEstimate_steady {s0 s : State} (h : Steady s0 s) :
    Answers s0 (execEnergyEstimate s) := by
  unfold execEnergyEstimate; repeat' first
    | intro _ | with_reducible assumption | with_reducible apply stay_steady | with_reducible apply State.hubWrite_steady
    | with_reducible apply State.useFree_steady | with_reducible apply foldS_steady | with_reducible apply State.setFolio_steady
    | with_reducible apply Answers.next | with_reducible apply Answers.ite | with_reducible apply Steady.ite
    | (fail_if_no_progress (with_reducible (refine Steady.of ?_ rfl rfl rfl rfl rfl rfl rfl rfl)))
    | with_reducible (refine Steady.snd (by assumption) ?_) | with_reducible (refine Steady.snd2 (by assumption) ?_)
    | with_reducible apply foldl_steady | split

theorem State.groupSend_steady {s0 s : State} (h : Steady s0 s) (i : Nat) (ty : Nat) (d : Bytes) :
    Steady s0 (s.groupSend i ty d) := by
  unfold State.groupSend; repeat' first
    | intro _ | with_reducible assumption | with_reducible apply State.send_steady | with_reducible apply Steady.ite
    | (fail_if_no_progress (with_reducible (refine Steady.of ?_ rfl rfl rfl rfl rfl rfl rfl rfl)))
    | with_reducible (refine Steady.snd (by assumption) ?_) | with_reducible (refine Steady.snd2 (by assumption) ?_)
    | with_reducible apply foldl_steady | split

theorem execReportPeriod_steady {s0 s : State} (h : Steady s0 s) :
    Answers s0 (execReportPeriod s) := by
  unfold execReportPeriod; repeat' first
    | intro _ | with_reducible assumption | with_reducible apply stay_steady | with_reducible apply foldS_steady
    | with_reducible apply State.groupSend_steady | with_reducible apply Answers.next | with_reducible apply Answers.ite
    | with_reducible apply Steady.ite | (fail_if_no_progress (with_reducible (refine Steady.of ?_ rfl rfl rfl rfl rfl rfl rfl rfl)))

theorem execReport_steady {s0 s : State} (h : Steady s0 s) (link : Nat) (payload : Bytes) :
    Answers s0 (execReport link payload s) := by
  unfold execReport; repeat' first
    | intro _ | with_reducible assumption | with_reducible apply stay_steady | with_reducible apply Answers.next | with_reducible apply Answers.ite
    | with_reducible apply Steady.ite | (fail_if_no_progress (with_reducible (refine Steady.of ?_ rfl rfl rfl rfl rfl rfl rfl rfl)))

theorem State.applyLimit_steady {s0 s : State} (h : Steady s0 s) (lim : Nat) :
    Steady s0 (s.applyLimit lim) := by
  unfold State.applyLimit; repeat' first
    | intro _ | with_reducible assumption | with_reducible apply State.setFld_steady | with_reducible apply Steady.ite
    | (fail_if_no_progress (with_reducible (refine Steady.of ?_ rfl rfl rfl rfl rfl rfl rfl rfl)))

theorem execLeaderAssign_steady {s0 s : State} (h : Steady s0 s) :
    Answers s0 (execLeaderAssign s) := by
  unfold execLeaderAssign; repeat' first
    | intro _ | with_reducible assumption | with_reducible apply stay_steady | with_reducible apply State.applyLimit_steady
    | with_reducible apply foldS_steady | with_reducible apply State.powerEvent_steady | with_reducible apply State.groupSend_steady
    | with_reducible apply Answers.next | with_reducible apply Answers.ite | with_reducible apply Steady.ite
    | (fail_if_no_progress (with_reducible (refine Steady.of ?_ rfl rfl rfl rfl rfl rfl rfl rfl)))
    | with_reducible (refine Steady.snd (by assumption) ?_) | with_reducible (refine Steady.snd2 (by assumption) ?_)
    | with_reducible apply foldl_steady | split | dsimp only

theorem execAssign_steady {s0 s : State} (h : Steady s0 s) (link : Nat) (payload : Bytes) :
    Answers s0 (execAssign link payload s) := by
  unfold execAssign; repeat' first
    | intro _ | with_reducible assumption | with_reducible apply stay_steady | with_reducible apply State.applyLimit_steady
    | with_reducible apply Answers.next | with_reducible apply Answers.ite | with_reducible apply Steady.ite
    | (fail_if_no_progress (with_reducible (refine Steady.of ?_ rfl rfl rfl rfl rfl rfl rfl rfl)))

theorem execAssignTimeout_steady {s0 s : State} (h : Steady s0 s) :
    Answers s0 (execAssignTimeout s) := by
  unfold execAssignTimeout; repeat' first
    | intro _ | with_reducible assumption | with_reducible apply stay_steady | with_reducible apply State.setFld_steady
    | with_reducible apply State.applyLimit_steady | with_reducible apply State.powerEvent_steady | with_reducible apply Answers.next
    | with_reducible apply Answers.ite | with_reducible apply Steady.ite
    | (fail_if_no_progress (with_reducible (refine Steady.of ?_ rfl rfl rfl rfl rfl rfl rfl rfl)))

theorem State.rebind_steady {s0 s : State} (h : Steady s0 s) (kind : Nat) (n : Nat) (outcome : Nat) (frm : Nat) (dest : Nat) (efrom : Nat) (eto : Nat) (lost : Nat) (first : Option Nat) (started : Nat) :
    Steady s0 (s.rebind kind n outcome frm dest efrom eto lost first started) := by
  unfold State.rebind; repeat' first
    | intro _ | with_reducible assumption | with_reducible apply State.ringPut_steady | with_reducible apply Steady.ite

theorem State.clearLat_steady {s0 s : State} (h : Steady s0 s) (h : Nat) :
    Steady s0 (s.clearLat h) := by
  unfold State.clearLat; repeat' first
    | intro _ | with_reducible assumption | with_reducible apply State.setReg_steady | with_reducible apply foldS_steady

theorem State.joinSlice_steady {s0 s : State} (h : Steady s0 s) (kind : Nat) (n : Nat) (g : Nat) (bump : Bool) :
    Steady s0 (s.joinSlice kind n g bump) := by
  unfold State.joinSlice; repeat' first
    | intro _ | with_reducible assumption | with_reducible apply State.capChange_steady | with_reducible apply State.setSliceE_steady
    | with_reducible apply State.clearLat_steady | with_reducible apply State.bumpEpoch_steady | with_reducible apply State.repin_steady
    | with_reducible apply State.setFrames_steady | with_reducible apply Steady.ite

theorem State.awaitEpoch_steady {s0 s : State} (h : Steady s0 s) (g : Nat) (queue : Option Nat) :
    Steady s0 (s.awaitEpoch g queue) := by
  unfold State.awaitEpoch; repeat' first
    | intro _ | with_reducible assumption | with_reducible apply State.setPhase_steady | with_reducible apply State.setFolio_steady
    | with_reducible apply Steady.ite | (fail_if_no_progress (with_reducible (refine Steady.of ?_ rfl rfl rfl rfl rfl rfl rfl rfl)))
    | with_reducible (refine Steady.snd (by assumption) ?_) | with_reducible (refine Steady.snd2 (by assumption) ?_)
    | with_reducible apply foldl_steady | split

theorem State.endFor_steady {s0 s : State} (h : Steady s0 s) (queue : Option Nat) (status : Nat) :
    Steady s0 (s.endFor queue status) := by
  unfold State.endFor; repeat' first
    | intro _ | with_reducible assumption | with_reducible apply State.cmdDone_steady | with_reducible apply Steady.ite
    | (fail_if_no_progress (with_reducible (refine Steady.of ?_ rfl rfl rfl rfl rfl rfl rfl rfl)))
    | with_reducible (refine Steady.snd (by assumption) ?_) | with_reducible (refine Steady.snd2 (by assumption) ?_)
    | with_reducible apply foldl_steady | split

theorem execEpochInForce_steady {s0 s : State} (h : Steady s0 s) (folio : Nat) :
    Answers s0 (execEpochInForce folio s) := by
  unfold execEpochInForce; repeat' first
    | intro _ | with_reducible assumption | with_reducible apply State.cmdDone_steady | with_reducible apply foldS_steady
    | with_reducible apply State.setFolio_steady | with_reducible apply Answers.next

theorem State.joinDone_steady {s0 s : State} (h : Steady s0 s) (kind : Nat) (n : Nat) (g : Nat) (queue : Option Nat) (started : Nat) :
    Steady s0 (s.joinDone kind n g queue started) := by
  unfold State.joinDone; repeat' first
    | intro _ | with_reducible assumption | with_reducible apply State.rebind_steady | with_reducible apply State.awaitEpoch_steady
    | with_reducible apply State.joinSlice_steady

theorem State.startInit_steady {s0 s : State} (h : Steady s0 s) (n : Nat) (g : Nat) (queue : Option Nat) (started : Nat) :
    Steady s0 (s.startInit n g queue started) := by
  unfold State.startInit; repeat' first
    | intro _ | with_reducible assumption | with_reducible apply State.setMemSlice_steady

theorem State.wipeSlice_steady {s0 s : State} (h : Steady s0 s) (n : Nat) :
    Steady s0 (s.wipeSlice n) := by
  unfold State.wipeSlice; repeat' first
    | intro _ | with_reducible assumption | with_reducible apply Steady.ite
    | (fail_if_no_progress (with_reducible (refine Steady.of ?_ rfl rfl rfl rfl rfl rfl rfl rfl)))
    | with_reducible (refine Steady.snd (by assumption) ?_) | with_reducible (refine Steady.snd2 (by assumption) ?_)
    | with_reducible apply foldl_steady | split | dsimp only
    | (with_reducible refine Steady.ofMem ?_ rfl rfl rfl rfl rfl rfl ?_ ?_) <;> [skip; (intro hm; repeat' first | exact hm | apply wf_mwrite | apply wf_mzero | apply wf_filter | exact wf_nil); (intro hm; repeat' first | exact hm | apply wf_mwrite)]

theorem execConfSliceInitComplete_steady {s0 s : State} (h : Steady s0 s) (slice : Nat) :
    Answers s0 (execConfSliceInitComplete slice s) := by
  unfold execConfSliceInitComplete; repeat' first
    | intro _ | with_reducible assumption | with_reducible apply State.rebind_steady | with_reducible apply State.wipeSlice_steady
    | with_reducible apply stay_steady | with_reducible apply State.joinDone_steady | with_reducible apply State.setMemSlice_steady
    | with_reducible apply State.joinSlice_steady | with_reducible apply State.endFor_steady | with_reducible apply Answers.next
    | with_reducible apply Answers.ite | with_reducible apply Steady.ite

theorem State.reread_steady {s0 s : State} (h : Steady s0 s) (c : Nat) (k : Nat) (x : Slot) (e : WatchEntry) :
    Steady s0 (s.reread c k x e) := by
  unfold State.reread; repeat' first
    | intro _ | with_reducible assumption | with_reducible apply State.fenceHit_steady | with_reducible apply State.pollFault_steady
    | with_reducible apply State.readLine_steady | with_reducible apply State.takeWatch_steady | with_reducible apply State.pollAgain_steady
    | with_reducible apply Steady.ite | (fail_if_no_progress (with_reducible (refine Steady.of ?_ rfl rfl rfl rfl rfl rfl rfl rfl)))
    | with_reducible (refine Steady.snd (by assumption) ?_) | with_reducible (refine Steady.snd2 (by assumption) ?_)
    | with_reducible apply foldl_steady | split

theorem State.endWatches_steady {s0 s : State} (h : Steady s0 s) (n : Nat) (f : Nat) :
    Steady s0 (s.endWatches n f) := by
  unfold State.endWatches; repeat' first
    | intro _ | with_reducible assumption | with_reducible apply State.setHome_steady | with_reducible apply foldS_steady
    | with_reducible apply State.reread_steady | with_reducible apply Steady.ite
    | (fail_if_no_progress (with_reducible (refine Steady.of ?_ rfl rfl rfl rfl rfl rfl rfl rfl)))
    | with_reducible (refine Steady.snd (by assumption) ?_) | with_reducible (refine Steady.snd2 (by assumption) ?_)
    | with_reducible apply foldl_steady | split

theorem State.depart_steady {s0 s : State} (h : Steady s0 s) (kind : Nat) (n : Nat) (dest : Nat) (queue : Option Nat) :
    Steady s0 (s.depart kind n dest queue) := by
  unfold State.depart; repeat' first
    | intro _ | with_reducible assumption | with_reducible apply State.capChange_steady | with_reducible apply State.setSliceE_steady
    | with_reducible apply State.bumpEpoch_steady | with_reducible apply State.endWatches_steady | with_reducible apply State.repin_steady
    | with_reducible apply Steady.ite

theorem State.gather_steady {s0 s : State} (h : Steady s0 s) (kind : Nat) (n : Nat) :
    Steady s0 (s.gather kind n) := by
  unfold State.gather; repeat' first
    | intro _ | with_reducible assumption | with_reducible apply State.cleanLine_steady | with_reducible apply State.leaveDeparting_steady
    | with_reducible apply State.recallLine_steady | with_reducible apply foldS_steady | with_reducible apply Steady.ite

theorem State.releaseFolio_steady {s0 s : State} (h : Steady s0 s) (f : Nat) (queue : Nat) :
    Steady s0 (s.releaseFolio f queue) := by
  unfold State.releaseFolio; repeat' first
    | intro _ | with_reducible assumption | with_reducible apply State.capChange_steady | with_reducible apply State.cmdDone_steady
    | with_reducible apply State.killCtx_steady | with_reducible apply State.ctxResetQuiet_steady | with_reducible apply State.killRing_steady
    | with_reducible apply State.evictCtx_steady | with_reducible apply State.releaseQuarantine_steady
    | with_reducible apply State.setLinkSlice_steady | with_reducible apply foldS_steady | with_reducible apply State.setFolio_steady
    | with_reducible apply State.repin_steady | with_reducible apply State.killQueue_steady

theorem State.destroyCheck_steady {s0 s : State} (h : Steady s0 s) (f : Nat) :
    Steady s0 (s.destroyCheck f) := by
  unfold State.destroyCheck; repeat' first
    | intro _ | with_reducible assumption | with_reducible apply State.releaseFolio_steady | with_reducible apply Steady.ite
    | (fail_if_no_progress (with_reducible (refine Steady.of ?_ rfl rfl rfl rfl rfl rfl rfl rfl)))
    | with_reducible (refine Steady.snd (by assumption) ?_) | with_reducible (refine Steady.snd2 (by assumption) ?_)
    | with_reducible apply foldl_steady | split

theorem State.flip_steady {s0 s : State} (h : Steady s0 s) (kind : Nat) (n : Nat) :
    Steady s0 (s.flip kind n) := by
  unfold State.flip; repeat' first
    | intro _ | with_reducible assumption | with_reducible apply State.capChange_steady | with_reducible apply State.rebind_steady
    | with_reducible apply State.startScrub_steady | with_reducible apply State.setSliceE_steady | with_reducible apply State.setMemSlice_steady
    | with_reducible apply State.awaitEpoch_steady | with_reducible apply State.joinSlice_steady | with_reducible apply State.destroyCheck_steady
    | with_reducible apply State.startInit_steady | with_reducible apply State.endFor_steady | with_reducible apply State.unserve_steady
    | with_reducible apply Steady.ite

theorem execDrainZero_steady {s0 s : State} (h : Steady s0 s) (kind : Nat) (slice : Nat) :
    Answers s0 (execDrainZero kind slice s) := by
  unfold execDrainZero; repeat' first
    | intro _ | with_reducible assumption | with_reducible apply stay_steady | with_reducible apply State.flip_steady
    | with_reducible apply State.gather_steady | with_reducible apply Answers.next | with_reducible apply Answers.ite
    | with_reducible apply Steady.ite

theorem execScrubComplete_steady {s0 s : State} (h : Steady s0 s) (slice : Nat) :
    Answers s0 (execScrubComplete slice s) := by
  unfold execScrubComplete; repeat' first
    | intro _ | with_reducible assumption | with_reducible apply State.capChange_steady | with_reducible apply State.wipeSlice_steady
    | with_reducible apply stay_steady | with_reducible apply State.joinDone_steady | with_reducible apply State.setHome_steady
    | with_reducible apply State.setMemSlice_steady | with_reducible apply State.startInit_steady | with_reducible apply Answers.next
    | with_reducible apply Answers.ite | with_reducible apply Steady.ite

theorem State.loseReqs_steady {s0 s : State} (h : Steady s0 s) (l : List Nat) :
    Steady s0 (s.loseReqs l) := by
  unfold State.loseReqs; repeat' first
    | intro _ | with_reducible assumption | with_reducible apply State.finish_steady | with_reducible apply foldS_steady
    | with_reducible apply Steady.ite | (fail_if_no_progress (with_reducible (refine Steady.of ?_ rfl rfl rfl rfl rfl rfl rfl rfl)))
    | with_reducible (refine Steady.snd (by assumption) ?_) | with_reducible (refine Steady.snd2 (by assumption) ?_)
    | with_reducible apply foldl_steady | split

theorem State.answerFor_steady {s0 s : State} (h : Steady s0 s) (n : Nat) :
    Steady s0 (s.answerFor n) := by
  unfold State.answerFor; repeat' first
    | intro _ | with_reducible assumption | with_reducible apply State.cohCount_steady | with_reducible apply State.answered_steady
    | with_reducible apply foldS_steady | with_reducible apply Steady.ite

theorem State.loseCache_steady {s0 s : State} (h : Steady s0 s) (n : Nat) :
    Steady s0 (s.loseCache n) := by
  unfold State.loseCache; repeat' first
    | intro _ | with_reducible assumption | with_reducible apply State.setCache_steady | with_reducible apply State.answerFor_steady
    | with_reducible apply foldS_steady | with_reducible apply State.dirRemove_steady

theorem State.loseHome_steady {s0 s : State} (h : Steady s0 s) (n : Nat) :
    Steady s0 (s.loseHome n) := by
  unfold State.loseHome; repeat' first
    | intro _ | with_reducible assumption | with_reducible apply State.setHome_steady | with_reducible apply Steady.ite
    | (fail_if_no_progress (with_reducible (refine Steady.of ?_ rfl rfl rfl rfl rfl rfl rfl rfl)))

theorem execDrainLimitExpiry_steady {s0 s : State} (h : Steady s0 s) (kind : Nat) (slice : Nat) :
    Answers s0 (execDrainLimitExpiry kind slice s) := by
  unfold execDrainLimitExpiry; repeat' first
    | intro _ | with_reducible assumption | with_reducible apply State.capChange_steady | with_reducible apply State.rebind_steady
    | with_reducible apply State.loseReqs_steady | with_reducible apply State.siftFail_steady | with_reducible apply stay_steady
    | with_reducible apply State.loseCache_steady | with_reducible apply State.ctxResetFree_steady | with_reducible apply State.loseHome_steady
    | with_reducible apply State.setSliceE_steady | with_reducible apply State.evictCtx_steady | with_reducible apply foldS_steady
    | with_reducible apply State.destroyCheck_steady | with_reducible apply State.endFor_steady | with_reducible apply State.offerEnd_steady
    | with_reducible apply State.gather_steady | with_reducible apply Answers.next | with_reducible apply Answers.ite
    | with_reducible apply Steady.ite

theorem State.createFolio_steady {s0 s : State} (h : Steady s0 s) (queue : Nat) (b : Bytes) (cores : List Nat) (mems : List Nat) (links : List Nat) :
    Steady s0 (s.createFolio queue b cores mems links) := by
  unfold State.createFolio; repeat' first
    | intro _ | with_reducible assumption | with_reducible apply State.rebind_steady | with_reducible apply State.cmdDone_steady
    | with_reducible apply State.setPhase_steady | with_reducible apply State.useFree_steady | with_reducible apply foldS_steady
    | with_reducible apply State.setFolio_steady | with_reducible apply State.joinSlice_steady | with_reducible apply State.repin_steady
    | with_reducible apply State.startInit_steady | with_reducible apply Steady.ite

theorem execFolioCreate_steady {s0 s : State} (h : Steady s0 s) (queue : Nat) :
    Answers s0 (execFolioCreate queue s) := by
  unfold execFolioCreate; repeat' first
    | intro _ | with_reducible assumption | with_reducible apply State.runComposition_steady | with_reducible apply State.cmdDone_steady
    | with_reducible apply State.createFolio_steady | with_reducible apply State.withBlock_steady | with_reducible apply Answers.next
    | with_reducible apply Answers.ite | with_reducible apply Steady.ite
    | (fail_if_no_progress (with_reducible (refine Steady.of ?_ rfl rfl rfl rfl rfl rfl rfl rfl)))
    | with_reducible (refine Steady.snd (by assumption) ?_) | with_reducible (refine Steady.snd2 (by assumption) ?_)
    | with_reducible apply foldl_steady | split | dsimp only

theorem execFolioDestroy_steady {s0 s : State} (h : Steady s0 s) (queue : Nat) :
    Answers s0 (execFolioDestroy queue s) := by
  unfold execFolioDestroy; repeat' first
    | intro _ | with_reducible assumption | with_reducible apply State.runComposition_steady | with_reducible apply State.cmdDone_steady
    | with_reducible apply State.depart_steady | with_reducible apply State.setPhase_steady | with_reducible apply foldS_steady
    | with_reducible apply State.setFolio_steady | with_reducible apply State.destroyCheck_steady | with_reducible apply Answers.next
    | with_reducible apply Answers.ite | with_reducible apply Steady.ite
    | (fail_if_no_progress (with_reducible (refine Steady.of ?_ rfl rfl rfl rfl rfl rfl rfl rfl)))
    | with_reducible (refine Steady.snd (by assumption) ?_) | with_reducible (refine Steady.snd2 (by assumption) ?_)
    | with_reducible apply foldl_steady | split

theorem execSliceAttach_steady {s0 s : State} (h : Steady s0 s) (queue : Nat) :
    Answers s0 (execSliceAttach queue s) := by
  unfold execSliceAttach; repeat' first
    | intro _ | with_reducible assumption | with_reducible apply State.runComposition_steady | with_reducible apply State.joinDone_steady
    | with_reducible apply State.cmdDone_steady | with_reducible apply State.setPhase_steady | with_reducible apply State.startInit_steady
    | with_reducible apply Answers.next | with_reducible apply Answers.ite | with_reducible apply Steady.ite
    | (fail_if_no_progress (with_reducible (refine Steady.of ?_ rfl rfl rfl rfl rfl rfl rfl rfl)))
    | with_reducible (refine Steady.snd (by assumption) ?_) | with_reducible (refine Steady.snd2 (by assumption) ?_)
    | with_reducible apply foldl_steady | split | dsimp only

theorem execSliceDetach_steady {s0 s : State} (h : Steady s0 s) (queue : Nat) :
    Answers s0 (execSliceDetach queue s) := by
  unfold execSliceDetach; repeat' first
    | intro _ | with_reducible assumption | with_reducible apply State.runComposition_steady | with_reducible apply State.cmdDone_steady
    | with_reducible apply State.depart_steady | with_reducible apply State.setPhase_steady | with_reducible apply Answers.next
    | with_reducible apply Answers.ite | with_reducible apply Steady.ite
    | (fail_if_no_progress (with_reducible (refine Steady.of ?_ rfl rfl rfl rfl rfl rfl rfl rfl)))
    | with_reducible (refine Steady.snd (by assumption) ?_) | with_reducible (refine Steady.snd2 (by assumption) ?_)
    | with_reducible apply foldl_steady | split | dsimp only

theorem execSliceTransfer_steady {s0 s : State} (h : Steady s0 s) (queue : Nat) :
    Answers s0 (execSliceTransfer queue s) := by
  unfold execSliceTransfer; repeat' first
    | intro _ | with_reducible assumption | with_reducible apply State.runComposition_steady | with_reducible apply State.cmdDone_steady
    | with_reducible apply State.depart_steady | with_reducible apply State.setPhase_steady | with_reducible apply Answers.next
    | with_reducible apply Answers.ite | with_reducible apply Steady.ite
    | (fail_if_no_progress (with_reducible (refine Steady.of ?_ rfl rfl rfl rfl rfl rfl rfl rfl)))
    | with_reducible (refine Steady.snd (by assumption) ?_) | with_reducible (refine Steady.snd2 (by assumption) ?_)
    | with_reducible apply foldl_steady | split | dsimp only

theorem execSliceMove_steady {s0 s : State} (h : Steady s0 s) (queue : Nat) :
    Answers s0 (execSliceMove queue s) := by
  unfold execSliceMove; repeat' first
    | intro _ | with_reducible assumption | with_reducible apply State.runComposition_steady | with_reducible apply State.cmdDone_steady
    | with_reducible apply State.setPhase_steady | with_reducible apply State.setMemSlice_steady | with_reducible apply Answers.next
    | with_reducible apply Answers.ite | with_reducible apply Steady.ite

theorem slicePa_lt (y a : Nat) : slicePa y (a % 2 ^ 33) < slicePa (y + 1) 0 := by
  unfold slicePa; omega

theorem slicePa_ge (y o : Nat) : slicePa y 0 ≤ slicePa y o := by
  unfold slicePa; omega

theorem wf_copySlice (s : State) (x y : Nat) (h : Memory.wf s.hbm = true) : Memory.wf (s.copySlice x y).hbm = true := by
  unfold State.copySlice; dsimp only
  have hmid := wf_map (fun a => slicePa y (a % 2 ^ 33)) (wf_filter (fun c => decide (slicePa x 0 ≤ c.1 ∧ c.1 < slicePa (x + 1) 0)) h)
    (by
      intro a ha b hb hab
      have ha := of_decide_eq_true (List.mem_filter.1 ha).2
      have hb := of_decide_eq_true (List.mem_filter.1 hb).2
      unfold slicePa at *
      omega)
  refine wf_append (wf_append (wf_filter _ h) hmid ?_) (wf_filter _ h) ?_
  · intro a ha b hb
    obtain ⟨c, -, rfl⟩ := List.mem_map.1 hb
    exact lt_of_lt_of_le (of_decide_eq_true (List.mem_filter.1 ha).2) (slicePa_ge _ _)
  · intro a ha b hb
    refine lt_of_lt_of_le ?_ (of_decide_eq_true (List.mem_filter.1 hb).2)
    rcases List.mem_append.1 ha with ha | ha
    · exact lt_of_lt_of_le (of_decide_eq_true (List.mem_filter.1 ha).2) (le_of_lt (lt_of_le_of_lt (slicePa_ge y (0 % 2 ^ 33)) (slicePa_lt y 0)))
    · obtain ⟨c, -, rfl⟩ := List.mem_map.1 ha
      exact slicePa_lt _ _

theorem State.copySlice_steady {s0 s : State} (h : Steady s0 s) (x y : Nat) : Steady s0 (s.copySlice x y) :=
  Steady.hbm h (wf_copySlice s x y) rfl rfl rfl rfl rfl

theorem State.abandonMove_steady {s0 s : State} (h : Steady s0 s) (x : Nat) (y : Nat) :
    Steady s0 (s.abandonMove x y) := by
  unfold State.abandonMove; repeat' first
    | intro _ | with_reducible assumption | with_reducible apply State.startScrub_steady | with_reducible apply State.setMemSlice_steady
    | with_reducible apply State.endFor_steady

theorem execSliceMoveCopyComplete_steady {s0 s : State} (h : Steady s0 s) (slice : Nat) :
    Answers s0 (execSliceMoveCopyComplete slice s) := by
  unfold execSliceMoveCopyComplete; repeat' first
    | intro _ | with_reducible assumption | with_reducible apply State.capChange_steady | with_reducible apply State.rebind_steady
    | with_reducible apply stay_steady | with_reducible apply State.clearLat_steady | with_reducible apply State.bumpEpoch_steady
    | with_reducible apply State.setMemSlice_steady | with_reducible apply State.awaitEpoch_steady | with_reducible apply State.endWatches_steady
    | with_reducible apply State.setFrames_steady | with_reducible apply State.copySlice_steady | with_reducible apply State.gather_steady
    | with_reducible apply Answers.next | with_reducible apply Answers.ite | with_reducible apply Steady.ite
    | (fail_if_no_progress (with_reducible (refine Steady.of ?_ rfl rfl rfl rfl rfl rfl rfl rfl)))
    | with_reducible (refine Steady.snd (by assumption) ?_) | with_reducible (refine Steady.snd2 (by assumption) ?_)
    | with_reducible apply foldl_steady | split | dsimp only

theorem State.fillLast_steady {s0 s : State} (h : Steady s0 s) (op last : Nat) (data : List Nat) : Steady s0 (s.fillLast op last data) := by
  unfold State.fillLast
  split
  · split
    · exact State.copySlice_steady h _ _
    · exact h
  · exact Steady.hbm (State.wipeSlice_steady h last)
      (fun m => wf_foldl m (fun k n hk => wf_foldl hk (fun k2 c hk2 => wf_mset _ _ hk2))) rfl rfl rfl rfl rfl

theorem State.formSet_steady {s0 s : State} (h : Steady s0 s) (op : Nat) (l : List (Nat × Nat)) :
    Steady s0 (s.formSet op l) := by
  unfold State.formSet; repeat' first
    | intro _ | with_reducible assumption | with_reducible apply State.fillLast_steady | with_reducible apply State.setMemSlice_steady
    | with_reducible apply State.gather_steady | with_reducible apply Steady.ite
    | (fail_if_no_progress (with_reducible (refine Steady.of ?_ rfl rfl rfl rfl rfl rfl rfl rfl)))
    | with_reducible (refine Steady.snd (by assumption) ?_) | with_reducible (refine Steady.snd2 (by assumption) ?_)
    | with_reducible apply foldl_steady | split

theorem State.dissolve_steady {s0 s : State} (h : Steady s0 s) (p : ProtSet) :
    Steady s0 (s.dissolve p) := by
  unfold State.dissolve; repeat' first
    | intro _ | with_reducible assumption | with_reducible apply State.setMemSlice_steady | with_reducible apply Steady.ite
    | (fail_if_no_progress (with_reducible (refine Steady.of ?_ rfl rfl rfl rfl rfl rfl rfl rfl)))
    | with_reducible (refine Steady.snd (by assumption) ?_) | with_reducible (refine Steady.snd2 (by assumption) ?_)
    | with_reducible apply foldl_steady | split

theorem execSetProtect_steady {s0 s : State} (h : Steady s0 s) (queue : Nat) :
    Answers s0 (execSetProtect queue s) := by
  unfold execSetProtect; repeat' first
    | intro _ | with_reducible assumption | with_reducible apply State.dissolve_steady | with_reducible apply State.cmdDone_steady
    | with_reducible apply State.formSet_steady | with_reducible apply State.withBlock_steady | with_reducible apply State.runCmd_steady
    | with_reducible apply Answers.next | with_reducible apply Answers.ite | with_reducible apply Steady.ite
    | (fail_if_no_progress (with_reducible (refine Steady.of ?_ rfl rfl rfl rfl rfl rfl rfl rfl)))
    | with_reducible (refine Steady.snd (by assumption) ?_) | with_reducible (refine Steady.snd2 (by assumption) ?_)
    | with_reducible apply foldl_steady | split

theorem execPeerSet_steady {s0 s : State} (h : Steady s0 s) (queue : Nat) :
    Answers s0 (execPeerSet queue s) := by
  unfold execPeerSet; repeat' first
    | intro _ | with_reducible assumption | with_reducible apply State.setReg_steady | with_reducible apply State.capChange_steady
    | with_reducible apply State.cmdDone_steady | with_reducible apply State.runCmd_steady | with_reducible apply Answers.next
    | with_reducible apply Answers.ite | with_reducible apply Steady.ite
    | (fail_if_no_progress (with_reducible (refine Steady.of ?_ rfl rfl rfl rfl rfl rfl rfl rfl)))

theorem execLinkShare_steady {s0 s : State} (h : Steady s0 s) (queue : Nat) :
    Answers s0 (execLinkShare queue s) := by
  unfold execLinkShare; repeat' first
    | intro _ | with_reducible assumption | with_reducible apply State.capChange_steady | with_reducible apply State.cmdDone_steady
    | with_reducible apply State.setLinkSlice_steady | with_reducible apply State.runCmd_steady | with_reducible apply Answers.next
    | with_reducible apply Answers.ite | with_reducible apply Steady.ite

theorem execFolioQuery_steady {s0 s : State} (h : Steady s0 s) (queue : Nat) :
    Answers s0 (execFolioQuery queue s) := by
  unfold execFolioQuery; repeat' first
    | intro _ | with_reducible assumption | with_reducible apply State.cmdDone_steady | with_reducible apply State.hubWrite_steady
    | with_reducible apply State.runCmd_steady | with_reducible apply Answers.next | with_reducible apply Answers.ite
    | with_reducible apply Steady.ite | (fail_if_no_progress (with_reducible (refine Steady.of ?_ rfl rfl rfl rfl rfl rfl rfl rfl)))
    | with_reducible (refine Steady.snd (by assumption) ?_) | with_reducible (refine Steady.snd2 (by assumption) ?_)
    | with_reducible apply foldl_steady | split

theorem execFolioRing_steady {s0 s : State} (h : Steady s0 s) (queue : Nat) :
    Answers s0 (execFolioRing queue s) := by
  unfold execFolioRing; repeat' first
    | intro _ | with_reducible assumption | with_reducible apply State.cmdDone_steady | with_reducible apply State.setFolio_steady
    | with_reducible apply State.runCmd_steady | with_reducible apply Answers.next | with_reducible apply Answers.ite
    | with_reducible apply Steady.ite | (fail_if_no_progress (with_reducible (refine Steady.of ?_ rfl rfl rfl rfl rfl rfl rfl rfl)))
    | with_reducible (refine Steady.snd (by assumption) ?_) | with_reducible (refine Steady.snd2 (by assumption) ?_)
    | with_reducible apply foldl_steady | split

theorem State.flushPos_steady {s0 s : State} (h : Steady s0 s) (p : Nat) (f : Nat) :
    Steady s0 (s.flushPos p f) := by
  unfold State.flushPos; repeat' first
    | intro _ | with_reducible assumption | with_reducible apply State.wake_steady | with_reducible apply State.rawWrite_steady
    | with_reducible apply foldS_steady | with_reducible apply State.mirrorSend_steady | with_reducible apply Steady.ite
    | (fail_if_no_progress (with_reducible (refine Steady.of ?_ rfl rfl rfl rfl rfl rfl rfl rfl)))
    | with_reducible (refine Steady.snd (by assumption) ?_) | with_reducible (refine Steady.snd2 (by assumption) ?_)
    | with_reducible apply foldl_steady | split

theorem State.reissue_steady {s0 s : State} (h : Steady s0 s) (id : Nat) :
    Steady s0 (s.reissue id) := by
  unfold State.reissue; repeat' first
    | intro _ | with_reducible assumption | with_reducible apply State.setReq_steady | with_reducible apply State.finish_steady
    | with_reducible apply State.toPeer_steady | with_reducible apply Steady.ite
    | (fail_if_no_progress (with_reducible (refine Steady.of ?_ rfl rfl rfl rfl rfl rfl rfl rfl)))
    | with_reducible (refine Steady.snd (by assumption) ?_) | with_reducible (refine Steady.snd2 (by assumption) ?_)
    | with_reducible apply foldl_steady | split

theorem State.reissueAt_steady {s0 s : State} (h : Steady s0 s) (p : Nat) :
    Steady s0 (s.reissueAt p) := by
  unfold State.reissueAt; repeat' first
    | intro _ | with_reducible assumption | with_reducible apply State.reissue_steady | with_reducible apply foldS_steady

theorem State.loseMember_steady {s0 s : State} (h : Steady s0 s) (n : Nat) (keep : Option Nat) :
    Steady s0 (s.loseMember n keep) := by
  unfold State.loseMember; repeat' first
    | intro _ | with_reducible assumption | with_reducible apply State.capChange_steady | with_reducible apply State.rebind_steady
    | with_reducible apply State.setHome_steady | with_reducible apply State.setMemSlice_steady

theorem State.moveSifts_steady {s0 s : State} (h : Steady s0 s) (lostM : Nat) (n : Nat) :
    Steady s0 (s.moveSifts lostM n) := by
  unfold State.moveSifts; repeat' first
    | intro _ | with_reducible assumption | with_reducible apply State.setUnit_steady | with_reducible apply Steady.ite
    | (fail_if_no_progress (with_reducible (refine Steady.of ?_ rfl rfl rfl rfl rfl rfl rfl rfl)))

theorem State.endSifts_steady {s0 s : State} (h : Steady s0 s) (n : Nat) (status : Nat) :
    Steady s0 (s.endSifts n status) := by
  unfold State.endSifts; repeat' first
    | intro _ | with_reducible assumption | with_reducible apply State.siftFail_steady | with_reducible apply foldS_steady

theorem State.takeOver_steady {s0 s : State} (h : Steady s0 s) (lostM : Nat) (n : Nat) :
    Steady s0 (s.takeOver lostM n) := by
  unfold State.takeOver; repeat' first
    | intro _ | with_reducible assumption | with_reducible apply State.flushPos_steady | with_reducible apply State.setHome_steady
    | with_reducible apply State.loseMember_steady | with_reducible apply State.setMemSlice_steady | with_reducible apply State.reissueAt_steady
    | with_reducible apply Steady.ite | (fail_if_no_progress (with_reducible (refine Steady.of ?_ rfl rfl rfl rfl rfl rfl rfl rfl)))
    | with_reducible (refine Steady.snd (by assumption) ?_) | with_reducible (refine Steady.snd2 (by assumption) ?_)
    | with_reducible apply foldl_steady | split | dsimp only

theorem State.putSet_steady {s0 s : State} (h : Steady s0 s) (p : ProtSet) (p' : ProtSet) :
    Steady s0 (s.putSet p p') := by
  unfold State.putSet; repeat' first
    | intro _ | with_reducible assumption | with_reducible apply Steady.ite
    | (fail_if_no_progress (with_reducible (refine Steady.of ?_ rfl rfl rfl rfl rfl rfl rfl rfl)))

theorem State.primaryOnly_steady {s0 s : State} (h : Steady s0 s) (n : Nat) :
    Steady s0 (s.primaryOnly n) := by
  unfold State.primaryOnly; repeat' first
    | intro _ | with_reducible assumption | with_reducible apply State.finish_steady | with_reducible apply foldS_steady

theorem State.mirrorLoss_steady {s0 s : State} (h : Steady s0 s) (p : ProtSet) (n : Nat) :
    Steady s0 (s.mirrorLoss p n) := by
  unfold State.mirrorLoss; repeat' first
    | intro _ | with_reducible assumption | with_reducible apply State.takeOver_steady | with_reducible apply State.putSet_steady
    | with_reducible apply State.flushPos_steady | with_reducible apply State.moveSifts_steady | with_reducible apply State.loseMember_steady
    | with_reducible apply State.endSifts_steady | with_reducible apply State.reissueAt_steady | with_reducible apply Steady.ite
    | (fail_if_no_progress (with_reducible (refine Steady.of ?_ rfl rfl rfl rfl rfl rfl rfl rfl)))
    | with_reducible (refine Steady.snd (by assumption) ?_) | with_reducible (refine Steady.snd2 (by assumption) ?_)
    | with_reducible apply foldl_steady | split | dsimp only

theorem State.partnerLoss_steady {s0 s : State} (h : Steady s0 s) (pkg : Nat) (f : Nat) :
    Steady s0 (s.partnerLoss pkg f) := by
  unfold State.partnerLoss; repeat' first
    | intro _ | with_reducible assumption | with_reducible apply State.rebind_steady | with_reducible apply State.putSet_steady
    | with_reducible apply State.primaryOnly_steady | with_reducible apply foldS_steady | with_reducible apply Steady.ite
    | (fail_if_no_progress (with_reducible (refine Steady.of ?_ rfl rfl rfl rfl rfl rfl rfl rfl)))
    | with_reducible (refine Steady.snd (by assumption) ?_) | with_reducible (refine Steady.snd2 (by assumption) ?_)
    | with_reducible apply foldl_steady | split

theorem State.codedLoss_steady {s0 s : State} (h : Steady s0 s) (p : ProtSet) (n : Nat) :
    Steady s0 (s.codedLoss p n) := by
  unfold State.codedLoss; repeat' first
    | intro _ | with_reducible assumption | with_reducible apply State.takeOver_steady | with_reducible apply State.putSet_steady
    | with_reducible apply State.loseMember_steady | with_reducible apply State.endSifts_steady | with_reducible apply Steady.ite

theorem State.abandonFor_steady {s0 s : State} (h : Steady s0 s) (n : Nat) :
    Steady s0 (s.abandonFor n) := by
  unfold State.abandonFor; repeat' first
    | intro _ | with_reducible assumption | with_reducible apply State.abandonMove_steady | with_reducible apply Steady.ite
    | (fail_if_no_progress (with_reducible (refine Steady.of ?_ rfl rfl rfl rfl rfl rfl rfl rfl)))
    | with_reducible (refine Steady.snd (by assumption) ?_) | with_reducible (refine Steady.snd2 (by assumption) ?_)
    | with_reducible apply foldl_steady | split

theorem execMirrorMemberLoss_steady {s0 s : State} (h : Steady s0 s) (slice : Nat) :
    Answers s0 (execMirrorMemberLoss slice s) := by
  unfold execMirrorMemberLoss; repeat' first
    | intro _ | with_reducible assumption | with_reducible apply stay_steady | with_reducible apply State.mirrorLoss_steady
    | with_reducible apply State.abandonFor_steady | with_reducible apply Answers.next | with_reducible apply Answers.ite
    | with_reducible apply Steady.ite | (fail_if_no_progress (with_reducible (refine Steady.of ?_ rfl rfl rfl rfl rfl rfl rfl rfl)))
    | with_reducible (refine Steady.snd (by assumption) ?_) | with_reducible (refine Steady.snd2 (by assumption) ?_)
    | with_reducible apply foldl_steady | split

theorem execCodedMemberLoss_steady {s0 s : State} (h : Steady s0 s) (slice : Nat) :
    Answers s0 (execCodedMemberLoss slice s) := by
  unfold execCodedMemberLoss; repeat' first
    | intro _ | with_reducible assumption | with_reducible apply stay_steady | with_reducible apply State.codedLoss_steady
    | with_reducible apply Answers.next | with_reducible apply Answers.ite | with_reducible apply Steady.ite
    | (fail_if_no_progress (with_reducible (refine Steady.of ?_ rfl rfl rfl rfl rfl rfl rfl rfl)))
    | with_reducible (refine Steady.snd (by assumption) ?_) | with_reducible (refine Steady.snd2 (by assumption) ?_)
    | with_reducible apply foldl_steady | split

theorem State.folio0Loss_steady {s0 s : State} (h : Steady s0 s) (unit : Nat) (what : List Nat) :
    Steady s0 (s.folio0Loss unit what) := by
  unfold State.folio0Loss; repeat' first
    | intro _ | with_reducible assumption | with_reducible apply State.ctxResetFree_steady | with_reducible apply State.hwError_steady
    | with_reducible apply State.useFree_steady | with_reducible apply foldS_steady

theorem State.resetForLoss_steady {s0 s : State} (h : Steady s0 s) (f : Nat) (unit : Nat) (what : List Nat) :
    Steady s0 (s.resetForLoss f unit what) := by
  unfold State.resetForLoss; repeat' first
    | intro _ | with_reducible assumption | with_reducible apply State.startFolioReset_steady | with_reducible apply State.folio0Loss_steady
    | with_reducible apply State.useFree_steady | with_reducible apply Steady.ite

theorem execStitchLinkIdle_steady {s0 s : State} (h : Steady s0 s) (peer : Nat) :
    Answers s0 (execStitchLinkIdle peer s) := by
  unfold execStitchLinkIdle; repeat' first
    | intro _ | with_reducible assumption | with_reducible apply State.capChange_steady | with_reducible apply stay_steady
    | with_reducible apply State.setStitch_steady | with_reducible apply foldS_steady | with_reducible apply Answers.next
    | with_reducible apply Answers.ite | with_reducible apply Steady.ite
    | (fail_if_no_progress (with_reducible (refine Steady.of ?_ rfl rfl rfl rfl rfl rfl rfl rfl)))

theorem State.quarantineLent_steady {s0 s : State} (h : Steady s0 s) (f : Nat) :
    Steady s0 (s.quarantineLent f) := by
  unfold State.quarantineLent; repeat' first
    | intro _ | with_reducible assumption | with_reducible apply State.loseMember_steady | with_reducible apply foldS_steady

theorem execPeerLossDrainExpiry_steady {s0 s : State} (h : Steady s0 s) (peer : Nat) (folio : Nat) :
    Answers s0 (execPeerLossDrainExpiry peer folio s) := by
  unfold execPeerLossDrainExpiry; repeat' first
    | intro _ | with_reducible assumption | with_reducible apply State.partnerLoss_steady | with_reducible apply State.dropReq_steady
    | with_reducible apply stay_steady | with_reducible apply State.finish_steady | with_reducible apply State.quarantineLent_steady
    | with_reducible apply foldS_steady | with_reducible apply State.offerEnd_steady | with_reducible apply Answers.next
    | with_reducible apply Answers.ite | with_reducible apply Steady.ite
    | (fail_if_no_progress (with_reducible (refine Steady.of ?_ rfl rfl rfl rfl rfl rfl rfl rfl)))
    | with_reducible (refine Steady.snd (by assumption) ?_) | with_reducible (refine Steady.snd2 (by assumption) ?_)
    | with_reducible apply foldl_steady | split

theorem State.takeEntryOf_steady {s0 s : State} (h : Steady s0 s) (l : Nat) :
    Steady s0 (s.takeEntryOf l) := by
  unfold State.takeEntryOf; repeat' first
    | intro _ | with_reducible assumption | with_reducible apply State.setStitch_steady

theorem State.answerPacket_steady {s0 s : State} (h : Steady s0 s) (l : Nat) (h : Bytes) (status : Nat) (d : Bytes) :
    Steady s0 (s.answerPacket l h status d) := by
  unfold State.answerPacket; repeat' first
    | intro _ | with_reducible assumption | with_reducible apply State.send_steady

theorem State.onPacket_steady {s0 s : State} (h : Steady s0 s) (l : Nat) (ty : Nat) (h : Bytes) (go : State → State) (h_go : ∀ st, Steady s0 st → Steady s0 (go st)) :
    Answers s0 (s.onPacket l ty h go) := by
  unfold State.onPacket; repeat' first
    | intro _ | with_reducible assumption | with_reducible apply stay_steady | with_reducible apply Answers.next | with_reducible apply Answers.ite
    | apply h_go

theorem State.guestReq_steady {s0 s : State} (h : Steady s0 s) (l : Nat) (h : Bytes) (d : Bytes) (kind : ReqKind) (n : Nat) (atomic : Bool) :
    Steady s0 (s.guestReq l h d kind n atomic) := by
  unfold State.guestReq; repeat' first
    | intro _ | with_reducible assumption | with_reducible apply State.answerPacket_steady | with_reducible apply State.takeEntryOf_steady
    | with_reducible apply State.addReq_steady | with_reducible apply Steady.ite
    | (fail_if_no_progress (with_reducible (refine Steady.of ?_ rfl rfl rfl rfl rfl rfl rfl rfl)))
    | with_reducible (refine Steady.snd (by assumption) ?_) | with_reducible (refine Steady.snd2 (by assumption) ?_)
    | with_reducible apply foldl_steady | split

theorem execStitchRead_steady {s0 s : State} (h : Steady s0 s) (link : Nat) (hdr : Bytes) (payload : Bytes) :
    Answers s0 (execStitchRead link hdr payload s) := by
  unfold execStitchRead; repeat' first
    | intro _ | with_reducible assumption | with_reducible apply State.onPacket_steady | with_reducible apply State.guestReq_steady

theorem execStitchWrite_steady {s0 s : State} (h : Steady s0 s) (link : Nat) (hdr : Bytes) (payload : Bytes) :
    Answers s0 (execStitchWrite link hdr payload s) := by
  unfold execStitchWrite; repeat' first
    | intro _ | with_reducible assumption | with_reducible apply State.onPacket_steady | with_reducible apply State.guestReq_steady

theorem execStitchAtomic_steady {s0 s : State} (h : Steady s0 s) (link : Nat) (hdr : Bytes) (payload : Bytes) :
    Answers s0 (execStitchAtomic link hdr payload s) := by
  unfold execStitchAtomic; repeat' first
    | intro _ | with_reducible assumption | with_reducible apply State.onPacket_steady | with_reducible apply State.guestReq_steady

theorem execStitchFenceOffer_steady {s0 s : State} (h : Steady s0 s) (link : Nat) (hdr : Bytes) (payload : Bytes) :
    Answers s0 (execStitchFenceOffer link hdr payload s) := by
  unfold execStitchFenceOffer; repeat' first
    | intro _ | with_reducible assumption | with_reducible apply State.answerPacket_steady | with_reducible apply State.onPacket_steady
    | with_reducible apply State.offerWord_steady | with_reducible apply Answers.next | with_reducible apply Answers.ite
    | with_reducible apply Steady.ite | (fail_if_no_progress (with_reducible (refine Steady.of ?_ rfl rfl rfl rfl rfl rfl rfl rfl)))
    | with_reducible (refine Steady.snd (by assumption) ?_) | with_reducible (refine Steady.snd2 (by assumption) ?_)
    | with_reducible apply foldl_steady | split

theorem execStitchBarrier_steady {s0 s : State} (h : Steady s0 s) (link : Nat) (hdr : Bytes) (payload : Bytes) :
    Answers s0 (execStitchBarrier link hdr payload s) := by
  unfold execStitchBarrier; repeat' first
    | intro _ | with_reducible assumption | with_reducible apply State.answerPacket_steady | with_reducible apply State.onPacket_steady
    | with_reducible apply State.arrive_steady | with_reducible apply State.useFree_steady

theorem execStitchMirrorWrite_steady {s0 s : State} (h : Steady s0 s) (link : Nat) (hdr : Bytes) (payload : Bytes) :
    Answers s0 (execStitchMirrorWrite link hdr payload s) := by
  unfold execStitchMirrorWrite; repeat' first
    | intro _ | with_reducible assumption | with_reducible apply State.answerPacket_steady | with_reducible apply State.onPacket_steady
    | with_reducible apply Answers.next | with_reducible apply Answers.ite | with_reducible apply Steady.ite
    | (fail_if_no_progress (with_reducible (refine Steady.of ?_ rfl rfl rfl rfl rfl rfl rfl rfl)))
    | with_reducible (refine Steady.snd (by assumption) ?_) | with_reducible (refine Steady.snd2 (by assumption) ?_)
    | with_reducible apply foldl_steady | split | dsimp only
    | (with_reducible refine Steady.ofMem ?_ rfl rfl rfl rfl rfl rfl ?_ ?_) <;> [skip; (intro hm; repeat' first | exact hm | apply wf_mwrite | apply wf_mzero | apply wf_filter | exact wf_nil); (intro hm; repeat' first | exact hm | apply wf_mwrite)]

theorem State.sink_steady {s0 s : State} (h : Steady s0 s) (l : Nat) (h : Bytes) (d : Bytes) :
    Steady s0 (s.sink l h d) := by
  unfold State.sink; repeat' first
    | intro _ | with_reducible assumption | with_reducible apply State.dropReq_steady | with_reducible apply State.setReq_steady
    | with_reducible apply State.finish_steady | with_reducible apply State.useFree_steady | with_reducible apply State.send_steady
    | with_reducible apply State.offerEnd_steady | with_reducible apply Steady.ite
    | (fail_if_no_progress (with_reducible (refine Steady.of ?_ rfl rfl rfl rfl rfl rfl rfl rfl)))
    | with_reducible (refine Steady.snd (by assumption) ?_) | with_reducible (refine Steady.snd2 (by assumption) ?_)
    | with_reducible apply foldl_steady | split | dsimp only

theorem execStitchCompletionData_steady {s0 s : State} (h : Steady s0 s) (link : Nat) (hdr : Bytes) (payload : Bytes) :
    Answers s0 (execStitchCompletionData link hdr payload s) := by
  unfold execStitchCompletionData; repeat' first
    | intro _ | with_reducible assumption | with_reducible apply State.onPacket_steady | with_reducible apply State.sink_steady

theorem execStitchCompletion_steady {s0 s : State} (h : Steady s0 s) (link : Nat) (hdr : Bytes) (payload : Bytes) :
    Answers s0 (execStitchCompletion link hdr payload s) := by
  unfold execStitchCompletion; repeat' first
    | intro _ | with_reducible assumption | with_reducible apply State.onPacket_steady | with_reducible apply State.sink_steady

theorem execStitchCreditReturn_steady {s0 s : State} (h : Steady s0 s) (link : Nat) (hdr : Bytes) (payload : Bytes) :
    Answers s0 (execStitchCreditReturn link hdr payload s) := by
  unfold execStitchCreditReturn; repeat' first
    | intro _ | with_reducible assumption | with_reducible apply State.onPacket_steady | with_reducible apply State.setStitch_steady
    | with_reducible apply State.sendWaiting_steady

theorem execStitchDiscard_steady {s0 s : State} (h : Steady s0 s) (link : Nat) (hdr : Bytes) (payload : Bytes) :
    Answers s0 (execStitchDiscard link hdr payload s) := by
  unfold execStitchDiscard; repeat' first
    | intro _ | with_reducible assumption | with_reducible apply stay_steady | with_reducible apply State.bumpFld_steady
    | with_reducible apply Answers.next | with_reducible apply Answers.ite

theorem execStitchLinkReinit_steady {s0 s : State} (h : Steady s0 s) (link : Nat) :
    Answers s0 (execStitchLinkReinit link s) := by
  unfold execStitchLinkReinit; repeat' first
    | intro _ | with_reducible assumption | with_reducible apply State.capChange_steady | with_reducible apply stay_steady
    | with_reducible apply State.bumpFld_steady | with_reducible apply State.setStitch_steady | with_reducible apply Answers.next
    | with_reducible apply Answers.ite

theorem execStitchLinkTrained_steady {s0 s : State} (h : Steady s0 s) (link : Nat) (lanes : Nat) :
    Answers s0 (execStitchLinkTrained link lanes s) := by
  unfold execStitchLinkTrained; repeat' first
    | intro _ | with_reducible assumption | with_reducible apply State.capChange_steady | with_reducible apply stay_steady
    | with_reducible apply State.setStitch_steady | with_reducible apply State.sendWaiting_steady | with_reducible apply Answers.next
    | with_reducible apply Answers.ite | with_reducible apply Steady.ite
    | (fail_if_no_progress (with_reducible (refine Steady.of ?_ rfl rfl rfl rfl rfl rfl rfl rfl)))

theorem State.useImage_steady {s0 s : State} (h : Steady s0 s) (b : Bytes) :
    Steady s0 (s.useImage b) := by
  unfold State.useImage; repeat' first
    | intro _ | with_reducible assumption | with_reducible apply Steady.ite
    | (fail_if_no_progress (with_reducible (refine Steady.of ?_ rfl rfl rfl rfl rfl rfl rfl rfl)))

theorem execAuxPowerOn_steady {s0 s : State} (h : Steady s0 s) (claspRecovery : Bool) :
    Answers s0 (execAuxPowerOn claspRecovery s) := by
  unfold execAuxPowerOn; repeat' first
    | intro _ | with_reducible assumption | with_reducible apply stay_steady | with_reducible apply Answers.next | with_reducible apply Answers.ite
    | with_reducible apply Steady.ite | (fail_if_no_progress (with_reducible (refine Steady.of ?_ rfl rfl rfl rfl rfl rfl rfl rfl)))

theorem execImageVerified_steady {s0 s : State} (h : Steady s0 s) :
    Answers s0 (execImageVerified s) := by
  unfold execImageVerified; repeat' first
    | intro _ | with_reducible assumption | with_reducible apply stay_steady | with_reducible apply State.useImage_steady
    | with_reducible apply Answers.next | with_reducible apply Answers.ite | with_reducible apply Steady.ite
    | (fail_if_no_progress (with_reducible (refine Steady.of ?_ rfl rfl rfl rfl rfl rfl rfl rfl)))
    | with_reducible (refine Steady.snd (by assumption) ?_) | with_reducible (refine Steady.snd2 (by assumption) ?_)
    | with_reducible apply foldl_steady | split

theorem execFlashWriteDone_steady {s0 s : State} (h : Steady s0 s) :
    Answers s0 (execFlashWriteDone s) := by
  unfold execFlashWriteDone; repeat' first
    | intro _ | with_reducible assumption | with_reducible apply stay_steady | with_reducible apply State.useImage_steady
    | with_reducible apply Answers.next | with_reducible apply Answers.ite | with_reducible apply Steady.ite
    | (fail_if_no_progress (with_reducible (refine Steady.of ?_ rfl rfl rfl rfl rfl rfl rfl rfl)))

theorem execHoursUpdate_steady {s0 s : State} (h : Steady s0 s) :
    Answers s0 (execHoursUpdate s) := by
  unfold execHoursUpdate; repeat' first
    | intro _ | with_reducible assumption | with_reducible apply stay_steady | with_reducible apply Answers.next | with_reducible apply Answers.ite
    | with_reducible apply Steady.ite | (fail_if_no_progress (with_reducible (refine Steady.of ?_ rfl rfl rfl rfl rfl rfl rfl rfl)))

theorem execDynamicAddressAssign_steady {s0 s : State} (h : Steady s0 s) (addr : Nat) :
    Answers s0 (execDynamicAddressAssign addr s) := by
  unfold execDynamicAddressAssign; repeat' first
    | intro _ | with_reducible assumption | with_reducible apply stay_steady | with_reducible apply Answers.next | with_reducible apply Answers.ite
    | with_reducible apply Steady.ite | (fail_if_no_progress (with_reducible (refine Steady.of ?_ rfl rfl rfl rfl rfl rfl rfl rfl)))

theorem State.rebuild_steady {s0 s : State} (h : Steady s0 s) (viaPower : Bool) :
    Steady s0 (s.rebuild viaPower) := by
  unfold State.rebuild; repeat' first
    | intro _ | with_reducible assumption | with_reducible apply Steady.ite
    | (fail_if_no_progress (with_reducible (refine Steady.of ?_ rfl rfl rfl rfl rfl rfl rfl rfl)))
    | with_reducible (refine Steady.snd (by assumption) ?_) | with_reducible (refine Steady.snd2 (by assumption) ?_)
    | with_reducible apply foldl_steady | split | dsimp only
    | (with_reducible refine Steady.ofMem ?_ rfl rfl rfl rfl rfl rfl ?_ ?_) <;> [skip; (intro hm; repeat' first | exact hm | apply wf_mwrite | apply wf_mzero | apply wf_filter | exact wf_nil); (intro hm; repeat' first | exact hm | apply wf_mwrite)]

theorem State.flushHost_steady {s0 s : State} (h : Steady s0 s) :
    Steady s0 (s.flushHost) := by
  unfold State.flushHost; repeat' first
    | intro _ | with_reducible assumption | with_reducible apply foldS_steady | with_reducible apply State.emit_steady
    | with_reducible apply Steady.ite | (fail_if_no_progress (with_reducible (refine Steady.of ?_ rfl rfl rfl rfl rfl rfl rfl rfl)))
    | with_reducible (refine Steady.snd (by assumption) ?_) | with_reducible (refine Steady.snd2 (by assumption) ?_)
    | with_reducible apply foldl_steady | split | dsimp only
    | (with_reducible refine Steady.ofMem ?_ rfl rfl rfl rfl rfl rfl ?_ ?_) <;> [skip; (intro hm; repeat' first | exact hm | apply wf_mwrite | apply wf_mzero | apply wf_filter | exact wf_nil); (intro hm; repeat' first | exact hm | apply wf_mwrite)]

theorem State.pkgReset_steady {s0 s : State} (h : Steady s0 s) (reason : Nat) (viaPower : Bool) :
    Steady s0 (s.pkgReset reason viaPower) := by
  unfold State.pkgReset; repeat' first
    | intro _ | with_reducible assumption | with_reducible apply State.flushHost_steady | with_reducible apply State.resetRec_steady
    | with_reducible apply State.rebuild_steady | with_reducible apply State.snapshot_steady | with_reducible apply State.useFree_steady
    | with_reducible apply State.emit_steady | with_reducible apply Steady.ite

theorem State.powerDown_steady {s0 s : State} (h : Steady s0 s) :
    Steady s0 (s.powerDown) := by
  unfold State.powerDown; repeat' first
    | intro _ | with_reducible assumption | with_reducible apply State.pkgReset_steady | with_reducible apply State.useFree_steady

theorem execBusUndervoltage_steady {s0 s : State} (h : Steady s0 s) (mv : Nat) :
    Answers s0 (execBusUndervoltage mv s) := by
  unfold execBusUndervoltage; repeat' first
    | intro _ | with_reducible assumption | with_reducible apply stay_steady | with_reducible apply State.powerDown_steady
    | with_reducible apply Answers.next | with_reducible apply Answers.ite | with_reducible apply Steady.ite
    | (fail_if_no_progress (with_reducible (refine Steady.of ?_ rfl rfl rfl rfl rfl rfl rfl rfl)))

theorem State.trip_steady {s0 s : State} (h : Steady s0 s) (cause : Nat) :
    Steady s0 (s.trip cause) := by
  unfold State.trip; repeat' first
    | intro _ | with_reducible assumption | with_reducible apply State.errLog_steady | with_reducible apply State.powerDown_steady
    | with_reducible apply State.powerCycle_steady | with_reducible apply Steady.ite
    | (fail_if_no_progress (with_reducible (refine Steady.of ?_ rfl rfl rfl rfl rfl rfl rfl rfl)))

theorem execPowerTrip_steady {s0 s : State} (h : Steady s0 s) (cause : Nat) :
    Answers s0 (execPowerTrip cause s) := by
  unfold execPowerTrip; repeat' first
    | intro _ | with_reducible assumption | with_reducible apply stay_steady | with_reducible apply State.trip_steady
    | with_reducible apply Answers.next | with_reducible apply Answers.ite

theorem Steady.thermtrip {s0 t : State} (g : Steady s0 t) : Answers s0 (.next { t with clasp := { t.clasp with thermtripN := false } }) :=
  Answers.next (Steady.upd g rfl rfl rfl rfl rfl rfl rfl rfl)

theorem execThermtrip_steady {s0 s : State} (h : Steady s0 s) (island temp : Nat) : Answers s0 (execThermtrip island temp s) := by
  unfold execThermtrip
  exact Answers.ite (Answers.next h) (Steady.thermtrip (State.trip_steady h 4))

theorem execAuxPowerLoss_steady {s0 s : State} (h : Steady s0 s) :
    Answers s0 (execAuxPowerLoss s) := by
  unfold execAuxPowerLoss; repeat' first
    | intro _ | with_reducible assumption | with_reducible apply stay_steady | with_reducible apply Answers.next | with_reducible apply Answers.ite
    | with_reducible apply Steady.ite | (fail_if_no_progress (with_reducible (refine Steady.of ?_ rfl rfl rfl rfl rfl rfl rfl rfl)))
    | with_reducible (refine Steady.snd (by assumption) ?_) | with_reducible (refine Steady.snd2 (by assumption) ?_)
    | with_reducible apply foldl_steady | split | dsimp only
    | (with_reducible refine Steady.ofMem ?_ rfl rfl rfl rfl rfl rfl ?_ ?_) <;> [skip; (intro hm; repeat' first | exact hm | apply wf_mwrite | apply wf_mzero | apply wf_filter | exact wf_nil); (intro hm; repeat' first | exact hm | apply wf_mwrite)]

theorem execPwrgoodAssert_steady {s0 s : State} (h : Steady s0 s) (busMv : Nat) :
    Answers s0 (execPwrgoodAssert busMv s) := by
  unfold execPwrgoodAssert; repeat' first
    | intro _ | with_reducible assumption | with_reducible apply stay_steady | with_reducible apply Answers.next | with_reducible apply Answers.ite
    | with_reducible apply Steady.ite | (fail_if_no_progress (with_reducible (refine Steady.of ?_ rfl rfl rfl rfl rfl rfl rfl rfl)))

theorem State.powerRegion_steady {s0 s : State} (h : Steady s0 s) (i : Nat) :
    Steady s0 (s.powerRegion i) := by
  unfold State.powerRegion; repeat' first
    | intro _ | with_reducible assumption | with_reducible apply State.sampleDue_steady | with_reducible apply State.setRegion_steady

theorem State.startFabric_steady {s0 s : State} (h : Steady s0 s) (d : Nat) :
    Steady s0 (s.startFabric d) := by
  unfold State.startFabric; repeat' first
    | intro _ | with_reducible assumption | with_reducible apply State.setFabric_steady | with_reducible apply State.sampleDue_steady

theorem execRailsUp_steady {s0 s : State} (h : Steady s0 s) :
    Answers s0 (execRailsUp s) := by
  unfold execRailsUp; repeat' first
    | intro _ | with_reducible assumption | with_reducible apply State.powerRegion_steady | with_reducible apply stay_steady
    | with_reducible apply State.startFabric_steady | with_reducible apply foldS_steady | with_reducible apply Answers.next
    | with_reducible apply Answers.ite | with_reducible apply Steady.ite
    | (fail_if_no_progress (with_reducible (refine Steady.of ?_ rfl rfl rfl rfl rfl rfl rfl rfl)))

theorem execHbmTrained_steady {s0 s : State} (h : Steady s0 s) :
    Answers s0 (execHbmTrained s) := by
  unfold execHbmTrained; repeat' first
    | intro _ | with_reducible assumption | with_reducible apply stay_steady | with_reducible apply Answers.next | with_reducible apply Answers.ite
    | with_reducible apply Steady.ite | (fail_if_no_progress (with_reducible (refine Steady.of ?_ rfl rfl rfl rfl rfl rfl rfl rfl)))

theorem execStitchWaitTimeout_steady {s0 s : State} (h : Steady s0 s) :
    Answers s0 (execStitchWaitTimeout s) := by
  unfold execStitchWaitTimeout; repeat' first
    | intro _ | with_reducible assumption | with_reducible apply stay_steady | with_reducible apply Answers.next | with_reducible apply Answers.ite
    | with_reducible apply Steady.ite | (fail_if_no_progress (with_reducible (refine Steady.of ?_ rfl rfl rfl rfl rfl rfl rfl rfl)))

theorem State.testDie_steady {s0 s : State} (h : Steady s0 s) (t : SelfTest) (d : Nat) :
    Steady s0 (s.testDie t d) := by
  unfold State.testDie; repeat' first
    | intro _ | with_reducible assumption | with_reducible apply State.setFabric_steady | with_reducible apply State.setRegion_steady
    | with_reducible apply foldS_steady | with_reducible apply Steady.ite

theorem State.testSlices_steady {s0 s : State} (h : Steady s0 s) (t : SelfTest) :
    Steady s0 (s.testSlices t) := by
  unfold State.testSlices; repeat' first
    | intro _ | with_reducible assumption | with_reducible apply State.setCoreSlice_steady | with_reducible apply State.setLinkSlice_steady
    | with_reducible apply State.setMemSlice_steady | with_reducible apply foldS_steady | with_reducible apply Steady.ite

theorem State.makeFolio0_steady {s0 s : State} (h : Steady s0 s) (t : SelfTest) :
    Steady s0 (s.makeFolio0 t) := by
  unfold State.makeFolio0; repeat' first
    | intro _ | with_reducible assumption | with_reducible apply State.wipeSlice_steady | with_reducible apply State.setCoreSlice_steady
    | with_reducible apply State.setMemSlice_steady | with_reducible apply State.setFolio_steady | with_reducible apply State.setCtx_steady
    | with_reducible apply State.setFrames_steady | with_reducible apply Steady.ite
    | (fail_if_no_progress (with_reducible (refine Steady.of ?_ rfl rfl rfl rfl rfl rfl rfl rfl)))
    | with_reducible (refine Steady.snd (by assumption) ?_) | with_reducible (refine Steady.snd2 (by assumption) ?_)
    | with_reducible apply foldl_steady | split

theorem State.commitFuse_steady {s0 s : State} (h : Steady s0 s) : Steady s0 s.commitFuse := by
  unfold State.commitFuse
  split
  · rename_i hc
    exact h.trans ⟨rfl, ⟨rfl, rfl, rfl, Nat.le_of_lt hc.2⟩, fun m => m, List.prefix_rfl⟩
  · exact h

theorem State.startService_steady {s0 s : State} (h : Steady s0 s) (t : SelfTest) :
    Steady s0 (s.startService t) := by
  unfold State.startService; repeat' first
    | intro _ | with_reducible assumption | with_reducible apply State.capChange_steady | with_reducible apply State.makeFolio0_steady
    | with_reducible apply State.testDie_steady | with_reducible apply foldS_steady | with_reducible apply State.testSlices_steady
    | with_reducible apply State.commitFuse_steady | with_reducible apply Steady.ite
    | (fail_if_no_progress (with_reducible (refine Steady.of ?_ rfl rfl rfl rfl rfl rfl rfl rfl)))

theorem execSelfTestComplete_steady {s0 s : State} (h : Steady s0 s) (failDies : List Nat) (failCore : List Nat) (failMem : List Nat) (hubOk : Bool) :
    Answers s0 (execSelfTestComplete failDies failCore failMem hubOk s) := by
  unfold execSelfTestComplete; repeat' first
    | intro _ | with_reducible assumption | with_reducible apply stay_steady | with_reducible apply State.startService_steady
    | with_reducible apply Answers.next | with_reducible apply Answers.ite | with_reducible apply Steady.ite
    | (fail_if_no_progress (with_reducible (refine Steady.of ?_ rfl rfl rfl rfl rfl rfl rfl rfl)))

theorem State.loseOne_steady {s0 s : State} (h : Steady s0 s) (n : Nat) :
    Steady s0 (s.loseOne n) := by
  unfold State.loseOne; repeat' first
    | intro _ | with_reducible assumption | with_reducible apply State.putSet_steady | with_reducible apply State.codedLoss_steady
    | with_reducible apply State.mirrorLoss_steady | with_reducible apply State.loseMember_steady | with_reducible apply Steady.ite
    | (fail_if_no_progress (with_reducible (refine Steady.of ?_ rfl rfl rfl rfl rfl rfl rfl rfl)))
    | with_reducible (refine Steady.snd (by assumption) ?_) | with_reducible (refine Steady.snd2 (by assumption) ?_)
    | with_reducible apply foldl_steady | split

theorem State.loseTraffic_steady {s0 s : State} (h : Steady s0 s) (d : Nat) (lost : List Nat) (lostOffers : List Nat) :
    Steady s0 (s.loseTraffic d lost lostOffers) := by
  unfold State.loseTraffic; repeat' first
    | intro _ | with_reducible assumption | with_reducible apply State.dropReq_steady | with_reducible apply State.siftFail_steady
    | with_reducible apply State.finish_steady | with_reducible apply State.siftLeave_steady | with_reducible apply foldS_steady
    | with_reducible apply State.offerEnd_steady | with_reducible apply Steady.ite
    | (fail_if_no_progress (with_reducible (refine Steady.of ?_ rfl rfl rfl rfl rfl rfl rfl rfl)))
    | with_reducible (refine Steady.snd (by assumption) ?_) | with_reducible (refine Steady.snd2 (by assumption) ?_)
    | with_reducible apply foldl_steady | split

theorem State.loseEngines_steady {s0 s : State} (h : Steady s0 s) (d : Nat) :
    Steady s0 (s.loseEngines d) := by
  unfold State.loseEngines; repeat' first
    | intro _ | with_reducible assumption | with_reducible apply State.dropWatch_steady | with_reducible apply State.cmdDone_steady
    | with_reducible apply State.chanStop_steady | with_reducible apply State.setStitch_steady | with_reducible apply foldS_steady
    | with_reducible apply Steady.ite | (fail_if_no_progress (with_reducible (refine Steady.of ?_ rfl rfl rfl rfl rfl rfl rfl rfl)))
    | with_reducible (refine Steady.snd (by assumption) ?_) | with_reducible (refine Steady.snd2 (by assumption) ?_)
    | with_reducible apply foldl_steady | split | dsimp only

theorem State.endMoves_steady {s0 s : State} (h : Steady s0 s) (kind : Nat) (n : Nat) :
    Steady s0 (s.endMoves kind n) := by
  unfold State.endMoves; repeat' first
    | intro _ | with_reducible assumption | with_reducible apply State.abandonFor_steady | with_reducible apply State.endFor_steady
    | with_reducible apply Steady.ite

theorem State.quarantineDie_steady {s0 s : State} (h : Steady s0 s) (d : Nat) :
    Steady s0 (s.quarantineDie d) := by
  unfold State.quarantineDie; repeat' first
    | intro _ | with_reducible assumption | with_reducible apply State.endMoves_steady | with_reducible apply State.loseHome_steady
    | with_reducible apply State.setSliceE_steady | with_reducible apply State.setHome_steady | with_reducible apply foldS_steady
    | with_reducible apply Steady.ite

theorem State.gateDie_steady {s0 s : State} (h : Steady s0 s) (d : Nat) :
    Steady s0 (s.gateDie d) := by
  unfold State.gateDie; repeat' first
    | intro _ | with_reducible assumption | with_reducible apply State.setFabric_steady | with_reducible apply State.setRegion_steady
    | with_reducible apply foldS_steady | with_reducible apply Steady.ite
    | (fail_if_no_progress (with_reducible (refine Steady.of ?_ rfl rfl rfl rfl rfl rfl rfl rfl)))

theorem State.folio0Left_steady {s0 s : State} (h : Steady s0 s) :
    Steady s0 (s.folio0Left) := by
  unfold State.folio0Left; repeat' first
    | intro _ | with_reducible assumption | with_reducible apply State.pkgReset_steady | with_reducible apply State.useFree_steady
    | with_reducible apply Steady.ite

theorem execSecondLoss_steady {s0 s : State} (h : Steady s0 s) (slice : Nat) :
    Answers s0 (execSecondLoss slice s) := by
  unfold execSecondLoss; repeat' first
    | intro _ | with_reducible assumption | with_reducible apply State.putSet_steady | with_reducible apply stay_steady
    | with_reducible apply State.folio0Left_steady | with_reducible apply State.loseMember_steady | with_reducible apply State.resetForLoss_steady
    | with_reducible apply State.setMemSlice_steady | with_reducible apply State.endSifts_steady | with_reducible apply foldS_steady
    | with_reducible apply Answers.next | with_reducible apply Answers.ite | with_reducible apply Steady.ite
    | (fail_if_no_progress (with_reducible (refine Steady.of ?_ rfl rfl rfl rfl rfl rfl rfl rfl)))
    | with_reducible (refine Steady.snd (by assumption) ?_) | with_reducible (refine Steady.snd2 (by assumption) ?_)
    | with_reducible apply foldl_steady | split

theorem State.recallLost_steady {s0 s : State} (h : Steady s0 s) (d : Nat) (h : Nat) (line : Nat) :
    Steady s0 (s.recallLost d h line) := by
  unfold State.recallLost; repeat' first
    | intro _ | with_reducible assumption | with_reducible apply State.recallLine_steady | with_reducible apply foldS_steady
    | with_reducible apply State.dirRemove_steady | with_reducible apply Steady.ite

theorem State.loseCaches_steady {s0 s : State} (h : Steady s0 s) (d : Nat) :
    Steady s0 (s.loseCaches d) := by
  unfold State.loseCaches; repeat' first
    | intro _ | with_reducible assumption | with_reducible apply State.setCache_steady | with_reducible apply State.answerFor_steady
    | with_reducible apply foldS_steady | with_reducible apply State.recallLost_steady

theorem State.dieFail_steady {s0 s : State} (h : Steady s0 s) (d : Nat) (code : Nat) :
    Steady s0 (s.dieFail d code) := by
  unfold State.dieFail; repeat' first
    | intro _ | with_reducible assumption | with_reducible apply State.capChange_steady | with_reducible apply State.loseCaches_steady
    | with_reducible apply State.gateDie_steady | with_reducible apply State.loseTraffic_steady | with_reducible apply State.folio0Left_steady
    | with_reducible apply State.hwError_steady | with_reducible apply State.resetForLoss_steady | with_reducible apply foldS_steady
    | with_reducible apply State.quarantineDie_steady | with_reducible apply State.loseOne_steady | with_reducible apply State.loseEngines_steady
    | with_reducible apply State.destroyCheck_steady | with_reducible apply State.repin_steady | with_reducible apply Steady.ite
    | (fail_if_no_progress (with_reducible (refine Steady.of ?_ rfl rfl rfl rfl rfl rfl rfl rfl)))

theorem execDieFailure_steady {s0 s : State} (h : Steady s0 s) (die : Nat) (cause : Nat) :
    Answers s0 (execDieFailure die cause s) := by
  unfold execDieFailure; repeat' first
    | intro _ | with_reducible assumption | with_reducible apply State.dieFail_steady | with_reducible apply Answers.next

theorem execRailResetTrip_steady {s0 s : State} (h : Steady s0 s) (supply : Nat) :
    Answers s0 (execRailResetTrip supply s) := by
  unfold execRailResetTrip; repeat' first
    | intro _ | with_reducible assumption | with_reducible apply stay_steady | with_reducible apply State.dieFail_steady
    | with_reducible apply State.useFree_steady | with_reducible apply Answers.next | with_reducible apply Answers.ite

theorem execUncorrectableUnitError_steady {s0 s : State} (h : Steady s0 s) (unit : Nat) (code : Nat) (loc : Nat) (addr : Nat) (fatal : Bool) :
    Answers s0 (execUncorrectableUnitError unit code loc addr fatal s) := by
  unfold execUncorrectableUnitError; repeat' first
    | intro _ | with_reducible assumption | with_reducible apply stay_steady | with_reducible apply State.dieFail_steady
    | with_reducible apply State.hwError_steady | with_reducible apply Answers.next | with_reducible apply Answers.ite
    | with_reducible apply Steady.ite | (fail_if_no_progress (with_reducible (refine Steady.of ?_ rfl rfl rfl rfl rfl rfl rfl rfl)))
    | with_reducible (refine Steady.snd (by assumption) ?_) | with_reducible (refine Steady.snd2 (by assumption) ?_)
    | with_reducible apply foldl_steady | split

theorem execEngineReset_steady {s0 s : State} (h : Steady s0 s) (queue : Nat) :
    Answers s0 (execEngineReset queue s) := by
  unfold execEngineReset; repeat' first
    | intro _ | with_reducible assumption | with_reducible apply State.resetUnit_steady | with_reducible apply State.resetCore_steady
    | with_reducible apply State.cmdDone_steady | with_reducible apply State.runCmd_steady | with_reducible apply State.resetCopy_steady
    | with_reducible apply Answers.next | with_reducible apply Answers.ite | with_reducible apply Steady.ite
    | (fail_if_no_progress (with_reducible (refine Steady.of ?_ rfl rfl rfl rfl rfl rfl rfl rfl)))
    | with_reducible (refine Steady.snd (by assumption) ?_) | with_reducible (refine Steady.snd2 (by assumption) ?_)
    | with_reducible apply foldl_steady | split | dsimp only

theorem execFolioReset_steady {s0 s : State} (h : Steady s0 s) (queue : Nat) :
    Answers s0 (execFolioReset queue s) := by
  unfold execFolioReset; repeat' first
    | intro _ | with_reducible assumption | with_reducible apply State.cmdDone_steady | with_reducible apply State.startFolioReset_steady
    | with_reducible apply State.setPhase_steady | with_reducible apply State.runCmd_steady | with_reducible apply Answers.next
    | with_reducible apply Answers.ite | with_reducible apply Steady.ite
    | (fail_if_no_progress (with_reducible (refine Steady.of ?_ rfl rfl rfl rfl rfl rfl rfl rfl)))
    | with_reducible (refine Steady.snd (by assumption) ?_) | with_reducible (refine Steady.snd2 (by assumption) ?_)
    | with_reducible apply foldl_steady | split

theorem execFolioResetDrainExpiry_steady {s0 s : State} (h : Steady s0 s) (folio : Nat) :
    Answers s0 (execFolioResetDrainExpiry folio s) := by
  unfold execFolioResetDrainExpiry; repeat' first
    | intro _ | with_reducible assumption | with_reducible apply stay_steady | with_reducible apply State.loseFolio_steady
    | with_reducible apply State.folioReset_steady | with_reducible apply State.endFor_steady | with_reducible apply State.emit_steady
    | with_reducible apply Answers.next | with_reducible apply Answers.ite | with_reducible apply Steady.ite
    | (fail_if_no_progress (with_reducible (refine Steady.of ?_ rfl rfl rfl rfl rfl rfl rfl rfl)))
    | with_reducible (refine Steady.snd (by assumption) ?_) | with_reducible (refine Steady.snd2 (by assumption) ?_)
    | with_reducible apply foldl_steady | split

theorem execPkgReset_steady {s0 s : State} (h : Steady s0 s) (queue : Nat) :
    Answers s0 (execPkgReset queue s) := by
  unfold execPkgReset; repeat' first
    | intro _ | with_reducible assumption | with_reducible apply State.pkgReset_steady | with_reducible apply State.runCmd_steady

theorem execWatchdogAct_steady {s0 s : State} (h : Steady s0 s) (ctx : Nat) :
    Answers s0 (execWatchdogAct ctx s) := by
  unfold execWatchdogAct; repeat' first
    | intro _ | with_reducible assumption | with_reducible apply stay_steady | with_reducible apply State.ctxReset_steady
    | with_reducible apply State.watchdogRec_steady | with_reducible apply Answers.next | with_reducible apply Answers.ite
    | with_reducible apply Steady.ite | (fail_if_no_progress (with_reducible (refine Steady.of ?_ rfl rfl rfl rfl rfl rfl rfl rfl)))
    | with_reducible (refine Steady.snd (by assumption) ?_) | with_reducible (refine Steady.snd2 (by assumption) ?_)
    | with_reducible apply foldl_steady | split

theorem execWatchdogCmdwait_steady {s0 s : State} (h : Steady s0 s) (queue : Nat) :
    Answers s0 (execWatchdogCmdwait queue s) := by
  unfold execWatchdogCmdwait; repeat' first
    | intro _ | with_reducible assumption | with_reducible apply State.setQueue_steady | with_reducible apply stay_steady
    | with_reducible apply State.watchdogRec_steady | with_reducible apply Answers.next | with_reducible apply Answers.ite
    | with_reducible apply Steady.ite | (fail_if_no_progress (with_reducible (refine Steady.of ?_ rfl rfl rfl rfl rfl rfl rfl rfl)))
    | with_reducible (refine Steady.snd (by assumption) ?_) | with_reducible (refine Steady.snd2 (by assumption) ?_)
    | with_reducible apply foldl_steady | split

theorem execWatchdogCore_steady {s0 s : State} (h : Steady s0 s) (core : Nat) :
    Answers s0 (execWatchdogCore core s) := by
  unfold execWatchdogCore; repeat' first
    | intro _ | with_reducible assumption | with_reducible apply State.resetCore_steady | with_reducible apply stay_steady
    | with_reducible apply State.watchdogRec_steady | with_reducible apply Answers.next | with_reducible apply Answers.ite

theorem execWatchdogReq_steady {s0 s : State} (h : Steady s0 s) (req : Nat) :
    Answers s0 (execWatchdogReq req s) := by
  unfold execWatchdogReq; repeat' first
    | intro _ | with_reducible assumption | with_reducible apply State.dropReq_steady | with_reducible apply State.siftFail_steady
    | with_reducible apply stay_steady | with_reducible apply State.finish_steady | with_reducible apply State.hwError_steady
    | with_reducible apply State.watchdogRec_steady | with_reducible apply State.useFree_steady | with_reducible apply State.offerEnd_steady
    | with_reducible apply Answers.next | with_reducible apply Answers.ite | with_reducible apply Steady.ite
    | (fail_if_no_progress (with_reducible (refine Steady.of ?_ rfl rfl rfl rfl rfl rfl rfl rfl)))
    | with_reducible (refine Steady.snd (by assumption) ?_) | with_reducible (refine Steady.snd2 (by assumption) ?_)
    | with_reducible apply foldl_steady | split

theorem execWatchdogMgmt_steady {s0 s : State} (h : Steady s0 s) :
    Answers s0 (execWatchdogMgmt s) := by
  unfold execWatchdogMgmt; repeat' first
    | intro _ | with_reducible assumption | with_reducible apply stay_steady | with_reducible apply State.pkgReset_steady
    | with_reducible apply State.watchdogRec_steady | with_reducible apply Answers.next | with_reducible apply Answers.ite

theorem execWatchdogClasp_steady {s0 s : State} (h : Steady s0 s) :
    Answers s0 (execWatchdogClasp s) := by
  unfold execWatchdogClasp; repeat' first
    | intro _ | with_reducible assumption | with_reducible apply stay_steady | with_reducible apply State.watchdogRec_steady
    | with_reducible apply State.powerCycle_steady | with_reducible apply Answers.next | with_reducible apply Answers.ite

theorem State.escalate_steady {s0 s : State} (h : Steady s0 s) (step : Nat) (target : Nat) :
    Steady s0 (s.escalate step target) := by
  unfold State.escalate; repeat' first
    | intro _ | with_reducible assumption | with_reducible apply State.resetCore_steady | with_reducible apply State.pkgReset_steady
    | with_reducible apply State.startFolioReset_steady | with_reducible apply State.powerCycle_steady | with_reducible apply foldS_steady
    | with_reducible apply Steady.ite

theorem execWatchdogStep_steady {s0 s : State} (h : Steady s0 s) (step : Nat) (target : Nat) :
    Answers s0 (execWatchdogStep step target s) := by
  unfold execWatchdogStep; repeat' first
    | intro _ | with_reducible assumption | with_reducible apply stay_steady | with_reducible apply State.escalate_steady
    | with_reducible apply State.watchdogRec_steady | with_reducible apply State.useFree_steady | with_reducible apply Answers.next
    | with_reducible apply Answers.ite

theorem execBooksCheck_steady {s0 s : State} (h : Steady s0 s) :
    Answers s0 (execBooksCheck s) := by
  unfold execBooksCheck; repeat' first
    | intro _ | with_reducible assumption | with_reducible apply stay_steady | with_reducible apply State.hwError_steady
    | with_reducible apply Answers.next | with_reducible apply Answers.ite | with_reducible apply Steady.ite
    | (fail_if_no_progress (with_reducible (refine Steady.of ?_ rfl rfl rfl rfl rfl rfl rfl rfl)))

theorem State.emptyCaches_steady {s0 s : State} (h : Steady s0 s) :
    Steady s0 (s.emptyCaches) := by
  unfold State.emptyCaches; repeat' first
    | intro _ | with_reducible assumption | with_reducible apply State.cleanLine_steady | with_reducible apply State.takeBack_steady
    | with_reducible apply foldS_steady | with_reducible apply Steady.ite
    | (fail_if_no_progress (with_reducible (refine Steady.of ?_ rfl rfl rfl rfl rfl rfl rfl rfl)))

theorem State.allOff_steady {s0 s : State} (h : Steady s0 s) :
    Steady s0 (s.allOff) := by
  unfold State.allOff; repeat' first
    | intro _ | with_reducible assumption | with_reducible apply Steady.ite
    | (fail_if_no_progress (with_reducible (refine Steady.of ?_ rfl rfl rfl rfl rfl rfl rfl rfl)))

theorem execPkgStandby_steady {s0 s : State} (h : Steady s0 s) (queue : Nat) :
    Answers s0 (execPkgStandby queue s) := by
  unfold execPkgStandby; repeat' first
    | intro _ | with_reducible assumption | with_reducible apply State.allOff_steady | with_reducible apply State.emptyCaches_steady
    | with_reducible apply State.cmdDone_steady | with_reducible apply State.runCmd_steady | with_reducible apply Answers.next
    | with_reducible apply Answers.ite | with_reducible apply Steady.ite
    | (fail_if_no_progress (with_reducible (refine Steady.of ?_ rfl rfl rfl rfl rfl rfl rfl rfl)))

theorem State.regionUp_steady {s0 s : State} (h : Steady s0 s) (i : Nat) :
    Steady s0 (s.regionUp i) := by
  unfold State.regionUp; repeat' first
    | intro _ | with_reducible assumption | with_reducible apply State.setTarget_steady | with_reducible apply State.sampleDue_steady
    | with_reducible apply State.setRegion_steady

theorem State.regionBack_steady {s0 s : State} (h : Steady s0 s) (i : Nat) :
    Steady s0 (s.regionBack i) := by
  unfold State.regionBack; repeat' first
    | intro _ | with_reducible assumption | with_reducible apply State.regionUp_steady | with_reducible apply Steady.ite

theorem execStandbyExit_steady {s0 s : State} (h : Steady s0 s) :
    Answers s0 (execStandbyExit s) := by
  unfold execStandbyExit; repeat' first
    | intro _ | with_reducible assumption | with_reducible apply stay_steady | with_reducible apply State.startFabric_steady
    | with_reducible apply State.voidSweep_steady | with_reducible apply State.regionBack_steady | with_reducible apply foldS_steady
    | with_reducible apply Answers.next | with_reducible apply Answers.ite | with_reducible apply Steady.ite
    | (fail_if_no_progress (with_reducible (refine Steady.of ?_ rfl rfl rfl rfl rfl rfl rfl rfl)))
    | with_reducible (refine Steady.snd (by assumption) ?_) | with_reducible (refine Steady.snd2 (by assumption) ?_)
    | with_reducible apply foldl_steady | split

theorem execCyclicLoad_steady {s0 s : State} (h : Steady s0 s) (queue : Nat) :
    Answers s0 (execCyclicLoad queue s) := by
  unfold execCyclicLoad; repeat' first
    | intro _ | with_reducible assumption | with_reducible apply State.cmdDone_steady | with_reducible apply State.withBlock_steady
    | with_reducible apply State.runCmd_steady | with_reducible apply Answers.next | with_reducible apply Answers.ite
    | with_reducible apply Steady.ite | (fail_if_no_progress (with_reducible (refine Steady.of ?_ rfl rfl rfl rfl rfl rfl rfl rfl)))
    | with_reducible (refine Steady.snd (by assumption) ?_) | with_reducible (refine Steady.snd2 (by assumption) ?_)
    | with_reducible apply foldl_steady | split

theorem execCyclicEnter_steady {s0 s : State} (h : Steady s0 s) (queue : Nat) :
    Answers s0 (execCyclicEnter queue s) := by
  unfold execCyclicEnter; repeat' first
    | intro _ | with_reducible assumption | with_reducible apply State.setPhase_steady | with_reducible apply State.runCmd_steady
    | with_reducible apply Answers.next | with_reducible apply Answers.ite | with_reducible apply Steady.ite
    | (fail_if_no_progress (with_reducible (refine Steady.of ?_ rfl rfl rfl rfl rfl rfl rfl rfl)))

theorem execCyclicExit_steady {s0 s : State} (h : Steady s0 s) (queue : Nat) :
    Answers s0 (execCyclicExit queue s) := by
  unfold execCyclicExit; repeat' first
    | intro _ | with_reducible assumption | with_reducible apply State.setPhase_steady | with_reducible apply State.runCmd_steady
    | with_reducible apply Answers.next | with_reducible apply Answers.ite | with_reducible apply Steady.ite
    | (fail_if_no_progress (with_reducible (refine Steady.of ?_ rfl rfl rfl rfl rfl rfl rfl rfl)))

theorem State.majorFrame_steady {s0 s : State} (h : Steady s0 s) :
    Steady s0 (s.majorFrame) := by
  unfold State.majorFrame; repeat' first
    | intro _ | with_reducible assumption | with_reducible apply State.endFor_steady | with_reducible apply Steady.ite
    | (fail_if_no_progress (with_reducible (refine Steady.of ?_ rfl rfl rfl rfl rfl rfl rfl rfl)))

theorem State.minorFrame_steady {s0 s : State} (h : Steady s0 s) :
    Steady s0 (s.minorFrame) := by
  unfold State.minorFrame; repeat' first
    | intro _ | with_reducible assumption | with_reducible apply State.bumpFld_steady | with_reducible apply Steady.ite
    | (fail_if_no_progress (with_reducible (refine Steady.of ?_ rfl rfl rfl rfl rfl rfl rfl rfl)))

theorem execMinorFrameBoundary_steady {s0 s : State} (h : Steady s0 s) :
    Answers s0 (execMinorFrameBoundary s) := by
  unfold execMinorFrameBoundary; repeat' first
    | intro _ | with_reducible assumption | with_reducible apply stay_steady | with_reducible apply State.minorFrame_steady
    | with_reducible apply State.majorFrame_steady | with_reducible apply Answers.next | with_reducible apply Answers.ite
    | with_reducible apply Steady.ite | (fail_if_no_progress (with_reducible (refine Steady.of ?_ rfl rfl rfl rfl rfl rfl rfl rfl)))

theorem State.coreSliceFails_steady {s0 s : State} (h : Steady s0 s) (n : Nat) :
    Steady s0 (s.coreSliceFails n) := by
  unfold State.coreSliceFails; repeat' first
    | intro _ | with_reducible assumption | with_reducible apply State.capChange_steady | with_reducible apply State.loseCache_steady
    | with_reducible apply State.setCoreSlice_steady | with_reducible apply State.ctxResetFree_steady | with_reducible apply State.folio0Left_steady
    | with_reducible apply State.evictCtx_steady | with_reducible apply foldS_steady | with_reducible apply State.repin_steady

theorem State.testFails_steady {s0 s : State} (h : Steady s0 s) (test : Nat) (unit : Nat) (code : Nat) :
    Steady s0 (s.testFails test unit code) := by
  unfold State.testFails; repeat' first
    | intro _ | with_reducible assumption | with_reducible apply State.capChange_steady | with_reducible apply State.dieFail_steady
    | with_reducible apply State.hwError_steady | with_reducible apply State.coreSliceFails_steady | with_reducible apply State.setLinkSlice_steady
    | with_reducible apply State.setMemSlice_steady | with_reducible apply Steady.ite

theorem State.testMarks_steady {s0 s : State} (h : Steady s0 s) (test : Nat) :
    Steady s0 (s.testMarks test) := by
  unfold State.testMarks; repeat' first
    | intro _ | with_reducible assumption | with_reducible apply State.loseCache_steady | with_reducible apply State.startScrub_steady
    | with_reducible apply State.setCore_steady | with_reducible apply foldS_steady | with_reducible apply Steady.ite

theorem State.selfTestEntry_steady {s0 s : State} (h : Steady s0 s) (e : CycEntry) (pass : Bool) (code : Nat) (unit : Nat) :
    Steady s0 (s.selfTestEntry e pass code unit) := by
  unfold State.selfTestEntry; repeat' first
    | intro _ | with_reducible assumption | with_reducible apply State.testFails_steady | with_reducible apply State.testMarks_steady
    | with_reducible apply State.hubWrite_steady | with_reducible apply State.useFree_steady | with_reducible apply Steady.ite

theorem State.setEntry_steady {s0 s : State} (h : Steady s0 s) (i : Nat) (e : CycEntry) :
    Steady s0 (s.setEntry i e) := by
  unfold State.setEntry; repeat' first
    | intro _ | with_reducible assumption | with_reducible apply Steady.ite
    | (fail_if_no_progress (with_reducible (refine Steady.of ?_ rfl rfl rfl rfl rfl rfl rfl rfl)))

theorem State.launchEntry_steady {s0 s : State} (h : Steady s0 s) (i : Nat) (e : CycEntry) :
    Steady s0 (s.launchEntry i e) := by
  unfold State.launchEntry; repeat' first
    | intro _ | with_reducible assumption | with_reducible apply State.setEntry_steady | with_reducible apply State.activate_steady
    | with_reducible apply State.makeWay_steady | with_reducible apply Steady.ite
    | (fail_if_no_progress (with_reducible (refine Steady.of ?_ rfl rfl rfl rfl rfl rfl rfl rfl)))
    | with_reducible (refine Steady.snd (by assumption) ?_) | with_reducible (refine Steady.snd2 (by assumption) ?_)
    | with_reducible apply foldl_steady | split

theorem State.signalEntry_steady {s0 s : State} (h : Steady s0 s) (e : CycEntry) :
    Steady s0 (s.signalEntry e) := by
  unfold State.signalEntry; repeat' first
    | intro _ | with_reducible assumption | with_reducible apply State.postOffer_steady

theorem execCyclicEntryStart_steady {s0 s : State} (h : Steady s0 s) (entry : Nat) (pass : Bool) (code : Nat) (unit : Nat) :
    Answers s0 (execCyclicEntryStart entry pass code unit s) := by
  unfold execCyclicEntryStart; repeat' first
    | intro _ | with_reducible assumption | with_reducible apply State.setEntry_steady | with_reducible apply stay_steady
    | with_reducible apply State.selfTestEntry_steady | with_reducible apply State.signalEntry_steady | with_reducible apply State.launchEntry_steady
    | with_reducible apply Answers.next | with_reducible apply Answers.ite | with_reducible apply Steady.ite
    | (fail_if_no_progress (with_reducible (refine Steady.of ?_ rfl rfl rfl rfl rfl rfl rfl rfl)))
    | with_reducible (refine Steady.snd (by assumption) ?_) | with_reducible (refine Steady.snd2 (by assumption) ?_)
    | with_reducible apply foldl_steady | split

theorem execCyclicOverrun_steady {s0 s : State} (h : Steady s0 s) (entry : Nat) :
    Answers s0 (execCyclicOverrun entry s) := by
  unfold execCyclicOverrun; repeat' first
    | intro _ | with_reducible assumption | with_reducible apply State.entryEnded_steady | with_reducible apply stay_steady
    | with_reducible apply State.bumpFld_steady | with_reducible apply State.ctxResetFree_steady | with_reducible apply State.ringPut_steady
    | with_reducible apply Answers.next | with_reducible apply Answers.ite | with_reducible apply Steady.ite
    | (fail_if_no_progress (with_reducible (refine Steady.of ?_ rfl rfl rfl rfl rfl rfl rfl rfl)))
    | with_reducible (refine Steady.snd (by assumption) ?_) | with_reducible (refine Steady.snd2 (by assumption) ?_)
    | with_reducible apply foldl_steady | split

theorem State.dropHostReqs_steady {s0 s : State} (h : Steady s0 s) :
    Steady s0 (s.dropHostReqs) := by
  unfold State.dropHostReqs; repeat' first
    | intro _ | with_reducible assumption | with_reducible apply State.finish_steady | with_reducible apply foldS_steady

theorem State.atsSettle_steady {s0 s : State} (h : Steady s0 s) :
    Steady s0 (s.atsSettle) := by
  unfold State.atsSettle; repeat' first
    | intro _ | with_reducible assumption | with_reducible apply State.bumpFld_steady | with_reducible apply foldS_steady
    | with_reducible apply State.emit_steady | with_reducible apply Steady.ite
    | (fail_if_no_progress (with_reducible (refine Steady.of ?_ rfl rfl rfl rfl rfl rfl rfl rfl)))

theorem State.linkDown_steady {s0 s : State} (h : Steady s0 s) :
    Steady s0 (s.linkDown) := by
  unfold State.linkDown; repeat' first
    | intro _ | with_reducible assumption | with_reducible apply State.capChange_steady | with_reducible apply State.dropHostReqs_steady
    | with_reducible apply State.atsSettle_steady | with_reducible apply Steady.ite
    | (fail_if_no_progress (with_reducible (refine Steady.of ?_ rfl rfl rfl rfl rfl rfl rfl rfl)))

theorem execLinkTraining_steady {s0 s : State} (h : Steady s0 s) (width : Nat) (speed : Nat) (cxl : Bool) :
    Answers s0 (execLinkTraining width speed cxl s) := by
  unfold execLinkTraining; repeat' first
    | intro _ | with_reducible assumption | with_reducible apply State.capChange_steady | with_reducible apply stay_steady
    | with_reducible apply State.emit_steady | with_reducible apply Answers.next | with_reducible apply Answers.ite | with_reducible apply Steady.ite
    | (fail_if_no_progress (with_reducible (refine Steady.of ?_ rfl rfl rfl rfl rfl rfl rfl rfl)))

theorem execHostLinkDown_steady {s0 s : State} (h : Steady s0 s) :
    Answers s0 (execHostLinkDown s) := by
  unfold execHostLinkDown; repeat' first
    | intro _ | with_reducible assumption | with_reducible apply State.linkDown_steady | with_reducible apply stay_steady
    | with_reducible apply Answers.next | with_reducible apply Answers.ite

theorem execPerstNAssert_steady {s0 s : State} (h : Steady s0 s) :
    Answers s0 (execPerstNAssert s) := by
  unfold execPerstNAssert; repeat' first
    | intro _ | with_reducible assumption | with_reducible apply State.linkDown_steady | with_reducible apply Answers.next
    | with_reducible apply Answers.ite | with_reducible apply Steady.ite
    | (fail_if_no_progress (with_reducible (refine Steady.of ?_ rfl rfl rfl rfl rfl rfl rfl rfl)))

theorem execPerstNDeassert_steady {s0 s : State} (h : Steady s0 s) :
    Answers s0 (execPerstNDeassert s) := by
  unfold execPerstNDeassert; repeat' first
    | intro _ | with_reducible assumption | with_reducible apply Answers.next | with_reducible apply Answers.ite | with_reducible apply Steady.ite
    | (fail_if_no_progress (with_reducible (refine Steady.of ?_ rfl rfl rfl rfl rfl rfl rfl rfl)))

theorem State.fromHost_steady {s0 s : State} (h : Steady s0 s) (line : Nat) (d : Bytes) :
    Steady s0 (s.fromHost line d) := by
  unfold State.fromHost; repeat' first
    | intro _ | with_reducible assumption | with_reducible apply Steady.ite
    | (fail_if_no_progress (with_reducible (refine Steady.of ?_ rfl rfl rfl rfl rfl rfl rfl rfl)))
    | with_reducible (refine Steady.snd (by assumption) ?_) | with_reducible (refine Steady.snd2 (by assumption) ?_)
    | with_reducible apply foldl_steady | split | dsimp only
    | (with_reducible refine Steady.ofMem ?_ rfl rfl rfl rfl rfl rfl ?_ ?_) <;> [skip; (intro hm; repeat' first | exact hm | apply wf_mwrite | apply wf_mzero | apply wf_filter | exact wf_nil); (intro hm; repeat' first | exact hm | apply wf_mwrite)]

theorem State.hostAnswer_steady {s0 s : State} (h : Steady s0 s) (id : Nat) (q : Req) (d : Bytes) :
    Steady s0 (s.hostAnswer id q d) := by
  unfold State.hostAnswer; repeat' first
    | intro _ | with_reducible assumption | with_reducible apply State.evictHostLine_steady | with_reducible apply State.putDone_steady
    | with_reducible apply State.setReq_steady | with_reducible apply State.fillHostLine_steady | with_reducible apply State.fromHost_steady
    | with_reducible apply State.wakeRange_steady | with_reducible apply State.finish_steady | with_reducible apply foldS_steady
    | with_reducible apply Steady.ite | (fail_if_no_progress (with_reducible (refine Steady.of ?_ rfl rfl rfl rfl rfl rfl rfl rfl)))
    | with_reducible (refine Steady.snd (by assumption) ?_) | with_reducible (refine Steady.snd2 (by assumption) ?_)
    | with_reducible apply foldl_steady | split | dsimp only
    | (with_reducible refine Steady.ofMem ?_ rfl rfl rfl rfl rfl rfl ?_ ?_) <;> [skip; (intro hm; repeat' first | exact hm | apply wf_mwrite | apply wf_mzero | apply wf_filter | exact wf_nil); (intro hm; repeat' first | exact hm | apply wf_mwrite)]

theorem execCxlCacheCompletion_steady {s0 s : State} (h : Steady s0 s) (req : Nat) (err : Bool) (data : Bytes) :
    Answers s0 (execCxlCacheCompletion req err data s) := by
  unfold execCxlCacheCompletion; repeat' first
    | intro _ | with_reducible assumption | with_reducible apply stay_steady | with_reducible apply State.setReq_steady
    | with_reducible apply State.finish_steady | with_reducible apply State.hostAnswer_steady | with_reducible apply State.atsSettle_steady
    | with_reducible apply Answers.next | with_reducible apply Answers.ite | with_reducible apply Steady.ite
    | (fail_if_no_progress (with_reducible (refine Steady.of ?_ rfl rfl rfl rfl rfl rfl rfl rfl)))
    | with_reducible (refine Steady.snd (by assumption) ?_) | with_reducible (refine Steady.snd2 (by assumption) ?_)
    | with_reducible apply foldl_steady | split

theorem execHostTimeout_steady {s0 s : State} (h : Steady s0 s) (req : Nat) :
    Answers s0 (execHostTimeout req s) := by
  unfold execHostTimeout; repeat' first
    | intro _ | with_reducible assumption | with_reducible apply stay_steady | with_reducible apply State.finish_steady
    | with_reducible apply State.ringPut_steady | with_reducible apply State.atsSettle_steady | with_reducible apply Answers.next
    | with_reducible apply Answers.ite | with_reducible apply Steady.ite
    | (fail_if_no_progress (with_reducible (refine Steady.of ?_ rfl rfl rfl rfl rfl rfl rfl rfl)))
    | with_reducible (refine Steady.snd (by assumption) ?_) | with_reducible (refine Steady.snd2 (by assumption) ?_)
    | with_reducible apply foldl_steady | split

theorem State.snoopAnswer_steady {s0 s : State} (h : Steady s0 s) (line : Nat) :
    Steady s0 (s.snoopAnswer line) := by
  unfold State.snoopAnswer; repeat' first
    | intro _ | with_reducible assumption | with_reducible apply State.emit_steady

theorem State.snoop_steady {s0 s : State} (h : Steady s0 s) (addr : Nat) (go : State → Nat → State) (h_go : ∀ st y1, Steady s0 st → Steady s0 (go st y1)) :
    Answers s0 (s.snoop addr go) := by
  unfold State.snoop; repeat' first
    | intro _ | with_reducible assumption | with_reducible apply stay_steady | with_reducible apply Answers.next | with_reducible apply Answers.ite
    | apply h_go

theorem State.giveHost_steady {s0 s : State} (h : Steady s0 s) (line : Nat) :
    Steady s0 (s.giveHost line) := by
  unfold State.giveHost; repeat' first
    | intro _ | with_reducible assumption | with_reducible apply Steady.ite
    | (fail_if_no_progress (with_reducible (refine Steady.of ?_ rfl rfl rfl rfl rfl rfl rfl rfl)))
    | with_reducible (refine Steady.snd (by assumption) ?_) | with_reducible (refine Steady.snd2 (by assumption) ?_)
    | with_reducible apply foldl_steady | split | dsimp only
    | (with_reducible refine Steady.ofMem ?_ rfl rfl rfl rfl rfl rfl ?_ ?_) <;> [skip; (intro hm; repeat' first | exact hm | apply wf_mwrite | apply wf_mzero | apply wf_filter | exact wf_nil); (intro hm; repeat' first | exact hm | apply wf_mwrite)]

theorem execSnpData_steady {s0 s : State} (h : Steady s0 s) (addr : Nat) :
    Answers s0 (execSnpData addr s) := by
  unfold execSnpData; repeat' first
    | intro _ | with_reducible assumption | with_reducible apply State.giveHost_steady | with_reducible apply State.snoop_steady
    | with_reducible apply State.dirPut_steady | with_reducible apply State.snoopAnswer_steady | with_reducible apply Answers.next
    | with_reducible apply Answers.ite | with_reducible apply Steady.ite
    | (fail_if_no_progress (with_reducible (refine Steady.of ?_ rfl rfl rfl rfl rfl rfl rfl rfl)))
    | with_reducible (refine Steady.snd (by assumption) ?_) | with_reducible (refine Steady.snd2 (by assumption) ?_)
    | with_reducible apply foldl_steady | split | dsimp only

theorem execSnpInv_steady {s0 s : State} (h : Steady s0 s) (addr : Nat) :
    Answers s0 (execSnpInv addr s) := by
  unfold execSnpInv; repeat' first
    | intro _ | with_reducible assumption | with_reducible apply State.giveHost_steady | with_reducible apply State.snoop_steady
    | with_reducible apply State.snoopAnswer_steady | with_reducible apply State.dropLine_steady

theorem execSnpCur_steady {s0 s : State} (h : Steady s0 s) (addr : Nat) :
    Answers s0 (execSnpCur addr s) := by
  unfold execSnpCur; repeat' first
    | intro _ | with_reducible assumption | with_reducible apply State.snoop_steady | with_reducible apply State.snoopAnswer_steady

theorem execHostFenceWordSnoop_steady {s0 s : State} (h : Steady s0 s) (addr : Nat) (value : Word) :
    Answers s0 (execHostFenceWordSnoop addr value s) := by
  unfold execHostFenceWordSnoop; repeat' first
    | intro _ | with_reducible assumption | with_reducible apply State.giveHost_steady | with_reducible apply State.watchLine_steady
    | with_reducible apply stay_steady | with_reducible apply State.wake_steady | with_reducible apply State.dropLine_steady
    | with_reducible apply Answers.next | with_reducible apply Answers.ite | with_reducible apply Steady.ite
    | (fail_if_no_progress (with_reducible (refine Steady.of ?_ rfl rfl rfl rfl rfl rfl rfl rfl)))
    | with_reducible (refine Steady.snd (by assumption) ?_) | with_reducible (refine Steady.snd2 (by assumption) ?_)
    | with_reducible apply foldl_steady | split | dsimp only
    | (with_reducible refine Steady.ofMem ?_ rfl rfl rfl rfl rfl rfl ?_ ?_) <;> [skip; (intro hm; repeat' first | exact hm | apply wf_mwrite | apply wf_mzero | apply wf_filter | exact wf_nil); (intro hm; repeat' first | exact hm | apply wf_mwrite)]

theorem execAtsInvalidation_steady {s0 s : State} (h : Steady s0 s) (fn : Nat) (addr : Nat) (len : Nat) :
    Answers s0 (execAtsInvalidation fn addr len s) := by
  unfold execAtsInvalidation; repeat' first
    | intro _ | with_reducible assumption | with_reducible apply stay_steady | with_reducible apply State.atsSettle_steady
    | with_reducible apply Answers.next | with_reducible apply Answers.ite | with_reducible apply Steady.ite
    | (fail_if_no_progress (with_reducible (refine Steady.of ?_ rfl rfl rfl rfl rfl rfl rfl rfl)))

theorem execHdmDecoderCommit_steady {s0 s : State} (h : Steady s0 s) (base : Nat) :
    Answers s0 (execHdmDecoderCommit base s) := by
  unfold execHdmDecoderCommit; repeat' first
    | intro _ | with_reducible assumption | with_reducible apply stay_steady | with_reducible apply Answers.next | with_reducible apply Answers.ite
    | with_reducible apply Steady.ite | (fail_if_no_progress (with_reducible (refine Steady.of ?_ rfl rfl rfl rfl rfl rfl rfl rfl)))

theorem State.hostRefused_steady {s0 s : State} (h : Steady s0 s) (pa : Nat) (reason : Nat) (write : Bool) :
    Steady s0 (s.hostRefused pa reason write) := by
  unfold State.hostRefused; repeat' first
    | intro _ | with_reducible assumption | with_reducible apply State.ringPut_steady | with_reducible apply Steady.ite
    | (fail_if_no_progress (with_reducible (refine Steady.of ?_ rfl rfl rfl rfl rfl rfl rfl rfl)))

theorem execCxlMemRead_steady {s0 s : State} (h : Steady s0 s) (hpa : Nat) :
    Answers s0 (execCxlMemRead hpa s) := by
  unfold execCxlMemRead; repeat' first
    | intro _ | with_reducible assumption | with_reducible apply stay_steady | with_reducible apply State.hostRefused_steady
    | with_reducible apply State.integFail_steady | with_reducible apply State.useFree_steady | with_reducible apply State.emit_steady
    | with_reducible apply Answers.next | with_reducible apply Answers.ite | with_reducible apply Steady.ite
    | (fail_if_no_progress (with_reducible (refine Steady.of ?_ rfl rfl rfl rfl rfl rfl rfl rfl)))
    | with_reducible (refine Steady.snd (by assumption) ?_) | with_reducible (refine Steady.snd2 (by assumption) ?_)
    | with_reducible apply foldl_steady | split

theorem execCxlMemWrite_steady {s0 s : State} (h : Steady s0 s) (hpa : Nat) (off : Nat) (data : Bytes) :
    Answers s0 (execCxlMemWrite hpa off data s) := by
  unfold execCxlMemWrite; repeat' first
    | intro _ | with_reducible assumption | with_reducible apply stay_steady | with_reducible apply State.wake_steady
    | with_reducible apply State.putLine_steady | with_reducible apply State.hostRefused_steady | with_reducible apply Answers.next
    | with_reducible apply Answers.ite | with_reducible apply Steady.ite
    | (fail_if_no_progress (with_reducible (refine Steady.of ?_ rfl rfl rfl rfl rfl rfl rfl rfl)))
    | with_reducible (refine Steady.snd (by assumption) ?_) | with_reducible (refine Steady.snd2 (by assumption) ?_)
    | with_reducible apply foldl_steady | split

theorem execMsixUnmask_steady {s0 s : State} (h : Steady s0 s) (fn : Nat) (vector : Nat) :
    Answers s0 (execMsixUnmask fn vector s) := by
  unfold execMsixUnmask; repeat' first
    | intro _ | with_reducible assumption | with_reducible apply stay_steady | with_reducible apply State.emit_steady
    | with_reducible apply Answers.next | with_reducible apply Answers.ite | with_reducible apply Steady.ite
    | (fail_if_no_progress (with_reducible (refine Steady.of ?_ rfl rfl rfl rfl rfl rfl rfl rfl)))

theorem execVfFlr_steady {s0 s : State} (h : Steady s0 s) (fn : Nat) :
    Answers s0 (execVfFlr fn s) := by
  unfold execVfFlr; repeat' first
    | intro _ | with_reducible assumption | with_reducible apply stay_steady | with_reducible apply State.startFolioReset_steady
    | with_reducible apply State.emit_steady | with_reducible apply Answers.next | with_reducible apply Answers.ite

theorem execPfFlr_steady {s0 s : State} (h : Steady s0 s) :
    Answers s0 (execPfFlr s) := by
  unfold execPfFlr; repeat' first
    | intro _ | with_reducible assumption | with_reducible apply stay_steady | with_reducible apply State.pkgReset_steady
    | with_reducible apply Answers.next | with_reducible apply Answers.ite

theorem State.doe_steady {s0 s : State} (h : Steady s0 s) (go : State → State) (h_go : ∀ st, Steady s0 st → Steady s0 (go st)) :
    Answers s0 (s.doe go) := by
  unfold State.doe; repeat' first
    | intro _ | with_reducible assumption | with_reducible apply stay_steady | with_reducible apply Answers.next | with_reducible apply Answers.ite
    | apply h_go

theorem execDoeDiscovery_steady {s0 s : State} (h : Steady s0 s) (index : Nat) :
    Answers s0 (execDoeDiscovery index s) := by
  unfold execDoeDiscovery; repeat' first
    | intro _ | with_reducible assumption | with_reducible apply State.doe_steady | with_reducible apply State.emit_steady
    | with_reducible apply Answers.next | with_reducible apply Answers.ite | with_reducible apply Steady.ite
    | (fail_if_no_progress (with_reducible (refine Steady.of ?_ rfl rfl rfl rfl rfl rfl rfl rfl)))
    | with_reducible (refine Steady.snd (by assumption) ?_) | with_reducible (refine Steady.snd2 (by assumption) ?_)
    | with_reducible apply foldl_steady | split

theorem execCdatAccess_steady {s0 s : State} (h : Steady s0 s) (handle : Nat) :
    Answers s0 (execCdatAccess handle s) := by
  unfold execCdatAccess; repeat' first
    | intro _ | with_reducible assumption | with_reducible apply State.doe_steady | with_reducible apply State.emit_steady

theorem State.spdmFree_steady {s0 s : State} (h : Steady s0 s) :
    Steady s0 (s.spdmFree) := by
  unfold State.spdmFree; repeat' first
    | intro _ | with_reducible assumption | with_reducible apply State.useFree_steady | with_reducible apply State.emit_steady

theorem execGetVersion_steady {s0 s : State} (h : Steady s0 s) (req : Bytes) :
    Answers s0 (execGetVersion req s) := by
  unfold execGetVersion; repeat' first
    | intro _ | with_reducible assumption | with_reducible apply State.spdmFree_steady | with_reducible apply State.doe_steady

theorem execGetCapabilities_steady {s0 s : State} (h : Steady s0 s) (req : Bytes) :
    Answers s0 (execGetCapabilities req s) := by
  unfold execGetCapabilities; repeat' first
    | intro _ | with_reducible assumption | with_reducible apply State.spdmFree_steady | with_reducible apply State.doe_steady

theorem execNegotiateAlgorithms_steady {s0 s : State} (h : Steady s0 s) (req : Bytes) :
    Answers s0 (execNegotiateAlgorithms req s) := by
  unfold execNegotiateAlgorithms; repeat' first
    | intro _ | with_reducible assumption | with_reducible apply State.spdmFree_steady | with_reducible apply State.doe_steady

theorem execGetDigests_steady {s0 s : State} (h : Steady s0 s) (req : Bytes) :
    Answers s0 (execGetDigests req s) := by
  unfold execGetDigests; repeat' first
    | intro _ | with_reducible assumption | with_reducible apply State.doe_steady | with_reducible apply State.emit_steady

theorem execGetCertificate_steady {s0 s : State} (h : Steady s0 s) (req : Bytes) :
    Answers s0 (execGetCertificate req s) := by
  unfold execGetCertificate; repeat' first
    | intro _ | with_reducible assumption | with_reducible apply State.doe_steady | with_reducible apply State.emit_steady

theorem execChallenge_steady {s0 s : State} (h : Steady s0 s) (req : Bytes) :
    Answers s0 (execChallenge req s) := by
  unfold execChallenge; repeat' first
    | intro _ | with_reducible assumption | with_reducible apply State.doe_steady | with_reducible apply State.emit_steady

theorem execGetMeasurements_steady {s0 s : State} (h : Steady s0 s) (req : Bytes) :
    Answers s0 (execGetMeasurements req s) := by
  unfold execGetMeasurements; repeat' first
    | intro _ | with_reducible assumption | with_reducible apply State.doe_steady | with_reducible apply State.emit_steady

theorem execSpdmUnsupported_steady {s0 s : State} (h : Steady s0 s) (req : Bytes) :
    Answers s0 (execSpdmUnsupported req s) := by
  unfold execSpdmUnsupported; repeat' first
    | intro _ | with_reducible assumption | with_reducible apply State.doe_steady | with_reducible apply State.emit_steady

theorem execConfKeys_steady {s0 s : State} (h : Steady s0 s) (queue : Nat) :
    Answers s0 (execConfKeys queue s) := by
  unfold execConfKeys; repeat' first
    | intro _ | with_reducible assumption | with_reducible apply State.hubRead_steady | with_reducible apply State.cmdDone_steady
    | with_reducible apply State.setFolio_steady | with_reducible apply State.runCmd_steady | with_reducible apply Answers.next
    | with_reducible apply Answers.ite | with_reducible apply Steady.ite
    | (fail_if_no_progress (with_reducible (refine Steady.of ?_ rfl rfl rfl rfl rfl rfl rfl rfl)))
    | with_reducible (refine Steady.snd (by assumption) ?_) | with_reducible (refine Steady.snd2 (by assumption) ?_)
    | with_reducible apply foldl_steady | split | dsimp only

theorem execKeyRotate_steady {s0 s : State} (h : Steady s0 s) (queue : Nat) :
    Answers s0 (execKeyRotate queue s) := by
  unfold execKeyRotate; repeat' first
    | intro _ | with_reducible assumption | with_reducible apply State.cmdDone_steady | with_reducible apply State.setPhase_steady
    | with_reducible apply State.useFree_steady | with_reducible apply State.setMemSlice_steady | with_reducible apply foldS_steady
    | with_reducible apply State.setFolio_steady | with_reducible apply State.runCmd_steady | with_reducible apply Answers.next
    | with_reducible apply Answers.ite | with_reducible apply Steady.ite
    | (fail_if_no_progress (with_reducible (refine Steady.of ?_ rfl rfl rfl rfl rfl rfl rfl rfl)))
    | with_reducible (refine Steady.snd (by assumption) ?_) | with_reducible (refine Steady.snd2 (by assumption) ?_)
    | with_reducible apply foldl_steady | split | dsimp only

theorem State.rotateTo_steady {s0 s : State} (h : Steady s0 s) (m : Nat) (o : Nat) :
    Steady s0 (s.rotateTo m o) := by
  unfold State.rotateTo; repeat' first
    | intro _ | with_reducible assumption | with_reducible apply State.setFrame_steady | with_reducible apply State.setMemSlice_steady
    | with_reducible apply foldS_steady

theorem State.retag_steady {s0 s : State} (h : Steady s0 s) (m : Nat) (o : Nat) (bad : Bool) :
    Steady s0 (s.retag m o bad) := by
  unfold State.retag; repeat' first
    | intro _ | with_reducible assumption | with_reducible apply Steady.ite
    | (fail_if_no_progress (with_reducible (refine Steady.of ?_ rfl rfl rfl rfl rfl rfl rfl rfl)))

theorem State.rotateUnits_steady {s0 s : State} (h : Steady s0 s) (m : Nat) (o : Nat) :
    Steady s0 (s.rotateUnits m o) := by
  unfold State.rotateUnits; repeat' first
    | intro _ | with_reducible assumption | with_reducible apply State.retag_steady | with_reducible apply State.rotateTo_steady
    | with_reducible apply State.integFail_steady | with_reducible apply foldS_steady

theorem State.rotation_steady {s0 s : State} (h : Steady s0 s) :
    Steady s0 (s.rotation) := by
  unfold State.rotation; repeat' first
    | intro _ | with_reducible assumption | with_reducible apply State.rotateUnits_steady | with_reducible apply foldS_steady
    | with_reducible apply Steady.ite | (fail_if_no_progress (with_reducible (refine Steady.of ?_ rfl rfl rfl rfl rfl rfl rfl rfl)))
    | with_reducible (refine Steady.snd (by assumption) ?_) | with_reducible (refine Steady.snd2 (by assumption) ?_)
    | with_reducible apply foldl_steady | split

theorem execKeyRotateDone_steady {s0 s : State} (h : Steady s0 s) (folio : Nat) :
    Answers s0 (execKeyRotateDone folio s) := by
  unfold execKeyRotateDone; repeat' first
    | intro _ | with_reducible assumption | with_reducible apply stay_steady | with_reducible apply State.cmdDone_steady
    | with_reducible apply State.rotateUnits_steady | with_reducible apply State.setMemSlice_steady | with_reducible apply foldS_steady
    | with_reducible apply State.setFolio_steady | with_reducible apply Answers.next | with_reducible apply Answers.ite
    | with_reducible apply Steady.ite | (fail_if_no_progress (with_reducible (refine Steady.of ?_ rfl rfl rfl rfl rfl rfl rfl rfl)))
    | with_reducible (refine Steady.snd (by assumption) ?_) | with_reducible (refine Steady.snd2 (by assumption) ?_)
    | with_reducible apply foldl_steady | split | dsimp only

theorem execAttest_steady {s0 s : State} (h : Steady s0 s) (queue : Nat) :
    Answers s0 (execAttest queue s) := by
  unfold execAttest; repeat' first
    | intro _ | with_reducible assumption | with_reducible apply State.hubRead_steady | with_reducible apply State.cmdDone_steady
    | with_reducible apply State.hubWrite_steady | with_reducible apply State.runCmd_steady | with_reducible apply Answers.next
    | with_reducible apply Answers.ite | with_reducible apply Steady.ite
    | (fail_if_no_progress (with_reducible (refine Steady.of ?_ rfl rfl rfl rfl rfl rfl rfl rfl)))
    | with_reducible (refine Steady.snd (by assumption) ?_) | with_reducible (refine Steady.snd2 (by assumption) ?_)
    | with_reducible apply foldl_steady | split | dsimp only

theorem execUrgencyLevelChange_steady {s0 s : State} (h : Steady s0 s) (master : Nat) (fill : Nat) :
    Answers s0 (execUrgencyLevelChange master fill s) := by
  unfold execUrgencyLevelChange; repeat' first
    | intro _ | with_reducible assumption | with_reducible apply stay_steady | with_reducible apply Answers.next | with_reducible apply Answers.ite
    | with_reducible apply Steady.ite | (fail_if_no_progress (with_reducible (refine Steady.of ?_ rfl rfl rfl rfl rfl rfl rfl rfl)))

theorem execUrgencyHeld_steady {s0 s : State} (h : Steady s0 s) (master : Nat) (arbKind : Nat) (arbIndex : Nat) (oldest : Nat) :
    Answers s0 (execUrgencyHeld master arbKind arbIndex oldest s) := by
  unfold execUrgencyHeld; repeat' first
    | intro _ | with_reducible assumption | with_reducible apply stay_steady | with_reducible apply State.ringPut_steady
    | with_reducible apply Answers.next | with_reducible apply Answers.ite | with_reducible apply Steady.ite
    | (fail_if_no_progress (with_reducible (refine Steady.of ?_ rfl rfl rfl rfl rfl rfl rfl rfl)))
    | with_reducible (refine Steady.snd (by assumption) ?_) | with_reducible (refine Steady.snd2 (by assumption) ?_)
    | with_reducible apply foldl_steady | split

theorem execFabQosWtWrite_steady {s0 s : State} (h : Steady s0 s) (die : Nat) (w : BitVec 32) :
    Answers s0 (execFabQosWtWrite die w s) := by
  unfold execFabQosWtWrite; repeat' first
    | intro _ | with_reducible assumption | with_reducible apply stay_steady | with_reducible apply State.writeFld_steady
    | with_reducible apply Answers.next | with_reducible apply Answers.ite

theorem State.setLane_steady {s0 s : State} (h : Steady s0 s) (l : Nat) (v : Lane3) :
    Steady s0 (s.setLane l v) := by
  unfold State.setLane; repeat' first
    | intro _ | with_reducible assumption | with_reducible apply Steady.ite
    | (fail_if_no_progress (with_reducible (refine Steady.of ?_ rfl rfl rfl rfl rfl rfl rfl rfl)))

theorem State.laneReinit_steady {s0 s : State} (h : Steady s0 s) (l : Nat) :
    Steady s0 (s.laneReinit l) := by
  unfold State.laneReinit; repeat' first
    | intro _ | with_reducible assumption | with_reducible apply State.setLane_steady | with_reducible apply State.bumpFld_steady

theorem execSpineReplay_steady {s0 s : State} (h : Steady s0 s) (die : Nat) (lane : Nat) :
    Answers s0 (execSpineReplay die lane s) := by
  unfold execSpineReplay; repeat' first
    | intro _ | with_reducible assumption | with_reducible apply State.setLane_steady | with_reducible apply stay_steady
    | with_reducible apply State.bumpFld_steady | with_reducible apply State.laneReinit_steady | with_reducible apply Answers.next
    | with_reducible apply Answers.ite | with_reducible apply Steady.ite

theorem execSpineLaneReinit_steady {s0 s : State} (h : Steady s0 s) (lane : Nat) :
    Answers s0 (execSpineLaneReinit lane s) := by
  unfold execSpineLaneReinit; repeat' first
    | intro _ | with_reducible assumption | with_reducible apply stay_steady | with_reducible apply State.laneReinit_steady
    | with_reducible apply Answers.next | with_reducible apply Answers.ite

theorem execSpineReinitDone_steady {s0 s : State} (h : Steady s0 s) (lane : Nat) (ok : Bool) :
    Answers s0 (execSpineReinitDone lane ok s) := by
  unfold execSpineReinitDone; repeat' first
    | intro _ | with_reducible assumption | with_reducible apply State.setLane_steady | with_reducible apply stay_steady
    | with_reducible apply State.dieFail_steady | with_reducible apply State.useFree_steady | with_reducible apply Answers.next
    | with_reducible apply Answers.ite | with_reducible apply Steady.ite
    | (fail_if_no_progress (with_reducible (refine Steady.of ?_ rfl rfl rfl rfl rfl rfl rfl rfl)))

theorem State.fabricCycle_steady {s0 s : State} (h : Steady s0 s) :
    Steady s0 (s.fabricCycle) := by
  unfold State.fabricCycle; repeat' first
    | intro _ | with_reducible assumption | with_reducible apply State.setReq_steady | with_reducible apply foldS_steady
    | with_reducible apply Steady.ite | (fail_if_no_progress (with_reducible (refine Steady.of ?_ rfl rfl rfl rfl rfl rfl rfl rfl)))
    | with_reducible (refine Steady.snd (by assumption) ?_) | with_reducible (refine Steady.snd2 (by assumption) ?_)
    | with_reducible apply foldl_steady | split

theorem State.postSample_steady {s0 s : State} (h : Steady s0 s) (reason : Nat) (cause : Nat) :
    Steady s0 (s.postSample reason cause) := by
  unfold State.postSample; repeat' first
    | intro _ | with_reducible assumption | with_reducible apply State.hostWrite_steady | with_reducible apply State.useFree_steady
    | with_reducible apply foldS_steady | with_reducible apply Steady.ite
    | (fail_if_no_progress (with_reducible (refine Steady.of ?_ rfl rfl rfl rfl rfl rfl rfl rfl)))

theorem execCorrEventSample_steady {s0 s : State} (h : Steady s0 s) (island : Nat) :
    Answers s0 (execCorrEventSample island s) := by
  unfold execCorrEventSample; repeat' first
    | intro _ | with_reducible assumption | with_reducible apply stay_steady | with_reducible apply State.postSample_steady
    | with_reducible apply Answers.next | with_reducible apply Answers.ite | with_reducible apply Steady.ite
    | (fail_if_no_progress (with_reducible (refine Steady.of ?_ rfl rfl rfl rfl rfl rfl rfl rfl)))
    | with_reducible (refine Steady.snd (by assumption) ?_) | with_reducible (refine Steady.snd2 (by assumption) ?_)
    | with_reducible apply foldl_steady | split

theorem execCorrPeriodicSample_steady {s0 s : State} (h : Steady s0 s) :
    Answers s0 (execCorrPeriodicSample s) := by
  unfold execCorrPeriodicSample; repeat' first
    | intro _ | with_reducible assumption | with_reducible apply stay_steady | with_reducible apply State.postSample_steady
    | with_reducible apply Answers.next | with_reducible apply Answers.ite | with_reducible apply Steady.ite
    | (fail_if_no_progress (with_reducible (refine Steady.of ?_ rfl rfl rfl rfl rfl rfl rfl rfl)))

theorem execCorrReq_steady {s0 s : State} (h : Steady s0 s) :
    Answers s0 (execCorrReq s) := by
  unfold execCorrReq; repeat' first
    | intro _ | with_reducible assumption | with_reducible apply stay_steady | with_reducible apply State.postSample_steady
    | with_reducible apply Answers.next | with_reducible apply Answers.ite

theorem State.corrWrite_steady {s0 s : State} (h : Steady s0 s) (v : Nat) :
    Steady s0 (s.corrWrite v) := by
  unfold State.corrWrite; repeat' first
    | intro _ | with_reducible assumption | with_reducible apply State.setFld_steady | with_reducible apply State.postSample_steady
    | with_reducible apply State.writeFld_steady | with_reducible apply Steady.ite
    | (fail_if_no_progress (with_reducible (refine Steady.of ?_ rfl rfl rfl rfl rfl rfl rfl rfl)))

theorem execCorrPeriodRestart_steady {s0 s : State} (h : Steady s0 s) (w : Word) :
    Answers s0 (execCorrPeriodRestart w s) := by
  unfold execCorrPeriodRestart; repeat' first
    | intro _ | with_reducible assumption | with_reducible apply stay_steady | with_reducible apply State.corrWrite_steady
    | with_reducible apply Answers.next | with_reducible apply Answers.ite

theorem execForerunnerRefresh_steady {s0 s : State} (h : Steady s0 s) :
    Answers s0 (execForerunnerRefresh s) := by
  unfold execForerunnerRefresh; repeat' first
    | intro _ | with_reducible assumption | with_reducible apply stay_steady | with_reducible apply State.useFree_steady
    | with_reducible apply Answers.next | with_reducible apply Answers.ite | with_reducible apply Steady.ite
    | (fail_if_no_progress (with_reducible (refine Steady.of ?_ rfl rfl rfl rfl rfl rfl rfl rfl)))

theorem execCfgSweepStart_steady {s0 s : State} (h : Steady s0 s) :
    Answers s0 (execCfgSweepStart s) := by
  unfold execCfgSweepStart; repeat' first
    | intro _ | with_reducible assumption | with_reducible apply stay_steady | with_reducible apply State.setFld_steady
    | with_reducible apply Answers.next | with_reducible apply Answers.ite | with_reducible apply Steady.ite
    | (fail_if_no_progress (with_reducible (refine Steady.of ?_ rfl rfl rfl rfl rfl rfl rfl rfl)))

theorem State.cfgDiffers_steady {s0 s : State} (h : Steady s0 s) (crc : Nat) :
    Steady s0 (s.cfgDiffers crc) := by
  unfold State.cfgDiffers; repeat' first
    | intro _ | with_reducible assumption | with_reducible apply State.bumpFld_steady | with_reducible apply State.setFld_steady
    | with_reducible apply State.hwError_steady | with_reducible apply Steady.ite
    | (fail_if_no_progress (with_reducible (refine Steady.of ?_ rfl rfl rfl rfl rfl rfl rfl rfl)))

theorem execCfgSweepEnd_steady {s0 s : State} (h : Steady s0 s) :
    Answers s0 (execCfgSweepEnd s) := by
  unfold execCfgSweepEnd; repeat' first
    | intro _ | with_reducible assumption | with_reducible apply stay_steady | with_reducible apply State.setFld_steady
    | with_reducible apply State.cfgDiffers_steady | with_reducible apply Answers.next | with_reducible apply Answers.ite
    | with_reducible apply Steady.ite | (fail_if_no_progress (with_reducible (refine Steady.of ?_ rfl rfl rfl rfl rfl rfl rfl rfl)))

theorem State.cfgCommit_steady {s0 s : State} (h : Steady s0 s) :
    Steady s0 (s.cfgCommit) := by
  unfold State.cfgCommit; repeat' first
    | intro _ | with_reducible assumption | with_reducible apply Steady.ite
    | (fail_if_no_progress (with_reducible (refine Steady.of ?_ rfl rfl rfl rfl rfl rfl rfl rfl)))

theorem State.cfgCapture_steady {s0 s : State} (h : Steady s0 s) :
    Steady s0 (s.cfgCapture) := by
  unfold State.cfgCapture; repeat' first
    | intro _ | with_reducible assumption | with_reducible apply Steady.ite
    | (fail_if_no_progress (with_reducible (refine Steady.of ?_ rfl rfl rfl rfl rfl rfl rfl rfl)))

theorem execCfgchkCommit_steady {s0 s : State} (h : Steady s0 s) :
    Answers s0 (execCfgchkCommit s) := by
  unfold execCfgchkCommit; repeat' first
    | intro _ | with_reducible assumption | with_reducible apply stay_steady | with_reducible apply State.cfgCommit_steady
    | with_reducible apply Answers.next | with_reducible apply Answers.ite

theorem execCfgchkCapture_steady {s0 s : State} (h : Steady s0 s) :
    Answers s0 (execCfgchkCapture s) := by
  unfold execCfgchkCapture; repeat' first
    | intro _ | with_reducible assumption | with_reducible apply State.cfgCapture_steady | with_reducible apply stay_steady
    | with_reducible apply Answers.next | with_reducible apply Answers.ite

theorem execCfgchkEn_steady {s0 s : State} (h : Steady s0 s) (v : Bool) :
    Answers s0 (execCfgchkEn v s) := by
  unfold execCfgchkEn; repeat' first
    | intro _ | with_reducible assumption | with_reducible apply stay_steady | with_reducible apply State.setFld_steady
    | with_reducible apply Answers.next | with_reducible apply Answers.ite

theorem execHomClrOwn_steady {s0 s : State} (h : Steady s0 s) (home : Nat) :
    Answers s0 (execHomClrOwn home s) := by
  unfold execHomClrOwn; repeat' first
    | intro _ | with_reducible assumption | with_reducible apply State.setReg_steady | with_reducible apply stay_steady
    | with_reducible apply foldS_steady | with_reducible apply Answers.next | with_reducible apply Answers.ite

theorem execHomClrOth_steady {s0 s : State} (h : Steady s0 s) (home : Nat) :
    Answers s0 (execHomClrOth home s) := by
  unfold execHomClrOth; repeat' first
    | intro _ | with_reducible assumption | with_reducible apply State.setReg_steady | with_reducible apply stay_steady
    | with_reducible apply foldS_steady | with_reducible apply Answers.next | with_reducible apply Answers.ite

theorem execRgnPwrOff_steady {s0 s : State} (h : Steady s0 s) (off : BitVec 16) :
    Answers s0 (execRgnPwrOff off s) := by
  unfold execRgnPwrOff; repeat' first
    | intro _ | with_reducible assumption | with_reducible apply stay_steady | with_reducible apply State.writeFld_steady
    | with_reducible apply Answers.next | with_reducible apply Answers.ite

theorem State.offCache_steady {s0 s : State} (h : Steady s0 s) (n : Nat) :
    Steady s0 (s.offCache n) := by
  unfold State.offCache; repeat' first
    | intro _ | with_reducible assumption | with_reducible apply State.cleanLine_steady | with_reducible apply State.loseCache_steady
    | with_reducible apply State.takeBack_steady | with_reducible apply foldS_steady | with_reducible apply Steady.ite

theorem execRegionPowerDown_steady {s0 s : State} (h : Steady s0 s) (island : Nat) :
    Answers s0 (execRegionPowerDown island s) := by
  unfold execRegionPowerDown; repeat' first
    | intro _ | with_reducible assumption | with_reducible apply State.capChange_steady | with_reducible apply State.offCache_steady
    | with_reducible apply stay_steady | with_reducible apply State.setRegion_steady | with_reducible apply foldS_steady
    | with_reducible apply Answers.next | with_reducible apply Answers.ite | with_reducible apply Steady.ite
    | (fail_if_no_progress (with_reducible (refine Steady.of ?_ rfl rfl rfl rfl rfl rfl rfl rfl)))

theorem execRegionPowerUp_steady {s0 s : State} (h : Steady s0 s) (island : Nat) :
    Answers s0 (execRegionPowerUp island s) := by
  unfold execRegionPowerUp; repeat' first
    | intro _ | with_reducible assumption | with_reducible apply State.capChange_steady | with_reducible apply stay_steady
    | with_reducible apply State.regionUp_steady | with_reducible apply State.voidSweep_steady | with_reducible apply Answers.next
    | with_reducible apply Answers.ite

theorem State.errClear_steady {s0 s : State} (h : Steady s0 s) :
    Steady s0 (s.errClear) := by
  unfold State.errClear; repeat' first
    | intro _ | with_reducible assumption | with_reducible apply State.setReg_steady | with_reducible apply State.setFld_steady
    | with_reducible apply foldS_steady

theorem execErrLogClear_steady {s0 s : State} (h : Steady s0 s) :
    Answers s0 (execErrLogClear s) := by
  unfold execErrLogClear; repeat' first
    | intro _ | with_reducible assumption | with_reducible apply stay_steady | with_reducible apply State.errClear_steady
    | with_reducible apply Answers.next | with_reducible apply Answers.ite

theorem State.dbgStore_steady {s0 s : State} (h : Steady s0 s) (c : Nat) (acc : Bool) (word : Nat) (v : Word) :
    Steady s0 (s.dbgStore c acc word v) := by
  unfold State.dbgStore; repeat' first
    | intro _ | with_reducible assumption | with_reducible apply State.setCore_steady | with_reducible apply Steady.ite

theorem State.denied_steady {s0 s : State} (h : Steady s0 s) :
    Steady s0 (s.denied) := by
  unfold State.denied; repeat' first
    | intro _ | with_reducible assumption | with_reducible apply State.bumpFld_steady

theorem State.dbgAccess_steady {s0 s : State} (h : Steady s0 s) (c : Nat) (write : Option Word) :
    Steady s0 (s.dbgAccess c write).2 := by
  unfold State.dbgAccess; repeat' first
    | intro _ | with_reducible assumption | with_reducible apply State.dbgStore_steady | with_reducible apply State.setFld_steady
    | with_reducible apply State.denied_steady | with_reducible apply Steady.ite
    | (fail_if_no_progress (with_reducible (refine Steady.of ?_ rfl rfl rfl rfl rfl rfl rfl rfl)))
    | with_reducible (refine Steady.snd (by assumption) ?_) | with_reducible (refine Steady.snd2 (by assumption) ?_)
    | with_reducible apply foldl_steady | split | dsimp only

theorem State.darkRecord_steady {s0 s : State} (h : Steady s0 s) (i : Nat) (off : Nat) :
    Steady s0 (s.darkRecord i off) := by
  unfold State.darkRecord; repeat' first
    | intro _ | with_reducible assumption | with_reducible apply State.hwError_steady | with_reducible apply Steady.ite
    | (fail_if_no_progress (with_reducible (refine Steady.of ?_ rfl rfl rfl rfl rfl rfl rfl rfl)))

theorem nextOr_steady {s0 s : State} (_ : Steady s0 s) (o : Host.Outcome State Fault Refusal) (ho : Answers s0 o) : Steady s0 (nextOr o s) := by
  obtain ⟨t, rfl, g⟩ := ho; exact g

theorem State.writeChCtl_steady {s0 s : State} (h : Steady s0 s) (c : Nat) (v : Nat) (mask : Nat) :
    Steady s0 (s.writeChCtl c v mask) := by
  unfold State.writeChCtl; repeat' first
    | intro _ | with_reducible assumption | with_reducible apply execCpyRestart_steady | with_reducible apply State.setReg_steady
    | with_reducible apply nextOr_steady | with_reducible apply execCpyStream_steady | with_reducible apply State.voidSweep_steady
    | with_reducible apply Steady.ite

theorem State.writeCfgCtl_steady {s0 s : State} (h : Steady s0 s) (v : Nat) (mask : Nat) :
    Steady s0 (s.writeCfgCtl v mask) := by
  unfold State.writeCfgCtl; repeat' first
    | intro _ | with_reducible assumption | with_reducible apply State.setReg_steady | with_reducible apply State.cfgCapture_steady
    | with_reducible apply State.cfgCommit_steady | with_reducible apply Steady.ite

theorem State.writeLatCtl_steady {s0 s : State} (h : Steady s0 s) (c : Nat) (v : Nat) :
    Steady s0 (s.writeLatCtl c v) := by
  unfold State.writeLatCtl; repeat' first
    | intro _ | with_reducible assumption | with_reducible apply nextOr_steady | with_reducible apply execHomClrOwn_steady
    | with_reducible apply execHomClrOth_steady | with_reducible apply Steady.ite

theorem State.writeMgmtq_steady {s0 s : State} (h : Steady s0 s) (v : Nat) (mask : Nat) :
    Steady s0 (s.writeMgmtq v mask) := by
  unfold State.writeMgmtq; repeat' first
    | intro _ | with_reducible assumption | with_reducible apply State.setReg_steady | with_reducible apply nextOr_steady
    | with_reducible apply execMgmtqEnable_steady | with_reducible apply State.voidSweep_steady | with_reducible apply Steady.ite

theorem State.groupJoined_steady {s0 s : State} (h : Steady s0 s) :
    Steady s0 s.groupJoined := by
  unfold State.groupJoined; exact Steady.of h rfl rfl rfl rfl rfl rfl rfl rfl

theorem State.regWrite_steady {s0 s : State} (h : Steady s0 s) (c : Nat) (v : Nat) (mask : Nat) :
    Steady s0 (s.regWrite c v mask) := by
  unfold State.regWrite; repeat' first
    | with_reducible apply State.groupJoined_steady | intro _ | with_reducible assumption | with_reducible apply State.setReg_steady | with_reducible apply State.writeMgmtq_steady
    | with_reducible apply nextOr_steady | with_reducible apply State.writeChCtl_steady | with_reducible apply State.writeLatCtl_steady
    | with_reducible apply execPwrLimitWrite_steady | with_reducible apply State.writeCfgCtl_steady | with_reducible apply State.corrWrite_steady
    | with_reducible apply State.voidSweep_steady | with_reducible apply State.errClear_steady | with_reducible apply Steady.ite

theorem State.slotWrite_steady {s0 s : State} (h : Steady s0 s) (c : Nat) (off : Nat) (size : Nat) (v : Word) :
    Steady s0 (s.slotWrite c off size v) := by
  unfold State.slotWrite; repeat' first
    | intro _ | with_reducible assumption | with_reducible apply State.regWrite_steady | with_reducible apply State.dbgAccess_steady
    | with_reducible apply State.denied_steady | with_reducible apply Steady.ite
    | (fail_if_no_progress (with_reducible (refine Steady.of ?_ rfl rfl rfl rfl rfl rfl rfl rfl)))
    | with_reducible (refine Steady.snd (by assumption) ?_) | with_reducible (refine Steady.snd2 (by assumption) ?_)
    | with_reducible apply foldl_steady | split

theorem State.slotRead_steady {s0 s : State} (h : Steady s0 s) (c : Nat) (off : Nat) (size : Nat) :
    Steady s0 (s.slotRead c off size).2 := by
  unfold State.slotRead; repeat' first
    | intro _ | with_reducible assumption | with_reducible apply State.dbgAccess_steady | with_reducible apply State.clearRc_steady
    | with_reducible apply State.denied_steady | with_reducible apply Steady.ite
    | (fail_if_no_progress (with_reducible (refine Steady.of ?_ rfl rfl rfl rfl rfl rfl rfl rfl)))
    | with_reducible (refine Steady.snd (by assumption) ?_) | with_reducible (refine Steady.snd2 (by assumption) ?_)
    | with_reducible apply foldl_steady | split

theorem execRegisterWrite_steady {s0 s : State} (h : Steady s0 s) (off : Nat) (size : Nat) (v : Word) :
    Answers s0 (execRegisterWrite off size v s) := by
  unfold execRegisterWrite; repeat' first
    | intro _ | with_reducible assumption | with_reducible apply stay_steady | with_reducible apply State.slotWrite_steady
    | with_reducible apply State.hwError_steady | with_reducible apply State.darkRecord_steady | with_reducible apply Answers.next
    | with_reducible apply Answers.ite | with_reducible apply Steady.ite
    | (fail_if_no_progress (with_reducible (refine Steady.of ?_ rfl rfl rfl rfl rfl rfl rfl rfl)))
    | with_reducible (refine Steady.snd (by assumption) ?_) | with_reducible (refine Steady.snd2 (by assumption) ?_)
    | with_reducible apply foldl_steady | split

theorem execReadClear_steady {s0 s : State} (h : Steady s0 s) (off : Nat) (size : Nat) :
    Answers s0 (execReadClear off size s) := by
  unfold execReadClear; repeat' first
    | intro _ | with_reducible assumption | with_reducible apply State.slotRead_steady | with_reducible apply stay_steady
    | with_reducible apply State.hwError_steady | with_reducible apply State.darkRecord_steady | with_reducible apply State.emit_steady
    | with_reducible apply Answers.next | with_reducible apply Answers.ite | with_reducible apply Steady.ite
    | (fail_if_no_progress (with_reducible (refine Steady.of ?_ rfl rfl rfl rfl rfl rfl rfl rfl)))
    | with_reducible (refine Steady.snd (by assumption) ?_) | with_reducible (refine Steady.snd2 (by assumption) ?_)
    | with_reducible apply foldl_steady | split

theorem execRegisterAccessTimeout_steady {s0 s : State} (h : Steady s0 s) (off : Nat) (size : Nat) (write : Option Word) :
    Answers s0 (execRegisterAccessTimeout off size write s) := by
  unfold execRegisterAccessTimeout; repeat' first
    | intro _ | with_reducible assumption | with_reducible apply stay_steady | with_reducible apply State.slotWrite_steady
    | with_reducible apply State.hwError_steady | with_reducible apply State.useFree_steady | with_reducible apply State.emit_steady
    | with_reducible apply Answers.next | with_reducible apply Answers.ite | with_reducible apply Steady.ite
    | (fail_if_no_progress (with_reducible (refine Steady.of ?_ rfl rfl rfl rfl rfl rfl rfl rfl)))
    | with_reducible (refine Steady.snd (by assumption) ?_) | with_reducible (refine Steady.snd2 (by assumption) ?_)
    | with_reducible apply foldl_steady | split

theorem execCmpDbgDataAccess_steady {s0 s : State} (h : Steady s0 s) (core : Nat) (write : Option Word) :
    Answers s0 (execCmpDbgDataAccess core write s) := by
  unfold execCmpDbgDataAccess; repeat' first
    | intro _ | with_reducible assumption | with_reducible apply stay_steady | with_reducible apply execReadClear_steady
    | with_reducible apply execRegisterWrite_steady | with_reducible apply Answers.next | with_reducible apply Answers.ite
    | with_reducible apply Steady.ite | (fail_if_no_progress (with_reducible (refine Steady.of ?_ rfl rfl rfl rfl rfl rfl rfl rfl)))
    | with_reducible (refine Steady.snd (by assumption) ?_) | with_reducible (refine Steady.snd2 (by assumption) ?_)
    | with_reducible apply foldl_steady | split

theorem State.message_steady {s0 s : State} (h : Steady s0 s) (op : Nat) (payload : Bytes) (crc : BitVec 32) (allowed : Bool) (argOk : Bool) (go : State → Bytes × State) (h_go : ∀ st, Steady s0 st → Steady s0 (go st).2) :
    Answers s0 (s.message op payload crc allowed argOk go) := by
  unfold State.message; repeat' first
    | intro _ | with_reducible assumption | with_reducible apply stay_steady | with_reducible apply State.emit_steady
    | with_reducible apply Answers.next | with_reducible apply Answers.ite | apply h_go

theorem execStatus_steady {s0 s : State} (h : Steady s0 s) (payload : Bytes) (crc : BitVec 32) :
    Answers s0 (execStatus payload crc s) := by
  unfold execStatus; repeat' first
    | intro _ | with_reducible assumption | with_reducible apply State.message_steady | with_reducible apply State.alert_steady
    | with_reducible apply Answers.next | with_reducible apply Answers.ite | with_reducible apply Steady.ite
    | (fail_if_no_progress (with_reducible (refine Steady.of ?_ rfl rfl rfl rfl rfl rfl rfl rfl)))

theorem execEventRead_steady {s0 s : State} (h : Steady s0 s) (payload : Bytes) (crc : BitVec 32) :
    Answers s0 (execEventRead payload crc s) := by
  unfold execEventRead; repeat' first
    | intro _ | with_reducible assumption | with_reducible apply State.message_steady | with_reducible apply State.alert_steady
    | with_reducible apply Answers.next | with_reducible apply Answers.ite | with_reducible apply Steady.ite
    | (fail_if_no_progress (with_reducible (refine Steady.of ?_ rfl rfl rfl rfl rfl rfl rfl rfl)))
    | with_reducible (refine Steady.snd (by assumption) ?_) | with_reducible (refine Steady.snd2 (by assumption) ?_)
    | with_reducible apply foldl_steady | split

theorem execLogRead_steady {s0 s : State} (h : Steady s0 s) (payload : Bytes) (crc : BitVec 32) :
    Answers s0 (execLogRead payload crc s) := by
  unfold execLogRead; repeat' first
    | intro _ | with_reducible assumption | with_reducible apply State.message_steady

theorem execSetPkgId_steady {s0 s : State} (h : Steady s0 s) (payload : Bytes) (crc : BitVec 32) :
    Answers s0 (execSetPkgId payload crc s) := by
  unfold execSetPkgId; repeat' first
    | intro _ | with_reducible assumption | with_reducible apply State.message_steady | with_reducible apply Answers.next
    | with_reducible apply Answers.ite | with_reducible apply Steady.ite
    | (fail_if_no_progress (with_reducible (refine Steady.of ?_ rfl rfl rfl rfl rfl rfl rfl rfl)))

theorem execGroupTotal_steady {s0 s : State} (h : Steady s0 s) (payload : Bytes) (crc : BitVec 32) :
    Answers s0 (execGroupTotal payload crc s) := by
  unfold execGroupTotal; repeat' first
    | intro _ | with_reducible assumption | with_reducible apply State.message_steady | with_reducible apply Answers.next
    | with_reducible apply Answers.ite | with_reducible apply Steady.ite
    | (fail_if_no_progress (with_reducible (refine Steady.of ?_ rfl rfl rfl rfl rfl rfl rfl rfl)))

theorem execWake_steady {s0 s : State} (h : Steady s0 s) (payload : Bytes) (crc : BitVec 32) :
    Answers s0 (execWake payload crc s) := by
  unfold execWake; repeat' first
    | intro _ | with_reducible assumption | with_reducible apply State.message_steady | with_reducible apply Answers.next
    | with_reducible apply Answers.ite | with_reducible apply Steady.ite
    | (fail_if_no_progress (with_reducible (refine Steady.of ?_ rfl rfl rfl rfl rfl rfl rfl rfl)))

theorem execCalRead_steady {s0 s : State} (h : Steady s0 s) (payload : Bytes) (crc : BitVec 32) :
    Answers s0 (execCalRead payload crc s) := by
  unfold execCalRead; repeat' first
    | intro _ | with_reducible assumption | with_reducible apply State.message_steady

theorem Clasp.putCal_keeps (c : Clasp) (o : Nat) (b : Bytes) :
    (c.putCal o b).lc = c.lc ∧ (c.putCal o b).confEn = c.confEn ∧ (c.putCal o b).fuseSvn = c.fuseSvn := by
  induction b generalizing c o with
  | nil => exact ⟨rfl, rfl, rfl⟩
  | cons v t ih =>
    have g := ih (if 0x10 ≤ o ∧ o < 0x18 then { c with hours := setBits c.hours (8 * (o - 0x10)) 8 v.toNat } else { c with cal := tput o v c.cal }) (o + 1)
    simp only [Clasp.putCal]
    refine ⟨g.1.trans ?_, g.2.1.trans ?_, g.2.2.trans ?_⟩ <;> split <;> rfl

theorem execCalWrite_steady {s0 s : State} (h : Steady s0 s) (payload : Bytes) (crc : BitVec 32) : Answers s0 (execCalWrite payload crc s) := by
  unfold execCalWrite
  apply State.message_steady h
  intro st g
  obtain ⟨h1, h2, h3⟩ := Clasp.putCal_keeps st.clasp (fieldLe payload 0 4) (payload.drop 4)
  exact Steady.upd g rfl rfl h1 h2 h3 rfl rfl rfl

theorem execImgBegin_steady {s0 s : State} (h : Steady s0 s) (payload : Bytes) (crc : BitVec 32) :
    Answers s0 (execImgBegin payload crc s) := by
  unfold execImgBegin; repeat' first
    | intro _ | with_reducible assumption | with_reducible apply State.message_steady | with_reducible apply Answers.next
    | with_reducible apply Answers.ite | with_reducible apply Steady.ite
    | (fail_if_no_progress (with_reducible (refine Steady.of ?_ rfl rfl rfl rfl rfl rfl rfl rfl)))

theorem execImgData_steady {s0 s : State} (h : Steady s0 s) (payload : Bytes) (crc : BitVec 32) :
    Answers s0 (execImgData payload crc s) := by
  unfold execImgData; repeat' first
    | intro _ | with_reducible assumption | with_reducible apply State.message_steady | with_reducible apply Answers.next
    | with_reducible apply Answers.ite | with_reducible apply Steady.ite
    | (fail_if_no_progress (with_reducible (refine Steady.of ?_ rfl rfl rfl rfl rfl rfl rfl rfl)))

theorem execImgEnd_steady {s0 s : State} (h : Steady s0 s) (payload : Bytes) (crc : BitVec 32) :
    Answers s0 (execImgEnd payload crc s) := by
  unfold execImgEnd; repeat' first
    | intro _ | with_reducible assumption | with_reducible apply State.message_steady | with_reducible apply Answers.next
    | with_reducible apply Answers.ite | with_reducible apply Steady.ite
    | (fail_if_no_progress (with_reducible (refine Steady.of ?_ rfl rfl rfl rfl rfl rfl rfl rfl)))

theorem State.counts_steady {s0 s : State} (h : Steady s0 s) :
    Steady s0 (s.counts) := by
  unfold State.counts; repeat' first
    | intro _ | with_reducible assumption | with_reducible apply Steady.ite
    | (fail_if_no_progress (with_reducible (refine Steady.of ?_ rfl rfl rfl rfl rfl rfl rfl rfl)))

theorem State.watchCores_steady {s0 s : State} (h : Steady s0 s) :
    Steady s0 (s.watchCores) := by
  unfold State.watchCores; repeat' first
    | intro _ | with_reducible assumption | with_reducible apply Steady.ite
    | (fail_if_no_progress (with_reducible (refine Steady.of ?_ rfl rfl rfl rfl rfl rfl rfl rfl)))

theorem State.tick_steady {s0 s : State} (h : Steady s0 s) :
    Steady s0 (s.tick) := by
  unfold State.tick; repeat' first
    | intro _ | with_reducible assumption | with_reducible apply State.watchCores_steady | with_reducible apply State.rotation_steady
    | with_reducible apply State.fabricCycle_steady | with_reducible apply State.counts_steady | with_reducible apply State.atsSettle_steady
    | with_reducible apply Steady.ite


end Sys2Proof.Machine
end

