-- ==== Sys2Proof/Laws/Stored.lean ====
section
/-! SUPPORT. Sys2Proof/Laws/Stored.lean: what a record in an event ring, a message or a write of memory leaves alone: registers and the Clasp too. -/

namespace Sys2Proof.Machine

/-- From `s` to `t` only memories, caches, homes, requests, event rings, links, the host link and outputs may differ. -/
def Stored (s t : State) : Prop :=
  t = { s with
    hbm := t.hbm, host := t.host, poison := t.poison, tags := t.tags, caches := t.caches, homes := t.homes, hostHome := t.hostHome,
    hostLines := t.hostLines, reqs := t.reqs, links := t.links, evrings := t.evrings, lastRefs := t.lastRefs, link := t.link, out :=
    t.out }

theorem Stored.rfl' (s : State) : Stored s s := rfl

theorem Stored.upd {s t u : State} (h : Stored s t) (e : u = { t with
    hbm := u.hbm, host := u.host, poison := u.poison, tags := u.tags, caches := u.caches, homes := u.homes, hostHome := u.hostHome,
    hostLines := u.hostLines, reqs := u.reqs, links := u.links, evrings := u.evrings, lastRefs := u.lastRefs, link := u.link, out :=
    u.out }) :
    Stored s u := by
  unfold Stored at h ⊢; rw [h] at e; exact e

theorem Stored.trans {s t u : State} (h : Stored s t) (g : Stored t u) : Stored s u := Stored.upd h g

theorem Stored.pending {s t : State} (h : Stored s t) : t.pending = s.pending := by unfold Stored at h; rw [h]
theorem Stored.free {s t : State} (h : Stored s t) : t.free = s.free := by unfold Stored at h; rw [h]
theorem Stored.hubCount {s t : State} (h : Stored s t) : t.hubCount = s.hubCount := by unfold Stored at h; rw [h]
theorem Stored.regs {s t : State} (h : Stored s t) : t.regs = s.regs := by unfold Stored at h; rw [h]
theorem Stored.frames {s t : State} (h : Stored s t) : t.frames = s.frames := by unfold Stored at h; rw [h]
theorem Stored.regions {s t : State} (h : Stored s t) : t.regions = s.regions := by unfold Stored at h; rw [h]
theorem Stored.fabrics {s t : State} (h : Stored s t) : t.fabrics = s.fabrics := by unfold Stored at h; rw [h]
theorem Stored.spine {s t : State} (h : Stored s t) : t.spine = s.spine := by unfold Stored at h; rw [h]
theorem Stored.spineFailed {s t : State} (h : Stored s t) : t.spineFailed = s.spineFailed := by unfold Stored at h; rw [h]
theorem Stored.cores {s t : State} (h : Stored s t) : t.cores = s.cores := by unfold Stored at h; rw [h]
theorem Stored.hubWatch {s t : State} (h : Stored s t) : t.hubWatch = s.hubWatch := by unfold Stored at h; rw [h]
theorem Stored.booksAt {s t : State} (h : Stored s t) : t.booksAt = s.booksAt := by unfold Stored at h; rw [h]
theorem Stored.foreAt {s t : State} (h : Stored s t) : t.foreAt = s.foreAt := by unfold Stored at h; rw [h]
theorem Stored.nextId {s t : State} (h : Stored s t) : t.nextId = s.nextId := by unfold Stored at h; rw [h]
theorem Stored.offers {s t : State} (h : Stored s t) : t.offers = s.offers := by unfold Stored at h; rw [h]
theorem Stored.updates {s t : State} (h : Stored s t) : t.updates = s.updates := by unfold Stored at h; rw [h]
theorem Stored.bars {s t : State} (h : Stored s t) : t.bars = s.bars := by unfold Stored at h; rw [h]
theorem Stored.sifts {s t : State} (h : Stored s t) : t.sifts = s.sifts := by unfold Stored at h; rw [h]
theorem Stored.units {s t : State} (h : Stored s t) : t.units = s.units := by unfold Stored at h; rw [h]
theorem Stored.walks {s t : State} (h : Stored s t) : t.walks = s.walks := by unfold Stored at h; rw [h]
theorem Stored.walkers {s t : State} (h : Stored s t) : t.walkers = s.walkers := by unfold Stored at h; rw [h]
theorem Stored.hubTlb {s t : State} (h : Stored s t) : t.hubTlb = s.hubTlb := by unfold Stored at h; rw [h]
theorem Stored.cpyTlb {s t : State} (h : Stored s t) : t.cpyTlb = s.cpyTlb := by unfold Stored at h; rw [h]
theorem Stored.chans {s t : State} (h : Stored s t) : t.chans = s.chans := by unfold Stored at h; rw [h]
theorem Stored.ctxs {s t : State} (h : Stored s t) : t.ctxs = s.ctxs := by unfold Stored at h; rw [h]
theorem Stored.folios {s t : State} (h : Stored s t) : t.folios = s.folios := by unfold Stored at h; rw [h]
theorem Stored.coreSl {s t : State} (h : Stored s t) : t.coreSl = s.coreSl := by unfold Stored at h; rw [h]
theorem Stored.memSl {s t : State} (h : Stored s t) : t.memSl = s.memSl := by unfold Stored at h; rw [h]
theorem Stored.linkSl {s t : State} (h : Stored s t) : t.linkSl = s.linkSl := by unfold Stored at h; rw [h]
theorem Stored.prots {s t : State} (h : Stored s t) : t.prots = s.prots := by unfold Stored at h; rw [h]
theorem Stored.queues {s t : State} (h : Stored s t) : t.queues = s.queues := by unfold Stored at h; rw [h]
theorem Stored.refSubs {s t : State} (h : Stored s t) : t.refSubs = s.refSubs := by unfold Stored at h; rw [h]
theorem Stored.cyclic {s t : State} (h : Stored s t) : t.cyclic = s.cyclic := by unfold Stored at h; rw [h]
theorem Stored.corrSeq {s t : State} (h : Stored s t) : t.corrSeq = s.corrSeq := by unfold Stored at h; rw [h]
theorem Stored.corrFrom {s t : State} (h : Stored s t) : t.corrFrom = s.corrFrom := by unfold Stored at h; rw [h]
theorem Stored.corrDue {s t : State} (h : Stored s t) : t.corrDue = s.corrDue := by unfold Stored at h; rw [h]
theorem Stored.cfg {s t : State} (h : Stored s t) : t.cfg = s.cfg := by unfold Stored at h; rw [h]
theorem Stored.power {s t : State} (h : Stored s t) : t.power = s.power := by unfold Stored at h; rw [h]
theorem Stored.net {s t : State} (h : Stored s t) : t.net = s.net := by unfold Stored at h; rw [h]
theorem Stored.rounds {s t : State} (h : Stored s t) : t.rounds = s.rounds := by unfold Stored at h; rw [h]
theorem Stored.urgency {s t : State} (h : Stored s t) : t.urgency = s.urgency := by unfold Stored at h; rw [h]
theorem Stored.urgSince {s t : State} (h : Stored s t) : t.urgSince = s.urgSince := by unfold Stored at h; rw [h]
theorem Stored.urgNoted {s t : State} (h : Stored s t) : t.urgNoted = s.urgNoted := by unfold Stored at h; rw [h]
theorem Stored.clasp {s t : State} (h : Stored s t) : t.clasp = s.clasp := by unfold Stored at h; rw [h]
theorem Stored.fuses {s t : State} (h : Stored s t) : t.fuses = s.fuses := by unfold Stored at h; rw [h]
theorem Stored.capState {s t : State} (h : Stored s t) : t.capState = s.capState := by unfold Stored at h; rw [h]
theorem Stored.capGen {s t : State} (h : Stored s t) : t.capGen = s.capGen := by unfold Stored at h; rw [h]
theorem Stored.fore {s t : State} (h : Stored s t) : t.fore = s.fore := by unfold Stored at h; rw [h]
theorem Stored.standby {s t : State} (h : Stored s t) : t.standby = s.standby := by unfold Stored at h; rw [h]
theorem Stored.peerLost {s t : State} (h : Stored s t) : t.peerLost = s.peerLost := by unfold Stored at h; rw [h]
theorem Stored.kept {s t : State} (h : Stored s t) : t.kept = s.kept := by unfold Stored at h; rw [h]
theorem Stored.darkNoted {s t : State} (h : Stored s t) : t.darkNoted = s.darkNoted := by unfold Stored at h; rw [h]

theorem Stored.ite {c : Prop} [Decidable c] {s a b : State} (ha : Stored s a) (hb : Stored s b) : Stored s (if c then a else b) := by
  split <;> assumption

theorem Stored.snd {α : Type} {s t : State} {a : α} {x : α × State} (e : x = (a, t)) (h : Stored s x.2) : Stored s t := by
  subst e; exact h

theorem Stored.snd2 {α β : Type} {s t : State} {a : α} {b : β} {x : α × β × State} (e : x = (a, b, t)) (h : Stored s x.2.2) : Stored s t := by
  subst e; exact h

theorem foldS_stored {β : Type} {s0 s : State} (h : Stored s0 s) (l : List β) (f : State → β → State)
    (hf : ∀ st a, Stored s0 st → Stored s0 (f st a)) : Stored s0 (foldS l s f) := by
  unfold foldS
  induction l generalizing s with
  | nil => exact h
  | cons a l ih => exact ih (hf _ _ h)

theorem foldl_stored {β : Type} {s0 s : State} {l : List β} {f : State → β → State} (h : Stored s0 s)
    (hf : ∀ st a, Stored s0 st → Stored s0 (f st a)) : Stored s0 (l.foldl f s) := foldS_stored h l f hf

/-- What holds of the state in a result that may be an error. -/
def OnStatestored {α β : Type} (s0 : State) (f : β → State) (g : α → State) : Except β α → Prop
  | .error e => Stored s0 (f e)
  | .ok a => Stored s0 (g a)



theorem State.setCache_stored {s0 s : State} (h : Stored s0 s) (n : Nat) (v : Cache) :
    Stored s0 (s.setCache n v) := by
  unfold State.setCache; repeat' first
    | intro _ | with_reducible assumption | with_reducible apply Stored.ite | (fail_if_no_progress (with_reducible (refine Stored.upd ?_ rfl)))

theorem State.setHome_stored {s0 s : State} (h : Stored s0 s) (h : Nat) (v : Home) :
    Stored s0 (s.setHome h v) := by
  unfold State.setHome; repeat' first
    | intro _ | with_reducible assumption | with_reducible apply Stored.ite | (fail_if_no_progress (with_reducible (refine Stored.upd ?_ rfl)))

theorem State.setStitch_stored {s0 s : State} (h : Stored s0 s) (l : Nat) (v : Link) :
    Stored s0 (s.setStitch l v) := by
  unfold State.setStitch; repeat' first
    | intro _ | with_reducible assumption | with_reducible apply Stored.ite | (fail_if_no_progress (with_reducible (refine Stored.upd ?_ rfl)))

theorem State.setReq_stored {s0 s : State} (h : Stored s0 s) (r : Nat) (v : Req) :
    Stored s0 (s.setReq r v) := by
  unfold State.setReq; repeat' first
    | intro _ | with_reducible assumption | with_reducible apply Stored.ite | (fail_if_no_progress (with_reducible (refine Stored.upd ?_ rfl)))

theorem State.dropReq_stored {s0 s : State} (h : Stored s0 s) (r : Nat) :
    Stored s0 (s.dropReq r) := by
  unfold State.dropReq; repeat' first
    | intro _ | with_reducible assumption | with_reducible apply Stored.ite | (fail_if_no_progress (with_reducible (refine Stored.upd ?_ rfl)))

theorem State.emit_stored {s0 s : State} (h : Stored s0 s) (o : Out) :
    Stored s0 (s.emit o) := by
  unfold State.emit; repeat' first
    | intro _ | with_reducible assumption | with_reducible apply Stored.ite | (fail_if_no_progress (with_reducible (refine Stored.upd ?_ rfl)))

theorem State.modReq_stored {s0 s : State} (h : Stored s0 s) (r : Nat) (f : Req → Req) :
    Stored s0 (s.modReq r f) := by
  unfold State.modReq; repeat' first
    | intro _ | with_reducible assumption | with_reducible apply State.setReq_stored | with_reducible apply Stored.ite
    | (fail_if_no_progress (with_reducible (refine Stored.upd ?_ rfl))) | with_reducible (refine Stored.snd (by assumption) ?_)
    | with_reducible (refine Stored.snd2 (by assumption) ?_) | with_reducible apply foldl_stored | split

theorem State.send_stored {s0 s : State} (h : Stored s0 s) (p : Packet) :
    Stored s0 (s.send p) := by
  unfold State.send; repeat' first
    | intro _ | with_reducible assumption | with_reducible apply State.setStitch_stored | with_reducible apply State.emit_stored
    | with_reducible apply Stored.ite

theorem State.sendWaiting_stored {s0 s : State} (h : Stored s0 s) (link : Nat) :
    Stored s0 (s.sendWaiting link) := by
  unfold State.sendWaiting; repeat' first
    | intro _ | with_reducible assumption | with_reducible apply State.setStitch_stored | with_reducible apply foldS_stored
    | with_reducible apply State.send_stored

theorem State.mirrorSend_stored {s0 s : State} (h : Stored s0 s) (f : Nat) (pkg : Nat) (q : Nat) (o : Nat) (d : Bytes) (tag : Nat) :
    Stored s0 (s.mirrorSend f pkg q o d tag) := by
  unfold State.mirrorSend; repeat' first
    | intro _ | with_reducible assumption | with_reducible apply foldS_stored | with_reducible apply State.send_stored

theorem State.writeSlice_stored {s0 s : State} (h : Stored s0 s) (m : Nat) (o : Nat) (d : Bytes) (tag : optParam Nat 65534) :
    Stored s0 (s.writeSlice m o d tag) := by
  unfold State.writeSlice; repeat' first
    | intro _ | with_reducible assumption | with_reducible apply State.mirrorSend_stored | with_reducible apply Stored.ite
    | (fail_if_no_progress (with_reducible (refine Stored.upd ?_ rfl))) | with_reducible (refine Stored.snd (by assumption) ?_)
    | with_reducible (refine Stored.snd2 (by assumption) ?_) | with_reducible apply foldl_stored | split

theorem State.heal_stored {s0 s : State} (h : Stored s0 s) (pa : Nat) (n : Nat) :
    Stored s0 (s.heal pa n) := by
  unfold State.heal; repeat' first
    | intro _ | with_reducible assumption | with_reducible apply Stored.ite | (fail_if_no_progress (with_reducible (refine Stored.upd ?_ rfl)))

theorem State.rawWrite_stored {s0 s : State} (h : Stored s0 s) (pa : Nat) (d : Bytes) (tag : optParam Nat 65534) :
    Stored s0 (s.rawWrite pa d tag).2 := by
  unfold State.rawWrite; repeat' first
    | intro _ | with_reducible assumption | with_reducible apply State.heal_stored | with_reducible apply State.writeSlice_stored
    | with_reducible apply Stored.ite | (fail_if_no_progress (with_reducible (refine Stored.upd ?_ rfl)))
    | with_reducible (refine Stored.snd (by assumption) ?_) | with_reducible (refine Stored.snd2 (by assumption) ?_)
    | with_reducible apply foldl_stored | split

theorem State.atsFill_stored {s0 s : State} (h : Stored s0 s) (fn : Nat) (pa : Nat) :
    Stored s0 (s.atsFill fn pa) := by
  unfold State.atsFill; repeat' first
    | intro _ | with_reducible assumption | with_reducible apply Stored.ite | (fail_if_no_progress (with_reducible (refine Stored.upd ?_ rfl)))
    | with_reducible (refine Stored.snd (by assumption) ?_) | with_reducible (refine Stored.snd2 (by assumption) ?_)
    | with_reducible apply foldl_stored | split

theorem State.dropLine_stored {s0 s : State} (h : Stored s0 s) (line : Nat) :
    Stored s0 (s.dropLine line) := by
  unfold State.dropLine; repeat' first
    | intro _ | with_reducible assumption | with_reducible apply State.setHome_stored | with_reducible apply Stored.ite
    | (fail_if_no_progress (with_reducible (refine Stored.upd ?_ rfl))) | with_reducible (refine Stored.snd (by assumption) ?_)
    | with_reducible (refine Stored.snd2 (by assumption) ?_) | with_reducible apply foldl_stored | split | dsimp only

theorem State.patchCopies_stored {s0 s : State} (h : Stored s0 s) (line : Nat) (o : Nat) (d : Bytes) :
    Stored s0 (s.patchCopies line o d) := by
  unfold State.patchCopies; repeat' first
    | intro _ | with_reducible assumption | with_reducible apply Stored.ite | (fail_if_no_progress (with_reducible (refine Stored.upd ?_ rfl)))

theorem State.putLine_stored {s0 s : State} (h : Stored s0 s) (pa : Nat) (d : Bytes) (tag : optParam Nat 65534) :
    Stored s0 (s.putLine pa d tag).2 := by
  unfold State.putLine; repeat' first
    | intro _ | with_reducible assumption | with_reducible apply State.rawWrite_stored | with_reducible apply State.dropLine_stored
    | with_reducible apply State.patchCopies_stored | with_reducible apply Stored.ite
    | (fail_if_no_progress (with_reducible (refine Stored.upd ?_ rfl))) | with_reducible (refine Stored.snd (by assumption) ?_)
    | with_reducible (refine Stored.snd2 (by assumption) ?_) | with_reducible apply foldl_stored | split | dsimp only

theorem State.putBytes_stored {s0 s : State} (h : Stored s0 s) (pa : Nat) (fuel : Nat) (l : Bytes) :
    Stored s0 (s.putBytes pa fuel l).2 := by
  induction fuel generalizing s pa l with
  | zero => unfold State.putBytes; exact h
  | succ fuel ih =>
  unfold State.putBytes; repeat' first
    | with_reducible apply ih | intro _ | with_reducible assumption | with_reducible apply State.putLine_stored
    | with_reducible apply State.putLine_stored | with_reducible apply Stored.ite | (fail_if_no_progress (with_reducible (refine Stored.upd ?_ rfl)))
    | with_reducible (refine Stored.snd (by assumption) ?_) | with_reducible (refine Stored.snd2 (by assumption) ?_)
    | with_reducible apply foldl_stored | split | dsimp only

theorem State.hostWrite_stored {s0 s : State} (h : Stored s0 s) (pa : Nat) (d : Bytes) :
    Stored s0 (s.hostWrite pa d) := by
  unfold State.hostWrite; repeat' first
    | intro _ | with_reducible assumption | with_reducible apply State.putBytes_stored

theorem State.dirDel_stored {s0 s : State} (h : Stored s0 s) (h : Nat) (line : Nat) :
    Stored s0 (s.dirDel h line) := by
  unfold State.dirDel; repeat' first
    | intro _ | with_reducible assumption | with_reducible apply State.setHome_stored

theorem State.takeBack_stored {s0 s : State} (h : Stored s0 s) (line : Nat) (d : Bytes) :
    Stored s0 (s.takeBack line d) := by
  unfold State.takeBack; repeat' first
    | intro _ | with_reducible assumption | with_reducible apply State.rawWrite_stored | with_reducible apply Stored.ite
    | (fail_if_no_progress (with_reducible (refine Stored.upd ?_ rfl))) | with_reducible (refine Stored.snd (by assumption) ?_)
    | with_reducible (refine Stored.snd2 (by assumption) ?_) | with_reducible apply foldl_stored | split

theorem State.dropCopies_stored {s0 s : State} (h : Stored s0 s) (h : Nat) (line : Nat) :
    Stored s0 (s.dropCopies h line) := by
  unfold State.dropCopies; repeat' first
    | intro _ | with_reducible assumption | with_reducible apply State.dirDel_stored | with_reducible apply Stored.ite
    | (fail_if_no_progress (with_reducible (refine Stored.upd ?_ rfl)))

theorem State.recallLine_stored {s0 s : State} (h : Stored s0 s) (h : Nat) (line : Nat) :
    Stored s0 (s.recallLine h line) := by
  unfold State.recallLine; repeat' first
    | intro _ | with_reducible assumption | with_reducible apply State.dropCopies_stored | with_reducible apply State.takeBack_stored
    | with_reducible apply Stored.ite | (fail_if_no_progress (with_reducible (refine Stored.upd ?_ rfl)))
    | with_reducible (refine Stored.snd (by assumption) ?_) | with_reducible (refine Stored.snd2 (by assumption) ?_)
    | with_reducible apply foldl_stored | split

theorem State.evictHostLine_stored {s0 s : State} (h : Stored s0 s) (line : Nat) :
    Stored s0 (s.evictHostLine line) := by
  unfold State.evictHostLine; repeat' first
    | intro _ | with_reducible assumption | with_reducible apply State.recallLine_stored | with_reducible apply State.emit_stored
    | with_reducible apply Stored.ite | (fail_if_no_progress (with_reducible (refine Stored.upd ?_ rfl)))
    | with_reducible (refine Stored.snd (by assumption) ?_) | with_reducible (refine Stored.snd2 (by assumption) ?_)
    | with_reducible apply foldl_stored | split | dsimp only

theorem State.msix_stored {s0 s : State} (h : Stored s0 s) (fn : Nat) (v : Nat) :
    Stored s0 (s.msix fn v) := by
  unfold State.msix; repeat' first
    | intro _ | with_reducible assumption | with_reducible apply State.emit_stored | with_reducible apply Stored.ite
    | (fail_if_no_progress (with_reducible (refine Stored.upd ?_ rfl)))

theorem State.putRing_stored {s0 s : State} (h : Stored s0 s) (r : Nat) (e : EvRing) :
    Stored s0 (s.putRing r e) := by
  unfold State.putRing; repeat' first
    | intro _ | with_reducible assumption | with_reducible apply State.hostWrite_stored | with_reducible apply Stored.ite
    | (fail_if_no_progress (with_reducible (refine Stored.upd ?_ rfl)))

theorem State.store_stored {s0 s : State} (h : Stored s0 s) (r : Nat) (e : EvRing) (rec : Bytes) :
    Stored s0 (s.store r e rec) := by
  unfold State.store; repeat' first
    | intro _ | with_reducible assumption | with_reducible apply State.hostWrite_stored | with_reducible apply State.msix_stored
    | with_reducible apply State.putRing_stored | with_reducible apply Stored.ite

theorem State.ringPut_stored {s0 s : State} (h : Stored s0 s) (r : Nat) (rec : Bytes) :
    Stored s0 (s.ringPut r rec) := by
  unfold State.ringPut; repeat' first
    | intro _ | with_reducible assumption | with_reducible apply State.store_stored | with_reducible apply State.putRing_stored
    | with_reducible apply Stored.ite | (fail_if_no_progress (with_reducible (refine Stored.upd ?_ rfl)))
    | with_reducible (refine Stored.snd (by assumption) ?_) | with_reducible (refine Stored.snd2 (by assumption) ?_)
    | with_reducible apply foldl_stored | split

theorem State.ringBoth_stored {s0 s : State} (h : Stored s0 s) (r : Nat) (rec : Bytes) (opcopy : Bytes) :
    Stored s0 (s.ringBoth r rec opcopy) := by
  unfold State.ringBoth; repeat' first
    | intro _ | with_reducible assumption | with_reducible apply State.ringPut_stored | with_reducible apply Stored.ite

theorem State.xltRecord_stored {s0 s : State} (h : Stored s0 s) (isl : Nat) (ctx : Nat) (va : Nat) (pc : Nat) (sub : Nat) (acc : Nat) (src : Nat)
    (lvl : Nat) (index : Nat) (engine : Bytes) :
    Stored s0 (s.xltRecord isl ctx va pc sub acc src lvl index engine) := by
  unfold State.xltRecord; repeat' first
    | intro _ | with_reducible assumption | with_reducible apply State.ringBoth_stored

theorem State.integFail_stored {s0 s : State} (h : Stored s0 s) (pa : Nat) (src : Nat) :
    Stored s0 (s.integFail pa src) := by
  unfold State.integFail; repeat' first
    | intro _ | with_reducible assumption | with_reducible apply State.ringPut_stored | with_reducible apply Stored.ite
    | (fail_if_no_progress (with_reducible (refine Stored.upd ?_ rfl))) | with_reducible (refine Stored.snd (by assumption) ?_)
    | with_reducible (refine Stored.snd2 (by assumption) ?_) | with_reducible apply foldl_stored | split

theorem State.writeLine_stored {s0 s : State} (h : Stored s0 s) (ctx : Nat) (folio : Nat) (pa : Nat) (d : Bytes) :
    Stored s0 (s.writeLine ctx folio pa d).2 := by
  unfold State.writeLine; repeat' first
    | intro _ | with_reducible assumption | with_reducible apply State.putLine_stored | with_reducible apply State.send_stored
    | with_reducible apply Stored.ite | (fail_if_no_progress (with_reducible (refine Stored.upd ?_ rfl)))
    | with_reducible (refine Stored.snd (by assumption) ?_) | with_reducible (refine Stored.snd2 (by assumption) ?_)
    | with_reducible apply foldl_stored | split

theorem State.dropAsk_stored {s0 s : State} (h : Stored s0 s) (ask : Option Nat) :
    Stored s0 (s.dropAsk ask) := by
  unfold State.dropAsk; repeat' first
    | intro _ | with_reducible assumption | with_reducible apply State.dropReq_stored | with_reducible apply State.setReq_stored
    | with_reducible apply Stored.ite | (fail_if_no_progress (with_reducible (refine Stored.upd ?_ rfl)))
    | with_reducible (refine Stored.snd (by assumption) ?_) | with_reducible (refine Stored.snd2 (by assumption) ?_)
    | with_reducible apply foldl_stored | split

theorem State.touch_stored {s0 s : State} (h : Stored s0 s) (n : Nat) (line : Nat) :
    Stored s0 (s.touch n line) := by
  unfold State.touch; repeat' first
    | intro _ | with_reducible assumption | with_reducible apply State.setCache_stored

theorem State.putLineIn_stored {s0 s : State} (h : Stored s0 s) (n : Nat) (line : Nat) (l : CLine) :
    Stored s0 (s.putLineIn n line l) := by
  unfold State.putLineIn; repeat' first
    | intro _ | with_reducible assumption | with_reducible apply State.touch_stored | with_reducible apply State.setCache_stored

theorem State.sgRecord_stored {s0 s : State} (h : Stored s0 s) (ctx : Nat) (tenant : Bytes) (op : Option Bytes) :
    Stored s0 (s.sgRecord ctx tenant op) := by
  unfold State.sgRecord; repeat' first
    | intro _ | with_reducible assumption | with_reducible apply State.ringPut_stored | with_reducible apply Stored.ite
    | (fail_if_no_progress (with_reducible (refine Stored.upd ?_ rfl))) | with_reducible (refine Stored.snd (by assumption) ?_)
    | with_reducible (refine Stored.snd2 (by assumption) ?_) | with_reducible apply foldl_stored | split

theorem State.sieveCtx_stored {s0 s : State} (h : Stored s0 s) (c : Nat) (ctx : Nat) (k : Nat) (total : Nat) (thr : Nat) :
    Stored s0 (s.sieveCtx c ctx k total thr) := by
  unfold State.sieveCtx; repeat' first
    | intro _ | with_reducible assumption | with_reducible apply State.sgRecord_stored

theorem State.missPut_stored {s0 s : State} (h : Stored s0 s) (ctx : Nat) (floorOnly : Bool) (tenant : Bytes) (full : Bytes) :
    Stored s0 (s.missPut ctx floorOnly tenant full) := by
  unfold State.missPut; repeat' first
    | intro _ | with_reducible assumption | with_reducible apply State.sgRecord_stored | with_reducible apply State.ringPut_stored
    | with_reducible apply Stored.ite | (fail_if_no_progress (with_reducible (refine Stored.upd ?_ rfl)))
    | with_reducible (refine Stored.snd (by assumption) ?_) | with_reducible (refine Stored.snd2 (by assumption) ?_)
    | with_reducible apply foldl_stored | split | dsimp only

theorem State.ctxFaultRecord_stored {s0 s : State} (h : Stored s0 s) (ctx : Nat) (isl : Nat) (core : Option Nat) (f : FaultInfo) :
    Stored s0 (s.ctxFaultRecord ctx isl core f) := by
  unfold State.ctxFaultRecord; repeat' first
    | intro _ | with_reducible assumption | with_reducible apply State.ringBoth_stored

theorem State.dirPut_stored {s0 s : State} (h : Stored s0 s) (h : Nat) (line : Nat) (e : DirEntry) :
    Stored s0 (s.dirPut h line e) := by
  unfold State.dirPut; repeat' first
    | intro _ | with_reducible assumption | with_reducible apply State.setHome_stored

theorem State.dirRemove_stored {s0 s : State} (h : Stored s0 s) (h : Nat) (line : Nat) (n : Nat) :
    Stored s0 (s.dirRemove h line n) := by
  unfold State.dirRemove; repeat' first
    | intro _ | with_reducible assumption | with_reducible apply State.dirPut_stored | with_reducible apply State.dirDel_stored
    | with_reducible apply Stored.ite | (fail_if_no_progress (with_reducible (refine Stored.upd ?_ rfl)))
    | with_reducible (refine Stored.snd (by assumption) ?_) | with_reducible (refine Stored.snd2 (by assumption) ?_)
    | with_reducible apply foldl_stored | split

theorem State.dirGrant_stored {s0 s : State} (h : Stored s0 s) (h : Nat) (line : Nat) (n : Nat) (st : LineSt) :
    Stored s0 (s.dirGrant h line n st) := by
  unfold State.dirGrant; repeat' first
    | intro _ | with_reducible assumption | with_reducible apply State.dirPut_stored | with_reducible apply Stored.ite
    | (fail_if_no_progress (with_reducible (refine Stored.upd ?_ rfl))) | with_reducible (refine Stored.snd (by assumption) ?_)
    | with_reducible (refine Stored.snd2 (by assumption) ?_) | with_reducible apply foldl_stored | split

theorem State.startTxn_stored {s0 s : State} (h : Stored s0 s) (h : Nat) (line : Nat) (req : Option Nat) (probes : List (Nat × PrbKind)) :
    Stored s0 (s.startTxn h line req probes) := by
  unfold State.startTxn; repeat' first
    | intro _ | with_reducible assumption | with_reducible apply State.setCache_stored | with_reducible apply State.setHome_stored
    | with_reducible apply foldS_stored

theorem State.endTxn_stored {s0 s : State} (h : Stored s0 s) (h : Nat) (line : Nat) :
    Stored s0 (s.endTxn h line) := by
  unfold State.endTxn; repeat' first
    | intro _ | with_reducible assumption | with_reducible apply State.setHome_stored

theorem State.askBias_stored {s0 s : State} (h : Stored s0 s) (id : Nat) (q : Req) :
    Stored s0 (s.askBias id q) := by
  unfold State.askBias; repeat' first
    | intro _ | with_reducible assumption | with_reducible apply State.setReq_stored | with_reducible apply foldS_stored
    | with_reducible apply State.emit_stored

theorem State.answer_stored {s0 s : State} (h : Stored s0 s) (n : Nat) (line : Nat) (k : PrbKind) :
    Stored s0 (s.answer n line k) := by
  unfold State.answer; repeat' first
    | intro _ | with_reducible assumption | with_reducible apply State.setCache_stored | with_reducible apply Stored.ite
    | (fail_if_no_progress (with_reducible (refine Stored.upd ?_ rfl))) | with_reducible (refine Stored.snd (by assumption) ?_)
    | with_reducible (refine Stored.snd2 (by assumption) ?_) | with_reducible apply foldl_stored | split | dsimp only

theorem State.answerDir_stored {s0 s : State} (h : Stored s0 s) (h : Nat) (line : Nat) (n : Nat) (kind : Option ReqKind) (whole : Bool) (a : PrbAns) :
    Stored s0 (s.answerDir h line n kind whole a) := by
  unfold State.answerDir; repeat' first
    | intro _ | with_reducible assumption | with_reducible apply State.takeBack_stored | with_reducible apply State.dirPut_stored
    | with_reducible apply State.dirRemove_stored | with_reducible apply Stored.ite
    | (fail_if_no_progress (with_reducible (refine Stored.upd ?_ rfl))) | with_reducible (refine Stored.snd (by assumption) ?_)
    | with_reducible (refine Stored.snd2 (by assumption) ?_) | with_reducible apply foldl_stored | split

theorem State.unanswer_stored {s0 s : State} (h : Stored s0 s) (n : Nat) (line : Nat) :
    Stored s0 (s.unanswer n line) := by
  unfold State.unanswer; repeat' first
    | intro _ | with_reducible assumption | with_reducible apply State.setCache_stored

theorem State.evict_stored {s0 s : State} (h : Stored s0 s) (n : Nat) (line : Nat) (l : CLine) :
    Stored s0 (s.evict n line l) := by
  unfold State.evict; repeat' first
    | intro _ | with_reducible assumption | with_reducible apply State.setCache_stored

theorem State.promotionEnd_stored {s0 s : State} (h : Stored s0 s) (c : Nat) (ctx : Nat) (g : Guard) (outcome : Nat) :
    Stored s0 (s.promotionEnd c ctx g outcome) := by
  unfold State.promotionEnd; repeat' first
    | intro _ | with_reducible assumption | with_reducible apply State.missPut_stored

theorem State.cleanLine_stored {s0 s : State} (h : Stored s0 s) (n : Nat) (line : Nat) (keep : Bool) :
    Stored s0 (s.cleanLine n line keep) := by
  unfold State.cleanLine; repeat' first
    | intro _ | with_reducible assumption | with_reducible apply State.takeBack_stored | with_reducible apply State.setCache_stored
    | with_reducible apply State.dirPut_stored | with_reducible apply State.dirRemove_stored | with_reducible apply State.putLineIn_stored
    | with_reducible apply Stored.ite | (fail_if_no_progress (with_reducible (refine Stored.upd ?_ rfl)))
    | with_reducible (refine Stored.snd (by assumption) ?_) | with_reducible (refine Stored.snd2 (by assumption) ?_)
    | with_reducible apply foldl_stored | split | dsimp only

theorem State.cpyFault_stored {s0 s : State} (h : Stored s0 s) (ch : Nat) (va : Nat) (acc : Nat) (sub : Nat) (lvl : Nat) :
    Stored s0 (s.cpyFault ch va acc sub lvl) := by
  unfold State.cpyFault; repeat' first
    | intro _ | with_reducible assumption | with_reducible apply State.xltRecord_stored

theorem State.cpyLost_stored {s0 s : State} (h : Stored s0 s) (ch : Nat) (va : Nat) (pa : Nat) (e : Cpl) :
    Stored s0 (s.cpyLost ch va pa e) := by
  unfold State.cpyLost; repeat' first
    | intro _ | with_reducible assumption | with_reducible apply State.ctxFaultRecord_stored | with_reducible apply Stored.ite

theorem State.copyRecord_stored {s0 s : State} (h : Stored s0 s) (ch : Nat) (status : Nat) (detail : Nat) (done : Nat) :
    Stored s0 (s.copyRecord ch status detail done) := by
  unfold State.copyRecord; repeat' first
    | intro _ | with_reducible assumption | with_reducible apply State.ringPut_stored | with_reducible apply Stored.ite
    | (fail_if_no_progress (with_reducible (refine Stored.upd ?_ rfl))) | with_reducible (refine Stored.snd (by assumption) ?_)
    | with_reducible (refine Stored.snd2 (by assumption) ?_) | with_reducible apply foldl_stored | split | dsimp only

theorem State.doneRecord_stored {s0 s : State} (h : Stored s0 s) (q : Nat) (x : Queue) (c : Cmd) (status : Nat) (detail : Nat) :
    Stored s0 (s.doneRecord q x c status detail) := by
  unfold State.doneRecord; repeat' first
    | intro _ | with_reducible assumption | with_reducible apply State.ringPut_stored

theorem State.flushCaches_stored {s0 s : State} (h : Stored s0 s) (f : Nat) :
    Stored s0 (s.flushCaches f) := by
  unfold State.flushCaches; repeat' first
    | intro _ | with_reducible assumption | with_reducible apply State.cleanLine_stored | with_reducible apply foldS_stored

theorem State.headWrite_stored {s0 s : State} (h : Stored s0 s) (x : Queue) (d : Bytes) :
    Stored s0 (s.headWrite x d) := by
  unfold State.headWrite; repeat' first
    | intro _ | with_reducible assumption | with_reducible apply State.hostWrite_stored | with_reducible apply State.emit_stored

theorem State.drainHeld_stored {s0 s : State} (h : Stored s0 s) (r : Nat) (fuel : Nat) :
    Stored s0 (s.drainHeld r fuel) := by
  induction fuel generalizing s r with
  | zero => unfold State.drainHeld; exact h
  | succ fuel ih =>
  unfold State.drainHeld; repeat' first
    | with_reducible apply ih | intro _ | with_reducible assumption | with_reducible apply State.store_stored
    | with_reducible apply State.store_stored | with_reducible apply Stored.ite | (fail_if_no_progress (with_reducible (refine Stored.upd ?_ rfl)))
    | with_reducible (refine Stored.snd (by assumption) ?_) | with_reducible (refine Stored.snd2 (by assumption) ?_)
    | with_reducible apply foldl_stored | split

theorem State.copyPage_stored {s0 s : State} (h : Stored s0 s) (src : Nat) (dst : Nat) (size : Nat) :
    Stored s0 (s.copyPage src dst size) := by
  unfold State.copyPage; repeat' first
    | intro _ | with_reducible assumption | with_reducible apply State.recallLine_stored | with_reducible apply State.putLine_stored
    | with_reducible apply foldS_stored | with_reducible apply Stored.ite | (fail_if_no_progress (with_reducible (refine Stored.upd ?_ rfl)))
    | with_reducible (refine Stored.snd (by assumption) ?_) | with_reducible (refine Stored.snd2 (by assumption) ?_)
    | with_reducible apply foldl_stored | split

theorem State.migratePage_stored {s0 s : State} (h : Stored s0 s) (root : Nat) (b : Bytes) (i : Nat) :
    Stored s0 (s.migratePage root b i) := by
  unfold State.migratePage; repeat' first
    | intro _ | with_reducible assumption | with_reducible apply State.putLine_stored | with_reducible apply State.copyPage_stored
    | with_reducible apply Stored.ite | (fail_if_no_progress (with_reducible (refine Stored.upd ?_ rfl)))
    | with_reducible (refine Stored.snd (by assumption) ?_) | with_reducible (refine Stored.snd2 (by assumption) ?_)
    | with_reducible apply foldl_stored | split | dsimp only

theorem State.adviseClean_stored {s0 s : State} (h : Stored s0 s) (ctx : Nat) (pages : List Nat) (keep : Bool) :
    Stored s0 (s.adviseClean ctx pages keep) := by
  unfold State.adviseClean; repeat' first
    | intro _ | with_reducible assumption | with_reducible apply State.cleanLine_stored | with_reducible apply foldS_stored

theorem State.groupSend_stored {s0 s : State} (h : Stored s0 s) (i : Nat) (ty : Nat) (d : Bytes) :
    Stored s0 (s.groupSend i ty d) := by
  unfold State.groupSend; repeat' first
    | intro _ | with_reducible assumption | with_reducible apply State.send_stored | with_reducible apply Stored.ite
    | (fail_if_no_progress (with_reducible (refine Stored.upd ?_ rfl))) | with_reducible (refine Stored.snd (by assumption) ?_)
    | with_reducible (refine Stored.snd2 (by assumption) ?_) | with_reducible apply foldl_stored | split

theorem State.rebind_stored {s0 s : State} (h : Stored s0 s) (kind : Nat) (n : Nat) (outcome : Nat) (frm : Nat) (dest : Nat) (efrom : Nat) (eto :
    Nat) (lost : Nat) (first : Option Nat) (started : Nat) :
    Stored s0 (s.rebind kind n outcome frm dest efrom eto lost first started) := by
  unfold State.rebind; repeat' first
    | intro _ | with_reducible assumption | with_reducible apply State.ringPut_stored | with_reducible apply Stored.ite

theorem State.wipeSlice_stored {s0 s : State} (h : Stored s0 s) (n : Nat) :
    Stored s0 (s.wipeSlice n) := by
  unfold State.wipeSlice; repeat' first
    | intro _ | with_reducible assumption | with_reducible apply Stored.ite | (fail_if_no_progress (with_reducible (refine Stored.upd ?_ rfl)))

theorem State.loseHome_stored {s0 s : State} (h : Stored s0 s) (n : Nat) :
    Stored s0 (s.loseHome n) := by
  unfold State.loseHome; repeat' first
    | intro _ | with_reducible assumption | with_reducible apply State.setHome_stored | with_reducible apply Stored.ite
    | (fail_if_no_progress (with_reducible (refine Stored.upd ?_ rfl)))

theorem State.copySlice_stored {s0 s : State} (h : Stored s0 s) (x : Nat) (y : Nat) :
    Stored s0 (s.copySlice x y) := by
  unfold State.copySlice; repeat' first
    | intro _ | with_reducible assumption | with_reducible apply Stored.ite | (fail_if_no_progress (with_reducible (refine Stored.upd ?_ rfl)))

theorem State.fillLast_stored {s0 s : State} (h : Stored s0 s) (op : Nat) (last : Nat) (data : List Nat) :
    Stored s0 (s.fillLast op last data) := by
  unfold State.fillLast; repeat' first
    | intro _ | with_reducible assumption | with_reducible apply State.wipeSlice_stored | with_reducible apply State.copySlice_stored
    | with_reducible apply Stored.ite | (fail_if_no_progress (with_reducible (refine Stored.upd ?_ rfl)))
    | with_reducible (refine Stored.snd (by assumption) ?_) | with_reducible (refine Stored.snd2 (by assumption) ?_)
    | with_reducible apply foldl_stored | split

theorem State.takeEntryOf_stored {s0 s : State} (h : Stored s0 s) (l : Nat) :
    Stored s0 (s.takeEntryOf l) := by
  unfold State.takeEntryOf; repeat' first
    | intro _ | with_reducible assumption | with_reducible apply State.setStitch_stored

theorem State.answerPacket_stored {s0 s : State} (h : Stored s0 s) (l : Nat) (h : Bytes) (status : Nat) (d : Bytes) :
    Stored s0 (s.answerPacket l h status d) := by
  unfold State.answerPacket; repeat' first
    | intro _ | with_reducible assumption | with_reducible apply State.send_stored

theorem State.flushHost_stored {s0 s : State} (h : Stored s0 s)  :
    Stored s0 (s.flushHost) := by
  unfold State.flushHost; repeat' first
    | intro _ | with_reducible assumption | with_reducible apply foldS_stored | with_reducible apply State.emit_stored
    | with_reducible apply Stored.ite | (fail_if_no_progress (with_reducible (refine Stored.upd ?_ rfl)))

theorem State.recallLost_stored {s0 s : State} (h : Stored s0 s) (d : Nat) (h : Nat) (line : Nat) :
    Stored s0 (s.recallLost d h line) := by
  unfold State.recallLost; repeat' first
    | intro _ | with_reducible assumption | with_reducible apply State.recallLine_stored | with_reducible apply foldS_stored
    | with_reducible apply State.dirRemove_stored | with_reducible apply Stored.ite

theorem State.emptyCaches_stored {s0 s : State} (h : Stored s0 s)  :
    Stored s0 (s.emptyCaches) := by
  unfold State.emptyCaches; repeat' first
    | intro _ | with_reducible assumption | with_reducible apply State.cleanLine_stored | with_reducible apply State.takeBack_stored
    | with_reducible apply foldS_stored | with_reducible apply Stored.ite | (fail_if_no_progress (with_reducible (refine Stored.upd ?_ rfl)))

theorem State.fromHost_stored {s0 s : State} (h : Stored s0 s) (line : Nat) (d : Bytes) :
    Stored s0 (s.fromHost line d) := by
  unfold State.fromHost; repeat' first
    | intro _ | with_reducible assumption | with_reducible apply Stored.ite | (fail_if_no_progress (with_reducible (refine Stored.upd ?_ rfl)))

theorem State.snoopAnswer_stored {s0 s : State} (h : Stored s0 s) (line : Nat) :
    Stored s0 (s.snoopAnswer line) := by
  unfold State.snoopAnswer; repeat' first
    | intro _ | with_reducible assumption | with_reducible apply State.emit_stored

theorem State.giveHost_stored {s0 s : State} (h : Stored s0 s) (line : Nat) :
    Stored s0 (s.giveHost line) := by
  unfold State.giveHost; repeat' first
    | intro _ | with_reducible assumption | with_reducible apply Stored.ite | (fail_if_no_progress (with_reducible (refine Stored.upd ?_ rfl)))

theorem State.hostRefused_stored {s0 s : State} (h : Stored s0 s) (pa : Nat) (reason : Nat) (write : Bool) :
    Stored s0 (s.hostRefused pa reason write) := by
  unfold State.hostRefused; repeat' first
    | intro _ | with_reducible assumption | with_reducible apply State.ringPut_stored | with_reducible apply Stored.ite
    | (fail_if_no_progress (with_reducible (refine Stored.upd ?_ rfl)))

theorem State.retag_stored {s0 s : State} (h : Stored s0 s) (m : Nat) (o : Nat) (bad : Bool) :
    Stored s0 (s.retag m o bad) := by
  unfold State.retag; repeat' first
    | intro _ | with_reducible assumption | with_reducible apply Stored.ite | (fail_if_no_progress (with_reducible (refine Stored.upd ?_ rfl)))


end Sys2Proof.Machine
end

