-- ==== Sys2Proof/Tests/Slice0.lean ====
section
/-! SUPPORT. Sys2Proof/Tests/Slice0.lean: the well-formedness smoke test, the spec's worked examples, and for each obligation a state and operands that meet the hypotheses of its clauses. -/

section
set_option Elab.async false
open Sys2Proof Sys2Proof.Machine


/-- A block of `n` bytes with little-endian fields: offset, size, value. -/
def wBlk (n : Nat) (l : List (Nat × Nat × Nat)) : Bytes := l.foldl (fun b f => patch b f.1 (le f.2.1 f.2.2)) (zeros n)
/-- The first address of host memory. -/
def wHost : Nat := 0x200000000000
/-- A slot of context 0 that can issue: its program counter is in its scratchpad. -/
def wSlot : Slot := { ctx := 0, spWays := [0, 1], accWays := [0, 1], halted := false }
/-- Core 0 runs one slot; one memory slice serves position 0; context 0 has folio 0. -/
def wCore (x : Slot) (c : Core := {}) : State :=
  { cores := [(0, { c with slots := [(0, x)], running := some 0 })], ctxs := [(0, { folio := 0 })], folios := [(0, { valid := true })],
    memSl := [(0, { st := .owned, owner := 0, serve := some 0 })], frames := [(0, 0)] }
/-- A command of a queue: opcode and arguments. -/
def wCmd (op : Nat) (args : List (Nat × Nat × Nat) := []) : Cmd := { bytes := wBlk 64 ((0, 1, op) :: args), index := none, fetched := 0 }
/-- A queue whose first command is `c`. -/
def wQue (c : Cmd) (t : QType := .mgmt) (ph : CmdPhase := .fresh) : Queue := { type := t, ctx := 0, cmds := [c], phase := ph }
/-- Queue 1 holds one command; context 0 and folio 0 are there; one memory slice serves position 0; host memory holds a block. -/
def wPart (x : Queue) (b : Bytes := []) : State :=
  { queues := [(1, x)], ctxs := [(0, { folio := 0 })], folios := [(0, { valid := true })], host := mwrite [] 0 b,
    memSl := [(0, { st := .owned, owner := 0, serve := some 0 })], frames := [(0, 0)] }
/-- A program of one section and one placement for four cores. -/
def wQuire : Bytes := wBlk 256
  [(0, 4, 0x52495551), (4, 2, 1), (8, 4, 256), (0x10, 1, 1), (0x11, 1, 1), (0x12, 1, 1), (0x14, 2, 1), (0x18, 4, 128), (0x1C, 4, 160),
   (128, 2, 4), (130, 2, 4), (132, 4, 192), (160, 1, 1), (168, 4, 256),
   (194, 4, 0xFFFFFFFF), (210, 4, 0xFFFFFFFF), (226, 4, 0xFFFFFFFF), (242, 4, 0xFFFFFFFF)]
/-- A coded set holds its parity while memory lists nothing. -/
theorem wParity {s : State} {a b c e q : Nat} (h : s.hbm = []) : ParityOk s a b c e q := by
  intro o _
  have hm : ∀ x, mbyte [] x = 0 := fun _ => rfl
  simp only [h, hm]; decide
/-- A CRC keeps its 32 bits. -/
theorem wCrcBit {c : Nat} (h : c < 2 ^ 32) : crcBit c < 2 ^ 32 := by
  have h2 : c / 2 < 2 ^ 32 := by omega
  unfold crcBit; split
  · exact Nat.xor_lt_two_pow h2 (by decide)
  · exact h2
/-- The same over a byte. -/
theorem wCrcByte {c : Nat} (b : Byte) (h : c < 2 ^ 32) : crcByte c b < 2 ^ 32 := by
  have hb : b.toNat < 2 ^ 32 := by have := b.isLt; omega
  exact wCrcBit (wCrcBit (wCrcBit (wCrcBit (wCrcBit (wCrcBit (wCrcBit (wCrcBit (Nat.xor_lt_two_pow h hb))))))))
/-- The same over a block. -/
theorem wCrcFold (b : Bytes) : ∀ {c : Nat}, c < 2 ^ 32 → b.foldl crcByte c < 2 ^ 32 := by
  induction b with
  | nil => exact fun h => h
  | cons x t ih => exact fun h => ih (wCrcByte x h)
/-- A configuration CRC has 32 bits. -/
theorem wSweepLt (s : State) : s.sweepCrc < 2 ^ 32 := by
  unfold State.sweepCrc crc32c
  exact Nat.xor_lt_two_pow (wCrcFold _ (by decide)) (by decide)
/-- No covered register is the result of the check. -/
theorem wCovered : ∀ c ∈ coveredRegs, c ≠ rCfgCur := by decide +kernel
/-- Whether an island is dark does not depend on a register. -/
theorem wDark (s : State) (c lo wd v i : Nat) : (s.setFld c lo wd v).dark i = s.dark i := by simp [State.dark, State.down]
/-- The configuration CRC does not cover its own result. -/
theorem wSweepSame (s : State) (v : Nat) : (s.setFld rCfgCur 32 32 v).sweepCrc = s.sweepCrc := by
  have h : ∀ (f g : Nat → Bytes), (∀ c ∈ coveredRegs, f c = g c) → coveredRegs.flatMap f = coveredRegs.flatMap g :=
    fun f g => List.flatMap_congr
  unfold State.sweepCrc
  refine congrArg crc32c (h _ _ (fun c hc => ?_))
  rw [State.reg_setFld_ne s (wCovered c hc), wDark]
/-- A sweep can agree with its reference. -/
theorem wSweepAgrees : ∃ s : State, s.cfg.sweeping = true ∧ s.cfg.void = false ∧ s.cfg.capSweep = false ∧ s.sweepCrc = s.fld rCfgCur 32 32 := by
  refine ⟨({ cfg := { sweeping := true } } : State).setFld rCfgCur 32 32 ({ cfg := { sweeping := true } } : State).sweepCrc, rfl, rfl, rfl, ?_⟩
  rw [wSweepSame, State.fld_setFld_self _ (by decide), Nat.mod_eq_of_lt (wSweepLt _)]
/-- A sweep can differ from its reference. -/
theorem wSweepDiffers : ∃ s : State, s.cfg.sweeping = true ∧ s.cfg.void = false ∧ s.cfg.capSweep = false ∧ bit (s.reg rCfgCtl) 0 = true ∧
    s.sweepCrc ≠ s.fld rCfgCur 32 32 := by
  let s0 : State := ({ cfg := { sweeping := true } } : State).setFld rCfgCtl 0 1 1
  have h : (s0.setFld rCfgCur 32 32 (s0.sweepCrc + 1)).reg rCfgCtl = s0.reg rCfgCtl := State.reg_setFld_ne s0 (by decide) _ _ _
  refine ⟨s0.setFld rCfgCur 32 32 (s0.sweepCrc + 1), rfl, rfl, rfl, ?_, ?_⟩
  · rw [h]; decide +kernel
  · rw [wSweepSame, State.fld_setFld_self _ (by decide)]
    have := wSweepLt s0; omega
/-- A write of the hub into host memory succeeds. -/
theorem wWriteHost (fuel : Nat) : ∀ (s : State) (va : Nat) (d : Bytes), s.prots = [] → wHost ≤ va → va + 64 * fuel ≤ 2 ^ 46 →
    (s.hubWriteN 0 va 1 fuel d).1 = true := by
  induction fuel with
  | zero => intro s va d _ _ _; rfl
  | succ n ih =>
    intro s va d hp h1 h2
    unfold wHost at h1
    have hpl : placeOf va = .host (va - hostBase) := by
      unfold placeOf hostBase
      rw [if_neg (by omega), if_neg (by omega), if_pos (by omega)]
    have hr : s.route va = .host (va - hostBase) := by unfold State.route State.remotePos; rw [hp]; exact hpl
    have hd : (if s.lineBusyAt (lineOf va) then s.patchCopies (lineOf va) (va - lineOf va) (d.take (64 - va % 64)) else s.dropLine (lineOf va)).prots =
        s.prots := by
      split
      · rfl
      unfold State.dropLine State.setHome; dsimp only; split
      · split <;> rfl
      · rfl
    unfold State.hubWriteN State.hubXlate
    split
    · rfl
    · rw [if_pos rfl, hpl, if_pos ⟨by omega, by simp⟩]
      dsimp only
      unfold State.writeLine
      rw [hr]
      unfold State.putLine
      rw [hpl]
      exact ih _ _ _ (by simpa using hd.trans hp) (by unfold wHost; omega) (by have := Nat.mod_lt va (show 0 < 64 by decide); omega)
/-- A fitted block has its length. -/
theorem wFitLen (n : Nat) (b : Bytes) : (fit n b).length = n := by simp [fit, zeros]; try omega
/-- A report of ATTEST fits in 8 KiB. -/
theorem wReport (s : State) (f : Nat) (n : Bytes) : (s.attestReport f n).length ≤ 8192 := by
  simp [State.attestReport, wFitLen, le, zeros]
/-- An image whose header and component are sound. -/
def wImage : Bytes :=
  wBlk 7424 [(0, 4, 0x5A475046), (4, 2, 1), (8, 2, 1), (0x0C, 4, 7424), (0x14, 4, 1), (0x18, 4, 128), (0x40, 1, 1), (2788, 4, 4627)]
/-- Its header passes. -/
theorem wImageOk : imgHeaderOk wImage = true := by decide +kernel
/-- Its key is all zeros. -/
theorem wImg2 : Machine.slice wImage (fieldLe wImage 0x18 4) 2592 = zeros 2592 := by decide +kernel
/-- An image passes wherever the vendor's key and a signature by it are as the hypotheses say: both are opaque (log 6), so no
image can be shown to pass without them. -/
theorem test_wit_signedImage (h1 : Config.sha3 (zeros 2592) = Config.vendorKeyHash)
    (h2 : Config.mldsaVerify (zeros 2592) (Config.sha3 (wImage.take 2784)) (Machine.slice wImage (2784 + 8) 4627) = true) :
    ∃ (s : State) (b : Bytes), s.clasp.boot = .verifying ∧ s.clasp.flash = some b ∧ s.imgFail b = 0 := by
  refine ⟨{ clasp := { boot := .verifying, flash := some wImage } }, wImage, rfl, rfl, ?_⟩
  have hl : wImage.length = 7424 := by decide +kernel
  have hr : ¬ (fieldLe wImage 2784 4 ≠ 0 ∨ fieldLe wImage (2784 + 4) 4 ≠ 4627 ∨ fieldLe wImage (2784 + 4635) 5 ≠ 0) := by decide +kernel
  have hv : ¬ (fieldLe wImage 8 2 < 0) := by omega
  unfold State.imgFail
  dsimp only
  rw [wImg2, hl]
  rw [if_neg (by rw [wImageOk]; simp), if_neg (by rw [h1]; simp)]
  rw [if_neg (by rw [h2]; simpa using hr), if_neg (by omega), if_neg (by decide +kernel)]


/-- A pair whose first part is true. -/
theorem wPair {p : Bool × State} (h : p.1 = true) : p = (true, p.2) := Prod.ext h rfl
/-- An ATTEST command. -/
def wAttestCmd : Cmd := { wCmd 0x62 [(0x30, 8, wHost), (0x38, 8, wHost + 4096)] with index := some 0 }
/-- An ATTEST command can have all it needs. -/
theorem wAttest : ∃ (s s1 s2 s3 : State) (q : Nat) (x : Queue) (c : Cmd) (n : Bytes), Taken s q 0x62 x c s1 ∧ x.type = .mgmt ∧
    s1.folioBad (c.arg 0x28 1) 0x28 = none ∧ c.arg 0x38 8 ≠ 0 ∧ c.index.isSome = true ∧ s1.hubRead x.ctx (c.arg 0x30 8) 32 = (some n, s2) ∧
    s2.hubWrite x.ctx (c.arg 0x38 8) (s2.attestReport (c.arg 0x28 1) n) = (true, s3) := by
  have hv : wAttestCmd.arg 0x38 8 = wHost + 4096 := by decide +kernel
  refine ⟨wPart (wQue wAttestCmd), wPart (wQue wAttestCmd), wPart (wQue wAttestCmd),
    ((wPart (wQue wAttestCmd)).hubWrite (wQue wAttestCmd).ctx (wAttestCmd.arg 0x38 8)
      ((wPart (wQue wAttestCmd)).attestReport (wAttestCmd.arg 0x28 1) (zeros 32))).2, 1, wQue wAttestCmd, wAttestCmd, zeros 32,
    ⟨by decide +kernel, by decide +kernel⟩, by decide +kernel, by decide +kernel, by decide +kernel, by decide +kernel, by decide +kernel, ?_⟩
  refine wPair ?_
  rw [hv]
  have h0 : (wQue wAttestCmd).ctx = 0 := rfl
  unfold State.hubWrite; rw [h0]
  refine wWriteHost _ _ _ _ rfl (by decide) ?_
  have h := wReport (wPart (wQue wAttestCmd)) (wAttestCmd.arg 0x28 1) (zeros 32)
  exact le_trans (Nat.add_le_add_left (Nat.mul_le_mul_left 64 (Nat.add_le_add_right (Nat.div_le_div_right h) 2)) _) (by decide)

/-- What EmptyQueueLetsOneHubCyclePass assumes is met. -/
theorem test_wit_EmptyQueueLetsOneHubCyclePass :
  ∃ (s : State), s.pending = [] ∧ s.clasp.rails = true ∧ s.link.atsWait = [] ∧ ((∀ m, (s.memSlice m).rotAt = none)) :=
  by refine ⟨{ clasp := { rails := true } }, ?_, ?_, ?_, fun _ => rfl⟩ <;> decide +kernel

/-- What ScalarArithmeticNeverFaults assumes is met. -/
theorem test_wit_ScalarArithmeticNeverFaults :
  (∃ fn : Nat, fn = 5 ∨ fn = 6 ∨ fn = 7) ∧
  (∃ (s : State) (s1 : State) (core : Nat) (w : Word) (k : Nat) (x : Slot), Ready s core w 0x00 k x s1) ∧
  (∃ (s : State) (s1 : State) (core : Nat) (w : Word) (k : Nat) (x : Slot), Ready s core w 0x01 k x s1) :=
  ⟨⟨5, .inl rfl⟩,
   by refine ⟨(wCore wSlot), (wCore wSlot), 0, 0, 0, wSlot, ⟨?_, ?_, ?_, ?_⟩⟩ <;> decide +kernel,
   by refine ⟨(wCore wSlot), (wCore wSlot), 0, 0x400000000000000, 0, wSlot, ⟨?_, ?_, ?_, ?_⟩⟩ <;> decide +kernel⟩

/-- What ScalarResultsAndBranches assumes is met. -/
theorem test_wit_ScalarResultsAndBranches :
  (∃ (s : State) (s1 : State) (core : Nat) (w : Word) (k : Nat) (x : Slot), Ready s core w 0x00 k x s1) ∧
  (∃ (s : State) (s1 : State) (core : Nat) (w : Word) (k : Nat) (x : Slot), Ready s core w 0x01 k x s1) ∧
  (∃ (s : State) (s1 : State) (core : Nat) (w : Word) (k : Nat) (x : Slot), Ready s core w 0x07 k x s1) ∧
  (∃ (s : State) (s1 : State) (core : Nat) (w : Word) (k : Nat) (x : Slot), Ready s core w 0x05 k x s1 ∧ brTaken (fd w 45 3) (x.sr (fd w 53 5)) (x.sr (fd w 48 5)) = false) ∧
  (∃ (s : State) (s1 : State) (core : Nat) (w : Word) (k : Nat) (x : Slot), Ready s core w 0x05 k x s1 ∧ brTaken (fd w 45 3) (x.sr (fd w 53 5)) (x.sr (fd w 48 5)) = true ∧ pcOk (x.pc + imm32 w) = true) ∧
  (∃ (s : State) (s1 : State) (core : Nat) (w : Word) (k : Nat) (x : Slot), Ready s core w 0x06 k x s1 ∧ pcOk (jmpTarget w x) = true) ∧
  (∃ (s : State) (s1 : State) (core : Nat) (w : Word) (k : Nat) (x : Slot), Ready s core w 0x06 k x s1 ∧ pcOk (jmpTarget w x) = false) :=
  ⟨by refine ⟨(wCore wSlot), (wCore wSlot), 0, 0, 0, wSlot, ⟨?_, ?_, ?_, ?_⟩⟩ <;> decide +kernel,
   by refine ⟨(wCore wSlot), (wCore wSlot), 0, 0x400000000000000, 0, wSlot, ⟨?_, ?_, ?_, ?_⟩⟩ <;> decide +kernel,
   by refine ⟨(wCore wSlot), (wCore wSlot), 0, 0x1C00000000000000, 0, wSlot, ⟨?_, ?_, ?_, ?_⟩⟩ <;> decide +kernel,
   by refine ⟨(wCore wSlot), (wCore wSlot), 0, 0x1400200000000000, 0, wSlot, ⟨?_, ?_, ?_, ?_⟩, ?_⟩ <;> decide +kernel,
   by refine ⟨(wCore wSlot), (wCore wSlot), 0, 0x1400000000000000, 0, wSlot, ⟨?_, ?_, ?_, ?_⟩, ?_, ?_⟩ <;> decide +kernel,
   by refine ⟨(wCore wSlot), (wCore wSlot), 0, 0x1800000000000000, 0, wSlot, ⟨?_, ?_, ?_, ?_⟩, ?_⟩ <;> decide +kernel,
   by refine ⟨(wCore wSlot), (wCore wSlot), 0, 0x1800000000000004, 0, wSlot, ⟨?_, ?_, ?_, ?_⟩, ?_⟩ <;> decide +kernel⟩

/-- What ScratchpadLoadsAndStores assumes is met. -/
theorem test_wit_ScratchpadLoadsAndStores :
  (∃ (s : State) (s1 : State) (core : Nat) (w : Word) (k : Nat) (x : Slot), Ready s core w 0x02 k x s1 ∧ lsAddr w x % lsSize w = 0 ∧ fbit w 45 = true ∧ x.spIn (lsAddr w x % 2 ^ 19) (lsSize w) = true ∧ (s1.core core).spFree k x (lsAddr w x % 2 ^ 19) (lsSize w) false = true) ∧
  (∃ (s : State) (s1 : State) (core : Nat) (w : Word) (k : Nat) (x : Slot), Ready s core w 0x03 k x s1 ∧ lsAddr w x % lsSize w = 0 ∧ fbit w 45 = true ∧ x.spIn (lsAddr w x % 2 ^ 19) (lsSize w) = true ∧ (s1.core core).spFree k x (lsAddr w x % 2 ^ 19) (lsSize w) true = true) ∧
  (∃ (s : State) (s1 : State) (core : Nat) (w : Word) (k : Nat) (x : Slot), Ready s core w 0x02 k x s1 ∧ lsAddr w x % lsSize w ≠ 0) ∧
  (∃ (s : State) (s1 : State) (core : Nat) (w : Word) (k : Nat) (x : Slot), Ready s core w 0x03 k x s1 ∧ lsAddr w x % lsSize w ≠ 0) ∧
  (∃ (s : State) (s1 : State) (core : Nat) (w : Word) (k : Nat) (x : Slot), Ready s core w 0x02 k x s1 ∧ lsAddr w x % lsSize w = 0 ∧ fbit w 45 = true ∧ x.spIn (lsAddr w x % 2 ^ 19) (lsSize w) = false) ∧
  (∃ (s : State) (s1 : State) (core : Nat) (w : Word) (k : Nat) (x : Slot), Ready s core w 0x03 k x s1 ∧ lsAddr w x % lsSize w = 0 ∧ fbit w 45 = true ∧ x.spIn (lsAddr w x % 2 ^ 19) (lsSize w) = false) :=
  ⟨by refine ⟨(wCore wSlot), (wCore wSlot), 0, 0x800E0000002FFF8, 0, wSlot, ⟨?_, ?_, ?_, ?_⟩, ?_, ?_, ?_, ?_⟩ <;> decide +kernel,
   by refine ⟨(wCore wSlot), (wCore wSlot), 0, 0xC00E0000002FFF8, 0, wSlot, ⟨?_, ?_, ?_, ?_⟩, ?_, ?_, ?_, ?_⟩ <;> decide +kernel,
   by refine ⟨(wCore wSlot), (wCore wSlot), 0, 0x800E0000002FFF9, 0, wSlot, ⟨?_, ?_, ?_, ?_⟩, ?_⟩ <;> decide +kernel,
   by refine ⟨(wCore wSlot), (wCore wSlot), 0, 0xC00E0000002FFF9, 0, wSlot, ⟨?_, ?_, ?_, ?_⟩, ?_⟩ <;> decide +kernel,
   by refine ⟨(wCore wSlot), (wCore wSlot), 0, 0x800E00000030000, 0, wSlot, ⟨?_, ?_, ?_, ?_⟩, ?_, ?_, ?_⟩ <;> decide +kernel,
   by refine ⟨(wCore wSlot), (wCore wSlot), 0, 0xC00E00000030000, 0, wSlot, ⟨?_, ?_, ?_, ?_⟩, ?_, ?_, ?_⟩ <;> decide +kernel⟩

/-- What DeviceLoadsStoresAndAtomics assumes is met. -/
theorem test_wit_DeviceLoadsStoresAndAtomics :
  (∃ (s : State) (s1 : State) (s2 : State) (core : Nat) (w : Word) (k : Nat) (x : Slot) (pa : _) (l : CLine), Ready s core w 0x02 k x s1 ∧ lsAddr w x % lsSize w = 0 ∧ fbit w 45 = false ∧ x.wait = .none ∧ s1.xlate core k x (lsAddr w x) 0 0 = .ok (pa, false, s2) ∧ ((s2.route pa = .hbm ∨ ∃ a, s2.route pa = .host a)) ∧ s2.storeBusy core k (lineOf pa) = false ∧ s2.line? (s2.sliceOf core) (lineOf pa) = some l ∧ ((fbit w 44 = false ∨ l.st ≠ .s))) ∧
  (∃ (s : State) (s1 : State) (core : Nat) (w : Word) (k : Nat) (x : Slot) (r : _) (q : Req), Ready s core w 0x02 k x s1 ∧ lsAddr w x % lsSize w = 0 ∧ fbit w 45 = false ∧ x.wait = .mem r ∧ s1.req? r = some q ∧ q.status = some .ok) ∧
  (∃ (s : State) (s1 : State) (s2 : State) (core : Nat) (w : Word) (k : Nat) (x : Slot) (pa : _) (l : CLine), Ready s core w 0x03 k x s1 ∧ lsAddr w x % lsSize w = 0 ∧ fbit w 45 = false ∧ s1.xlate core k x (lsAddr w x) 1 0 = .ok (pa, false, s2) ∧ ((s2.route pa = .hbm ∨ ∃ a, s2.route pa = .host a)) ∧ s2.storeBusy core k (lineOf pa) = false ∧ s2.lineBusy (s2.sliceOf core) (lineOf pa) = false ∧ s2.line? (s2.sliceOf core) (lineOf pa) = some l ∧ ((l.st = .m ∨ l.st = .e))) ∧
  (∃ (s : State) (s1 : State) (s2 : State) (core : Nat) (w : Word) (k : Nat) (x : Slot) (pa : _) (l : CLine), Ready s core w 0x04 k x s1 ∧ (x.sr (fd w 48 5)).toNat % (if fbit w 35 then 8 else 4) = 0 ∧ x.wait = .none ∧ s1.xlate core k x (x.sr (fd w 48 5)).toNat 3 0 = .ok (pa, false, s2) ∧ ((s2.route pa = .hbm ∨ ∃ a, s2.route pa = .host a)) ∧ s2.storeBusy core k (lineOf pa) = false ∧ s2.lineBusy (s2.sliceOf core) (lineOf pa) = false ∧ s2.line? (s2.sliceOf core) (lineOf pa) = some l ∧ ((l.st = .m ∨ l.st = .e))) ∧
  (∃ (s : State) (s1 : State) (core : Nat) (w : Word) (k : Nat) (x : Slot) (r : _) (q : Req), Ready s core w 0x04 k x s1 ∧ (x.sr (fd w 48 5)).toNat % (if fbit w 35 then 8 else 4) = 0 ∧ x.wait = .mem r ∧ s1.req? r = some q ∧ q.status = some .ok) :=
  ⟨by refine ⟨{ wCore { wSlot with sregs := [(1, 0x200000000000)] } with caches := [(0, { lines := [(wHost, { st := .m, data := zeros 64 })] })] }, { wCore { wSlot with sregs := [(1, 0x200000000000)] } with caches := [(0, { lines := [(wHost, { st := .m, data := zeros 64 })] })] }, { wCore { wSlot with sregs := [(1, 0x200000000000)] } with caches := [(0, { lines := [(wHost, { st := .m, data := zeros 64 })] })] }, 0, 0x801000000000000, 0, { wSlot with sregs := [(1, 0x200000000000)] }, wHost, { st := .m, data := zeros 64 }, ⟨?_, ?_, ?_, ?_⟩, ?_, ?_, ?_, ?_, .inr ⟨0, ?_⟩, ?_, ?_, ?_⟩ <;> decide +kernel,
   by refine ⟨{ wCore { wSlot with sregs := [(1, 0x200000000000)], wait := .mem 7 } with reqs := [(7, { kind := .getShare, issuer := .scalar 0 0, status := some .ok })] }, { wCore { wSlot with sregs := [(1, 0x200000000000)], wait := .mem 7 } with reqs := [(7, { kind := .getShare, issuer := .scalar 0 0, status := some .ok })] }, 0, 0x801000000000000, 0, { wSlot with sregs := [(1, 0x200000000000)], wait := .mem 7 }, 7, { kind := .getShare, issuer := .scalar 0 0, status := some .ok }, ⟨?_, ?_, ?_, ?_⟩, ?_, ?_, ?_, ?_, ?_⟩ <;> decide +kernel,
   by refine ⟨{ wCore { wSlot with sregs := [(1, 0x200000000000)] } with caches := [(0, { lines := [(wHost, { st := .m, data := zeros 64 })] })] }, { wCore { wSlot with sregs := [(1, 0x200000000000)] } with caches := [(0, { lines := [(wHost, { st := .m, data := zeros 64 })] })] }, { wCore { wSlot with sregs := [(1, 0x200000000000)] } with caches := [(0, { lines := [(wHost, { st := .m, data := zeros 64 })] })] }, 0, 0xC01000000000000, 0, { wSlot with sregs := [(1, 0x200000000000)] }, wHost, { st := .m, data := zeros 64 }, ⟨?_, ?_, ?_, ?_⟩, ?_, ?_, ?_, .inr ⟨0, ?_⟩, ?_, ?_, ?_, ?_⟩ <;> decide +kernel,
   by refine ⟨{ wCore { wSlot with sregs := [(1, 0x200000000000)] } with caches := [(0, { lines := [(wHost, { st := .m, data := zeros 64 })] })] }, { wCore { wSlot with sregs := [(1, 0x200000000000)] } with caches := [(0, { lines := [(wHost, { st := .m, data := zeros 64 })] })] }, { wCore { wSlot with sregs := [(1, 0x200000000000)] } with caches := [(0, { lines := [(wHost, { st := .m, data := zeros 64 })] })] }, 0, 0x1001000000000000, 0, { wSlot with sregs := [(1, 0x200000000000)] }, wHost, { st := .m, data := zeros 64 }, ⟨?_, ?_, ?_, ?_⟩, ?_, ?_, ?_, .inr ⟨0, ?_⟩, ?_, ?_, ?_, ?_⟩ <;> decide +kernel,
   by refine ⟨{ wCore { wSlot with sregs := [(1, 0x200000000000)], wait := .mem 7 } with reqs := [(7, { kind := .getShare, issuer := .scalar 0 0, status := some .ok })] }, { wCore { wSlot with sregs := [(1, 0x200000000000)], wait := .mem 7 } with reqs := [(7, { kind := .getShare, issuer := .scalar 0 0, status := some .ok })] }, 0, 0x1001000000000000, 0, { wSlot with sregs := [(1, 0x200000000000)], wait := .mem 7 }, 7, { kind := .getShare, issuer := .scalar 0 0, status := some .ok }, ⟨?_, ?_, ?_, ?_⟩, ?_, ?_, ?_, ?_⟩ <;> decide +kernel⟩

/-- What VectorInstructionsComplete assumes is met. -/
theorem test_wit_VectorInstructionsComplete :
  (∃ (s : State) (s1 : State) (core : Nat) (w : Word) (k : Nat) (x : Slot), Ready s core w 0x10 k x s1 ∧ vopFmtOk w = true) ∧
  (∃ (s : State) (s1 : State) (core : Nat) (w : Word) (k : Nat) (x : Slot), Ready s core w 0x10 k x s1 ∧ vopFmtOk w = false) ∧
  (∃ (s : State) (s1 : State) (core : Nat) (w : Word) (k : Nat) (x : Slot), Ready s core w 0x11 k x s1 ∧ fd w 55 3 = 0 ∧ vlsAddr w x % 2 ^ 19 % 32 = 0 ∧ x.spIn (vlsAddr w x % 2 ^ 19) (64 * vlsLane w) = true ∧ (s1.core core).spFree k x (vlsAddr w x % 2 ^ 19) (64 * vlsLane w) false = true) ∧
  (∃ (s : State) (s1 : State) (core : Nat) (w : Word) (k : Nat) (x : Slot), Ready s core w 0x11 k x s1 ∧ fd w 55 3 = 1 ∧ vlsAddr w x % 2 ^ 19 % 32 = 0 ∧ x.spIn (vlsAddr w x % 2 ^ 19) (64 * vlsLane w) = true ∧ (s1.core core).spFree k x (vlsAddr w x % 2 ^ 19) (64 * vlsLane w) true = true) ∧
  (∃ (s : State) (s1 : State) (core : Nat) (w : Word) (k : Nat) (x : Slot), Ready s core w 0x11 k x s1 ∧ fd w 55 3 = 2 ∧ fd w 23 4 = 0 ∧ vlsAddr w x < 64 ∧ x.accIn (fd w 21 2) = true ∧ (s1.core core).accFree k (fd w 21 2) false = true) ∧
  (∃ (s : State) (s1 : State) (core : Nat) (w : Word) (k : Nat) (x : Slot), Ready s core w 0x11 k x s1 ∧ fd w 55 3 = 3 ∧ fd w 23 4 = 0 ∧ vlsAddr w x < 64 ∧ x.accIn (fd w 21 2) = true ∧ (s1.core core).accFree k (fd w 21 2) true = true) :=
  ⟨by refine ⟨(wCore wSlot), (wCore wSlot), 0, 0x4000000000000000, 0, wSlot, ⟨?_, ?_, ?_, ?_⟩, ?_⟩ <;> decide +kernel,
   by refine ⟨(wCore wSlot), (wCore wSlot), 0, 0x4000000300000000, 0, wSlot, ⟨?_, ?_, ?_, ?_⟩, ?_⟩ <;> decide +kernel,
   by refine ⟨(wCore wSlot), (wCore wSlot), 0, 0x4400000000000000, 0, wSlot, ⟨?_, ?_, ?_, ?_⟩, ?_, ?_, ?_, ?_⟩ <;> decide +kernel,
   by refine ⟨(wCore wSlot), (wCore wSlot), 0, 0x4480000000000000, 0, wSlot, ⟨?_, ?_, ?_, ?_⟩, ?_, ?_, ?_, ?_⟩ <;> decide +kernel,
   by refine ⟨(wCore wSlot), (wCore wSlot), 0, 0x4500000000000000, 0, wSlot, ⟨?_, ?_, ?_, ?_⟩, ?_, ?_, ?_, ?_, ?_⟩ <;> decide +kernel,
   by refine ⟨(wCore wSlot), (wCore wSlot), 0, 0x4580000000000000, 0, wSlot, ⟨?_, ?_, ?_, ?_⟩, ?_, ?_, ?_, ?_, ?_⟩ <;> decide +kernel⟩

/-- What MatrixInstructionsComplete assumes is met. -/
theorem test_wit_MatrixInstructionsComplete :
  (∃ (s : State) (s1 : State) (core : Nat) (w : Word) (k : Nat) (x : Slot), Ready s core w 0x20 k x s1 ∧ mmaFault x w = none ∧ (s1.core core).queued k < 2) ∧
  (∃ (s : State) (s1 : State) (core : Nat) (w : Word) (k : Nat) (x : Slot) (cause : _), Ready s core w 0x20 k x s1 ∧ mmaFault x w = some cause) ∧
  (∃ (s : State) (s1 : State) (core : Nat) (w : Word) (k : Nat) (x : Slot), Ready s core w 0x21 k x s1 ∧ rqFault x w = none ∧ (s1.core core).queued k < 2) ∧
  (∃ (s : State) (core : Nat) (k : Nat) (x : Slot) (o : MatOp), s.matHead core = some (k, x, o) ∧ major o.w = 0x20) ∧
  (∃ (s : State) (core : Nat) (k : Nat) (x : Slot) (o : MatOp), s.matHead core = some (k, x, o) ∧ major o.w = 0x21 ∧ (s.rqStart core k x o).1.missed = []) :=
  ⟨by refine ⟨(wCore { wSlot with sregs := [(1, 0x610000180000), (2, 0x630000188000)] }), (wCore { wSlot with sregs := [(1, 0x610000180000), (2, 0x630000188000)] }), 0, 0x8374408800000000, 0, { wSlot with sregs := [(1, 0x610000180000), (2, 0x630000188000)] }, ⟨?_, ?_, ?_, ?_⟩, ?_, ?_⟩ <;> decide +kernel,
   by refine ⟨(wCore wSlot), (wCore wSlot), 0, 0x8000000000000000, 0, wSlot, 0x02, ⟨?_, ?_, ?_, ?_⟩, ?_⟩ <;> decide +kernel,
   by refine ⟨(wCore { wSlot with sregs := [(1, 0x610000180000), (2, 0x630000188000)] }), (wCore { wSlot with sregs := [(1, 0x610000180000), (2, 0x630000188000)] }), 0, 0x8440100000000000, 0, { wSlot with sregs := [(1, 0x610000180000), (2, 0x630000188000)] }, ⟨?_, ?_, ?_, ?_⟩, ?_, ?_⟩ <;> decide +kernel,
   by refine ⟨(wCore wSlot { mq := [{ slot := 0, pc := 0, w := 0x8374408800000000 }] }), 0, 0, wSlot, { slot := 0, pc := 0, w := 0x8374408800000000 }, ?_, ?_⟩ <;> decide +kernel,
   by refine ⟨(wCore wSlot { mq := [{ slot := 0, pc := 0, w := 0x8440100000000000 }] }), 0, 0, wSlot, { slot := 0, pc := 0, w := 0x8440100000000000 }, ?_, ?_, ?_⟩ <;> decide +kernel⟩

/-- What TileDmaAndScriptsComplete assumes is met. -/
theorem test_wit_TileDmaAndScriptsComplete :
  (∃ (s : State) (s1 : State) (s2 : State) (core : Nat) (w : Word) (k : Nat) (x : Slot) (map : _) (b : Bytes), Ready s core w 0x28 k x s1 ∧ ((x.sr (fd w 53 5)).toNat + fd w 34 19) % 2 ^ 19 % 64 = 0 ∧ x.spIn (((x.sr (fd w 53 5)).toNat + fd w 34 19) % 2 ^ 19) 64 = true ∧ (s1.core core).spFree k x (((x.sr (fd w 53 5)).toNat + fd w 34 19) % 2 ^ 19) 64 false = true ∧ b = (s1.core core).spRead x (((x.sr (fd w 53 5)).toNat + fd w 34 19) % 2 ^ 19) 64 ∧ s1.tileFault x (tileOf b) b false = none ∧ s1.xlateTile core x.ctx (fun _ => (tileOf b).acc) ((tileOf b).op == 3) x.dropped (tileOf b).pages [] 0 0 = (.ok map, s2) ∧ s2.burstsOf core < 64) ∧
  (∃ (s : State) (req : _) (q : Req) (c : _) (k : Nat) (g : _) (l : _), s.req? req = some q ∧ q.issuer = .burst c k g l ∧ q.status = some .ok ∧ q.squashed = false ∧ q.bad = false ∧ q.dest ≠ [] ∧ q.rect = none) ∧
  (∃ (s : State) (req : _) (q : Req) (c : _) (k : Nat) (g : _) (l : _), s.req? req = some q ∧ q.issuer = .burst c k g l ∧ q.status = some .ok ∧ q.squashed = false ∧ q.bad = false ∧ q.dest ≠ [] ∧ q.rect.isSome = true) ∧
  (∃ (s : State) (s1 : State) (core : Nat) (w : Word) (k : Nat) (x : Slot), Ready s core w 0x29 k x s1 ∧ s1.groupBusy core k (fd w 50 8) = false) ∧
  (∃ (s : State) (s1 : State) (core : Nat) (w : Word) (k : Nat) (x : Slot), Ready s core w 0x2A k x s1 ∧ (x.sr (fd w 47 5)).toNat % 2 ^ 19 % 64 = 0 ∧ x.spIn ((x.sr (fd w 47 5)).toNat % 2 ^ 19) 128 = true ∧ (x.lane (fd w 57 1)).walking = false ∧ (s1.core core).spFree k x ((x.sr (fd w 47 5)).toNat % 2 ^ 19) 128 false = true) ∧
  (∃ (s : State) (s1 : State) (s2 : State) (core : Nat) (slot : Nat) (lane : Nat) (x : Slot) (h : Bytes) (b : Bytes), s.slot? core slot = some x ∧ (x.lane lane).walking = true ∧ (x.lane lane).faulted = false ∧ (x.lane lane).unreleased < (x.lane lane).depth ∧ s.ctxStopped x.ctx = false ∧ x.fault = none ∧ x.wait ≠ .halting ∧ s.burstsOf core < 64 ∧ s.scriptRead core slot x lane (x.lane lane).scriptVa = .ok (h, s1) ∧ (x.lane lane).next < fieldLe h 0 4 ∧ s1.scriptRead core slot x lane ((x.lane lane).scriptVa + 64 + 64 * (x.lane lane).next) = .ok (b, s2)) ∧
  (∃ (s : State) (s1 : State) (core : Nat) (w : Word) (k : Nat) (x : Slot), Ready s core w 0x2B k x s1) :=
  ⟨by refine ⟨(wCore wSlot { sp := [(8, 32), (36, 32), (40, 32)] }), (wCore wSlot { sp := [(8, 32), (36, 32), (40, 32)] }), (wCore wSlot { sp := [(8, 32), (36, 32), (40, 32)] }), 0, 0xA000000000000000, 0, wSlot, [(0, some 0)], (wBlk 64 [(8, 4, 32), (36, 4, 32), (40, 4, 32)]), ⟨?_, ?_, ?_, ?_⟩, ?_, ?_, ?_, ?_, ?_, ?_, ?_⟩ <;> decide +kernel,
   by refine ⟨{ wCore wSlot with reqs := [(7, { kind := .getShare, issuer := .burst 0 0 1 2, status := some .ok, dest := [(0, 32)] })] }, 7, { kind := .getShare, issuer := .burst 0 0 1 2, status := some .ok, dest := [(0, 32)] }, 0, 0, 1, 2, ?_, ?_, ?_, ?_, ?_, ?_, ?_⟩ <;> decide +kernel,
   by refine ⟨{ wCore wSlot with reqs := [(7, { kind := .getShare, issuer := .burst 0 0 1 2, status := some .ok, dest := [(0, 32)], rect := some 0 })] }, 7, { kind := .getShare, issuer := .burst 0 0 1 2, status := some .ok, dest := [(0, 32)], rect := some 0 }, 0, 0, 1, 2, ?_, ?_, ?_, ?_, ?_, ?_, ?_⟩ <;> decide +kernel,
   by refine ⟨(wCore wSlot), (wCore wSlot), 0, 0xA400000000000000, 0, wSlot, ⟨?_, ?_, ?_, ?_⟩, ?_⟩ <;> decide +kernel,
   by refine ⟨(wCore wSlot), (wCore wSlot), 0, 0xA800000000000000, 0, wSlot, ⟨?_, ?_, ?_, ?_⟩, ?_, ?_, ?_, ?_⟩ <;> decide +kernel,
   by refine ⟨{ wCore { wSlot with lanes := [{ walking := true, scriptVa := 0x200000000000, bases := List.replicate 16 0 }, {}] } with host := [(0, 1)] }, { wCore { wSlot with lanes := [{ walking := true, scriptVa := 0x200000000000, bases := List.replicate 16 0 }, {}] } with host := [(0, 1)] }, { wCore { wSlot with lanes := [{ walking := true, scriptVa := 0x200000000000, bases := List.replicate 16 0 }, {}] } with host := [(0, 1)] }, 0, 0, 0, { wSlot with lanes := [{ walking := true, scriptVa := 0x200000000000, bases := List.replicate 16 0 }, {}] }, (1 :: zeros 63), (zeros 64), ?_, ?_, ?_, ?_, ?_, ?_, ?_, ?_, ?_, ?_, ?_⟩ <;> decide +kernel,
   by refine ⟨(wCore wSlot), (wCore wSlot), 0, 0xAC00000000000000, 0, wSlot, ⟨?_, ?_, ?_, ?_⟩⟩ <;> decide +kernel⟩

/-- What OfferedValuesFollowModuloOrder assumes is met. -/
theorem test_wit_OfferedValuesFollowModuloOrder :
  (∃ o v : BitVec 32, 1 ≤ (v - o).toNat ∧ (v - o).toNat < 2 ^ 31) ∧
  (∃ o v : BitVec 32, 2 ^ 31 ≤ (v - o).toNat) ∧
  (∃ (s : State) (s1 : State) (s2 : State) (core : Nat) (w : Word) (k : Nat) (x : Slot) (pa : _) (nc : _), Ready s core w 0x30 k x s1 ∧ (x.sr (fd w 53 5)).toNat % 8 = 0 ∧ s1.xlate core k x (x.sr (fd w 53 5)).toNat 3 0 = .ok (pa, nc, s2)) ∧
  (∃ (s : State) (offer : _) (o : Offer), tget offer s.offers = some o ∧ s.offerGo offer o = false) ∧
  (∃ (s : State) (offer : _) (o : Offer), tget offer s.offers = some o ∧ s.offerGo offer o = true ∧ s.route o.pa = .hbm) ∧
  (∃ (s : State) (offer : _) (o : Offer), tget offer s.offers = some o ∧ s.offerGo offer o = true ∧ ((∃ a, s.route o.pa = .host a)) ∧ s.offerSent offer = false) ∧
  (∃ (s : State) (ctx : _) (y : Context), s.ctx? ctx = some y) :=
  ⟨by refine ⟨0, 0x7FFFFFFF, ?_, ?_⟩ <;> decide +kernel,
   ⟨0, 0x80000000, by decide⟩,
   by refine ⟨(wCore { wSlot with sregs := [(1, 0x200000000000)] }), (wCore { wSlot with sregs := [(1, 0x200000000000)] }), (wCore { wSlot with sregs := [(1, 0x200000000000)] }), 0, 0xC020000000000000, 0, { wSlot with sregs := [(1, 0x200000000000)] }, wHost, false, ⟨?_, ?_, ?_, ?_⟩, ?_, ?_⟩ <;> decide +kernel,
   by refine ⟨{ wCore wSlot with offers := [(3, { va := 0, pa := 64, value := 1, scope := 0, ctx := 0, folio := 0, epoch := 0, issuer := .command 1, after := [7] })], reqs := [(7, { kind := .putHome, issuer := .store 0 0 })] }, 3, { va := 0, pa := 64, value := 1, scope := 0, ctx := 0, folio := 0, epoch := 0, issuer := .command 1, after := [7] }, ?_, ?_⟩ <;> decide +kernel,
   by refine ⟨{ wCore wSlot with offers := [(3, { va := 0, pa := 64, value := 1, scope := 0, ctx := 0, folio := 0, epoch := 0, issuer := .command 1, after := [] })], reqs := [(7, { kind := .putHome, issuer := .store 0 0 })] }, 3, { va := 0, pa := 64, value := 1, scope := 0, ctx := 0, folio := 0, epoch := 0, issuer := .command 1, after := [] }, ?_, ?_, ?_⟩ <;> decide +kernel,
   by refine ⟨{ wCore wSlot with offers := [(3, { va := 0, pa := wHost, value := 1, scope := 0, ctx := 0, folio := 0, epoch := 0, issuer := .command 1, after := [] })], reqs := [(7, { kind := .putHome, issuer := .store 0 0 })] }, 3, { va := 0, pa := wHost, value := 1, scope := 0, ctx := 0, folio := 0, epoch := 0, issuer := .command 1, after := [] }, ?_, ?_, ⟨0, ?_⟩, ?_⟩ <;> decide +kernel,
   ⟨(wCore wSlot), 0, { folio := 0 }, by decide +kernel⟩⟩

/-- What FenceWaitsComplete assumes is met. -/
theorem test_wit_FenceWaitsComplete :
  (∃ (s : State) (s1 : State) (s2 : State) (s3 : State) (core : Nat) (w : Word) (k : Nat) (x : Slot) (pa : Nat) (nc : _) (b : Bytes), Ready s core w 0x31 k x s1 ∧ (x.sr (fd w 48 5)).toNat % 8 = 0 ∧ ((∀ r, x.wait ≠ .mem r)) ∧ s1.xlate core k x (x.sr (fd w 48 5)).toNat 0 0 = .ok (pa, nc, s2) ∧ s2.storeBusy core k (lineOf pa) = false ∧ s2.route pa = .hbm ∧ s2.readLine x.ctx (s2.ctxFolio x.ctx) pa 4 = (.ok, b, s3) ∧ satisfies (BitVec.ofNat 32 (unle (b.take 4))) ((x.sr (fd w 43 5)).setWidth 32) = true) ∧
  (∃ (s : State) (core : Nat) (slot : Nat) (x : Slot) (f : FenceWait) (t : _), s.live? core slot = some x ∧ x.wait = .fence f ∧ f.deadline = some t ∧ t ≤ s.hubCount ∧ s.fenceMet f = false) ∧
  (∃ (s : State) (core : Nat) (slot : Nat) (x : Slot) (f : FenceWait), s.live? core slot = some x ∧ x.wait = .fence f ∧ s.fenceMet f = true) ∧
  (∃ (s : State) (s1 : State) (core : Nat) (slot : Nat) (x : Slot) (f : FenceWait) (b : Bytes), s.live? core slot = some x ∧ x.wait = .fence f ∧ s.fenceMet f = false ∧ f.ask = none ∧ f.poll = true ∧ f.last + 1000 ≤ s.hubCount ∧ s.route f.pa = .hbm ∧ s.readLine x.ctx (s.ctxFolio x.ctx) f.pa 4 = (.ok, b, s1) ∧ satisfies (BitVec.ofNat 32 (unle b)) f.target = false) ∧
  (∃ (s : State) (core : Nat) (slot : Nat) (x : Slot) (f : FenceWait) (r : _) (q : Req), s.live? core slot = some x ∧ x.wait = .fence f ∧ s.fenceMet f = false ∧ f.ask = some r ∧ s.req? r = some q ∧ q.status = some .ok ∧ satisfies (BitVec.ofNat 32 (unle (q.rdata.take 4))) f.target = true) ∧
  (∃ (s : State) (s1 : State) (core : Nat) (w : Word) (k : Nat) (x : Slot), Ready s core w 0x32 k x s1 ∧ ((fbit w 55 = false ∨ s1.released core k (fd w 46 8) (s1.unseenStores core k (fd w 56 2)) = true))) ∧
  (∃ (s : State) (s1 : State) (core : Nat) (w : Word) (k : Nat) (x : Slot), Ready s core w 0x32 k x s1 ∧ ((fbit w 55 = false ∨ s1.released core k (fd w 46 8) (s1.unseenStores core k (fd w 56 2)) = true))) ∧
  (∃ (s : State) (s1 : State) (core : Nat) (w : Word) (k : Nat) (x : Slot), Ready s core w 0x33 k x s1 ∧ fd w 56 2 = 0 ∧ ((fd w 50 2 = 2 ∨ (fd w 50 2 = 1 ∧ s1.spansPackages x = false)))) ∧
  (∃ (s : State) (s1 : State) (core : Nat) (w : Word) (k : Nat) (x : Slot), Ready s core w 0x33 k x s1 ∧ fd w 56 2 = 0 ∧ ((fd w 50 2 = 2 ∨ (fd w 50 2 = 1 ∧ s1.spansPackages x = false)))) ∧
  (∃ (s : State) (msg : _) (m : BarMsg), tget msg s.bars = some m ∧ s.released m.core m.slot m.groups m.after = true ∧ ((∀ x, s.slot? m.core m.slot = some x → s.spansPackages x = false))) :=
  ⟨by refine ⟨(wCore { wSlot with sregs := [(1, 0x40)] }), (wCore { wSlot with sregs := [(1, 0x40)] }), (wCore { wSlot with sregs := [(1, 0x40)] }), (wCore { wSlot with sregs := [(1, 0x40)] }), 0, 0xC401000000000000, 0, { wSlot with sregs := [(1, 0x40)] }, 64, false, (zeros 4), ⟨?_, ?_, ?_, ?_⟩, ?_, fun r h => by simp [wSlot] at h, ?_, ?_, ?_, ?_, ?_⟩ <;> decide +kernel,
   by refine ⟨{ wCore { wSlot with wait := .fence { va := 0, pa := 0, target := 1, rd := 0, deadline := some 5000 } } with hubCount := 5000 }, 0, 0, { wSlot with wait := .fence { va := 0, pa := 0, target := 1, rd := 0, deadline := some 5000 } }, { va := 0, pa := 0, target := 1, rd := 0, deadline := some 5000 }, 5000, ?_, ?_, ?_, ?_, ?_⟩ <;> decide +kernel,
   by refine ⟨{ wCore { wSlot with wait := .fence { va := 0, pa := 0, target := 0, rd := 0 } } with hubCount := 5000 }, 0, 0, { wSlot with wait := .fence { va := 0, pa := 0, target := 0, rd := 0 } }, { va := 0, pa := 0, target := 0, rd := 0 }, ?_, ?_, ?_⟩ <;> decide +kernel,
   by refine ⟨{ wCore { wSlot with wait := .fence { va := 0, pa := 0, target := 1, rd := 0, poll := true, last := 4000 } } with hubCount := 5000 }, { wCore { wSlot with wait := .fence { va := 0, pa := 0, target := 1, rd := 0, poll := true, last := 4000 } } with hubCount := 5000 }, 0, 0, { wSlot with wait := .fence { va := 0, pa := 0, target := 1, rd := 0, poll := true, last := 4000 } }, { va := 0, pa := 0, target := 1, rd := 0, poll := true, last := 4000 }, (zeros 4), ?_, ?_, ?_, ?_, ?_, ?_, ?_, ?_, ?_⟩ <;> decide +kernel,
   by refine ⟨{ wCore { wSlot with wait := .fence { va := 0, pa := 0, target := 1, rd := 0, ask := some 7 } } with hubCount := 5000, reqs := [(7, { kind := .rawGet, issuer := .scalar 0 0, status := some .ok, rdata := [1, 0, 0, 0] })] }, 0, 0, { wSlot with wait := .fence { va := 0, pa := 0, target := 1, rd := 0, ask := some 7 } }, { va := 0, pa := 0, target := 1, rd := 0, ask := some 7 }, 7, { kind := .rawGet, issuer := .scalar 0 0, status := some .ok, rdata := [1, 0, 0, 0] }, ?_, ?_, ?_, ?_, ?_, ?_, ?_⟩ <;> decide +kernel,
   by refine ⟨(wCore wSlot), (wCore wSlot), 0, 0xC840000000000000, 0, wSlot, ⟨?_, ?_, ?_, ?_⟩, ?_⟩ <;> decide +kernel,
   by refine ⟨(wCore wSlot), (wCore wSlot), 0, 0xC8BFC00000000000, 0, wSlot, ⟨?_, ?_, ?_, ?_⟩, ?_⟩ <;> decide +kernel,
   by refine ⟨(wCore wSlot), (wCore wSlot), 0, 0xCC08000000000000, 0, wSlot, ⟨?_, ?_, ?_, ?_⟩, ?_, ?_⟩ <;> decide +kernel,
   by refine ⟨(wCore wSlot), (wCore wSlot), 0, 0xCC04000000000000, 0, wSlot, ⟨?_, ?_, ?_, ?_⟩, ?_, ?_⟩ <;> decide +kernel,
   by refine ⟨{ wCore wSlot with bars := [(3, { ctx := 0, rank := 0, id := 0, phase := 0, scope := 2 })] }, 3, { ctx := 0, rank := 0, id := 0, phase := 0, scope := 2 }, ?_, ?_, fun x h => by obtain rfl : wSlot = x := Option.some.inj h; decide +kernel⟩ <;> decide +kernel⟩

/-- What SystemClassCompletes assumes is met. -/
theorem test_wit_SystemClassCompletes :
  (∃ (s : State) (s1 : State) (core : Nat) (w : Word) (k : Nat) (x : Slot), ReadySys s core w 0 k x s1 ∧ s1.haltDone core k x = true) ∧
  (∃ (s : State) (s1 : State) (core : Nat) (w : Word) (k : Nat) (x : Slot), ReadySys s core w 1 k x s1) ∧
  (∃ (s : State) (s1 : State) (core : Nat) (w : Word) (k : Nat) (x : Slot), ReadySys s core w 2 k x s1) ∧
  (∃ (s : State) (s1 : State) (core : Nat) (w : Word) (k : Nat) (x : Slot) (g : Guard), ReadySys s core w 3 k x s1 ∧ x.guard = some g) ∧
  (∃ (s : State) (s1 : State) (core : Nat) (w : Word) (k : Nat) (x : Slot), ReadySys s core w 4 k x s1) ∧
  (∃ (s : State) (s1 : State) (core : Nat) (w : Word) (k : Nat) (x : Slot), ReadySys s core w 5 k x s1 ∧ s1.bkptStops core (s1.ctxFolio x.ctx) = true) ∧
  (∃ (s : State) (s1 : State) (core : Nat) (w : Word) (k : Nat) (x : Slot), ReadySys s core w 5 k x s1 ∧ s1.bkptStops core (s1.ctxFolio x.ctx) = false) ∧
  (∃ (s : State) (s1 : State) (core : Nat) (w : Word) (k : Nat) (x : Slot), ReadySys s core w 6 k x s1) ∧
  (∃ (s : State) (s1 : State) (core : Nat) (w : Word) (k : Nat) (x : Slot), ReadySys s core w 7 k x s1) ∧
  (∃ (s : State) (core : Nat) (k : Nat) (x : Slot) (va : Nat) (n : Nat) (keep : Bool), s.storesOf core k = [] ∧ (s.cache (s.sliceOf core)).wb = []) ∧
  (∃ (s : State) (req : _) (q : Req) (c : _) (k : Nat), s.req? req = some q ∧ q.issuer = .store c k ∧ q.status = some .ok) :=
  ⟨by refine ⟨(wCore wSlot), (wCore wSlot), 0, 0xF000000000000000, 0, wSlot, ⟨⟨?_, ?_, ?_, ?_⟩, ?_⟩, ?_⟩ <;> decide +kernel,
   by refine ⟨(wCore wSlot), (wCore wSlot), 0, 0xF010000000000000, 0, wSlot, ⟨⟨?_, ?_, ?_, ?_⟩, ?_⟩⟩ <;> decide +kernel,
   by refine ⟨(wCore wSlot), (wCore wSlot), 0, 0xF020000000000000, 0, wSlot, ⟨⟨?_, ?_, ?_, ?_⟩, ?_⟩⟩ <;> decide +kernel,
   by refine ⟨(wCore { wSlot with guard := some { saved := [], origPc := 0, orig := { fmt := 0, dim := false, sr := false, sat := false, sd := 0, stg := 0 }, way := 0, tag := 0 } }), (wCore { wSlot with guard := some { saved := [], origPc := 0, orig := { fmt := 0, dim := false, sr := false, sat := false, sd := 0, stg := 0 }, way := 0, tag := 0 } }), 0, 0xF030000000000000, 0, { wSlot with guard := some { saved := [], origPc := 0, orig := { fmt := 0, dim := false, sr := false, sat := false, sd := 0, stg := 0 }, way := 0, tag := 0 } }, { saved := [], origPc := 0, orig := { fmt := 0, dim := false, sr := false, sat := false, sd := 0, stg := 0 }, way := 0, tag := 0 }, ⟨⟨?_, ?_, ?_, ?_⟩, ?_⟩, ?_⟩ <;> decide +kernel,
   by refine ⟨(wCore wSlot), (wCore wSlot), 0, 0xF040000000000000, 0, wSlot, ⟨⟨?_, ?_, ?_, ?_⟩, ?_⟩⟩ <;> decide +kernel,
   by refine ⟨((wCore wSlot).setFld (rRgnCtl 0) 2 1 1), ((wCore wSlot).setFld (rRgnCtl 0) 2 1 1), 0, 0xF050000000000000, 0, wSlot, ⟨⟨?_, ?_, ?_, ?_⟩, ?_⟩, ?_⟩ <;> decide +kernel,
   by refine ⟨(wCore wSlot), (wCore wSlot), 0, 0xF050000000000000, 0, wSlot, ⟨⟨?_, ?_, ?_, ?_⟩, ?_⟩, ?_⟩ <;> decide +kernel,
   by refine ⟨(wCore wSlot), (wCore wSlot), 0, 0xF060000000000000, 0, wSlot, ⟨⟨?_, ?_, ?_, ?_⟩, ?_⟩⟩ <;> decide +kernel,
   by refine ⟨(wCore wSlot), (wCore wSlot), 0, 0xF070000000000000, 0, wSlot, ⟨⟨?_, ?_, ?_, ?_⟩, ?_⟩⟩ <;> decide +kernel,
   by refine ⟨(wCore wSlot), 0, 0, wSlot, 0, 64, true, ?_, ?_⟩ <;> decide +kernel,
   by refine ⟨{ wCore wSlot with reqs := [(7, { kind := .putHome, issuer := .store 0 0, status := some .ok })] }, 7, { kind := .putHome, issuer := .store 0 0, status := some .ok }, 0, 0, ?_, ?_, ?_⟩ <;> decide +kernel⟩

/-- What SiftRequestsComplete assumes is met. -/
theorem test_wit_SiftRequestsComplete :
  (∃ (s : State) (s1 : State) (s2 : State) (core : Nat) (w : Word) (k : Nat) (x : Slot) (map : _) (u : _) (b : Bytes) (t : _), Ready s core w 0x38 k x s1 ∧ ((x.sr (fd w 53 5)).toNat + fd w 34 19) % 2 ^ 19 % 64 = 0 ∧ x.spIn (((x.sr (fd w 53 5)).toNat + fd w 34 19) % 2 ^ 19) 64 = true ∧ x.sifts < 8 ∧ (s1.core core).spFree k x (((x.sr (fd w 53 5)).toNat + fd w 34 19) % 2 ^ 19) 64 false = true ∧ b = (s1.core core).spRead x (((x.sr (fd w 53 5)).toNat + fd w 34 19) % 2 ^ 19) 64 ∧ t = siftOf b ∧ t.ok b x = true ∧ (s1.core core).spFree k x t.qaddr t.qBytes false = true ∧ (s1.core core).spFree k x t.res t.resBytes false = true ∧ s1.xlateTile core x.ctx (fun va => if va = t.fence then 3 else 0) false [] (withFence t.fence (pagesOf t.ranges)) [] 0 0 = (.ok map, s2) ∧ oneSlice (baseMap (pagesOf t.ranges) map) = true ∧ s2.server ((((tget (t.rows / 2 ^ 25) (baseMap (pagesOf t.ranges) map)).getD 0) + t.rows % 2 ^ 25) / 2 ^ 33) = some u) ∧
  (∃ (s : State) (sift : _) (q : SiftReq), tget sift s.sifts = some q ∧ q.accepted = false ∧ (s.unit q.unit).queue.length < 16 ∧ s.wayOpen (s.coreNode q.core) (homeEdge q.unit) = true) ∧
  (∃ (s : State) (unit : Nat) (i : _), (s.unit unit).running = none ∧ s.siftNext (s.unit unit).queue = some i) ∧
  (∃ (s : State) (unit : Nat) (id : Nat) (q : SiftReq) (o : _), (s.unit unit).running = some id ∧ tget id s.sifts = some q ∧ q.lost = false ∧ s.siftBad (siftOf q.desc) q = none ∧ o = siftResult (siftOf q.desc) q (s.siftRows (siftOf q.desc) q (siftOf q.desc).n)) ∧
  (∃ (s : State) (unit : Nat) (id : Nat) (q : SiftReq), (s.unit unit).running = some id ∧ tget id s.sifts = some q ∧ q.lost = true) :=
  ⟨by refine ⟨(wCore wSlot { sp := mwrite [] 0x80 (wBlk 64 [(16, 4, 128), (24, 8, 4096), (36, 2, 0), (38, 2, 0), (40, 1, 0), (41, 1, 1), (44, 4, 256), (48, 4, 1024), (52, 4, 1536)]) }), (wCore wSlot { sp := mwrite [] 0x80 (wBlk 64 [(16, 4, 128), (24, 8, 4096), (36, 2, 0), (38, 2, 0), (40, 1, 0), (41, 1, 1), (44, 4, 256), (48, 4, 1024), (52, 4, 1536)]) }), (wCore wSlot { sp := mwrite [] 0x80 (wBlk 64 [(16, 4, 128), (24, 8, 4096), (36, 2, 0), (38, 2, 0), (40, 1, 0), (41, 1, 1), (44, 4, 256), (48, 4, 1024), (52, 4, 1536)]) }), 0, 0xE000020000000000, 0, wSlot, [(0, some 0)], 0, (wBlk 64 [(16, 4, 128), (24, 8, 4096), (36, 2, 0), (38, 2, 0), (40, 1, 0), (41, 1, 1), (44, 4, 256), (48, 4, 1024), (52, 4, 1536)]), (siftOf (wBlk 64 [(16, 4, 128), (24, 8, 4096), (36, 2, 0), (38, 2, 0), (40, 1, 0), (41, 1, 1), (44, 4, 256), (48, 4, 1024), (52, 4, 1536)])), ⟨?_, ?_, ?_, ?_⟩, ?_, ?_, ?_, ?_, ?_, ?_, ?_, ?_, ?_, ?_, ?_, ?_⟩ <;> decide +kernel,
   by refine ⟨{ wCore wSlot with sifts := [(3, { core := 0, slot := 0, ctx := 0, folio := 0, epoch := 0, qos := 0, desc := (wBlk 64 [(16, 4, 128), (24, 8, 4096), (36, 2, 0), (38, 2, 0), (40, 1, 0), (41, 1, 1), (44, 4, 256), (48, 4, 1024), (52, 4, 1536)]), map := [(0, 0)], unit := 0, qvec := zeros 128, resIn := [], fencePa := 0x1000, pc := 0 })], units := [(0, {})] }, 3, { core := 0, slot := 0, ctx := 0, folio := 0, epoch := 0, qos := 0, desc := (wBlk 64 [(16, 4, 128), (24, 8, 4096), (36, 2, 0), (38, 2, 0), (40, 1, 0), (41, 1, 1), (44, 4, 256), (48, 4, 1024), (52, 4, 1536)]), map := [(0, 0)], unit := 0, qvec := zeros 128, resIn := [], fencePa := 0x1000, pc := 0 }, ?_, ?_, ?_, ?_⟩ <;> decide +kernel,
   by refine ⟨{ wCore wSlot with sifts := [(3, { core := 0, slot := 0, ctx := 0, folio := 0, epoch := 0, qos := 0, desc := (wBlk 64 [(16, 4, 128), (24, 8, 4096), (36, 2, 0), (38, 2, 0), (40, 1, 0), (41, 1, 1), (44, 4, 256), (48, 4, 1024), (52, 4, 1536)]), map := [(0, 0)], unit := 0, qvec := zeros 128, resIn := [], fencePa := 0x1000, pc := 0, accepted := true })], units := [(0, { queue := [3] })] }, 0, 3, ?_, ?_⟩ <;> decide +kernel,
   by refine ⟨{ wCore wSlot with sifts := [(3, { core := 0, slot := 0, ctx := 0, folio := 0, epoch := 0, qos := 0, desc := (wBlk 64 [(16, 4, 128), (24, 8, 4096), (36, 2, 0), (38, 2, 0), (40, 1, 0), (41, 1, 1), (44, 4, 256), (48, 4, 1024), (52, 4, 1536)]), map := [(0, 0)], unit := 0, qvec := zeros 128, resIn := [], fencePa := 0x1000, pc := 0, accepted := true })], units := [(0, { running := some 3 })] }, 0, 3, { core := 0, slot := 0, ctx := 0, folio := 0, epoch := 0, qos := 0, desc := (wBlk 64 [(16, 4, 128), (24, 8, 4096), (36, 2, 0), (38, 2, 0), (40, 1, 0), (41, 1, 1), (44, 4, 256), (48, 4, 1024), (52, 4, 1536)]), map := [(0, 0)], unit := 0, qvec := zeros 128, resIn := [], fencePa := 0x1000, pc := 0, accepted := true }, _, ?_, ?_, ?_, ?_, rfl⟩ <;> decide +kernel,
   by refine ⟨{ wCore wSlot with sifts := [(3, { core := 0, slot := 0, ctx := 0, folio := 0, epoch := 0, qos := 0, desc := (wBlk 64 [(16, 4, 128), (24, 8, 4096), (36, 2, 0), (38, 2, 0), (40, 1, 0), (41, 1, 1), (44, 4, 256), (48, 4, 1024), (52, 4, 1536)]), map := [(0, 0)], unit := 0, qvec := zeros 128, resIn := [], fencePa := 0x1000, pc := 0, lost := true })], units := [(0, { running := some 3 })] }, 0, 3, { core := 0, slot := 0, ctx := 0, folio := 0, epoch := 0, qos := 0, desc := (wBlk 64 [(16, 4, 128), (24, 8, 4096), (36, 2, 0), (38, 2, 0), (40, 1, 0), (41, 1, 1), (44, 4, 256), (48, 4, 1024), (52, 4, 1536)]), map := [(0, 0)], unit := 0, qvec := zeros 128, resIn := [], fencePa := 0x1000, pc := 0, lost := true }, ?_, ?_, ?_⟩ <;> decide +kernel⟩

/-- What ContextFaultsAndSafeguardCounts assumes is met. -/
theorem test_wit_ContextFaultsAndSafeguardCounts :
  (∃ (s : State) (core : Nat) (slot : Nat) (x : Slot) (f : FaultInfo) (s2 : State), s.slot? core slot = some x ∧ x.fault = some f ∧ s.faultWaits core slot x = false ∧ s2 = (((((s.matDrain core slot (s.core core).mq.length).chargeAll x.ctx).ctxFaultRecord x.ctx (coreIsland core) (some core) f).modSlot core slot (fun y => { y with fault := none })).modCtx x.ctx (fun y => { y with held := match y.held with | some h => some h | none => some s.hubCount }))) ∧
  (∃ (s : State) (ctx : _) (y : Context) (h : _), s.ctx? ctx = some y ∧ y.held = some h ∧ h + 1000 * s.holdUs ≤ s.hubCount) ∧
  (∃ (s : State) (ctx : _) (y : Context) (h : _), s.ctx? ctx = some y ∧ y.held = some h ∧ s.hubCount < h + 1000 * s.holdUs) ∧
  (∃ (s : State) (upd : _) (u : SgUpdate) (a : _) (b : Bytes) (s1 : State) (s2 : State), tget upd s.updates = some u ∧ u.off < 0x78 ∧ u.kind = none ∧ ({ s with updates := tdel upd s.updates }).peek u.core u.ctx (u.base + u.off) 3 = some a ∧ ({ s with updates := tdel upd s.updates }).readLine u.ctx (({ s with updates := tdel upd s.updates }).ctxFolio u.ctx) a 8 = (.ok, b, s1) ∧ s1.writeLine u.ctx (s1.ctxFolio u.ctx) a (le 8 (unle b + u.inc)) = (.ok, s2)) :=
  ⟨by refine ⟨(wCore { wSlot with fault := some { cause := 1 } }), 0, 0, { wSlot with fault := some { cause := 1 } }, { cause := 1 }, _, ?_, ?_, ?_, rfl⟩ <;> decide +kernel,
   by refine ⟨{ (wCore wSlot).setFld rFaultCtl 0 16 5 with ctxs := [(0, { folio := 0, held := some 0 })], hubCount := 5000 }, 0, { folio := 0, held := some 0 }, 0, ?_, ?_, ?_⟩ <;> decide +kernel,
   by refine ⟨{ (wCore wSlot).setFld rFaultCtl 0 16 5 with ctxs := [(0, { folio := 0, held := some 0 })], hubCount := 0 }, 0, { folio := 0, held := some 0 }, 0, ?_, ?_, ?_⟩ <;> decide +kernel,
   by refine ⟨{ wCore wSlot with updates := [(3, { ctx := 0, core := 0, slot := 0, base := wHost, off := 0x70, inc := 1, kind := none })], ctxs := [(0, { folio := 0, safeVa := 0x200000000000 })] }, 3, { ctx := 0, core := 0, slot := 0, base := wHost, off := 0x70, inc := 1, kind := none }, (wHost + 0x70), (zeros 8), { wCore wSlot with updates := [], ctxs := [(0, { folio := 0, safeVa := 0x200000000000 })] }, { wCore wSlot with updates := [], ctxs := [(0, { folio := 0, safeVa := 0x200000000000 })], host := [(0x70, 1)] }, ?_, ?_, ?_, ?_, ?_, ?_⟩ <;> decide +kernel⟩

/-- What CoresChooseAndSwitch assumes is met. -/
theorem test_wit_CoresChooseAndSwitch :
  (∃ (s : State) (core : Nat) (k : Nat), s.nextSlot core = some k ∧ (s.core core).running ≠ some k ∧ ((∃ y, s.slot? core k = some y))) ∧
  (∃ (s : State) (core : Nat) (k : Nat) (y : Slot), (((s.stopUnits core).charge core).countPreempt core).slot? core k = some y) ∧
  (∃ (s : State) (core : Nat) (k : Nat) (x : Slot) (j : _) (y : Slot), (s.charge core).runningSlot core = some (k, x) ∧ s.quantum ≤ x.ran ∧ (s.charge core).rtReady core = false ∧ (s.charge core).lowestVt core k = some (j, y) ∧ y.vt < x.vt) ∧
  (∃ (s : State) (core : Nat) (k : Nat) (x : Slot), s.runningSlot core = some (k, x) ∧ s.ready core k x = false ∧ (s.core core).retAt + s.waitSw ≤ s.count (coreIsland core)) ∧
  (∃ (s : State) (core : Nat) (slot : Nat) (x : Slot) (d : _), s.slot? core slot = some x ∧ s.deadlineOf x.ctx = some d ∧ s.ready core slot x = true ∧ s.runningSlot core = none ∧ s.pick core none = some slot) ∧
  (∃ (s : State) (core : Nat) (slot : Nat) (x : Slot) (d : _) (k : Nat) (r : Slot), s.slot? core slot = some x ∧ s.deadlineOf x.ctx = some d ∧ s.ready core slot x = true ∧ s.runningSlot core = some (k, r) ∧ k ≠ slot ∧ ((∀ e, s.deadlineOf r.ctx = some e → d < e)) ∧ s.pick core none = some slot) ∧
  (∃ (s : State) (ctx : _) (y : Context) (a : Activation) (d : _), s.ctx? ctx = some y ∧ y.act = some a ∧ a.deadline = some d ∧ d ≤ s.hubCount ∧ a.missed = false ∧ (s.slotsOf ctx).all (fun x => x.2.2.halted) = false) :=
  ⟨by refine ⟨{ wCore wSlot with cores := [(0, { slots := [(0, wSlot), (1, wSlot)], running := some 0, choice := some 1 })] }, 0, 1, ?_, ?_, ⟨wSlot, ?_⟩⟩ <;> decide +kernel,
   ⟨(wCore wSlot), 0, 0, wSlot, by decide +kernel⟩,
   by refine ⟨{ wCore wSlot with cores := [(0, { slots := [(0, { wSlot with ran := (wCore wSlot).quantum, vt := 1 }), (1, wSlot)], running := some 0, choice := none })] }, 0, 0, { wSlot with ran := (wCore wSlot).quantum, vt := 1 }, 1, wSlot, ?_, ?_, ?_, ?_, ?_⟩ <;> decide +kernel,
   by refine ⟨{ wCore { wSlot with wait := .fence { va := 0, pa := 0, target := 1, rd := 0 } } with regions := [(0, { count := 4000 })] }, 0, 0, { wSlot with wait := .fence { va := 0, pa := 0, target := 1, rd := 0 } }, ?_, ?_, ?_⟩ <;> decide +kernel,
   by refine ⟨{ wCore wSlot with cores := [(0, { slots := [(0, wSlot), (1, { wSlot with ctx := 7 })], running := none })], ctxs := [(0, { folio := 0 }), (7, { folio := 0, rt := true, act := some { queue := none, prog := 0, placement := 0, cores := [0], release := 0, deadline := some 9 } })] }, 0, 1, { wSlot with ctx := 7 }, 9, ?_, ?_, ?_, ?_, ?_⟩ <;> decide +kernel,
   by refine ⟨{ wCore wSlot with cores := [(0, { slots := [(0, wSlot), (1, { wSlot with ctx := 7 })], running := some 0 })], ctxs := [(0, { folio := 0 }), (7, { folio := 0, rt := true, act := some { queue := none, prog := 0, placement := 0, cores := [0], release := 0, deadline := some 9 } })] }, 0, 1, { wSlot with ctx := 7 }, 9, 0, wSlot, ?_, ?_, ?_, ?_, ?_, fun e h => absurd (h.symm.trans (show _ = none by decide +kernel)) (by simp), ?_⟩ <;> decide +kernel,
   by refine ⟨{ wCore { wSlot with ctx := 7 } with ctxs := [(7, { folio := 0, rt := true, act := some { queue := none, prog := 0, placement := 0, cores := [0], release := 0, deadline := some 9 } })], hubCount := 9 }, 7, { folio := 0, rt := true, act := some { queue := none, prog := 0, placement := 0, cores := [0], release := 0, deadline := some 9 } }, { queue := none, prog := 0, placement := 0, cores := [0], release := 0, deadline := some 9 }, 9, ?_, ?_, ?_, ?_, ?_, ?_⟩ <;> decide +kernel⟩

/-- What SchedulingCommandsComplete assumes is met. -/
theorem test_wit_SchedulingCommandsComplete :
  (∃ (s : State) (s1 : State) (q : Nat) (x : Queue) (c : Cmd) (y : Context), Taken s q 0x50 x c s1 ∧ c.arg 0x28 2 ≤ 4095 ∧ s1.ctx? (c.arg 0x28 2) = some y) ∧
  (∃ (s : State) (s1 : State) (s3 : State) (q : Nat) (x : Queue) (c : Cmd) (y : Context), Taken s q 0x51 x c s1 ∧ ((x.type = .mgmt ∨ c.arg 0x28 2 = x.ctx)) ∧ c.arg 0x28 2 ≤ 4095 ∧ (s1.ctx? (c.arg 0x28 2)).isSome = true ∧ (s1.chargeAll (c.arg 0x28 2)).ctx? (c.arg 0x28 2) = some y ∧ (s1.chargeAll (c.arg 0x28 2)).hubWrite x.ctx (c.arg 0x30 8) (acctRecord (c.arg 0x28 2) (s1.chargeAll (c.arg 0x28 2)).hubCount y) = (true, s3)) ∧
  (∃ (s : State) (s2 : State) (q : Nat) (x : Queue) (c : Cmd) (b : Bytes) (y : Context) (p : Program), TakenBlock s q 0x52 x c s2 b ∧ fieldLe b 3 1 = 0 ∧ fieldLe b 0x0C 4 = 0 ∧ fieldLe b 0x18 40 = 0 ∧ fieldLe b 0 2 ≤ 4095 ∧ s2.ctx? (fieldLe b 0 2) = some y ∧ y.rt = true ∧ fieldLe b 2 1 ≤ 63 ∧ tget (fieldLe b 2 1) y.programs = some p ∧ 0 < fieldLe b 6 2 ∧ fieldLe b 6 2 ≤ 4096 ∧ 10 ≤ fieldLe b 8 4 ∧ fieldLe b 8 4 ≤ 1000000) ∧
  (∃ (s : State) (s1 : State) (q : Nat) (x : Queue) (c : Cmd) (y : Context), Taken s q 0x53 x c s1 ∧ c.arg 0x28 2 ≤ 4095 ∧ s1.ctx? (c.arg 0x28 2) = some y) ∧
  (∃ (s s1 : State) (q : Nat) (x : Queue) (c : Cmd), Taken s q 0x50 x c s1 ∧ c.arg 0x28 2 ≤ 4095 ∧ s1.ctx? (c.arg 0x28 2) = none) ∧
  (∃ (s s1 : State) (q : Nat) (x : Queue) (c : Cmd), Taken s q 0x53 x c s1 ∧ c.arg 0x28 2 ≤ 4095 ∧ s1.ctx? (c.arg 0x28 2) = none) :=
  ⟨by refine ⟨{ wPart (wQue (wCmd 0x50 [(0x28, 2, 0x5), (0x2C, 4, 0x9)])) with ctxs := [(0, { folio := 0 }), (5, { folio := 0 })] }, { wPart (wQue (wCmd 0x50 [(0x28, 2, 0x5), (0x2C, 4, 0x9)])) with ctxs := [(0, { folio := 0 }), (5, { folio := 0 })] }, 1, (wQue (wCmd 0x50 [(0x28, 2, 0x5), (0x2C, 4, 0x9)])), (wCmd 0x50 [(0x28, 2, 0x5), (0x2C, 4, 0x9)]), { folio := 0 }, ⟨?_, ?_⟩, ?_, ?_⟩ <;> decide +kernel,
   by refine ⟨{ wPart (wQue (wCmd 0x51 [(0x28, 2, 0x5), (0x30, 8, wHost)])) with ctxs := [(0, { folio := 0 }), (5, { folio := 0 })] }, { wPart (wQue (wCmd 0x51 [(0x28, 2, 0x5), (0x30, 8, wHost)])) with ctxs := [(0, { folio := 0 }), (5, { folio := 0 })] }, ((State.hubWrite (State.chargeAll { wPart (wQue (wCmd 0x51 [(0x28, 2, 0x5), (0x30, 8, wHost)])) with ctxs := [(0, { folio := 0 }), (5, { folio := 0 })] } 5) 0 wHost (acctRecord 5 (State.chargeAll { wPart (wQue (wCmd 0x51 [(0x28, 2, 0x5), (0x30, 8, wHost)])) with ctxs := [(0, { folio := 0 }), (5, { folio := 0 })] } 5).hubCount { folio := 0 })).2), 1, (wQue (wCmd 0x51 [(0x28, 2, 0x5), (0x30, 8, wHost)])), (wCmd 0x51 [(0x28, 2, 0x5), (0x30, 8, wHost)]), { folio := 0 }, ⟨?_, ?_⟩, ?_, ?_, ?_, ?_, ?_⟩ <;> decide +kernel,
   by refine ⟨{ wPart (wQue (wCmd 0x52 [(0x28, 8, wHost)])) (wBlk 64 [(0x0, 2, 0x5), (0x2, 1, 0x3F), (0x6, 2, 0x1000), (0x8, 4, 0xF4240)]) with ctxs := [(0, { folio := 0 }), (5, { folio := 0, rt := true, programs := [(63, { va := 0, image := wQuire })] })] }, { wPart (wQue (wCmd 0x52 [(0x28, 8, wHost)])) (wBlk 64 [(0x0, 2, 0x5), (0x2, 1, 0x3F), (0x6, 2, 0x1000), (0x8, 4, 0xF4240)]) with ctxs := [(0, { folio := 0 }), (5, { folio := 0, rt := true, programs := [(63, { va := 0, image := wQuire })] })] }, 1, (wQue (wCmd 0x52 [(0x28, 8, wHost)])), (wCmd 0x52 [(0x28, 8, wHost)]), (wBlk 64 [(0x0, 2, 0x5), (0x2, 1, 0x3F), (0x6, 2, 0x1000), (0x8, 4, 0xF4240)]), { folio := 0, rt := true, programs := [(63, { va := 0, image := wQuire })] }, { va := 0, image := wQuire }, ⟨?_, ?_⟩, ?_, ?_, ?_, ?_, ?_, ?_, ?_, ?_, ?_, ?_, ?_, ?_⟩ <;> decide +kernel,
   by refine ⟨{ wPart (wQue (wCmd 0x53 [(0x28, 2, 0x5)])) with ctxs := [(0, { folio := 0 }), (5, { folio := 0 })] }, { wPart (wQue (wCmd 0x53 [(0x28, 2, 0x5)])) with ctxs := [(0, { folio := 0 }), (5, { folio := 0 })] }, 1, (wQue (wCmd 0x53 [(0x28, 2, 0x5)])), (wCmd 0x53 [(0x28, 2, 0x5)]), { folio := 0 }, ⟨?_, ?_⟩, ?_, ?_⟩ <;> decide +kernel,
   by refine ⟨(wPart (wQue (wCmd 0x50 [(0x28, 2, 0x5)]))), (wPart (wQue (wCmd 0x50 [(0x28, 2, 0x5)]))), 1, (wQue (wCmd 0x50 [(0x28, 2, 0x5)])), (wCmd 0x50 [(0x28, 2, 0x5)]), ⟨?_, ?_⟩, ?_, ?_⟩ <;> decide +kernel,
   by refine ⟨(wPart (wQue (wCmd 0x53 [(0x28, 2, 0x5)]))), (wPart (wQue (wCmd 0x53 [(0x28, 2, 0x5)]))), 1, (wQue (wCmd 0x53 [(0x28, 2, 0x5)])), (wCmd 0x53 [(0x28, 2, 0x5)]), ⟨?_, ?_⟩, ?_, ?_⟩ <;> decide +kernel⟩

/-- What DoorbellsAndFetches assumes is met. -/
theorem test_wit_DoorbellsAndFetches :
  (∃ (s : State) (q : Nat) (x : Queue) (line : Bytes), s.queue? q = some x ∧ x.watched = true ∧ s.link.up = true ∧ s.link.cxl = true) ∧
  (∃ (s : State) (q : Nat) (x : Queue), s.queue? q = some x ∧ x.watched = true ∧ x.snooped = true ∧ s.link.up = true ∧ s.link.cxl = true) ∧
  (∃ (s : State) (q : Nat) (x : Queue), s.queue? q = some x ∧ x.watched = false ∧ x.dying = false ∧ s.link.up = true ∧ s.link.cxl = true) ∧
  (∃ (s : State) (q : Nat) (x : Queue), s.queue? q = some x ∧ x.stopped = false ∧ x.dying = false ∧ s.link.up = true ∧ s.link.cxl = true ∧ x.tail ≠ x.head ∧ x.head < 2 ^ 32 ∧ x.tail < 2 ^ 32 ∧ x.xseqNew = x.xseq ∧ ((s.cyclic.mode = false ∨ q = 0)) ∧ (x.tail + 2 ^ 32 - x.head) % 2 ^ 32 ≤ 2 ^ x.log) ∧
  (∃ (s : State) (q : Nat) (x : Queue), s.queue? q = some x ∧ x.stopped = false ∧ x.dying = false ∧ s.link.up = true ∧ s.link.cxl = true ∧ x.tail ≠ x.head ∧ x.head < 2 ^ 32 ∧ x.tail < 2 ^ 32 ∧ x.xseqNew = x.xseq ∧ ((s.cyclic.mode = false ∨ q = 0)) ∧ (x.tail + 2 ^ 32 - x.head) % 2 ^ 32 ≤ 2 ^ x.log) ∧
  (∃ (s : State) (q : Nat) (x : Queue), s.queue? q = some x ∧ x.stopped = false ∧ x.dying = false ∧ s.link.up = true ∧ s.link.cxl = true ∧ ((s.cyclic.mode = false ∨ q = 0)) ∧ 2 ^ x.log < (x.tail + 2 ^ 32 - x.head) % 2 ^ 32) ∧
  (∃ (s : State) (q : Nat) (x : Queue) (c : Cmd) (rest : List Cmd) (a : Nat) (nc : _) (s1 : State) (b : Bytes) (s2 : State), s.queue? q = some x ∧ x.phase = .waiting ∧ x.cmds = c :: rest ∧ s.cmdHeld x c = false ∧ s.hubXlate x.ctx (fieldLe c.bytes 8 8) 0 = (.pa a nc, s1) ∧ s1.readLine x.ctx (s.queueFolio x) a 4 = (.ok, b, s2) ∧ satisfies (BitVec.ofNat 32 (unle b)) (BitVec.ofNat 32 (fieldLe c.bytes 0x10 4)) = true) ∧
  (∃ (s : State) (q : Nat) (x : Queue) (c : Cmd) (rest : List Cmd) (st : Nat) (dt : Nat), s.queue? q = some x ∧ x.phase = .done st dt ∧ x.cmds = c :: rest) ∧
  (∃ (s : State) (q : Nat) (x : Queue) (c : Cmd) (rest : List Cmd) (p : Nat), s.queue? q = some x ∧ x.phase = .running p ∧ x.cmds = c :: rest ∧ s.runningDone q x c = none) :=
  ⟨by refine ⟨{ queues := [(1, { type := .compute, ctx := 0, watched := true, dbPa := wHost })], link := { up := true, cxl := true }, cyclic := { mode := false } }, 1, { type := .compute, ctx := 0, watched := true, dbPa := wHost }, (zeros 64), ?_, ?_, ?_, ?_⟩ <;> decide +kernel,
   by refine ⟨{ queues := [(1, { type := .compute, ctx := 0, watched := true, snooped := true, dbPa := wHost })], link := { up := true, cxl := true }, cyclic := { mode := false } }, 1, { type := .compute, ctx := 0, watched := true, snooped := true, dbPa := wHost }, ?_, ?_, ?_, ?_, ?_⟩ <;> decide +kernel,
   by refine ⟨{ queues := [(1, { type := .compute, ctx := 0, dbPa := wHost })], link := { up := true, cxl := true }, cyclic := { mode := false } }, 1, { type := .compute, ctx := 0, dbPa := wHost }, ?_, ?_, ?_, ?_, ?_⟩ <;> decide +kernel,
   by refine ⟨{ queues := [(1, { type := .compute, ctx := 0, ringPa := wHost, headPa := wHost + 4096, log := 4, head := 4294967288, tail := 8 })], link := { up := true, cxl := true }, cyclic := { mode := false } }, 1, { type := .compute, ctx := 0, ringPa := wHost, headPa := wHost + 4096, log := 4, head := 4294967288, tail := 8 }, ?_, ?_, ?_, ?_, ?_, ?_, ?_, ?_, ?_, ?_, ?_⟩ <;> decide +kernel,
   by refine ⟨{ queues := [(0, { type := .compute, ctx := 0, ringPa := wHost, headPa := wHost + 4096, log := 4, head := 0, tail := 1 })], link := { up := true, cxl := true }, cyclic := { mode := false } }, 0, { type := .compute, ctx := 0, ringPa := wHost, headPa := wHost + 4096, log := 4, head := 0, tail := 1 }, ?_, ?_, ?_, ?_, ?_, ?_, ?_, ?_, ?_, ?_, ?_⟩ <;> decide +kernel,
   by refine ⟨{ queues := [(1, { type := .compute, ctx := 0, ringPa := wHost, headPa := wHost + 4096, log := 4, head := 0, tail := 17 })], link := { up := true, cxl := true }, cyclic := { mode := false } }, 1, { type := .compute, ctx := 0, ringPa := wHost, headPa := wHost + 4096, log := 4, head := 0, tail := 17 }, ?_, ?_, ?_, ?_, ?_, ?_, ?_⟩ <;> decide +kernel,
   by refine ⟨{ queues := [(1, { type := .compute, ctx := 0, phase := .waiting, cmds := [(wCmd 1 [(8, 8, wHost), (0x10, 4, 0)])] })] }, 1, { type := .compute, ctx := 0, phase := .waiting, cmds := [(wCmd 1 [(8, 8, wHost), (0x10, 4, 0)])] }, (wCmd 1 [(8, 8, wHost), (0x10, 4, 0)]), [], wHost, false, { queues := [(1, { type := .compute, ctx := 0, phase := .waiting, cmds := [(wCmd 1 [(8, 8, wHost), (0x10, 4, 0)])] })] }, (zeros 4), { queues := [(1, { type := .compute, ctx := 0, phase := .waiting, cmds := [(wCmd 1 [(8, 8, wHost), (0x10, 4, 0)])] })] }, ?_, ?_, ?_, ?_, ?_, ?_, ?_⟩ <;> decide +kernel,
   by refine ⟨{ queues := [(1, { type := .compute, ctx := 0, phase := .done 0 0, cmds := [wCmd 0] })] }, 1, { type := .compute, ctx := 0, phase := .done 0 0, cmds := [wCmd 0] }, (wCmd 0), [], 0, 0, ?_, ?_, ?_⟩ <;> decide +kernel,
   by refine ⟨{ queues := [(1, { type := .mgmt, ctx := 0, phase := .running 0, cmds := [wCmd 0x55] })], cyclic := { enterQ := some 1 } }, 1, { type := .mgmt, ctx := 0, phase := .running 0, cmds := [wCmd 0x55] }, (wCmd 0x55), [], 0, ?_, ?_, ?_, ?_⟩ <;> decide +kernel⟩

/-- What ReferenceCountsFall assumes is met. -/
theorem test_wit_ReferenceCountsFall :
  (∃ (s : State) (sub : Nat) (r : RefSub), tget sub s.refSubs = some r ∧ (s.offers.any (fun o => o.2.issuer == .command r.queue && decide (o.1 < r.after))) = false ∧ s.link.up = true ∧ s.link.cxl = true ∧ s.countAt r.pa ≠ 1) ∧
  (∃ (s : State) (sub : Nat) (r : RefSub), tget sub s.refSubs = some r ∧ (s.offers.any (fun o => o.2.issuer == .command r.queue && decide (o.1 < r.after))) = false ∧ s.link.up = true ∧ s.link.cxl = true ∧ s.countAt r.pa = 1) ∧
  (∃ (s : State) (sub : Nat) (r : RefSub) (e : Bool), tget sub s.refSubs = some r ∧ (s.offers.any (fun o => o.2.issuer == .command r.queue && decide (o.1 < r.after))) = false ∧ ((e = true ∨ s.link.up = false ∨ s.link.cxl = false))) ∧
  (∃ (s : State) (sub : Nat) (r : RefSub) (e : Bool), tget sub s.refSubs = some r ∧ (s.offers.any (fun o => o.2.issuer == .command r.queue && decide (o.1 < r.after))) = false ∧ ((e = true ∨ s.link.up = false ∨ s.link.cxl = false))) ∧
  (∃ (s : State) (sub : Nat) (r : RefSub), tget sub s.refSubs = some r ∧ (s.offers.any (fun o => o.2.issuer == .command r.queue && decide (o.1 < r.after))) = true) :=
  ⟨by refine ⟨{ refSubs := [(3, { count := 0, pa := wHost, after := 0, queue := 1, evring := 0, opcode := 2 })], link := { up := true, cxl := true }, cyclic := { mode := false }, host := [(0, 2)] }, 3, { count := 0, pa := wHost, after := 0, queue := 1, evring := 0, opcode := 2 }, ?_, ?_, ?_, ?_, ?_⟩ <;> decide +kernel,
   by refine ⟨{ refSubs := [(3, { count := 0, pa := wHost, after := 0, queue := 1, evring := 0, opcode := 2 })], link := { up := true, cxl := true }, cyclic := { mode := false }, host := [(0, 1)] }, 3, { count := 0, pa := wHost, after := 0, queue := 1, evring := 0, opcode := 2 }, ?_, ?_, ?_, ?_, ?_⟩ <;> decide +kernel,
   by refine ⟨{ refSubs := [(3, { count := 0, pa := wHost, after := 0, queue := 1, evring := 0, opcode := 2 })], link := { up := true, cxl := true }, cyclic := { mode := false } }, 3, { count := 0, pa := wHost, after := 0, queue := 1, evring := 0, opcode := 2 }, true, ?_, ?_, ?_⟩ <;> decide +kernel,
   by refine ⟨{ refSubs := [(3, { count := 0, pa := wHost, after := 0, queue := 1, evring := 0, opcode := 2 })] }, 3, { count := 0, pa := wHost, after := 0, queue := 1, evring := 0, opcode := 2 }, false, ?_, ?_, ?_⟩ <;> decide +kernel,
   by refine ⟨{ refSubs := [(3, { count := 0, pa := wHost, after := 8, queue := 1, evring := 0, opcode := 2 })], link := { up := true, cxl := true }, cyclic := { mode := false }, offers := [(7, { va := 0, pa := 64, value := 1, scope := 0, ctx := 0, folio := 0, epoch := 0, issuer := .command 1 })] }, 3, { count := 0, pa := wHost, after := 8, queue := 1, evring := 0, opcode := 2 }, ?_, ?_⟩ <;> decide +kernel⟩

/-- What ProgramsAndSettingsCommands assumes is met. -/
theorem test_wit_ProgramsAndSettingsCommands :
  (∃ (s : State) (s1 : State) (q : Nat) (x : Queue) (c : Cmd), Taken s q 0x00 x c s1) ∧
  (∃ (s : State) (s1 : State) (q : Nat) (x : Queue) (c : Cmd), Taken s q 0x01 x c s1) ∧
  (∃ (s : State) (s1 : State) (q : Nat) (x : Queue) (c : Cmd), Taken s q 0x04 x c s1) ∧
  (∃ (s : State) (s1 : State) (s2 : State) (q : Nat) (x : Queue) (c : Cmd) (y : Context) (b : Bytes), Taken s q 0x05 x c s1 ∧ x.ctx ≠ 0 ∧ s1.ctx? x.ctx = some y ∧ s1.hubRead x.ctx y.safeVa 64 = (some b, s2)) ∧
  (∃ (s : State) (s1 : State) (q : Nat) (x : Queue) (c : Cmd) (y : Context), Taken s q 0x06 x c s1 ∧ s1.ctx? x.ctx = some y) ∧
  (∃ (s : State) (s1 : State) (s2 : State) (s3 : State) (q : Nat) (x : Queue) (c : Cmd) (h : Bytes) (b : Bytes), Taken s q 0x07 x c s1 ∧ c.arg 0x28 2 ≤ 63 ∧ s1.program? x.ctx (c.arg 0x28 2) = none ∧ s1.hubRead x.ctx (c.arg 0x30 8) 128 = (some h, s2) ∧ qHeaderOk h s2.hubRev = true ∧ s2.hubRead x.ctx (c.arg 0x30 8) (qTotal h) = (some b, s3) ∧ quireOk b s3.hubRev = true ∧ ((s3.isConf (s1.ctxFolio x.ctx) = true → signatureOk b (s3.folio (s1.ctxFolio x.ctx)).qkeys = true))) ∧
  (∃ (s : State) (s1 : State) (q : Nat) (x : Queue) (c : Cmd), Taken s q 0x07 x c s1 ∧ c.arg 0x28 2 ≤ 63 ∧ (s1.program? x.ctx (c.arg 0x28 2)).isSome = true) ∧
  (∃ (s : State) (s1 : State) (q : Nat) (x : Queue) (c : Cmd) (y : Context), Taken s q 0x08 x c s1 ∧ c.arg 0x28 2 ≤ 63 ∧ s1.ctx? x.ctx = some y ∧ (tget (c.arg 0x28 2) y.programs).isSome = true ∧ ((∀ a, y.act = some a → a.prog ≠ c.arg 0x28 2))) ∧
  (∃ (s : State) (s1 : State) (q : Nat) (x : Queue) (c : Cmd) (y : Context) (a : Activation), Taken s q 0x08 x c s1 ∧ c.arg 0x28 2 ≤ 63 ∧ s1.ctx? x.ctx = some y ∧ (tget (c.arg 0x28 2) y.programs).isSome = true ∧ y.act = some a ∧ a.prog = c.arg 0x28 2) ∧
  (∃ (s : State) (s1 : State) (q : Nat) (x : Queue) (c : Cmd), Taken s q 0x05 x c s1 ∧ x.ctx = 0) ∧
  (∃ (s : State) (s1 : State) (q : Nat) (x : Queue) (c : Cmd), Taken s q 0x08 x c s1 ∧ c.arg 0x28 2 ≤ 63 ∧ s1.program? x.ctx (c.arg 0x28 2) = none) :=
  ⟨by refine ⟨(wPart (wQue (wCmd 0x0 []) .compute)), (wPart (wQue (wCmd 0x0 []) .compute)), 1, (wQue (wCmd 0x0 []) .compute), (wCmd 0x0 []), ⟨?_, ?_⟩⟩ <;> decide +kernel,
   by refine ⟨(wPart (wQue (wCmd 0x1 []) .compute)), (wPart (wQue (wCmd 0x1 []) .compute)), 1, (wQue (wCmd 0x1 []) .compute), (wCmd 0x1 []), ⟨?_, ?_⟩⟩ <;> decide +kernel,
   by refine ⟨(wPart (wQue (wCmd 0x4 []) .compute)), (wPart (wQue (wCmd 0x4 []) .compute)), 1, (wQue (wCmd 0x4 []) .compute), (wCmd 0x4 []), ⟨?_, ?_⟩⟩ <;> decide +kernel,
   by refine ⟨{ wPart (wQue (wCmd 0x5 [])) (zeros 64) with queues := [(1, { wQue (wCmd 0x5 []) .compute with ctx := 5 })], ctxs := [(0, { folio := 0 }), (5, { folio := 0 })], hubTlb := [{ ctx := 5, vpage := 0, big := true, ppage := wHost, perm := ⟨true, true, true, false⟩ }] }, { wPart (wQue (wCmd 0x5 [])) (zeros 64) with queues := [(1, { wQue (wCmd 0x5 []) .compute with ctx := 5 })], ctxs := [(0, { folio := 0 }), (5, { folio := 0 })], hubTlb := [{ ctx := 5, vpage := 0, big := true, ppage := wHost, perm := ⟨true, true, true, false⟩ }] }, { wPart (wQue (wCmd 0x5 [])) (zeros 64) with queues := [(1, { wQue (wCmd 0x5 []) .compute with ctx := 5 })], ctxs := [(0, { folio := 0 }), (5, { folio := 0 })], hubTlb := [{ ctx := 5, vpage := 0, big := true, ppage := wHost, perm := ⟨true, true, true, false⟩ }] }, 1, { wQue (wCmd 0x5 []) .compute with ctx := 5 }, (wCmd 0x5 []), { folio := 0 }, (zeros 64), ⟨?_, ?_⟩, ?_, ?_, ?_⟩ <;> decide +kernel,
   by refine ⟨(wPart (wQue (wCmd 0x6 [(0x28, 8, 0x7)]) .compute)), (wPart (wQue (wCmd 0x6 [(0x28, 8, 0x7)]) .compute)), 1, (wQue (wCmd 0x6 [(0x28, 8, 0x7)]) .compute), (wCmd 0x6 [(0x28, 8, 0x7)]), { folio := 0 }, ⟨?_, ?_⟩, ?_⟩ <;> decide +kernel,
   by refine ⟨{ wPart (wQue (wCmd 0x7 [(0x28, 2, 0x3F)])) (wQuire) with queues := [(1, { wQue (wCmd 0x7 [(0x28, 2, 0x3F)]) .compute with ctx := 5 })], ctxs := [(0, { folio := 0 }), (5, { folio := 0 })], hubTlb := [{ ctx := 5, vpage := 0, big := true, ppage := wHost, perm := ⟨true, true, true, false⟩ }] }, { wPart (wQue (wCmd 0x7 [(0x28, 2, 0x3F)])) (wQuire) with queues := [(1, { wQue (wCmd 0x7 [(0x28, 2, 0x3F)]) .compute with ctx := 5 })], ctxs := [(0, { folio := 0 }), (5, { folio := 0 })], hubTlb := [{ ctx := 5, vpage := 0, big := true, ppage := wHost, perm := ⟨true, true, true, false⟩ }] }, { wPart (wQue (wCmd 0x7 [(0x28, 2, 0x3F)])) (wQuire) with queues := [(1, { wQue (wCmd 0x7 [(0x28, 2, 0x3F)]) .compute with ctx := 5 })], ctxs := [(0, { folio := 0 }), (5, { folio := 0 })], hubTlb := [{ ctx := 5, vpage := 0, big := true, ppage := wHost, perm := ⟨true, true, true, false⟩ }] }, { wPart (wQue (wCmd 0x7 [(0x28, 2, 0x3F)])) (wQuire) with queues := [(1, { wQue (wCmd 0x7 [(0x28, 2, 0x3F)]) .compute with ctx := 5 })], ctxs := [(0, { folio := 0 }), (5, { folio := 0 })], hubTlb := [{ ctx := 5, vpage := 0, big := true, ppage := wHost, perm := ⟨true, true, true, false⟩ }] }, 1, { wQue (wCmd 0x7 [(0x28, 2, 0x3F)]) .compute with ctx := 5 }, (wCmd 0x7 [(0x28, 2, 0x3F)]), (wQuire.take 128), wQuire, ⟨?_, ?_⟩, ?_, ?_, ?_, ?_, ?_, ?_, fun h => absurd h (by decide +kernel)⟩ <;> decide +kernel,
   by refine ⟨{ wPart (wQue (wCmd 0x7 [(0x28, 2, 0x3F)])) (zeros 64) with queues := [(1, { wQue (wCmd 0x7 [(0x28, 2, 0x3F)]) .compute with ctx := 5 })], ctxs := [(0, { folio := 0 }), (5, { folio := 0, programs := [(63, { va := 0, image := wQuire })] })], hubTlb := [{ ctx := 5, vpage := 0, big := true, ppage := wHost, perm := ⟨true, true, true, false⟩ }] }, { wPart (wQue (wCmd 0x7 [(0x28, 2, 0x3F)])) (zeros 64) with queues := [(1, { wQue (wCmd 0x7 [(0x28, 2, 0x3F)]) .compute with ctx := 5 })], ctxs := [(0, { folio := 0 }), (5, { folio := 0, programs := [(63, { va := 0, image := wQuire })] })], hubTlb := [{ ctx := 5, vpage := 0, big := true, ppage := wHost, perm := ⟨true, true, true, false⟩ }] }, 1, { wQue (wCmd 0x7 [(0x28, 2, 0x3F)]) .compute with ctx := 5 }, (wCmd 0x7 [(0x28, 2, 0x3F)]), ⟨?_, ?_⟩, ?_, ?_⟩ <;> decide +kernel,
   by refine ⟨{ wPart (wQue (wCmd 0x8 [(0x28, 2, 0x3F)])) (zeros 64) with queues := [(1, { wQue (wCmd 0x8 [(0x28, 2, 0x3F)]) .compute with ctx := 5 })], ctxs := [(0, { folio := 0 }), (5, { folio := 0, programs := [(63, { va := 0, image := wQuire })] })], hubTlb := [{ ctx := 5, vpage := 0, big := true, ppage := wHost, perm := ⟨true, true, true, false⟩ }] }, { wPart (wQue (wCmd 0x8 [(0x28, 2, 0x3F)])) (zeros 64) with queues := [(1, { wQue (wCmd 0x8 [(0x28, 2, 0x3F)]) .compute with ctx := 5 })], ctxs := [(0, { folio := 0 }), (5, { folio := 0, programs := [(63, { va := 0, image := wQuire })] })], hubTlb := [{ ctx := 5, vpage := 0, big := true, ppage := wHost, perm := ⟨true, true, true, false⟩ }] }, 1, { wQue (wCmd 0x8 [(0x28, 2, 0x3F)]) .compute with ctx := 5 }, (wCmd 0x8 [(0x28, 2, 0x3F)]), { folio := 0, programs := [(63, { va := 0, image := wQuire })] }, ⟨?_, ?_⟩, ?_, ?_, ?_, fun a h => nomatch h⟩ <;> decide +kernel,
   by refine ⟨{ wPart (wQue (wCmd 0x8 [(0x28, 2, 0x3F)])) (zeros 64) with queues := [(1, { wQue (wCmd 0x8 [(0x28, 2, 0x3F)]) .compute with ctx := 5 })], ctxs := [(0, { folio := 0 }), (5, { folio := 0, programs := [(63, { va := 0, image := wQuire })], act := some { queue := some 1, prog := 63, placement := 0, cores := [0], release := 0 } })], hubTlb := [{ ctx := 5, vpage := 0, big := true, ppage := wHost, perm := ⟨true, true, true, false⟩ }] }, { wPart (wQue (wCmd 0x8 [(0x28, 2, 0x3F)])) (zeros 64) with queues := [(1, { wQue (wCmd 0x8 [(0x28, 2, 0x3F)]) .compute with ctx := 5 })], ctxs := [(0, { folio := 0 }), (5, { folio := 0, programs := [(63, { va := 0, image := wQuire })], act := some { queue := some 1, prog := 63, placement := 0, cores := [0], release := 0 } })], hubTlb := [{ ctx := 5, vpage := 0, big := true, ppage := wHost, perm := ⟨true, true, true, false⟩ }] }, 1, { wQue (wCmd 0x8 [(0x28, 2, 0x3F)]) .compute with ctx := 5 }, (wCmd 0x8 [(0x28, 2, 0x3F)]), { folio := 0, programs := [(63, { va := 0, image := wQuire })], act := some { queue := some 1, prog := 63, placement := 0, cores := [0], release := 0 } }, { queue := some 1, prog := 63, placement := 0, cores := [0], release := 0 }, ⟨?_, ?_⟩, ?_, ?_, ?_, ?_, ?_⟩ <;> decide +kernel,
   by refine ⟨(wPart (wQue (wCmd 0x5 []))), (wPart (wQue (wCmd 0x5 []))), 1, (wQue (wCmd 0x5 [])), (wCmd 0x5 []), ⟨?_, ?_⟩, ?_⟩ <;> decide +kernel,
   by refine ⟨{ wPart (wQue (wCmd 0x8 [(0x28, 2, 0x3F)])) (zeros 64) with queues := [(1, { wQue (wCmd 0x8 [(0x28, 2, 0x3F)]) .compute with ctx := 5 })], ctxs := [(0, { folio := 0 }), (5, { folio := 0 })], hubTlb := [{ ctx := 5, vpage := 0, big := true, ppage := wHost, perm := ⟨true, true, true, false⟩ }] }, { wPart (wQue (wCmd 0x8 [(0x28, 2, 0x3F)])) (zeros 64) with queues := [(1, { wQue (wCmd 0x8 [(0x28, 2, 0x3F)]) .compute with ctx := 5 })], ctxs := [(0, { folio := 0 }), (5, { folio := 0 })], hubTlb := [{ ctx := 5, vpage := 0, big := true, ppage := wHost, perm := ⟨true, true, true, false⟩ }] }, 1, { wQue (wCmd 0x8 [(0x28, 2, 0x3F)]) .compute with ctx := 5 }, (wCmd 0x8 [(0x28, 2, 0x3F)]), ⟨?_, ?_⟩, ?_, ?_⟩ <;> decide +kernel⟩

/-- What LaunchesRun assumes is met. -/
theorem test_wit_LaunchesRun :
  (∃ (s : State) (q : Nat) (x : Queue) (c : Cmd) (p : Program) (i : _), s.front q 0x02 = some (x, c) ∧ s.resolve x.ctx (c.arg 0x28 2) = .ok (p, i)) ∧
  (∃ (s : State) (q : Nat) (x : Queue) (c : Cmd), s.front q 0x02 = some (x, c) ∧ c.arg 0x28 2 ≤ 63 ∧ s.program? x.ctx (c.arg 0x28 2) = none) ∧
  (∃ (s : State) (q : Nat) (x : Queue) (c : Cmd) (p : Program), s.front q 0x02 = some (x, c) ∧ c.arg 0x28 2 ≤ 63 ∧ s.program? x.ctx (c.arg 0x28 2) = some p ∧ qPlacement p.image (s.rankCores (s.ctxFolio x.ctx)).length = none) ∧
  (∃ (s : State) (q : Nat) (x : Queue) (c : Cmd) (p : Program) (i : _) (s1 : State), s.waitingLaunch q = some (x, c) ∧ s.cyclic.mode = false ∧ s.standby = none ∧ s.resolve x.ctx (c.arg 0x28 2) = .ok (p, i) ∧ s1 = s.makeWay x.ctx (qSpWays p.image) (qAccWays p.image) ∧ s1.canActivate x.ctx p = true ∧ s1.outranked q = false) ∧
  (∃ (s : State) (q : Nat) (x : Queue) (c : Cmd) (p : Program) (i : _) (s1 : State), s.waitingLaunch q = some (x, c) ∧ s.cyclic.mode = false ∧ s.standby = none ∧ s.resolve x.ctx (c.arg 0x28 2) = .ok (p, i) ∧ s1 = s.makeWay x.ctx (qSpWays p.image) (qAccWays p.image) ∧ s1.canActivate x.ctx p = false) ∧
  (∃ (s : State) (ctx : _) (y : Context) (a : Activation) (q : Nat), s.ctx? ctx = some y ∧ y.act = some a ∧ a.queue = some q ∧ a.entry = none ∧ s.ctxStopped ctx = false ∧ (s.slotsOf ctx).all (fun x => x.2.2.halted && x.2.2.fault.isNone) = true) ∧
  (∃ (s : State) (s1 : State) (q : Nat) (x : Queue) (c : Cmd), Taken s q 0x03 x c s1 ∧ x.passed = false ∧ c.arg 0x28 8 % 128 = 0 ∧ 0 < c.arg 0x30 4 ∧ c.arg 0x30 4 ≤ 65536 ∧ (s.chan x.chan).st = .idle ∧ s.fabricUp (x.chan / 64) = true) ∧
  (∃ (s : State) (s1 : State) (q : Nat) (x : Queue) (c : Cmd), Taken s q 0x03 x c s1 ∧ x.passed = true) :=
  ⟨by refine ⟨{ wPart (wQue (wCmd 0x2 [(0x28, 2, 0x3F)]) .compute .fresh) with ctxs := [(0, { folio := 0, programs := [(63, { va := 0, image := wQuire })] })], cyclic := { mode := false }, coreSl := [(0, { st := .owned, owner := 0 })] }, 1, (wQue (wCmd 0x2 [(0x28, 2, 0x3F)]) .compute .fresh), (wCmd 0x2 [(0x28, 2, 0x3F)]), { va := 0, image := wQuire }, 0, ?_, ?_⟩ <;> decide +kernel,
   by refine ⟨{ wPart (wQue (wCmd 0x2 [(0x28, 2, 0x3F)]) .compute .fresh) with ctxs := [(0, { folio := 0, programs := [] })], cyclic := { mode := false }, coreSl := [(0, { st := .owned, owner := 0 })] }, 1, (wQue (wCmd 0x2 [(0x28, 2, 0x3F)]) .compute .fresh), (wCmd 0x2 [(0x28, 2, 0x3F)]), ?_, ?_, ?_⟩ <;> decide +kernel,
   by refine ⟨{ wPart (wQue (wCmd 0x2 [(0x28, 2, 0x3F)]) .compute .fresh) with ctxs := [(0, { folio := 0, programs := [(63, { va := 0, image := wQuire })] })], cyclic := { mode := false }, coreSl := [] }, 1, (wQue (wCmd 0x2 [(0x28, 2, 0x3F)]) .compute .fresh), (wCmd 0x2 [(0x28, 2, 0x3F)]), { va := 0, image := wQuire }, ?_, ?_, ?_, ?_⟩ <;> decide +kernel,
   by refine ⟨{ wPart (wQue (wCmd 0x2 [(0x28, 2, 0x3F)]) .compute .held) with ctxs := [(0, { folio := 0, programs := [(63, { va := 0, image := wQuire })] })], cyclic := { mode := false }, coreSl := [(0, { st := .owned, owner := 0 })] }, 1, (wQue (wCmd 0x2 [(0x28, 2, 0x3F)]) .compute .held), (wCmd 0x2 [(0x28, 2, 0x3F)]), { va := 0, image := wQuire }, 0, { wPart (wQue (wCmd 0x2 [(0x28, 2, 0x3F)]) .compute .held) with ctxs := [(0, { folio := 0, programs := [(63, { va := 0, image := wQuire })] })], cyclic := { mode := false }, coreSl := [(0, { st := .owned, owner := 0 })] }, ?_, ?_, ?_, ?_, ?_, ?_, ?_⟩ <;> decide +kernel,
   by refine ⟨{ wPart (wQue (wCmd 0x2 [(0x28, 2, 0x3F)]) .compute .held) with ctxs := [(0, { folio := 0, programs := [(63, { va := 0, image := wQuire })] })], cyclic := { mode := false }, coreSl := [(0, { st := .owned, owner := 0 })], standby := none, cores := [(0, { slots := [(0, { wSlot with ctx := 5, halted := false, spWays := [0, 1, 2, 3] })] })] }, 1, (wQue (wCmd 0x2 [(0x28, 2, 0x3F)]) .compute .held), (wCmd 0x2 [(0x28, 2, 0x3F)]), { va := 0, image := wQuire }, 0, _, ?_, ?_, ?_, ?_, rfl, ?_⟩ <;> decide +kernel,
   by refine ⟨{ ctxs := [(5, { folio := 0, act := some { queue := some 1, prog := 63, placement := 0, cores := [0], release := 0 } })], cores := [(0, { slots := [(0, { wSlot with ctx := 5, halted := true })] })] }, 5, { folio := 0, act := some { queue := some 1, prog := 63, placement := 0, cores := [0], release := 0 } }, { queue := some 1, prog := 63, placement := 0, cores := [0], release := 0 }, 1, ?_, ?_, ?_, ?_, ?_, ?_⟩ <;> decide +kernel,
   by refine ⟨{ wPart (wQue (wCmd 0x3 [(0x28, 8, 0x80), (0x30, 4, 0x10000)]) .copy) with fabrics := [(0, { running := true })] }, { wPart (wQue (wCmd 0x3 [(0x28, 8, 0x80), (0x30, 4, 0x10000)]) .copy) with fabrics := [(0, { running := true })] }, 1, (wQue (wCmd 0x3 [(0x28, 8, 0x80), (0x30, 4, 0x10000)]) .copy), (wCmd 0x3 [(0x28, 8, 0x80), (0x30, 4, 0x10000)]), ⟨?_, ?_⟩, ?_, ?_, ?_, ?_, ?_, ?_⟩ <;> decide +kernel,
   by refine ⟨(wPart { wQue (wCmd 0x3 []) .copy with passed := true }), (wPart { wQue (wCmd 0x3 []) .copy with passed := true }), 1, { wQue (wCmd 0x3 []) .copy with passed := true }, (wCmd 0x3 []), ⟨?_, ?_⟩, ?_⟩ <;> decide +kernel⟩

/-- What ContextCommandsComplete assumes is met. -/
theorem test_wit_ContextCommandsComplete :
  (∃ (s : State) (s2 : State) (s3 : State) (q : Nat) (x : Queue) (c : Cmd) (b : Bytes) (v : Bytes), TakenBlock s q 0x10 x c s2 b ∧ fieldLe b 3 1 < 2 ∧ fieldLe b 0x22 30 = 0 ∧ 0 < fieldLe b 0 2 ∧ fieldLe b 0 2 ≤ 4095 ∧ s2.ctxInUse (fieldLe b 0 2) = false ∧ fieldLe b 2 1 ≤ 63 ∧ s2.folioUsable (fieldLe b 2 1) = true ∧ s2.rootOk (fieldLe b 8 8) = true ∧ fieldLe b 0x18 8 % 64 = 0 ∧ s2.ringOf (fieldLe b 0x20 2) (fieldLe b 2 1) = none ∧ (s2.setCtx (fieldLe b 0 2) ({ folio := fieldLe b 2 1, rt := bit (fieldLe b 3 1) 0, share := fieldLe b 4 4, root := fieldLe b 8 8, seed := BitVec.ofNat 64 (fieldLe b 0x10 8), safeVa := fieldLe b 0x18 8, evring := fieldLe b 0x20 2, idleSince := s2.hubCount })).hubRead (fieldLe b 0 2) (fieldLe b 0x18 8) 64 = (some v, s3)) ∧
  (∃ (s : State) (s1 : State) (q : Nat) (x : Queue) (c : Cmd), Taken s q 0x11 x c s1 ∧ 0 < c.arg 0x28 2 ∧ c.arg 0x28 2 ≤ 4095 ∧ (s1.ctx? (c.arg 0x28 2)).isSome = true ∧ s1.queuesOf (c.arg 0x28 2) = [] ∧ (s1.ctx? (c.arg 0x28 2)).bind (fun y => y.resident) = none) ∧
  (∃ (s : State) (s1 : State) (q : Nat) (x : Queue) (c : Cmd) (y : Context) (e : _), Taken s q 0x11 x c s1 ∧ 0 < c.arg 0x28 2 ∧ c.arg 0x28 2 ≤ 4095 ∧ s1.ctx? (c.arg 0x28 2) = some y ∧ y.resident = some e) ∧
  (∃ (s : State) (s1 : State) (q : Nat) (x : Queue) (c : Cmd), Taken s q 0x12 x c s1 ∧ 0 < c.arg 0x28 2 ∧ c.arg 0x28 2 ≤ 4095 ∧ (s1.ctx? (c.arg 0x28 2)).isSome = true) ∧
  (∃ (s : State) (s2 : State) (q : Nat) (x : Queue) (c : Cmd) (b : Bytes), TakenBlock s q 0x10 x c s2 b ∧ fieldLe b 3 1 < 2 ∧ fieldLe b 0x22 30 = 0 ∧ fieldLe b 0 2 = 0) ∧
  (∃ (s s1 : State) (q : Nat) (x : Queue) (c : Cmd), c.arg 0x28 2 = 0 ∧ Taken s q 0x11 x c s1) ∧
  (∃ (s s1 : State) (q : Nat) (x : Queue) (c : Cmd), c.arg 0x28 2 = 0 ∧ Taken s q 0x12 x c s1) ∧
  (∃ (s : State) (s1 : State) (s2 : State) (q : Nat) (x : Queue) (c : Cmd), Taken s q 0x13 x c s1 ∧ c.arg 0x28 2 ≤ 4095 ∧ (s1.ctx? (c.arg 0x28 2)).isSome = true ∧ s2 = (s1.chargeAll (c.arg 0x28 2)).modCtx (c.arg 0x28 2) (fun y => y.resumed s1.hubCount)) :=
  ⟨by refine ⟨{ wPart (wQue (wCmd 0x10 [(0x28, 8, wHost)])) (wBlk 64 [(0x0, 2, 0xFFF), (0x2, 1, 0x1), (0x3, 1, 0x1), (0x4, 4, 0x9), (0x8, 8, 0x8000), (0x10, 8, 0x3), (0x20, 2, 0x3FF)]) with folios := [(0, { valid := true }), (1, { valid := true })], evrings := [(1023, { folio := 1, vector := 0, log := 4, base := wHost })], hubTlb := [{ ctx := 4095, vpage := 0, big := true, ppage := wHost + 2 ^ 31, perm := ⟨true, true, true, false⟩ }] }, { wPart (wQue (wCmd 0x10 [(0x28, 8, wHost)])) (wBlk 64 [(0x0, 2, 0xFFF), (0x2, 1, 0x1), (0x3, 1, 0x1), (0x4, 4, 0x9), (0x8, 8, 0x8000), (0x10, 8, 0x3), (0x20, 2, 0x3FF)]) with folios := [(0, { valid := true }), (1, { valid := true })], evrings := [(1023, { folio := 1, vector := 0, log := 4, base := wHost })], hubTlb := [{ ctx := 4095, vpage := 0, big := true, ppage := wHost + 2 ^ 31, perm := ⟨true, true, true, false⟩ }] }, ({ wPart (wQue (wCmd 0x10 [(0x28, 8, wHost)])) (wBlk 64 [(0x0, 2, 0xFFF), (0x2, 1, 0x1), (0x3, 1, 0x1), (0x4, 4, 0x9), (0x8, 8, 0x8000), (0x10, 8, 0x3), (0x20, 2, 0x3FF)]) with folios := [(0, { valid := true }), (1, { valid := true })], evrings := [(1023, { folio := 1, vector := 0, log := 4, base := wHost })], hubTlb := [{ ctx := 4095, vpage := 0, big := true, ppage := wHost + 2 ^ 31, perm := ⟨true, true, true, false⟩ }] }.setCtx 4095 { folio := 1, rt := true, share := 9, root := 0x8000, seed := 3, evring := 1023 }), 1, (wQue (wCmd 0x10 [(0x28, 8, wHost)])), (wCmd 0x10 [(0x28, 8, wHost)]), (wBlk 64 [(0x0, 2, 0xFFF), (0x2, 1, 0x1), (0x3, 1, 0x1), (0x4, 4, 0x9), (0x8, 8, 0x8000), (0x10, 8, 0x3), (0x20, 2, 0x3FF)]), (zeros 64), ⟨?_, ?_⟩, ?_, ?_, ?_, ?_, ?_, ?_, ?_, ?_, ?_, ?_, ?_⟩ <;> decide +kernel,
   by refine ⟨{ wPart (wQue (wCmd 0x11 [(0x28, 2, 0x5)])) with ctxs := [(0, { folio := 0 }), (5, { folio := 0 })] }, { wPart (wQue (wCmd 0x11 [(0x28, 2, 0x5)])) with ctxs := [(0, { folio := 0 }), (5, { folio := 0 })] }, 1, (wQue (wCmd 0x11 [(0x28, 2, 0x5)])), (wCmd 0x11 [(0x28, 2, 0x5)]), ⟨?_, ?_⟩, ?_, ?_, ?_, ?_, ?_⟩ <;> decide +kernel,
   by refine ⟨{ wPart (wQue (wCmd 0x11 [(0x28, 2, 0x5)])) with ctxs := [(0, { folio := 0 }), (5, { folio := 0, resident := some 0 })] }, { wPart (wQue (wCmd 0x11 [(0x28, 2, 0x5)])) with ctxs := [(0, { folio := 0 }), (5, { folio := 0, resident := some 0 })] }, 1, (wQue (wCmd 0x11 [(0x28, 2, 0x5)])), (wCmd 0x11 [(0x28, 2, 0x5)]), { folio := 0, resident := some 0 }, 0, ⟨?_, ?_⟩, ?_, ?_, ?_, ?_⟩ <;> decide +kernel,
   by refine ⟨{ wPart (wQue (wCmd 0x12 [(0x28, 2, 0x5)])) with ctxs := [(0, { folio := 0 }), (5, { folio := 0 })] }, { wPart (wQue (wCmd 0x12 [(0x28, 2, 0x5)])) with ctxs := [(0, { folio := 0 }), (5, { folio := 0 })] }, 1, (wQue (wCmd 0x12 [(0x28, 2, 0x5)])), (wCmd 0x12 [(0x28, 2, 0x5)]), ⟨?_, ?_⟩, ?_, ?_, ?_⟩ <;> decide +kernel,
   by refine ⟨(wPart (wQue (wCmd 0x10 [(0x28, 8, wHost)])) (wBlk 64 [])), (wPart (wQue (wCmd 0x10 [(0x28, 8, wHost)])) (wBlk 64 [])), 1, (wQue (wCmd 0x10 [(0x28, 8, wHost)])), (wCmd 0x10 [(0x28, 8, wHost)]), (wBlk 64 []), ⟨?_, ?_⟩, ?_, ?_, ?_⟩ <;> decide +kernel,
   by refine ⟨(wPart (wQue (wCmd 0x11 []))), (wPart (wQue (wCmd 0x11 []))), 1, (wQue (wCmd 0x11 [])), (wCmd 0x11 []), ?_, ⟨?_, ?_⟩⟩ <;> decide +kernel,
   by refine ⟨(wPart (wQue (wCmd 0x12 []))), (wPart (wQue (wCmd 0x12 []))), 1, (wQue (wCmd 0x12 [])), (wCmd 0x12 []), ?_, ⟨?_, ?_⟩⟩ <;> decide +kernel,
   by refine ⟨{ wPart (wQue (wCmd 0x13 [(0x28, 2, 0x5)])) with ctxs := [(0, { folio := 0 }), (5, { folio := 0, suspended := some 0 })] }, { wPart (wQue (wCmd 0x13 [(0x28, 2, 0x5)])) with ctxs := [(0, { folio := 0 }), (5, { folio := 0, suspended := some 0 })] }, _, 1, (wQue (wCmd 0x13 [(0x28, 2, 0x5)])), (wCmd 0x13 [(0x28, 2, 0x5)]), ⟨?_, ?_⟩, ?_, ?_, rfl⟩ <;> decide +kernel⟩

/-- What QueueAndRingCommandsComplete assumes is met. -/
theorem test_wit_QueueAndRingCommandsComplete :
  (∃ (s : State) (s2 : State) (q : Nat) (x : Queue) (c : Cmd) (b : Bytes), TakenBlock s q 0x18 x c s2 b ∧ s2.queueBad b = none ∧ fieldLe b 2 1 = 1) ∧
  (∃ (s : State) (s2 : State) (q : Nat) (x : Queue) (c : Cmd) (b : Bytes), TakenBlock s q 0x18 x c s2 b ∧ s2.queueBad b = none ∧ fieldLe b 2 1 = 2) ∧
  (∃ (s : State) (s2 : State) (q : Nat) (x : Queue) (c : Cmd) (b : Bytes) (e : _), TakenBlock s q 0x18 x c s2 b ∧ s2.queueBad b = some e) ∧
  (∃ (s : State) (s1 : State) (q : Nat) (x : Queue) (c : Cmd), Taken s q 0x19 x c s1 ∧ 0 < c.arg 0x28 2 ∧ c.arg 0x28 2 ≤ 16383 ∧ (s1.queue? (c.arg 0x28 2)).isSome = true) ∧
  (∃ (s : State) (s2 : State) (q : Nat) (x : Queue) (c : Cmd) (b : Bytes), TakenBlock s q 0x1A x c s2 b ∧ fieldLe b 6 2 = 0 ∧ fieldLe b 0x10 48 = 0 ∧ 0 < fieldLe b 0 2 ∧ fieldLe b 0 2 ≤ 1023 ∧ tget (fieldLe b 0 2) s2.evrings = none ∧ 4 ≤ fieldLe b 2 1 ∧ fieldLe b 2 1 ≤ 16 ∧ fieldLe b 3 1 ≤ 63 ∧ (s2.folio (fieldLe b 3 1)).valid = true ∧ fieldLe b 4 2 < (if fieldLe b 3 1 = 0 then 256 else 32) ∧ inHost (fieldLe b 8 8) (64 * 2 ^ fieldLe b 2 1 + 128) = true ∧ fieldLe b 8 8 % 4096 = 0) ∧
  (∃ (s : State) (s1 : State) (q : Nat) (x : Queue) (c : Cmd), Taken s q 0x1B x c s1 ∧ 0 < c.arg 0x28 2 ∧ c.arg 0x28 2 ≤ 1023 ∧ (tget (c.arg 0x28 2) s1.evrings).isSome = true ∧ s1.queues.any (fun z => z.2.evring == c.arg 0x28 2) = false ∧ s1.ctxs.any (fun z => z.2.evring == c.arg 0x28 2) = false ∧ s1.folios.any (fun z => z.2.evring == c.arg 0x28 2) = false) ∧
  (∃ (s : State) (s1 : State) (q : Nat) (x : Queue) (c : Cmd), Taken s q 0x29 x c s1 ∧ c.arg 0x28 1 ≤ 7 ∧ c.arg 0x29 1 ≤ 15 ∧ c.arg 0x2A 1 ≤ 63 ∧ s1.folioUsable (c.arg 0x2A 1) = true) ∧
  (∃ (s : State) (ring : _) (n : Nat) (e : EvRing), s.ring? ring = some e) ∧
  (∃ (s : State), s.clasp.rails = true ∧ bit (s.reg rMgmtqRing) 0 = false) :=
  ⟨by refine ⟨(wPart (wQue (wCmd 0x18 [(0x28, 8, wHost)])) (wBlk 64 [(0x0, 2, 0x3FFF), (0x2, 1, 0x1), (0x4, 2, 0x0), (0x6, 1, 0x10), (0x7, 1, 0x7), (0x8, 8, 0x200000400000), (0x10, 8, 0x200000800000), (0x18, 8, 0x200000800040), (0x22, 1, 0x0)])), (wPart (wQue (wCmd 0x18 [(0x28, 8, wHost)])) (wBlk 64 [(0x0, 2, 0x3FFF), (0x2, 1, 0x1), (0x4, 2, 0x0), (0x6, 1, 0x10), (0x7, 1, 0x7), (0x8, 8, 0x200000400000), (0x10, 8, 0x200000800000), (0x18, 8, 0x200000800040), (0x22, 1, 0x0)])), 1, (wQue (wCmd 0x18 [(0x28, 8, wHost)])), (wCmd 0x18 [(0x28, 8, wHost)]), (wBlk 64 [(0x0, 2, 0x3FFF), (0x2, 1, 0x1), (0x4, 2, 0x0), (0x6, 1, 0x10), (0x7, 1, 0x7), (0x8, 8, 0x200000400000), (0x10, 8, 0x200000800000), (0x18, 8, 0x200000800040), (0x22, 1, 0x0)]), ⟨?_, ?_⟩, ?_, ?_⟩ <;> decide +kernel,
   by refine ⟨(wPart (wQue (wCmd 0x18 [(0x28, 8, wHost)])) (wBlk 64 [(0x0, 2, 0x3FFF), (0x2, 1, 0x2), (0x4, 2, 0x0), (0x6, 1, 0x10), (0x7, 1, 0x7), (0x8, 8, 0x200000400000), (0x10, 8, 0x200000800000), (0x18, 8, 0x200000800040), (0x22, 1, 0x7F)])), (wPart (wQue (wCmd 0x18 [(0x28, 8, wHost)])) (wBlk 64 [(0x0, 2, 0x3FFF), (0x2, 1, 0x2), (0x4, 2, 0x0), (0x6, 1, 0x10), (0x7, 1, 0x7), (0x8, 8, 0x200000400000), (0x10, 8, 0x200000800000), (0x18, 8, 0x200000800040), (0x22, 1, 0x7F)])), 1, (wQue (wCmd 0x18 [(0x28, 8, wHost)])), (wCmd 0x18 [(0x28, 8, wHost)]), (wBlk 64 [(0x0, 2, 0x3FFF), (0x2, 1, 0x2), (0x4, 2, 0x0), (0x6, 1, 0x10), (0x7, 1, 0x7), (0x8, 8, 0x200000400000), (0x10, 8, 0x200000800000), (0x18, 8, 0x200000800040), (0x22, 1, 0x7F)]), ⟨?_, ?_⟩, ?_, ?_⟩ <;> decide +kernel,
   by refine ⟨(wPart (wQue (wCmd 0x18 [(0x28, 8, wHost)])) (wBlk 64 [(0x0, 2, 0x3FFF), (0x2, 1, 0x1), (0x4, 2, 0x0), (0x6, 1, 0x10), (0x7, 1, 0x7), (0x8, 8, 0x200000400000), (0x10, 8, 0x200000800000), (0x18, 8, 0x200000800040), (0x22, 1, 0x0), (0x23, 1, 0x1)])), (wPart (wQue (wCmd 0x18 [(0x28, 8, wHost)])) (wBlk 64 [(0x0, 2, 0x3FFF), (0x2, 1, 0x1), (0x4, 2, 0x0), (0x6, 1, 0x10), (0x7, 1, 0x7), (0x8, 8, 0x200000400000), (0x10, 8, 0x200000800000), (0x18, 8, 0x200000800040), (0x22, 1, 0x0), (0x23, 1, 0x1)])), 1, (wQue (wCmd 0x18 [(0x28, 8, wHost)])), (wCmd 0x18 [(0x28, 8, wHost)]), (wBlk 64 [(0x0, 2, 0x3FFF), (0x2, 1, 0x1), (0x4, 2, 0x0), (0x6, 1, 0x10), (0x7, 1, 0x7), (0x8, 8, 0x200000400000), (0x10, 8, 0x200000800000), (0x18, 8, 0x200000800040), (0x22, 1, 0x0), (0x23, 1, 0x1)]), (1, 0), ⟨?_, ?_⟩, ?_⟩ <;> decide +kernel,
   by refine ⟨{ wPart (wQue (wCmd 0x19 [(0x28, 2, 0x3FFF)])) with queues := [(1, wQue (wCmd 0x19 [(0x28, 2, 0x3FFF)])), (16383, wQue (wCmd 0) .compute)] }, { wPart (wQue (wCmd 0x19 [(0x28, 2, 0x3FFF)])) with queues := [(1, wQue (wCmd 0x19 [(0x28, 2, 0x3FFF)])), (16383, wQue (wCmd 0) .compute)] }, 1, (wQue (wCmd 0x19 [(0x28, 2, 0x3FFF)])), (wCmd 0x19 [(0x28, 2, 0x3FFF)]), ⟨?_, ?_⟩, ?_, ?_, ?_⟩ <;> decide +kernel,
   by refine ⟨(wPart (wQue (wCmd 0x1A [(0x28, 8, wHost)])) (wBlk 64 [(0x0, 2, 0x3FF), (0x2, 1, 0x10), (0x4, 2, 0xFF), (0x8, 8, 0x200000001000)])), (wPart (wQue (wCmd 0x1A [(0x28, 8, wHost)])) (wBlk 64 [(0x0, 2, 0x3FF), (0x2, 1, 0x10), (0x4, 2, 0xFF), (0x8, 8, 0x200000001000)])), 1, (wQue (wCmd 0x1A [(0x28, 8, wHost)])), (wCmd 0x1A [(0x28, 8, wHost)]), (wBlk 64 [(0x0, 2, 0x3FF), (0x2, 1, 0x10), (0x4, 2, 0xFF), (0x8, 8, 0x200000001000)]), ⟨?_, ?_⟩, ?_, ?_, ?_, ?_, ?_, ?_, ?_, ?_, ?_, ?_, ?_, ?_⟩ <;> decide +kernel,
   by refine ⟨{ wPart (wQue (wCmd 0x1B [(0x28, 2, 0x3FF)])) with evrings := [(1023, { folio := 0, vector := 0, log := 4, base := wHost })] }, { wPart (wQue (wCmd 0x1B [(0x28, 2, 0x3FF)])) with evrings := [(1023, { folio := 0, vector := 0, log := 4, base := wHost })] }, 1, (wQue (wCmd 0x1B [(0x28, 2, 0x3FF)])), (wCmd 0x1B [(0x28, 2, 0x3FF)]), ⟨?_, ?_⟩, ?_, ?_, ?_, ?_, ?_, ?_⟩ <;> decide +kernel,
   by refine ⟨(wPart (wQue (wCmd 0x29 [(0x28, 1, 0x7), (0x29, 1, 0xF)]))), (wPart (wQue (wCmd 0x29 [(0x28, 1, 0x7), (0x29, 1, 0xF)]))), 1, (wQue (wCmd 0x29 [(0x28, 1, 0x7), (0x29, 1, 0xF)])), (wCmd 0x29 [(0x28, 1, 0x7), (0x29, 1, 0xF)]), ⟨?_, ?_⟩, ?_, ?_, ?_, ?_⟩ <;> decide +kernel,
   ⟨{ evrings := [(1023, { folio := 0, vector := 0, log := 4, base := wHost })] }, 1023, 0, { folio := 0, vector := 0, log := 4, base := wHost }, by decide +kernel⟩,
   by refine ⟨{ clasp := { rails := true } }, ?_, ?_⟩ <;> decide +kernel⟩

/-- What HomeRequestsServed assumes is met. -/
theorem test_wit_HomeRequestsServed :
  (∃ (s : State) (id : Nat) (h : Nat) (q : Req) (s1 : State), Served s id h q s1 ∧ q.kind = .getShare) ∧
  (∃ (s : State) (id : Nat) (h : Nat) (q : Req) (s1 : State), Served s id h q s1 ∧ q.kind = .getShare) ∧
  (∃ (s : State) (id : Nat) (h : Nat) (q : Req) (s1 : State), Served s id h q s1 ∧ q.kind = .getOwn) ∧
  (∃ (s : State) (id : Nat) (h : Nat) (q : Req) (s1 : State), Served s id h q s1 ∧ q.kind = .getOwn) ∧
  (∃ (s : State) (id : Nat) (h : Nat) (q : Req) (s1 : State), Served s id h q s1 ∧ q.kind = .upgrade) ∧
  (∃ (s : State) (id : Nat) (h : Nat) (q : Req) (s1 : State), Served s id h q s1 ∧ q.kind = .upgrade) ∧
  (∃ (s : State) (id : Nat) (h : Nat) (q : Req) (s1 : State), Served s id h q s1 ∧ q.kind = .glance) ∧
  (∃ (s : State) (id : Nat) (h : Nat) (q : Req) (s1 : State), Served s id h q s1 ∧ q.kind = .glance) ∧
  (∃ (s : State) (id : Nat) (h : Nat) (q : Req) (s1 : State), Served s id h q s1 ∧ q.kind = .putHome) ∧
  (∃ (s : State) (id : Nat) (h : Nat) (q : Req) (s1 : State), Served s id h q s1 ∧ q.kind = .rawGet) ∧
  (∃ (s : State) (id : Nat) (h : Nat) (q : Req) (s1 : State), Served s id h q s1 ∧ q.kind = .rawPut) ∧
  (∃ (s : State) (id : Nat) (h : Nat) (q : Req) (s1 : State) (k : ReqKind) (c : Instr), (k, c) ∈ [(ReqKind.getShare, Instr.getShare id), (.getOwn, .getOwn id), (.upgrade, .upgrade id), (.glance, .glance id), (.putHome, .putHome id), (.rawGet, .rawGet id), (.rawPut, .rawPut id)] ∧ AtHome s id h q s1 ∧ q.kind = k ∧ s1.arbitrate h id q = none) ∧
  (∃ (s : State) (id : Nat) (h : Nat) (q : Req) (s1 : State) (s2 : State) (e : Cpl) (k : ReqKind) (c : Instr), (k, c) ∈ [(ReqKind.getShare, Instr.getShare id), (.getOwn, .getOwn id), (.upgrade, .upgrade id), (.glance, .glance id), (.putHome, .putHome id), (.rawGet, .rawGet id), (.rawPut, .rawPut id)] ∧ AtHome s id h q s1 ∧ q.kind = k ∧ s1.arbitrate h id q = some s2 ∧ s2.homeCheck q = some e) ∧
  (∃ (s : State) (id : Nat) (q : Req) (s1 : State) (s2 : State) (k : ReqKind) (c : Instr), (k, c) ∈ [(ReqKind.getShare, Instr.getShare id), (.getOwn, .getOwn id), (.upgrade, .upgrade id), (.glance, .glance id), (.putHome, .putHome id), (.rawGet, .rawGet id), (.rawPut, .rawPut id)] ∧ AtHome s id 64 q s1 ∧ q.kind = k ∧ s1.arbitrate 64 id q = some s2 ∧ s2.homeCheck q = none ∧ s2.hostHas q = false) ∧
  (∃ (s : State) (id : Nat) (q : Req) (k : ReqKind) (c : Instr), (k, c) ∈ [(ReqKind.getShare, Instr.getShare id), (.getOwn, .getOwn id), (.upgrade, .upgrade id), (.glance, .glance id), (.putHome, .putHome id), (.rawGet, .rawGet id), (.rawPut, .rawPut id)] ∧ s.req? id = some q ∧ q.kind = k ∧ s.unserved q = true) :=
  ⟨by refine ⟨{ wPart (wQue (wCmd 0)) with reqs := [(7, { kind := .getShare, issuer := .scalar 0 0, pa := 64, len := 64 })] }, 7, 0, (Req.arrive { kind := .getShare, issuer := .scalar 0 0, pa := 64, len := 64 } (State.homeClock ({ wPart (wQue (wCmd 0)) with reqs := [(7, { kind := .getShare, issuer := .scalar 0 0, pa := 64, len := 64 })] }) 0)), (((State.setReq ({ wPart (wQue (wCmd 0)) with reqs := [(7, { kind := .getShare, issuer := .scalar 0 0, pa := 64, len := 64 })] }) 7 (Req.arrive { kind := .getShare, issuer := .scalar 0 0, pa := 64, len := 64 } (State.homeClock ({ wPart (wQue (wCmd 0)) with reqs := [(7, { kind := .getShare, issuer := .scalar 0 0, pa := 64, len := 64 })] }) 0))).arbitrate 0 7 (Req.arrive { kind := .getShare, issuer := .scalar 0 0, pa := 64, len := 64 } (State.homeClock ({ wPart (wQue (wCmd 0)) with reqs := [(7, { kind := .getShare, issuer := .scalar 0 0, pa := 64, len := 64 })] }) 0))).getD (State.setReq ({ wPart (wQue (wCmd 0)) with reqs := [(7, { kind := .getShare, issuer := .scalar 0 0, pa := 64, len := 64 })] }) 7 (Req.arrive { kind := .getShare, issuer := .scalar 0 0, pa := 64, len := 64 } (State.homeClock ({ wPart (wQue (wCmd 0)) with reqs := [(7, { kind := .getShare, issuer := .scalar 0 0, pa := 64, len := 64 })] }) 0)))), ⟨⟨(State.setReq ({ wPart (wQue (wCmd 0)) with reqs := [(7, { kind := .getShare, issuer := .scalar 0 0, pa := 64, len := 64 })] }) 7 (Req.arrive { kind := .getShare, issuer := .scalar 0 0, pa := 64, len := 64 } (State.homeClock ({ wPart (wQue (wCmd 0)) with reqs := [(7, { kind := .getShare, issuer := .scalar 0 0, pa := 64, len := 64 })] }) 0))), ⟨{ kind := .getShare, issuer := .scalar 0 0, pa := 64, len := 64 }, ?_, ?_, ?_, ?_, ?_, rfl, rfl⟩, ?_⟩, ?_, fun e => absurd e (by decide), fun _ => .inr (by decide +kernel)⟩, ?_⟩ <;> decide +kernel,
   by refine ⟨{ wPart (wQue (wCmd 0)) with reqs := [(7, { kind := .getShare, issuer := .scalar 0 0, pa := wHost, len := 64 })], hostLines := [(wHost, { st := .m, data := zeros 64 })] }, 7, 64, (Req.arrive { kind := .getShare, issuer := .scalar 0 0, pa := wHost, len := 64 } (State.homeClock ({ wPart (wQue (wCmd 0)) with reqs := [(7, { kind := .getShare, issuer := .scalar 0 0, pa := wHost, len := 64 })], hostLines := [(wHost, { st := .m, data := zeros 64 })] }) 64)), (((State.setReq ({ wPart (wQue (wCmd 0)) with reqs := [(7, { kind := .getShare, issuer := .scalar 0 0, pa := wHost, len := 64 })], hostLines := [(wHost, { st := .m, data := zeros 64 })] }) 7 (Req.arrive { kind := .getShare, issuer := .scalar 0 0, pa := wHost, len := 64 } (State.homeClock ({ wPart (wQue (wCmd 0)) with reqs := [(7, { kind := .getShare, issuer := .scalar 0 0, pa := wHost, len := 64 })], hostLines := [(wHost, { st := .m, data := zeros 64 })] }) 64))).arbitrate 64 7 (Req.arrive { kind := .getShare, issuer := .scalar 0 0, pa := wHost, len := 64 } (State.homeClock ({ wPart (wQue (wCmd 0)) with reqs := [(7, { kind := .getShare, issuer := .scalar 0 0, pa := wHost, len := 64 })], hostLines := [(wHost, { st := .m, data := zeros 64 })] }) 64))).getD (State.setReq ({ wPart (wQue (wCmd 0)) with reqs := [(7, { kind := .getShare, issuer := .scalar 0 0, pa := wHost, len := 64 })], hostLines := [(wHost, { st := .m, data := zeros 64 })] }) 7 (Req.arrive { kind := .getShare, issuer := .scalar 0 0, pa := wHost, len := 64 } (State.homeClock ({ wPart (wQue (wCmd 0)) with reqs := [(7, { kind := .getShare, issuer := .scalar 0 0, pa := wHost, len := 64 })], hostLines := [(wHost, { st := .m, data := zeros 64 })] }) 64)))), ⟨⟨(State.setReq ({ wPart (wQue (wCmd 0)) with reqs := [(7, { kind := .getShare, issuer := .scalar 0 0, pa := wHost, len := 64 })], hostLines := [(wHost, { st := .m, data := zeros 64 })] }) 7 (Req.arrive { kind := .getShare, issuer := .scalar 0 0, pa := wHost, len := 64 } (State.homeClock ({ wPart (wQue (wCmd 0)) with reqs := [(7, { kind := .getShare, issuer := .scalar 0 0, pa := wHost, len := 64 })], hostLines := [(wHost, { st := .m, data := zeros 64 })] }) 64))), ⟨{ kind := .getShare, issuer := .scalar 0 0, pa := wHost, len := 64 }, ?_, ?_, ?_, ?_, ?_, rfl, rfl⟩, ?_⟩, ?_, fun _ => by decide +kernel, fun e => absurd rfl e⟩, ?_⟩ <;> decide +kernel,
   by refine ⟨{ wPart (wQue (wCmd 0)) with reqs := [(7, { kind := .getOwn, issuer := .scalar 0 0, pa := 64, len := 64 })] }, 7, 0, (Req.arrive { kind := .getOwn, issuer := .scalar 0 0, pa := 64, len := 64 } (State.homeClock ({ wPart (wQue (wCmd 0)) with reqs := [(7, { kind := .getOwn, issuer := .scalar 0 0, pa := 64, len := 64 })] }) 0)), (((State.setReq ({ wPart (wQue (wCmd 0)) with reqs := [(7, { kind := .getOwn, issuer := .scalar 0 0, pa := 64, len := 64 })] }) 7 (Req.arrive { kind := .getOwn, issuer := .scalar 0 0, pa := 64, len := 64 } (State.homeClock ({ wPart (wQue (wCmd 0)) with reqs := [(7, { kind := .getOwn, issuer := .scalar 0 0, pa := 64, len := 64 })] }) 0))).arbitrate 0 7 (Req.arrive { kind := .getOwn, issuer := .scalar 0 0, pa := 64, len := 64 } (State.homeClock ({ wPart (wQue (wCmd 0)) with reqs := [(7, { kind := .getOwn, issuer := .scalar 0 0, pa := 64, len := 64 })] }) 0))).getD (State.setReq ({ wPart (wQue (wCmd 0)) with reqs := [(7, { kind := .getOwn, issuer := .scalar 0 0, pa := 64, len := 64 })] }) 7 (Req.arrive { kind := .getOwn, issuer := .scalar 0 0, pa := 64, len := 64 } (State.homeClock ({ wPart (wQue (wCmd 0)) with reqs := [(7, { kind := .getOwn, issuer := .scalar 0 0, pa := 64, len := 64 })] }) 0)))), ⟨⟨(State.setReq ({ wPart (wQue (wCmd 0)) with reqs := [(7, { kind := .getOwn, issuer := .scalar 0 0, pa := 64, len := 64 })] }) 7 (Req.arrive { kind := .getOwn, issuer := .scalar 0 0, pa := 64, len := 64 } (State.homeClock ({ wPart (wQue (wCmd 0)) with reqs := [(7, { kind := .getOwn, issuer := .scalar 0 0, pa := 64, len := 64 })] }) 0))), ⟨{ kind := .getOwn, issuer := .scalar 0 0, pa := 64, len := 64 }, ?_, ?_, ?_, ?_, ?_, rfl, rfl⟩, ?_⟩, ?_, fun e => absurd e (by decide), fun _ => .inr (by decide +kernel)⟩, ?_⟩ <;> decide +kernel,
   by refine ⟨{ wPart (wQue (wCmd 0)) with reqs := [(7, { kind := .getOwn, issuer := .scalar 0 0, pa := wHost, len := 64 })], hostLines := [(wHost, { st := .m, data := zeros 64 })] }, 7, 64, (Req.arrive { kind := .getOwn, issuer := .scalar 0 0, pa := wHost, len := 64 } (State.homeClock ({ wPart (wQue (wCmd 0)) with reqs := [(7, { kind := .getOwn, issuer := .scalar 0 0, pa := wHost, len := 64 })], hostLines := [(wHost, { st := .m, data := zeros 64 })] }) 64)), (((State.setReq ({ wPart (wQue (wCmd 0)) with reqs := [(7, { kind := .getOwn, issuer := .scalar 0 0, pa := wHost, len := 64 })], hostLines := [(wHost, { st := .m, data := zeros 64 })] }) 7 (Req.arrive { kind := .getOwn, issuer := .scalar 0 0, pa := wHost, len := 64 } (State.homeClock ({ wPart (wQue (wCmd 0)) with reqs := [(7, { kind := .getOwn, issuer := .scalar 0 0, pa := wHost, len := 64 })], hostLines := [(wHost, { st := .m, data := zeros 64 })] }) 64))).arbitrate 64 7 (Req.arrive { kind := .getOwn, issuer := .scalar 0 0, pa := wHost, len := 64 } (State.homeClock ({ wPart (wQue (wCmd 0)) with reqs := [(7, { kind := .getOwn, issuer := .scalar 0 0, pa := wHost, len := 64 })], hostLines := [(wHost, { st := .m, data := zeros 64 })] }) 64))).getD (State.setReq ({ wPart (wQue (wCmd 0)) with reqs := [(7, { kind := .getOwn, issuer := .scalar 0 0, pa := wHost, len := 64 })], hostLines := [(wHost, { st := .m, data := zeros 64 })] }) 7 (Req.arrive { kind := .getOwn, issuer := .scalar 0 0, pa := wHost, len := 64 } (State.homeClock ({ wPart (wQue (wCmd 0)) with reqs := [(7, { kind := .getOwn, issuer := .scalar 0 0, pa := wHost, len := 64 })], hostLines := [(wHost, { st := .m, data := zeros 64 })] }) 64)))), ⟨⟨(State.setReq ({ wPart (wQue (wCmd 0)) with reqs := [(7, { kind := .getOwn, issuer := .scalar 0 0, pa := wHost, len := 64 })], hostLines := [(wHost, { st := .m, data := zeros 64 })] }) 7 (Req.arrive { kind := .getOwn, issuer := .scalar 0 0, pa := wHost, len := 64 } (State.homeClock ({ wPart (wQue (wCmd 0)) with reqs := [(7, { kind := .getOwn, issuer := .scalar 0 0, pa := wHost, len := 64 })], hostLines := [(wHost, { st := .m, data := zeros 64 })] }) 64))), ⟨{ kind := .getOwn, issuer := .scalar 0 0, pa := wHost, len := 64 }, ?_, ?_, ?_, ?_, ?_, rfl, rfl⟩, ?_⟩, ?_, fun _ => by decide +kernel, fun e => absurd rfl e⟩, ?_⟩ <;> decide +kernel,
   by refine ⟨{ wPart (wQue (wCmd 0)) with reqs := [(7, { kind := .upgrade, issuer := .scalar 0 0, pa := 64, len := 64 })] }, 7, 0, (Req.arrive { kind := .upgrade, issuer := .scalar 0 0, pa := 64, len := 64 } (State.homeClock ({ wPart (wQue (wCmd 0)) with reqs := [(7, { kind := .upgrade, issuer := .scalar 0 0, pa := 64, len := 64 })] }) 0)), (((State.setReq ({ wPart (wQue (wCmd 0)) with reqs := [(7, { kind := .upgrade, issuer := .scalar 0 0, pa := 64, len := 64 })] }) 7 (Req.arrive { kind := .upgrade, issuer := .scalar 0 0, pa := 64, len := 64 } (State.homeClock ({ wPart (wQue (wCmd 0)) with reqs := [(7, { kind := .upgrade, issuer := .scalar 0 0, pa := 64, len := 64 })] }) 0))).arbitrate 0 7 (Req.arrive { kind := .upgrade, issuer := .scalar 0 0, pa := 64, len := 64 } (State.homeClock ({ wPart (wQue (wCmd 0)) with reqs := [(7, { kind := .upgrade, issuer := .scalar 0 0, pa := 64, len := 64 })] }) 0))).getD (State.setReq ({ wPart (wQue (wCmd 0)) with reqs := [(7, { kind := .upgrade, issuer := .scalar 0 0, pa := 64, len := 64 })] }) 7 (Req.arrive { kind := .upgrade, issuer := .scalar 0 0, pa := 64, len := 64 } (State.homeClock ({ wPart (wQue (wCmd 0)) with reqs := [(7, { kind := .upgrade, issuer := .scalar 0 0, pa := 64, len := 64 })] }) 0)))), ⟨⟨(State.setReq ({ wPart (wQue (wCmd 0)) with reqs := [(7, { kind := .upgrade, issuer := .scalar 0 0, pa := 64, len := 64 })] }) 7 (Req.arrive { kind := .upgrade, issuer := .scalar 0 0, pa := 64, len := 64 } (State.homeClock ({ wPart (wQue (wCmd 0)) with reqs := [(7, { kind := .upgrade, issuer := .scalar 0 0, pa := 64, len := 64 })] }) 0))), ⟨{ kind := .upgrade, issuer := .scalar 0 0, pa := 64, len := 64 }, ?_, ?_, ?_, ?_, ?_, rfl, rfl⟩, ?_⟩, ?_, fun e => absurd e (by decide), fun _ => .inr (by decide +kernel)⟩, ?_⟩ <;> decide +kernel,
   by refine ⟨{ wPart (wQue (wCmd 0)) with reqs := [(7, { kind := .upgrade, issuer := .scalar 0 0, pa := wHost, len := 64 })], hostLines := [(wHost, { st := .m, data := zeros 64 })] }, 7, 64, (Req.arrive { kind := .upgrade, issuer := .scalar 0 0, pa := wHost, len := 64 } (State.homeClock ({ wPart (wQue (wCmd 0)) with reqs := [(7, { kind := .upgrade, issuer := .scalar 0 0, pa := wHost, len := 64 })], hostLines := [(wHost, { st := .m, data := zeros 64 })] }) 64)), (((State.setReq ({ wPart (wQue (wCmd 0)) with reqs := [(7, { kind := .upgrade, issuer := .scalar 0 0, pa := wHost, len := 64 })], hostLines := [(wHost, { st := .m, data := zeros 64 })] }) 7 (Req.arrive { kind := .upgrade, issuer := .scalar 0 0, pa := wHost, len := 64 } (State.homeClock ({ wPart (wQue (wCmd 0)) with reqs := [(7, { kind := .upgrade, issuer := .scalar 0 0, pa := wHost, len := 64 })], hostLines := [(wHost, { st := .m, data := zeros 64 })] }) 64))).arbitrate 64 7 (Req.arrive { kind := .upgrade, issuer := .scalar 0 0, pa := wHost, len := 64 } (State.homeClock ({ wPart (wQue (wCmd 0)) with reqs := [(7, { kind := .upgrade, issuer := .scalar 0 0, pa := wHost, len := 64 })], hostLines := [(wHost, { st := .m, data := zeros 64 })] }) 64))).getD (State.setReq ({ wPart (wQue (wCmd 0)) with reqs := [(7, { kind := .upgrade, issuer := .scalar 0 0, pa := wHost, len := 64 })], hostLines := [(wHost, { st := .m, data := zeros 64 })] }) 7 (Req.arrive { kind := .upgrade, issuer := .scalar 0 0, pa := wHost, len := 64 } (State.homeClock ({ wPart (wQue (wCmd 0)) with reqs := [(7, { kind := .upgrade, issuer := .scalar 0 0, pa := wHost, len := 64 })], hostLines := [(wHost, { st := .m, data := zeros 64 })] }) 64)))), ⟨⟨(State.setReq ({ wPart (wQue (wCmd 0)) with reqs := [(7, { kind := .upgrade, issuer := .scalar 0 0, pa := wHost, len := 64 })], hostLines := [(wHost, { st := .m, data := zeros 64 })] }) 7 (Req.arrive { kind := .upgrade, issuer := .scalar 0 0, pa := wHost, len := 64 } (State.homeClock ({ wPart (wQue (wCmd 0)) with reqs := [(7, { kind := .upgrade, issuer := .scalar 0 0, pa := wHost, len := 64 })], hostLines := [(wHost, { st := .m, data := zeros 64 })] }) 64))), ⟨{ kind := .upgrade, issuer := .scalar 0 0, pa := wHost, len := 64 }, ?_, ?_, ?_, ?_, ?_, rfl, rfl⟩, ?_⟩, ?_, fun _ => by decide +kernel, fun e => absurd rfl e⟩, ?_⟩ <;> decide +kernel,
   by refine ⟨{ wPart (wQue (wCmd 0)) with reqs := [(7, { kind := .glance, issuer := .scalar 0 0, pa := 64, len := 64 })] }, 7, 0, (Req.arrive { kind := .glance, issuer := .scalar 0 0, pa := 64, len := 64 } (State.homeClock ({ wPart (wQue (wCmd 0)) with reqs := [(7, { kind := .glance, issuer := .scalar 0 0, pa := 64, len := 64 })] }) 0)), (((State.setReq ({ wPart (wQue (wCmd 0)) with reqs := [(7, { kind := .glance, issuer := .scalar 0 0, pa := 64, len := 64 })] }) 7 (Req.arrive { kind := .glance, issuer := .scalar 0 0, pa := 64, len := 64 } (State.homeClock ({ wPart (wQue (wCmd 0)) with reqs := [(7, { kind := .glance, issuer := .scalar 0 0, pa := 64, len := 64 })] }) 0))).arbitrate 0 7 (Req.arrive { kind := .glance, issuer := .scalar 0 0, pa := 64, len := 64 } (State.homeClock ({ wPart (wQue (wCmd 0)) with reqs := [(7, { kind := .glance, issuer := .scalar 0 0, pa := 64, len := 64 })] }) 0))).getD (State.setReq ({ wPart (wQue (wCmd 0)) with reqs := [(7, { kind := .glance, issuer := .scalar 0 0, pa := 64, len := 64 })] }) 7 (Req.arrive { kind := .glance, issuer := .scalar 0 0, pa := 64, len := 64 } (State.homeClock ({ wPart (wQue (wCmd 0)) with reqs := [(7, { kind := .glance, issuer := .scalar 0 0, pa := 64, len := 64 })] }) 0)))), ⟨⟨(State.setReq ({ wPart (wQue (wCmd 0)) with reqs := [(7, { kind := .glance, issuer := .scalar 0 0, pa := 64, len := 64 })] }) 7 (Req.arrive { kind := .glance, issuer := .scalar 0 0, pa := 64, len := 64 } (State.homeClock ({ wPart (wQue (wCmd 0)) with reqs := [(7, { kind := .glance, issuer := .scalar 0 0, pa := 64, len := 64 })] }) 0))), ⟨{ kind := .glance, issuer := .scalar 0 0, pa := 64, len := 64 }, ?_, ?_, ?_, ?_, ?_, rfl, rfl⟩, ?_⟩, ?_, fun e => absurd e (by decide), fun _ => .inr (by decide +kernel)⟩, ?_⟩ <;> decide +kernel,
   by refine ⟨{ wPart (wQue (wCmd 0)) with reqs := [(7, { kind := .glance, issuer := .scalar 0 0, pa := wHost, len := 64 })], hostLines := [(wHost, { st := .m, data := zeros 64 })] }, 7, 64, (Req.arrive { kind := .glance, issuer := .scalar 0 0, pa := wHost, len := 64 } (State.homeClock ({ wPart (wQue (wCmd 0)) with reqs := [(7, { kind := .glance, issuer := .scalar 0 0, pa := wHost, len := 64 })], hostLines := [(wHost, { st := .m, data := zeros 64 })] }) 64)), (((State.setReq ({ wPart (wQue (wCmd 0)) with reqs := [(7, { kind := .glance, issuer := .scalar 0 0, pa := wHost, len := 64 })], hostLines := [(wHost, { st := .m, data := zeros 64 })] }) 7 (Req.arrive { kind := .glance, issuer := .scalar 0 0, pa := wHost, len := 64 } (State.homeClock ({ wPart (wQue (wCmd 0)) with reqs := [(7, { kind := .glance, issuer := .scalar 0 0, pa := wHost, len := 64 })], hostLines := [(wHost, { st := .m, data := zeros 64 })] }) 64))).arbitrate 64 7 (Req.arrive { kind := .glance, issuer := .scalar 0 0, pa := wHost, len := 64 } (State.homeClock ({ wPart (wQue (wCmd 0)) with reqs := [(7, { kind := .glance, issuer := .scalar 0 0, pa := wHost, len := 64 })], hostLines := [(wHost, { st := .m, data := zeros 64 })] }) 64))).getD (State.setReq ({ wPart (wQue (wCmd 0)) with reqs := [(7, { kind := .glance, issuer := .scalar 0 0, pa := wHost, len := 64 })], hostLines := [(wHost, { st := .m, data := zeros 64 })] }) 7 (Req.arrive { kind := .glance, issuer := .scalar 0 0, pa := wHost, len := 64 } (State.homeClock ({ wPart (wQue (wCmd 0)) with reqs := [(7, { kind := .glance, issuer := .scalar 0 0, pa := wHost, len := 64 })], hostLines := [(wHost, { st := .m, data := zeros 64 })] }) 64)))), ⟨⟨(State.setReq ({ wPart (wQue (wCmd 0)) with reqs := [(7, { kind := .glance, issuer := .scalar 0 0, pa := wHost, len := 64 })], hostLines := [(wHost, { st := .m, data := zeros 64 })] }) 7 (Req.arrive { kind := .glance, issuer := .scalar 0 0, pa := wHost, len := 64 } (State.homeClock ({ wPart (wQue (wCmd 0)) with reqs := [(7, { kind := .glance, issuer := .scalar 0 0, pa := wHost, len := 64 })], hostLines := [(wHost, { st := .m, data := zeros 64 })] }) 64))), ⟨{ kind := .glance, issuer := .scalar 0 0, pa := wHost, len := 64 }, ?_, ?_, ?_, ?_, ?_, rfl, rfl⟩, ?_⟩, ?_, fun _ => by decide +kernel, fun e => absurd rfl e⟩, ?_⟩ <;> decide +kernel,
   by refine ⟨{ wPart (wQue (wCmd 0)) with reqs := [(7, { kind := .putHome, issuer := .scalar 0 0, pa := 64, len := 64 })] }, 7, 0, (Req.arrive { kind := .putHome, issuer := .scalar 0 0, pa := 64, len := 64 } (State.homeClock ({ wPart (wQue (wCmd 0)) with reqs := [(7, { kind := .putHome, issuer := .scalar 0 0, pa := 64, len := 64 })] }) 0)), (((State.setReq ({ wPart (wQue (wCmd 0)) with reqs := [(7, { kind := .putHome, issuer := .scalar 0 0, pa := 64, len := 64 })] }) 7 (Req.arrive { kind := .putHome, issuer := .scalar 0 0, pa := 64, len := 64 } (State.homeClock ({ wPart (wQue (wCmd 0)) with reqs := [(7, { kind := .putHome, issuer := .scalar 0 0, pa := 64, len := 64 })] }) 0))).arbitrate 0 7 (Req.arrive { kind := .putHome, issuer := .scalar 0 0, pa := 64, len := 64 } (State.homeClock ({ wPart (wQue (wCmd 0)) with reqs := [(7, { kind := .putHome, issuer := .scalar 0 0, pa := 64, len := 64 })] }) 0))).getD (State.setReq ({ wPart (wQue (wCmd 0)) with reqs := [(7, { kind := .putHome, issuer := .scalar 0 0, pa := 64, len := 64 })] }) 7 (Req.arrive { kind := .putHome, issuer := .scalar 0 0, pa := 64, len := 64 } (State.homeClock ({ wPart (wQue (wCmd 0)) with reqs := [(7, { kind := .putHome, issuer := .scalar 0 0, pa := 64, len := 64 })] }) 0)))), ⟨⟨(State.setReq ({ wPart (wQue (wCmd 0)) with reqs := [(7, { kind := .putHome, issuer := .scalar 0 0, pa := 64, len := 64 })] }) 7 (Req.arrive { kind := .putHome, issuer := .scalar 0 0, pa := 64, len := 64 } (State.homeClock ({ wPart (wQue (wCmd 0)) with reqs := [(7, { kind := .putHome, issuer := .scalar 0 0, pa := 64, len := 64 })] }) 0))), ⟨{ kind := .putHome, issuer := .scalar 0 0, pa := 64, len := 64 }, ?_, ?_, ?_, ?_, ?_, rfl, rfl⟩, ?_⟩, ?_, fun e => absurd e (by decide), fun _ => .inr (by decide +kernel)⟩, ?_⟩ <;> decide +kernel,
   by refine ⟨{ wPart (wQue (wCmd 0)) with reqs := [(7, { kind := .rawGet, issuer := .scalar 0 0, pa := 64, len := 64 })] }, 7, 0, (Req.arrive { kind := .rawGet, issuer := .scalar 0 0, pa := 64, len := 64 } (State.homeClock ({ wPart (wQue (wCmd 0)) with reqs := [(7, { kind := .rawGet, issuer := .scalar 0 0, pa := 64, len := 64 })] }) 0)), (((State.setReq ({ wPart (wQue (wCmd 0)) with reqs := [(7, { kind := .rawGet, issuer := .scalar 0 0, pa := 64, len := 64 })] }) 7 (Req.arrive { kind := .rawGet, issuer := .scalar 0 0, pa := 64, len := 64 } (State.homeClock ({ wPart (wQue (wCmd 0)) with reqs := [(7, { kind := .rawGet, issuer := .scalar 0 0, pa := 64, len := 64 })] }) 0))).arbitrate 0 7 (Req.arrive { kind := .rawGet, issuer := .scalar 0 0, pa := 64, len := 64 } (State.homeClock ({ wPart (wQue (wCmd 0)) with reqs := [(7, { kind := .rawGet, issuer := .scalar 0 0, pa := 64, len := 64 })] }) 0))).getD (State.setReq ({ wPart (wQue (wCmd 0)) with reqs := [(7, { kind := .rawGet, issuer := .scalar 0 0, pa := 64, len := 64 })] }) 7 (Req.arrive { kind := .rawGet, issuer := .scalar 0 0, pa := 64, len := 64 } (State.homeClock ({ wPart (wQue (wCmd 0)) with reqs := [(7, { kind := .rawGet, issuer := .scalar 0 0, pa := 64, len := 64 })] }) 0)))), ⟨⟨(State.setReq ({ wPart (wQue (wCmd 0)) with reqs := [(7, { kind := .rawGet, issuer := .scalar 0 0, pa := 64, len := 64 })] }) 7 (Req.arrive { kind := .rawGet, issuer := .scalar 0 0, pa := 64, len := 64 } (State.homeClock ({ wPart (wQue (wCmd 0)) with reqs := [(7, { kind := .rawGet, issuer := .scalar 0 0, pa := 64, len := 64 })] }) 0))), ⟨{ kind := .rawGet, issuer := .scalar 0 0, pa := 64, len := 64 }, ?_, ?_, ?_, ?_, ?_, rfl, rfl⟩, ?_⟩, ?_, fun e => absurd e (by decide), fun _ => .inr (by decide +kernel)⟩, ?_⟩ <;> decide +kernel,
   by refine ⟨{ wPart (wQue (wCmd 0)) with reqs := [(7, { kind := .rawPut, issuer := .scalar 0 0, pa := 64, len := 64 })] }, 7, 0, (Req.arrive { kind := .rawPut, issuer := .scalar 0 0, pa := 64, len := 64 } (State.homeClock ({ wPart (wQue (wCmd 0)) with reqs := [(7, { kind := .rawPut, issuer := .scalar 0 0, pa := 64, len := 64 })] }) 0)), (((State.setReq ({ wPart (wQue (wCmd 0)) with reqs := [(7, { kind := .rawPut, issuer := .scalar 0 0, pa := 64, len := 64 })] }) 7 (Req.arrive { kind := .rawPut, issuer := .scalar 0 0, pa := 64, len := 64 } (State.homeClock ({ wPart (wQue (wCmd 0)) with reqs := [(7, { kind := .rawPut, issuer := .scalar 0 0, pa := 64, len := 64 })] }) 0))).arbitrate 0 7 (Req.arrive { kind := .rawPut, issuer := .scalar 0 0, pa := 64, len := 64 } (State.homeClock ({ wPart (wQue (wCmd 0)) with reqs := [(7, { kind := .rawPut, issuer := .scalar 0 0, pa := 64, len := 64 })] }) 0))).getD (State.setReq ({ wPart (wQue (wCmd 0)) with reqs := [(7, { kind := .rawPut, issuer := .scalar 0 0, pa := 64, len := 64 })] }) 7 (Req.arrive { kind := .rawPut, issuer := .scalar 0 0, pa := 64, len := 64 } (State.homeClock ({ wPart (wQue (wCmd 0)) with reqs := [(7, { kind := .rawPut, issuer := .scalar 0 0, pa := 64, len := 64 })] }) 0)))), ⟨⟨(State.setReq ({ wPart (wQue (wCmd 0)) with reqs := [(7, { kind := .rawPut, issuer := .scalar 0 0, pa := 64, len := 64 })] }) 7 (Req.arrive { kind := .rawPut, issuer := .scalar 0 0, pa := 64, len := 64 } (State.homeClock ({ wPart (wQue (wCmd 0)) with reqs := [(7, { kind := .rawPut, issuer := .scalar 0 0, pa := 64, len := 64 })] }) 0))), ⟨{ kind := .rawPut, issuer := .scalar 0 0, pa := 64, len := 64 }, ?_, ?_, ?_, ?_, ?_, rfl, rfl⟩, ?_⟩, ?_, fun e => absurd e (by decide), fun _ => .inr (by decide +kernel)⟩, ?_⟩ <;> decide +kernel,
   by refine ⟨{ wPart (wQue (wCmd 0)) with reqs := [(7, { kind := .putHome, issuer := .scalar 0 0, pa := 64, len := 64 })], homes := [(0, { txns := [(64, { req := none })] })] }, 7, 0, (Req.arrive { kind := .putHome, issuer := .scalar 0 0, pa := 64, len := 64 } (State.homeClock ({ wPart (wQue (wCmd 0)) with reqs := [(7, { kind := .putHome, issuer := .scalar 0 0, pa := 64, len := 64 })], homes := [(0, { txns := [(64, { req := none })] })] }) 0)), (State.setReq ({ wPart (wQue (wCmd 0)) with reqs := [(7, { kind := .putHome, issuer := .scalar 0 0, pa := 64, len := 64 })], homes := [(0, { txns := [(64, { req := none })] })] }) 7 (Req.arrive { kind := .putHome, issuer := .scalar 0 0, pa := 64, len := 64 } (State.homeClock ({ wPart (wQue (wCmd 0)) with reqs := [(7, { kind := .putHome, issuer := .scalar 0 0, pa := 64, len := 64 })], homes := [(0, { txns := [(64, { req := none })] })] }) 0))), .putHome, (.putHome 7), ?_, ⟨{ kind := .putHome, issuer := .scalar 0 0, pa := 64, len := 64 }, ?_, ?_, ?_, ?_, ?_, rfl, rfl⟩, ?_, ?_⟩ <;> decide +kernel,
   by refine ⟨{ wPart (wQue (wCmd 0)) with reqs := [(7, { kind := .rawPut, issuer := .scalar 0 0, pa := 64, len := 64, folio := 1 })] }, 7, 0, (Req.arrive { kind := .rawPut, issuer := .scalar 0 0, pa := 64, len := 64, folio := 1 } (State.homeClock ({ wPart (wQue (wCmd 0)) with reqs := [(7, { kind := .rawPut, issuer := .scalar 0 0, pa := 64, len := 64, folio := 1 })] }) 0)), (State.setReq ({ wPart (wQue (wCmd 0)) with reqs := [(7, { kind := .rawPut, issuer := .scalar 0 0, pa := 64, len := 64, folio := 1 })] }) 7 (Req.arrive { kind := .rawPut, issuer := .scalar 0 0, pa := 64, len := 64, folio := 1 } (State.homeClock ({ wPart (wQue (wCmd 0)) with reqs := [(7, { kind := .rawPut, issuer := .scalar 0 0, pa := 64, len := 64, folio := 1 })] }) 0))), (((State.setReq ({ wPart (wQue (wCmd 0)) with reqs := [(7, { kind := .rawPut, issuer := .scalar 0 0, pa := 64, len := 64, folio := 1 })] }) 7 (Req.arrive { kind := .rawPut, issuer := .scalar 0 0, pa := 64, len := 64, folio := 1 } (State.homeClock ({ wPart (wQue (wCmd 0)) with reqs := [(7, { kind := .rawPut, issuer := .scalar 0 0, pa := 64, len := 64, folio := 1 })] }) 0))).arbitrate 0 7 (Req.arrive { kind := .rawPut, issuer := .scalar 0 0, pa := 64, len := 64, folio := 1 } (State.homeClock ({ wPart (wQue (wCmd 0)) with reqs := [(7, { kind := .rawPut, issuer := .scalar 0 0, pa := 64, len := 64, folio := 1 })] }) 0))).getD (State.setReq ({ wPart (wQue (wCmd 0)) with reqs := [(7, { kind := .rawPut, issuer := .scalar 0 0, pa := 64, len := 64, folio := 1 })] }) 7 (Req.arrive { kind := .rawPut, issuer := .scalar 0 0, pa := 64, len := 64, folio := 1 } (State.homeClock ({ wPart (wQue (wCmd 0)) with reqs := [(7, { kind := .rawPut, issuer := .scalar 0 0, pa := 64, len := 64, folio := 1 })] }) 0)))), .refused, .rawPut, (.rawPut 7), ?_, ⟨{ kind := .rawPut, issuer := .scalar 0 0, pa := 64, len := 64, folio := 1 }, ?_, ?_, ?_, ?_, ?_, rfl, rfl⟩, ?_, ?_, ?_⟩ <;> decide +kernel,
   by refine ⟨{ wPart (wQue (wCmd 0)) with reqs := [(7, { kind := .rawGet, issuer := .scalar 0 0, pa := wHost, len := 64 })] }, 7, (Req.arrive { kind := .rawGet, issuer := .scalar 0 0, pa := wHost, len := 64 } (State.homeClock ({ wPart (wQue (wCmd 0)) with reqs := [(7, { kind := .rawGet, issuer := .scalar 0 0, pa := wHost, len := 64 })] }) 64)), (State.setReq ({ wPart (wQue (wCmd 0)) with reqs := [(7, { kind := .rawGet, issuer := .scalar 0 0, pa := wHost, len := 64 })] }) 7 (Req.arrive { kind := .rawGet, issuer := .scalar 0 0, pa := wHost, len := 64 } (State.homeClock ({ wPart (wQue (wCmd 0)) with reqs := [(7, { kind := .rawGet, issuer := .scalar 0 0, pa := wHost, len := 64 })] }) 64))), (((State.setReq ({ wPart (wQue (wCmd 0)) with reqs := [(7, { kind := .rawGet, issuer := .scalar 0 0, pa := wHost, len := 64 })] }) 7 (Req.arrive { kind := .rawGet, issuer := .scalar 0 0, pa := wHost, len := 64 } (State.homeClock ({ wPart (wQue (wCmd 0)) with reqs := [(7, { kind := .rawGet, issuer := .scalar 0 0, pa := wHost, len := 64 })] }) 64))).arbitrate 64 7 (Req.arrive { kind := .rawGet, issuer := .scalar 0 0, pa := wHost, len := 64 } (State.homeClock ({ wPart (wQue (wCmd 0)) with reqs := [(7, { kind := .rawGet, issuer := .scalar 0 0, pa := wHost, len := 64 })] }) 64))).getD (State.setReq ({ wPart (wQue (wCmd 0)) with reqs := [(7, { kind := .rawGet, issuer := .scalar 0 0, pa := wHost, len := 64 })] }) 7 (Req.arrive { kind := .rawGet, issuer := .scalar 0 0, pa := wHost, len := 64 } (State.homeClock ({ wPart (wQue (wCmd 0)) with reqs := [(7, { kind := .rawGet, issuer := .scalar 0 0, pa := wHost, len := 64 })] }) 64)))), .rawGet, (.rawGet 7), ?_, ⟨{ kind := .rawGet, issuer := .scalar 0 0, pa := wHost, len := 64 }, ?_, ?_, ?_, ?_, ?_, rfl, rfl⟩, ?_, ?_, ?_, ?_⟩ <;> decide +kernel,
   by refine ⟨{ wPart (wQue (wCmd 0)) with reqs := [(7, { kind := .rawGet, issuer := .scalar 0 0, pa := 2 ^ 33, len := 64 })], memSl := [(1, { st := .transit })] }, 7, { kind := .rawGet, issuer := .scalar 0 0, pa := 2 ^ 33, len := 64 }, .rawGet, (.rawGet 7), ?_, ?_, ?_, ?_⟩ <;> decide +kernel⟩

/-- What SnoopedCachesAnswer assumes is met. -/
theorem test_wit_SnoopedCachesAnswer :
  (∃ (s : State) (n : Nat) (line : Nat) (k : PrbKind) (c : Instr) (l : CLine), (k, c) ∈ [(PrbKind.share, Instr.prbShare n line), (.own, .prbOwn n line), (.glance, .prbGlance n line), (.inv, .prbInv n line)] ∧ s.probe? n line k = true ∧ tget line (s.cache n).lines = some l) ∧
  (∃ (s : State) (n : Nat) (line : Nat) (k : PrbKind) (c : Instr) (l : CLine), (k, c) ∈ [(PrbKind.share, Instr.prbShare n line), (.own, .prbOwn n line), (.glance, .prbGlance n line), (.inv, .prbInv n line)] ∧ s.probe? n line k = true ∧ tget line (s.cache n).lines = some l) ∧
  (∃ (s : State) (n : Nat) (line : Nat) (k : PrbKind) (c : Instr) (l : CLine), (k, c) ∈ [(PrbKind.share, Instr.prbShare n line), (.own, .prbOwn n line), (.glance, .prbGlance n line), (.inv, .prbInv n line)] ∧ s.probe? n line k = true ∧ tget line (s.cache n).lines = some l) ∧
  (∃ (s : State) (n : Nat) (line : Nat) (k : PrbKind) (c : Instr) (l : CLine), (k, c) ∈ [(PrbKind.share, Instr.prbShare n line), (.own, .prbOwn n line), (.glance, .prbGlance n line), (.inv, .prbInv n line)] ∧ s.probe? n line k = true ∧ tget line (s.cache n).lines = some l) ∧
  (∃ (s : State) (n : Nat) (line : Nat) (k : PrbKind) (c : Instr) (w : WbEntry), (k, c) ∈ [(PrbKind.share, Instr.prbShare n line), (.own, .prbOwn n line), (.glance, .prbGlance n line), (.inv, .prbInv n line)] ∧ s.probe? n line k = true ∧ tget line (s.cache n).lines = none ∧ tget line (s.cache n).wb = some w ∧ w.dirty = true) ∧
  (∃ (s : State) (n : Nat) (line : Nat) (k : PrbKind) (c : Instr), (k, c) ∈ [(PrbKind.share, Instr.prbShare n line), (.own, .prbOwn n line), (.glance, .prbGlance n line), (.inv, .prbInv n line)] ∧ s.probe? n line k = true ∧ tget line (s.cache n).lines = none ∧ ((∀ w, tget line (s.cache n).wb = some w → w.dirty = false))) :=
  ⟨by refine ⟨{ caches := [(127, { probes := [(64, ⟨.share, none⟩)], lines := [(64, { st := .m, data := zeros 64 })] })] }, 127, 64, .share, (.prbShare 127 64), { st := .m, data := zeros 64 }, ?_, ?_, ?_⟩ <;> decide +kernel,
   by refine ⟨{ caches := [(127, { probes := [(64, ⟨.own, none⟩)], lines := [(64, { st := .m, data := zeros 64 })] })] }, 127, 64, .own, (.prbOwn 127 64), { st := .m, data := zeros 64 }, ?_, ?_, ?_⟩ <;> decide +kernel,
   by refine ⟨{ caches := [(127, { probes := [(64, ⟨.glance, none⟩)], lines := [(64, { st := .m, data := zeros 64 })] })] }, 127, 64, .glance, (.prbGlance 127 64), { st := .m, data := zeros 64 }, ?_, ?_, ?_⟩ <;> decide +kernel,
   by refine ⟨{ caches := [(127, { probes := [(64, ⟨.inv, none⟩)], lines := [(64, { st := .m, data := zeros 64 })] })] }, 127, 64, .inv, (.prbInv 127 64), { st := .m, data := zeros 64 }, ?_, ?_, ?_⟩ <;> decide +kernel,
   by refine ⟨{ caches := [(127, { probes := [(64, ⟨.inv, none⟩)], wb := [(64, { dirty := true, data := zeros 64 })] })] }, 127, 64, .inv, (.prbInv 127 64), { dirty := true, data := zeros 64 }, ?_, ?_, ?_, ?_, ?_⟩ <;> decide +kernel,
   by refine ⟨{ caches := [(127, { probes := [(64, ⟨.inv, none⟩)] })] }, 127, 64, .inv, (.prbInv 127 64), ?_, ?_, ?_, ?_⟩ <;> decide +kernel⟩

/-- What AnswersWritebacksAndGrants assumes is met. -/
theorem test_wit_AnswersWritebacksAndGrants :
  (∃ (s : State) (n : Nat) (line : Nat) (h : Nat) (a : PrbAns), s.homeOf line = some h ∧ tget line (s.cache n).answers = some a ∧ a.bytes.isSome = true) ∧
  (∃ (s : State) (n : Nat) (line : Nat) (h : Nat) (fwd : _), s.homeOf line = some h ∧ tget line (s.cache n).answers = some (.miss fwd)) ∧
  (∃ (s : State) (n : Nat) (line : Nat) (h : Nat), s.homeOf line = some h ∧ tget line (s.cache n).answers = some .ack) ∧
  (∃ (s : State) (n : Nat) (line : Nat) (w : WbEntry), tget line (s.cache n).wb = some w ∧ w.dirty = true ∧ w.acked = false) ∧
  (∃ (s : State) (n : Nat) (line : Nat) (w : WbEntry), tget line (s.cache n).wb = some w ∧ w.dirty = false ∧ w.acked = false) ∧
  (∃ (s : State) (n : Nat) (line : Nat) (w : WbEntry) (h : Nat), s.homeOf line = some h ∧ w.dirty = true ∧ s.superseded h n line w = false) ∧
  (∃ (s : State) (n : Nat) (line : Nat) (w : WbEntry), tget line (s.cache n).wb = some w ∧ w.acked = true ∧ tget line (s.cache n).probes = none) ∧
  (∃ (s : State) (n : Nat) (line : Nat) (v : Nat) (id : Nat) (q : Req), s.granted n line = some (id, q) ∧ (((tget line (s.cache n).lines).isSome = true ∨ ((s.cache n).lines.filter (fun l => cacheSet l.1 == cacheSet line)).length < 16))) ∧
  (∃ (s : State) (n : Nat) (line : Nat) (v : Nat) (id : Nat) (q : Req) (l : CLine), s.granted n line = some (id, q) ∧ tget line (s.cache n).lines = none ∧ 16 ≤ ((s.cache n).lines.filter (fun l => cacheSet l.1 == cacheSet line)).length ∧ tget v (s.cache n).lines = some l ∧ cacheSet v = cacheSet line ∧ tget (cacheSet line) (s.cache n).mru ≠ some v ∧ tget v (s.cache n).wb = none ∧ isDirty l.st = false) ∧
  (∃ (s : State) (line : Nat) (h : Nat) (x : Txn) (id : Nat) (q : Req), s.homeOf line = some h ∧ tget line (s.home h).txns = some x ∧ x.waiting = [] ∧ x.req = some id ∧ s.req? id = some q ∧ q.status.isSome = true) :=
  ⟨by refine ⟨{ wPart (wQue (wCmd 0)) with caches := [(127, { answers := [(64, (.data (zeros 64) true))] })] }, 127, 64, 0, (.data (zeros 64) true), ?_, ?_, ?_⟩ <;> decide +kernel,
   by refine ⟨{ wPart (wQue (wCmd 0)) with caches := [(127, { answers := [(64, (.miss true))] })] }, 127, 64, 0, true, ?_, ?_⟩ <;> decide +kernel,
   by refine ⟨{ wPart (wQue (wCmd 0)) with caches := [(127, { answers := [(64, .ack)] })] }, 127, 64, 0, ?_, ?_⟩ <;> decide +kernel,
   by refine ⟨{ caches := [(127, { wb := [(64, { dirty := true, data := zeros 64 })] })] }, 127, 64, { dirty := true, data := zeros 64 }, ?_, ?_, ?_⟩ <;> decide +kernel,
   by refine ⟨{ caches := [(127, { wb := [(64, { dirty := false, data := zeros 64 })] })] }, 127, 64, { dirty := false, data := zeros 64 }, ?_, ?_, ?_⟩ <;> decide +kernel,
   by refine ⟨(wPart (wQue (wCmd 0))), 127, 64, { dirty := true, data := zeros 64 }, 0, ?_, ?_, ?_⟩ <;> decide +kernel,
   by refine ⟨{ caches := [(127, { wb := [(64, { dirty := true, data := zeros 64, acked := true })] })] }, 127, 64, { dirty := true, data := zeros 64, acked := true }, ?_, ?_, ?_⟩ <;> decide +kernel,
   ⟨{ reqs := [(7, { kind := .getShare, issuer := .scalar 0 0, slice := some 0, pa := 64, len := 64, grant := some .e })] }, 0, 64, 0, 7, { kind := .getShare, issuer := .scalar 0 0, slice := some 0, pa := 64, len := 64, grant := some .e }, by decide +kernel, .inr (by decide +kernel)⟩,
   by refine ⟨{ reqs := [(7, { kind := .getShare, issuer := .scalar 0 0, slice := some 0, pa := 64, len := 64, grant := some .e })], caches := [(0, { lines := (List.range 16).map (fun i => (65536 * (i + 1) + 64, { st := .s, data := [] })) })] }, 0, 64, (65536 + 64), 7, { kind := .getShare, issuer := .scalar 0 0, slice := some 0, pa := 64, len := 64, grant := some .e }, { st := .s, data := [] }, ?_, ?_, ?_, ?_, ?_, ?_, ?_, ?_⟩ <;> decide +kernel,
   by refine ⟨{ wPart (wQue (wCmd 0)) with reqs := [(7, { kind := .getShare, issuer := .scalar 0 0, slice := some 0, pa := 64, len := 64, grant := some .e, status := some .ok })], homes := [(0, { txns := [(64, { req := some 7 })] })] }, 64, 0, { req := some 7 }, 7, { kind := .getShare, issuer := .scalar 0 0, slice := some 0, pa := 64, len := 64, grant := some .e, status := some .ok }, ?_, ?_, ?_, ?_, ?_, ?_⟩ <;> decide +kernel⟩

/-- What TranslationCommandsComplete assumes is met. -/
theorem test_wit_TranslationCommandsComplete :
  (∃ (s : State) (s1 : State) (q : Nat) (x : Queue) (c : Cmd), Taken s q 0x20 x c s1 ∧ s1.rangeBad c = none ∧ s1.usesOf (s1.modeCtxs (c.arg 0x34 1) (c.arg 0x36 2)) (c.arg 0x28 8) (c.arg 0x30 4 * 2 ^ 25) = []) ∧
  (∃ (s : State) (s1 : State) (q : Nat) (x : Queue) (c : Cmd) (us : _), Taken s q 0x20 x c s1 ∧ s1.rangeBad c = none ∧ us = s1.usesOf (s1.modeCtxs (c.arg 0x34 1) (c.arg 0x36 2)) (c.arg 0x28 8) (c.arg 0x30 4 * 2 ^ 25) ∧ us ≠ []) ∧
  (∃ (s : State) (q : Nat) (x : Queue) (c : Cmd), s.runningOp q 0x20 = some (x, c) ∧ x.uses.any s.inFlight = false) ∧
  (∃ (s : State) (q : Nat) (x : Queue) (c : Cmd), s.runningOp q 0x20 = some (x, c) ∧ x.uses.any s.inFlight = true) ∧
  (∃ (s : State) (q : Nat) (x : Queue) (c : Cmd) (u : _), s.runningOp q 0x20 = some (x, c) ∧ s.oldestUse x.uses = some u ∧ x.waitNoted = false ∧ c.fetched + s.invWarn ≤ s.hubCount) ∧
  (∃ (s : State) (s1 : State) (s2 : State) (s3 : State) (q : Nat) (x : Queue) (c : Cmd) (h : Bytes) (b : Bytes), Taken s q 0x21 x c s1 ∧ s1.hubRead 0 (c.arg 0x28 8) 16 = (some h, s2) ∧ fieldLe h 3 1 = 0 ∧ fieldLe h 0 2 ≤ 4095 ∧ (s2.ctx? (fieldLe h 0 2)).isSome = true ∧ fieldLe h 2 1 ≤ 1 ∧ 0 < fieldLe h 4 4 ∧ fieldLe h 4 4 ≤ 4096 ∧ fieldLe h 8 8 % migSize h = 0 ∧ fieldLe h 8 8 + fieldLe h 4 4 * migSize h ≤ 2 ^ 52 ∧ s2.hubRead 0 (c.arg 0x28 8) (16 + 8 * fieldLe h 4 4) = (some b, s3) ∧ (List.range (fieldLe h 4 4)).find? (fun i => migDest b i % migSize b != 0) = none ∧ (List.range (fieldLe h 4 4)).all (fun i => s3.destOk ((s3.modeCtxs 2 (fieldLe h 0 2)).map s3.ctxFolio) (migDest b i) (migSize b)) = true) ∧
  (∃ (s : State) (q : Nat) (x : Queue) (c : Cmd) (b : Bytes) (y : Context) (s1 : State), s.runningOp q 0x21 = some (x, c) ∧ s.migBlock c = some b ∧ s.ctx? (fieldLe b 0 2) = some y ∧ x.uses.any s.inFlight = false ∧ s1 = (s.dropRange (s.modeCtxs 2 (fieldLe b 0 2)) (fieldLe b 8 8) (fieldLe b 4 4 * migSize b)).modQueue q (fun z => { z with mig := none })) ∧
  (∃ (s : State) (s1 : State) (q : Nat) (x : Queue) (c : Cmd), Taken s q 0x22 x c s1 ∧ s.walksAt 0 < 16 ∧ s.walksAt 1 < 16 ∧ s1.rangeBad c = none) ∧
  (∃ (s : State) (s1 : State) (q : Nat) (x : Queue) (c : Cmd) (k : Nat), Taken s q 0x28 x c s1 ∧ c.arg 0x2A 1 < 8 ∧ c.arg 0x2B 1 < 4 ∧ c.arg 0x28 2 ≤ 16383 ∧ s1.server (c.arg 0x28 2 / 256) = some k) ∧
  (∃ (s : State) (s1 : State) (q : Nat) (x : Queue) (c : Cmd) (k : Nat), Taken s q 0x28 x c s1 ∧ c.arg 0x2A 1 < 8 ∧ c.arg 0x2B 1 < 8 ∧ c.arg 0x28 2 ≤ 16383 ∧ s1.server (c.arg 0x28 2 / 256) = some k ∧ bit (c.arg 0x2B 1) 2 = true ∧ bit (c.arg 0x2A 1) 2 = true ∧ frBias (s1.frame k (c.arg 0x28 2 % 256)) = false) ∧
  (∃ (s : State) (q : Nat) (x : Queue) (c : Cmd) (k : Nat), s.runningOp q 0x28 = some (x, c) ∧ x.phase = .running 1 ∧ s.server (c.arg 0x28 2 / 256) = some k) ∧
  (∃ (s : State) (id : Nat) (w : Walk) (e : TlbEntry) (ups : List WalkCEntry) (s1 : State), tget id s.walks = some w ∧ s.migHolds id w.ctx w.va = false ∧ s.walks.filter (fun v => sameWalk v.2 w) = [(id, w)] ∧ w.again = false ∧ s.walkAt w.die w.ctx w.va = .leaf e ups ∧ permits e.perm w.access = true ∧ w.asker.prefetch = false ∧ s1 = s.fillWalker w.die e ups) ∧
  (∃ (s : State) (id : Nat) (w : Walk) (sub : _) (lvl : _), tget id s.walks = some w ∧ s.migHolds id w.ctx w.va = false ∧ s.walks.filter (fun v => sameWalk v.2 w) = [(id, w)] ∧ w.again = false ∧ s.walkAt w.die w.ctx w.va = .fault sub lvl) :=
  ⟨by refine ⟨{ wPart (wQue (wCmd 0x20 [(0x30, 4, 0x1000), (0x36, 2, 0x5)])) with ctxs := [(0, { folio := 0 }), (5, { folio := 0 })] }, { wPart (wQue (wCmd 0x20 [(0x30, 4, 0x1000), (0x36, 2, 0x5)])) with ctxs := [(0, { folio := 0 }), (5, { folio := 0 })] }, 1, (wQue (wCmd 0x20 [(0x30, 4, 0x1000), (0x36, 2, 0x5)])), (wCmd 0x20 [(0x30, 4, 0x1000), (0x36, 2, 0x5)]), ⟨?_, ?_⟩, ?_, ?_⟩ <;> decide +kernel,
   by refine ⟨{ wPart (wQue (wCmd 0x20 [(0x30, 4, 0x1000), (0x36, 2, 0x5)])) with ctxs := [(0, { folio := 0 }), (5, { folio := 0 })], reqs := [(7, { kind := .getShare, issuer := .scalar 0 0, ctx := 5, va := 64, len := 64 })] }, { wPart (wQue (wCmd 0x20 [(0x30, 4, 0x1000), (0x36, 2, 0x5)])) with ctxs := [(0, { folio := 0 }), (5, { folio := 0 })], reqs := [(7, { kind := .getShare, issuer := .scalar 0 0, ctx := 5, va := 64, len := 64 })] }, 1, (wQue (wCmd 0x20 [(0x30, 4, 0x1000), (0x36, 2, 0x5)])), (wCmd 0x20 [(0x30, 4, 0x1000), (0x36, 2, 0x5)]), [7], ⟨?_, ?_⟩, ?_, ?_, ?_⟩ <;> decide +kernel,
   by refine ⟨(wPart { wQue (wCmd 0x20 []) .mgmt (.running 0) with uses := [7] }), 1, { wQue (wCmd 0x20 []) .mgmt (.running 0) with uses := [7] }, (wCmd 0x20 []), ?_, ?_⟩ <;> decide +kernel,
   by refine ⟨{ wPart { wQue (wCmd 0x20 []) .mgmt (.running 0) with uses := [7] } with reqs := [(7, { kind := .getShare, issuer := .scalar 0 0, ctx := 5, va := 64, len := 64 })] }, 1, { wQue (wCmd 0x20 []) .mgmt (.running 0) with uses := [7] }, (wCmd 0x20 []), ?_, ?_⟩ <;> decide +kernel,
   by refine ⟨{ wPart { wQue (wCmd 0x20 []) .mgmt (.running 0) with uses := [7] } with reqs := [(7, { kind := .getShare, issuer := .scalar 0 0, ctx := 5, va := 64, len := 64 })], hubCount := 100000000 }, 1, { wQue (wCmd 0x20 []) .mgmt (.running 0) with uses := [7] }, (wCmd 0x20 []), 7, ?_, ?_, ?_, ?_⟩ <;> decide +kernel,
   by refine ⟨{ wPart (wQue (wCmd 0x21 [(0x28, 8, wHost)])) (wBlk 64 [(0x0, 2, 0x5), (0x4, 4, 0x2), (0x8, 8, 0x2000000), (0x10, 8, 0x200002000000), (0x18, 8, 0x200004000000)]) with ctxs := [(0, { folio := 0 }), (5, { folio := 0 })] }, { wPart (wQue (wCmd 0x21 [(0x28, 8, wHost)])) (wBlk 64 [(0x0, 2, 0x5), (0x4, 4, 0x2), (0x8, 8, 0x2000000), (0x10, 8, 0x200002000000), (0x18, 8, 0x200004000000)]) with ctxs := [(0, { folio := 0 }), (5, { folio := 0 })] }, { wPart (wQue (wCmd 0x21 [(0x28, 8, wHost)])) (wBlk 64 [(0x0, 2, 0x5), (0x4, 4, 0x2), (0x8, 8, 0x2000000), (0x10, 8, 0x200002000000), (0x18, 8, 0x200004000000)]) with ctxs := [(0, { folio := 0 }), (5, { folio := 0 })] }, { wPart (wQue (wCmd 0x21 [(0x28, 8, wHost)])) (wBlk 64 [(0x0, 2, 0x5), (0x4, 4, 0x2), (0x8, 8, 0x2000000), (0x10, 8, 0x200002000000), (0x18, 8, 0x200004000000)]) with ctxs := [(0, { folio := 0 }), (5, { folio := 0 })] }, 1, (wQue (wCmd 0x21 [(0x28, 8, wHost)])), (wCmd 0x21 [(0x28, 8, wHost)]), ((wBlk 64 [(0x0, 2, 0x5), (0x4, 4, 0x2), (0x8, 8, 0x2000000), (0x10, 8, 0x200002000000), (0x18, 8, 0x200004000000)]).take 16), ((wBlk 64 [(0x0, 2, 0x5), (0x4, 4, 0x2), (0x8, 8, 0x2000000), (0x10, 8, 0x200002000000), (0x18, 8, 0x200004000000)]).take 32), ⟨?_, ?_⟩, ?_, ?_, ?_, ?_, ?_, ?_, ?_, ?_, ?_, ?_, ?_, ?_⟩ <;> decide +kernel,
   by refine ⟨{ wPart (wQue (wCmd 0x21 [(0x28, 8, wHost)]) .mgmt (.running 0)) (wBlk 64 [(0x0, 2, 0x5), (0x4, 4, 0x2), (0x8, 8, 0x2000000), (0x10, 8, 0x200002000000), (0x18, 8, 0x200004000000)]) with ctxs := [(0, { folio := 0 }), (5, { folio := 0 })] }, 1, (wQue (wCmd 0x21 [(0x28, 8, wHost)]) .mgmt (.running 0)), (wCmd 0x21 [(0x28, 8, wHost)]), ((wBlk 64 [(0x0, 2, 0x5), (0x4, 4, 0x2), (0x8, 8, 0x2000000), (0x10, 8, 0x200002000000), (0x18, 8, 0x200004000000)]).take 32), { folio := 0 }, _, ?_, ?_, ?_, ?_, rfl⟩ <;> decide +kernel,
   by refine ⟨{ wPart (wQue (wCmd 0x22 [(0x30, 4, 0x1000), (0x36, 2, 0x5)])) with ctxs := [(0, { folio := 0 }), (5, { folio := 0 })] }, { wPart (wQue (wCmd 0x22 [(0x30, 4, 0x1000), (0x36, 2, 0x5)])) with ctxs := [(0, { folio := 0 }), (5, { folio := 0 })] }, 1, (wQue (wCmd 0x22 [(0x30, 4, 0x1000), (0x36, 2, 0x5)])), (wCmd 0x22 [(0x30, 4, 0x1000), (0x36, 2, 0x5)]), ⟨?_, ?_⟩, ?_, ?_, ?_⟩ <;> decide +kernel,
   by refine ⟨(wPart (wQue (wCmd 0x28 [(0x28, 2, 0xFF), (0x2A, 1, 0x7), (0x2B, 1, 0x3)]))), (wPart (wQue (wCmd 0x28 [(0x28, 2, 0xFF), (0x2A, 1, 0x7), (0x2B, 1, 0x3)]))), 1, (wQue (wCmd 0x28 [(0x28, 2, 0xFF), (0x2A, 1, 0x7), (0x2B, 1, 0x3)])), (wCmd 0x28 [(0x28, 2, 0xFF), (0x2A, 1, 0x7), (0x2B, 1, 0x3)]), 0, ⟨?_, ?_⟩, ?_, ?_, ?_, ?_⟩ <;> decide +kernel,
   by refine ⟨(wPart (wQue (wCmd 0x28 [(0x28, 2, 0xFF), (0x2A, 1, 0x4), (0x2B, 1, 0x4)]))), (wPart (wQue (wCmd 0x28 [(0x28, 2, 0xFF), (0x2A, 1, 0x4), (0x2B, 1, 0x4)]))), 1, (wQue (wCmd 0x28 [(0x28, 2, 0xFF), (0x2A, 1, 0x4), (0x2B, 1, 0x4)])), (wCmd 0x28 [(0x28, 2, 0xFF), (0x2A, 1, 0x4), (0x2B, 1, 0x4)]), 0, ⟨?_, ?_⟩, ?_, ?_, ?_, ?_, ?_, ?_, ?_⟩ <;> decide +kernel,
   by refine ⟨(wPart (wQue (wCmd 0x28 [(0x28, 2, 0xFF)]) .mgmt (.running 1))), 1, (wQue (wCmd 0x28 [(0x28, 2, 0xFF)]) .mgmt (.running 1)), (wCmd 0x28 [(0x28, 2, 0xFF)]), 0, ?_, ?_, ?_⟩ <;> decide +kernel,
   by refine ⟨{ walks := [(7, { die := 1, ctx := 5, va := 64, access := 0, asker := { source := 0 } })], walkers := [(1, { leaves := [{ ctx := 5, vpage := 0, big := false, ppage := 0, perm := ⟨true, false, false, false⟩ }] })] }, 7, { die := 1, ctx := 5, va := 64, access := 0, asker := { source := 0 } }, { ctx := 5, vpage := 0, big := false, ppage := 0, perm := ⟨true, false, false, false⟩ }, [], _, ?_, ?_, ?_, ?_, ?_, ?_, ?_, rfl⟩ <;> decide +kernel,
   by refine ⟨{ walks := [(7, { die := 1, ctx := 5, va := 64, access := 0, asker := { source := 0 } })] }, 7, { die := 1, ctx := 5, va := 64, access := 0, asker := { source := 0 } }, 1, 1, ?_, ?_, ?_, ?_, ?_⟩ <;> decide +kernel⟩

/-- What CopyChannelsMove assumes is met. -/
theorem test_wit_CopyChannelsMove :
  (∃ (s : State) (ch : Nat) (b : Bytes) (s1 : State), (s.chan ch).st = .run ∧ (s.chan ch).desc = [] ∧ (s.chan ch).index < (s.chan ch).count ∧ s.fabricUp (ch / 64) = true ∧ s.cpyReady ch (s.chan ch).descVa = true ∧ s.cpyRead ch (s.chan ch).descVa = .ok (b, s1) ∧ (copyOf b).bad b = none ∧ ((bit (copyOf b).flags 2 = true → s1.cpyReady ch (copyOf b).waitVa = true))) ∧
  (∃ (s : State) (ch : Nat) (b : Bytes) (s1 : State), (s.chan ch).st = .run ∧ (s.chan ch).desc = [] ∧ (s.chan ch).index < (s.chan ch).count ∧ s.fabricUp (ch / 64) = true ∧ s.cpyReady ch (s.chan ch).descVa = true ∧ s.cpyRead ch (s.chan ch).descVa = .ok (b, s1) ∧ (copyOf b).bad b = none ∧ ((bit (copyOf b).flags 2 = true → s1.cpyReady ch (copyOf b).waitVa = true))) ∧
  (∃ (s : State) (ch : Nat) (b : Bytes) (s1 : State) (st : _) (dt : _), (s.chan ch).st = .run ∧ (s.chan ch).desc = [] ∧ (s.chan ch).index < (s.chan ch).count ∧ s.fabricUp (ch / 64) = true ∧ s.cpyReady ch (s.chan ch).descVa = true ∧ s.cpyRead ch (s.chan ch).descVa = .ok (b, s1) ∧ (copyOf b).bad b = some (st, dt)) ∧
  (∃ b : Bytes, bit (copyOf b).flags 2 = false) ∧
  (∃ (s : State) (ch : Nat) (a : _) (nc : _) (s1 : State) (b : Bytes) (s2 : State), (s.chan ch).st = .wait ∧ s.cpyReady ch (copyOf (s.chan ch).desc).waitVa = true ∧ s.cpyXlate ch (copyOf (s.chan ch).desc).waitVa 0 = (.pa a nc, s1) ∧ s1.readLine (s1.chanCtx ch) (s1.ctxFolio (s1.chanCtx ch)) a 4 = (.ok, b, s2) ∧ satisfies (BitVec.ofNat 32 (unle b)) (BitVec.ofNat 32 (copyOf (s.chan ch).desc).waitTgt) = true) ∧
  (∃ (s : State) (e : Nat) (ch : Nat), s.nextChan e = some (ch, false) ∧ s.fabricUp (e / 4) = true) ∧
  (∃ (s : State) (ch : Nat) (i : Nat) (b : CpBurst) (qs : List Req), tget i (s.chan ch).bursts = some b ∧ s.allBack (b.reads ++ b.writes) = some qs ∧ firstBad qs = none ∧ b.writes = [] ∧ (copyOf (s.chan ch).desc).op ≠ 2) ∧
  (∃ (s : State) (ch : Nat) (i : Nat) (b : CpBurst) (qs : List Req), tget i (s.chan ch).bursts = some b ∧ s.allBack (b.reads ++ b.writes) = some qs ∧ firstBad qs = none ∧ b.writes ≠ []) ∧
  (∃ (s : State) (ch : Nat) (i : Nat) (b : CpBurst) (qs : List Req) (q : Req) (e : Cpl), tget i (s.chan ch).bursts = some b ∧ s.allBack (b.reads ++ b.writes) = some qs ∧ firstBad qs = some (q, e)) ∧
  (∃ (s : State) (ch : Nat), (s.chan ch).st = .run ∧ (s.chan ch).desc ≠ [] ∧ (s.chan ch).bursts = [] ∧ (s.chan ch).ending = false ∧ (copyOf (s.chan ch).desc).total ≤ (s.chan ch).issued) ∧
  (∃ (s : State) (ch : Nat), (s.chan ch).st = .stopFault) ∧
  (∃ (s : State) (ch : Nat), ((s.chan ch).st = .stopBad ∨ (s.chan ch).st = .stopFault)) ∧
  (∃ (s : State) (ch : Nat), ((s.chan ch).st = .stopBad ∨ (s.chan ch).st = .stopFault)) ∧
  (∃ (s : State) (ch : Nat) (m : Nat), ch ≤ 127 ∧ s.clasp.rails = true ∧ (s.chan ch).stream = none ∧ ((List.range 8).map (fun k => 14 + 8 * (ch / 64) + k)).find? (fun n => !(s.streams (ch / 64)).contains n) = some m) ∧
  (∃ (s : State) (ch : Nat) (v : Nat), ch ≤ 127 ∧ s.clasp.rails = true ∧ v < 512) :=
  ⟨by refine ⟨{ wPart (wQue (wCmd 0)) (wBlk 128 [(0x0, 1, 0x0), (0x4, 4, 0x40), (0x8, 8, wHost), (0x10, 8, 0x200000001000)]) with fabrics := [(1, { running := true })], chans := [(127, { st := .run, list := wHost, count := 65536, index := 0 })] }, 127, (wBlk 128 [(0x0, 1, 0x0), (0x4, 4, 0x40), (0x8, 8, wHost), (0x10, 8, 0x200000001000)]), { wPart (wQue (wCmd 0)) (wBlk 128 [(0x0, 1, 0x0), (0x4, 4, 0x40), (0x8, 8, wHost), (0x10, 8, 0x200000001000)]) with fabrics := [(1, { running := true })], chans := [(127, { st := .run, list := wHost, count := 65536, index := 0 })] }, ?_, ?_, ?_, ?_, ?_, ?_, ?_, fun h => absurd h (by decide +kernel)⟩ <;> decide +kernel,
   by refine ⟨{ wPart (wQue (wCmd 0)) (wBlk 128 [(0x0, 1, 0x0), (0x1, 1, 0x4), (0x4, 4, 0x40), (0x8, 8, wHost), (0x10, 8, 0x200000001000), (0x40, 8, (wHost + 8192))]) with fabrics := [(1, { running := true })], chans := [(127, { st := .run, list := wHost, count := 65536, index := 0 })] }, 127, (wBlk 128 [(0x0, 1, 0x0), (0x1, 1, 0x4), (0x4, 4, 0x40), (0x8, 8, wHost), (0x10, 8, 0x200000001000), (0x40, 8, (wHost + 8192))]), { wPart (wQue (wCmd 0)) (wBlk 128 [(0x0, 1, 0x0), (0x1, 1, 0x4), (0x4, 4, 0x40), (0x8, 8, wHost), (0x10, 8, 0x200000001000), (0x40, 8, (wHost + 8192))]) with fabrics := [(1, { running := true })], chans := [(127, { st := .run, list := wHost, count := 65536, index := 0 })] }, ?_, ?_, ?_, ?_, ?_, ?_, ?_, ?_⟩ <;> decide +kernel,
   by refine ⟨{ wPart (wQue (wCmd 0)) (wBlk 128 [(0x0, 1, 0x3), (0x4, 4, 0x40), (0x8, 8, wHost), (0x10, 8, 0x200000001000)]) with fabrics := [(1, { running := true })], chans := [(127, { st := .run, list := wHost, count := 65536, index := 0 })] }, 127, (wBlk 128 [(0x0, 1, 0x3), (0x4, 4, 0x40), (0x8, 8, wHost), (0x10, 8, 0x200000001000)]), { wPart (wQue (wCmd 0)) (wBlk 128 [(0x0, 1, 0x3), (0x4, 4, 0x40), (0x8, 8, wHost), (0x10, 8, 0x200000001000)]) with fabrics := [(1, { running := true })], chans := [(127, { st := .run, list := wHost, count := 65536, index := 0 })] }, 2, 1, ?_, ?_, ?_, ?_, ?_, ?_, ?_⟩ <;> decide +kernel,
   ⟨zeros 128, by decide +kernel⟩,
   by refine ⟨{ wPart (wQue (wCmd 0)) (zeros 8) with fabrics := [(1, { running := true })], chans := [(127, { st := .wait, desc := (wBlk 128 [(0x1, 1, 0x4), (0x40, 8, wHost)]) })] }, 127, wHost, false, { wPart (wQue (wCmd 0)) (zeros 8) with fabrics := [(1, { running := true })], chans := [(127, { st := .wait, desc := (wBlk 128 [(0x1, 1, 0x4), (0x40, 8, wHost)]) })] }, (zeros 4), { wPart (wQue (wCmd 0)) (zeros 8) with fabrics := [(1, { running := true })], chans := [(127, { st := .wait, desc := (wBlk 128 [(0x1, 1, 0x4), (0x40, 8, wHost)]) })] }, ?_, ?_, ?_, ?_, ?_⟩ <;> decide +kernel,
   by refine ⟨{ wPart (wQue (wCmd 0)) [] with fabrics := [(1, { running := true })], chans := [(127, { st := .run, desc := (wBlk 128 [(0x0, 1, 0x0), (0x4, 4, 0x40), (0x8, 8, wHost), (0x10, 8, 0x200000001000)]), count := 1 })] }, 7, 127, ?_, ?_⟩ <;> decide +kernel,
   by refine ⟨{ wPart (wQue (wCmd 0)) [] with fabrics := [(1, { running := true })], chans := [(127, { st := .run, desc := (wBlk 128 [(0x0, 1, 0x0), (0x4, 4, 0x40), (0x8, 8, wHost), (0x10, 8, 0x200000001000)]), count := 1, bursts := [(0, { off := 0, len := 64, reads := [7], writes := [] })] })], reqs := [(7, { kind := .glance, issuer := .copy 127, status := some .ok })] }, 127, 0, { off := 0, len := 64, reads := [7], writes := [] }, [{ kind := .glance, issuer := .copy 127, status := some .ok }], ?_, ?_, ?_, ?_, ?_⟩ <;> decide +kernel,
   by refine ⟨{ wPart (wQue (wCmd 0)) [] with fabrics := [(1, { running := true })], chans := [(127, { st := .run, desc := (wBlk 128 [(0x0, 1, 0x0), (0x4, 4, 0x40), (0x8, 8, wHost), (0x10, 8, 0x200000001000)]), count := 1, bursts := [(0, { off := 0, len := 64, reads := [], writes := [7] })] })], reqs := [(7, { kind := .glance, issuer := .copy 127, status := some .ok })] }, 127, 0, { off := 0, len := 64, reads := [], writes := [7] }, [{ kind := .glance, issuer := .copy 127, status := some .ok }], ?_, ?_, ?_, ?_⟩ <;> decide +kernel,
   by refine ⟨{ wPart (wQue (wCmd 0)) [] with fabrics := [(1, { running := true })], chans := [(127, { st := .run, desc := (wBlk 128 [(0x0, 1, 0x0), (0x4, 4, 0x40), (0x8, 8, wHost), (0x10, 8, 0x200000001000)]), count := 1, bursts := [(0, { off := 0, len := 64, reads := [], writes := [7] })] })], reqs := [(7, { kind := .glance, issuer := .copy 127, status := some .lost })] }, 127, 0, { off := 0, len := 64, reads := [], writes := [7] }, [{ kind := .glance, issuer := .copy 127, status := some .lost }], { kind := .glance, issuer := .copy 127, status := some .lost }, .lost, ?_, ?_, ?_⟩ <;> decide +kernel,
   by refine ⟨{ wPart (wQue (wCmd 0)) [] with fabrics := [(1, { running := true })], chans := [(127, { st := .run, desc := (wBlk 128 [(0x0, 1, 0x0), (0x4, 4, 0x40), (0x8, 8, wHost), (0x10, 8, 0x200000001000)]), count := 1, issued := 64 })] }, 127, ?_, ?_, ?_, ?_, ?_⟩ <;> decide +kernel,
   ⟨{ wPart (wQue (wCmd 0)) [] with fabrics := [(1, { running := true })], chans := [(127, { st := .stopFault })] }, 127, by decide +kernel⟩,
   ⟨{ wPart (wQue (wCmd 0)) [] with fabrics := [(1, { running := true })], chans := [(127, { st := .stopBad })] }, 127, by decide +kernel⟩,
   ⟨{ wPart (wQue (wCmd 0)) [] with fabrics := [(1, { running := true })], chans := [(127, { st := .stopFault })] }, 127, by decide +kernel⟩,
   by refine ⟨{ clasp := { rails := true } }, 127, 22, ?_, ?_, ?_, ?_⟩ <;> decide +kernel,
   by refine ⟨{ clasp := { rails := true } }, 127, 511, ?_, ?_, ?_⟩ <;> decide +kernel⟩

/-- What PowerControlRuns assumes is met. -/
theorem test_wit_PowerControlRuns :
  (∃ (s : State) (avail : Int), s.clasp.rails = true ∧ s.power.tickAt + 1000000 ≤ s.hubCount ∧ 0 ≤ avail) ∧
  (∃ k avail n f : Nat, fitStep k avail n = some f) ∧
  (∃ (s : State) (p : Nat) (fixed : Nat) (pinned : Nat), ((s.clasp.rails = false ∨ s.hubCount < s.power.tickAt + 1000000))) ∧
  (∃ (s : State) (p : Nat) (fixed : Nat) (pinned : Nat), ((s.clasp.rails = false ∨ s.hubCount < s.power.tickAt + 1000000))) ∧
  (∃ (s : State) (i : Nat) (f : Nat), (s.region i).target = some f ∧ (s.region i).powered = true ∧ (s.region i).steppingUp = true ∧ (s.region i).railUp = false ∧ (s.region i).droop = false ∧ (s.region i).droopSince + 2000 ≤ s.hubCount) ∧
  (∃ (s : State) (i : Nat) (f : Nat), (s.region i).target = some f ∧ (s.region i).powered = true ∧ (((s.region i).steppingUp = true → (s.region i).railUp = true)) ∧ (s.region i).droop = false ∧ (s.region i).droopSince + 2000 ≤ s.hubCount) ∧
  (∃ (s : State) (i : Nat) (f : Nat), (s.region i).target = some f ∧ (s.region i).powered = true ∧ (((s.region i).steppingUp = true → (s.region i).railUp = true)) ∧ (s.region i).droop = false ∧ (s.region i).droopSince + 2000 ≤ s.hubCount) ∧
  (∃ (s : State) (i : Nat) (f : Nat), (s.region i).target = some f ∧ (s.region i).droop = true) :=
  ⟨⟨{ clasp := { rails := true }, hubCount := 1000000 }, 0, by decide +kernel⟩,
   ⟨0, Config.predictedW 50 0, 1, 50, by simp [fitStep]⟩,
   ⟨{}, 0, 0, 0, by decide +kernel⟩,
   ⟨{ clasp := { rails := true }, hubCount := 999999 }, 0, 0, 0, by decide +kernel⟩,
   by refine ⟨{ regions := [(15, { powered := true, target := some 3000, steppingUp := true })], hubCount := 2000 }, 15, 3000, ?_, ?_, ?_, ?_, ?_, ?_⟩ <;> decide +kernel,
   by refine ⟨{ regions := [(15, { powered := true, target := some 3000, steppingUp := true, railUp := true })], hubCount := 2000 }, 15, 3000, ?_, ?_, ?_, ?_, ?_⟩ <;> decide +kernel,
   by refine ⟨{ regions := [(15, { powered := true, target := some 3000 })], hubCount := 2000 }, 15, 3000, ?_, ?_, ?_, ?_, ?_⟩ <;> decide +kernel,
   by refine ⟨{ regions := [(15, { powered := true, target := some 3000, droop := true })], hubCount := 2000 }, 15, 3000, ?_, ?_⟩ <;> decide +kernel⟩

/-- What DroopWarningsAndHeat assumes is met. -/
theorem test_wit_DroopWarningsAndHeat :
  (∃ (s : State) (i : Nat), (s.region i).powered = true ∧ (s.region i).droop = false) ∧
  (∃ (s : State) (i : Nat), (s.region i).droop = true ∧ 32000 ≤ (s.hubCount - (s.region i).droopSince) * (s.region i).setMhz) ∧
  (∃ (s : State) (i : Nat), (s.region i).droop = true ∧ (s.region i).droopLong = false ∧ (s.region i).droopSince + 100000 < s.hubCount) ∧
  (∃ (s : State) (k : Nat) (mv : Nat), k ≤ 18 ∧ s.clasp.rails = true ∧ tget k s.power.warns = none ∧ s.lowSupply k mv = true) ∧
  (∃ (s : State) (k : Nat) (low : Nat) (h : Nat), tget k s.power.warns = some h ∧ h + 200000 ≤ s.hubCount) ∧
  (∃ (s : State) (i : Nat) (temp : Nat), 105 ≤ temp ∧ (s.region i).powered = true ∧ (s.region i).capAt + 100000 ≤ s.hubCount) ∧
  (∃ (s : State) (i : Nat) (temp : Nat), temp < 103 ∧ (s.region i).powered = true ∧ (s.region i).capAt + 1000000 ≤ s.hubCount) ∧
  (∃ (s : State) (d : Nat) (need : Nat) (h : Nat), d < 16 ∧ s.clasp.rails = true ∧ s.gaugeDue (s.region d).gauge = true ∧ tget 18 s.power.warns = none ∧ need ≤ 60) ∧
  (∃ (s : State) (d : Nat) (need : Nat) (h : Nat), 16 ≤ d ∧ d ≤ 17 ∧ s.clasp.rails = true ∧ s.gaugeDue (s.fabric (d - 16)).gauge = true ∧ tget 18 s.power.warns = none) :=
  ⟨by refine ⟨{ regions := [(15, { powered := true, droop := false })], hubCount := 2000 }, 15, ?_, ?_⟩ <;> decide +kernel,
   by refine ⟨{ regions := [(15, { powered := true, droop := true, setMhz := 4000 })], hubCount := 8 }, 15, ?_, ?_⟩ <;> decide +kernel,
   by refine ⟨{ regions := [(15, { powered := true, droop := true })], hubCount := 100001 }, 15, ?_, ?_, ?_⟩ <;> decide +kernel,
   by refine ⟨{ clasp := { rails := true } }, 18, 45999, ?_, ?_, ?_, ?_⟩ <;> decide +kernel,
   by refine ⟨{ power := { warns := [(18, 5)] }, hubCount := 200005 }, 18, 0, 5, ?_, ?_⟩ <;> decide +kernel,
   by refine ⟨{ regions := [(15, { powered := true, droop := false })], hubCount := 100000 }, 15, 105, ?_, ?_, ?_⟩ <;> decide +kernel,
   by refine ⟨{ regions := [(15, { powered := true, droop := false })], hubCount := 1000000 }, 15, 102, ?_, ?_, ?_⟩ <;> decide +kernel,
   by refine ⟨{ clasp := { rails := true } }, 15, 60, 0, ?_, ?_, ?_, ?_, ?_⟩ <;> decide +kernel,
   by refine ⟨{ clasp := { rails := true } }, 17, 61, 0, ?_, ?_, ?_, ?_, ?_⟩ <;> decide +kernel⟩

/-- What PowerLimitsEnergyAndGroups assumes is met. -/
theorem test_wit_PowerLimitsEnergyAndGroups :
  (∃ (s : State) (w : BitVec 32), s.clasp.rails = true ∧ bit (s.reg rPwrGroup) 0 = false) ∧
  (∃ (s : State) (w : BitVec 32), s.clasp.rails = true ∧ bit (s.reg rPwrGroup) 0 = true) ∧
  (∃ (s : State) (s1 : State) (q : Nat) (x : Queue) (c : Cmd), Taken s q 0x58 x c s1 ∧ bit (s1.reg rPwrGroup) 0 = false ∧ 700 ≤ c.arg 0x28 2 ∧ c.arg 0x28 2 ≤ 1500 ∧ 1 ≤ c.arg 0x2A 1 ∧ c.arg 0x2A 1 ≤ 30 ∧ c.arg 0x28 2 ≤ c.arg 0x2C 2 ∧ c.arg 0x2C 2 ≤ 1850) ∧
  (∃ (s : State) (s1 : State) (q : Nat) (x : Queue) (c : Cmd), Taken s q 0x58 x c s1 ∧ bit (s1.reg rPwrGroup) 0 = false ∧ ((c.arg 0x28 2 < 700 ∨ 1500 < c.arg 0x28 2))) ∧
  (∃ (s : State) (s1 : State) (q : Nat) (x : Queue) (c : Cmd), Taken s q 0x59 x c s1 ∧ x.type = .mgmt ∧ c.arg 0x30 1 ≤ 63 ∧ (s1.folio (c.arg 0x30 1)).valid = true ∧ c.arg 0x28 8 % 64 = 0) ∧
  (∃ (s : State), s.clasp.rails = true ∧ s.power.energyAt + 10000000 ≤ s.hubCount ∧ ((∀ f, (s.folio f).energy = none))) ∧
  (∃ (s : State) (s0 : State) (f : _) (g : Folio) (ctx : _) (a : _) (n : _), s.clasp.rails = true ∧ s.power.energyAt + 10000000 ≤ s.hubCount ∧ s0 = { s with power := { s.power with energyAt := s.hubCount } } ∧ s.folios = [(f, g)] ∧ g.energy = some (ctx, a, n)) ∧
  (∃ (s : State), s.inGroup = true ∧ s.power.reportAt + 10000000 ≤ s.hubCount) ∧
  (∃ (s : State) (l : Nat) (d : Bytes), (s.stitch l).up = true ∧ s.inGroup = true ∧ fieldLe d 0 2 = s.groupId) ∧
  (∃ (s : State) (first : _) (rest : _), s.inGroup = true ∧ s.power.reports = first :: rest ∧ first.1 = s.clasp.pkgId) ∧
  (∃ (s : State) (l : Nat) (d : Bytes), (s.stitch l).up = true ∧ s.inGroup = true ∧ fieldLe d 0 2 = s.groupId ∧ fieldLe d 4 2 = s.clasp.pkgId) ∧
  (∃ (s : State), s.inGroup = true ∧ s.power.lastAssign + 50000000 ≤ s.hubCount) :=
  ⟨by refine ⟨{ clasp := { rails := true } }, 0, ?_, ?_⟩ <;> decide +kernel,
   by refine ⟨(({ clasp := { rails := true }, hubCount := 60000000, links := [(11, { up := true })], power := { reports := [(0, (1, 1))] } } : State).setFld rPwrGroup 0 1 1), 0, ?_, ?_⟩ <;> decide +kernel,
   by refine ⟨(wPart (wQue (wCmd 0x58 [(0x28, 2, 0x2BC), (0x2A, 1, 0x1E), (0x2C, 2, 0x73A)]))), (wPart (wQue (wCmd 0x58 [(0x28, 2, 0x2BC), (0x2A, 1, 0x1E), (0x2C, 2, 0x73A)]))), 1, (wQue (wCmd 0x58 [(0x28, 2, 0x2BC), (0x2A, 1, 0x1E), (0x2C, 2, 0x73A)])), (wCmd 0x58 [(0x28, 2, 0x2BC), (0x2A, 1, 0x1E), (0x2C, 2, 0x73A)]), ⟨?_, ?_⟩, ?_, ?_, ?_, ?_, ?_, ?_, ?_⟩ <;> decide +kernel,
   by refine ⟨(wPart (wQue (wCmd 0x58 [(0x28, 2, 0x5DD)]))), (wPart (wQue (wCmd 0x58 [(0x28, 2, 0x5DD)]))), 1, (wQue (wCmd 0x58 [(0x28, 2, 0x5DD)])), (wCmd 0x58 [(0x28, 2, 0x5DD)]), ⟨?_, ?_⟩, ?_, ?_⟩ <;> decide +kernel,
   by refine ⟨(wPart (wQue (wCmd 0x59 [(0x28, 8, 0x40)]))), (wPart (wQue (wCmd 0x59 [(0x28, 8, 0x40)]))), 1, (wQue (wCmd 0x59 [(0x28, 8, 0x40)])), (wCmd 0x59 [(0x28, 8, 0x40)]), ⟨?_, ?_⟩, ?_, ?_, ?_, ?_⟩ <;> decide +kernel,
   by refine ⟨{ clasp := { rails := true }, hubCount := 10000000 }, ?_, ?_, fun _ => rfl⟩ <;> decide +kernel,
   by refine ⟨{ clasp := { rails := true }, hubCount := 10000000, folios := [(63, { energy := some (0, 64, 0) })] }, _, 63, { energy := some (0, 64, 0) }, 0, 64, 0, ?_, ?_, rfl, ?_, ?_⟩ <;> decide +kernel,
   by refine ⟨(({ clasp := { rails := true }, hubCount := 60000000, links := [(11, { up := true })], power := { reports := [(0, (1, 1))] } } : State).setFld rPwrGroup 0 1 1), ?_, ?_⟩ <;> decide +kernel,
   by refine ⟨(({ clasp := { rails := true }, hubCount := 60000000, links := [(11, { up := true })], power := { reports := [(0, (1, 1))] } } : State).setFld rPwrGroup 0 1 1), 11, (zeros 64), ?_, ?_, ?_⟩ <;> decide +kernel,
   by refine ⟨(({ clasp := { rails := true }, hubCount := 60000000, links := [(11, { up := true })], power := { reports := [(0, (1, 1))] } } : State).setFld rPwrGroup 0 1 1), (0, (1, 1)), [], ?_, ?_, ?_⟩ <;> decide +kernel,
   by refine ⟨(({ clasp := { rails := true }, hubCount := 60000000, links := [(11, { up := true })], power := { reports := [(0, (1, 1))] } } : State).setFld rPwrGroup 0 1 1), 11, (zeros 64), ?_, ?_, ?_, ?_⟩ <;> decide +kernel,
   by refine ⟨(({ clasp := { rails := true }, hubCount := 60000000, links := [(11, { up := true })], power := { reports := [(0, (1, 1))] } } : State).setFld rPwrGroup 0 1 1), ?_, ?_⟩ <;> decide +kernel⟩

/-- What FolioCommandsComplete assumes is met. -/
theorem test_wit_FolioCommandsComplete :
  (∃ (s : State) (s2 : State) (q : Nat) (x : Queue) (c : Cmd) (b : Bytes), TakenBlock s q 0x30 x c s2 b ∧ s2.createBad b (maskBits (fieldLe b 8 16) 128) (maskBits (fieldLe b 0x18 8) 64) (maskBits (fieldLe b 0x20 2) 12) = none) ∧
  (∃ (s : State) (s2 : State) (q : Nat) (x : Queue) (c : Cmd) (b : Bytes) (e : _), TakenBlock s q 0x30 x c s2 b ∧ s2.createBad b (maskBits (fieldLe b 8 16) 128) (maskBits (fieldLe b 0x18 8) 64) (maskBits (fieldLe b 0x20 2) 12) = some e) ∧
  (∃ (s : State) (s1 : State) (q : Nat) (x : Queue) (c : Cmd), Taken s q 0x31 x c s1 ∧ c.arg 0x28 1 = 0) ∧
  (∃ (s : State) (s1 : State) (q : Nat) (x : Queue) (c : Cmd) (f : Nat), Taken s q 0x31 x c s1 ∧ f = c.arg 0x28 1 ∧ f ≠ 0 ∧ f ≤ 63 ∧ (s1.folio f).valid = true ∧ s.epochRoom f ((s.folioCores f).length + (s.folioMems f).length + (s.folioLinks f).length) = true) ∧
  (∃ (s : State) (s1 : State) (q : Nat) (x : Queue) (c : Cmd), Taken s q 0x32 x c s1 ∧ s1.sliceArgBad 0x32 (c.arg 0x28 1) (c.arg 0x29 1) (c.arg 0x2A 1) (c.arg 0x2B 1) = none ∧ (s1.sliceE (c.arg 0x28 1) (c.arg 0x29 1)).st = .free ∧ (s1.sliceE (c.arg 0x28 1) (c.arg 0x29 1)).init = false ∧ s1.enterBad (c.arg 0x28 1) (c.arg 0x29 1) (c.arg 0x2B 1) = none ∧ s.epochRoom (c.arg 0x2B 1) 1 = true) ∧
  (∃ (s : State) (s1 : State) (q : Nat) (x : Queue) (c : Cmd), Taken s q 0x32 x c s1 ∧ s1.sliceArgBad 0x32 (c.arg 0x28 1) (c.arg 0x29 1) (c.arg 0x2A 1) (c.arg 0x2B 1) = none ∧ (s1.sliceE (c.arg 0x28 1) (c.arg 0x29 1)).st = .free ∧ (s1.sliceE (c.arg 0x28 1) (c.arg 0x29 1)).init = false ∧ s1.enterBad (c.arg 0x28 1) (c.arg 0x29 1) (c.arg 0x2B 1) = none ∧ s.epochRoom (c.arg 0x2B 1) 1 = true) ∧
  (∃ (s : State) (s1 : State) (q : Nat) (x : Queue) (c : Cmd), Taken s q 0x32 x c s1 ∧ s1.sliceArgBad 0x32 (c.arg 0x28 1) (c.arg 0x29 1) (c.arg 0x2A 1) (c.arg 0x2B 1) = none ∧ (s1.sliceE (c.arg 0x28 1) (c.arg 0x29 1)).st = .free ∧ (s1.sliceE (c.arg 0x28 1) (c.arg 0x29 1)).init = false ∧ s1.enterBad (c.arg 0x28 1) (c.arg 0x29 1) (c.arg 0x2B 1) = none ∧ s.epochRoom (c.arg 0x2B 1) 1 = true) ∧
  (∃ (s : State) (s1 : State) (q : Nat) (x : Queue) (c : Cmd), Taken s q 0x33 x c s1 ∧ s1.sliceArgBad 0x33 (c.arg 0x28 1) (c.arg 0x29 1) (c.arg 0x2A 1) (c.arg 0x2B 1) = none ∧ s1.leaveBad (c.arg 0x28 1) (c.arg 0x29 1) (c.arg 0x2A 1) = none ∧ s.epochRoom (c.arg 0x2A 1) 1 = true) ∧
  (∃ (s : State) (s1 : State) (q : Nat) (x : Queue) (c : Cmd), Taken s q 0x33 x c s1 ∧ s1.sliceArgBad 0x33 (c.arg 0x28 1) (c.arg 0x29 1) (c.arg 0x2A 1) (c.arg 0x2B 1) = none ∧ s1.leaveBad (c.arg 0x28 1) (c.arg 0x29 1) (c.arg 0x2A 1) = none ∧ s.epochRoom (c.arg 0x2A 1) 1 = true) ∧
  (∃ (s : State) (s1 : State) (q : Nat) (x : Queue) (c : Cmd), Taken s q 0x34 x c s1 ∧ s1.sliceArgBad 0x34 (c.arg 0x28 1) (c.arg 0x29 1) (c.arg 0x2A 1) (c.arg 0x2B 1) = none ∧ s1.leaveBad (c.arg 0x28 1) (c.arg 0x29 1) (c.arg 0x2A 1) = none ∧ s1.enterBad (c.arg 0x28 1) (c.arg 0x29 1) (c.arg 0x2B 1) = none ∧ s.epochRoom (c.arg 0x2A 1) 1 = true ∧ s.epochRoom (c.arg 0x2B 1) 1 = true) ∧
  (∃ (s : State) (s1 : State) (q : Nat) (x : Queue) (c : Cmd) (a : Nat) (b : Nat), Taken s q 0x35 x c s1 ∧ a = c.arg 0x28 1 ∧ b = c.arg 0x29 1 ∧ a ≤ 63 ∧ b ≤ 63 ∧ (s1.memSlice a).st = .owned ∧ (s1.memSlice b).st = .free ∧ (s1.memSlice b).init = false ∧ s1.hasAdmitted (s1.memSlice a).owner = false ∧ s1.inSet a = false ∧ s.epochRoom (s1.memSlice a).owner 1 = true ∧ a ≠ b) :=
  ⟨by refine ⟨(wPart (wQue (wCmd 0x30 [(0x28, 8, wHost)])) (wBlk 64 [(0x4, 2, 0x14), (0x8, 8, 0x8000000000000000), (0x18, 8, 0x8000000000000000), (0x20, 2, 0x800)])), (wPart (wQue (wCmd 0x30 [(0x28, 8, wHost)])) (wBlk 64 [(0x4, 2, 0x14), (0x8, 8, 0x8000000000000000), (0x18, 8, 0x8000000000000000), (0x20, 2, 0x800)])), 1, (wQue (wCmd 0x30 [(0x28, 8, wHost)])), (wCmd 0x30 [(0x28, 8, wHost)]), (wBlk 64 [(0x4, 2, 0x14), (0x8, 8, 0x8000000000000000), (0x18, 8, 0x8000000000000000), (0x20, 2, 0x800)]), ⟨?_, ?_⟩, ?_⟩ <;> decide +kernel,
   by refine ⟨(wPart (wQue (wCmd 0x30 [(0x28, 8, wHost)])) (wBlk 64 [(0x8, 8, 0x8000000000000000), (0x18, 8, 0x1)])), (wPart (wQue (wCmd 0x30 [(0x28, 8, wHost)])) (wBlk 64 [(0x8, 8, 0x8000000000000000), (0x18, 8, 0x1)])), 1, (wQue (wCmd 0x30 [(0x28, 8, wHost)])), (wCmd 0x30 [(0x28, 8, wHost)]), (wBlk 64 [(0x8, 8, 0x8000000000000000), (0x18, 8, 0x1)]), (5, 0), ⟨?_, ?_⟩, ?_⟩ <;> decide +kernel,
   by refine ⟨(wPart (wQue (wCmd 0x31 []))), (wPart (wQue (wCmd 0x31 []))), 1, (wQue (wCmd 0x31 [])), (wCmd 0x31 []), ⟨?_, ?_⟩, ?_⟩ <;> decide +kernel,
   by refine ⟨{ wPart (wQue (wCmd 0x31 [(0x28, 1, 0x1)])) with folios := [(0, { valid := true }), (1, { valid := true }), (2, { valid := true })] }, { wPart (wQue (wCmd 0x31 [(0x28, 1, 0x1)])) with folios := [(0, { valid := true }), (1, { valid := true }), (2, { valid := true })] }, 1, (wQue (wCmd 0x31 [(0x28, 1, 0x1)])), (wCmd 0x31 [(0x28, 1, 0x1)]), 1, ⟨?_, ?_⟩, ?_, ?_, ?_, ?_, ?_⟩ <;> decide +kernel,
   by refine ⟨{ wPart (wQue (wCmd 0x32 [(0x28, 1, 0x0), (0x29, 1, 0x7F), (0x2A, 1, 0x3F), (0x2B, 1, 0x1)])) with folios := [(0, { valid := true }), (1, { valid := true }), (2, { valid := true })] }, { wPart (wQue (wCmd 0x32 [(0x28, 1, 0x0), (0x29, 1, 0x7F), (0x2A, 1, 0x3F), (0x2B, 1, 0x1)])) with folios := [(0, { valid := true }), (1, { valid := true }), (2, { valid := true })] }, 1, (wQue (wCmd 0x32 [(0x28, 1, 0x0), (0x29, 1, 0x7F), (0x2A, 1, 0x3F), (0x2B, 1, 0x1)])), (wCmd 0x32 [(0x28, 1, 0x0), (0x29, 1, 0x7F), (0x2A, 1, 0x3F), (0x2B, 1, 0x1)]), ⟨?_, ?_⟩, ?_, ?_, ?_, ?_, ?_⟩ <;> decide +kernel,
   by refine ⟨{ wPart (wQue (wCmd 0x32 [(0x28, 1, 0x1), (0x29, 1, 0x3F), (0x2A, 1, 0x3F), (0x2B, 1, 0x1)])) with folios := [(0, { valid := true }), (1, { valid := true }), (2, { valid := true })] }, { wPart (wQue (wCmd 0x32 [(0x28, 1, 0x1), (0x29, 1, 0x3F), (0x2A, 1, 0x3F), (0x2B, 1, 0x1)])) with folios := [(0, { valid := true }), (1, { valid := true }), (2, { valid := true })] }, 1, (wQue (wCmd 0x32 [(0x28, 1, 0x1), (0x29, 1, 0x3F), (0x2A, 1, 0x3F), (0x2B, 1, 0x1)])), (wCmd 0x32 [(0x28, 1, 0x1), (0x29, 1, 0x3F), (0x2A, 1, 0x3F), (0x2B, 1, 0x1)]), ⟨?_, ?_⟩, ?_, ?_, ?_, ?_, ?_⟩ <;> decide +kernel,
   by refine ⟨{ wPart (wQue (wCmd 0x32 [(0x28, 1, 0x2), (0x29, 1, 0xB), (0x2A, 1, 0x3F), (0x2B, 1, 0x1)])) with folios := [(0, { valid := true }), (1, { valid := true }), (2, { valid := true })] }, { wPart (wQue (wCmd 0x32 [(0x28, 1, 0x2), (0x29, 1, 0xB), (0x2A, 1, 0x3F), (0x2B, 1, 0x1)])) with folios := [(0, { valid := true }), (1, { valid := true }), (2, { valid := true })] }, 1, (wQue (wCmd 0x32 [(0x28, 1, 0x2), (0x29, 1, 0xB), (0x2A, 1, 0x3F), (0x2B, 1, 0x1)])), (wCmd 0x32 [(0x28, 1, 0x2), (0x29, 1, 0xB), (0x2A, 1, 0x3F), (0x2B, 1, 0x1)]), ⟨?_, ?_⟩, ?_, ?_, ?_, ?_, ?_⟩ <;> decide +kernel,
   by refine ⟨{ wPart (wQue (wCmd 0x33 [(0x28, 1, 0x2), (0x29, 1, 0xB), (0x2A, 1, 0x1), (0x2B, 1, 0x3F)])) with folios := [(0, { valid := true }), (1, { valid := true }), (2, { valid := true })], linkSl := [(11, { st := .owned, owner := 1 })] }, { wPart (wQue (wCmd 0x33 [(0x28, 1, 0x2), (0x29, 1, 0xB), (0x2A, 1, 0x1), (0x2B, 1, 0x3F)])) with folios := [(0, { valid := true }), (1, { valid := true }), (2, { valid := true })], linkSl := [(11, { st := .owned, owner := 1 })] }, 1, (wQue (wCmd 0x33 [(0x28, 1, 0x2), (0x29, 1, 0xB), (0x2A, 1, 0x1), (0x2B, 1, 0x3F)])), (wCmd 0x33 [(0x28, 1, 0x2), (0x29, 1, 0xB), (0x2A, 1, 0x1), (0x2B, 1, 0x3F)]), ⟨?_, ?_⟩, ?_, ?_, ?_⟩ <;> decide +kernel,
   by refine ⟨{ wPart (wQue (wCmd 0x33 [(0x28, 1, 0x0), (0x29, 1, 0x7F), (0x2A, 1, 0x1), (0x2B, 1, 0x3F)])) with folios := [(0, { valid := true }), (1, { valid := true }), (2, { valid := true })], coreSl := [(126, { st := .owned, owner := 1 }), (127, { st := .owned, owner := 1 })] }, { wPart (wQue (wCmd 0x33 [(0x28, 1, 0x0), (0x29, 1, 0x7F), (0x2A, 1, 0x1), (0x2B, 1, 0x3F)])) with folios := [(0, { valid := true }), (1, { valid := true }), (2, { valid := true })], coreSl := [(126, { st := .owned, owner := 1 }), (127, { st := .owned, owner := 1 })] }, 1, (wQue (wCmd 0x33 [(0x28, 1, 0x0), (0x29, 1, 0x7F), (0x2A, 1, 0x1), (0x2B, 1, 0x3F)])), (wCmd 0x33 [(0x28, 1, 0x0), (0x29, 1, 0x7F), (0x2A, 1, 0x1), (0x2B, 1, 0x3F)]), ⟨?_, ?_⟩, ?_, ?_, ?_⟩ <;> decide +kernel,
   by refine ⟨{ wPart (wQue (wCmd 0x34 [(0x28, 1, 0x2), (0x29, 1, 0xB), (0x2A, 1, 0x1), (0x2B, 1, 0x2)])) with folios := [(0, { valid := true }), (1, { valid := true }), (2, { valid := true })], linkSl := [(11, { st := .owned, owner := 1 })] }, { wPart (wQue (wCmd 0x34 [(0x28, 1, 0x2), (0x29, 1, 0xB), (0x2A, 1, 0x1), (0x2B, 1, 0x2)])) with folios := [(0, { valid := true }), (1, { valid := true }), (2, { valid := true })], linkSl := [(11, { st := .owned, owner := 1 })] }, 1, (wQue (wCmd 0x34 [(0x28, 1, 0x2), (0x29, 1, 0xB), (0x2A, 1, 0x1), (0x2B, 1, 0x2)])), (wCmd 0x34 [(0x28, 1, 0x2), (0x29, 1, 0xB), (0x2A, 1, 0x1), (0x2B, 1, 0x2)]), ⟨?_, ?_⟩, ?_, ?_, ?_, ?_, ?_⟩ <;> decide +kernel,
   by refine ⟨(wPart (wQue (wCmd 0x35 [(0x28, 1, 0x0), (0x29, 1, 0x3F)]))), (wPart (wQue (wCmd 0x35 [(0x28, 1, 0x0), (0x29, 1, 0x3F)]))), 1, (wQue (wCmd 0x35 [(0x28, 1, 0x0), (0x29, 1, 0x3F)])), (wCmd 0x35 [(0x28, 1, 0x0), (0x29, 1, 0x3F)]), 0, 63, ⟨?_, ?_⟩, ?_, ?_, ?_, ?_, ?_, ?_, ?_, ?_, ?_, ?_, ?_⟩ <;> decide +kernel⟩

/-- What RebindingCompletes assumes is met. -/
theorem test_wit_RebindingCompletes :
  (∃ (s : State) (kind : Nat) (n : Nat), kind ≤ 2 ∧ n < sliceCount kind ∧ (s.sliceE kind n).leaving = true ∧ (s.gather kind n).drain kind n = 0 ∧ ((63 < ((s.gather kind n).sliceE kind n).dest ∨ (s.gather kind n).epochRoom ((s.gather kind n).sliceE kind n).dest 1 = true))) ∧
  (∃ (s : State) (kind : Nat) (n : Nat), kind ≤ 2 ∧ n < sliceCount kind ∧ (s.sliceE kind n).leaving = true ∧ (s.gather kind n).drain kind n = 0 ∧ ((63 < ((s.gather kind n).sliceE kind n).dest ∨ (s.gather kind n).epochRoom ((s.gather kind n).sliceE kind n).dest 1 = true))) ∧
  (∃ (s : State) (kind : Nat) (n : Nat), kind ≤ 2 ∧ n < sliceCount kind ∧ (s.sliceE kind n).leaving = true ∧ (s.gather kind n).drain kind n = 0 ∧ ((63 < ((s.gather kind n).sliceE kind n).dest ∨ (s.gather kind n).epochRoom ((s.gather kind n).sliceE kind n).dest 1 = true))) ∧
  (∃ (s : State) (kind : Nat) (n : Nat), kind ≤ 2 ∧ n < sliceCount kind ∧ (s.sliceE kind n).leaving = true ∧ (s.gather kind n).drain kind n ≠ 0) ∧
  (∃ (s : State) (n : Nat), n < 12 ∧ (s.linkSlice n).leaving = true ∧ s.drain 2 n ≠ 0 ∧ (s.linkSlice n).started + s.drainLim (s.linkSlice n).owner ≤ s.hubCount) ∧
  (∃ (s : State) (kind : Nat) (n : Nat), s.hubCount < (s.sliceE kind n).started + s.drainLim (s.sliceE kind n).owner) ∧
  (∃ (s : State) (n : Nat), (s.memSlice n).st = .transit ∧ (s.memSlice n).scrub = true ∧ (s.memSlice n).dest = 0x3F ∧ n < 64) ∧
  (∃ (s : State) (n : Nat), (s.memSlice n).init = true ∧ (s.memSlice n).queue = none) ∧
  (∃ (s : State) (n : Nat) (y : Nat), (s.memSlice n).moveTo = some y ∧ (s.memSlice n).st = .owned ∧ (s.memSlice y).moveFrom = some n ∧ s.epochRoom (s.memSlice n).owner 1 = true) :=
  ⟨by refine ⟨{ coreSl := [(127, { st := .transit })] }, 0, 127, ?_, ?_, ?_, ?_, ?_⟩ <;> decide +kernel,
   by refine ⟨{ memSl := [(63, { st := .transit })] }, 1, 63, ?_, ?_, ?_, ?_, ?_⟩ <;> decide +kernel,
   by refine ⟨{ linkSl := [(11, { st := .transit })] }, 2, 11, ?_, ?_, ?_, ?_, ?_⟩ <;> decide +kernel,
   by refine ⟨{ linkSl := [(11, { st := .transit })], links := [(11, { reqPool := 255 })] }, 2, 11, ?_, ?_, ?_, ?_⟩ <;> decide +kernel,
   by refine ⟨{ linkSl := [(11, { st := .transit })], links := [(11, { reqPool := 255 })], hubCount := 60000000 }, 11, ?_, ?_, ?_, ?_⟩ <;> decide +kernel,
   ⟨{}, 2, 11, by decide +kernel⟩,
   by refine ⟨{ memSl := [(63, { st := .transit, scrub := true })] }, 63, ?_, ?_, ?_, ?_⟩ <;> decide +kernel,
   by refine ⟨{ memSl := [(63, { st := .transit, init := true })] }, 63, ?_, ?_⟩ <;> decide +kernel,
   by refine ⟨{ memSl := [(0, { st := .owned, moveTo := some 63, serve := some 0 }), (63, { st := .transit, moveFrom := some 0 })] }, 0, 63, ?_, ?_, ?_, ?_⟩ <;> decide +kernel⟩

/-- What ProtectionPeersAndQueries assumes is met. -/
theorem test_wit_ProtectionPeersAndQueries :
  (∃ (s : State) (s2 : State) (q : Nat) (x : Queue) (c : Cmd) (b : Bytes) (op : Nat), TakenBlock s q 0x36 x c s2 b ∧ op = fieldLe b 0 1 ∧ (((op = 1 ∧ fieldLe b 1 1 = 2) ∨ (op = 2 ∧ fieldLe b 1 1 = 5))) ∧ (List.range (fieldLe b 1 1)).any (fun i => decide (2 ^ 22 ≤ fieldLe b (8 + 8 * i) 8)) = false ∧ s2.setBad op (setMembers b (fieldLe b 1 1)) = none) ∧
  (∃ (s : State) (s2 : State) (q : Nat) (x : Queue) (c : Cmd) (b : Bytes) (op : Nat), TakenBlock s q 0x36 x c s2 b ∧ op = fieldLe b 0 1 ∧ (((op = 1 ∧ fieldLe b 1 1 = 2) ∨ (op = 2 ∧ fieldLe b 1 1 = 5))) ∧ (List.range (fieldLe b 1 1)).any (fun i => decide (2 ^ 22 ≤ fieldLe b (8 + 8 * i) 8)) = false ∧ s2.setBad op (setMembers b (fieldLe b 1 1)) = none) ∧
  (∃ (s : State) (s2 : State) (q : Nat) (x : Queue) (c : Cmd) (b : Bytes) (p : ProtSet), TakenBlock s q 0x36 x c s2 b ∧ fieldLe b 0 1 = 0 ∧ ((fieldLe b 1 1 = 2 ∨ fieldLe b 1 1 = 5)) ∧ (List.range (fieldLe b 1 1)).any (fun i => decide (2 ^ 22 ≤ fieldLe b (8 + 8 * i) 8)) = false ∧ s2.prots.find? (fun z => z.members == setMembers b (fieldLe b 1 1)) = some p) ∧
  (∃ (s : State) (n : Nat) (p : ProtSet), s.wholeSet n 2 = some p) ∧
  (∃ (s : State) (n : Nat) (p : ProtSet), s.wholeSet n 5 = some p) ∧
  (∃ (p : ProtSet) (a n : Nat), p.members = [(0, a), (0, n)] ∧ a ≠ n) ∧
  (∃ (s : State) (n : Nat) (p : ProtSet), s.setOf n = some p ∧ p.lost ≠ [] ∧ p.lost.contains n = false) ∧
  (∃ (s : State) (i : Nat), i ≤ 14 ∧ s.peerValid i = true ∧ s.peerGone i = false) ∧
  (∃ (s : State) (i : Nat) (f : Nat) (h : Nat), tget i s.peerLost = some h ∧ s.hubCount < h + s.drainLim f) ∧
  (∃ (s : State) (i : Nat) (f : Nat) (h : Nat), tget i s.peerLost = some h ∧ h + s.drainLim f ≤ s.hubCount ∧ s.reqs = [] ∧ (s.folio f).guest = false) ∧
  (∃ (s : State) (s1 : State) (q : Nat) (x : Queue) (c : Cmd), Taken s q 0x37 x c s1 ∧ c.arg 0x28 1 ≤ 14 ∧ c.arg 0x30 8 < 2 ^ 32 ∧ bits (c.arg 0x30 8) 28 3 = 0 ∧ (maskBits (bits (c.arg 0x30 8) 16 12 ||| s1.peerLinks (c.arg 0x28 1)) 12).any (fun l => ((s1.linkSlice l).st == .owned && (s1.linkSlice l).owner != 0) || (s1.linkSlice l).shared.any (fun f => f != 0)) = false ∧ s1.peerBusy (c.arg 0x28 1) = false) ∧
  (∃ (s : State) (s1 : State) (q : Nat) (x : Queue) (c : Cmd), Taken s q 0x38 x c s1 ∧ c.arg 0x28 1 ≤ 11 ∧ (s1.linkSlice (c.arg 0x28 1)).st = .owned ∧ (s1.linkSlice (c.arg 0x28 1)).owner = 0 ∧ (maskBits (c.arg 0x30 8) 64).any s1.isConf = false) ∧
  (∃ (s : State) (s1 : State) (s2 : State) (q : Nat) (x : Queue) (c : Cmd), Taken s q 0x39 x c s1 ∧ c.arg 0x28 1 ≤ 63 ∧ s1.hubWrite x.ctx (c.arg 0x30 8) (s1.folioRecord (c.arg 0x28 1)) = (true, s2)) ∧
  (∃ (s : State) (s1 : State) (q : Nat) (x : Queue) (c : Cmd) (e : EvRing), Taken s q 0x3A x c s1 ∧ 0 < c.arg 0x28 1 ∧ c.arg 0x28 1 ≤ 63 ∧ (s1.folio (c.arg 0x28 1)).valid = true ∧ 0 < c.arg 0x2A 2 ∧ c.arg 0x2A 2 ≤ 1023 ∧ tget (c.arg 0x2A 2) s1.evrings = some e ∧ e.folio = c.arg 0x28 1) :=
  ⟨by refine ⟨{ wPart (wQue (wCmd 0x36 [(0x28, 8, wHost)])) (wBlk 64 [(0x0, 1, 0x1), (0x1, 1, 0x2), (0x8, 8, 0x0), (0x10, 8, 0x10000)]) with memSl := [(0, { st := .owned, serve := some 0 }), (1, { st := .owned, serve := some 1 }), (2, { st := .owned, serve := some 2 }), (3, { st := .owned, serve := some 3 }), (4, { st := .owned, serve := some 4 })] }, { wPart (wQue (wCmd 0x36 [(0x28, 8, wHost)])) (wBlk 64 [(0x0, 1, 0x1), (0x1, 1, 0x2), (0x8, 8, 0x0), (0x10, 8, 0x10000)]) with memSl := [(0, { st := .owned, serve := some 0 }), (1, { st := .owned, serve := some 1 }), (2, { st := .owned, serve := some 2 }), (3, { st := .owned, serve := some 3 }), (4, { st := .owned, serve := some 4 })] }, 1, (wQue (wCmd 0x36 [(0x28, 8, wHost)])), (wCmd 0x36 [(0x28, 8, wHost)]), (wBlk 64 [(0x0, 1, 0x1), (0x1, 1, 0x2), (0x8, 8, 0x0), (0x10, 8, 0x10000)]), 1, ⟨?_, ?_⟩, ?_, ?_, ?_, ?_⟩ <;> decide +kernel,
   by refine ⟨{ wPart (wQue (wCmd 0x36 [(0x28, 8, wHost)])) (wBlk 64 [(0x0, 1, 0x2), (0x1, 1, 0x5), (0x8, 8, 0x0), (0x10, 8, 0x10000), (0x18, 8, 0x20000), (0x20, 8, 0x30000), (0x28, 8, 0x40000)]) with memSl := [(0, { st := .owned, serve := some 0 }), (1, { st := .owned, serve := some 1 }), (2, { st := .owned, serve := some 2 }), (3, { st := .owned, serve := some 3 }), (4, { st := .owned, serve := some 4 })] }, { wPart (wQue (wCmd 0x36 [(0x28, 8, wHost)])) (wBlk 64 [(0x0, 1, 0x2), (0x1, 1, 0x5), (0x8, 8, 0x0), (0x10, 8, 0x10000), (0x18, 8, 0x20000), (0x20, 8, 0x30000), (0x28, 8, 0x40000)]) with memSl := [(0, { st := .owned, serve := some 0 }), (1, { st := .owned, serve := some 1 }), (2, { st := .owned, serve := some 2 }), (3, { st := .owned, serve := some 3 }), (4, { st := .owned, serve := some 4 })] }, 1, (wQue (wCmd 0x36 [(0x28, 8, wHost)])), (wCmd 0x36 [(0x28, 8, wHost)]), (wBlk 64 [(0x0, 1, 0x2), (0x1, 1, 0x5), (0x8, 8, 0x0), (0x10, 8, 0x10000), (0x18, 8, 0x20000), (0x20, 8, 0x30000), (0x28, 8, 0x40000)]), 2, ⟨?_, ?_⟩, ?_, ?_, ?_, ?_⟩ <;> decide +kernel,
   by refine ⟨{ wPart (wQue (wCmd 0x36 [(0x28, 8, wHost)])) (wBlk 64 [(0x1, 1, 0x2), (0x8, 8, 0x0), (0x10, 8, 0x10000)]) with memSl := [(0, { st := .owned, serve := some 0 }), (1, { st := .owned, serve := some 1 }), (2, { st := .owned, serve := some 2 }), (3, { st := .owned, serve := some 3 }), (4, { st := .owned, serve := some 4 })], prots := [{ members := [(0, 0), (0, 1)] }] }, { wPart (wQue (wCmd 0x36 [(0x28, 8, wHost)])) (wBlk 64 [(0x1, 1, 0x2), (0x8, 8, 0x0), (0x10, 8, 0x10000)]) with memSl := [(0, { st := .owned, serve := some 0 }), (1, { st := .owned, serve := some 1 }), (2, { st := .owned, serve := some 2 }), (3, { st := .owned, serve := some 3 }), (4, { st := .owned, serve := some 4 })], prots := [{ members := [(0, 0), (0, 1)] }] }, 1, (wQue (wCmd 0x36 [(0x28, 8, wHost)])), (wCmd 0x36 [(0x28, 8, wHost)]), (wBlk 64 [(0x1, 1, 0x2), (0x8, 8, 0x0), (0x10, 8, 0x10000)]), { members := [(0, 0), (0, 1)] }, ⟨?_, ?_⟩, ?_, ?_, ?_, ?_⟩ <;> decide +kernel,
   ⟨{ prots := [{ members := [(0, 0), (0, 1)] }] }, 1, { members := [(0, 0), (0, 1)] }, by decide +kernel⟩,
   ⟨{ prots := [{ members := [(0, 0), (0, 1), (0, 2), (0, 3), (0, 4)] }] }, 4, { members := [(0, 0), (0, 1), (0, 2), (0, 3), (0, 4)] }, by decide +kernel⟩,
   by refine ⟨{ members := [(0, 0), (0, 1)] }, 0, 1, ?_, ?_⟩ <;> decide +kernel,
   by refine ⟨{ prots := [{ members := [(0, 0), (0, 1)], lost := [0] }] }, 1, { members := [(0, 0), (0, 1)], lost := [0] }, ?_, ?_, ?_⟩ <;> decide +kernel,
   by refine ⟨(({} : State).setFld (rPeer 14) 31 1 1), 14, ?_, ?_, ?_⟩ <;> decide +kernel,
   by refine ⟨{ peerLost := [(14, 0)] }, 14, 63, 0, ?_, ?_⟩ <;> decide +kernel,
   by refine ⟨{ peerLost := [(14, 0)], hubCount := 60000000 }, 14, 63, 0, ?_, ?_, ?_, ?_⟩ <;> decide +kernel,
   by refine ⟨(wPart (wQue (wCmd 0x37 [(0x28, 1, 0xE), (0x30, 8, 0x8FFF0002)]))), (wPart (wQue (wCmd 0x37 [(0x28, 1, 0xE), (0x30, 8, 0x8FFF0002)]))), 1, (wQue (wCmd 0x37 [(0x28, 1, 0xE), (0x30, 8, 0x8FFF0002)])), (wCmd 0x37 [(0x28, 1, 0xE), (0x30, 8, 0x8FFF0002)]), ⟨?_, ?_⟩, ?_, ?_, ?_, ?_, ?_⟩ <;> decide +kernel,
   by refine ⟨{ wPart (wQue (wCmd 0x38 [(0x28, 1, 0xB), (0x30, 8, 0x6)])) with linkSl := [(11, { st := .owned })] }, { wPart (wQue (wCmd 0x38 [(0x28, 1, 0xB), (0x30, 8, 0x6)])) with linkSl := [(11, { st := .owned })] }, 1, (wQue (wCmd 0x38 [(0x28, 1, 0xB), (0x30, 8, 0x6)])), (wCmd 0x38 [(0x28, 1, 0xB), (0x30, 8, 0x6)]), ⟨?_, ?_⟩, ?_, ?_, ?_, ?_⟩ <;> decide +kernel,
   by refine ⟨(wPart (wQue (wCmd 0x39 [(0x28, 1, 0x3F), (0x30, 8, wHost)]))), (wPart (wQue (wCmd 0x39 [(0x28, 1, 0x3F), (0x30, 8, wHost)]))), (wPart (wQue (wCmd 0x39 [(0x28, 1, 0x3F), (0x30, 8, wHost)]))), 1, (wQue (wCmd 0x39 [(0x28, 1, 0x3F), (0x30, 8, wHost)])), (wCmd 0x39 [(0x28, 1, 0x3F), (0x30, 8, wHost)]), ⟨?_, ?_⟩, ?_, ?_⟩ <;> decide +kernel,
   by refine ⟨{ wPart (wQue (wCmd 0x3A [(0x28, 1, 0x1), (0x2A, 2, 0x3FF)])) with folios := [(0, { valid := true }), (1, { valid := true }), (2, { valid := true })], evrings := [(1023, { folio := 1, vector := 0, log := 4, base := wHost })] }, { wPart (wQue (wCmd 0x3A [(0x28, 1, 0x1), (0x2A, 2, 0x3FF)])) with folios := [(0, { valid := true }), (1, { valid := true }), (2, { valid := true })], evrings := [(1023, { folio := 1, vector := 0, log := 4, base := wHost })] }, 1, (wQue (wCmd 0x3A [(0x28, 1, 0x1), (0x2A, 2, 0x3FF)])), (wCmd 0x3A [(0x28, 1, 0x1), (0x2A, 2, 0x3FF)]), { folio := 1, vector := 0, log := 4, base := wHost }, ⟨?_, ?_⟩, ?_, ?_, ?_, ?_, ?_, ?_, ?_⟩ <;> decide +kernel⟩

/-- What StitchPacketsAreServed assumes is met. -/
theorem test_wit_StitchPacketsAreServed :
  (∃ (s : State) (l : Nat) (h : Bytes) (d : Bytes) (g : Nat), (s.stitch l).up = true ∧ hTy h = 1 ∧ l < 12 ∧ 0 < (s.stitch l).reqPool ∧ s.guestFor l (hFolio h) = some g) ∧
  (∃ (s : State) (l : Nat) (h : Bytes) (d : Bytes) (g : Nat), (s.stitch l).up = true ∧ hTy h = 2 ∧ l < 12 ∧ 0 < (s.stitch l).reqPool ∧ s.guestFor l (hFolio h) = some g) ∧
  (∃ (s : State) (l : Nat) (h : Bytes) (d : Bytes) (g : Nat), (s.stitch l).up = true ∧ hTy h = 3 ∧ l < 12 ∧ 0 < (s.stitch l).reqPool ∧ s.guestFor l (hFolio h) = some g) ∧
  (∃ (s : State) (l : Nat) (h : Bytes) (d : Bytes) (k : Nat) (c : Instr), (k, c) ∈ [(1, Instr.stitchRead l h d), (2, .stitchWrite l h d), (3, .stitchAtomic l h d), (4, .stitchFenceOffer l h d), (6, .stitchMirrorWrite l h d)] ∧ (s.stitch l).up = true ∧ hTy h = k ∧ l < 12 ∧ 0 < (s.stitch l).reqPool ∧ s.guestFor l (hFolio h) = none) ∧
  (∃ (s : State) (l : Nat) (h : Bytes) (d : Bytes) (g : Nat), (s.stitch l).up = true ∧ hTy h = 4 ∧ l < 12 ∧ 0 < (s.stitch l).reqPool ∧ s.guestFor l (hFolio h) = some g ∧ s.admitsFolio g (s.folio g).epoch (hAddr h) true = true) ∧
  (∃ (s : State) (l : Nat) (h : Bytes) (d : Bytes), (s.stitch l).up = true ∧ hTy h = 5 ∧ l < 12 ∧ 0 < (s.stitch l).reqPool) ∧
  (∃ (s : State) (l : Nat) (h : Bytes) (d : Bytes) (g : Nat), (s.stitch l).up = true ∧ hTy h = 6 ∧ l < 12 ∧ 0 < (s.stitch l).reqPool ∧ s.guestFor l (hFolio h) = some g ∧ (s.memSlice (hAddr h / 2 ^ 33)).st = .owned) ∧
  (∃ (s : State) (l : Nat) (h : Bytes) (d : Bytes), (s.stitch l).up = true ∧ hTy h = 8 ∧ l < 12) ∧
  (∃ (s : State) (l : Nat) (h : Bytes) (d : Bytes), (s.stitch l).up = true ∧ hTy h = 9 ∧ l < 12) ∧
  (∃ (s : State) (l : Nat) (h : Bytes) (d : Bytes), (s.stitch l).up = true ∧ hTy h = 0x0A ∧ l < 12 ∧ (s.stitch l).reqCredit < 256) ∧
  (∃ (s : State) (l : Nat) (h : Bytes) (d : Bytes), (s.stitch l).up = true ∧ l < 12 ∧ knownType (hTy h) = false) ∧
  (∃ (s : State) (l : Nat), (s.stitch l).up = true ∧ l < 12) ∧
  (∃ (s : State) (l : Nat), l < 12 ∧ s.clasp.rails = true ∧ (s.fabric (l / 6)).failed = false ∧ (s.stitch l).waiting = []) :=
  ⟨by refine ⟨(({ links := [(11, { up := true })], folios := [(2, { valid := true, guest := true, guestOf := 65537 })], memSl := [(0, { st := .owned, owner := 2, serve := some 0 })], frames := [(0, 2)] } : State).setReg (rPeer 14) 0x88000001), 11, (stitchHdr 1 0 0 0 1 1 64 5 0), (zeros 64), 2, ?_, ?_, ?_, ?_, ?_⟩ <;> decide +kernel,
   by refine ⟨(({ links := [(11, { up := true })], folios := [(2, { valid := true, guest := true, guestOf := 65537 })], memSl := [(0, { st := .owned, owner := 2, serve := some 0 })], frames := [(0, 2)] } : State).setReg (rPeer 14) 0x88000001), 11, (stitchHdr 2 0 0 0 1 1 64 5 0), (zeros 64), 2, ?_, ?_, ?_, ?_, ?_⟩ <;> decide +kernel,
   by refine ⟨(({ links := [(11, { up := true })], folios := [(2, { valid := true, guest := true, guestOf := 65537 })], memSl := [(0, { st := .owned, owner := 2, serve := some 0 })], frames := [(0, 2)] } : State).setReg (rPeer 14) 0x88000001), 11, (stitchHdr 3 0 0 0 1 1 64 5 0), (zeros 64), 2, ?_, ?_, ?_, ?_, ?_⟩ <;> decide +kernel,
   by refine ⟨{ links := [(11, { up := true })] }, 11, (stitchHdr 6 0 0 0 1 1 64 5 0), [], 6, (.stitchMirrorWrite 11 (stitchHdr 6 0 0 0 1 1 64 5 0) []), ?_, ?_, ?_, ?_, ?_, ?_⟩ <;> decide +kernel,
   by refine ⟨(({ links := [(11, { up := true })], folios := [(2, { valid := true, guest := true, guestOf := 65537 })], memSl := [(0, { st := .owned, owner := 2, serve := some 0 })], frames := [(0, 2)] } : State).setReg (rPeer 14) 0x88000001), 11, (stitchHdr 4 0 0 0 1 1 64 5 0), (zeros 64), 2, ?_, ?_, ?_, ?_, ?_, ?_⟩ <;> decide +kernel,
   by refine ⟨{ links := [(11, { up := true, reqCredit := 255 })] }, 11, (stitchHdr 5 0 0 0 1 1 64 5 0), [], ?_, ?_, ?_, ?_⟩ <;> decide +kernel,
   by refine ⟨(({ links := [(11, { up := true })], folios := [(2, { valid := true, guest := true, guestOf := 65537 })], memSl := [(0, { st := .owned, owner := 2, serve := some 0 })], frames := [(0, 2)] } : State).setReg (rPeer 14) 0x88000001), 11, (stitchHdr 6 0 0 0 1 1 64 5 0), (zeros 64), 2, ?_, ?_, ?_, ?_, ?_, ?_⟩ <;> decide +kernel,
   by refine ⟨{ links := [(11, { up := true, reqCredit := 255 })] }, 11, (stitchHdr 8 0 0 0 1 1 64 5 0), [], ?_, ?_, ?_⟩ <;> decide +kernel,
   by refine ⟨{ links := [(11, { up := true, reqCredit := 255 })] }, 11, (stitchHdr 9 0 0 0 1 1 64 5 0), [], ?_, ?_, ?_⟩ <;> decide +kernel,
   by refine ⟨{ links := [(11, { up := true, reqCredit := 255 })] }, 11, (stitchHdr 10 0 0 0 1 1 64 5 0), [], ?_, ?_, ?_, ?_⟩ <;> decide +kernel,
   by refine ⟨{ links := [(11, { up := true, reqCredit := 255 })] }, 11, (stitchHdr 7 0 0 0 1 1 64 5 0), [], ?_, ?_, ?_⟩ <;> decide +kernel,
   by refine ⟨{ links := [(11, { up := true })] }, 11, ?_, ?_⟩ <;> decide +kernel,
   by refine ⟨{ clasp := { rails := true } }, 11, ?_, ?_, ?_, ?_⟩ <;> decide +kernel⟩

/-- What DieFailuresAndUnitErrors assumes is met. -/
theorem test_wit_DieFailuresAndUnitErrors :
  (∃ (s : State) (d : Nat) (k : Nat), ((1 < d ∨ s.clasp.rails = false ∨ (s.fabric d).failed = true))) ∧
  (∃ (s : State) (d : Nat) (k : Nat), ((1 < d ∨ s.clasp.rails = false ∨ (s.fabric d).failed = true))) ∧
  (∃ (s : State) (d : Nat) (k : Nat), ((1 < d ∨ s.clasp.rails = false ∨ (s.fabric d).failed = true))) ∧
  (∃ (s : State) (d : Nat) (k : Nat), d ≤ 1 ∧ s.clasp.rails = true ∧ (s.fabric d).failed = false ∧ s.clasp.inReset = true) ∧
  (∃ (s : State) (d : Nat) (k : Nat), k < 8 ∧ d ≤ 1) ∧
  (∃ (s : State) (k : Nat), k < 16) ∧
  (∃ (s : State) (k : Nat), (k = 16 ∨ k = 17)) ∧
  (∃ (s : State) (u : Nat) (k : Nat) (w : Nat) (a : Nat), s.clasp.rails = true ∧ u ≠ 3) ∧
  (∃ (s : State) (k : Nat) (w : Nat) (a : Nat), s.clasp.rails = true) ∧
  (∃ (s : State) (u : Nat) (k : Nat) (w : Nat) (a : Nat), s.clasp.rails = true ∧ u ∈ [2, 4, 6, 7, 8]) ∧
  (∃ (s : State) (x : State) (k : Nat) (w : Nat) (a : Nat) (m : Nat) (W : Nat), s.clasp.rails = true ∧ a < 2 ^ 39 ∧ s.server (a / 2 ^ 33) = some m ∧ W = m / 4 / 8 * 2 ^ 24 + m / 4 % 8 * 2 ^ 16 + (4 * (m % 4) + a / 256 % 4) ∧ x = s.hwError (unitIsland 3 W) 3 k W a 0x3F 0xFFFF) ∧
  (∃ (s : State), s.clasp.rails = true ∧ s.booksAt + 1000000 ≤ s.hubCount ∧ s.booksOk = false) ∧
  (∃ (s : State), s.clasp.rails = true ∧ s.booksAt + 1000000 ≤ s.hubCount ∧ s.booksOk = true) ∧
  (∃ (s : State), s.hubCount < s.booksAt + 1000000) :=
  ⟨⟨{ clasp := { rails := true, inReset := false } }, 2, 0, by decide +kernel⟩,
   ⟨{}, 0, 0, by decide +kernel⟩,
   ⟨{ clasp := { rails := true }, fabrics := [(1, { failed := true })] }, 1, 0, by decide +kernel⟩,
   by refine ⟨{ clasp := { rails := true } }, 1, 16, ?_, ?_, ?_, ?_⟩ <;> decide +kernel,
   by refine ⟨{ clasp := { rails := true } }, 1, 7, ?_, ?_⟩ <;> decide +kernel,
   ⟨{}, 15, by decide +kernel⟩,
   ⟨{}, 17, by decide +kernel⟩,
   by refine ⟨{ clasp := { rails := true, inReset := false } }, 10, 0, 0, 0, ?_, ?_⟩ <;> decide +kernel,
   ⟨{ clasp := { rails := true, inReset := false } }, 0, 0, 0, by decide +kernel⟩,
   by refine ⟨{ clasp := { rails := true, inReset := false } }, 8, 0, 0, 0, ?_, ?_⟩ <;> decide +kernel,
   by refine ⟨{ clasp := { rails := true }, memSl := [(63, { st := .owned, serve := some 63 })] }, _, 0, 0, (2 ^ 39 - 1), 63, _, ?_, ?_, ?_, rfl, rfl⟩ <;> decide +kernel,
   by refine ⟨{ clasp := { rails := true }, hubCount := 1000000, ctxs := [(1, { folio := 0, resident := some 7 }), (2, { folio := 0, resident := some 7 })] }, ?_, ?_, ?_⟩ <;> decide +kernel,
   by refine ⟨{ clasp := { rails := true }, hubCount := 1000000 }, ?_, ?_, ?_⟩ <;> decide +kernel,
   ⟨{ hubCount := 999999 }, by decide +kernel⟩⟩

/-- What ResetsWatchdogsAndStandby assumes is met. -/
theorem test_wit_ResetsWatchdogsAndStandby :
  (∃ (s : State) (s1 : State) (q : Nat) (x : Queue) (c : Cmd), Taken s q 0x68 x c s1 ∧ s1.engineBad (c.arg 0x28 1) (c.arg 0x2C 4) = none) ∧
  (∃ (s : State) (s1 : State) (q : Nat) (x : Queue) (c : Cmd), Taken s q 0x68 x c s1 ∧ s1.engineBad (c.arg 0x28 1) (c.arg 0x2C 4) = none) ∧
  (∃ (s : State) (s1 : State) (q : Nat) (x : Queue) (c : Cmd), Taken s q 0x68 x c s1 ∧ s1.engineBad (c.arg 0x28 1) (c.arg 0x2C 4) = none) ∧
  (∃ (s : State) (s1 : State) (q : Nat) (x : Queue) (c : Cmd), Taken s q 0x69 x c s1 ∧ c.arg 0x28 1 ≠ 0 ∧ c.arg 0x28 1 ≤ 63 ∧ (s1.folio (c.arg 0x28 1)).valid = true) ∧
  (∃ (s : State) (s1 : State) (q : Nat) (x : Queue) (c : Cmd), Taken s q 0x69 x c s1 ∧ c.arg 0x28 1 = 0) ∧
  (∃ (s : State) (f : Nat) (reason : Nat) (q : Option Nat) (h : Nat), (s.folio f).resetting = some (reason, q, h) ∧ h + 1000000 ≤ s.hubCount ∧ reason ≠ 1) ∧
  (∃ (s : State) (f : Nat) (q : Option Nat) (h : Nat), (s.folio f).resetting = some (1, q, h) ∧ h + 1000000 ≤ s.hubCount) ∧
  (∃ (s : State) (f : Nat) (reason : Nat) (q : Option Nat) (h : Nat), (s.folio f).resetting = some (reason, q, h) ∧ s.hubCount < h + 1000000) ∧
  (∃ (s : State) (s1 : State) (q : Nat) (x : Queue) (c : Cmd), Taken s q 0x6A x c s1) ∧
  (∃ (s : State) (ctx : _) (y : Context) (a : Activation) (q : Nat), s.ctx? ctx = some y ∧ y.act = some a ∧ a.queue = some q ∧ y.rt = false ∧ s.fld rWdogCtl 0 16 ≠ 0 ∧ a.release + 1000000 * s.fld rWdogCtl 0 16 ≤ s.hubCount) ∧
  (∃ (s : State) (q : Nat) (x : Queue), s.queue? q = some x ∧ x.phase = .waiting ∧ x.waitNoted = false ∧ s.fld rWdogCtl 16 12 ≠ 0 ∧ x.started + 1000000 * s.fld rWdogCtl 16 12 ≤ s.hubCount) ∧
  (∃ (s : State) (core : Nat) (k : Nat) (x : Slot), (k, x) ∈ (s.core core).slots ∧ s.ready core k x = true ∧ (s.core core).lastRet + 1000 * s.coreUs ≤ s.hubCount) ∧
  (∃ (s : State) (id : Nat) (q : Req) (c : Nat) (k : Nat), s.req? id = some q ∧ q.status = none ∧ q.issuer = .scalar c k ∧ s.toLeaving q = false ∧ q.born + 1000000 * s.reqMs ≤ s.hubCount) ∧
  (∃ (s : State), s.clasp.rails = true ∧ s.clasp.boot = .running) ∧
  (∃ (s : State), s.clasp.aux = true) ∧
  (∃ (s : State) (step : Nat) (k : Nat) (n : Nat), s.clasp.rails = true) ∧
  (∃ (s : State) (s1 : State) (q : Nat) (x : Queue) (c : Cmd), Taken s q 0x6B x c s1 ∧ s1.residents = [] ∧ ((∀ z, z ∈ s1.queues → z.1 = 0 ∨ z.2.cmds = []))) ∧
  (∃ (s : State) (saved : _), s.standby = some saved ∧ s.woken = true) ∧
  (∃ (s : State) (saved : _), s.standby = some saved ∧ s.woken = false) :=
  ⟨by refine ⟨(wPart (wQue (wCmd 0x68 [(0x28, 1, 0x0), (0x2C, 4, 0x1070703)]))), (wPart (wQue (wCmd 0x68 [(0x28, 1, 0x0), (0x2C, 4, 0x1070703)]))), 1, (wQue (wCmd 0x68 [(0x28, 1, 0x0), (0x2C, 4, 0x1070703)])), (wCmd 0x68 [(0x28, 1, 0x0), (0x2C, 4, 0x1070703)]), ⟨?_, ?_⟩, ?_⟩ <;> decide +kernel,
   by refine ⟨(wPart (wQue (wCmd 0x68 [(0x28, 1, 0x1), (0x2C, 4, 0x7)]))), (wPart (wQue (wCmd 0x68 [(0x28, 1, 0x1), (0x2C, 4, 0x7)]))), 1, (wQue (wCmd 0x68 [(0x28, 1, 0x1), (0x2C, 4, 0x7)])), (wCmd 0x68 [(0x28, 1, 0x1), (0x2C, 4, 0x7)]), ⟨?_, ?_⟩, ?_⟩ <;> decide +kernel,
   by refine ⟨(wPart (wQue (wCmd 0x68 [(0x28, 1, 0x2), (0x2C, 4, 0x3F)]))), (wPart (wQue (wCmd 0x68 [(0x28, 1, 0x2), (0x2C, 4, 0x3F)]))), 1, (wQue (wCmd 0x68 [(0x28, 1, 0x2), (0x2C, 4, 0x3F)])), (wCmd 0x68 [(0x28, 1, 0x2), (0x2C, 4, 0x3F)]), ⟨?_, ?_⟩, ?_⟩ <;> decide +kernel,
   by refine ⟨{ wPart (wQue (wCmd 0x69 [(0x28, 1, 0x2)])) with folios := [(0, { valid := true }), (1, { valid := true }), (2, { valid := true })] }, { wPart (wQue (wCmd 0x69 [(0x28, 1, 0x2)])) with folios := [(0, { valid := true }), (1, { valid := true }), (2, { valid := true })] }, 1, (wQue (wCmd 0x69 [(0x28, 1, 0x2)])), (wCmd 0x69 [(0x28, 1, 0x2)]), ⟨?_, ?_⟩, ?_, ?_, ?_⟩ <;> decide +kernel,
   by refine ⟨(wPart (wQue (wCmd 0x69 []))), (wPart (wQue (wCmd 0x69 []))), 1, (wQue (wCmd 0x69 [])), (wCmd 0x69 []), ⟨?_, ?_⟩, ?_⟩ <;> decide +kernel,
   by refine ⟨{ folios := [(63, { resetting := some (0, none, 0) })], hubCount := 1000000 }, 63, 0, none, 0, ?_, ?_, ?_⟩ <;> decide +kernel,
   by refine ⟨{ folios := [(63, { resetting := some (1, none, 0) })], hubCount := 1000000 }, 63, none, 0, ?_, ?_⟩ <;> decide +kernel,
   by refine ⟨{ folios := [(63, { resetting := some (0, none, 0) })], hubCount := 999999 }, 63, 0, none, 0, ?_, ?_⟩ <;> decide +kernel,
   by refine ⟨(wPart (wQue (wCmd 0x6A []))), (wPart (wQue (wCmd 0x6A []))), 1, (wQue (wCmd 0x6A [])), (wCmd 0x6A []), ⟨?_, ?_⟩⟩ <;> decide +kernel,
   by refine ⟨{ ctxs := [(5, { folio := 0, act := some { queue := some 1, prog := 0, placement := 0, cores := [0], release := 0 } })], hubCount := 10000000000 }, 5, { folio := 0, act := some { queue := some 1, prog := 0, placement := 0, cores := [0], release := 0 } }, { queue := some 1, prog := 0, placement := 0, cores := [0], release := 0 }, 1, ?_, ?_, ?_, ?_, ?_, ?_⟩ <;> decide +kernel,
   by refine ⟨{ wPart (wQue (wCmd 0x0 []) .mgmt .waiting) with hubCount := 1000000000 }, 1, (wQue (wCmd 0x0 []) .mgmt .waiting), ?_, ?_, ?_, ?_, ?_⟩ <;> decide +kernel,
   by refine ⟨{ wCore wSlot with hubCount := 1000000 }, 0, 0, wSlot, ?_, ?_, ?_⟩ <;> decide +kernel,
   by refine ⟨{ wCore wSlot with reqs := [(7, { kind := .getShare, issuer := .scalar 0 0 })], hubCount := 100000000 }, 7, { kind := .getShare, issuer := .scalar 0 0 }, 0, 0, ?_, ?_, ?_, ?_, ?_⟩ <;> decide +kernel,
   by refine ⟨{ clasp := { rails := true, boot := .running } }, ?_, ?_⟩ <;> decide +kernel,
   ⟨{ clasp := { aux := true } }, by decide +kernel⟩,
   ⟨{ clasp := { rails := true } }, 0, 0, 0, by decide +kernel⟩,
   by refine ⟨{ wPart (wQue (wCmd 0x6B [])) with queues := [(0, (wQue (wCmd 0x6B [])))] }, { wPart (wQue (wCmd 0x6B [])) with queues := [(0, (wQue (wCmd 0x6B [])))] }, 0, (wQue (wCmd 0x6B [])), (wCmd 0x6B []), ⟨?_, ?_⟩, ?_, ?_⟩ <;> decide +kernel,
   by refine ⟨{ standby := some [], clasp := { wake := true } }, [], ?_, ?_⟩ <;> decide +kernel,
   by refine ⟨{ standby := some [] }, [], ?_, ?_⟩ <;> decide +kernel⟩

/-- What PowerOnAndStartUp assumes is met. -/
theorem test_wit_PowerOnAndStartUp :
  (∃ (s : State), s.clasp.aux = false) ∧
  (∃ (s : State), s.clasp.boot = .verifying ∧ s.clasp.flash = none) ∧
  (∃ (s : State) (b : Bytes), s.clasp.boot = .verifying ∧ s.clasp.flash = some b) ∧
  (∃ (s : State), s.clasp.boot = .flashing) ∧
  (∃ (s : State), s.clasp.aux = true) ∧
  (∃ (s : State) (a : Nat), s.clasp.aux = true) ∧
  (∃ (s : State) (mv : Nat), s.clasp.aux = true ∧ s.clasp.boot = .running ∧ s.clasp.pwrgood = false ∧ s.power.tripped = none ∧ 47000 < mv) ∧
  (∃ (s : State), s.clasp.pwrgood = true ∧ s.clasp.rails = false) ∧
  (∃ (s : State), s.clasp.rails = true ∧ s.clasp.hbmUp = false) ∧
  (∃ (s : State), s.clasp.rails = true ∧ s.clasp.stitchWait = true ∧ 300000000 ≤ s.hubCount) ∧
  (∃ (s : State) (ds : List Nat) (cs : List Nat) (ms : List Nat), s.clasp.rails = true ∧ s.clasp.hbmUp = true ∧ s.clasp.stitchWait = false ∧ s.clasp.inReset = true) ∧
  (∃ (s : State) (ds : List Nat) (cs : List Nat) (ms : List Nat), s.clasp.rails = true ∧ s.clasp.hbmUp = true ∧ s.clasp.stitchWait = false ∧ s.clasp.inReset = true) ∧
  (∃ (s : State) (mv : Nat), mv < 42000 ∧ s.clasp.pwrgood = true) ∧
  (∃ (s : State) (k : Nat), s.clasp.pwrgood = true) ∧
  (∃ (s : State) (i : Nat) (temp : Nat), 115 ≤ temp ∧ (s.region i).powered = true) ∧
  (∃ (s : State), s.clasp.aux = true) :=
  ⟨⟨{}, by decide +kernel⟩,
   by refine ⟨{ clasp := { boot := .verifying } }, ?_, ?_⟩ <;> decide +kernel,
   by refine ⟨{ clasp := { boot := .verifying, flash := some [] } }, [], ?_, ?_⟩ <;> decide +kernel,
   ⟨{ clasp := { boot := .flashing } }, by decide +kernel⟩,
   ⟨{ clasp := { aux := true } }, by decide +kernel⟩,
   ⟨{ clasp := { aux := true } }, 0, by decide +kernel⟩,
   by refine ⟨{ clasp := { aux := true, boot := .running } }, 47001, ?_, ?_, ?_, ?_, ?_⟩ <;> decide +kernel,
   by refine ⟨{ clasp := { pwrgood := true } }, ?_, ?_⟩ <;> decide +kernel,
   by refine ⟨{ clasp := { rails := true } }, ?_, ?_⟩ <;> decide +kernel,
   by refine ⟨{ clasp := { rails := true, stitchWait := true }, hubCount := 300000000 }, ?_, ?_, ?_⟩ <;> decide +kernel,
   by refine ⟨{ clasp := { rails := true, hbmUp := true } }, [], [], [], ?_, ?_, ?_, ?_⟩ <;> decide +kernel,
   by refine ⟨{ clasp := { rails := true, hbmUp := true } }, [], [], [], ?_, ?_, ?_, ?_⟩ <;> decide +kernel,
   by refine ⟨{ clasp := { pwrgood := true } }, 41999, ?_, ?_⟩ <;> decide +kernel,
   ⟨{ clasp := { pwrgood := true } }, 0, by decide +kernel⟩,
   by refine ⟨{ regions := [(15, { powered := true })] }, 15, 115, ?_, ?_⟩ <;> decide +kernel,
   ⟨{ clasp := { aux := true } }, by decide +kernel⟩⟩

/-- What CyclicScheduleRuns assumes is met. -/
theorem test_wit_CyclicScheduleRuns :
  (∃ (s : State) (s1 : State) (s2 : State) (q : Nat) (x : Queue) (c : Cmd) (b : Bytes), Taken s q 0x54 x c s1 ∧ 0 < c.arg 0x30 2 ∧ c.arg 0x30 2 ≤ 256 ∧ s1.hubRead 0 (c.arg 0x28 8) (16 * c.arg 0x30 2) = (some b, s2) ∧ s2.entryBad (entriesOf b) = none) ∧
  (∃ (s : State) (s1 : State) (q : Nat) (x : Queue) (c : Cmd), Taken s q 0x55 x c s1) ∧
  (∃ (s : State) (s1 : State) (q : Nat) (x : Queue) (c : Cmd), Taken s q 0x56 x c s1) ∧
  (∃ (s : State), s.clasp.rails = true ∧ s.cyclic.frameStart + 62500 ≤ s.hubCount ∧ (s.cyclic.minor + 1) % 16 ≠ 0) ∧
  (∃ (s : State) (q : Nat), s.clasp.rails = true ∧ s.cyclic.frameStart + 62500 ≤ s.hubCount ∧ s.cyclic.minor = 15 ∧ s.cyclic.enterQ = some q) ∧
  (∃ (s : State) (q : Nat), s.clasp.rails = true ∧ s.cyclic.frameStart + 62500 ≤ s.hubCount ∧ s.cyclic.minor = 15 ∧ s.cyclic.enterQ = none ∧ s.cyclic.exitQ = some q) ∧
  (∃ (s : State) (i : Nat) (e : CycEntry), s.cyclic.table[i]? = some e ∧ e.due = true ∧ s.cyclic.mode = true ∧ e.after = false ∧ e.kind = 1) ∧
  (∃ (s : State) (i : Nat) (e : CycEntry), s.cyclic.table[i]? = some e ∧ e.due = true ∧ s.cyclic.mode = true ∧ e.after = false ∧ e.kind = 2) ∧
  (∃ (s : State) (i : Nat) (e : CycEntry), s.cyclic.table[i]? = some e ∧ e.due = true ∧ s.cyclic.mode = true ∧ e.after = false ∧ e.kind = 3) ∧
  (∃ (s : State) (i : Nat) (e : CycEntry), s.cyclic.table[i]? = some e ∧ e.running = true ∧ s.budgetSpent e = true) :=
  ⟨by refine ⟨(wPart (wQue (wCmd 0x54 [(0x28, 8, wHost), (0x30, 2, 0x2)])) (wBlk 32 [(0, 1, 0), (16, 1, 15)])), (wPart (wQue (wCmd 0x54 [(0x28, 8, wHost), (0x30, 2, 0x2)])) (wBlk 32 [(0, 1, 0), (16, 1, 15)])), (wPart (wQue (wCmd 0x54 [(0x28, 8, wHost), (0x30, 2, 0x2)])) (wBlk 32 [(0, 1, 0), (16, 1, 15)])), 1, (wQue (wCmd 0x54 [(0x28, 8, wHost), (0x30, 2, 0x2)])), (wCmd 0x54 [(0x28, 8, wHost), (0x30, 2, 0x2)]), (wBlk 32 [(0, 1, 0), (16, 1, 15)]), ⟨?_, ?_⟩, ?_, ?_, ?_, ?_⟩ <;> decide +kernel,
   by refine ⟨(wPart (wQue (wCmd 0x55 []))), (wPart (wQue (wCmd 0x55 []))), 1, (wQue (wCmd 0x55 [])), (wCmd 0x55 []), ⟨?_, ?_⟩⟩ <;> decide +kernel,
   by refine ⟨(wPart (wQue (wCmd 0x56 []))), (wPart (wQue (wCmd 0x56 []))), 1, (wQue (wCmd 0x56 [])), (wCmd 0x56 []), ⟨?_, ?_⟩⟩ <;> decide +kernel,
   by refine ⟨{ clasp := { rails := true }, hubCount := 62500, cyclic := { minor := 14 } }, ?_, ?_, ?_⟩ <;> decide +kernel,
   by refine ⟨{ clasp := { rails := true }, hubCount := 62500, cyclic := { minor := 15, enterQ := some 0 } }, 0, ?_, ?_, ?_, ?_⟩ <;> decide +kernel,
   by refine ⟨{ clasp := { rails := true }, hubCount := 62500, cyclic := { minor := 15, exitQ := some 0 } }, 0, ?_, ?_, ?_, ?_, ?_⟩ <;> decide +kernel,
   by refine ⟨{ cyclic := { table := [{ bytes := wBlk 16 [(1, 1, 1)], due := true }] } }, 0, { bytes := wBlk 16 [(1, 1, 1)], due := true }, ?_, ?_, ?_, ?_, ?_⟩ <;> decide +kernel,
   by refine ⟨{ cyclic := { table := [{ bytes := wBlk 16 [(1, 1, 2)], due := true }] } }, 0, { bytes := wBlk 16 [(1, 1, 2)], due := true }, ?_, ?_, ?_, ?_, ?_⟩ <;> decide +kernel,
   by refine ⟨{ cyclic := { table := [{ bytes := wBlk 16 [(1, 1, 3)], due := true }] } }, 0, { bytes := wBlk 16 [(1, 1, 3)], due := true }, ?_, ?_, ?_, ?_, ?_⟩ <;> decide +kernel,
   by refine ⟨{ hubCount := 62000, cyclic := { table := [{ bytes := wBlk 16 [(6, 2, 62)], running := true }] } }, 0, { bytes := wBlk 16 [(6, 2, 62)], running := true }, ?_, ?_, ?_⟩ <;> decide +kernel⟩

/-- What HostLinkEvents assumes is met. -/
theorem test_wit_HostLinkEvents :
  (∃ (s : State) (w : Nat) (v : Nat) (x : Bool), s.clasp.rails = true ∧ s.link.perstN = true ∧ s.link.up = false ∧ s.clasp.hubBad = false ∧ ((w = 8 ∨ w = 16)) ∧ ((v = 4 ∨ v = 5))) ∧
  (∃ (s : State) (w : Nat) (v : Nat) (x : Bool), s.clasp.rails = true ∧ s.link.perstN = true ∧ s.link.up = false ∧ s.clasp.hubBad = false ∧ ((w = 8 ∨ w = 16)) ∧ ((v = 4 ∨ v = 5))) ∧
  (∃ (s : State) (w : Nat) (v : Nat) (x : Bool), s.clasp.rails = true ∧ s.link.perstN = true ∧ s.link.up = false ∧ s.clasp.hubBad = false ∧ ((w ≠ 8 ∧ w ≠ 16) ∨ (v ≠ 4 ∧ v ≠ 5))) ∧
  (∃ (s : State) (w : Nat) (v : Nat) (x : Bool), s.clasp.rails = true ∧ s.link.perstN = true ∧ s.link.up = false ∧ s.clasp.hubBad = false ∧ ((w ≠ 8 ∧ w ≠ 16) ∨ (v ≠ 4 ∧ v ≠ 5))) ∧
  (∃ (s : State) (w : Nat) (v : Nat) (x : Bool), s.clasp.hubBad = true) ∧
  (∃ (s : State), s.link.up = true) ∧
  (∃ (s : State) (b : Nat), s.link.up = true ∧ s.link.cxl = true) ∧
  (∃ (s : State) (h : Nat) (a : Nat) (d : Bytes), s.hdmAddr h = some a ∧ s.clasp.inReset = false ∧ s.lineIdle a = true ∧ s.hdmRefused a false = none ∧ s.heldLine (lineOf a) = none ∧ s.rawRead (lineOf a) 64 = (.ok, d)) ∧
  (∃ (s : State) (h : Nat) (a : Nat), s.hdmAddr h = some a ∧ s.clasp.inReset = false ∧ s.lineIdle a = true ∧ s.hdmRefused a false = none ∧ (s.heldLine (lineOf a)).isSome = true) ∧
  (∃ (s : State) (s1 : State) (h : Nat) (a : Nat) (r : Nat), s.hdmAddr h = some a ∧ s.clasp.inReset = false ∧ s.lineIdle a = true ∧ s.hdmRefused a false = some r ∧ s1 = s.hostRefused a r false) ∧
  (∃ (s : State) (h : Nat) (a : Nat) (o : Nat) (d : Bytes), s.hdmAddr h = some a ∧ s.clasp.inReset = false ∧ s.lineIdle a = true ∧ s.hdmRefused a true = none ∧ d.take (64 - o) ≠ []) ∧
  (∃ (s : State) (h : Nat) (a : Nat) (o : Nat) (d : Bytes) (r : Nat), s.hdmAddr h = some a ∧ s.clasp.inReset = false ∧ s.lineIdle a = true ∧ s.hdmRefused a true = some r ∧ d.take (64 - o) ≠ []) ∧
  (∃ (s : State) (f : Nat) (v : Nat), v < (if f = 0 then 256 else 32) ∧ s.link.unmasked.contains (f, v) = false) ∧
  (∃ (s : State) (f : Nat) (v : Nat), v < (if f = 0 then 256 else 32) ∧ s.link.unmasked.contains (f, v) = false) ∧
  (∃ (s : State) (f : Nat), f ≠ 0 ∧ f ≤ 63 ∧ s.link.up = true ∧ s.link.cxl = true ∧ (s.folio f).valid = true) ∧
  (∃ (s : State) (f : Nat), f ≠ 0 ∧ f ≤ 63 ∧ s.link.up = true ∧ s.link.cxl = true ∧ (s.folio f).valid = false) ∧
  (∃ (s : State), s.link.up = true ∧ s.clasp.inReset = false) :=
  ⟨by refine ⟨{ clasp := { rails := true } }, 8, 4, true, ?_, ?_, ?_, ?_, ?_, ?_⟩ <;> decide +kernel,
   by refine ⟨{ clasp := { rails := true } }, 16, 5, false, ?_, ?_, ?_, ?_, ?_, ?_⟩ <;> decide +kernel,
   by refine ⟨{ clasp := { rails := true } }, 4, 5, true, ?_, ?_, ?_, ?_, ?_⟩ <;> decide +kernel,
   by refine ⟨{ clasp := { rails := true } }, 16, 3, true, ?_, ?_, ?_, ?_, ?_⟩ <;> decide +kernel,
   ⟨{ clasp := { hubBad := true } }, 16, 5, true, by decide +kernel⟩,
   ⟨{ link := { up := true } }, by decide +kernel⟩,
   by refine ⟨{ link := { up := true, cxl := true } }, 0, ?_, ?_⟩ <;> decide +kernel,
   by refine ⟨{ memSl := [(0, { st := .owned, serve := some 0 })], frames := [(0, 0)], clasp := { inReset := false }, link := { up := true, cxl := true, hdmBase := some 64 } }, 128, 64, (zeros 64), ?_, ?_, ?_, ?_, ?_, ?_⟩ <;> decide +kernel,
   by refine ⟨{ memSl := [(0, { st := .owned, serve := some 0 })], frames := [(0, 0)], clasp := { inReset := false }, link := { up := true, cxl := true, hdmBase := some 64 }, caches := [(0, { lines := [(64, { st := .m, data := zeros 64 })] })] }, 128, 64, ?_, ?_, ?_, ?_, ?_⟩ <;> decide +kernel,
   by refine ⟨{ memSl := [(0, { st := .owned, serve := some 0 })], frames := [(0, 1)], clasp := { inReset := false }, link := { up := true, cxl := true, hdmBase := some 64 } }, _, 128, 64, 1, ?_, ?_, ?_, ?_, rfl⟩ <;> decide +kernel,
   by refine ⟨{ memSl := [(0, { st := .owned, serve := some 0 })], frames := [(0, 0)], clasp := { inReset := false }, link := { up := true, cxl := true, hdmBase := some 64 } }, 128, 64, 63, [1], ?_, ?_, ?_, ?_, ?_⟩ <;> decide +kernel,
   by refine ⟨{ memSl := [(0, { st := .owned, serve := some 0 })], frames := [(0, 1)], clasp := { inReset := false }, link := { up := true, cxl := true, hdmBase := some 64 } }, 128, 64, 63, [1], 1, ?_, ?_, ?_, ?_, ?_⟩ <;> decide +kernel,
   by refine ⟨{}, 0, 255, ?_, ?_⟩ <;> decide +kernel,
   by refine ⟨{}, 63, 31, ?_, ?_⟩ <;> decide +kernel,
   by refine ⟨{ link := { up := true, cxl := true }, folios := [(63, { valid := true })] }, 63, ?_, ?_, ?_, ?_, ?_⟩ <;> decide +kernel,
   by refine ⟨{ link := { up := true, cxl := true } }, 63, ?_, ?_, ?_, ?_, ?_⟩ <;> decide +kernel,
   by refine ⟨{ link := { up := true }, clasp := { inReset := false } }, ?_, ?_⟩ <;> decide +kernel⟩

/-- What HostAnswersAndSnoops assumes is met. -/
theorem test_wit_HostAnswersAndSnoops :
  (∃ (s : State) (id : Nat) (q : Req) (d : Bytes), s.req? id = some q ∧ q.atHost = true ∧ s.link.up = true ∧ s.link.cxl = true) ∧
  (∃ (s : State) (id : Nat) (q : Req), s.req? id = some q ∧ q.atHost = true ∧ q.sentAt + 1000000 * s.ctoMs ≤ s.hubCount) ∧
  (∃ (s : State) (id : Nat) (q : Req), s.req? id = some q ∧ s.hubCount < q.sentAt + 1000000 * s.ctoMs) ∧
  (∃ (s : State) (a : Nat), hostBase ≤ a ∧ a < 2 ^ 46 ∧ s.link.up = true ∧ s.link.cxl = true ∧ tget (lineOf a) s.hostHome.txns = none) ∧
  (∃ (s : State) (a : Nat), hostBase ≤ a ∧ a < 2 ^ 46 ∧ s.link.up = true ∧ s.link.cxl = true ∧ tget (lineOf a) s.hostHome.txns = none) ∧
  (∃ (s : State) (a : Nat), hostBase ≤ a ∧ a < 2 ^ 46 ∧ s.link.up = true ∧ s.link.cxl = true ∧ tget (lineOf a) s.hostHome.txns = none ∧ tget (lineOf a) s.hostHome.dir = none) ∧
  (∃ (s : State) (a : Nat), hostBase ≤ a ∧ a < 2 ^ 46 ∧ s.link.up = true ∧ s.link.cxl = true ∧ tget (lineOf a) s.hostHome.txns = none ∧ tget (lineOf a) s.hostHome.dir = none) ∧
  (∃ (s : State) (f : Nat) (a : Nat) (n : Nat), s.link.up = true) ∧
  (∃ (s : State) (f : Nat) (a : Nat) (n : Nat), s.link.up = true ∧ s.reqs = [] ∧ s.link.atsWait = []) ∧
  (∃ (s : State) (a : Nat) (v : Word), hostBase ≤ a ∧ s.hubWatch.any (fun e => lineOf e.pa == lineOf a) = true) :=
  ⟨by refine ⟨{ reqs := [(7, { kind := .getShare, issuer := .scalar 0 0, pa := wHost, len := 64, sent := true })], link := { up := true, cxl := true }, hubCount := 1000000000 }, 7, { kind := .getShare, issuer := .scalar 0 0, pa := wHost, len := 64, sent := true }, [], ?_, ?_, ?_, ?_⟩ <;> decide +kernel,
   by refine ⟨{ reqs := [(7, { kind := .getShare, issuer := .scalar 0 0, pa := wHost, len := 64, sent := true })], link := { up := true, cxl := true }, hubCount := 1000000000 }, 7, { kind := .getShare, issuer := .scalar 0 0, pa := wHost, len := 64, sent := true }, ?_, ?_, ?_⟩ <;> decide +kernel,
   by refine ⟨{ reqs := [(7, { kind := .getShare, issuer := .scalar 0 0, pa := wHost, len := 64, sent := true })] }, 7, { kind := .getShare, issuer := .scalar 0 0, pa := wHost, len := 64, sent := true }, ?_, ?_⟩ <;> decide +kernel,
   by refine ⟨{ reqs := [(7, { kind := .getShare, issuer := .scalar 0 0, pa := wHost, len := 64, sent := true })], link := { up := true, cxl := true }, hubCount := 1000000000 }, (2 ^ 46 - 1), ?_, ?_, ?_, ?_, ?_⟩ <;> decide +kernel,
   by refine ⟨{ reqs := [(7, { kind := .getShare, issuer := .scalar 0 0, pa := wHost, len := 64, sent := true })], link := { up := true, cxl := true }, hubCount := 1000000000 }, wHost, ?_, ?_, ?_, ?_, ?_⟩ <;> decide +kernel,
   by refine ⟨{ reqs := [(7, { kind := .getShare, issuer := .scalar 0 0, pa := wHost, len := 64, sent := true })], link := { up := true, cxl := true }, hubCount := 1000000000 }, (2 ^ 46 - 1), ?_, ?_, ?_, ?_, ?_, ?_⟩ <;> decide +kernel,
   by refine ⟨{ reqs := [(7, { kind := .getShare, issuer := .scalar 0 0, pa := wHost, len := 64, sent := true })], link := { up := true, cxl := true }, hubCount := 1000000000 }, wHost, ?_, ?_, ?_, ?_, ?_, ?_⟩ <;> decide +kernel,
   ⟨{ link := { up := true } }, 0, 0, 4096, by decide +kernel⟩,
   by refine ⟨{ link := { up := true } }, 0, 0, 4096, ?_, ?_, ?_⟩ <;> decide +kernel,
   by refine ⟨{ hubWatch := [{ pa := wHost + 60, target := 0, who := .command 1, folio := 0 }] }, wHost, 0, ?_, ?_⟩ <;> decide +kernel⟩

/-- What MailboxAnswers assumes is met. -/
theorem test_wit_MailboxAnswers :
  (∃ (s : State) (c : Instr), c ∈ [Instr.doeDiscovery 0, .doeDiscovery 1, .doeDiscovery 2, .doeDiscovery 3] ∧ s.link.up = true ∧ s.link.retry = false) ∧
  (∃ (s : State), s.link.up = true ∧ s.link.retry = false) ∧
  (∃ (s : State) (r : Bytes) (c : Instr), c ∈ [Instr.getVersion r, .getCapabilities r, .negotiateAlgorithms r] ∧ s.link.up = true ∧ s.link.retry = false) ∧
  (∃ (s : State), s.link.up = true ∧ s.link.retry = false) ∧
  (∃ (s : State), s.link.up = true ∧ s.link.retry = false) ∧
  (∃ (s : State) (r : Bytes) (c : Instr), c ∈ [Instr.getVersion r, .getCapabilities r, .negotiateAlgorithms r, .getDigests r, .getCertificate r, .challenge r, .getMeasurements r, .spdmUnsupported r, .cdatAccess 0, .doeDiscovery 0] ∧ ((s.link.up = false ∨ s.link.retry = true))) :=
  ⟨by refine ⟨{ link := { up := true, retry := false } }, (.doeDiscovery 3), ?_, ?_, ?_⟩ <;> decide +kernel,
   by refine ⟨{ link := { up := true, retry := false } }, ?_, ?_⟩ <;> decide +kernel,
   by refine ⟨{ link := { up := true, retry := false } }, [], (.negotiateAlgorithms []), ?_, ?_, ?_⟩ <;> decide +kernel,
   by refine ⟨{ link := { up := true, retry := false } }, ?_, ?_⟩ <;> decide +kernel,
   by refine ⟨{ link := { up := true, retry := false } }, ?_, ?_⟩ <;> decide +kernel,
   by refine ⟨{}, [], (.spdmUnsupported []), ?_, ?_⟩ <;> decide +kernel⟩

/-- What KeysAndAttestation assumes is met. -/
theorem test_wit_KeysAndAttestation :
  (∃ (s : State) (s1 : State) (s2 : State) (q : Nat) (x : Queue) (c : Cmd) (b : Bytes), Taken s q 0x60 x c s1 ∧ s1.confArg (c.arg 0x28 1) = none ∧ c.arg 0x29 1 ≤ 3 ∧ c.arg 0x30 8 ≠ 0 ∧ s1.hubRead 0 (c.arg 0x30 8) 2592 = (some b, s2)) ∧
  (∃ (s : State) (s1 : State) (q : Nat) (x : Queue) (c : Cmd), Taken s q 0x60 x c s1 ∧ s1.confArg (c.arg 0x28 1) = none ∧ c.arg 0x29 1 ≤ 3 ∧ c.arg 0x30 8 = 0) ∧
  (∃ (s : State) (s1 : State) (q : Nat) (x : Queue) (c : Cmd), Taken s q 0x61 x c s1 ∧ s1.confArg (c.arg 0x28 1) = none ∧ (s1.folio (c.arg 0x28 1)).prevKeys = false) ∧
  (∃ (s : State) (s1 : State) (q : Nat) (x : Queue) (c : Cmd), Taken s q 0x61 x c s1 ∧ s1.confArg (c.arg 0x28 1) = none ∧ (s1.folio (c.arg 0x28 1)).prevKeys = true) ∧
  (∃ (s : State) (f : Nat) (q : Nat), (s.folio f).rotQueue = some q ∧ s.oldInflight f = 0) ∧
  (∃ (s : State) (f : Nat) (q : Nat), (s.folio f).rotQueue = some q ∧ s.oldInflight f ≠ 0) ∧
  (∃ (s s1 s2 s3 : State) (q : Nat) (x : Queue) (c : Cmd) (n : Bytes), Taken s q 0x62 x c s1 ∧ x.type = .mgmt ∧ s1.folioBad (c.arg 0x28 1) 0x28 = none ∧ c.arg 0x38 8 ≠ 0 ∧ c.index.isSome = true ∧ s1.hubRead x.ctx (c.arg 0x30 8) 32 = (some n, s2) ∧ s2.hubWrite x.ctx (c.arg 0x38 8) (s2.attestReport (c.arg 0x28 1) n) = (true, s3)) :=
  ⟨by refine ⟨{ wPart (wQue (wCmd 0x60 [(0x28, 1, 0x3F), (0x29, 1, 0x3), (0x30, 8, wHost)])) with folios := [(0, { valid := true }), (63, { valid := true, conf := true })] }, { wPart (wQue (wCmd 0x60 [(0x28, 1, 0x3F), (0x29, 1, 0x3), (0x30, 8, wHost)])) with folios := [(0, { valid := true }), (63, { valid := true, conf := true })] }, { wPart (wQue (wCmd 0x60 [(0x28, 1, 0x3F), (0x29, 1, 0x3), (0x30, 8, wHost)])) with folios := [(0, { valid := true }), (63, { valid := true, conf := true })] }, 1, (wQue (wCmd 0x60 [(0x28, 1, 0x3F), (0x29, 1, 0x3), (0x30, 8, wHost)])), (wCmd 0x60 [(0x28, 1, 0x3F), (0x29, 1, 0x3), (0x30, 8, wHost)]), (zeros 2592), ⟨?_, ?_⟩, ?_, ?_, ?_, ?_⟩ <;> decide +kernel,
   by refine ⟨{ wPart (wQue (wCmd 0x60 [(0x28, 1, 0x3F), (0x29, 1, 0x3)])) with folios := [(0, { valid := true }), (63, { valid := true, conf := true })] }, { wPart (wQue (wCmd 0x60 [(0x28, 1, 0x3F), (0x29, 1, 0x3)])) with folios := [(0, { valid := true }), (63, { valid := true, conf := true })] }, 1, (wQue (wCmd 0x60 [(0x28, 1, 0x3F), (0x29, 1, 0x3)])), (wCmd 0x60 [(0x28, 1, 0x3F), (0x29, 1, 0x3)]), ⟨?_, ?_⟩, ?_, ?_, ?_⟩ <;> decide +kernel,
   by refine ⟨{ wPart (wQue (wCmd 0x61 [(0x28, 1, 0x3F)])) with folios := [(0, { valid := true }), (63, { valid := true, conf := true })] }, { wPart (wQue (wCmd 0x61 [(0x28, 1, 0x3F)])) with folios := [(0, { valid := true }), (63, { valid := true, conf := true })] }, 1, (wQue (wCmd 0x61 [(0x28, 1, 0x3F)])), (wCmd 0x61 [(0x28, 1, 0x3F)]), ⟨?_, ?_⟩, ?_, ?_⟩ <;> decide +kernel,
   by refine ⟨{ wPart (wQue (wCmd 0x61 [(0x28, 1, 0x3F)])) with folios := [(0, { valid := true }), (63, { valid := true, conf := true, prevKeys := true })] }, { wPart (wQue (wCmd 0x61 [(0x28, 1, 0x3F)])) with folios := [(0, { valid := true }), (63, { valid := true, conf := true, prevKeys := true })] }, 1, (wQue (wCmd 0x61 [(0x28, 1, 0x3F)])), (wCmd 0x61 [(0x28, 1, 0x3F)]), ⟨?_, ?_⟩, ?_, ?_⟩ <;> decide +kernel,
   by refine ⟨{ folios := [(63, { rotQueue := some 1 })] }, 63, 1, ?_, ?_⟩ <;> decide +kernel,
   by refine ⟨{ folios := [(63, { rotQueue := some 1 })], reqs := [(7, { kind := .getShare, issuer := .hub 0, folio := 63, oldKey := true })] }, 63, 1, ?_, ?_⟩ <;> decide +kernel,
   wAttest⟩

/-- What UrgencyAndSpine assumes is met. -/
theorem test_wit_UrgencyAndSpine :
  (∃ (s : State) (m : Nat) (fill : Nat), s.isMaster m = true) ∧
  (∃ (s : State) (m : Nat) (fill : Nat), s.isMaster m = true) ∧
  (∃ (s : State) (m : Nat) (fill : Nat), s.isMaster m = true) ∧
  (∃ (thr : Nat × Nat × Nat) (level fill : Nat), fill < thr.2.1 ∧ level < 2 ∧ thr.1 ≤ fill) ∧
  (∃ (thr : Nat × Nat × Nat) (level fill : Nat), fill < thr.1 ∧ fill < thr.2.1 ∧ level = 0) ∧
  (∃ (s : State) (m : Nat) (fill : Nat), s.isMaster m = true ∧ s.urgLevel m ≠ 2 ∧ urgNext (s.urgThr m) (s.urgLevel m) (s.urgFill m fill) = 2) ∧
  (∃ (s : State) (m : Nat) (fill : Nat), s.isMaster m = true ∧ s.urgLevel m ≠ 2 ∧ urgNext (s.urgThr m) (s.urgLevel m) (s.urgFill m fill) = 2) ∧
  (∃ (s : State) (m : Nat) (k : Nat) (a : Nat) (o : Nat) (since : Nat), tget m s.urgSince = some since ∧ s.urgLevel m = 2 ∧ since + 100000 ≤ s.hubCount ∧ s.urgNoted.contains m = false) ∧
  (∃ (s : State) (d : Nat) (w : BitVec 32), d ≤ 1 ∧ s.clasp.rails = true) ∧
  (∃ (s : State) (d : Nat) (l : Nat), d ≤ 1 ∧ l ≤ 2 ∧ (s.lane l).up = true ∧ s.spineOn = true) ∧
  (∃ (s : State) (l : Nat), l ≤ 2 ∧ (s.lane l).up = true ∧ s.spineOn = true) ∧
  (∃ (s : State) (l : Nat), l ≤ 2 ∧ (s.lane l).up = false ∧ s.spineOn = true) ∧
  (∃ (s : State) (l : Nat), l ≤ 2 ∧ (s.lane l).up = false ∧ s.spineOn = true ∧ (s.lane l).fails < 2) ∧
  (∃ (s : State) (l : Nat), l ≤ 2 ∧ (s.lane l).up = false ∧ s.spineOn = true ∧ 2 ≤ (s.lane l).fails) :=
  ⟨⟨{}, 0, 16, by decide +kernel⟩,
   ⟨{}, 13, 16, by decide +kernel⟩,
   ⟨{ chans := [(64, { stream := some 29 })] }, 29, 16, by decide +kernel⟩,
   ⟨(4, 8, 2), 1, 7, by decide⟩,
   ⟨(4, 8, 2), 0, 3, by decide⟩,
   by refine ⟨{}, 0, 16, ?_, ?_, ?_⟩ <;> decide +kernel,
   by refine ⟨{ links := [(11, { reqPool := 0 })] }, 13, 0, ?_, ?_, ?_⟩ <;> decide +kernel,
   by refine ⟨{ urgSince := [(29, 0)], urgency := [(29, 2)], hubCount := 100000 }, 29, 0, 0, 0, 0, ?_, ?_, ?_, ?_⟩ <;> decide +kernel,
   by refine ⟨{ clasp := { rails := true } }, 1, 0, ?_, ?_⟩ <;> decide +kernel,
   by refine ⟨{ fabrics := [(0, { running := true }), (1, { running := true })], spine := [(2, { up := true, replays := 16, fails := 0 })] }, 1, 2, ?_, ?_, ?_, ?_⟩ <;> decide +kernel,
   by refine ⟨{ fabrics := [(0, { running := true }), (1, { running := true })], spine := [(2, { up := true, replays := 16, fails := 0 })] }, 2, ?_, ?_, ?_⟩ <;> decide +kernel,
   by refine ⟨{ fabrics := [(0, { running := true }), (1, { running := true })], spine := [(2, { up := false, replays := 16, fails := 0 })] }, 2, ?_, ?_, ?_⟩ <;> decide +kernel,
   by refine ⟨{ fabrics := [(0, { running := true }), (1, { running := true })], spine := [(2, { up := false, replays := 16, fails := 1 })] }, 2, ?_, ?_, ?_, ?_⟩ <;> decide +kernel,
   by refine ⟨{ fabrics := [(0, { running := true }), (1, { running := true })], spine := [(2, { up := false, replays := 16, fails := 2 })] }, 2, ?_, ?_, ?_, ?_⟩ <;> decide +kernel⟩

/-- What CorrelationSamplesAreTaken assumes is met. -/
theorem test_wit_CorrelationSamplesAreTaken :
  (∃ (s : State) (i : Nat) (d : Nat × Nat), s.corrDue.find? (fun d => d.2 == i) = some d ∧ bit (s.reg rCorrCtl) 0 = true ∧ bit (s.reg rCorrCtl) 14 = true) ∧
  (∃ (s : State) (i : Nat) (d : Nat × Nat), s.corrDue.find? (fun d => d.2 == i) = some d ∧ (bit (s.reg rCorrCtl) 0 = false ∨ bit (s.reg rCorrCtl) 14 = false)) ∧
  (∃ (s : State) (i : Nat) (d : Nat × Nat), s.corrDue.find? (fun d => d.2 == i) = some d ∧ (bit (s.reg rCorrCtl) 0 = false ∨ bit (s.reg rCorrCtl) 14 = false)) ∧
  (∃ (s : State), s.clasp.rails = true ∧ bit (s.reg rCorrCtl) 0 = true ∧ s.corrFrom + 100000 * s.corrPeriod ≤ s.hubCount) ∧
  (∃ (s : State), s.clasp.rails = true) ∧
  (∃ i : Nat, i ≠ 18) ∧
  (∃ s : State, s.fld rCorrBase 12 34 = 0 ∧ s.folios = []) ∧
  (∃ (s : State) (w : Word), s.clasp.rails = true) ∧
  (∃ (s : State), s.clasp.rails = true ∧ s.foreAt + 10000000 ≤ s.hubCount) :=
  ⟨by refine ⟨(({ clasp := { rails := true }, hubCount := 100000000, corrDue := [(9, 15)] } : State).setReg rCorrCtl 0x4001), 15, (9, 15), ?_, ?_, ?_⟩ <;> decide +kernel,
   by refine ⟨(({ clasp := { rails := true }, hubCount := 100000000, corrDue := [(9, 15)] } : State).setReg rCorrCtl 0x4000), 15, (9, 15), ?_, ?_⟩ <;> decide +kernel,
   by refine ⟨(({ clasp := { rails := true }, hubCount := 100000000, corrDue := [(9, 15)] } : State).setReg rCorrCtl 1), 15, (9, 15), ?_, ?_⟩ <;> decide +kernel,
   by refine ⟨(({ clasp := { rails := true }, hubCount := 100000000, corrDue := [(9, 15)] } : State).setReg rCorrCtl 0x3E81), ?_, ?_, ?_⟩ <;> decide +kernel,
   ⟨{ clasp := { rails := true } }, by decide +kernel⟩,
   ⟨17, by decide⟩,
   ⟨{}, by decide +kernel, rfl⟩,
   ⟨{ clasp := { rails := true } }, 0, by decide +kernel⟩,
   by refine ⟨{ clasp := { rails := true }, hubCount := 10000000 }, ?_, ?_⟩ <;> decide +kernel⟩

/-- What RegistersAreReadAndWritten assumes is met. -/
theorem test_wit_RegistersAreReadAndWritten :
  (∃ (s : State) (off : Nat) (z : Nat) (c : Nat), s.clasp.rails = true ∧ off < 0x4000000 ∧ s.slotAt off = some c ∧ badAccess c off z true = false ∧ s.dark (regIsland c) = false) ∧
  (∃ (s : State) (off : Nat) (z : Nat) (c : Nat), s.clasp.rails = true ∧ off < 0x4000000 ∧ s.slotAt off = some c ∧ badAccess c off z true = false ∧ s.dark (regIsland c) = false) ∧
  (∃ (s : State) (off : Nat) (z : Nat), s.slotAt off = none) ∧
  (∃ (s : State) (off : Nat) (z : Nat) (c : Nat), s.clasp.rails = true ∧ off < 0x4000000 ∧ s.slotAt off = some c ∧ badAccess c off z true = true) ∧
  (∃ (s : State) (off : Nat) (z : Nat) (c : Nat), s.clasp.rails = true ∧ off < 0x4000000 ∧ s.slotAt off = some c ∧ badAccess c off z true = false ∧ s.dark (regIsland c) = true) ∧
  (∃ (s : State) (off : Nat) (z : Nat) (c : Nat), s.clasp.rails = true ∧ off < 0x4000000 ∧ s.slotAt off = some c ∧ coreSlot c = none ∧ badAccess c off z false = false ∧ s.dark (regIsland c) = false) ∧
  (∃ (s : State) (off : Nat) (z : Nat), s.clasp.rails = true ∧ off < 0x4000000 ∧ s.slotAt off = none) ∧
  (∃ (s : State) (off : Nat) (z : Nat) (c : Nat), s.clasp.rails = true ∧ off < 0x4000000 ∧ s.slotAt off = some c ∧ badAccess c off z false = false ∧ s.dark (regIsland c) = true) ∧
  (∃ (s : State) (off : Nat) (z : Nat) (c : Nat), s.clasp.rails = true ∧ off < 0x4000000 ∧ s.slotAt off = some c ∧ badAccess c off z false = false ∧ s.dark (regIsland c) = false) ∧
  (∃ (s : State) (off : Nat) (z : Nat) (c : Nat), s.clasp.rails = true ∧ off < 0x4000000 ∧ s.slotAt off = some c ∧ badAccess c off z true = false ∧ s.dark (regIsland c) = false) ∧
  (∃ (s : State) (k : Nat), k ≤ 575 ∧ s.clasp.rails = true ∧ s.slotAt (rDbgData k) = some (rDbgData k) ∧ coreSlot (rDbgData k) = some k ∧ s.dark (regIsland (rDbgData k)) = false) ∧
  (∃ (s : State) (h : Nat), h ≤ 63 ∧ s.clasp.rails = true) ∧
  (∃ (s : State) (h : Nat), h ≤ 63 ∧ s.clasp.rails = true) ∧
  (∃ (s : State), s.clasp.rails = true) :=
  ⟨by refine ⟨{ clasp := { rails := true } }, rPwrLimit, 8, rPwrLimit, ?_, ?_, ?_, ?_, ?_⟩ <;> decide +kernel,
   by refine ⟨{ clasp := { rails := true } }, rPwrGroup, 8, rPwrGroup, ?_, ?_, ?_, ?_, ?_⟩ <;> decide +kernel,
   ⟨{ clasp := { rails := true } }, 0x3FFFFF8, 8, by decide +kernel⟩,
   by refine ⟨{ clasp := { rails := true } }, (rPwrLimit + 1), 8, rPwrLimit, ?_, ?_, ?_, ?_⟩ <;> decide +kernel,
   by refine ⟨{ clasp := { rails := true }, fabrics := [(0, { failed := true })] }, (rQosWt 0), 4, (rQosWt 0), ?_, ?_, ?_, ?_, ?_⟩ <;> decide +kernel,
   by refine ⟨{ clasp := { rails := true } }, rErrStat, 8, rErrStat, ?_, ?_, ?_, ?_, ?_, ?_⟩ <;> decide +kernel,
   by refine ⟨{ clasp := { rails := true } }, 0x3FFFFF8, 8, ?_, ?_, ?_⟩ <;> decide +kernel,
   by refine ⟨{ clasp := { rails := true }, fabrics := [(0, { failed := true })] }, (rQosWt 0), 4, (rQosWt 0), ?_, ?_, ?_, ?_, ?_⟩ <;> decide +kernel,
   by refine ⟨{ clasp := { rails := true } }, rPwrLimit, 8, rPwrLimit, ?_, ?_, ?_, ?_, ?_⟩ <;> decide +kernel,
   by refine ⟨{ clasp := { rails := true } }, rPwrLimit, 8, rPwrLimit, ?_, ?_, ?_, ?_, ?_⟩ <;> decide +kernel,
   by refine ⟨{ clasp := { rails := true }, fuses := { dark := List.replicate 16 0 }, regions := [(15, { powered := true })] }, 575, ?_, ?_, ?_, ?_, ?_⟩ <;> decide +kernel,
   by refine ⟨{ clasp := { rails := true } }, 63, ?_, ?_⟩ <;> decide +kernel,
   by refine ⟨{ clasp := { rails := true } }, 63, ?_, ?_⟩ <;> decide +kernel,
   ⟨{ clasp := { rails := true } }, by decide +kernel⟩⟩

/-- What ConfigurationIsChecked assumes is met. -/
theorem test_wit_ConfigurationIsChecked :
  (∃ (s : State), s.clasp.rails = true ∧ s.cfg.sweeping = false ∧ s.hubCount % 2 ^ 21 = 0) ∧
  (∃ (s : State), s.cfg.sweeping = true ∧ s.cfg.void = true) ∧
  (∃ (s : State), s.cfg.sweeping = true ∧ s.cfg.void = false ∧ s.cfg.capSweep = true) ∧
  (∃ s : State, s.cfg.sweeping = true ∧ s.cfg.void = false ∧ s.cfg.capSweep = false ∧ s.sweepCrc = s.fld rCfgCur 32 32) ∧
  (∃ s : State, s.cfg.sweeping = true ∧ s.cfg.void = false ∧ s.cfg.capSweep = false ∧ bit (s.reg rCfgCtl) 0 = true ∧ s.sweepCrc ≠ s.fld rCfgCur 32 32) ∧
  (∃ (s : State), s.clasp.rails = true) ∧
  (∃ (s : State), s.clasp.rails = true) ∧
  (∃ (s : State), s.clasp.rails = true) ∧
  (∃ (s : State), s.clasp.rails = true) ∧
  (∃ (s : State) (i : Nat), i ≤ 15 ∧ (s.region i).powered = true ∧ bit (s.fld rRgnPwr 0 16) i = true ∧ s.wayOwned i = false) ∧
  (∃ (s : State) (i : Nat), i ≤ 15 ∧ s.clasp.rails = true ∧ s.standby = none ∧ (s.region i).powered = false ∧ (s.fabric (i / 8)).failed = false ∧ bit (s.fld rRgnPwr 0 16) i = false) :=
  ⟨by refine ⟨{ clasp := { rails := true }, cfg := { commitPend := true }, hubCount := 2097152 }, ?_, ?_, ?_⟩ <;> decide +kernel,
   by refine ⟨{ clasp := { rails := true }, cfg := { sweeping := true, void := true }, hubCount := 0 }, ?_, ?_⟩ <;> decide +kernel,
   by refine ⟨{ clasp := { rails := true }, cfg := { sweeping := true, capSweep := true }, hubCount := 0 }, ?_, ?_, ?_⟩ <;> decide +kernel,
   wSweepAgrees,
   wSweepDiffers,
   ⟨{ clasp := { rails := true } }, by decide +kernel⟩,
   ⟨{ clasp := { rails := true } }, by decide +kernel⟩,
   ⟨{ clasp := { rails := true } }, by decide +kernel⟩,
   ⟨{ clasp := { rails := true } }, by decide +kernel⟩,
   by refine ⟨(({ regions := [(15, { powered := true })] } : State).setFld rRgnPwr 0 16 0x8000), 15, ?_, ?_, ?_, ?_⟩ <;> decide +kernel,
   by refine ⟨{ clasp := { rails := true } }, 15, ?_, ?_, ?_, ?_, ?_, ?_⟩ <;> decide +kernel⟩

/-- What ManagementBusAnswers assumes is met. -/
theorem test_wit_ManagementBusAnswers :
  (∃ (s : State) (op : Nat) (p : Bytes) (c : BitVec 32), s.clasp.aux = true ∧ c.toNat ≠ msgCrc op p) ∧
  (∃ (s : State) (c : BitVec 32), s.clasp.aux = true ∧ c.toNat = msgCrc 0x01 []) ∧
  (∃ (s : State) (c : BitVec 32) (b : Bytes) (r : List Bytes), s.clasp.aux = true ∧ s.clasp.boot = .running ∧ c.toNat = msgCrc 0x02 [] ∧ s.clasp.unread = b :: r) ∧
  (∃ (s : State) (p : Bytes) (c : BitVec 32), s.clasp.aux = true ∧ p.length = 1 ∧ fieldLe p 0 1 < 64 ∧ c.toNat = msgCrc 0x03 p) ∧
  (∃ (s : State) (p : Bytes) (c : BitVec 32), s.clasp.aux = true ∧ p.length = 2 ∧ c.toNat = msgCrc 0x04 p ∧ s.otherFolio = false) ∧
  (∃ (s : State) (p : Bytes) (c : BitVec 32), s.clasp.aux = true ∧ c.toNat = msgCrc 0x04 p ∧ s.clasp.inReset = false ∧ s.tableState ≠ 1 ∧ s.otherFolio = true) ∧
  (∃ (s : State) (p : Bytes) (c : BitVec 32), s.clasp.aux = true ∧ s.clasp.boot = .running ∧ p.length = 2 ∧ c.toNat = msgCrc 0x05 p) ∧
  (∃ (s : State) (c : BitVec 32), s.clasp.aux = true ∧ s.standby.isSome = true ∧ c.toNat = msgCrc 0x06 []) ∧
  (∃ (s : State) (p : Bytes) (c : BitVec 32), s.clasp.aux = true ∧ p.length = 4 ∧ fieldLe p 0 4 % 256 = 0 ∧ fieldLe p 0 4 < 65536 ∧ c.toNat = msgCrc 0x08 p) ∧
  (∃ (s : State) (p : Bytes) (c : BitVec 32), s.clasp.aux = true ∧ s.clasp.pwrgood = false ∧ chunkOk p 65536 = true ∧ c.toNat = msgCrc 0x09 p) ∧
  (∃ (s : State) (p : Bytes) (c : BitVec 32), s.clasp.aux = true ∧ s.clasp.boot = .recovery ∧ p.length = 4 ∧ fieldLe p 0 4 ≤ 2 ^ 24 ∧ c.toNat = msgCrc 0x10 p) ∧
  (∃ (s : State) (p : Bytes) (c : BitVec 32), s.clasp.aux = true ∧ s.clasp.boot = .recovery ∧ chunkOk p s.clasp.imgSize = true ∧ c.toNat = msgCrc 0x11 p) ∧
  (∃ (s : State) (c : BitVec 32), s.clasp.aux = true ∧ s.clasp.boot = .recovery ∧ c.toNat = msgCrc 0x12 []) :=
  ⟨by refine ⟨{ clasp := { aux := true } }, 1, [], 0, ?_, ?_⟩ <;> decide +kernel,
   by refine ⟨{ clasp := { aux := true } }, (BitVec.ofNat 32 (msgCrc 1 [])), ?_, ?_⟩ <;> decide +kernel,
   by refine ⟨{ clasp := { aux := true, boot := .running, unread := [zeros 64] } }, (BitVec.ofNat 32 (msgCrc 2 [])), zeros 64, [], ?_, ?_, ?_, ?_⟩ <;> decide +kernel,
   by refine ⟨{ clasp := { aux := true } }, [63], (BitVec.ofNat 32 (msgCrc 3 [63])), ?_, ?_, ?_, ?_⟩ <;> decide +kernel,
   by refine ⟨{ clasp := { aux := true } }, [1, 2], (BitVec.ofNat 32 (msgCrc 4 [1, 2])), ?_, ?_, ?_, ?_⟩ <;> decide +kernel,
   by refine ⟨{ clasp := { aux := true, inReset := false }, capState := 0, folios := [(1, { valid := true })] }, [1, 2], (BitVec.ofNat 32 (msgCrc 4 [1, 2])), ?_, ?_, ?_, ?_, ?_⟩ <;> decide +kernel,
   by refine ⟨{ clasp := { aux := true, boot := .running } }, [1, 2], (BitVec.ofNat 32 (msgCrc 5 [1, 2])), ?_, ?_, ?_, ?_⟩ <;> decide +kernel,
   by refine ⟨{ clasp := { aux := true }, standby := some [] }, (BitVec.ofNat 32 (msgCrc 6 [])), ?_, ?_, ?_⟩ <;> decide +kernel,
   by refine ⟨{ clasp := { aux := true } }, [0, 0xFF, 0, 0], (BitVec.ofNat 32 (msgCrc 8 [0, 0xFF, 0, 0])), ?_, ?_, ?_, ?_, ?_⟩ <;> decide +kernel,
   by refine ⟨{ clasp := { aux := true } }, [0xFF, 0xFF, 0, 0, 7], (BitVec.ofNat 32 (msgCrc 9 [0xFF, 0xFF, 0, 0, 7])), ?_, ?_, ?_, ?_⟩ <;> decide +kernel,
   by refine ⟨{ clasp := { aux := true, boot := .recovery } }, [0, 0, 0, 1], (BitVec.ofNat 32 (msgCrc 16 [0, 0, 0, 1])), ?_, ?_, ?_, ?_, ?_⟩ <;> decide +kernel,
   by refine ⟨{ clasp := { aux := true, boot := .recovery, imgSize := 1 } }, [0, 0, 0, 0, 7], (BitVec.ofNat 32 (msgCrc 17 [0, 0, 0, 0, 7])), ?_, ?_, ?_, ?_⟩ <;> decide +kernel,
   by refine ⟨{ clasp := { aux := true, boot := .recovery } }, (BitVec.ofNat 32 (msgCrc 18 [])), ?_, ?_, ?_⟩ <;> decide +kernel⟩

/-- What EveryStepKeepsMemoryCanonical assumes is met. -/
theorem test_wit_EveryStepKeepsMemoryCanonical :
  ∃ (s : State) (t : State), MemoryOk s ∧ step s = .next t :=
  by refine ⟨{}, _, ⟨?_, ?_⟩, rfl⟩ <;> decide +kernel

/-- What RolledBackImagesStayRefused assumes is met. -/
theorem test_wit_RolledBackImagesStayRefused :
  (∃ (s : State) (ds : List Nat) (cs : List Nat) (ms : List Nat), s.clasp.rails = true ∧ s.clasp.hbmUp = true ∧ s.clasp.stitchWait = false ∧ s.clasp.inReset = true ∧ s.clasp.commitSvn = true ∧ s.clasp.fuseSvn < s.clasp.svn) ∧
  (∃ s t : State, step s = .next t) ∧
  (∃ (s : State) (b : Bytes), fieldLe b 8 2 < s.clasp.fuseSvn) ∧
  (∃ (s : State) (t : State) (b : Bytes), step s = .next t ∧ fieldLe b 8 2 < s.clasp.fuseSvn) :=
  ⟨by refine ⟨{ clasp := { rails := true, hbmUp := true, commitSvn := true, svn := 1 } }, [], [], [], ?_, ?_, ?_, ?_, ?_, ?_⟩ <;> decide +kernel,
   ⟨{}, _, rfl⟩,
   ⟨{ clasp := { fuseSvn := 1 } }, [], by decide +kernel⟩,
   ⟨{ clasp := { fuseSvn := 1 } }, _, [], rfl, by decide +kernel⟩⟩

/-- What RegisterInstructionsChangeOneRegister assumes is met. -/
theorem test_wit_RegisterInstructionsChangeOneRegister :
  (∃ (s : State) (s1 : State) (core : Nat) (w : Word) (k : Nat) (x : Slot), Ready s core w 0x00 k x s1) ∧
  (∃ (s : State) (s1 : State) (core : Nat) (w : Word) (k : Nat) (x : Slot), Ready s core w 0x01 k x s1) ∧
  (∃ (s : State) (s1 : State) (core : Nat) (w : Word) (k : Nat) (x : Slot), Ready s core w 0x07 k x s1) ∧
  (∃ (s : State) (s1 : State) (core : Nat) (w : Word) (k : Nat) (x : Slot), Ready s core w 0x05 k x s1 ∧ (brTaken (fd w 45 3) (x.sr (fd w 53 5)) (x.sr (fd w 48 5)) = false ∨ pcOk (x.pc + imm32 w) = true)) ∧
  (∃ (s : State) (s1 : State) (core : Nat) (w : Word) (k : Nat) (x : Slot), Ready s core w 0x05 k x s1 ∧ (brTaken (fd w 45 3) (x.sr (fd w 53 5)) (x.sr (fd w 48 5)) = false ∨ pcOk (x.pc + imm32 w) = true)) ∧
  (∃ (s : State) (s1 : State) (core : Nat) (w : Word) (k : Nat) (x : Slot), Ready s core w 0x06 k x s1 ∧ pcOk (jmpTarget w x) = true) ∧
  (∃ (s : State) (s1 : State) (core : Nat) (w : Word) (k : Nat) (x : Slot), Ready s core w 0x02 k x s1 ∧ lsAddr w x % lsSize w = 0 ∧ fbit w 45 = true ∧ x.spIn (lsAddr w x % 2 ^ 19) (lsSize w) = true ∧ (s1.core core).spFree k x (lsAddr w x % 2 ^ 19) (lsSize w) false = true) ∧
  (∃ i : Nat, i ≠ 0) :=
  ⟨by refine ⟨(wCore wSlot), (wCore wSlot), 0, 0, 0, wSlot, ⟨?_, ?_, ?_, ?_⟩⟩ <;> decide +kernel,
   by refine ⟨(wCore wSlot), (wCore wSlot), 0, 0x400000000000000, 0, wSlot, ⟨?_, ?_, ?_, ?_⟩⟩ <;> decide +kernel,
   by refine ⟨(wCore wSlot), (wCore wSlot), 0, 0x1C00000000000000, 0, wSlot, ⟨?_, ?_, ?_, ?_⟩⟩ <;> decide +kernel,
   by refine ⟨(wCore wSlot), (wCore wSlot), 0, 0x1400200000000000, 0, wSlot, ⟨?_, ?_, ?_, ?_⟩, ?_⟩ <;> decide +kernel,
   by refine ⟨(wCore wSlot), (wCore wSlot), 0, 0x1400000000000000, 0, wSlot, ⟨?_, ?_, ?_, ?_⟩, ?_⟩ <;> decide +kernel,
   by refine ⟨(wCore wSlot), (wCore wSlot), 0, 0x1800000000000000, 0, wSlot, ⟨?_, ?_, ?_, ?_⟩, ?_⟩ <;> decide +kernel,
   by refine ⟨(wCore wSlot), (wCore wSlot), 0, 0x800E0000002FFF8, 0, wSlot, ⟨?_, ?_, ?_, ?_⟩, ?_, ?_, ?_, ?_⟩ <;> decide +kernel,
   ⟨31, by decide⟩⟩

/-- What ScratchpadStoresChangeTheirBytes assumes is met. -/
theorem test_wit_ScratchpadStoresChangeTheirBytes :
  (∃ (s : State) (s1 : State) (core : Nat) (w : Word) (k : Nat) (x : Slot) (a : Nat) (n : Nat), a = lsAddr w x % 2 ^ 19 ∧ n = lsSize w ∧ Ready s core w 0x03 k x s1 ∧ lsAddr w x % n = 0 ∧ fbit w 45 = true ∧ x.spIn a n = true ∧ (s1.core core).spFree k x a n true = true) ∧
  (∃ (s : State) (s1 : State) (core : Nat) (w : Word) (k : Nat) (x : Slot) (a : Nat) (n : Nat), a = vlsAddr w x % 2 ^ 19 ∧ n = 64 * vlsLane w ∧ Ready s core w 0x11 k x s1 ∧ fd w 55 3 = 1 ∧ a % 32 = 0 ∧ x.spIn a n = true ∧ (s1.core core).spFree k x a n true = true) ∧
  (∃ (x : Slot) (a : Nat) (d : Bytes), x.spWays.Nodup ∧ x.spIn a d.length = true) :=
  ⟨by refine ⟨(wCore wSlot), (wCore wSlot), 0, 0xC00E0000002FFF8, 0, wSlot, 0x2FFF8, 8, ?_, ?_, ⟨?_, ?_, ?_, ?_⟩, ?_, ?_, ?_, ?_⟩ <;> decide +kernel,
   by refine ⟨(wCore wSlot), (wCore wSlot), 0, 0x4480000000000000, 0, wSlot, 0, 256, ?_, ?_, ⟨?_, ?_, ?_, ?_⟩, ?_, ?_, ?_, ?_⟩ <;> decide +kernel,
   by refine ⟨wSlot, 0x2FFFF, [7], ?_, ?_⟩ <;> decide +kernel⟩

/-- What CachedStoresChangeTheirBytes assumes is met. -/
theorem test_wit_CachedStoresChangeTheirBytes :
  (∃ (s : State) (s1 : State) (s2 : State) (core : Nat) (w : Word) (k : Nat) (x : Slot) (pa : _) (l : CLine), Ready s core w 0x03 k x s1 ∧ lsAddr w x % lsSize w = 0 ∧ fbit w 45 = false ∧ s1.xlate core k x (lsAddr w x) 1 0 = .ok (pa, false, s2) ∧ ((s2.route pa = .hbm ∨ ∃ a, s2.route pa = .host a)) ∧ s2.storeBusy core k (lineOf pa) = false ∧ s2.lineBusy (s2.sliceOf core) (lineOf pa) = false ∧ s2.line? (s2.sliceOf core) (lineOf pa) = some l ∧ ((l.st = .m ∨ l.st = .e))) ∧
  (∃ (s : State) (s1 : State) (s2 : State) (core : Nat) (w : Word) (k : Nat) (x : Slot) (pa : _) (l : CLine), Ready s core w 0x04 k x s1 ∧ (x.sr (fd w 48 5)).toNat % (if fbit w 35 then 8 else 4) = 0 ∧ x.wait = .none ∧ s1.xlate core k x (x.sr (fd w 48 5)).toNat 3 0 = .ok (pa, false, s2) ∧ ((s2.route pa = .hbm ∨ ∃ a, s2.route pa = .host a)) ∧ s2.storeBusy core k (lineOf pa) = false ∧ s2.lineBusy (s2.sliceOf core) (lineOf pa) = false ∧ s2.line? (s2.sliceOf core) (lineOf pa) = some l ∧ ((l.st = .m ∨ l.st = .e))) ∧
  (∃ (s : State) (line : Nat), s.watches.all (fun e => lineOf e.pa != line) = true) ∧
  (∃ (s : State) (line : Nat), s.watches.all (fun e => lineOf e.pa != line) = true) ∧
  (∃ (b d : Bytes) (o : Nat), o + d.length ≤ b.length) :=
  ⟨by refine ⟨{ wCore { wSlot with sregs := [(1, 0x200000000000)] } with caches := [(0, { lines := [(wHost, { st := .m, data := zeros 64 })] })] }, { wCore { wSlot with sregs := [(1, 0x200000000000)] } with caches := [(0, { lines := [(wHost, { st := .m, data := zeros 64 })] })] }, { wCore { wSlot with sregs := [(1, 0x200000000000)] } with caches := [(0, { lines := [(wHost, { st := .m, data := zeros 64 })] })] }, 0, 0xC01000000000000, 0, { wSlot with sregs := [(1, 0x200000000000)] }, wHost, { st := .m, data := zeros 64 }, ⟨?_, ?_, ?_, ?_⟩, ?_, ?_, ?_, .inr ⟨0, ?_⟩, ?_, ?_, ?_, ?_⟩ <;> decide +kernel,
   by refine ⟨{ wCore { wSlot with sregs := [(1, 0x200000000000)] } with caches := [(0, { lines := [(wHost, { st := .m, data := zeros 64 })] })] }, { wCore { wSlot with sregs := [(1, 0x200000000000)] } with caches := [(0, { lines := [(wHost, { st := .m, data := zeros 64 })] })] }, { wCore { wSlot with sregs := [(1, 0x200000000000)] } with caches := [(0, { lines := [(wHost, { st := .m, data := zeros 64 })] })] }, 0, 0x1001000000000000, 0, { wSlot with sregs := [(1, 0x200000000000)] }, wHost, { st := .m, data := zeros 64 }, ⟨?_, ?_, ?_, ?_⟩, ?_, ?_, ?_, .inr ⟨0, ?_⟩, ?_, ?_, ?_, ?_⟩ <;> decide +kernel,
   ⟨(wCore wSlot), 64, by decide +kernel⟩,
   ⟨{ hubWatch := [{ pa := wHost, target := 0, who := .command 1, folio := 0 }] }, 64, by decide +kernel⟩,
   ⟨zeros 64, [7], 63, by decide⟩⟩

/-- What WritesLandAndAreProtected assumes is met. -/
theorem test_wit_WritesLandAndAreProtected :
  (∃ (s : State) (pa : Nat) (d : Bytes) (m : Nat), s.server (pa / 2 ^ 33) = some m ∧ s.setOf m = none ∧ pa % 2 ^ 33 + d.length ≤ 2 ^ 33 ∧ s.partialBad pa d.length = none) ∧
  (∃ (s : State) (m : Nat) (q : Nat) (o : Nat) (d : Bytes) (p : ProtSet), s.setOf m = some p ∧ p.members = [(0, m), (0, q)] ∧ p.lost = [] ∧ m ≠ q ∧ o + d.length ≤ 2 ^ 33) ∧
  (∃ (s : State) (a : Nat) (b : Nat) (c : Nat) (e : Nat) (q : Nat) (m : Nat) (o : Nat) (d : Bytes) (p : ProtSet), s.setOf m = some p ∧ p.members = [(0, a), (0, b), (0, c), (0, e), (0, q)] ∧ p.lost = [] ∧ [a, b, c, e, q].Nodup ∧ m ∈ [a, b, c, e] ∧ o + d.length ≤ 2 ^ 33 ∧ ParityOk s a b c e q) ∧
  (∃ (s : State) (a : Nat) (b : Nat) (c : Nat) (e : Nat) (q : Nat) (m : Nat) (o : Nat) (n : Nat) (p : ProtSet), s.setOf q = some p ∧ p.members = [(0, a), (0, b), (0, c), (0, e), (0, q)] ∧ p.lost = [m] ∧ [a, b, c, e, q].Nodup ∧ m ∈ [a, b, c, e] ∧ o + n ≤ 2 ^ 33 ∧ ParityOk s a b c e q) :=
  ⟨by refine ⟨(wPart (wQue (wCmd 0))), (2 ^ 33 - 1), [7], 0, ?_, ?_, ?_, ?_⟩ <;> decide +kernel,
   by refine ⟨{ prots := [{ members := [(0, 0), (0, 1)] }] }, 0, 1, (2 ^ 33 - 1), [7], { members := [(0, 0), (0, 1)] }, ?_, ?_, ?_, ?_, ?_⟩ <;> decide +kernel,
   by refine ⟨{ prots := [{ members := [(0, 0), (0, 1), (0, 2), (0, 3), (0, 4)] }] }, 0, 1, 2, 3, 4, 3, (2 ^ 33 - 1), [7], { members := [(0, 0), (0, 1), (0, 2), (0, 3), (0, 4)] }, ?_, ?_, ?_, ?_, ?_, ?_, wParity rfl⟩ <;> decide +kernel,
   by refine ⟨{ prots := [{ members := [(0, 0), (0, 1), (0, 2), (0, 3), (0, 4)], lost := [3] }] }, 0, 1, 2, 3, 4, 3, (2 ^ 33 - 1), 1, { members := [(0, 0), (0, 1), (0, 2), (0, 3), (0, 4)], lost := [3] }, ?_, ?_, ?_, ?_, ?_, ?_, wParity rfl⟩ <;> decide +kernel⟩

/-- What RegisterFieldsFollowTheirAccess assumes is met. -/
theorem test_wit_RegisterFieldsFollowTheirAccess :
  (∃ (c mask : Nat) (f : _), f ∈ fieldsOf c ∧ bits mask f.lo f.wd = 2 ^ f.wd - 1) ∧
  (∃ (c mask : Nat) (f : _), f ∈ fieldsOf c ∧ bits mask f.lo f.wd ≠ 2 ^ f.wd - 1) ∧
  (∃ c i : Nat, ∀ f ∈ fieldsOf c, i < f.lo ∨ f.lo + f.wd ≤ i) ∧
  (∃ (s : State) (c i : Nat), s.live c = none ∧ ∀ f ∈ fieldsOf c, f.acc = .wo ∨ i < f.lo ∨ f.lo + f.wd ≤ i) ∧
  (∃ c : Nat, c ∉ [rCorrCtl, rCfgCtl, rMgmtqRing, rPwrLimit, rErrStat, rPwrGroup] ∧ ¬ (0x100000 ≤ c ∧ c < 0x110000) ∧ ¬ (0x50000 ≤ c ∧ c < 0x60000)) :=
  ⟨by refine ⟨rPwrLimit, 2 ^ 64 - 1, (fieldsOf rPwrLimit).headD ⟨0, 0, .rw, 0⟩, ?_, ?_⟩ <;> decide +kernel,
   by refine ⟨rPwrLimit, 0, (fieldsOf rPwrLimit).headD ⟨0, 0, .rw, 0⟩, ?_, ?_⟩ <;> decide +kernel,
   ⟨rPwrLimit, 63, by decide +kernel⟩,
   by refine ⟨{}, rPwrLimit, 63, ?_, ?_⟩ <;> decide +kernel,
   ⟨rWdogCtl, by decide +kernel⟩⟩

/-- What SettingRowsChangeTheirRegister assumes is met. -/
theorem test_wit_SettingRowsChangeTheirRegister :
  (∃ s t : State, s.clasp.rails = true ∧ exec (.fabQosWtWrite 1 5) s = .next t) ∧
  (∃ s t : State, s.clasp.rails = true ∧ exec (.rgnPwrOff 5) s = .next t) ∧
  (∃ s t : State, s.clasp.rails = true ∧ exec (.cfgchkEn true) s = .next t) ∧
  (∃ s t : State, s.clasp.rails = true ∧ exec (.homClrOwn 63) s = .next t) ∧
  (∃ s t : State, s.clasp.rails = true ∧ exec (.homClrOth 63) s = .next t) ∧
  (∃ s t : State, s.clasp.rails = true ∧ exec .errLogClear s = .next t) :=
  ⟨⟨{ clasp := { rails := true } }, _, rfl, rfl⟩,
   ⟨{ clasp := { rails := true } }, _, rfl, rfl⟩,
   ⟨{ clasp := { rails := true } }, _, rfl, rfl⟩,
   ⟨{ clasp := { rails := true } }, _, rfl, rfl⟩,
   ⟨{ clasp := { rails := true } }, _, rfl, rfl⟩,
   ⟨{ clasp := { rails := true } }, _, rfl, rfl⟩⟩

/-- What SnoopsTouchOneLine assumes is met. -/
theorem test_wit_SnoopsTouchOneLine :
  (∃ s t : State, exec (.prbShare 127 64) s = .next t) ∧
  (∃ s t : State, exec (.prbOwn 127 64) s = .next t) ∧
  (∃ s t : State, exec (.prbGlance 127 64) s = .next t) ∧
  (∃ s t : State, exec (.prbInv 127 64) s = .next t) ∧
  (∃ s t : State, exec (.retireAck 127 64) s = .next t) :=
  ⟨⟨{ caches := [(127, { probes := [(64, ⟨.share, none⟩)] })] }, _, rfl⟩,
   ⟨{ caches := [(127, { probes := [(64, ⟨.own, none⟩)] })] }, _, rfl⟩,
   ⟨{ caches := [(127, { probes := [(64, ⟨.glance, none⟩)] })] }, _, rfl⟩,
   ⟨{ caches := [(127, { probes := [(64, ⟨.inv, none⟩)] })] }, _, rfl⟩,
   ⟨{ caches := [(127, { probes := [(64, ⟨.inv, none⟩)] })] }, _, rfl⟩⟩

/-- What FiniteCodesConvertToThemselves assumes is met. -/
theorem test_wit_FiniteCodesConvertToThemselves :
  ∃ (code : Nat) (n : Bool) (m : Nat) (e : Int), code < 2 ^ fpBF16.width ∧ fpBF16.decode code = .fin n m e :=
  ⟨0x8000, _, _, _, by decide, rfl⟩

/-- What ManagementMessagesTouchOnlyTheClasp assumes is met. -/
theorem test_wit_ManagementMessagesTouchOnlyTheClasp :
  ∃ s t : State, exec (.status [] 0) s = .next t :=
  ⟨{ clasp := { aux := true } }, _, by show execStatus [] 0 _ = _; unfold execStatus State.message; rw [if_neg (by decide), if_pos (by decide +kernel)]⟩
/-! ## The spec's worked examples -/

/-- The element bytes of the worked SILT4 block of 02 (elements 0, 1, 16, 17, 32, 33, 62 and 63). -/
def wSiltB : Bytes := wBlk 32 [(0, 1, 0x3A), (8, 1, 0x7F), (16, 1, 0x52), (31, 1, 0x91)]
/-- Operand A of the worked dot product of 03. -/
def wSiltA : Bytes := wBlk 32 [(0, 1, 0x14), (8, 1, 0x3A), (16, 1, 0xC5), (31, 1, 0x67)]
/-- FP32 code of element `i` of the worked block. -/
def wSiltElem (i : Nat) : Nat := toF32 (scaled (rowElem 0xC wSiltB i) (rowScale 0xC [0x7C, 0xD2] i) (rowMicro 0xC [0x7C, 0xD2] i))
/-- The block of 02 decodes to the values of its table: -0.03125, 0.046875, -0.75, 0.75, 0.0625, 0.1875, 0.0078125, -0.0078125. -/
theorem test_silt4_block_decodes : [0, 1, 16, 17, 32, 33, 62, 63].map wSiltElem =
    [0xBD000000, 0x3D400000, 0xBF400000, 0x3F400000, 0x3D800000, 0x3E400000, 0x3C000000, 0xBC000000] := by decide +kernel
/-- The worked dot product of 03: W is 3392 and the block gives 3.3125. -/
theorem test_silt4_dot_product :
    let a := lineBlocks 0xC 64 64 wSiltA [0x80, 0x40]
    let b := lineBlocks 0xC 64 64 wSiltB [0x7C, 0xD2]
    List.zipWith (blockSum (-1) (-1) 6) a b = [3392] ∧ List.zipWith (blockResult (-1) (-1) 6) a b = [0x40540000] := by decide +kernel
/-- Adding 3.3125 to 16777216 rounds once, to 16777220 (03). -/
theorem test_accumulate_rounds_once : fadd 0x4B800000 0x40540000 = 0x4B800002 := by decide +kernel
/-- 3.3125 to E4M3: 3.25 to nearest; stochastically 3.5 exactly for draws below 0x400000 (03). -/
theorem test_requantize_E4M3 :
    (fpE4M3.encode true none (f32 0x40540000)).1 = 0x45 ∧ (fpE4M3.encode true (some 0x3FFFFF) (f32 0x40540000)).1 = 0x46 ∧
    (fpE4M3.encode true (some 0x400000) (f32 0x40540000)).1 = 0x45 := by decide +kernel
/-- The largest codes named by R58: E4M3 0x7E is 448, E5M2 0x7B is 57344. -/
theorem test_largest_fp8 : toF32 (elemVal 3 0x7E) = 0x43E00000 ∧ toF32 (elemVal 4 0x7B) = 0x47600000 := by decide +kernel
/-- The worked MMA word of 06: its fields, and the layouts of s4 and s5. -/
theorem test_worked_MMA_word :
    let w : Word := 0x83321214C3C00000
    major w = 0x20 ∧ legal w = true ∧ mmaKt w = 1024 ∧
    layoutOf 0x0000040000780000 = ⟨0, 512, 0x10000, 32⟩ ∧ layoutOf 0x0000042000788000 = ⟨0x8000, 512, 0x10800, 32⟩ := by decide +kernel
/-- The worked fence of 06: a word of 2 meets target 0xFFFFFFFE; a signal of 0xFFFFFFF0 offered to it is stale. -/
theorem test_worked_fence : satisfies 2 0xFFFFFFFE = true ∧ offered 2 0xFFFFFFF0 = (2, true) ∧ offered 0xFFFFFFFE 2 = (2, false) := by
  decide +kernel
/-- The worked address of 11: 0x2A0FA34000 is in slice 21, frame 5383, whose entry is at HOM_ offset 0x1A838. -/
theorem test_worked_address :
    placeOf 0x2A0FA34000 = .hbm ∧ 0x2A0FA34000 / 2 ^ 33 = 21 ∧ 0x2A0FA34000 / 2 ^ 25 = 5383 ∧ rFrame 5383 = 0x100000 + 0x1A838 := by
  decide +kernel
/-- The worked register addresses of 20: an alias of HUB_CORR_SEQ, one of FAB_URG_CTL, the core page of engine 1.6.3.2 and its alias. -/
theorem test_worked_register_addresses :
    canon 0x6150 = some rCorrSeq ∧ canon 0x80028 = some (rUrgCtl 0) ∧ corePage (engineCore 0x01060302) = 0x238E000 ∧
    canon 0x23AE000 = some 0x238E000 ∧ canon 0x239A000 = some (corePage (engineCore 0x01060602)) := by decide +kernel
/-- The worked rescaling of 17: limits of 1500 W and 700 W under a total of 1400 W both become 700 W. -/
theorem test_worked_rescaling : (rescale 1400 [⟨0, 1500, 0⟩, ⟨1, 700, 0⟩]).map Member.lim = [700, 700] := by decide +kernel
/-- A step takes the front command and leaves the queue's rest. -/
theorem test_step_takes_the_front : step { pending := [.barrierArrival 0, .powerTrip 1] } = exec (.barrierArrival 0) { pending := [.powerTrip 1] } := rfl
/-- The worked walk of 11: three table reads lead to a 32 MiB leaf, and the address is 0x2A0FA34000. -/
theorem test_worked_walk :
    let s := wPart (wQue (wCmd 0))
    let t := { s with hbm := mwrite (mwrite (mwrite [] 0x4206A0 (le 8 0x2A0E00000F)) 0x4112C0 (le 8 0x420401)) 0x400050 (le 8 0x410001) }
    (match t.walk1 0 40 0xA9655A34000 0x400000 with | .leaf e _ => some (e.pa 0xA9655A34000, e.perm) | _ => none) =
      some (0x2A0FA34000, { r := true, w := true, x := false, nc := false }) := by decide +kernel

/-! ## Encryption (R577, R578), by published test vectors -/

/-- AES-256 of FIPS 197, appendix C.3. -/
theorem test_aes256_FIPS197 : aes256 ((List.range 32).map (BitVec.ofNat 8)) ((List.range 16).map (fun i => BitVec.ofNat 8 (17 * i))) =
    [0x8E, 0xA2, 0xB7, 0xCA, 0x51, 0x67, 0x45, 0xBF, 0xEA, 0xFC, 0x49, 0x90, 0x4B, 0x49, 0x60, 0x89] := by decide +kernel
/-- The sum over GF(2^128) of test case 14 of the GCM specification: one block of ciphertext and the block of lengths. -/
theorem test_tagSum_GCM : tagSum 0xDC95C078A2408989AD48A21492842087 [0xCEA7403D4D606B6E074EC5D3BAF39D18, 0x80] =
    0xD0D1C8A799996BF0265B98B5D48AB919 ^^^ 0x530F8AFBC74536B9A963B4F1C4CB738B := by decide +kernel
/-- The worked routes of 08: from H2 of die 1 over H3 to I0 for row 0, and on to I1 for row 2; on die 0 west along the row. -/
theorem test_worked_route :
    (({} : State).hopsTo (.edge 1 2) (.mesh 0 8 0)).map (fun h => h.node) =
      [.edge 1 3, .edge 1 4, .edge 0 4, .mesh 0 11 0, .mesh 0 10 0, .mesh 0 9 0, .mesh 0 8 0] ∧
    (({} : State).hopsTo (.edge 1 2) (.mesh 0 8 2)).map (fun h => h.node) =
      [.edge 1 3, .edge 1 4, .edge 1 5, .edge 0 5, .mesh 0 11 2, .mesh 0 10 2, .mesh 0 9 2, .mesh 0 8 2] := by decide +kernel

/-- WellFormed refuses a term for each of its checks, part 1. -/
theorem test_wellFormed_refuses_1 : ([
    .alu 576 0,
    .alui 576 0,
    .ld 576 0,
    .st 576 0,
    .amo 576 0,
    .br 576 0,
    .jmp 576 0,
    .srd 576 0,
    .vop 576 0,
    .vls 576 0,
    .mma 576 0,
    .mmaExecute 576,
    .rq 576 0,
    .rqExecute 576,
    .tdma 576 0,
    .dwait 576 0,
    .slaunch 576 0,
    .scriptEntryIssue 576 0 0,
    .scriptEntryIssue 0 4 0,
    .scriptEntryIssue 0 0 2,
    .srel 576 0,
    .fsig 576 0,
    .fwait 576 0,
    .fwaitTimeout 576 0,
    .fwaitTimeout 0 4,
    .fwaitPoll 576 0,
    .fwaitPoll 0 4,
    .fence 576 0,
    .bar 576 0,
    .sift 576 0,
    .halt 576 0,
    .yield 576 0,
    .seg 576 0,
    .gret 576 0,
    .trap 576 0,
    .bkpt 576 0,
    .cinv 576 0,
    .cwb 576 0,
    .ctxFault 576 0,
    .ctxFault 0 4,
    .faultHoldExpiry 4096,
    .contextSwitch 576,
    .quantumExpiry 576,
    .waitSwExpiry 576,
    .rtContextReady 576 0,
    .rtContextReady 0 4,
    .rtMiss 4096,
    .doorbellSnoop 16384 (List.replicate 64 0),
    .doorbellSnoop 0 [],
    .doorbellRefetch 16384,
    .doorbellPoll 16384,
    .commandFetch 16384] : List Instr).all (fun c => !WellFormed c) = true := by decide +kernel

/-- WellFormed refuses a term for each of its checks, part 2. -/
theorem test_wellFormed_refuses_2 : ([
    .commandWaitSatisfied 16384,
    .commandComplete 16384,
    .nop 16384,
    .signal 16384,
    .launch 16384,
    .launchStart 16384,
    .activationComplete 4096,
    .copy 16384,
    .sieveFlush 16384,
    .safeSet 16384,
    .reseed 16384,
    .progLoad 16384,
    .progUnload 16384,
    .ctxCreate 16384,
    .ctxDestroy 16384,
    .ctxReset 16384,
    .resume 16384,
    .queueCreate 16384,
    .queueDestroy 16384,
    .evringCreate 16384,
    .evringDestroy 16384,
    .invalidate 16384,
    .invalidateDrained 16384,
    .invSlow 16384,
    .migrate 16384,
    .migrateCopyComplete 16384,
    .advise 16384,
    .frameSet 16384,
    .biasTakebackDone 16384,
    .chanAssign 16384,
    .folioCreate 16384,
    .folioDestroy 16384,
    .sliceAttach 16384,
    .sliceDetach 16384,
    .sliceTransfer 16384,
    .sliceMove 16384,
    .sliceMoveCopyComplete 64,
    .setProtect 16384,
    .peerSet 16384,
    .linkShare 16384,
    .folioQuery 16384,
    .folioRing 16384,
    .epochInForce 64,
    .drainZero 3 0,
    .drainZero 0 128,
    .drainLimitExpiry 3 0,
    .drainLimitExpiry 0 128,
    .scrubComplete 64,
    .confSliceInitComplete 64,
    .mirrorMemberLoss 64,
    .codedMemberLoss 64,
    .secondLoss 64] : List Instr).all (fun c => !WellFormed c) = true := by decide +kernel

/-- WellFormed refuses a term for each of its checks, part 3. -/
theorem test_wellFormed_refuses_3 : ([
    .stitchLinkIdle 15,
    .peerLossDrainExpiry 15 0,
    .peerLossDrainExpiry 0 64,
    .stitchRead 12 (List.replicate 16 0) [],
    .stitchRead 0 [] [],
    .stitchRead 0 (List.replicate 16 0) (List.replicate 257 0),
    .stitchWrite 12 (List.replicate 16 0) [],
    .stitchWrite 0 [] [],
    .stitchWrite 0 (List.replicate 16 0) (List.replicate 257 0),
    .stitchAtomic 12 (List.replicate 16 0) [],
    .stitchAtomic 0 [] [],
    .stitchAtomic 0 (List.replicate 16 0) (List.replicate 257 0),
    .stitchFenceOffer 12 (List.replicate 16 0) [],
    .stitchFenceOffer 0 [] [],
    .stitchFenceOffer 0 (List.replicate 16 0) (List.replicate 257 0),
    .stitchBarrier 12 (List.replicate 16 0) [],
    .stitchBarrier 0 [] [],
    .stitchBarrier 0 (List.replicate 16 0) (List.replicate 257 0),
    .stitchMirrorWrite 12 (List.replicate 16 0) [],
    .stitchMirrorWrite 0 [] [],
    .stitchMirrorWrite 0 (List.replicate 16 0) (List.replicate 257 0),
    .stitchCompletionData 12 (List.replicate 16 0) [],
    .stitchCompletionData 0 [] [],
    .stitchCompletionData 0 (List.replicate 16 0) (List.replicate 257 0),
    .stitchCompletion 12 (List.replicate 16 0) [],
    .stitchCompletion 0 [] [],
    .stitchCompletion 0 (List.replicate 16 0) (List.replicate 257 0),
    .stitchCreditReturn 12 (List.replicate 16 0) [],
    .stitchCreditReturn 0 [] [],
    .stitchCreditReturn 0 (List.replicate 16 0) (List.replicate 257 0),
    .stitchDiscard 12 (List.replicate 16 0) [],
    .stitchDiscard 0 [] [],
    .stitchDiscard 0 (List.replicate 16 0) (List.replicate 257 0),
    .report 12 [],
    .assign 12 [],
    .shareSet 16384,
    .acctRead 16384,
    .rtAdmit 16384,
    .rtRelease 16384,
    .cyclicLoad 16384,
    .cyclicEnter 16384,
    .cyclicExit 16384,
    .cyclicEntryStart 256 false 0 0,
    .cyclicEntryStart 0 false 256 0,
    .cyclicEntryStart 0 false 0 (2 ^ 32),
    .cyclicOverrun 256,
    .powerSet 16384,
    .energyWatch 16384,
    .confKeys 16384,
    .keyRotate 16384,
    .keyRotateDone 64,
    .attest 16384] : List Instr).all (fun c => !WellFormed c) = true := by decide +kernel

/-- WellFormed refuses a term for each of its checks, part 4. -/
theorem test_wellFormed_refuses_4 : ([
    .engineReset 16384,
    .folioReset 16384,
    .pkgReset 16384,
    .pkgStandby 16384,
    .watchdogAct 4096,
    .watchdogCmdwait 16384,
    .watchdogCore 576,
    .watchdogStep 0 0,
    .watchdogStep 5 0,
    .watchdogStep 2 (3 * 2 ^ 32),
    .dieFailure 2 0,
    .dieFailure 0 256,
    .copyDescriptorStart 128,
    .copyWaitSatisfied 128,
    .copyBurstIssue 8,
    .copyBurstComplete 128 0,
    .copyDescriptorEnd 128,
    .siftStart 64,
    .siftComplete 64,
    .retireDirty 128 0,
    .retireDirty 0 1,
    .retireClean 128 0,
    .retireClean 0 1,
    .grantAck 1,
    .prbMiss 128 0,
    .prbMiss 0 1,
    .grantData 128 0 0,
    .grantData 0 1 0,
    .grantData 0 0 1,
    .retireAck 128 0,
    .retireAck 0 1,
    .prbShare 128 0,
    .prbShare 0 1,
    .prbOwn 128 0,
    .prbOwn 0 1,
    .prbGlance 128 0,
    .prbGlance 0 1,
    .prbInv 128 0,
    .prbInv 0 1,
    .snpData (2 ^ 46),
    .snpInv (2 ^ 46),
    .snpCur (2 ^ 46),
    .atsInvalidation 64 0 0,
    .cxlMemRead 1,
    .cxlMemWrite 1 0 [],
    .cxlMemWrite 0 64 [],
    .msixUnmask 64 0,
    .msixUnmask 0 256,
    .vfFlr 64,
    .urgencyLevelChange 30 0,
    .urgencyHeld 30 0 0 0,
    .spineReplay 2 0] : List Instr).all (fun c => !WellFormed c) = true := by decide +kernel

/-- WellFormed refuses a term for each of its checks, part 5. -/
theorem test_wellFormed_refuses_5 : ([
    .spineReplay 0 3,
    .spineLaneReinit 3,
    .spineReinitDone 3 false,
    .railRampDone 16,
    .clockStepDone 16,
    .corrEventSample 19,
    .droopAssert 16,
    .droopClear 16,
    .droopLong 16,
    .supplyWarning 19 0,
    .supplyRelease 19 0,
    .railResetTrip 19,
    .powerTrip 0,
    .powerTrip 4,
    .thermalCapFall 16 0,
    .thermalCapRise 16 0,
    .thermtrip 16 0,
    .wearGaugeReading 18 0 0,
    .homClrOwn 64,
    .homClrOth 64,
    .cpyRestart 128 false,
    .cpyStream 128 false,
    .cpyMaxbuf 128 0,
    .cpyMaxbuf 0 512,
    .regionPowerDown 16,
    .regionPowerUp 16,
    .cmpDbgDataAccess 576 none,
    .fabQosWtWrite 2 0,
    .registerWrite (2 ^ 26) 0 0,
    .readClear (2 ^ 26) 0,
    .registerAccessTimeout (2 ^ 26) 0 none,
    .status (List.replicate 257 0) 0,
    .eventRead (List.replicate 257 0) 0,
    .logRead (List.replicate 257 0) 0,
    .setPkgId (List.replicate 257 0) 0,
    .groupTotal (List.replicate 257 0) 0,
    .wake (List.replicate 257 0) 0,
    .calRead (List.replicate 257 0) 0,
    .calWrite (List.replicate 257 0) 0,
    .imgBegin (List.replicate 257 0) 0,
    .imgData (List.replicate 257 0) 0,
    .imgEnd (List.replicate 257 0) 0,
    .stitchLinkTrained 12 0,
    .stitchLinkReinit 12,
    .prbData 128 0,
    .prbData 0 1,
    .hostFenceWordSnoop 1 0,
    .eventRingConsumed 1024 0,
    .folioResetDrainExpiry 64,
    .uncorrectableUnitError 11 0 0 0 false,
    .uncorrectableUnitError 0 256 0 0 false,
    .dynamicAddressAssign 128] : List Instr).all (fun c => !WellFormed c) = true := by decide +kernel

/-- WellFormed takes a command whose operands are in range, part 1. -/
theorem test_wellFormed_takes_1 : ([
    .alu 0 0,
    .alui 0 0,
    .ld 0 0,
    .st 0 0,
    .amo 0 0,
    .br 0 0,
    .jmp 0 0,
    .srd 0 0,
    .vop 0 0,
    .vls 0 0,
    .mma 0 0,
    .mmaExecute 0,
    .rq 0 0,
    .rqExecute 0,
    .tdma 0 0,
    .dwait 0 0,
    .slaunch 0 0,
    .scriptEntryIssue 0 0 0,
    .srel 0 0,
    .fsig 0 0,
    .fwait 0 0,
    .fwaitTimeout 0 0,
    .fwaitPoll 0 0,
    .fence 0 0,
    .bar 0 0,
    .sift 0 0,
    .halt 0 0,
    .yield 0 0,
    .seg 0 0,
    .gret 0 0,
    .trap 0 0,
    .bkpt 0 0,
    .cinv 0 0,
    .cwb 0 0,
    .ctxFault 0 0,
    .faultHoldExpiry 0,
    .contextSwitch 0,
    .quantumExpiry 0,
    .waitSwExpiry 0,
    .rtContextReady 0 0,
    .rtMiss 0,
    .doorbellSnoop 0 (List.replicate 64 0),
    .doorbellRefetch 0,
    .doorbellPoll 0,
    .commandFetch 0,
    .commandWaitSatisfied 0,
    .commandComplete 0,
    .nop 0,
    .signal 0,
    .launch 0,
    .launchStart 0,
    .activationComplete 0] : List Instr).all WellFormed = true := by decide +kernel

/-- WellFormed takes a command whose operands are in range, part 2. -/
theorem test_wellFormed_takes_2 : ([
    .copy 0,
    .sieveFlush 0,
    .safeSet 0,
    .reseed 0,
    .progLoad 0,
    .progUnload 0,
    .ctxCreate 0,
    .ctxDestroy 0,
    .ctxReset 0,
    .resume 0,
    .queueCreate 0,
    .queueDestroy 0,
    .evringCreate 0,
    .evringDestroy 0,
    .invalidate 0,
    .invalidateDrained 0,
    .invSlow 0,
    .migrate 0,
    .migrateCopyComplete 0,
    .advise 0,
    .frameSet 0,
    .biasTakebackDone 0,
    .chanAssign 0,
    .folioCreate 0,
    .folioDestroy 0,
    .sliceAttach 0,
    .sliceDetach 0,
    .sliceTransfer 0,
    .sliceMove 0,
    .sliceMoveCopyComplete 0,
    .setProtect 0,
    .peerSet 0,
    .linkShare 0,
    .folioQuery 0,
    .folioRing 0,
    .epochInForce 0,
    .drainZero 0 0,
    .drainLimitExpiry 0 0,
    .scrubComplete 0,
    .confSliceInitComplete 0,
    .mirrorMemberLoss 0,
    .codedMemberLoss 0,
    .secondLoss 0,
    .stitchLinkIdle 0,
    .peerLossDrainExpiry 0 0,
    .stitchRead 0 (List.replicate 16 0) [],
    .stitchWrite 0 (List.replicate 16 0) [],
    .stitchAtomic 0 (List.replicate 16 0) [],
    .stitchFenceOffer 0 (List.replicate 16 0) [],
    .stitchBarrier 0 (List.replicate 16 0) [],
    .stitchMirrorWrite 0 (List.replicate 16 0) [],
    .stitchCompletionData 0 (List.replicate 16 0) []] : List Instr).all WellFormed = true := by decide +kernel

/-- WellFormed takes a command whose operands are in range, part 3. -/
theorem test_wellFormed_takes_3 : ([
    .stitchCompletion 0 (List.replicate 16 0) [],
    .stitchCreditReturn 0 (List.replicate 16 0) [],
    .stitchDiscard 0 (List.replicate 16 0) [],
    .report 0 [],
    .assign 0 [],
    .shareSet 0,
    .acctRead 0,
    .rtAdmit 0,
    .rtRelease 0,
    .cyclicLoad 0,
    .cyclicEnter 0,
    .cyclicExit 0,
    .cyclicEntryStart 0 false 0 0,
    .cyclicOverrun 0,
    .powerSet 0,
    .energyWatch 0,
    .confKeys 0,
    .keyRotate 0,
    .keyRotateDone 0,
    .attest 0,
    .engineReset 0,
    .folioReset 0,
    .pkgReset 0,
    .pkgStandby 0,
    .watchdogAct 0,
    .watchdogCmdwait 0,
    .watchdogCore 0,
    .watchdogStep 1 0,
    .dieFailure 0 0,
    .copyDescriptorStart 0,
    .copyWaitSatisfied 0,
    .copyBurstIssue 0,
    .copyBurstComplete 0 0,
    .copyDescriptorEnd 0,
    .siftStart 0,
    .siftComplete 0,
    .retireDirty 0 0,
    .retireClean 0 0,
    .grantAck 0,
    .prbMiss 0 0,
    .grantData 0 0 0,
    .retireAck 0 0,
    .prbShare 0 0,
    .prbOwn 0 0,
    .prbGlance 0 0,
    .prbInv 0 0,
    .snpData 0,
    .snpInv 0,
    .snpCur 0,
    .atsInvalidation 0 0 0,
    .cxlMemRead 0,
    .cxlMemWrite 0 0 []] : List Instr).all WellFormed = true := by decide +kernel

/-- WellFormed takes a command whose operands are in range, part 4. -/
theorem test_wellFormed_takes_4 : ([
    .msixUnmask 0 0,
    .vfFlr 0,
    .urgencyLevelChange 0 0,
    .urgencyHeld 0 0 0 0,
    .spineReplay 0 0,
    .spineLaneReinit 0,
    .spineReinitDone 0 false,
    .railRampDone 0,
    .clockStepDone 0,
    .corrEventSample 0,
    .droopAssert 0,
    .droopClear 0,
    .droopLong 0,
    .supplyWarning 0 0,
    .supplyRelease 0 0,
    .railResetTrip 0,
    .powerTrip 1,
    .thermalCapFall 0 0,
    .thermalCapRise 0 0,
    .thermtrip 0 0,
    .wearGaugeReading 0 0 0,
    .homClrOwn 0,
    .homClrOth 0,
    .cpyRestart 0 false,
    .cpyStream 0 false,
    .cpyMaxbuf 0 0,
    .regionPowerDown 0,
    .regionPowerUp 0,
    .cmpDbgDataAccess 0 none,
    .fabQosWtWrite 0 0,
    .registerWrite 0 0 0,
    .readClear 0 0,
    .registerAccessTimeout 0 0 none,
    .status [] 0,
    .eventRead [] 0,
    .logRead [] 0,
    .setPkgId [] 0,
    .groupTotal [] 0,
    .wake [] 0,
    .calRead [] 0,
    .calWrite [] 0,
    .imgBegin [] 0,
    .imgData [] 0,
    .imgEnd [] 0,
    .stitchLinkTrained 0 0,
    .stitchLinkReinit 0,
    .prbData 0 0,
    .hostFenceWordSnoop 0 0,
    .eventRingConsumed 0 0,
    .folioResetDrainExpiry 0,
    .uncorrectableUnitError 0 0 0 0 false,
    .dynamicAddressAssign 0] : List Instr).all WellFormed = true := by decide +kernel

end
end

namespace Sys2Proof.Machine

/-! ## What a scalar operation's slot holds when it retires -/

@[simp] theorem Slot.setSr_fault (x : Slot) (i : Nat) (v : Word) : (x.setSr i v).fault = x.fault := by
  unfold Slot.setSr; split <;> rfl

@[simp] theorem Slot.advance_fault (x : Slot) : x.advance.fault = x.fault := rfl

@[simp] theorem State.slot?_retire_self (s : State) (c k : Nat) (x : Slot) :
    (s.retire c k x).slot? c k = some { x with wait := .none } := by
  simp [State.slot?, State.retire, State.setSlot]

/-- A slot that retires with the scalar register `d` written holds the fault it held before (R200). -/
theorem State.retire_setSr_keeps_fault (s : State) (c k : Nat) (x : Slot) (d : Nat) (v : Word) :
    ∃ y, (s.retire c k (x.setSr d v).advance).slot? c k = some y ∧ y.fault = x.fault :=
  ⟨_, s.slot?_retire_self c k _, by simp⟩

/-! ## A ready ALU or ALUI retires with its result (R199) -/

theorem exec_alu_of_ready {s s1 : State} {core : Nat} {w : Word} {k : Nat} {x : Slot} (h : Ready s core w 0x00 k x s1) :
    exec (.alu core w) s =
      .next (s1.retire core k ((x.setSr (fd w 53 5) (aluOp (fd w 32 11) (x.sr (fd w 48 5)) (x.sr (fd w 43 5)))).advance)) :=
  issue_ready h _

theorem exec_alui_of_ready {s s1 : State} {core : Nat} {w : Word} {k : Nat} {x : Slot} (h : Ready s core w 0x01 k x s1) :
    exec (.alui core w) s =
      .next (s1.retire core k ((x.setSr (fd w 53 5) (aluiOp (fd w 42 6) (x.sr (fd w 48 5)) (imm32 w))).advance)) :=
  issue_ready h _

/-! ## The corners of scalar arithmetic (R200) -/

/-- The low 6 bits of a shift amount are the amount modulo 64. -/
theorem toNat_and_63_mod (b : Word) : (b &&& 63).toNat % 64 = b.toNat % 64 := by
  have hmask : b.toNat &&& 63 = b.toNat % 64 := Nat.and_two_pow_sub_one_eq_mod b.toNat 6
  simp [hmask]

theorem aluOp_shift_low6 {fn : Nat} (h : fn = 5 ∨ fn = 6 ∨ fn = 7) (a b : Word) : aluOp fn a b = aluOp fn a (b &&& 63) := by
  obtain rfl | rfl | rfl := h <;> simp only [aluOp, toNat_and_63_mod]

theorem aluOp_div_zero (a : Word) :
    aluOp 11 a 0 = BitVec.allOnes 64 ∧ aluOp 12 a 0 = BitVec.allOnes 64 ∧ aluOp 13 a 0 = a ∧ aluOp 14 a 0 = a := by
  simp [aluOp]

theorem aluOp_intMin_neg_one :
    aluOp 12 (BitVec.intMin 64) (BitVec.allOnes 64) = BitVec.intMin 64 ∧ aluOp 14 (BitVec.intMin 64) (BitVec.allOnes 64) = 0 := by
  decide

/-- Settles O3: the corners of the operations hold in `aluOp` itself, and a ready ALU or ALUI goes straight to
`State.retire`, whose slot holds the fault it held before. -/
theorem scalarArithmeticNeverFaults : Obligations.ScalarArithmeticNeverFaults :=
  ⟨fun _ a b hfn => aluOp_shift_low6 hfn a b,
   aluOp_div_zero,
   aluOp_intMin_neg_one,
   fun _ s1 core _ k x h =>
    have ⟨y, hslot, hfault⟩ := s1.retire_setSr_keeps_fault core k x _ _
    ⟨_, y, exec_alu_of_ready h, hslot, hfault⟩,
   fun _ s1 core _ k x h =>
    have ⟨y, hslot, hfault⟩ := s1.retire_setSr_keeps_fault core k x _ _
    ⟨_, y, exec_alui_of_ready h, hslot, hfault⟩⟩

end Sys2Proof.Machine

namespace Sys2Proof.Machine

/-! ## Self-test changes nothing of the Clasp before its outcome is in force (R46, R603, R646) -/

theorem foldS_clasp {β : Type} (l : List β) (s : State) (f : State → β → State) (hf : ∀ st a, (f st a).clasp = st.clasp) :
    (foldS l s f).clasp = s.clasp :=
  List.foldlRecOn (motive := fun st => st.clasp = s.clasp) l f rfl (fun st hst a _ => (hf st a).trans hst)

@[simp] theorem State.setFrames_clasp (s : State) (m : Nat) (f : Nat → Nat) : (s.setFrames m f).clasp = s.clasp :=
  foldS_clasp (List.range 256) s _ (fun _ _ => rfl)

@[simp] theorem State.wipeSlice_clasp (s : State) (n : Nat) : (s.wipeSlice n).clasp = s.clasp := rfl

@[simp] theorem State.testDie_clasp (s : State) (t : SelfTest) (d : Nat) : (s.testDie t d).clasp = s.clasp := by
  unfold State.testDie
  split
  · exact foldS_clasp _ _ _ (by simp)
  · simp

@[simp] theorem State.testSlices_clasp (s : State) (t : SelfTest) : (s.testSlices t).clasp = s.clasp := by
  unfold State.testSlices
  refine (foldS_clasp _ _ _ fun st n => ?mems).trans ((foldS_clasp _ _ _ fun st n => ?links).trans (foldS_clasp _ _ _ fun st n => ?cores))
  case mems => split_ifs <;> simp
  case links => split <;> simp
  case cores => split <;> simp

@[simp] theorem State.makeFolio0_clasp (s : State) (t : SelfTest) : (s.makeFolio0 t).clasp = s.clasp := by
  unfold State.makeFolio0
  cases s.pickCore t <;> rcases s.pickMem t with _ | ⟨m, _ | _⟩ <;> simp

/-! ## The blow of FUSE_SVN (R566) -/

theorem State.commitFuse_fuseSvn (s : State) :
    s.commitFuse.clasp.fuseSvn = if s.clasp.commitSvn ∧ s.clasp.fuseSvn < s.clasp.svn then s.clasp.svn else s.clasp.fuseSvn := by
  unfold State.commitFuse; split <;> rfl

@[simp] theorem State.commitFuse_capState (s : State) : s.commitFuse.capState = s.capState := by
  unfold State.commitFuse; split <;> rfl

@[simp] theorem State.startService_capState (s : State) (t : SelfTest) : (s.startService t).capState = t.state := by
  simp only [State.startService, State.capChange]
  split <;> simp

/-- Bringing the package into service blows FUSE_SVN exactly when the state reached is READY, the image asks for it and its SVN
lies above the fuse. -/
theorem State.startService_fuseSvn (s : State) (t : SelfTest) :
    (s.startService t).clasp.fuseSvn =
      if t.state = 0 ∧ s.clasp.commitSvn ∧ s.clasp.fuseSvn < s.clasp.svn then s.clasp.svn else s.clasp.fuseSvn := by
  have hspine (st : State) (lanes : List Nat) :
      (foldS lanes st (fun st l => { st with spine := tput l { up := true } st.spine })).clasp = st.clasp :=
    foldS_clasp lanes st _ (fun _ _ => rfl)
  have hdies := foldS_clasp [0, 1] s (fun st d => st.testDie t d) (fun st d => st.testDie_clasp t d)
  unfold State.startService State.capChange
  by_cases hready : t.state = 0
  · simp [hready, State.commitFuse_fuseSvn, hspine, hdies]
  · simp [hready, hspine, hdies]

/-- SELF_TEST_COMPLETE in its time, with a sound hub, puts the outcome in force (R46, R646 step 7). -/
theorem exec_selfTestComplete_of_hubOk {s : State} (ds cs ms : List Nat) (hrails : s.clasp.rails = true) (hhbm : s.clasp.hbmUp = true)
    (hstitch : s.clasp.stitchWait = false) (hreset : s.clasp.inReset = true) :
    exec (.selfTestComplete ds cs ms true) s =
      .next (s.startService { dies := ds ++ [0, 1].filter (fun d => (s.fabric d).failed && !ds.contains d), cores := cs, mems := ms }) := by
  simp [exec, execSelfTestComplete, hrails, hhbm, hstitch, hreset]

/-! ## Every step is steady -/

/-- Every command answers with a next state, reached steadily: each meaning's own lemma, arm by arm. -/
theorem exec_steady {s0 s : State} (h : Steady s0 s) (c : Instr) : Answers s0 (exec c s) :=
  match c with
  | .alu core w => execAlu_steady h core w
  | .alui core w => execAlui_steady h core w
  | .ld core w => execLd_steady h core w
  | .st core w => execSt_steady h core w
  | .amo core w => execAmo_steady h core w
  | .br core w => execBr_steady h core w
  | .jmp core w => execJmp_steady h core w
  | .srd core w => execSrd_steady h core w
  | .vop core w => execVop_steady h core w
  | .vls core w => execVls_steady h core w
  | .mma core w => execMma_steady h core w
  | .mmaExecute core => execMmaExecute_steady h core
  | .rq core w => execRq_steady h core w
  | .rqExecute core => execRqExecute_steady h core
  | .tdma core w => execTdma_steady h core w
  | .tileDmaBurstComplete req => execTileDmaBurstComplete_steady h req
  | .dwait core w => execDwait_steady h core w
  | .slaunch core w => execSlaunch_steady h core w
  | .scriptEntryIssue core slot lane => execScriptEntryIssue_steady h core slot lane
  | .srel core w => execSrel_steady h core w
  | .fsig core w => execFsig_steady h core w
  | .fenceOffer offer => execFenceOffer_steady h offer
  | .fwait core w => execFwait_steady h core w
  | .fwaitTimeout core slot => execFwaitTimeout_steady h core slot
  | .fwaitPoll core slot => execFwaitPoll_steady h core slot
  | .fence core w => execFence_steady h core w
  | .bar core w => execBar_steady h core w
  | .barrierArrival msg => execBarrierArrival_steady h msg
  | .sift core w => execSift_steady h core w
  | .halt core w => execHalt_steady h core w
  | .yield core w => execYield_steady h core w
  | .seg core w => execSeg_steady h core w
  | .gret core w => execGret_steady h core w
  | .trap core w => execTrap_steady h core w
  | .bkpt core w => execBkpt_steady h core w
  | .cinv core w => execCinv_steady h core w
  | .cwb core w => execCwb_steady h core w
  | .storeCompletion req => execStoreCompletion_steady h req
  | .ctxFault core slot => execCtxFault_steady h core slot
  | .faultHoldExpiry ctx => execFaultHoldExpiry_steady h ctx
  | .safeguardUpdateComplete upd => execSafeguardUpdateComplete_steady h upd
  | .contextSwitch core => execContextSwitch_steady h core
  | .quantumExpiry core => execQuantumExpiry_steady h core
  | .waitSwExpiry core => execWaitSwExpiry_steady h core
  | .rtContextReady core slot => execRtContextReady_steady h core slot
  | .rtMiss ctx => execRtMiss_steady h ctx
  | .doorbellSnoop queue line => execDoorbellSnoop_steady h queue line
  | .doorbellRefetch queue => execDoorbellRefetch_steady h queue
  | .doorbellPoll queue => execDoorbellPoll_steady h queue
  | .commandFetch queue => execCommandFetch_steady h queue
  | .commandWaitSatisfied queue => execCommandWaitSatisfied_steady h queue
  | .commandComplete queue => execCommandComplete_steady h queue
  | .refCountSubtract sub hostError => execRefCountSubtract_steady h sub hostError
  | .nop queue => execNop_steady h queue
  | .signal queue => execSignal_steady h queue
  | .launch queue => execLaunch_steady h queue
  | .launchStart queue => execLaunchStart_steady h queue
  | .activationComplete ctx => execActivationComplete_steady h ctx
  | .copy queue => execCopy_steady h queue
  | .sieveFlush queue => execSieveFlush_steady h queue
  | .safeSet queue => execSafeSet_steady h queue
  | .reseed queue => execReseed_steady h queue
  | .progLoad queue => execProgLoad_steady h queue
  | .progUnload queue => execProgUnload_steady h queue
  | .ctxCreate queue => execCtxCreate_steady h queue
  | .ctxDestroy queue => execCtxDestroy_steady h queue
  | .ctxReset queue => execCtxReset_steady h queue
  | .resume queue => execResume_steady h queue
  | .queueCreate queue => execQueueCreate_steady h queue
  | .queueDestroy queue => execQueueDestroy_steady h queue
  | .evringCreate queue => execEvringCreate_steady h queue
  | .evringDestroy queue => execEvringDestroy_steady h queue
  | .invalidate queue => execInvalidate_steady h queue
  | .invalidateDrained queue => execInvalidateDrained_steady h queue
  | .invSlow queue => execInvSlow_steady h queue
  | .migrate queue => execMigrate_steady h queue
  | .migrateCopyComplete queue => execMigrateCopyComplete_steady h queue
  | .advise queue => execAdvise_steady h queue
  | .frameSet queue => execFrameSet_steady h queue
  | .biasTakebackDone queue => execBiasTakebackDone_steady h queue
  | .chanAssign queue => execChanAssign_steady h queue
  | .folioCreate queue => execFolioCreate_steady h queue
  | .folioDestroy queue => execFolioDestroy_steady h queue
  | .sliceAttach queue => execSliceAttach_steady h queue
  | .sliceDetach queue => execSliceDetach_steady h queue
  | .sliceTransfer queue => execSliceTransfer_steady h queue
  | .sliceMove queue => execSliceMove_steady h queue
  | .sliceMoveCopyComplete slice => execSliceMoveCopyComplete_steady h slice
  | .setProtect queue => execSetProtect_steady h queue
  | .peerSet queue => execPeerSet_steady h queue
  | .linkShare queue => execLinkShare_steady h queue
  | .folioQuery queue => execFolioQuery_steady h queue
  | .folioRing queue => execFolioRing_steady h queue
  | .epochInForce folio => execEpochInForce_steady h folio
  | .drainZero kind slice => execDrainZero_steady h kind slice
  | .drainLimitExpiry kind slice => execDrainLimitExpiry_steady h kind slice
  | .scrubComplete slice => execScrubComplete_steady h slice
  | .confSliceInitComplete slice => execConfSliceInitComplete_steady h slice
  | .mirrorMemberLoss slice => execMirrorMemberLoss_steady h slice
  | .codedMemberLoss slice => execCodedMemberLoss_steady h slice
  | .secondLoss slice => execSecondLoss_steady h slice
  | .stitchLinkIdle peer => execStitchLinkIdle_steady h peer
  | .peerLossDrainExpiry peer folio => execPeerLossDrainExpiry_steady h peer folio
  | .stitchRead link hdr payload => execStitchRead_steady h link hdr payload
  | .stitchWrite link hdr payload => execStitchWrite_steady h link hdr payload
  | .stitchAtomic link hdr payload => execStitchAtomic_steady h link hdr payload
  | .stitchFenceOffer link hdr payload => execStitchFenceOffer_steady h link hdr payload
  | .stitchBarrier link hdr payload => execStitchBarrier_steady h link hdr payload
  | .stitchMirrorWrite link hdr payload => execStitchMirrorWrite_steady h link hdr payload
  | .stitchCompletionData link hdr payload => execStitchCompletionData_steady h link hdr payload
  | .stitchCompletion link hdr payload => execStitchCompletion_steady h link hdr payload
  | .stitchCreditReturn link hdr payload => execStitchCreditReturn_steady h link hdr payload
  | .stitchDiscard link hdr payload => execStitchDiscard_steady h link hdr payload
  | .report link payload => execReport_steady h link payload
  | .assign link payload => execAssign_steady h link payload
  | .reportPeriod => execReportPeriod_steady h
  | .leaderAssign => execLeaderAssign_steady h
  | .assignTimeout => execAssignTimeout_steady h
  | .shareSet queue => execShareSet_steady h queue
  | .acctRead queue => execAcctRead_steady h queue
  | .rtAdmit queue => execRtAdmit_steady h queue
  | .rtRelease queue => execRtRelease_steady h queue
  | .cyclicLoad queue => execCyclicLoad_steady h queue
  | .cyclicEnter queue => execCyclicEnter_steady h queue
  | .cyclicExit queue => execCyclicExit_steady h queue
  | .minorFrameBoundary => execMinorFrameBoundary_steady h
  | .cyclicEntryStart entry pass code unit => execCyclicEntryStart_steady h entry pass code unit
  | .cyclicOverrun entry => execCyclicOverrun_steady h entry
  | .powerSet queue => execPowerSet_steady h queue
  | .energyWatch queue => execEnergyWatch_steady h queue
  | .energyEstimate => execEnergyEstimate_steady h
  | .confKeys queue => execConfKeys_steady h queue
  | .keyRotate queue => execKeyRotate_steady h queue
  | .keyRotateDone folio => execKeyRotateDone_steady h folio
  | .attest queue => execAttest_steady h queue
  | .engineReset queue => execEngineReset_steady h queue
  | .folioReset queue => execFolioReset_steady h queue
  | .pkgReset queue => execPkgReset_steady h queue
  | .pkgStandby queue => execPkgStandby_steady h queue
  | .standbyExit => execStandbyExit_steady h
  | .watchdogAct ctx => execWatchdogAct_steady h ctx
  | .watchdogCmdwait queue => execWatchdogCmdwait_steady h queue
  | .watchdogCore core => execWatchdogCore_steady h core
  | .watchdogReq req => execWatchdogReq_steady h req
  | .watchdogMgmt => execWatchdogMgmt_steady h
  | .watchdogClasp => execWatchdogClasp_steady h
  | .watchdogStep step target => execWatchdogStep_steady h step target
  | .booksCheck => execBooksCheck_steady h
  | .dieFailure die cause => execDieFailure_steady h die cause
  | .walkComplete walk => execWalkComplete_steady h walk
  | .copyDescriptorStart chan => execCopyDescriptorStart_steady h chan
  | .copyWaitSatisfied chan => execCopyWaitSatisfied_steady h chan
  | .copyBurstIssue engine => execCopyBurstIssue_steady h engine
  | .copyBurstComplete chan burst => execCopyBurstComplete_steady h chan burst
  | .copyDescriptorEnd chan => execCopyDescriptorEnd_steady h chan
  | .siftAccept sift => execSiftAccept_steady h sift
  | .siftStart unit => execSiftStart_steady h unit
  | .siftComplete unit => execSiftComplete_steady h unit
  | .getShare req => execGetShare_steady h req
  | .getOwn req => execGetOwn_steady h req
  | .upgrade req => execUpgrade_steady h req
  | .glance req => execGlance_steady h req
  | .putHome req => execPutHome_steady h req
  | .rawGet req => execRawGet_steady h req
  | .rawPut req => execRawPut_steady h req
  | .retireDirty slice line => execRetireDirty_steady h slice line
  | .retireClean slice line => execRetireClean_steady h slice line
  | .grantAck line => execGrantAck_steady h line
  | .prbMiss slice line => execPrbMiss_steady h slice line
  | .grantData slice line victim => execGrantData_steady h slice line victim
  | .retireAck slice line => execRetireAck_steady h slice line
  | .prbShare slice line => execPrbShare_steady h slice line
  | .prbOwn slice line => execPrbOwn_steady h slice line
  | .prbGlance slice line => execPrbGlance_steady h slice line
  | .prbInv slice line => execPrbInv_steady h slice line
  | .snpData addr => execSnpData_steady h addr
  | .snpInv addr => execSnpInv_steady h addr
  | .snpCur addr => execSnpCur_steady h addr
  | .atsInvalidation fn addr len => execAtsInvalidation_steady h fn addr len
  | .cxlMemRead hpa => execCxlMemRead_steady h hpa
  | .cxlMemWrite hpa off data => execCxlMemWrite_steady h hpa off data
  | .hostTimeout req => execHostTimeout_steady h req
  | .linkTraining width speed cxl => execLinkTraining_steady h width speed cxl
  | .hostLinkDown => execHostLinkDown_steady h
  | .hdmDecoderCommit base => execHdmDecoderCommit_steady h base
  | .msixUnmask fn vector => execMsixUnmask_steady h fn vector
  | .vfFlr fn => execVfFlr_steady h fn
  | .pfFlr => execPfFlr_steady h
  | .perstNAssert => execPerstNAssert_steady h
  | .perstNDeassert => execPerstNDeassert_steady h
  | .doeDiscovery index => execDoeDiscovery_steady h index
  | .cdatAccess handle => execCdatAccess_steady h handle
  | .getVersion req => execGetVersion_steady h req
  | .getCapabilities req => execGetCapabilities_steady h req
  | .negotiateAlgorithms req => execNegotiateAlgorithms_steady h req
  | .getDigests req => execGetDigests_steady h req
  | .getCertificate req => execGetCertificate_steady h req
  | .challenge req => execChallenge_steady h req
  | .getMeasurements req => execGetMeasurements_steady h req
  | .spdmUnsupported req => execSpdmUnsupported_steady h req
  | .urgencyLevelChange master fill => execUrgencyLevelChange_steady h master fill
  | .urgencyHeld master arbKind arbIndex oldest => execUrgencyHeld_steady h master arbKind arbIndex oldest
  | .spineReplay die lane => execSpineReplay_steady h die lane
  | .spineLaneReinit lane => execSpineLaneReinit_steady h lane
  | .spineReinitDone lane ok => execSpineReinitDone_steady h lane ok
  | .powerControlTick p fixed pinned => execPowerControlTick_steady h p fixed pinned
  | .railRampDone island => execRailRampDone_steady h island
  | .clockStepDone island => execClockStepDone_steady h island
  | .corrEventSample island => execCorrEventSample_steady h island
  | .corrPeriodicSample => execCorrPeriodicSample_steady h
  | .corrReq => execCorrReq_steady h
  | .corrPeriodRestart w => execCorrPeriodRestart_steady h w
  | .droopAssert island => execDroopAssert_steady h island
  | .droopClear island => execDroopClear_steady h island
  | .droopLong island => execDroopLong_steady h island
  | .supplyWarning supply mv => execSupplyWarning_steady h supply mv
  | .supplyRelease supply lowest => execSupplyRelease_steady h supply lowest
  | .busUndervoltage mv => execBusUndervoltage_steady h mv
  | .railResetTrip supply => execRailResetTrip_steady h supply
  | .powerTrip cause => execPowerTrip_steady h cause
  | .thermalCapFall island temp => execThermalCapFall_steady h island temp
  | .thermalCapRise island temp => execThermalCapRise_steady h island temp
  | .thermtrip island temp => execThermtrip_steady h island temp
  | .wearGaugeReading domain need agreeHours => execWearGaugeReading_steady h domain need agreeHours
  | .hoursUpdate => execHoursUpdate_steady h
  | .forerunnerRefresh => execForerunnerRefresh_steady h
  | .cfgSweepStart => execCfgSweepStart_steady h
  | .cfgSweepEnd => execCfgSweepEnd_steady h
  | .cfgchkCommit => execCfgchkCommit_steady h
  | .cfgchkCapture => execCfgchkCapture_steady h
  | .cfgchkEn v => execCfgchkEn_steady h v
  | .homClrOwn home => execHomClrOwn_steady h home
  | .homClrOth home => execHomClrOth_steady h home
  | .cpyRestart chan resume => execCpyRestart_steady h chan resume
  | .cpyStream chan v => execCpyStream_steady h chan v
  | .cpyMaxbuf chan v => execCpyMaxbuf_steady h chan v
  | .rgnPwrOff off => execRgnPwrOff_steady h off
  | .regionPowerDown island => execRegionPowerDown_steady h island
  | .regionPowerUp island => execRegionPowerUp_steady h island
  | .mgmtqEnable v => execMgmtqEnable_steady h v
  | .errLogClear => execErrLogClear_steady h
  | .cmpDbgDataAccess core write => execCmpDbgDataAccess_steady h core write
  | .pwrLimitWrite w => execPwrLimitWrite_steady h w
  | .fabQosWtWrite die w => execFabQosWtWrite_steady h die w
  | .registerWrite off size v => execRegisterWrite_steady h off size v
  | .readClear off size => execReadClear_steady h off size
  | .registerAccessTimeout off size write => execRegisterAccessTimeout_steady h off size write
  | .status payload crc => execStatus_steady h payload crc
  | .eventRead payload crc => execEventRead_steady h payload crc
  | .logRead payload crc => execLogRead_steady h payload crc
  | .setPkgId payload crc => execSetPkgId_steady h payload crc
  | .groupTotal payload crc => execGroupTotal_steady h payload crc
  | .wake payload crc => execWake_steady h payload crc
  | .calRead payload crc => execCalRead_steady h payload crc
  | .calWrite payload crc => execCalWrite_steady h payload crc
  | .imgBegin payload crc => execImgBegin_steady h payload crc
  | .imgData payload crc => execImgData_steady h payload crc
  | .imgEnd payload crc => execImgEnd_steady h payload crc
  | .flashWriteDone => execFlashWriteDone_steady h
  | .auxPowerOn claspRecovery => execAuxPowerOn_steady h claspRecovery
  | .auxPowerLoss => execAuxPowerLoss_steady h
  | .imageVerified => execImageVerified_steady h
  | .pwrgoodAssert busMv => execPwrgoodAssert_steady h busMv
  | .railsUp => execRailsUp_steady h
  | .hbmTrained => execHbmTrained_steady h
  | .stitchLinkTrained link lanes => execStitchLinkTrained_steady h link lanes
  | .stitchWaitTimeout => execStitchWaitTimeout_steady h
  | .selfTestComplete failDies failCore failMem hubOk => execSelfTestComplete_steady h failDies failCore failMem hubOk
  | .stitchLinkReinit link => execStitchLinkReinit_steady h link
  | .prbData slice line => execPrbData_steady h slice line
  | .cxlCacheCompletion req err data => execCxlCacheCompletion_steady h req err data
  | .hostFenceWordSnoop addr value => execHostFenceWordSnoop_steady h addr value
  | .eventRingConsumed ring count => execEventRingConsumed_steady h ring count
  | .folioResetDrainExpiry folio => execFolioResetDrainExpiry_steady h folio
  | .uncorrectableUnitError unit code loc addr fatal => execUncorrectableUnitError_steady h unit code loc addr fatal
  | .dynamicAddressAssign addr => execDynamicAddressAssign_steady h addr

/-- No step lowers FUSE_SVN or changes another fuse (R562, R566). -/
theorem step_fusesKept {s t : State} (hstep : step s = .next t) : FusesKept s t := by
  unfold step at hstep
  split at hstep
  · cases hstep
    exact (State.tick_steady (Steady.rfl' s)).fuses
  · rename_i c rest _
    obtain ⟨u, hu, hsteady⟩ := exec_steady (Steady.rfl' { s with pending := rest }) c
    cases hu.symm.trans hstep
    exact hsteady.fuses

/-! ## Images below FUSE_SVN (R564 step 4) -/

theorem State.imgFail_ne_zero_of_svn_lt {s : State} {b : Bytes} (hsvn : fieldLe b 8 2 < s.clasp.fuseSvn) : s.imgFail b ≠ 0 := by
  simp only [State.imgFail, hsvn, if_true]
  split_ifs <;> decide

/-- Settles O51: the blow is `State.startService_fuseSvn` at the state that self-test reaches; every command and every tick is
`Steady`, which keeps the fuses; and an image below the fuse stays below it, since no step lowers the fuse. -/
theorem rolledBackImagesStayRefused : Obligations.RolledBackImagesStayRefused := by
  refine ⟨?_, fun _ _ => step_fusesKept, fun _ _ => State.imgFail_ne_zero_of_svn_lt, ?_⟩
  · intro s ds cs ms hrails hhbm hstitch hreset hcommit hlt
    refine ⟨_, exec_selfTestComplete_of_hubOk ds cs ms hrails hhbm hstitch hreset, fun hready => ?_, fun hready => ?_⟩
    · rw [State.startService_capState] at hready
      rw [State.startService_fuseSvn, if_pos ⟨hready, hcommit, hlt⟩]
    · rw [State.startService_capState] at hready
      rw [State.startService_fuseSvn, if_neg fun hblow => hready hblow.1]
  · intro s t b hstep hsvn
    obtain ⟨_, _, _, hfuse⟩ := step_fusesKept hstep
    exact State.imgFail_ne_zero_of_svn_lt (Nat.lt_of_lt_of_le hsvn hfuse)

end Sys2Proof.Machine

namespace Sys2Proof.Machine

/-! ## What a step does with the queue of waiting commands (log 1) -/

theorem step_pending_cons (c : Instr) (rest : List Instr) (s : State) :
    step { s with pending := c :: rest } = exec c { s with pending := rest } := rfl

theorem step_pending_nil {s : State} (h : s.pending = []) : step s = .next s.tick := by
  simp [step, h]

/-- A step answers a next state, reached steadily from the state with the front of its queue taken off. -/
theorem step_answers (s : State) : Answers { s with pending := s.pending.tail } (step s) := by
  cases hp : s.pending with
  | nil =>
    have hself : { s with pending := [].tail } = s := by rw [List.tail_nil, ← hp]
    rw [step_pending_nil hp, hself]
    exact Answers.next (State.tick_steady (Steady.rfl' s))
  | cons c rest =>
    have hself : s = { s with pending := c :: rest } := by rw [← hp]
    rw [hself, step_pending_cons]
    exact exec_steady (Steady.rfl' _) c

/-- Settles O1: `step` takes a non-empty queue apart by its front. -/
theorem stepTakesTheFrontCommand : Obligations.StepTakesTheFrontCommand := step_pending_cons

/-- Settles O50: every step is `Steady`, which keeps the canonical form; the queue of commands is no memory. -/
theorem everyStepKeepsMemoryCanonical : Obligations.EveryStepKeepsMemoryCanonical := by
  intro s t hmem hstep
  obtain ⟨u, hu, hsteady⟩ := step_answers s
  cases hu.symm.trans hstep
  exact hsteady.memory hmem

/-- Settles O48: every command and every step is `Steady`, which keeps the queue and adds to what has left the part. -/
theorem everyCommandAnswersANextState : Obligations.EveryCommandAnswersANextState := by
  refine ⟨fun c s => ?_, fun s => ?_⟩
  · obtain ⟨t, hexec, hsteady⟩ := exec_steady (Steady.rfl' s) c
    obtain ⟨l, hout⟩ := hsteady.out
    exact ⟨t, l, hexec, hsteady.pending, hout.symm⟩
  · obtain ⟨t, hstep, hsteady⟩ := step_answers s
    obtain ⟨l, hout⟩ := hsteady.out
    exact ⟨t, l, hstep, hsteady.pending, hout.symm⟩

/-! ## The state at reset -/

/-- Settles O49: at reset every table is empty and every counter 0. -/
theorem resetLeavesThePartUnpowered : Obligations.ResetLeavesThePartUnpowered := by
  refine ⟨rfl, rfl, rfl, rfl, fun _ => ⟨rfl, rfl⟩, fun _ => ⟨rfl, rfl⟩, fun c => ?regs, fun _ => ⟨rfl, rfl, rfl⟩, fun _ _ => rfl, rfl, rfl, rfl,
    rfl, rfl⟩
  case regs => simp [State.reset, State.reg, tgetD]

end Sys2Proof.Machine

namespace Sys2Proof.Machine

/-! ## Scalar registers (R197) -/

@[simp] theorem Slot.sr_zero (x : Slot) : x.sr 0 = 0 := rfl

@[simp] theorem Slot.setSr_zero (x : Slot) (v : Word) : x.setSr 0 v = x := rfl

theorem Slot.sr_setSr_self (x : Slot) {i : Nat} (h : i ≠ 0) (v : Word) : (x.setSr i v).sr i = v := by
  simp [Slot.sr, Slot.setSr, h]

theorem Slot.sr_setSr_ne (x : Slot) {i r : Nat} (h : r ≠ i) (v : Word) : (x.setSr i v).sr r = x.sr r := by
  unfold Slot.sr Slot.setSr
  by_cases hr : r = 0
  · simp [hr]
  · by_cases hi : i = 0
    · simp [hi]
    · simp [hr, hi, tgetD_tputD_ne h]

/-- A write of a scalar register changes the table of scalar registers alone. -/
theorem Slot.setSr_frame (x : Slot) (i : Nat) (v : Word) : x.setSr i v = { x with sregs := (x.setSr i v).sregs } := by
  unfold Slot.setSr; split <;> rfl

/-! ## What retiring a slot leaves alone -/

@[simp] theorem State.core_retire_ne (s : State) {c d : Nat} (h : d ≠ c) (k : Nat) (x : Slot) : (s.retire c k x).core d = s.core d := by
  simp [State.retire, State.setSlot, State.core_setCore_ne, h]

theorem State.core_retire_self (s : State) (c k : Nat) (x : Slot) :
    (s.retire c k x).core c =
      { s.core c with slots := tput k { x with wait := .none } (s.core c).slots, lastRet := s.hubCount, retAt := s.count (coreIsland c) } := by
  simp [State.retire, State.setSlot]

theorem State.slot?_retire_ne (s : State) (c : Nat) {j k : Nat} (h : j ≠ k) (x : Slot) : (s.retire c k x).slot? c j = s.slot? c j := by
  simp [State.slot?, State.core_retire_self, tget_tput_ne h]

theorem State.retire_only_cores (s : State) (c k : Nat) (x : Slot) : s.retire c k x = { s with cores := (s.retire c k x).cores } := by
  simp [State.retire, State.setSlot, State.setCore]

theorem State.retire_onlySlot (s : State) (c k : Nat) (x : Slot) : OnlySlot s (s.retire c k x) c k :=
  ⟨s.retire_only_cores c k x, fun _ h => s.core_retire_ne h k x, fun _ h => s.slot?_retire_ne c h x⟩

/-- The retired slot `y` differs from `x` at most in the scalar register `d`, the program counter and the wait. -/
theorem State.retire_slotKeeps (s : State) (c k : Nat) {x y : Slot} {d : Nat}
    (hframe : y = { x with sregs := y.sregs, pc := y.pc }) (hsr : ∀ r, r ≠ d → y.sr r = x.sr r) :
    SlotKeeps (s.retire c k y) c k x d := by
  refine ⟨_, s.slot?_retire_self c k y, ?_, rfl, hsr⟩
  rw [hframe]

theorem State.retire_slotFrame (s : State) (c k : Nat) {x y : Slot} {d : Nat}
    (hframe : y = { x with sregs := y.sregs, pc := y.pc }) (hsr : ∀ r, r ≠ d → y.sr r = x.sr r) :
    SlotFrame s (s.retire c k y) c k x d :=
  ⟨s.retire_onlySlot c k y, by rw [State.core_retire_self], s.retire_slotKeeps c k hframe hsr⟩

/-- A register write and a new program counter are all that a scalar instruction's slot takes. -/
theorem State.retire_setSr_slotFrame (s : State) (c k : Nat) (x : Slot) (d : Nat) (v t : Word) :
    SlotFrame s (s.retire c k { x.setSr d v with pc := t }) c k x d := by
  refine s.retire_slotFrame c k ?_ fun r hr => x.sr_setSr_ne hr v
  rw [Slot.setSr_frame]

theorem State.retire_pc_slotFrame (s : State) (c k : Nat) (x : Slot) (t : Word) : SlotFrame s (s.retire c k { x with pc := t }) c k x 0 :=
  s.retire_slotFrame c k rfl fun _ _ => rfl

/-! ## SRD, BR and JMP of a ready slot (R198, R199, R204) -/

theorem exec_srd_of_ready {s s1 : State} {core : Nat} {w : Word} {k : Nat} {x : Slot} (h : Ready s core w 0x07 k x s1) :
    exec (.srd core w) s =
      .next (s1.retire core k ((x.setSr (fd w 53 5) (BitVec.ofNat 64 (s1.special core x (fd w 45 8)))).advance)) :=
  issue_ready h _

theorem exec_br_not_taken {s s1 : State} {core : Nat} {w : Word} {k : Nat} {x : Slot} (h : Ready s core w 0x05 k x s1)
    (hcond : brTaken (fd w 45 3) (x.sr (fd w 53 5)) (x.sr (fd w 48 5)) = false) :
    exec (.br core w) s = .next (s1.retire core k x.advance) :=
  (issue_ready h _).trans (by simp [hcond])

theorem exec_br_taken {s s1 : State} {core : Nat} {w : Word} {k : Nat} {x : Slot} (h : Ready s core w 0x05 k x s1)
    (hcond : brTaken (fd w 45 3) (x.sr (fd w 53 5)) (x.sr (fd w 48 5)) = true) (hpc : pcOk (x.pc + imm32 w) = true) :
    exec (.br core w) s = .next (s1.retire core k { x with pc := x.pc + imm32 w }) :=
  (issue_ready h _).trans (by simp [hcond, State.jumpTo, hpc])

theorem exec_jmp_legal {s s1 : State} {core : Nat} {w : Word} {k : Nat} {x : Slot} (h : Ready s core w 0x06 k x s1)
    (hpc : pcOk (jmpTarget w x) = true) :
    exec (.jmp core w) s = .next (s1.retire core k { x.setSr (fd w 53 5) (x.pc + 8) with pc := jmpTarget w x }) :=
  (issue_ready h _).trans (by simp [hpc])

theorem exec_jmp_illegal {s s1 : State} {core : Nat} {w : Word} {k : Nat} {x : Slot} (h : Ready s core w 0x06 k x s1)
    (hpc : pcOk (jmpTarget w x) = false) :
    exec (.jmp core w) s = .next (s1.faultAt core k x 0x0B (jmpTarget w x).toNat) :=
  (issue_ready h _).trans (by simp [hpc])

/-- Settles O4: a ready word reaches its meaning, and each meaning's branches are those of the statement. -/
theorem scalarResultsAndBranches : Obligations.ScalarResultsAndBranches :=
  ⟨fun _ _ _ _ _ _ => exec_alu_of_ready, fun _ _ _ _ _ _ => exec_alui_of_ready, fun _ _ _ _ _ _ => exec_srd_of_ready,
   fun _ _ _ _ _ _ => exec_br_not_taken, fun _ _ _ _ _ _ => exec_br_taken, fun _ _ _ _ _ _ => exec_jmp_legal,
   fun _ _ _ _ _ _ => exec_jmp_illegal⟩

/-! ## LD and ST in scratchpad (R155, R159, R201) -/

section Scratchpad

variable {s s1 : State} {core : Nat} {w : Word} {k : Nat} {x : Slot}

theorem exec_ld_misaligned (h : Ready s core w 0x02 k x s1) (halign : lsAddr w x % lsSize w ≠ 0) :
    exec (.ld core w) s = .next (s1.faultAt core k x 0x0B (lsAddr w x)) :=
  (issue_ready h _).trans (by simp [halign])

theorem exec_st_misaligned (h : Ready s core w 0x03 k x s1) (halign : lsAddr w x % lsSize w ≠ 0) :
    exec (.st core w) s = .next (s1.faultAt core k x 0x0B (lsAddr w x)) :=
  (issue_ready h _).trans (by simp [halign])

theorem exec_ld_out_of_ways (h : Ready s core w 0x02 k x s1) (halign : lsAddr w x % lsSize w = 0) (hsp : fbit w 45 = true)
    (hin : x.spIn (lsAddr w x % 2 ^ 19) (lsSize w) = false) :
    exec (.ld core w) s = .next (s1.faultAt core k x 0x03 (lsAddr w x % 2 ^ 19)) :=
  (issue_ready h _).trans (by simp only [halign, hsp, hin]; simp)

theorem exec_st_out_of_ways (h : Ready s core w 0x03 k x s1) (halign : lsAddr w x % lsSize w = 0) (hsp : fbit w 45 = true)
    (hin : x.spIn (lsAddr w x % 2 ^ 19) (lsSize w) = false) :
    exec (.st core w) s = .next (s1.faultAt core k x 0x03 (lsAddr w x % 2 ^ 19)) :=
  (issue_ready h _).trans (by simp only [halign, hsp, hin]; simp)

theorem exec_ld_scratchpad (h : Ready s core w 0x02 k x s1) (halign : lsAddr w x % lsSize w = 0) (hsp : fbit w 45 = true)
    (hin : x.spIn (lsAddr w x % 2 ^ 19) (lsSize w) = true)
    (hfree : (s1.core core).spFree k x (lsAddr w x % 2 ^ 19) (lsSize w) false = true) :
    exec (.ld core w) s = .next (s1.retire core k ((x.setSr (fd w 53 5)
      (extend ((s1.core core).spRead x (lsAddr w x % 2 ^ 19) (lsSize w)) (fbit w 43))).advance)) :=
  (issue_ready h _).trans (by simp only [halign, hsp, hin, hfree]; simp)

theorem exec_st_scratchpad (h : Ready s core w 0x03 k x s1) (halign : lsAddr w x % lsSize w = 0) (hsp : fbit w 45 = true)
    (hin : x.spIn (lsAddr w x % 2 ^ 19) (lsSize w) = true)
    (hfree : (s1.core core).spFree k x (lsAddr w x % 2 ^ 19) (lsSize w) true = true) :
    exec (.st core w) s = .next ((s1.setCore core ((s1.core core).spWrite x (lsAddr w x % 2 ^ 19)
      (le (lsSize w) (x.sr (fd w 53 5)).toNat))).retire core k x.advance) :=
  (issue_ready h _).trans (by simp only [halign, hsp, hin, hfree]; simp)

end Scratchpad

/-- Settles O5: the checks of LD and ST come in the order alignment (log 13), range of the ways held (log 116), queued matrix
instructions. -/
theorem scratchpadLoadsAndStores : Obligations.ScratchpadLoadsAndStores :=
  ⟨fun _ _ _ _ _ _ => exec_ld_scratchpad, fun _ _ _ _ _ _ => exec_st_scratchpad, fun _ _ _ _ _ _ => exec_ld_misaligned,
   fun _ _ _ _ _ _ => exec_st_misaligned, fun _ _ _ _ _ _ => exec_ld_out_of_ways, fun _ _ _ _ _ _ => exec_st_out_of_ways⟩

/-- Settles O52: each of these instructions retires its slot with at most rd and the program counter changed. -/
theorem registerInstructionsChangeOneRegister : Obligations.RegisterInstructionsChangeOneRegister := by
  refine ⟨fun _ s1 core w k x h => ?alu, fun _ s1 core w k x h => ?alui, fun _ s1 core w k x h => ?srd, fun _ s1 core w k x h hbr => ?br,
    fun _ s1 core w k x h hpc => ?jmp, fun _ s1 core w k x h halign hsp hin hfree => ?ld, fun _ _ => ⟨rfl, rfl⟩,
    fun x _ v hi => x.sr_setSr_self hi v⟩
  case alu => exact ⟨_, exec_alu_of_ready h, s1.retire_setSr_slotFrame core k x _ _ _⟩
  case alui => exact ⟨_, exec_alui_of_ready h, s1.retire_setSr_slotFrame core k x _ _ _⟩
  case srd => exact ⟨_, exec_srd_of_ready h, s1.retire_setSr_slotFrame core k x _ _ _⟩
  case br =>
    cases hcond : brTaken (fd w 45 3) (x.sr (fd w 53 5)) (x.sr (fd w 48 5)) with
    | false => exact ⟨_, exec_br_not_taken h hcond, s1.retire_pc_slotFrame core k x _⟩
    | true =>
      have hpc : pcOk (x.pc + imm32 w) = true := by simpa [hcond] using hbr
      exact ⟨_, exec_br_taken h hcond hpc, s1.retire_pc_slotFrame core k x _⟩
  case jmp => exact ⟨_, exec_jmp_legal h hpc, s1.retire_setSr_slotFrame core k x _ _ _⟩
  case ld => exact ⟨_, exec_ld_scratchpad h halign hsp hin hfree, s1.retire_setSr_slotFrame core k x _ _ _⟩

end Sys2Proof.Machine

namespace Sys2Proof.Machine

/-! ## Bytes written one by one at the places of a map -/

@[simp] theorem length_le (n v : Nat) : (le n v).length = n := by simp [le]

/-- A byte whose address none of the written bytes goes to stands. -/
theorem mbyte_foldl_mset_out (f : Nat → Nat) {p : Nat} (d : Bytes) (o : Nat) (m : List Host.Cell) (h : ∀ i, i < d.length → p ≠ f (o + i)) :
    mbyte ((d.zipIdx o).foldl (fun m e => mset m (f e.2) e.1) m) p = mbyte m p := by
  induction d generalizing o m with
  | nil => rfl
  | cons v d ih =>
    have hhead : p ≠ f o := h 0 (by simp)
    have htail : ∀ i, i < d.length → p ≠ f (o + 1 + i) := fun i hi => by
      have hi' := h (i + 1) (by simpa using hi)
      rwa [show o + (i + 1) = o + 1 + i by omega] at hi'
    rw [List.zipIdx_cons, List.foldl_cons, ih _ _ htail, mbyte_mset_ne hhead]

/-- A byte written at a place of its own reads back. -/
theorem mbyte_foldl_mset_in (f : Nat → Nat) (d : Bytes) (o : Nat) (m : List Host.Cell) {i : Nat} (hi : i < d.length)
    (hf : ∀ a b, a < d.length → b < d.length → f (o + a) = f (o + b) → a = b) :
    mbyte ((d.zipIdx o).foldl (fun m e => mset m (f e.2) e.1) m) (f (o + i)) = d[i] := by
  induction d generalizing o m i with
  | nil => simp at hi
  | cons v d ih =>
    rw [List.zipIdx_cons, List.foldl_cons]
    cases i with
    | zero =>
      rw [mbyte_foldl_mset_out _ _ _ _ fun j hj heq => ?_]
      · simp
      · have := hf 0 (j + 1) (by simp) (by simpa using hj) (by rwa [show o + (j + 1) = o + 1 + j by omega])
        omega
    | succ i =>
      have hinj : ∀ a b, a < d.length → b < d.length → f (o + 1 + a) = f (o + 1 + b) → a = b := fun a b ha hb heq => by
        have := hf (a + 1) (b + 1) (by simpa using ha) (by simpa using hb)
          (by rwa [show o + (a + 1) = o + 1 + a by omega, show o + (b + 1) = o + 1 + b by omega])
        omega
      have := ih (o + 1) (mset m (f o) v) (by simpa using hi) hinj
      rw [show o + (i + 1) = o + 1 + i by omega, this]
      rfl

/-! ## Scratchpad stores (R158) -/

/-- Local addresses inside distinct ways lie at distinct physical bytes. -/
theorem Slot.spPhys_inj {x : Slot} (hways : x.spWays.Nodup) {a b : Nat} (ha : a < x.spEnd) (hb : b < x.spEnd) (heq : x.spPhys a = x.spPhys b) :
    a = b := by
  have hpos : 0 < wayBytes := by decide
  have hia : a / wayBytes < x.spWays.length := Nat.div_lt_of_lt_mul (by rw [Nat.mul_comm]; exact ha)
  have hib : b / wayBytes < x.spWays.length := Nat.div_lt_of_lt_mul (by rw [Nat.mul_comm]; exact hb)
  simp only [Slot.spPhys, List.getElem?_eq_getElem hia, List.getElem?_eq_getElem hib, Option.getD_some] at heq
  have hoff : a % wayBytes = b % wayBytes := by
    simpa [Nat.mul_add_mod'] using congrArg (· % wayBytes) heq
  have hway : x.spWays[a / wayBytes] = x.spWays[b / wayBytes] := by
    rw [hoff] at heq
    exact Nat.eq_of_mul_eq_mul_right hpos (Nat.add_right_cancel heq)
  have hix : a / wayBytes = b / wayBytes := (hways.getElem_inj_iff).1 hway
  rw [← Nat.div_add_mod a wayBytes, ← Nat.div_add_mod b wayBytes, hix, hoff]

theorem Core.mbyte_spWrite_out (c : Core) (x : Slot) (a : Nat) (d : Bytes) {p : Nat} (h : ∀ i, i < d.length → p ≠ x.spPhys (a + i)) :
    mbyte (c.spWrite x a d).sp p = mbyte c.sp p :=
  mbyte_foldl_mset_out (fun i => x.spPhys (a + i)) d 0 c.sp (by simpa using h)

/-- What a context whose ways are distinct has stored in its scratchpad reads back. -/
theorem Core.spRead_spWrite (c : Core) (x : Slot) (a : Nat) (d : Bytes) (hways : x.spWays.Nodup) (hin : x.spIn a d.length = true) :
    (c.spWrite x a d).spRead x a d.length = d := by
  have hend : a + d.length ≤ x.spEnd := by simpa [Slot.spIn] using hin
  refine List.ext_getElem (by simp [Core.spRead]) fun i hi _ => ?_
  have hi' : i < d.length := by simpa [Core.spRead] using hi
  have hbyte := mbyte_foldl_mset_in (fun i => x.spPhys (a + i)) d 0 c.sp hi' fun b e hb he heq => by
    have := Slot.spPhys_inj hways (by omega) (by omega) heq
    omega
  simpa [Core.spRead, Core.spWrite] using hbyte

/-- A scratchpad store that retires: the frame of the core, the slot and the scratchpad. -/
theorem State.retire_spWrite_frame (s : State) (c k : Nat) (x : Slot) (a n : Nat) (d : Bytes) (hd : d.length = n) {t : State}
    (ht : t = (s.setCore c ((s.core c).spWrite x a d)).retire c k x.advance) :
    t = { s with cores := t.cores } ∧ SlotKeeps t c k x 0 ∧
      (∀ b, b ≠ c → t.core b = s.core b) ∧ (∀ j, j ≠ k → t.slot? c j = s.slot? c j) ∧
      t.core c = { s.core c with slots := (t.core c).slots, lastRet := (t.core c).lastRet, retAt := (t.core c).retAt, sp := (t.core c).sp } ∧
      (∀ p, (∀ i, i < n → p ≠ x.spPhys (a + i)) → mbyte (t.core c).sp p = mbyte (s.core c).sp p) := by
  subst ht hd
  refine ⟨?only, ?slot, fun b hb => ?cores, fun j hj => ?slots, ?core, fun p hp => ?bytes⟩
  case only => rw [State.retire_only_cores]; rfl
  case slot => exact State.retire_slotKeeps _ c k (by rfl) fun _ _ => rfl
  case cores => simp [State.core_setCore_ne, hb]
  case slots => rw [State.slot?_retire_ne _ _ hj]; simp [State.slot?, Core.spWrite]
  case core => simp [State.core_retire_self, Core.spWrite]
  case bytes => simpa [State.core_retire_self] using Core.mbyte_spWrite_out _ x a d hp

@[simp] theorem length_vlsOut (x : Slot) (v n : Nat) : (vlsOut x v n).length = 64 * n := by
  simp only [vlsOut, List.length_flatMap, length_le, List.map_const', List.sum_replicate, List.length_range, smul_eq_mul]

theorem exec_vls_store {s s1 : State} {core : Nat} {w : Word} {k : Nat} {x : Slot} (h : Ready s core w 0x11 k x s1) (hop : fd w 55 3 = 1)
    (halign : vlsAddr w x % 2 ^ 19 % 32 = 0) (hin : x.spIn (vlsAddr w x % 2 ^ 19) (64 * vlsLane w) = true)
    (hfree : (s1.core core).spFree k x (vlsAddr w x % 2 ^ 19) (64 * vlsLane w) true = true) :
    exec (.vls core w) s = .next ((s1.setCore core
      ((s1.core core).spWrite x (vlsAddr w x % 2 ^ 19) (vlsOut x (fd w 51 4) (vlsLane w)))).retire core k x.advance) :=
  (issue_ready h _).trans (by simp only [hop, halign, hin, beq_self_eq_true, hfree]; simp)

/-- Settles O53: the store is one write of the slot's local bytes, and ways that are distinct share no physical byte. -/
theorem scratchpadStoresChangeTheirBytes : Obligations.ScratchpadStoresChangeTheirBytes := by
  refine ⟨?st, ?vls, Core.spRead_spWrite⟩
  case st =>
    rintro s s1 core w k x _ _ rfl rfl h halign hsp hin hfree
    exact ⟨_, exec_st_scratchpad h halign hsp hin hfree, s1.retire_spWrite_frame core k x _ _ _ (length_le _ _) rfl⟩
  case vls =>
    rintro s s1 core w k x _ _ rfl rfl h hop halign hin hfree
    exact ⟨_, exec_vls_store h hop halign hin hfree, s1.retire_spWrite_frame core k x _ _ _ (length_vlsOut _ _ _) rfl⟩

end Sys2Proof.Machine

namespace Sys2Proof.Machine

/-! ## LD, ST and AMO through the cluster cache (R201-R203, R300, R325) -/

/-- Whether a write goes outside local HBM does not depend on its bytes. -/
theorem State.noteAway_of_data (s : State) (r : Req) (d : Bytes) (a : Bool) :
    s.noteAway { r with data := d, atomic := a } = s.noteAway r := rfl

/-- Device and host memory are the ways of an address that end in a cluster cache. -/
def State.cached (s : State) (pa : Nat) : Prop := s.route pa = .hbm ∨ ∃ a, s.route pa = .host a

theorem State.loadAt_hit {s : State} {c k : Nat} {x : Slot} {pa : Nat} {l : CLine} (rd n va : Nat) (v sx : Bool) (hroute : s.cached pa)
    (hbusy : s.storeBusy c k (lineOf pa) = false) (hline : s.line? (s.sliceOf c) (lineOf pa) = some l) (hst : v = false ∨ l.st ≠ .s) :
    s.loadAt c k x rd n va pa false v sx =
      (s.touch (s.sliceOf c) (lineOf pa)).retire c k ((x.setSr rd (extend (slice l.data (pa % 64) n) sx)).advance) := by
  have hkeep : (v && l.st == .s) = false := by rcases hst with rfl | h <;> simp [*]
  obtain h | ⟨a, h⟩ := hroute <;> simp [State.loadAt, h, hbusy, hline, hkeep]

theorem State.storeAt_hit {s : State} {c k : Nat} {x : Slot} {pa : Nat} {l : CLine} (va : Nat) (d : Bytes) (hroute : s.cached pa)
    (hbusy : s.storeBusy c k (lineOf pa) = false) (hfill : s.lineBusy (s.sliceOf c) (lineOf pa) = false)
    (hline : s.line? (s.sliceOf c) (lineOf pa) = some l) (hst : l.st = .m ∨ l.st = .e) :
    s.storeAt c k x va pa false d = ((s.noteAway (s.reqFor c x .putHome (.store c k) pa d.length va)).writeHit (s.sliceOf c) pa l d).retire
      c k x.advance := by
  obtain h | ⟨a, h⟩ := hroute <;> simp [State.storeAt, h, hbusy, hfill, hline, hst, State.noteAway_of_data]

theorem State.amoAt_hit {s : State} {c k : Nat} {x : Slot} {pa : Nat} {l : CLine} (rd n va : Nat) (d : Bytes) (hroute : s.cached pa)
    (hbusy : s.storeBusy c k (lineOf pa) = false) (hfill : s.lineBusy (s.sliceOf c) (lineOf pa) = false)
    (hline : s.line? (s.sliceOf c) (lineOf pa) = some l) (hst : l.st = .m ∨ l.st = .e) :
    s.amoAt c k x rd n va pa false d =
      ((s.noteAway (s.reqFor c x .putHome (.scalar c k) pa n va)).writeHit (s.sliceOf c) pa l
        (amoApply d (slice l.data (pa % 64) n))).retire c k ((x.setSr rd (extend (slice l.data (pa % 64) n) false)).advance) := by
  obtain h | ⟨a, h⟩ := hroute <;> simp [State.amoAt, h, hbusy, hfill, hline, hst, State.noteAway_of_data]

/-- The width of an AMO in bytes (R199). -/
abbrev amoSize (w : Word) : Nat := if fbit w 35 then 8 else 4

section Cached

variable {s s1 s2 : State} {core : Nat} {w : Word} {k : Nat} {x : Slot} {pa : Nat} {l : CLine}

theorem exec_ld_hit (h : Ready s core w 0x02 k x s1) (halign : lsAddr w x % lsSize w = 0) (hsp : fbit w 45 = false) (hwait : x.wait = .none)
    (hx : s1.xlate core k x (lsAddr w x) 0 0 = .ok (pa, false, s2)) (hroute : s2.cached pa)
    (hbusy : s2.storeBusy core k (lineOf pa) = false) (hline : s2.line? (s2.sliceOf core) (lineOf pa) = some l)
    (hst : fbit w 44 = false ∨ l.st ≠ .s) :
    exec (.ld core w) s = .next ((s2.touch (s2.sliceOf core) (lineOf pa)).retire core k
      ((x.setSr (fd w 53 5) (extend (slice l.data (pa % 64) (lsSize w)) (fbit w 43))).advance)) :=
  (issue_ready h _).trans (by simp [halign, hsp, hwait, hx, State.loadAt_hit _ _ _ _ _ hroute hbusy hline hst])

theorem exec_ld_returned {r : Nat} {q : Req} (h : Ready s core w 0x02 k x s1) (halign : lsAddr w x % lsSize w = 0) (hsp : fbit w 45 = false)
    (hwait : x.wait = .mem r) (hreq : s1.req? r = some q) (hok : q.status = some .ok) :
    exec (.ld core w) s = .next ((s1.dropReq r).retire core k
      ((x.setSr (fd w 53 5) (extend (q.rdata.take (lsSize w)) (fbit w 43))).advance)) :=
  (issue_ready h _).trans (by simp [halign, hsp, hwait, hreq, State.loadDone, hok])

theorem exec_st_hit (h : Ready s core w 0x03 k x s1) (halign : lsAddr w x % lsSize w = 0) (hsp : fbit w 45 = false)
    (hx : s1.xlate core k x (lsAddr w x) 1 0 = .ok (pa, false, s2)) (hroute : s2.cached pa)
    (hbusy : s2.storeBusy core k (lineOf pa) = false) (hfill : s2.lineBusy (s2.sliceOf core) (lineOf pa) = false)
    (hline : s2.line? (s2.sliceOf core) (lineOf pa) = some l) (hst : l.st = .m ∨ l.st = .e) :
    exec (.st core w) s = .next (((s2.noteAway (s2.reqFor core x .putHome (.store core k) pa (lsSize w) (lsAddr w x))).writeHit
      (s2.sliceOf core) pa l (le (lsSize w) (x.sr (fd w 53 5)).toNat)).retire core k x.advance) :=
  (issue_ready h _).trans (by simp [halign, hsp, hx, State.storeAt_hit _ _ hroute hbusy hfill hline hst])

theorem exec_amo_hit (h : Ready s core w 0x04 k x s1) (halign : (x.sr (fd w 48 5)).toNat % amoSize w = 0) (hwait : x.wait = .none)
    (hx : s1.xlate core k x (x.sr (fd w 48 5)).toNat 3 0 = .ok (pa, false, s2)) (hroute : s2.cached pa)
    (hbusy : s2.storeBusy core k (lineOf pa) = false) (hfill : s2.lineBusy (s2.sliceOf core) (lineOf pa) = false)
    (hline : s2.line? (s2.sliceOf core) (lineOf pa) = some l) (hst : l.st = .m ∨ l.st = .e) :
    exec (.amo core w) s = .next (((s2.noteAway (s2.reqFor core x .putHome (.scalar core k) pa (amoSize w) (x.sr (fd w 48 5)).toNat)).writeHit
        (s2.sliceOf core) pa l (amoApply
        (amoData (fd w 36 2) (amoSize w) (x.sr (fd w 43 5)) (x.sr (fd w 38 5))) (slice l.data (pa % 64) (amoSize w)))).retire
      core k ((x.setSr (fd w 53 5) (extend (slice l.data (pa % 64) (amoSize w)) false)).advance)) := by
  refine (issue_ready h _).trans ?_
  simp only [halign, hwait, hx, State.amoAt_hit _ _ _ _ hroute hbusy hfill hline hst]
  simp

theorem exec_amo_returned {r : Nat} {q : Req} (h : Ready s core w 0x04 k x s1) (halign : (x.sr (fd w 48 5)).toNat % amoSize w = 0)
    (hwait : x.wait = .mem r) (hreq : s1.req? r = some q) (hok : q.status = some .ok) :
    exec (.amo core w) s = .next ((s1.dropReq r).retire core k
      ((x.setSr (fd w 53 5) (extend (q.rdata.take (amoSize w)) false)).advance)) := by
  refine (issue_ready h _).trans ?_
  simp only [halign, hwait, hreq, State.loadDone, hok]
  simp

end Cached

/-- Settles O6: on a held line each access is one lookup, one change of the line and a retirement; a 4-byte AMO's old value is
zero-extended (log 14). -/
theorem deviceLoadsStoresAndAtomics : Obligations.DeviceLoadsStoresAndAtomics :=
  ⟨fun _ _ _ _ _ _ _ _ _ => exec_ld_hit, fun _ _ _ _ _ _ _ _ => exec_ld_returned, fun _ _ _ _ _ _ _ _ _ => exec_st_hit,
   fun _ _ _ _ _ _ _ _ _ => exec_amo_hit, fun _ _ _ _ _ _ _ _ => exec_amo_returned⟩

/-! ## What a write of a held line changes -/

/-- Noting that a write went to the host changes the context's note alone. -/
theorem State.noteAway_frame (s : State) (c : Nat) (x : Slot) {who : Issuer} (hwho : ∀ ch, who ≠ .copy ch) (kind : ReqKind) (pa n va : Nat) :
    s.noteAway (s.reqFor c x kind who pa n va) = { s with ctxs := (s.noteAway (s.reqFor c x kind who pa n va)).ctxs } ∧
      ∀ i, (s.noteAway (s.reqFor c x kind who pa n va)).ctx? i = s.ctx? i ∨
        (s.ctx? i).map (fun y => { y with far := true }) = (s.noteAway (s.reqFor c x kind who pa n va)).ctx? i := by
  have hmod : s.modCtx x.ctx (fun y => { y with far := true }) =
        { s with ctxs := (s.modCtx x.ctx (fun y => { y with far := true })).ctxs } ∧
      ∀ i, (s.modCtx x.ctx (fun y => { y with far := true })).ctx? i = s.ctx? i ∨
        (s.ctx? i).map (fun y => { y with far := true }) = (s.modCtx x.ctx (fun y => { y with far := true })).ctx? i := by
    cases hctx : s.ctx? x.ctx with
    | none => simp [State.modCtx, hctx]
    | some y =>
      rw [State.modCtx_of hctx]
      refine ⟨rfl, fun i => ?_⟩
      by_cases hi : i = x.ctx
      · subst hi; simp [hctx]
      · simp [State.ctxQ_setCtx_ne, hi]
  unfold State.noteAway State.reqFor
  split
  · simp
  · cases who with
    | scalar _ _ => exact hmod
    | store _ _ => exact hmod
    | burst _ _ _ _ => exact hmod
    | copy ch => exact absurd rfl (hwho ch)
    | hub _ => simp
    | stitch _ _ => simp
    | offer _ => simp

theorem State.putLineIn_only_caches (s : State) (n line : Nat) (l : CLine) :
    s.putLineIn n line l = { s with caches := (s.putLineIn n line l).caches } := rfl

theorem State.line?_putLineIn_self (s : State) (n line : Nat) (l : CLine) : (s.putLineIn n line l).line? n line = some l := by
  simp [State.putLineIn, State.touch, State.line?]

theorem State.line?_putLineIn_ne (s : State) {n line j m : Nat} (h : j ≠ n ∨ m ≠ line) (l : CLine) :
    (s.putLineIn n line l).line? j m = s.line? j m := by
  by_cases hj : j = n
  · subst hj
    have hm : m ≠ line := by simpa using h
    simp [State.putLineIn, State.touch, State.line?, tget_tput_ne hm]
  · simp [State.putLineIn, State.touch, State.line?, State.cache_setCache_ne, hj]

/-- A write of a held line, before the waits on it are woken: the line, the note at the context, and nothing else. -/
theorem State.heldWrite_frame (s : State) (c : Nat) (x : Slot) {who : Issuer} (hwho : ∀ ch, who ≠ .copy ch) (kind : ReqKind)
    (n pa len va : Nat) (l : CLine) {u : State} (hu : u = (s.noteAway (s.reqFor c x kind who pa len va)).putLineIn n (lineOf pa) l) :
    u = { s with caches := u.caches, ctxs := u.ctxs } ∧
      (∀ i, u.ctx? i = s.ctx? i ∨ (s.ctx? i).map (fun y => { y with far := true }) = u.ctx? i) ∧
      u.line? n (lineOf pa) = some l ∧ ∀ j m, (j ≠ n ∨ m ≠ lineOf pa) → u.line? j m = s.line? j m := by
  obtain ⟨hframe, hctx⟩ := s.noteAway_frame c x hwho kind pa len va
  subst hu
  refine ⟨?_, hctx, State.line?_putLineIn_self _ _ _ _, fun j m h => ?_⟩
  · rw [State.putLineIn_only_caches, hframe]
  · rw [State.line?_putLineIn_ne _ h, hframe]; rfl

/-! ## Waking waits changes no memory, no cache and no register (R228, R229) -/

/-- From `s` to `t` memories, caches, registers and the host-line cache stand. -/
def Undisturbed (s t : State) : Prop :=
  SameMemory s t ∧ t.caches = s.caches ∧ t.regs = s.regs ∧ t.hostLines = s.hostLines

theorem Undisturbed.rfl' (s : State) : Undisturbed s s := ⟨⟨rfl, rfl, rfl, rfl⟩, rfl, rfl, rfl⟩

theorem Undisturbed.trans {s t u : State} (h : Undisturbed s t) (g : Undisturbed t u) : Undisturbed s u := by
  obtain ⟨⟨h1, h2, h3, h4⟩, h5, h6, h7⟩ := h
  obtain ⟨⟨g1, g2, g3, g4⟩, g5, g6, g7⟩ := g
  exact ⟨⟨g1.trans h1, g2.trans h2, g3.trans h3, g4.trans h4⟩, g5.trans h5, g6.trans h6, g7.trans h7⟩

theorem State.dropAsk_undisturbed (s : State) (ask : Option Nat) : Undisturbed s (s.dropAsk ask) := by
  cases ask with
  | none => exact Undisturbed.rfl' s
  | some r =>
    cases hq : s.req? r with
    | none => simp [State.dropAsk, hq, Undisturbed.rfl' s]
    | some q => cases hs : q.status <;> simp [State.dropAsk, hq, hs, Undisturbed, SameMemory]

theorem State.fwaitDone_undisturbed (s : State) (c k : Nat) (v : Word) : Undisturbed s (s.fwaitDone c k v) := by
  unfold State.fwaitDone
  split
  · exact Undisturbed.rfl' s
  · split
    · next f _ =>
      refine (s.dropWatch (.fwait c k)).dropAsk_undisturbed f.ask |>.trans ?_
      simp [Undisturbed, SameMemory]
    · exact Undisturbed.rfl' s

theorem State.fenceHit_undisturbed (s : State) (c k : Nat) : Undisturbed s (s.fenceHit c k) := by
  unfold State.fenceHit
  split
  · exact s.fwaitDone_undisturbed c k 0
  · simp [Undisturbed, SameMemory]

theorem State.wake_undisturbed (s : State) (line : Nat) : Undisturbed s (s.wake line) := by
  refine List.foldlRecOn (motive := Undisturbed s) _ _ (Undisturbed.rfl' s) fun st hst e _ => hst.trans ?_
  cases e.who with
  | fwait c k =>
    dsimp only
    split
    · exact st.fenceHit_undisturbed c k
    · exact Undisturbed.rfl' st
  | command _ => exact Undisturbed.rfl' st
  | copy _ => exact Undisturbed.rfl' st

theorem State.wake_of_unwatched {s : State} {line : Nat} (h : s.watches.all (fun e => lineOf e.pa != line) = true) : s.wake line = s := by
  have hnone : s.watches.filter (fun e => lineOf e.pa == line) = [] := by
    rw [List.filter_eq_nil_iff]
    intro e he
    simpa using List.all_eq_true.1 h e he
  rw [State.wake, hnone]; rfl

/-! ## Bytes laid over others -/

@[simp] theorem length_patch {b d : Bytes} {o : Nat} (h : o + d.length ≤ b.length) : (patch b o d).length = b.length := by
  simp [patch]; omega

theorem getElem?_patch_out {b d : Bytes} {o i : Nat} (h : o + d.length ≤ b.length) (hi : i < o ∨ o + d.length ≤ i) :
    (patch b o d)[i]? = b[i]? := by
  unfold patch
  rw [List.take_of_length_le (by omega : d.length ≤ b.length - o)]
  rcases hi with hi | hi
  · rw [List.append_assoc, List.getElem?_append_left (by simp; omega), List.getElem?_take_of_lt hi]
  · rw [List.getElem?_append_right (by simp; omega), List.getElem?_drop]
    congr 1
    simp; omega

theorem slice_patch {b d : Bytes} {o : Nat} (h : o + d.length ≤ b.length) : slice (patch b o d) o d.length = d := by
  have htake : d.take (b.length - o) = d := List.take_of_length_le (by omega)
  have hlen : (b.take o).length = o := by simp; omega
  have hdrop : (patch b o d).drop o = d ++ b.drop (o + d.length) := by
    rw [patch, htake, List.append_assoc, List.drop_append_of_le_length (by omega), List.drop_of_length_le (by omega), List.nil_append]
  simp [slice, fit, hdrop, zeros]

/-! ## The width of an AMO's result -/

/-- Reading back the width of an AMO's request data. -/
theorem amoData_width (op : Nat) {n : Nat} (a b : Word) (hn : n = 8 ∨ n = 4) : fieldLe (amoData op n a b) 1 1 = n := by
  obtain rfl | rfl := hn <;> simp [fieldLe, amoData, slice, fit, le, zeros, unle]

theorem length_amoApply_amoData (op : Nat) {n : Nat} (a b : Word) (old : Bytes) (hn : n = 8 ∨ n = 4) :
    (amoApply (amoData op n a b) old).length = n := by
  simp [amoApply, amoData_width op a b hn]

/-- Settles O54: a write of a held line is `State.heldWrite_frame`; waking the waits on it disturbs no memory, cache or register. -/
theorem cachedStoresChangeTheirBytes : Obligations.CachedStoresChangeTheirBytes := by
  refine ⟨?st, ?amo, State.wake_undisturbed, fun _ _ => State.wake_of_unwatched,
    fun _ _ _ h => ⟨slice_patch h, length_patch h, fun _ hi => getElem?_patch_out h hi⟩⟩
  case st =>
    intro s s1 s2 core w k x pa l h halign hsp hx hroute hbusy hfill hline hst
    obtain ⟨hu, hctx, hself, hother⟩ := s2.heldWrite_frame core x (who := .store core k) (by simp) .putHome _ pa (lsSize w) (lsAddr w x) _ rfl
    exact ⟨_, exec_st_hit h halign hsp hx hroute hbusy hfill hline hst, hu, hctx, hself, hother⟩
  case amo =>
    intro s s1 s2 core w k x pa l h halign hwait hx hroute hbusy hfill hline hst
    obtain ⟨hu, hctx, hself, hother⟩ := s2.heldWrite_frame core x (who := .scalar core k) (by simp) .putHome _ pa (amoSize w) (x.sr (fd w 48 5)).toNat _ rfl
    exact ⟨_, _, _, exec_amo_hit h halign hwait hx hroute hbusy hfill hline hst, hu, hctx,
      length_amoApply_amoData _ _ _ _ (by split <;> simp), hself, hother⟩

end Sys2Proof.Machine

namespace Sys2Proof.Machine

/-! ## Byte memories, byte by byte -/

theorem mread_eq_map (m : List Host.Cell) (a n : Nat) : mread m a n = (List.range n).map (fun i => mbyte m (a + i)) := by
  induction n generalizing a with
  | zero => rfl
  | succ n ih =>
    rw [mread, ih, List.range_succ_eq_map, List.map_cons, List.map_map]
    congr 1
    exact List.map_congr_left fun i _ => by rw [Function.comp_apply, Nat.add_assoc, Nat.add_comm 1 i]

@[simp] theorem length_mread (m : List Host.Cell) (a n : Nat) : (mread m a n).length = n := by simp [mread_eq_map]

theorem getElem_mread (m : List Host.Cell) (a n i : Nat) (h : i < (mread m a n).length) : (mread m a n)[i] = mbyte m (a + i) := by
  simp [mread_eq_map]

theorem mbyte_mwrite (m : List Host.Cell) (a x : Nat) (b : Bytes) :
    mbyte (mwrite m a b) x = if h : a ≤ x ∧ x < a + b.length then b[x - a]'(by omega) else mbyte m x := by
  split
  · next h =>
    obtain ⟨i, rfl⟩ := Nat.exists_eq_add_of_le h.1
    rw [mbyte_mwrite_in (by omega)]
    simp
  · next h => exact mbyte_mwrite_out (by omega)

/-! ## Slices (R412, R439-R443) -/

/-- A write inside one slice stands in that slice alone. -/
theorem mbyte_mwrite_slice (m : List Host.Cell) (k n o o' : Nat) (d : Bytes) (ho : o + d.length ≤ 2 ^ 33) (ho' : o' < 2 ^ 33) :
    mbyte (mwrite m (slicePa k o) d) (slicePa n o') =
      if h : n = k ∧ o ≤ o' ∧ o' < o + d.length then d[o' - o]'(by omega) else mbyte m (slicePa n o') := by
  unfold slicePa
  rw [mbyte_mwrite]
  by_cases hn : n = k
  · subst hn
    simp only [Nat.add_le_add_iff_left, true_and, Nat.add_assoc, Nat.add_lt_add_iff_left, Nat.add_sub_add_left]
  · have hout : ¬ (k * 2 ^ 33 + o ≤ n * 2 ^ 33 + o' ∧ n * 2 ^ 33 + o' < k * 2 ^ 33 + o + d.length) := by omega
    rw [dif_neg hout, dif_neg fun h => hn h.1]

/-- What was written inside a slice reads back through a later write inside another. -/
theorem mread_mwrite_slice_ne {k n : Nat} (h : n ≠ k) (m : List Host.Cell) {o l : Nat} (d : Bytes) (ho : o + d.length ≤ 2 ^ 33) (hl : o + l ≤ 2 ^ 33) :
    mread (mwrite m (slicePa k o) d) (slicePa n o) l = mread m (slicePa n o) l :=
  mread_mwrite_out (by unfold slicePa; omega)

theorem State.rebuilds_of_unprotected {s : State} {m : Nat} (h : s.setOf m = none) : s.rebuilds m = none := by simp [State.rebuilds, h]

theorem State.rebuilds_of_pair {s : State} {m : Nat} {p : ProtSet} (h : s.setOf m = some p) (hlen : p.members.length ≠ 5) :
    s.rebuilds m = none := by simp [State.rebuilds, h, hlen]

theorem State.rebuilds_of_data {s : State} {m : Nat} {p : ProtSet} (h : s.setOf m = some p) (hm : codedParity p ≠ m) :
    s.rebuilds m = none := by simp [State.rebuilds, h, hm]

/-- The bytes of one slice XORed with those of others, offset by offset. -/
theorem foldl_xorBytes_mread (m : List Host.Cell) (o n : Nat) (ks : List Nat) (f : Nat → Byte) :
    ks.foldl (fun acc k => xorBytes acc (mread m (slicePa k o) n)) ((List.range n).map f) =
      (List.range n).map (fun i => ks.foldl (fun v k => v ^^^ mbyte m (slicePa k (o + i))) (f i)) := by
  induction ks generalizing f with
  | nil => rfl
  | cons k ks ih =>
    have hstep : xorBytes ((List.range n).map f) (mread m (slicePa k o) n) =
        (List.range n).map (fun i => f i ^^^ mbyte m (slicePa k (o + i))) := by
      simp [xorBytes, mread_eq_map, List.zipWith_map, slicePa, Nat.add_assoc]
    rw [List.foldl_cons, hstep, ih]
    rfl

theorem xor_xor_cancel (a b : Byte) : a ^^^ (a ^^^ b) = b := by
  rw [← BitVec.xor_assoc, BitVec.xor_self, BitVec.zero_xor]

theorem xor_left_comm (a b c : Byte) : a ^^^ (b ^^^ c) = b ^^^ (a ^^^ c) := by
  rw [← BitVec.xor_assoc, BitVec.xor_comm a b, BitVec.xor_assoc]

/-- With the parity of a coded set right, a data slice's bytes are the parity's with those of the other data slices taken out (R442, R443). -/
theorem ParityOk.data_of_others {s : State} {a b c e q m o : Nat} (hpar : ParityOk s a b c e q) (hd : [a, b, c, e, q].Nodup)
    (hm : m ∈ [a, b, c, e]) (ho : o < 2 ^ 33) :
    ([a, b, c, e].filter (fun x => x != m)).foldl (fun v k => v ^^^ mbyte s.hbm (slicePa k o)) (mbyte s.hbm (slicePa q o)) =
      mbyte s.hbm (slicePa m o) := by
  have hq := hpar o ho
  simp only [List.nodup_cons, List.mem_cons, not_or, List.not_mem_nil, not_false_eq_true, and_true] at hd
  obtain ⟨⟨hab, hac, hae, -⟩, ⟨hbc, hbe, -⟩, ⟨hce, -⟩, -⟩ := hd
  simp only [List.mem_cons, List.not_mem_nil, or_false] at hm
  rw [hq]
  obtain rfl | rfl | rfl | rfl := hm <;>
    simp [*, Ne.symm hab, Ne.symm hac, Ne.symm hae, Ne.symm hbc, Ne.symm hbe, Ne.symm hce] <;>
    simp only [BitVec.xor_comm, xor_left_comm, BitVec.xor_assoc, xor_xor_cancel]

/-- A write of a data slice that takes its change into the parity keeps the parity right (R442). -/
theorem ParityOk.update {s t : State} {a b c e q m : Nat} (hpar : ParityOk s a b c e q) (hd : [a, b, c, e, q].Nodup) (hm : m ∈ [a, b, c, e])
    (hdata : ∀ k o, o < 2 ^ 33 → k ≠ m → k ≠ q → mbyte t.hbm (slicePa k o) = mbyte s.hbm (slicePa k o))
    (hq : ∀ o, o < 2 ^ 33 → mbyte t.hbm (slicePa q o) =
      mbyte s.hbm (slicePa q o) ^^^ (mbyte s.hbm (slicePa m o) ^^^ mbyte t.hbm (slicePa m o))) : ParityOk t a b c e q := by
  intro o ho
  have hs := hpar o ho
  simp only [List.nodup_cons, List.mem_cons, not_or, List.not_mem_nil, not_false_eq_true, and_true] at hd
  obtain ⟨⟨hab, hac, hae, haq⟩, ⟨hbc, hbe, hbq⟩, ⟨hce, hcq⟩, heq⟩ := hd
  simp only [List.mem_cons, List.not_mem_nil, or_false] at hm
  rw [hq o ho, hs]
  have hstand := fun k h1 h2 => hdata k o ho h1 h2
  obtain rfl | rfl | rfl | rfl := hm <;>
    simp only [hstand, ne_eq, hab, hac, hae, haq, hbc, hbe, hbq, hce, hcq, heq, Ne.symm hab, Ne.symm hac, Ne.symm hae, Ne.symm hbc, Ne.symm hbe,
      Ne.symm hce, not_false_eq_true] <;>
    simp only [BitVec.xor_comm, xor_left_comm, BitVec.xor_assoc, xor_xor_cancel]

/-- What a write of a data slice of a whole coded set does to device memory (R442). -/
theorem State.writeSlice_coded {s : State} {m : Nat} {p : ProtSet} (h : s.setOf m = some p) (hlen : p.members.length = 5) (hlost : p.lost = [])
    (hm : codedParity p ≠ m) (o : Nat) (d : Bytes) :
    (s.writeSlice m o d).hbm = mwrite (mwrite s.hbm (slicePa m o) d) (slicePa (codedParity p) o)
      (xorBytes (mread s.hbm (slicePa (codedParity p) o) d.length) (xorBytes (mread s.hbm (slicePa m o) d.length) d)) := by
  simp [State.writeSlice, State.rebuilds_of_data h hm, h, hlen, hlost]

/-- What a coded write leaves at a slice of the set: the written bytes in the data slice, and their change in the parity slice. -/
theorem mbyte_coded_write (m : List Host.Cell) {k q o o' : Nat} (d : Bytes) (hkq : k ≠ q) (ho : o + d.length ≤ 2 ^ 33) (ho' : o' < 2 ^ 33) :
    (∀ n, n ≠ q → mbyte (mwrite (mwrite m (slicePa k o) d) (slicePa q o)
      (xorBytes (mread m (slicePa q o) d.length) (xorBytes (mread m (slicePa k o) d.length) d))) (slicePa n o') =
        mbyte (mwrite m (slicePa k o) d) (slicePa n o')) ∧
    mbyte (mwrite (mwrite m (slicePa k o) d) (slicePa q o)
      (xorBytes (mread m (slicePa q o) d.length) (xorBytes (mread m (slicePa k o) d.length) d))) (slicePa q o') =
      mbyte m (slicePa q o') ^^^ (mbyte m (slicePa k o') ^^^ mbyte (mwrite m (slicePa k o) d) (slicePa k o')) := by
  have hlen : (xorBytes (mread m (slicePa q o) d.length) (xorBytes (mread m (slicePa k o) d.length) d)).length = d.length := by
    simp [xorBytes]
  refine ⟨fun n hn => ?_, ?_⟩
  · rw [mbyte_mwrite_slice _ _ _ _ _ _ (by omega) ho', dif_neg fun h => hn h.1]
  · rw [mbyte_mwrite_slice _ _ _ _ _ _ (by omega) ho', mbyte_mwrite_slice _ _ _ _ _ _ ho ho', mbyte_mwrite_slice _ _ _ _ _ _ ho ho']
    by_cases hin : o ≤ o' ∧ o' < o + d.length
    · have hat : ∀ n, slicePa n o + (o' - o) = slicePa n o' := fun n => by unfold slicePa; omega
      simp [hin, xorBytes, getElem_mread, hat]
    · simp [hlen, hin, hkq.symm]

theorem ne_parity_of_mem_data {a b c e q m : Nat} (hd : [a, b, c, e, q].Nodup) (hm : m ∈ [a, b, c, e]) : m ≠ q := fun h =>
  List.disjoint_of_nodup_append (l₁ := [a, b, c, e]) hd hm (List.mem_singleton.2 h)

/-- A raw write that its line's poison and tags allow (R318, R324). -/
theorem State.rawWrite_ok {s : State} {pa m : Nat} {d : Bytes} (hserver : s.server (pa / 2 ^ 33) = some m)
    (hbad : s.partialBad pa d.length = none) :
    s.rawWrite pa d = (.ok, (s.writeSlice m (pa % 2 ^ 33) d).heal pa d.length) := by
  simp only [State.rawWrite, hserver, hbad]

/-- Settles O55: outside a protection set a write is one write of its slice; a local pair takes two; in a coded set the parity takes the
change, from which the parity equation and the rebuilt read follow. -/
theorem writesLandAndAreProtected : Obligations.WritesLandAndAreProtected := by
  refine ⟨?raw, ?pair, ?coded, ?rebuilt⟩
  case raw =>
    intro s pa d m hserver hset _ hbad
    have hwrite : s.writeSlice m (pa % 2 ^ 33) d = { s with hbm := mwrite s.hbm (slicePa m (pa % 2 ^ 33)) d } := by
      simp [State.writeSlice, State.rebuilds_of_unprotected hset, hset]
    refine ⟨_, State.rawWrite_ok hserver hbad, ?_, ?_, fun a ha => ?_⟩
    · have hnone : ((s.writeSlice m (pa % 2 ^ 33) d).heal pa d.length).rebuilds m = none :=
        State.rebuilds_of_unprotected (by rw [hwrite]; exact hset)
      rw [State.readSlice, hnone, hwrite]
      exact mread_mwrite _ _ _
    · rw [hwrite]; rfl
    · rw [hwrite]; exact mbyte_mwrite_out ha
  case pair =>
    intro s m q o d p hset hmem hlost hmq ho
    have hwrite : (s.writeSlice m o d).hbm = mwrite (mwrite s.hbm (slicePa m o) d) (slicePa q o) d := by
      simp [State.writeSlice, State.rebuilds_of_pair hset (by simp [hmem]), hset, hmem, hlost]
    rw [hwrite]
    exact ⟨by rw [mread_mwrite_slice_ne hmq _ _ ho ho, mread_mwrite], mread_mwrite _ _ _⟩
  case coded =>
    intro s a b c e q m o d p hset hmem hlost hd hm ho hpar
    have hq : codedParity p = q := by simp [codedParity, hmem]
    have hmq : m ≠ q := ne_parity_of_mem_data hd hm
    have hwrite := State.writeSlice_coded hset (by simp [hmem]) hlost (by rw [hq]; exact hmq.symm) o d
    rw [hq] at hwrite
    refine ⟨hpar.update hd hm (fun k o' ho' hk hkq => ?_) (fun o' ho' => ?_), ?_⟩
    · rw [hwrite, (mbyte_coded_write s.hbm d hmq ho ho').1 k hkq, mbyte_mwrite_slice _ _ _ _ _ _ ho ho', dif_neg fun h => hk h.1]
    · rw [hwrite, (mbyte_coded_write s.hbm d hmq ho ho').2, (mbyte_coded_write s.hbm d hmq ho ho').1 m hmq]
    · rw [hwrite, mread_mwrite_slice_ne hmq _ _ (by simpa [xorBytes] using ho) ho, mread_mwrite]
  case rebuilt =>
    intro s a b c e q m o n p hset hmem hlost hd hm ho hpar
    have hmq : m ≠ q := ne_parity_of_mem_data hd hm
    have hrebuilds : s.rebuilds q = some (p, m) := by simp [State.rebuilds, hset, hmem, hlost, codedParity, hmq]
    have hothers : codedOthers p m = [a, b, c, e].filter (fun x => x != m) := by simp [codedOthers, hmem]
    have hread : s.readSlice q o n = ([a, b, c, e].filter (fun x => x != m)).foldl
        (fun acc k => xorBytes acc (mread s.hbm (slicePa k o) n)) (mread s.hbm (slicePa q o) n) := by
      simp only [State.readSlice, hrebuilds, hothers]
    rw [hread, mread_eq_map, foldl_xorBytes_mread]
    refine (List.map_congr_left fun i hi => ?_).trans (mread_eq_map _ _ _).symm
    have hi' : i < n := List.mem_range.1 hi
    have hat : ∀ k, slicePa k o + i = slicePa k (o + i) := fun k => by unfold slicePa; omega
    rw [hat, hat]
    exact hpar.data_of_others hd hm (by omega)

end Sys2Proof.Machine

namespace Sys2Proof.Machine

/-! ## Steps that change registers alone -/

theorem OnlyRegs.rfl' (s : State) : OnlyRegs s s := rfl

theorem OnlyRegs.trans {s t u : State} (h : OnlyRegs s t) (g : OnlyRegs t u) : OnlyRegs s u := by
  unfold OnlyRegs at h g ⊢; rw [h] at g; exact g

theorem onlyRegs_setReg (s : State) (c v : Nat) : OnlyRegs s (s.setReg c v) := rfl

theorem onlyRegs_voidSweep (s : State) : OnlyRegs s s.voidSweep := by
  unfold OnlyRegs State.voidSweep; split_ifs <;> rfl

/-- From `s` to `t` only registers of `P` change, and whether the sweep under way is void. -/
def OnlyRegsOf (P : Nat → Prop) (s t : State) : Prop := OnlyRegs s t ∧ ∀ r, ¬ P r → t.reg r = s.reg r

theorem OnlyRegsOf.rfl' (P : Nat → Prop) (s : State) : OnlyRegsOf P s s := ⟨OnlyRegs.rfl' s, fun _ _ => rfl⟩

theorem OnlyRegsOf.trans {P : Nat → Prop} {s t u : State} (h : OnlyRegsOf P s t) (g : OnlyRegsOf P t u) : OnlyRegsOf P s u :=
  ⟨h.1.trans g.1, fun r hr => (g.2 r hr).trans (h.2 r hr)⟩

theorem onlyRegsOf_setReg {P : Nat → Prop} (s : State) {c : Nat} (hc : P c) (v : Nat) : OnlyRegsOf P s (s.setReg c v) :=
  ⟨onlyRegs_setReg s c v, fun r hr => State.reg_setReg_ne s (by rintro rfl; exact hr hc) v⟩

theorem onlyRegsOf_setFld {P : Nat → Prop} (s : State) {c : Nat} (hc : P c) (lo wd v : Nat) : OnlyRegsOf P s (s.setFld c lo wd v) :=
  onlyRegsOf_setReg s hc _

theorem onlyRegsOf_voidSweep (P : Nat → Prop) (s : State) : OnlyRegsOf P s s.voidSweep :=
  ⟨onlyRegs_voidSweep s, fun _ _ => by simp⟩

theorem onlyRegsOf_writeFld {P : Nat → Prop} (s : State) {c : Nat} (hc : P c) (lo wd v : Nat) : OnlyRegsOf P s (s.writeFld c lo wd v) :=
  (onlyRegsOf_setFld s hc lo wd v).trans (onlyRegsOf_voidSweep P _)

theorem onlyRegsOf_foldS {P : Nat → Prop} {β : Type} (l : List β) (s : State) (f : State → β → State)
    (hf : ∀ st, ∀ a ∈ l, OnlyRegsOf P st (f st a)) : OnlyRegsOf P s (foldS l s f) :=
  List.foldlRecOn (motive := OnlyRegsOf P s) l f (OnlyRegsOf.rfl' P s) fun st hst a ha => hst.trans (hf st a ha)

/-- A row that either changes registers of `P` alone or leaves the state. -/
theorem onlyRegsOf_of_ite {P : Nat → Prop} {s t u : State} {c : Prop} [Decidable c] (hu : OnlyRegsOf P s u)
    (h : (if c then stay s else .next u) = .next t) : OnlyRegsOf P s t := by
  split at h <;> cases h
  · exact OnlyRegsOf.rfl' P s
  · exact hu

theorem onlyRegsOf_of_ite' {P : Nat → Prop} {s t u : State} {c : Prop} [Decidable c] (hu : OnlyRegsOf P s u)
    (h : (if c then .next u else stay s) = .next t) : OnlyRegsOf P s t := by
  split at h <;> cases h
  · exact hu
  · exact OnlyRegsOf.rfl' P s

/-- The registers of the sticky log (R651): ERR_STAT and the 64 slots of two words. -/
def isErrLogReg (r : Nat) : Prop := r = rErrStat ∨ ∃ k, k < 128 ∧ r = 0x30100 + 8 * k

theorem errClear_onlyRegsOf (s : State) : OnlyRegsOf isErrLogReg s s.errClear :=
  ((onlyRegsOf_foldS _ _ _ fun st k hk => onlyRegsOf_setReg st (.inr ⟨k, List.mem_range.1 hk, rfl⟩) 0).trans
    (onlyRegsOf_setFld _ (.inl rfl) _ _ _)).trans (onlyRegsOf_setFld _ (.inl rfl) _ _ _)

/-- Settles O57: each of the rows is a chain of register writes, or leaves the state. -/
theorem settingRowsChangeTheirRegister : Obligations.SettingRowsChangeTheirRegister := by
  refine ⟨?weights, ?power, ?check, ?own, ?others, ?log⟩
  case weights => exact fun s t d w h => onlyRegsOf_of_ite (onlyRegsOf_writeFld s (P := (· = rQosWt d)) rfl _ _ _) h
  case power => exact fun s t v h => onlyRegsOf_of_ite' (onlyRegsOf_writeFld s (P := (· = rRgnPwr)) rfl _ _ _) h
  case check =>
    intro s t v h
    obtain ⟨hregs, hother⟩ := onlyRegsOf_of_ite' (onlyRegsOf_setFld s (P := (· = rCfgCtl)) rfl 0 1 (b2n v)) h
    refine ⟨hregs, hother, fun lo wd hlo hwd => ?_⟩
    change (if s.clasp.rails = true then Host.Outcome.next (s.setFld rCfgCtl 0 1 (b2n v)) else stay s) = .next t at h
    split at h <;> cases h
    · exact State.fld_setFld_ne s hlo (.inr (by omega)) _
    · rfl
  case own =>
    intro s t h hexec
    obtain ⟨hregs, hother⟩ := onlyRegsOf_of_ite (P := fun r => ∃ k, k < 4 ∧ r = rLatOwn h k)
      (onlyRegsOf_foldS _ s _ fun st k hk => onlyRegsOf_setReg st ⟨k, List.mem_range.1 hk, rfl⟩ 0) hexec
    exact ⟨hregs, fun r hr => hother r fun ⟨k, hk, he⟩ => hr k hk he⟩
  case others =>
    intro s t h hexec
    obtain ⟨hregs, hother⟩ := onlyRegsOf_of_ite (P := fun r => ∃ k, k < 4 ∧ r = rLatOth h k)
      (onlyRegsOf_foldS _ s _ fun st k hk => onlyRegsOf_setReg st ⟨k, List.mem_range.1 hk, rfl⟩ 0) hexec
    exact ⟨hregs, fun r hr => hother r fun ⟨k, hk, he⟩ => hr k hk he⟩
  case log =>
    intro s t h
    obtain ⟨hregs, hother⟩ := onlyRegsOf_of_ite' (errClear_onlyRegsOf s) h
    exact ⟨hregs, fun r hr hr' => hother r fun hlog => hlog.elim hr fun ⟨k, hk, he⟩ => hr' k hk he⟩

/-! ## Fields of a register (R17) -/

/-- Fields stand in rising order, without overlap. -/
def Rising (l : List Fld) : Prop := l.Pairwise (fun f g => f.lo + f.wd ≤ g.lo)

theorem Rising.ite {c : Prop} [Decidable c] {l m : List Fld} (hl : Rising l) (hm : Rising m) : Rising (if c then l else m) := by
  split <;> assumption

/-- So do those of every register. -/
theorem fieldsOf_rising (c : Nat) : Rising (fieldsOf c) := by
  unfold fieldsOf
  repeat' refine Rising.ite ?_ ?_
  all_goals
    unfold Rising
    decide

/-- One field's part of a write (R17). -/
def writeOne (v mask acc : Nat) (f : Fld) : Nat :=
  if bits mask f.lo f.wd = 2 ^ f.wd - 1 then setBits acc f.lo f.wd (writeField f (bits acc f.lo f.wd) (bits v f.lo f.wd)) else acc

theorem State.writeStored_eq (s : State) (c v mask : Nat) : s.writeStored c v mask = (fieldsOf c).foldl (writeOne v mask) (s.reg c) := rfl

/-- The bits that a field's part of a write leaves alone. -/
theorem testBit_writeOne {f : Fld} {i : Nat} (h : i < f.lo ∨ f.lo + f.wd ≤ i) (v mask acc : Nat) :
    (writeOne v mask acc f).testBit i = acc.testBit i := by
  unfold writeOne
  split
  · rw [testBit_setBits]
    split_ifs with hlow hin
    · rfl
    · omega
    · rfl
  · rfl

theorem testBit_foldl_writeOne (v mask i : Nat) (l : List Fld) (h : ∀ f ∈ l, i < f.lo ∨ f.lo + f.wd ≤ i) (acc : Nat) :
    (l.foldl (writeOne v mask) acc).testBit i = acc.testBit i :=
  List.foldlRecOn (motive := fun a : Nat => a.testBit i = acc.testBit i) l _ rfl fun _ ha f hf => (testBit_writeOne (h f hf) v mask _).trans ha

/-- A field stands under the parts of the write that are below or above it. -/
theorem bits_foldl_writeOne {f : Fld} (v mask : Nat) (l : List Fld) (h : ∀ g ∈ l, f.lo + f.wd ≤ g.lo ∨ g.lo + g.wd ≤ f.lo) (acc : Nat) :
    bits (l.foldl (writeOne v mask) acc) f.lo f.wd = bits acc f.lo f.wd := by
  refine Nat.eq_of_testBit_eq fun i => ?_
  rw [testBit_bits, testBit_bits]
  by_cases hi : i < f.wd
  · rw [testBit_foldl_writeOne v mask _ l fun g hg => by rcases h g hg with h | h <;> omega]
  · simp [hi]

/-- What a write leaves in one of the register's fields is what the field's own part leaves there. -/
theorem State.bits_writeStored (s : State) {c : Nat} {f : Fld} (hf : f ∈ fieldsOf c) (v mask : Nat) :
    bits (s.writeStored c v mask) f.lo f.wd = bits (writeOne v mask (s.reg c) f) f.lo f.wd := by
  obtain ⟨before, after, hsplit⟩ := List.append_of_mem hf
  have hrising := fieldsOf_rising c
  rw [hsplit] at hrising
  obtain ⟨_, htail, hcross⟩ := List.pairwise_append.1 hrising
  have habove : ∀ g ∈ after, f.lo + f.wd ≤ g.lo ∨ g.lo + g.wd ≤ f.lo := fun g hg => .inl (List.rel_of_pairwise_cons htail hg)
  have hbelow : ∀ g ∈ before, f.lo + f.wd ≤ g.lo ∨ g.lo + g.wd ≤ f.lo := fun g hg => .inr (hcross g hg f (by simp))
  rw [State.writeStored_eq, hsplit, List.foldl_append, List.foldl_cons, bits_foldl_writeOne v mask after habove]
  rw [writeOne, writeOne, bits_foldl_writeOne v mask before hbelow]
  split
  · rw [bits_setBits_self, bits_setBits_self]
  · exact bits_foldl_writeOne v mask before hbelow _

theorem bits_lt (n lo w : Nat) : bits n lo w < 2 ^ w := by
  rw [bits_eq]; exact Nat.mod_lt _ (by positivity)

/-- A field's new value fits the field. -/
theorem writeField_lt {f : Fld} {a b : Nat} (ha : a < 2 ^ f.wd) (hb : b < 2 ^ f.wd) : writeField f a b < 2 ^ f.wd := by
  unfold writeField
  split
  · exact hb
  · exact hb
  · exact hb
  · exact Nat.lt_of_le_of_lt Nat.and_le_left ha
  · exact Nat.or_lt_two_pow ha hb
  · exact ha

theorem State.bits_writeStored_of_reached (s : State) {c : Nat} {f : Fld} (hf : f ∈ fieldsOf c) (v : Nat) {mask : Nat}
    (hmask : bits mask f.lo f.wd = 2 ^ f.wd - 1) :
    bits (s.writeStored c v mask) f.lo f.wd = writeField f (bits (s.reg c) f.lo f.wd) (bits v f.lo f.wd) := by
  rw [s.bits_writeStored hf, writeOne, if_pos hmask, bits_setBits_self]
  exact Nat.mod_eq_of_lt (writeField_lt (bits_lt _ _ _) (bits_lt _ _ _))

theorem State.bits_writeStored_of_not_reached (s : State) {c : Nat} {f : Fld} (hf : f ∈ fieldsOf c) (v : Nat) {mask : Nat}
    (hmask : bits mask f.lo f.wd ≠ 2 ^ f.wd - 1) :
    bits (s.writeStored c v mask) f.lo f.wd = bits (s.reg c) f.lo f.wd := by
  rw [s.bits_writeStored hf, writeOne, if_neg hmask]

/-- The part of a field in what a read returns; WO fields read 0 (R17). -/
def State.readOne (s : State) (c v : Nat) (f : Fld) : Nat := if f.acc = .wo then v else v + s.fld c f.lo f.wd * 2 ^ f.lo

theorem State.readReg_of_not_live {s : State} {c : Nat} (h : s.live c = none) : s.readReg c = (fieldsOf c).foldl (s.readOne c) 0 := by
  simp only [State.readReg, h]; rfl

/-- Fields put together in rising order leave a bit 0 that none of them but a WO one covers. -/
theorem State.testBit_foldl_readOne (s : State) (c i : Nat) (l : List Fld) (hrising : Rising l)
    (hout : ∀ f ∈ l, f.acc = .wo ∨ i < f.lo ∨ f.lo + f.wd ≤ i) (v : Nat) (hv : ∀ f ∈ l, v < 2 ^ f.lo) (hbit : v.testBit i = false) :
    (l.foldl (s.readOne c) v).testBit i = false := by
  induction l generalizing v with
  | nil => exact hbit
  | cons f l ih =>
    obtain ⟨habove, hrising'⟩ := List.pairwise_cons.1 hrising
    have hvf : v < 2 ^ f.lo := hv f (by simp)
    have hfld : s.fld c f.lo f.wd < 2 ^ f.wd := bits_lt _ _ _
    have hout' := fun g hg => hout g (List.mem_cons_of_mem f hg)
    have hv' := fun g hg => hv g (List.mem_cons_of_mem f hg)
    rw [List.foldl_cons, State.readOne]
    split
    · exact ih hrising' hout' v hv' hbit
    · next hwo =>
      refine ih hrising' hout' _ (fun g hg => ?_) ?_
      · calc v + s.fld c f.lo f.wd * 2 ^ f.lo < 2 ^ f.lo + s.fld c f.lo f.wd * 2 ^ f.lo := by omega
          _ = (s.fld c f.lo f.wd + 1) * 2 ^ f.lo := by ring
          _ ≤ 2 ^ f.wd * 2 ^ f.lo := Nat.mul_le_mul_right _ hfld
          _ = 2 ^ (f.lo + f.wd) := by rw [Nat.pow_add, Nat.mul_comm]
          _ ≤ 2 ^ g.lo := Nat.pow_le_pow_right (by omega) (habove g hg)
      · rw [Nat.add_comm, Nat.mul_comm, Nat.testBit_two_pow_mul_add _ hvf]
        split
        · exact hbit
        · have hi : f.lo + f.wd ≤ i := by
            have hcases := (hout f (by simp)).resolve_left hwo
            omega
          exact Nat.testBit_lt_two_pow (Nat.lt_of_lt_of_le hfld (Nat.pow_le_pow_right (by omega) (by omega)))

/-- A plain register's write stores the new value; it may void the sweep under way. -/
theorem State.regWrite_plain (s : State) {c : Nat} (v mask : Nat)
    (hc : c ∉ [rCorrCtl, rCfgCtl, rMgmtqRing, rPwrLimit, rErrStat, rPwrGroup]) (hhome : ¬ (0x100000 ≤ c ∧ c < 0x110000))
    (hcopy : ¬ (0x50000 ≤ c ∧ c < 0x60000)) :
    s.regWrite c v mask = (s.setReg c (s.writeStored c v mask)).voidSweep ∨ s.regWrite c v mask = s.setReg c (s.writeStored c v mask) := by
  simp only [List.mem_cons, List.not_mem_nil, or_false, not_or] at hc
  obtain ⟨h1, h2, h3, h4, h5, h6⟩ := hc
  have hlat : ¬ (0x100000 ≤ c ∧ c < 0x110000 ∧ c % 0x80 = 0x40) := fun h => hhome ⟨h.1, h.2.1⟩
  have hch : ¬ (0x50000 ≤ c ∧ c < 0x60000 ∧ c % 0x400 < 0x200 ∧ c % 0x20 = 0) := fun h => hcopy ⟨h.1, h.2.1⟩
  simp only [State.regWrite, h1, h2, h3, h4, h5, h6, hlat, hch, if_false, false_and]
  split_ifs <;> simp

/-- Settles O56: a write acts field by field, and the fields of a register do not overlap. -/
theorem registerFieldsFollowTheirAccess : Obligations.RegisterFieldsFollowTheirAccess := by
  refine ⟨?reached, ?notReached, ?outside, ?read, ?plain⟩
  case reached =>
    intro s c v mask f hf hmask
    rw [s.bits_writeStored_of_reached hf v hmask, writeField]
    cases f.acc <;> rfl
  case notReached => exact fun s c v mask f hf hmask => s.bits_writeStored_of_not_reached hf v hmask
  case outside => exact fun s c v mask i hout => testBit_foldl_writeOne v mask i _ hout _
  case read =>
    intro s c i hlive hout
    rw [State.readReg_of_not_live hlive]
    exact s.testBit_foldl_readOne c i _ (fieldsOf_rising c) hout 0 (fun f _ => by positivity) (by simp)
  case plain =>
    intro s c v mask hc hhome hcopy
    obtain h | h := s.regWrite_plain v mask hc hhome hcopy <;> rw [h]
    · obtain ⟨hregs, hother⟩ := (onlyRegsOf_setReg s (P := (· = c)) rfl (s.writeStored c v mask)).trans (onlyRegsOf_voidSweep _ _)
      exact ⟨by simp, hregs, hother⟩
    · obtain ⟨hregs, hother⟩ := onlyRegsOf_setReg s (P := (· = c)) rfl (s.writeStored c v mask)
      exact ⟨by simp, hregs, hother⟩

end Sys2Proof.Machine

namespace Sys2Proof.Machine

/-! ## What `exec` runs for each command whose row is settled below

One equation per command: a row's proof rewrites by its command's and need not unfold `exec`, whose
match has a case for every command of the machine. -/

theorem exec_eq_retireAck (slice line) (s : State) :
    exec (.retireAck slice line) s = execRetireAck slice line s := rfl
theorem exec_eq_grantData (slice line victim) (s : State) :
    exec (.grantData slice line victim) s = execGrantData slice line victim s := rfl
theorem exec_eq_prbData (slice line) (s : State) :
    exec (.prbData slice line) s = execPrbData slice line s := rfl
theorem exec_eq_prbMiss (slice line) (s : State) :
    exec (.prbMiss slice line) s = execPrbMiss slice line s := rfl
theorem exec_eq_retireDirty (slice line) (s : State) :
    exec (.retireDirty slice line) s = execRetireDirty slice line s := rfl
theorem exec_eq_retireClean (slice line) (s : State) :
    exec (.retireClean slice line) s = execRetireClean slice line s := rfl
theorem exec_eq_grantAck (line) (s : State) : exec (.grantAck line) s = execGrantAck line s := rfl
theorem exec_eq_rqExecute (core) (s : State) : exec (.rqExecute core) s = execRqExecute core s := rfl
theorem exec_eq_mmaExecute (core) (s : State) :
    exec (.mmaExecute core) s = execMmaExecute core s := rfl
theorem exec_eq_tileDmaBurstComplete (req) (s : State) :
    exec (.tileDmaBurstComplete req) s = execTileDmaBurstComplete req s := rfl
theorem exec_eq_scriptEntryIssue (core slot lane) (s : State) :
    exec (.scriptEntryIssue core slot lane) s = execScriptEntryIssue core slot lane s := rfl
theorem exec_eq_fenceOffer (offer) (s : State) :
    exec (.fenceOffer offer) s = execFenceOffer offer s := rfl
theorem exec_eq_fwaitTimeout (core slot) (s : State) :
    exec (.fwaitTimeout core slot) s = execFwaitTimeout core slot s := rfl
theorem exec_eq_fwaitPoll (core slot) (s : State) :
    exec (.fwaitPoll core slot) s = execFwaitPoll core slot s := rfl
theorem exec_eq_barrierArrival (msg) (s : State) :
    exec (.barrierArrival msg) s = execBarrierArrival msg s := rfl
theorem exec_eq_storeCompletion (req) (s : State) :
    exec (.storeCompletion req) s = execStoreCompletion req s := rfl
theorem exec_eq_siftAccept (sift) (s : State) :
    exec (.siftAccept sift) s = execSiftAccept sift s := rfl
theorem exec_eq_siftStart (unit) (s : State) : exec (.siftStart unit) s = execSiftStart unit s := rfl
theorem exec_eq_siftComplete (unit) (s : State) :
    exec (.siftComplete unit) s = execSiftComplete unit s := rfl
theorem exec_eq_faultHoldExpiry (ctx) (s : State) :
    exec (.faultHoldExpiry ctx) s = execFaultHoldExpiry ctx s := rfl
theorem exec_eq_safeguardUpdateComplete (upd) (s : State) :
    exec (.safeguardUpdateComplete upd) s = execSafeguardUpdateComplete upd s := rfl
theorem exec_eq_ctxFault (core slot) (s : State) :
    exec (.ctxFault core slot) s = execCtxFault core slot s := rfl
theorem exec_eq_contextSwitch (core) (s : State) :
    exec (.contextSwitch core) s = execContextSwitch core s := rfl
theorem exec_eq_quantumExpiry (core) (s : State) :
    exec (.quantumExpiry core) s = execQuantumExpiry core s := rfl
theorem exec_eq_waitSwExpiry (core) (s : State) :
    exec (.waitSwExpiry core) s = execWaitSwExpiry core s := rfl
theorem exec_eq_rtContextReady (core slot) (s : State) :
    exec (.rtContextReady core slot) s = execRtContextReady core slot s := rfl
theorem exec_eq_rtMiss (ctx) (s : State) : exec (.rtMiss ctx) s = execRtMiss ctx s := rfl
theorem exec_eq_shareSet (queue) (s : State) : exec (.shareSet queue) s = execShareSet queue s := rfl
theorem exec_eq_acctRead (queue) (s : State) : exec (.acctRead queue) s = execAcctRead queue s := rfl
theorem exec_eq_rtRelease (queue) (s : State) :
    exec (.rtRelease queue) s = execRtRelease queue s := rfl
theorem exec_eq_rtAdmit (queue) (s : State) : exec (.rtAdmit queue) s = execRtAdmit queue s := rfl
theorem exec_eq_doorbellSnoop (queue line) (s : State) :
    exec (.doorbellSnoop queue line) s = execDoorbellSnoop queue line s := rfl
theorem exec_eq_doorbellRefetch (queue) (s : State) :
    exec (.doorbellRefetch queue) s = execDoorbellRefetch queue s := rfl
theorem exec_eq_doorbellPoll (queue) (s : State) :
    exec (.doorbellPoll queue) s = execDoorbellPoll queue s := rfl
theorem exec_eq_commandFetch (queue) (s : State) :
    exec (.commandFetch queue) s = execCommandFetch queue s := rfl
theorem exec_eq_commandWaitSatisfied (queue) (s : State) :
    exec (.commandWaitSatisfied queue) s = execCommandWaitSatisfied queue s := rfl
theorem exec_eq_commandComplete (queue) (s : State) :
    exec (.commandComplete queue) s = execCommandComplete queue s := rfl
theorem exec_eq_refCountSubtract (sub hostError) (s : State) :
    exec (.refCountSubtract sub hostError) s = execRefCountSubtract sub hostError s := rfl
theorem exec_eq_safeSet (queue) (s : State) : exec (.safeSet queue) s = execSafeSet queue s := rfl
theorem exec_eq_reseed (queue) (s : State) : exec (.reseed queue) s = execReseed queue s := rfl
theorem exec_eq_progLoad (queue) (s : State) : exec (.progLoad queue) s = execProgLoad queue s := rfl
theorem exec_eq_progUnload (queue) (s : State) :
    exec (.progUnload queue) s = execProgUnload queue s := rfl
theorem exec_eq_nop (queue) (s : State) : exec (.nop queue) s = execNop queue s := rfl
theorem exec_eq_signal (queue) (s : State) : exec (.signal queue) s = execSignal queue s := rfl
theorem exec_eq_sieveFlush (queue) (s : State) :
    exec (.sieveFlush queue) s = execSieveFlush queue s := rfl
theorem exec_eq_launch (queue) (s : State) : exec (.launch queue) s = execLaunch queue s := rfl
theorem exec_eq_launchStart (queue) (s : State) :
    exec (.launchStart queue) s = execLaunchStart queue s := rfl
theorem exec_eq_activationComplete (ctx) (s : State) :
    exec (.activationComplete ctx) s = execActivationComplete ctx s := rfl
theorem exec_eq_copy (queue) (s : State) : exec (.copy queue) s = execCopy queue s := rfl
theorem exec_eq_ctxCreate (queue) (s : State) :
    exec (.ctxCreate queue) s = execCtxCreate queue s := rfl
theorem exec_eq_ctxDestroy (queue) (s : State) :
    exec (.ctxDestroy queue) s = execCtxDestroy queue s := rfl
theorem exec_eq_ctxReset (queue) (s : State) : exec (.ctxReset queue) s = execCtxReset queue s := rfl
theorem exec_eq_resume (queue) (s : State) : exec (.resume queue) s = execResume queue s := rfl
theorem exec_eq_queueCreate (queue) (s : State) :
    exec (.queueCreate queue) s = execQueueCreate queue s := rfl
theorem exec_eq_queueDestroy (queue) (s : State) :
    exec (.queueDestroy queue) s = execQueueDestroy queue s := rfl
theorem exec_eq_evringCreate (queue) (s : State) :
    exec (.evringCreate queue) s = execEvringCreate queue s := rfl
theorem exec_eq_evringDestroy (queue) (s : State) :
    exec (.evringDestroy queue) s = execEvringDestroy queue s := rfl
theorem exec_eq_chanAssign (queue) (s : State) :
    exec (.chanAssign queue) s = execChanAssign queue s := rfl
theorem exec_eq_eventRingConsumed (ring count) (s : State) :
    exec (.eventRingConsumed ring count) s = execEventRingConsumed ring count s := rfl
theorem exec_eq_mgmtqEnable (v) (s : State) : exec (.mgmtqEnable v) s = execMgmtqEnable v s := rfl
theorem exec_eq_invalidate (queue) (s : State) :
    exec (.invalidate queue) s = execInvalidate queue s := rfl
theorem exec_eq_invalidateDrained (queue) (s : State) :
    exec (.invalidateDrained queue) s = execInvalidateDrained queue s := rfl
theorem exec_eq_invSlow (queue) (s : State) : exec (.invSlow queue) s = execInvSlow queue s := rfl
theorem exec_eq_migrate (queue) (s : State) : exec (.migrate queue) s = execMigrate queue s := rfl
theorem exec_eq_migrateCopyComplete (queue) (s : State) :
    exec (.migrateCopyComplete queue) s = execMigrateCopyComplete queue s := rfl
theorem exec_eq_advise (queue) (s : State) : exec (.advise queue) s = execAdvise queue s := rfl
theorem exec_eq_frameSet (queue) (s : State) : exec (.frameSet queue) s = execFrameSet queue s := rfl
theorem exec_eq_biasTakebackDone (queue) (s : State) :
    exec (.biasTakebackDone queue) s = execBiasTakebackDone queue s := rfl
theorem exec_eq_walkComplete (walk) (s : State) :
    exec (.walkComplete walk) s = execWalkComplete walk s := rfl
theorem exec_eq_copyDescriptorStart (chan) (s : State) :
    exec (.copyDescriptorStart chan) s = execCopyDescriptorStart chan s := rfl
theorem exec_eq_copyWaitSatisfied (chan) (s : State) :
    exec (.copyWaitSatisfied chan) s = execCopyWaitSatisfied chan s := rfl
theorem exec_eq_copyBurstIssue (engine) (s : State) :
    exec (.copyBurstIssue engine) s = execCopyBurstIssue engine s := rfl
theorem exec_eq_copyBurstComplete (chan burst) (s : State) :
    exec (.copyBurstComplete chan burst) s = execCopyBurstComplete chan burst s := rfl
theorem exec_eq_copyDescriptorEnd (chan) (s : State) :
    exec (.copyDescriptorEnd chan) s = execCopyDescriptorEnd chan s := rfl
theorem exec_eq_cpyRestart (chan resume) (s : State) :
    exec (.cpyRestart chan resume) s = execCpyRestart chan resume s := rfl
theorem exec_eq_cpyStream (chan v) (s : State) :
    exec (.cpyStream chan v) s = execCpyStream chan v s := rfl
theorem exec_eq_cpyMaxbuf (chan v) (s : State) :
    exec (.cpyMaxbuf chan v) s = execCpyMaxbuf chan v s := rfl
theorem exec_eq_powerControlTick (p fixed pinned) (s : State) :
    exec (.powerControlTick p fixed pinned) s = execPowerControlTick p fixed pinned s := rfl
theorem exec_eq_railRampDone (island) (s : State) :
    exec (.railRampDone island) s = execRailRampDone island s := rfl
theorem exec_eq_clockStepDone (island) (s : State) :
    exec (.clockStepDone island) s = execClockStepDone island s := rfl
theorem exec_eq_droopAssert (island) (s : State) :
    exec (.droopAssert island) s = execDroopAssert island s := rfl
theorem exec_eq_droopClear (island) (s : State) :
    exec (.droopClear island) s = execDroopClear island s := rfl
theorem exec_eq_supplyWarning (supply mv) (s : State) :
    exec (.supplyWarning supply mv) s = execSupplyWarning supply mv s := rfl
theorem exec_eq_supplyRelease (supply lowest) (s : State) :
    exec (.supplyRelease supply lowest) s = execSupplyRelease supply lowest s := rfl
theorem exec_eq_wearGaugeReading (domain need agreeHours) (s : State) :
    exec (.wearGaugeReading domain need agreeHours) s = execWearGaugeReading domain need agreeHours s := rfl
theorem exec_eq_powerSet (queue) (s : State) : exec (.powerSet queue) s = execPowerSet queue s := rfl
theorem exec_eq_energyWatch (queue) (s : State) :
    exec (.energyWatch queue) s = execEnergyWatch queue s := rfl
theorem exec_eq_report (link payload) (s : State) :
    exec (.report link payload) s = execReport link payload s := rfl
theorem exec_eq_leaderAssign (s : State) : exec (.leaderAssign) s = execLeaderAssign s := rfl
theorem exec_eq_assign (link payload) (s : State) :
    exec (.assign link payload) s = execAssign link payload s := rfl
theorem exec_eq_folioCreate (queue) (s : State) :
    exec (.folioCreate queue) s = execFolioCreate queue s := rfl
theorem exec_eq_folioDestroy (queue) (s : State) :
    exec (.folioDestroy queue) s = execFolioDestroy queue s := rfl
theorem exec_eq_sliceAttach (queue) (s : State) :
    exec (.sliceAttach queue) s = execSliceAttach queue s := rfl
theorem exec_eq_sliceDetach (queue) (s : State) :
    exec (.sliceDetach queue) s = execSliceDetach queue s := rfl
theorem exec_eq_sliceTransfer (queue) (s : State) :
    exec (.sliceTransfer queue) s = execSliceTransfer queue s := rfl
theorem exec_eq_sliceMove (queue) (s : State) :
    exec (.sliceMove queue) s = execSliceMove queue s := rfl
theorem exec_eq_scrubComplete (slice) (s : State) :
    exec (.scrubComplete slice) s = execScrubComplete slice s := rfl
theorem exec_eq_confSliceInitComplete (slice) (s : State) :
    exec (.confSliceInitComplete slice) s = execConfSliceInitComplete slice s := rfl
theorem exec_eq_sliceMoveCopyComplete (slice) (s : State) :
    exec (.sliceMoveCopyComplete slice) s = execSliceMoveCopyComplete slice s := rfl
theorem exec_eq_setProtect (queue) (s : State) :
    exec (.setProtect queue) s = execSetProtect queue s := rfl
theorem exec_eq_peerSet (queue) (s : State) : exec (.peerSet queue) s = execPeerSet queue s := rfl
theorem exec_eq_linkShare (queue) (s : State) :
    exec (.linkShare queue) s = execLinkShare queue s := rfl
theorem exec_eq_folioQuery (queue) (s : State) :
    exec (.folioQuery queue) s = execFolioQuery queue s := rfl
theorem exec_eq_folioRing (queue) (s : State) :
    exec (.folioRing queue) s = execFolioRing queue s := rfl
theorem exec_eq_mirrorMemberLoss (slice) (s : State) :
    exec (.mirrorMemberLoss slice) s = execMirrorMemberLoss slice s := rfl
theorem exec_eq_codedMemberLoss (slice) (s : State) :
    exec (.codedMemberLoss slice) s = execCodedMemberLoss slice s := rfl
theorem exec_eq_secondLoss (slice) (s : State) :
    exec (.secondLoss slice) s = execSecondLoss slice s := rfl
theorem exec_eq_peerLossDrainExpiry (peer folio) (s : State) :
    exec (.peerLossDrainExpiry peer folio) s = execPeerLossDrainExpiry peer folio s := rfl
theorem exec_eq_stitchRead (link hdr payload) (s : State) :
    exec (.stitchRead link hdr payload) s = execStitchRead link hdr payload s := rfl
theorem exec_eq_stitchWrite (link hdr payload) (s : State) :
    exec (.stitchWrite link hdr payload) s = execStitchWrite link hdr payload s := rfl
theorem exec_eq_stitchAtomic (link hdr payload) (s : State) :
    exec (.stitchAtomic link hdr payload) s = execStitchAtomic link hdr payload s := rfl
theorem exec_eq_stitchFenceOffer (link hdr payload) (s : State) :
    exec (.stitchFenceOffer link hdr payload) s = execStitchFenceOffer link hdr payload s := rfl
theorem exec_eq_stitchMirrorWrite (link hdr payload) (s : State) :
    exec (.stitchMirrorWrite link hdr payload) s = execStitchMirrorWrite link hdr payload s := rfl
theorem exec_eq_stitchCreditReturn (link hdr payload) (s : State) :
    exec (.stitchCreditReturn link hdr payload) s = execStitchCreditReturn link hdr payload s := rfl
theorem exec_eq_stitchDiscard (link hdr payload) (s : State) :
    exec (.stitchDiscard link hdr payload) s = execStitchDiscard link hdr payload s := rfl
theorem exec_eq_stitchBarrier (link hdr payload) (s : State) :
    exec (.stitchBarrier link hdr payload) s = execStitchBarrier link hdr payload s := rfl
theorem exec_eq_stitchCompletionData (link hdr payload) (s : State) :
    exec (.stitchCompletionData link hdr payload) s = execStitchCompletionData link hdr payload s := rfl
theorem exec_eq_stitchCompletion (link hdr payload) (s : State) :
    exec (.stitchCompletion link hdr payload) s = execStitchCompletion link hdr payload s := rfl
theorem exec_eq_uncorrectableUnitError (unit code loc addr fatal) (s : State) :
    exec (.uncorrectableUnitError unit code loc addr fatal) s = execUncorrectableUnitError unit code loc addr fatal s := rfl
theorem exec_eq_engineReset (queue) (s : State) :
    exec (.engineReset queue) s = execEngineReset queue s := rfl
theorem exec_eq_folioReset (queue) (s : State) :
    exec (.folioReset queue) s = execFolioReset queue s := rfl
theorem exec_eq_folioResetDrainExpiry (folio) (s : State) :
    exec (.folioResetDrainExpiry folio) s = execFolioResetDrainExpiry folio s := rfl
theorem exec_eq_pkgReset (queue) (s : State) : exec (.pkgReset queue) s = execPkgReset queue s := rfl
theorem exec_eq_watchdogAct (ctx) (s : State) :
    exec (.watchdogAct ctx) s = execWatchdogAct ctx s := rfl
theorem exec_eq_watchdogCmdwait (queue) (s : State) :
    exec (.watchdogCmdwait queue) s = execWatchdogCmdwait queue s := rfl
theorem exec_eq_watchdogReq (req) (s : State) :
    exec (.watchdogReq req) s = execWatchdogReq req s := rfl
theorem exec_eq_pkgStandby (queue) (s : State) :
    exec (.pkgStandby queue) s = execPkgStandby queue s := rfl
theorem exec_eq_standbyExit (s : State) : exec (.standbyExit) s = execStandbyExit s := rfl
theorem exec_eq_cyclicLoad (queue) (s : State) :
    exec (.cyclicLoad queue) s = execCyclicLoad queue s := rfl
theorem exec_eq_cyclicEnter (queue) (s : State) :
    exec (.cyclicEnter queue) s = execCyclicEnter queue s := rfl
theorem exec_eq_cyclicExit (queue) (s : State) :
    exec (.cyclicExit queue) s = execCyclicExit queue s := rfl
theorem exec_eq_cyclicEntryStart (entry pass code unit) (s : State) :
    exec (.cyclicEntryStart entry pass code unit) s = execCyclicEntryStart entry pass code unit s := rfl
theorem exec_eq_cyclicOverrun (entry) (s : State) :
    exec (.cyclicOverrun entry) s = execCyclicOverrun entry s := rfl
theorem exec_eq_cxlMemRead (hpa) (s : State) : exec (.cxlMemRead hpa) s = execCxlMemRead hpa s := rfl
theorem exec_eq_cxlMemWrite (hpa off data) (s : State) :
    exec (.cxlMemWrite hpa off data) s = execCxlMemWrite hpa off data s := rfl
theorem exec_eq_cxlCacheCompletion (req err data) (s : State) :
    exec (.cxlCacheCompletion req err data) s = execCxlCacheCompletion req err data s := rfl
theorem exec_eq_hostTimeout (req) (s : State) :
    exec (.hostTimeout req) s = execHostTimeout req s := rfl
theorem exec_eq_snpData (addr) (s : State) : exec (.snpData addr) s = execSnpData addr s := rfl
theorem exec_eq_snpCur (addr) (s : State) : exec (.snpCur addr) s = execSnpCur addr s := rfl
theorem exec_eq_snpInv (addr) (s : State) : exec (.snpInv addr) s = execSnpInv addr s := rfl
theorem exec_eq_doeDiscovery (index) (s : State) :
    exec (.doeDiscovery index) s = execDoeDiscovery index s := rfl
theorem exec_eq_cdatAccess (handle) (s : State) :
    exec (.cdatAccess handle) s = execCdatAccess handle s := rfl
theorem exec_eq_getDigests (req) (s : State) : exec (.getDigests req) s = execGetDigests req s := rfl
theorem exec_eq_getCertificate (req) (s : State) :
    exec (.getCertificate req) s = execGetCertificate req s := rfl
theorem exec_eq_challenge (req) (s : State) : exec (.challenge req) s = execChallenge req s := rfl
theorem exec_eq_getMeasurements (req) (s : State) :
    exec (.getMeasurements req) s = execGetMeasurements req s := rfl
theorem exec_eq_spdmUnsupported (req) (s : State) :
    exec (.spdmUnsupported req) s = execSpdmUnsupported req s := rfl
theorem exec_eq_getVersion (req) (s : State) : exec (.getVersion req) s = execGetVersion req s := rfl
theorem exec_eq_confKeys (queue) (s : State) : exec (.confKeys queue) s = execConfKeys queue s := rfl
theorem exec_eq_keyRotate (queue) (s : State) :
    exec (.keyRotate queue) s = execKeyRotate queue s := rfl
theorem exec_eq_keyRotateDone (folio) (s : State) :
    exec (.keyRotateDone folio) s = execKeyRotateDone folio s := rfl
theorem exec_eq_attest (queue) (s : State) : exec (.attest queue) s = execAttest queue s := rfl
theorem exec_eq_urgencyHeld (master arbKind arbIndex oldest) (s : State) :
    exec (.urgencyHeld master arbKind arbIndex oldest) s = execUrgencyHeld master arbKind arbIndex oldest s := rfl
theorem exec_eq_corrEventSample (island) (s : State) :
    exec (.corrEventSample island) s = execCorrEventSample island s := rfl
theorem exec_eq_registerWrite (off size v) (s : State) :
    exec (.registerWrite off size v) s = execRegisterWrite off size v s := rfl
theorem exec_eq_readClear (off size) (s : State) :
    exec (.readClear off size) s = execReadClear off size s := rfl
theorem exec_eq_registerAccessTimeout (off size write) (s : State) :
    exec (.registerAccessTimeout off size write) s = execRegisterAccessTimeout off size write s := rfl
theorem exec_eq_regionPowerDown (island) (s : State) :
    exec (.regionPowerDown island) s = execRegionPowerDown island s := rfl
theorem exec_eq_getCapabilities (req) (s : State) :
    exec (.getCapabilities req) s = execGetCapabilities req s := rfl
theorem exec_eq_negotiateAlgorithms (req) (s : State) :
    exec (.negotiateAlgorithms req) s = execNegotiateAlgorithms req s := rfl

end Sys2Proof.Machine

namespace Sys2Proof.Machine

/-! ## Snooped caches (R308, R310, R316) -/

/-- The four snoops with their commands at cache `n`. -/
def snoopRows (n line : Nat) : List (PrbKind × Instr) :=
  [(.share, .prbShare n line), (.own, .prbOwn n line), (.glance, .prbGlance n line), (.inv, .prbInv n line)]

/-- A snoop that is on its way to the cache is answered; any other leaves the state. -/
theorem exec_snoop {n line : Nat} {k : PrbKind} {c : Instr} (h : (k, c) ∈ snoopRows n line) (s : State) :
    exec c s = if s.probe? n line k then .next (s.answer n line k) else stay s := by
  simp only [snoopRows, List.mem_cons, List.not_mem_nil, or_false, Prod.mk.injEq] at h
  obtain ⟨rfl, rfl⟩ | ⟨rfl, rfl⟩ | ⟨rfl, rfl⟩ | ⟨rfl, rfl⟩ := h <;> rfl

theorem exec_snoop_of_probe {n line : Nat} {k : PrbKind} {c : Instr} (h : (k, c) ∈ snoopRows n line) {s : State} (hp : s.probe? n line k = true) :
    exec c s = .next (s.answer n line k) := by rw [exec_snoop h, if_pos hp]

theorem State.answer_of_line {s : State} {n line : Nat} {l : CLine} (h : tget line (s.cache n).lines = some l) (k : PrbKind) :
    s.answer n line k = s.setCache n { s.cache n with
      probes := tdel line (s.cache n).probes
      lines := match afterProbe k l.st with | some st => tput line { l with st } (s.cache n).lines | none => tdel line (s.cache n).lines
      answers := tput line (if k = .inv ∧ isDirty l.st = false then .ack else .data l.data (isDirty l.st)) (s.cache n).answers } := by
  simp only [State.answer, h, Bool.not_eq_true] <;> rfl

theorem State.answer_of_dirty_entry {s : State} {n line : Nat} {w : WbEntry} (h : tget line (s.cache n).lines = none)
    (hw : tget line (s.cache n).wb = some w) (hdirty : w.dirty = true) (k : PrbKind) :
    s.answer n line k = s.setCache n { s.cache n with
      probes := tdel line (s.cache n).probes
      wb := tput line { w with snooped := true } (s.cache n).wb
      answers := tput line (.buf w.data true) (s.cache n).answers } := by
  simp [State.answer, h, hw, hdirty]

theorem State.answer_of_absent {s : State} {n line : Nat} (h : tget line (s.cache n).lines = none)
    (hw : ∀ w, tget line (s.cache n).wb = some w → w.dirty = false) (k : PrbKind) :
    s.answer n line k = s.setCache n { s.cache n with
      probes := tdel line (s.cache n).probes
      answers := tput line (.miss (k != .inv)) (s.cache n).answers } := by
  cases hwb : tget line (s.cache n).wb with
  | none => simp [State.answer, h, hwb]
  | some w => simp [State.answer, h, hwb, hw w hwb]

/-- Settles O24: a cache answers from its line, from a dirty writeback entry, or with a miss. -/
theorem snoopedCachesAnswer : Obligations.SnoopedCachesAnswer := by
  refine ⟨?line, ?entry, ?absent⟩
  case line =>
    intro s n line k c l hrow hp hl
    refine ⟨_, exec_snoop_of_probe hrow hp, ?_⟩
    rw [State.answer_of_line hl]
    simp only [State.cache_setCache_self, tget_tdel_self, tget_tput_self]
    refine ⟨trivial, ?_, trivial, by simp [SameMemory]⟩
    obtain ⟨st, data⟩ := l
    cases k <;> cases st <;> simp [afterProbe]
  case entry =>
    intro s n line k c w hrow hp hl hw hdirty
    refine ⟨_, exec_snoop_of_probe hrow hp, ?_⟩
    simp [State.answer_of_dirty_entry hl hw hdirty]
  case absent =>
    intro s n line k c hrow hp hl hw
    refine ⟨_, exec_snoop_of_probe hrow hp, ?_⟩
    simp [State.answer_of_absent hl hw, hl]

/-- From `a` to `b` nothing of a cache's other lines changes than that of `line`: line, writeback entry, answer, snoop. -/
def OnlyLine (line : Nat) (a b : Cache) : Prop :=
  ∀ l, l ≠ line → tget l b.lines = tget l a.lines ∧ tget l b.wb = tget l a.wb ∧ tget l b.answers = tget l a.answers ∧
    tget l b.probes = tget l a.probes

/-- Only cache `n` changes from `s` to `t`, and there only what belongs to `line`. -/
def OnlyCacheLine (n line : Nat) (s t : State) : Prop :=
  t = { s with caches := t.caches } ∧ (∀ j, j ≠ n → t.cache j = s.cache j) ∧ OnlyLine line (s.cache n) (t.cache n)

theorem OnlyCacheLine.rfl' (n line : Nat) (s : State) : OnlyCacheLine n line s s := ⟨rfl, fun _ _ => rfl, fun _ _ => ⟨rfl, rfl, rfl, rfl⟩⟩

theorem onlyCacheLine_setCache {n line : Nat} {s : State} {c : Cache} (h : OnlyLine line (s.cache n) c) :
    OnlyCacheLine n line s (s.setCache n c) :=
  ⟨rfl, fun _ hj => State.cache_setCache_ne s hj c, by rwa [State.cache_setCache_self]⟩

theorem State.answer_onlyCacheLine (s : State) (n line : Nat) (k : PrbKind) : OnlyCacheLine n line s (s.answer n line k) := by
  cases hl : tget line (s.cache n).lines with
  | some l =>
    rw [State.answer_of_line hl]
    refine onlyCacheLine_setCache fun j hj => ⟨?_, rfl, tget_tput_ne hj _ _, tget_tdel_ne hj _⟩
    dsimp only
    split
    · exact tget_tput_ne hj _ _
    · exact tget_tdel_ne hj _
  | none =>
    by_cases hw : ∃ w, tget line (s.cache n).wb = some w ∧ w.dirty = true
    · obtain ⟨w, hw, hdirty⟩ := hw
      rw [State.answer_of_dirty_entry hl hw hdirty]
      exact onlyCacheLine_setCache fun j hj => ⟨rfl, tget_tput_ne hj _ _, tget_tput_ne hj _ _, tget_tdel_ne hj _⟩
    · rw [State.answer_of_absent hl fun w h => by simpa using fun hd => hw ⟨w, h, hd⟩]
      exact onlyCacheLine_setCache fun j hj => ⟨rfl, rfl, tget_tput_ne hj _ _, tget_tdel_ne hj _⟩

theorem exec_retireAck_onlyCacheLine {s t : State} {n line : Nat} (h : exec (.retireAck n line) s = .next t) : OnlyCacheLine n line s t := by
  simp only [exec_eq_retireAck, execRetireAck] at h
  split at h
  · split at h <;> cases h
    · exact onlyCacheLine_setCache fun j hj => ⟨rfl, tget_tdel_ne hj _, rfl, rfl⟩
    · exact OnlyCacheLine.rfl' n line s
  · cases h
    exact OnlyCacheLine.rfl' n line s

/-- Settles O58: an answer and a freed entry are one change of the cache, keyed by the line. -/
theorem snoopsTouchOneLine : Obligations.SnoopsTouchOneLine := by
  intro s t n line c hc h
  have hsnoop : ∀ k, (k, c) ∈ snoopRows n line → OnlyCacheLine n line s t := fun k hrow => by
    rw [exec_snoop hrow] at h
    split at h <;> cases h
    · exact s.answer_onlyCacheLine n line k
    · exact OnlyCacheLine.rfl' n line s
  simp only [List.mem_cons, List.not_mem_nil, or_false] at hc
  obtain rfl | rfl | rfl | rfl | rfl := hc
  · exact hsnoop .share (by simp [snoopRows])
  · exact hsnoop .own (by simp [snoopRows])
  · exact hsnoop .glance (by simp [snoopRows])
  · exact hsnoop .inv (by simp [snoopRows])
  · exact exec_retireAck_onlyCacheLine h

/-! ## Requests at a home (R288, R309, R313, R377, R454) -/

/-- A request keeps its kind when it arrives. -/
@[simp] theorem Req.arrive_kind (q : Req) (now : Nat) : (q.arrive now).kind = q.kind := by
  unfold Req.arrive; split <;> rfl

section HomeServe

variable {s s1 s2 : State} {id h : Nat} {q : Req} {go : State → Nat → Nat → Req → State}

theorem homeServe_not_chosen (hat : AtHome s id h q s1) (harb : s1.arbitrate h id q = none) :
    s.homeServe id [q.kind] go = .next s1 := by
  obtain ⟨q0, hreq, hserved, hhome, huns, hreach, rfl, rfl⟩ := hat
  simp [State.homeServe, hreq, hserved, hhome, huns, hreach, harb]

theorem homeServe_refused (hat : AtHome s id h q s1) (harb : s1.arbitrate h id q = some s2) {e : Cpl} (hcheck : s2.homeCheck q = some e) :
    s.homeServe id [q.kind] go = .next (s2.finish id q e []) := by
  obtain ⟨q0, hreq, hserved, hhome, huns, hreach, rfl, rfl⟩ := hat
  simp [State.homeServe, hreq, hserved, hhome, huns, hreach, harb, hcheck]

theorem homeServe_to_host (hat : AtHome s id 64 q s1) (harb : s1.arbitrate 64 id q = some s2) (hcheck : s2.homeCheck q = none)
    (hhost : s2.hostHas q = false) : s.homeServe id [q.kind] go = .next (s2.toHost id q) := by
  obtain ⟨q0, hreq, hserved, hhome, huns, hreach, rfl, rfl⟩ := hat
  simp [State.homeServe, hreq, hserved, hhome, huns, hreach, harb, hcheck, hhost]

theorem homeServe_served (hs : Served s id h q s1) : s.homeServe id [q.kind] go = .next (go s1 h id q) := by
  obtain ⟨⟨s0, ⟨q0, hreq, hserved, hhome, huns, hreach, rfl, rfl⟩, harb⟩, hcheck, hhost, hbias⟩ := hs
  have hhas : ¬ (h = 64 ∧ ¬ s1.hostHas (q0.arrive (s.homeClock h)) = true) := fun hb => hb.2 (hhost hb.1)
  have hask : ¬ (h ≠ 64 ∧ (q0.arrive (s.homeClock h)).bias = 0 ∧ s1.hostBias (q0.arrive (s.homeClock h)).pa = true) :=
    fun ⟨h1, h2, h3⟩ => (hbias h1).elim (fun hb => hb h2) (fun hb => by simp [hb] at h3)
  simp only [State.homeServe, hreq, Req.arrive_kind, List.contains_cons, beq_self_eq_true, Bool.true_or, not_true, if_false, hserved,
    Bool.false_eq_true, hhome, huns, hreach, or_self, harb, hcheck, hhas, hask]

theorem homeServe_unserved (hreq : s.req? id = some q) (hserved : s.unserved q = true) :
    s.homeServe id [q.kind] go = .next (s.finish id q .refused []) := by
  simp [State.homeServe, hreq, hserved]

end HomeServe

/-- The kinds of request with the commands that serve them. -/
def homeRows (id : Nat) : List (ReqKind × Instr) :=
  [(.getShare, .getShare id), (.getOwn, .getOwn id), (.upgrade, .upgrade id), (.glance, .glance id), (.putHome, .putHome id),
   (.rawGet, .rawGet id), (.rawPut, .rawPut id)]

/-- Each of these commands takes the common course of a request at its home. -/
theorem exec_homeRow {id : Nat} {k : ReqKind} {c : Instr} (h : (k, c) ∈ homeRows id) : ∃ go, ∀ s, exec c s = s.homeServe id [k] go := by
  simp only [homeRows, List.mem_cons, List.not_mem_nil, or_false, Prod.mk.injEq] at h
  obtain ⟨rfl, rfl⟩ | ⟨rfl, rfl⟩ | ⟨rfl, rfl⟩ | ⟨rfl, rfl⟩ | ⟨rfl, rfl⟩ | ⟨rfl, rfl⟩ | ⟨rfl, rfl⟩ := h <;> exact ⟨_, fun _ => rfl⟩

theorem homeServe_served_of_kind {s s1 : State} {id h : Nat} {q : Req} {k : ReqKind} (go : State → Nat → Nat → Req → State)
    (hs : Served s id h q s1) (hk : q.kind = k) : s.homeServe id [k] go = .next (go s1 h id q) := hk ▸ homeServe_served hs

/-- Settles O23: the seven commands differ only in what a served request comes to. -/
theorem homeRequestsServed : Obligations.HomeRequestsServed := by
  refine ⟨fun s id h q s1 => homeServe_served_of_kind _, fun s id h q s1 => homeServe_served_of_kind _,
    fun s id h q s1 => homeServe_served_of_kind _, fun s id h q s1 => homeServe_served_of_kind _,
    fun s id h q s1 => homeServe_served_of_kind _, fun s id h q s1 => homeServe_served_of_kind State.serveRawGet,
    fun s id h q s1 => homeServe_served_of_kind (fun s1 _ id q => s1.putDone id q), ?waits, ?refused, ?host, ?unserved⟩
  case waits =>
    rintro s id h q s1 k c hrow hat rfl harb
    obtain ⟨go, hgo⟩ := exec_homeRow hrow
    rw [hgo, homeServe_not_chosen hat harb]
  case refused =>
    rintro s id h q s1 s2 e k c hrow hat rfl harb hcheck
    obtain ⟨go, hgo⟩ := exec_homeRow hrow
    rw [hgo, homeServe_refused hat harb hcheck]
  case host =>
    rintro s id q s1 s2 k c hrow hat rfl harb hcheck hhost
    obtain ⟨go, hgo⟩ := exec_homeRow hrow
    rw [hgo, homeServe_to_host hat harb hcheck hhost]
  case unserved =>
    rintro s id q k c hrow hreq rfl hserved
    obtain ⟨go, hgo⟩ := exec_homeRow hrow
    rw [hgo, homeServe_unserved hreq hserved]

/-! ## Answers, writebacks and grants (R299-R316) -/

theorem State.home_setHome_self (s : State) (h : Nat) (v : Home) : (s.setHome h v).home h = v := by
  unfold State.home State.setHome
  split_ifs <;> simp

theorem exec_grantData_full {s : State} {n line v id : Nat} {q : Req} {l : CLine} (hgranted : s.granted n line = some (id, q))
    (habsent : tget line (s.cache n).lines = none) (hfull : 16 ≤ ((s.cache n).lines.filter (fun l => cacheSet l.1 == cacheSet line)).length)
    (hv : tget v (s.cache n).lines = some l) (hset : cacheSet v = cacheSet line) (hmru : tget (cacheSet line) (s.cache n).mru ≠ some v)
    (hwb : tget v (s.cache n).wb = none) (hclean : isDirty l.st = false) :
    exec (.grantData n line v) s = .next ((s.evict n v l).install n line id q) := by
  have hroom : ¬ ((s.cache n).lines.filter (fun l => cacheSet l.1 == cacheSet line)).length < 16 := by omega
  simp [exec_eq_grantData, execGrantData, hgranted, habsent, hroom, hv, hset, hmru, hwb, hclean]

/-- Settles O25: each row's conditions hold, so it takes the branch that the statement names. -/
theorem answersWritebacksAndGrants : Obligations.AnswersWritebacksAndGrants := by
  refine ⟨?data, ?miss, ?ack, ?dirty, ?clean, ?home, ?retired, ?room, ?full, ?granted⟩
  case data => intro s n line h a hhome hans hbytes; simp [exec_eq_prbData, execPrbData, hhome, hans, hbytes]
  case miss => intro s n line h fwd hhome hans; cases fwd <;> simp [exec_eq_prbMiss, execPrbMiss, hhome, hans, PrbAns.bytes]
  case ack => intro s n line h hhome hans; simp [exec_eq_prbMiss, execPrbMiss, hhome, hans, PrbAns.bytes]
  case dirty => intro s n line w hw hdirty hacked; simp [exec_eq_retireDirty, execRetireDirty, hw, hdirty, hacked]
  case clean => intro s n line w hw hclean hacked; simp [exec_eq_retireClean, execRetireClean, hw, hclean, hacked]
  case home => intro s n line w h hhome hdirty hsup; simp [State.retireHome, hhome, hdirty, hsup]
  case retired =>
    intro s n line w hw hacked hprobe
    exact ⟨s.setCache n { s.cache n with wb := tdel line (s.cache n).wb }, by simp [exec_eq_retireAck, execRetireAck, hw, hacked, hprobe], by simp, by simp,
      by simp [SameMemory]⟩
  case room => intro s n line v id q hgranted hroom; simp only [exec_eq_grantData, execGrantData, hgranted, hroom, if_true]
  case full => exact fun s n line v id q l h1 h2 h3 h4 h5 h6 h7 h8 => exec_grantData_full h1 h2 h3 h4 h5 h6 h7 h8
  case granted =>
    intro s line h x id q hhome htxn hwait hreqid hreq hdone
    refine ⟨s.endTxn h line, by simp [exec_eq_grantAck, execGrantAck, hhome, htxn, hwait, hreqid, hreq, hdone], ?_, ?_⟩ <;>
      simp [State.endTxn, State.home_setHome_self]

end Sys2Proof.Machine

namespace Sys2Proof.Machine

/-! ## Every finite code of a floating format is its own conversion (R58, R78-R83) -/

/-- What the eight formats share: at least one bit of mantissa and exponent each; a format without infinity but with NaN is E4M3. -/
def Fp.Sound (f : Fp) : Prop := 1 ≤ f.eb ∧ 1 ≤ f.mb ∧ (f.kind = 1 → f = fpE4M3)

/-- A code is its sign, its exponent and its mantissa. -/
theorem Fp.code_split (f : Fp) {code : Nat} (h : code < 2 ^ f.width) :
    code = f.sgn (bit code (f.eb + f.mb)) + bits code f.mb f.eb * 2 ^ f.mb + bits code 0 f.mb := by
  have hwidth : 2 ^ f.width = 2 ^ (f.eb + f.mb) * 2 := by rw [Fp.width, Nat.add_assoc, Nat.pow_add, Nat.pow_one, Nat.mul_comm]
  have htop : code / 2 ^ (f.eb + f.mb) < 2 := Nat.div_lt_of_lt_mul (hwidth ▸ h)
  have hsgn : f.sgn (bit code (f.eb + f.mb)) = code / 2 ^ (f.eb + f.mb) * 2 ^ (f.eb + f.mb) := by
    unfold Fp.sgn bit b2n
    rw [Nat.testBit_eq_decide_div_mod_eq]
    obtain h0 | h1 := Nat.le_one_iff_eq_zero_or_eq_one.1 (Nat.le_of_lt_succ htop)
    · simp [h0]
    · simp [h1]
  have hdiv : code / 2 ^ (f.eb + f.mb) = code / 2 ^ f.mb / 2 ^ f.eb := by rw [Nat.div_div_eq_div_mul, ← Nat.pow_add, Nat.add_comm]
  have hlow := Nat.mod_add_div code (2 ^ f.mb)
  have hhigh := Nat.mod_add_div (code / 2 ^ f.mb) (2 ^ f.eb)
  rw [hsgn, bits_eq, bits_eq, hdiv, Nat.pow_zero, Nat.div_one]
  calc code = code % 2 ^ f.mb + 2 ^ f.mb * (code / 2 ^ f.mb) := hlow.symm
    _ = code % 2 ^ f.mb + 2 ^ f.mb * (code / 2 ^ f.mb % 2 ^ f.eb + 2 ^ f.eb * (code / 2 ^ f.mb / 2 ^ f.eb)) := by rw [hhigh]
    _ = _ := by rw [Nat.pow_add]; ring

/-- A magnitude whose quantum is its own exponent keeps its digits. -/
theorem roundAt_self (m : Nat) (e : Int) (draw : Option Nat) : roundAt m e e draw = m := by simp [roundAt, pow2]

theorem ltDy_of_le {m1 m2 : Nat} {e1 e2 : Int} (he : e2 ≤ e1) (hm : m2 ≤ m1 * 2 ^ (e1 - e2).toNat) : ltDy m1 e1 m2 e2 = false := by
  simp [ltDy, pow2, min_eq_right he, hm]

/-- A magnitude at its own quantum, in range, and not 0 takes the code of its digits. -/
theorem Fp.encode_of_exact {f : Fp} {neg : Bool} {m : Nat} {e : Int} (sat : Bool) (hm : m ≠ 0) (hq : f.quantum m e = e)
    (hrange : ltDy f.maxM f.maxE m e = false) : f.encode sat none (.fin neg m e) = (f.code neg m e, noEvents) := by
  simp [Fp.encode, hm, hq, roundAt_self, hrange]

theorem Fp.quantum_subnormal (f : Fp) {m : Nat} (hm : m < 2 ^ f.mb) : f.quantum m f.qmin = f.qmin := by
  have hlog : Nat.log2 m ≤ f.mb := by
    by_cases h0 : m = 0
    · simp [h0]
    · exact Nat.le_of_lt ((Nat.log2_lt h0).2 hm)
  unfold Fp.quantum flog2
  omega

theorem log2_of_leading {a k : Nat} (h : a < 2 ^ k) : Nat.log2 (2 ^ k + a) = k := by
  have hne : 2 ^ k + a ≠ 0 := by positivity
  rw [Nat.log2_eq_iff hne, Nat.pow_succ]
  omega

theorem Fp.quantum_normal (f : Fp) {a : Nat} {e : Int} (ha : a < 2 ^ f.mb) (he : f.qmin ≤ e) : f.quantum (2 ^ f.mb + a) e = e := by
  unfold Fp.quantum flog2
  rw [log2_of_leading ha]
  omega

theorem Fp.subnormal_in_range {f : Fp} (hf : f.Sound) {m : Nat} (hm : m < 2 ^ f.mb) : ltDy f.maxM f.maxE m f.qmin = false := by
  obtain ⟨heb, hmb, hkind⟩ := hf
  by_cases h1 : f.kind = 1
  · obtain rfl := hkind h1
    exact ltDy_of_le (by decide) (by simp [fpE4M3, Fp.maxM, Fp.maxE, Fp.qmin] at hm ⊢; omega)
  · have hmax : f.maxM = 2 ^ (f.mb + 1) - 1 := by simp [Fp.maxM, h1]
    have hpow : 2 ≤ 2 ^ f.eb := Nat.le_self_pow (by omega) 2
    have he : f.qmin ≤ f.maxE + 1 := by
      simp only [Fp.qmin, Fp.maxE, h1, if_false]
      split <;> omega
    obtain he | he : f.qmin ≤ f.maxE ∨ f.maxE = f.qmin - 1 := by omega
    · refine ltDy_of_le he (Nat.le_trans ?_ (Nat.le_mul_of_pos_right _ (by positivity)))
      rw [hmax, Nat.pow_succ]; omega
    · have hb : min f.maxE f.qmin = f.maxE := by omega
      have hgap : (f.qmin - f.maxE).toNat = 1 := by omega
      simp only [ltDy, pow2, hb, hgap, sub_self, Int.toNat_zero, pow_zero, mul_one, pow_one, decide_eq_false_iff_not, not_lt, hmax, Nat.pow_succ]
      omega

theorem Fp.normal_in_range {f : Fp} (hf : f.Sound) {ex a : Nat} (hex : ex < 2 ^ f.eb) (ha : a < 2 ^ f.mb)
    (hieee : ¬ (f.kind = 2 ∧ ex = 2 ^ f.eb - 1)) (hnan : ¬ (f.kind = 1 ∧ ex = 15 ∧ a = 7)) :
    ltDy f.maxM f.maxE (2 ^ f.mb + a) ((ex : Int) - f.bias - f.mb) = false := by
  obtain ⟨heb, hmb, hkind⟩ := hf
  by_cases h1 : f.kind = 1
  · obtain rfl := hkind h1
    simp only [fpE4M3, Fp.maxM, Fp.maxE, if_true] at hex ha hnan ⊢
    refine ltDy_of_le (by omega) ?_
    obtain h15 | h15 : ex = 15 ∨ ex ≤ 14 := by omega
    · subst h15
      simp only [true_and] at hnan
      norm_num
      omega
    · calc 2 ^ 3 + a ≤ 14 * 2 := by omega
        _ ≤ 14 * 2 ^ ((5 : Int) - ((ex : Int) - (7 : Nat) - (3 : Nat))).toNat :=
          Nat.mul_le_mul_left _ (Nat.le_self_pow (by omega) 2)
  · have hmax : f.maxM = 2 ^ (f.mb + 1) - 1 := by simp [Fp.maxM, h1]
    refine ltDy_of_le ?_ (Nat.le_trans ?_ (Nat.le_mul_of_pos_right _ (by positivity)))
    · simp only [Fp.maxE, h1, if_false]
      split <;> omega
    · rw [hmax, Nat.pow_succ]; omega

/-- The code of a subnormal is its sign and its digits, that of a normal its sign, exponent and mantissa. -/
theorem Fp.code_subnormal (f : Fp) (neg : Bool) {m : Nat} (hm : m < 2 ^ f.mb) (q : Int) : f.code neg m q = f.sgn neg + m := by
  simp [Fp.code, hm]

theorem Fp.code_normal (f : Fp) (neg : Bool) {ex a : Nat} (ha : a < 2 ^ f.mb) :
    f.code neg (2 ^ f.mb + a) ((ex : Int) - f.bias - f.mb) = f.sgn neg + ex * 2 ^ f.mb + a := by
  have h1 : ¬ 2 ^ f.mb + a < 2 ^ f.mb := by omega
  have h2 : 2 ^ f.mb + a ≠ 2 ^ (f.mb + 1) := by rw [Nat.pow_succ]; omega
  simp [Fp.code, h1, h2]

/-- A finite code of a sound format is what its value converts to, with no event. -/
theorem Fp.encode_decode {f : Fp} (hf : f.Sound) (sat : Bool) {code : Nat} (hcode : code < 2 ^ f.width)
    (hfin : ∃ n m e, f.decode code = .fin n m e) : f.encode sat none (f.decode code) = (code, noEvents) := by
  obtain ⟨n, m, e, hfin⟩ := hfin
  have hsplit := f.code_split hcode
  have hex : bits code f.mb f.eb < 2 ^ f.eb := bits_lt _ _ _
  have hma : bits code 0 f.mb < 2 ^ f.mb := bits_lt _ _ _
  simp only [Fp.decode] at hfin ⊢
  split at hfin
  · split at hfin <;> cases hfin
  next hieee =>
  split at hfin
  · cases hfin
  next hnan =>
  rw [if_neg hieee, if_neg hnan]
  by_cases hex0 : bits code f.mb f.eb = 0
  · rw [if_pos hex0]
    rw [hex0, Nat.zero_mul, Nat.add_zero] at hsplit
    by_cases hma0 : bits code 0 f.mb = 0
    · rw [hma0, Nat.add_zero] at hsplit
      simp [Fp.encode, hma0, ← hsplit]
    · rw [Fp.encode_of_exact sat hma0 (f.quantum_subnormal hma) (Fp.subnormal_in_range hf hma), f.code_subnormal _ hma, ← hsplit]
  · rw [if_neg hex0]
    have hmin : f.qmin ≤ (bits code f.mb f.eb : Int) - f.bias - f.mb := by unfold Fp.qmin; omega
    rw [Fp.encode_of_exact sat (by positivity) (f.quantum_normal hma hmin) (Fp.normal_in_range hf hex hma hieee hnan), f.code_normal _ hma,
      ← hsplit]

/-- Settles O59: each of the eight formats is sound, and in a sound format a finite code's value lies on the grid it rounds to. -/
theorem finiteCodesConvertToThemselves : Obligations.FiniteCodesConvertToThemselves := by
  intro f hf sat code hcode hfin
  have hsound : f.Sound := by
    simp only [List.mem_cons, List.not_mem_nil, or_false] at hf
    obtain rfl | rfl | rfl | rfl | rfl | rfl | rfl | rfl := hf <;> simp [Fp.Sound, fpE2M1, fpE2M3, fpE3M2, fpE4M3, fpE5M2, fpFP16, fpBF16, fpFP32]
  exact Fp.encode_decode hsound sat hcode hfin

end Sys2Proof.Machine

namespace Sys2Proof.Machine

/-! ## VOP and VLS (R204, R196) -/

theorem Core.cell_setCell (c : Core) (way row j i v : Nat) :
    (c.setCell way row j v).cell way row i = if i = j then v % 2 ^ 32 else c.cell way row i := by
  unfold Core.cell Core.setCell
  split_ifs with h
  · subst h; simp
  · rw [tgetD_tputD_ne (by omega)]

/-- After its cells are written in turn a row holds what was written to it, and nothing else of it changed. -/
theorem Core.cell_foldl_setCell (way row : Nat) (f : Nat → Nat) (i : Nat) (l : List Nat) (c : Core) :
    (l.foldl (fun y j => y.setCell way row j (f j)) c).cell way row i = if i ∈ l then f i % 2 ^ 32 else c.cell way row i := by
  induction l generalizing c with
  | nil => simp
  | cons j l ih =>
    simp only [List.foldl_cons, ih, Core.cell_setCell, List.mem_cons]
    by_cases hl : i ∈ l <;> by_cases hj : i = j <;> simp [hl, hj]

/-- The core after a VLS stored the row `f` of an accumulator way, whose assay that ends (R196). -/
def Core.storeRow (c : Core) (way row : Nat) (f : Nat → Nat) : Core :=
  let c1 := (List.range 64).foldl (fun (y : Core) j => y.setCell way row j (f j)) c
  { c1 with assay := match tget way c1.assay with | some a => tput way { a with live := false } c1.assay | none => c1.assay }

theorem Core.cell_withAssay (c : Core) (a : Tbl Assay) : ({ c with assay := a } : Core).cell = c.cell := rfl

theorem Core.cell_storeRow (c : Core) (way row : Nat) (f : Nat → Nat) {j : Nat} (hj : j < 64) (hf : f j < 2 ^ 32) :
    (c.storeRow way row f).cell way row j = f j := by
  simp only [Core.storeRow, Core.cell_withAssay, Core.cell_foldl_setCell, List.mem_range, hj, if_true, Nat.mod_eq_of_lt hf]

theorem Slot.vr_lt (x : Slot) (v j : Nat) : x.vr v j < 2 ^ 32 := (tgetD 0 (64 * v + j) x.vregs).isLt

section Vector

variable {s s1 : State} {core : Nat} {w : Word} {k : Nat} {x : Slot}

theorem exec_vop_legal (h : Ready s core w 0x10 k x s1) (hfmt : vopFmtOk w = true) :
    exec (.vop core w) s = .next ((s1.retire core k (vopResult w x (s1.vopDraws w x)).1.advance).addPartials core k
      (vopResult w x (s1.vopDraws w x)).2) :=
  (issue_ready h _).trans (by simp [hfmt])

theorem exec_vop_illegal (h : Ready s core w 0x10 k x s1) (hfmt : vopFmtOk w = false) :
    exec (.vop core w) s = .next (s1.faultAt core k x 0x02 0) :=
  (issue_ready h _).trans (by simp [hfmt])

theorem exec_vls_load (h : Ready s core w 0x11 k x s1) (hop : fd w 55 3 = 0) (halign : vlsAddr w x % 2 ^ 19 % 32 = 0)
    (hin : x.spIn (vlsAddr w x % 2 ^ 19) (64 * vlsLane w) = true)
    (hfree : (s1.core core).spFree k x (vlsAddr w x % 2 ^ 19) (64 * vlsLane w) false = true) :
    exec (.vls core w) s = .next (s1.retire core k
      (vlsIn x (fd w 51 4) (vlsLane w) ((s1.core core).spRead x (vlsAddr w x % 2 ^ 19) (64 * vlsLane w))).advance) := by
  refine (issue_ready h _).trans ?_
  simp only [hop, halign, hin, Nat.reduceBEq, hfree]
  simp

theorem exec_vls_row (h : Ready s core w 0x11 k x s1) (write : Bool) (hop : fd w 55 3 = if write then 3 else 2) :
    exec (.vls core w) s = .next (s1.vlsRow core k x w write) := by
  refine (issue_ready h _).trans ?_
  cases write <;> simp_all

theorem State.vlsRow_load (s : State) (hres : fd w 23 4 = 0) (hrow : vlsAddr w x < 64) (hin : x.accIn (fd w 21 2) = true)
    (hfree : (s.core core).accFree k (fd w 21 2) false = true) :
    s.vlsRow core k x w false = s.retire core k ((List.range 64).foldl (fun (y : Slot) j =>
      y.setVr (fd w 51 4) j ((s.core core).cell (x.accPhys (fd w 21 2)) (vlsAddr w x) j)) x).advance := by
  simp only [State.vlsRow, hres, hin, hfree, Nat.not_le.mpr hrow]
  simp

theorem State.vlsRow_store (s : State) (hres : fd w 23 4 = 0) (hrow : vlsAddr w x < 64) (hin : x.accIn (fd w 21 2) = true)
    (hfree : (s.core core).accFree k (fd w 21 2) true = true) :
    s.vlsRow core k x w true =
      (s.setCore core ((s.core core).storeRow (x.accPhys (fd w 21 2)) (vlsAddr w x) (x.vr (fd w 51 4)))).retire core k x.advance := by
  simp only [State.vlsRow, hres, hin, hfree, Nat.not_le.mpr hrow]
  simp only [ne_eq, not_true_eq_false, or_self, if_false, if_true]
  rfl

end Vector

/-- Settles O7. -/
theorem vectorInstructionsComplete : Obligations.VectorInstructionsComplete :=
  ⟨fun _ _ _ _ _ _ h hfmt => exec_vop_legal h hfmt,
   fun _ _ _ _ _ _ h hfmt => exec_vop_illegal h hfmt,
   fun _ _ _ _ _ _ h hop halign hin hfree => exec_vls_load h hop halign hin hfree,
   fun _ _ _ _ _ _ h hop halign hin hfree => exec_vls_store h hop halign hin hfree,
   fun _ s1 _ _ _ _ h hop hres hrow hin hfree =>
    (exec_vls_row h false hop).trans (congrArg _ (s1.vlsRow_load hres hrow hin hfree)),
   fun _ s1 _ _ _ _ h hop hres hrow hin hfree =>
    ⟨_, _, exec_vls_row h true hop, s1.vlsRow_store hres hrow hin hfree, fun _ hj => Core.cell_storeRow _ _ _ _ hj (Slot.vr_lt _ _ _)⟩⟩

end Sys2Proof.Machine

namespace Sys2Proof.Machine

/-! ## MMA and RQ enter the matrix queue (R205-R213) -/

section Matrix

variable {s s1 : State} {core : Nat} {w : Word} {k : Nat} {x : Slot}

theorem exec_mma_queued (h : Ready s core w 0x20 k x s1) (hok : mmaFault x w = none) (hroom : (s1.core core).queued k < 2) :
    exec (.mma core w) s = .next ((s1.setCore core { s1.core core with
      mq := (s1.core core).mq ++ [mmaOp k (if fbit w 49 then { x with set := s1.settings x.ctx } else x) w s1.floorN] }).retire core k
        (if fbit w 49 then { x with set := s1.settings x.ctx } else x).advance) :=
  (issue_ready h _).trans (by simp only [hok, Nat.not_le.mpr hroom, if_false])

theorem exec_mma_faulty {cause : Nat} (h : Ready s core w 0x20 k x s1) (hbad : mmaFault x w = some cause) :
    exec (.mma core w) s = .next (s1.faultAt core k x cause 0) :=
  (issue_ready h _).trans (by simp only [hbad])

theorem exec_rq_queued (h : Ready s core w 0x21 k x s1) (hok : rqFault x w = none) (hroom : (s1.core core).queued k < 2) :
    exec (.rq core w) s = .next ((s1.setCore core { s1.core core with mq := (s1.core core).mq ++ [rqOp k x w] }).setSlot core k
      { x.advance with wait := .rq }) :=
  (issue_ready h _).trans (by simp only [hok, Nat.not_le.mpr hroom, if_false])

/-! ## The head of the matrix queue -/

theorem State.matHead_slot {o : MatOp} (h : s.matHead core = some (k, x, o)) : o.slot = k := by
  unfold State.matHead at h
  split at h
  · cases h
  · split at h
    case h_1 _ _ hfind =>
      split_ifs at h
      obtain ⟨rfl, rfl, rfl⟩ := h
      simpa using List.find?_some hfind
    case h_2 => cases h

end Matrix

theorem dropOp_setOp {v : MatOp} {k : Nat} (hv : v.slot = k) (l : List MatOp) : dropOp k (setOp k v l) = dropOp k l := by
  induction l with
  | nil => rfl
  | cons o t ih => by_cases ho : o.slot = k <;> simp [setOp, dropOp, ho, hv, ih]

@[simp] theorem State.core_matrixTime (s : State) (ctx n c : Nat) : (s.matrixTime ctx n).core c = s.core c := by simp [State.matrixTime]

theorem State.matrixTime_sameMemory (s : State) (ctx n : Nat) : SameMemory s (s.matrixTime ctx n) := by
  unfold State.matrixTime SameMemory
  simp

/-! ## MMA_EXECUTE (R98-R114) -/

theorem Core.mmaEvents_acc (c : Core) (x : Slot) (o : MatOp) (way : Nat) : (c.mmaEvents x o way).acc = c.acc := by
  unfold Core.mmaEvents
  simp only [Core.addTile, Core.clearTile]
  split_ifs <;> rfl

theorem State.mmaRun_end (s : State) (core k : Nat) (x : Slot) (o : MatOp) :
    ((s.mmaRun core k x o o.blocks).core core).mq = dropOp k (s.core core).mq ∧
      ((s.mmaRun core k x o o.blocks).core core).acc = ((s.core core).mmaTile x o (x.accPhys o.tile) o.done o.blocks).acc ∧
      SameMemory s (s.mmaRun core k x o o.blocks) := by
  unfold State.mmaRun
  refine ⟨by simp, ?_, State.matrixTime_sameMemory _ _ _⟩
  by_cases hdone : o.done = 0 <;> simp [hdone, Core.mmaEvents_acc]

/-! ## RQ_EXECUTE (R128, R129, R138-R144, R212) -/

theorem State.core_addUpdate (s : State) (u : SgUpdate) (c : Nat) : (s.addUpdate u).core c = s.core c := by
  unfold State.addUpdate
  split_ifs <;> rfl

/-- What holds of a state and is kept by each step of a fold holds of the folded state. -/
theorem foldS_keeps {β : Type} {P : State → Prop} {s : State} (h : P s) (l : List β) (f : State → β → State)
    (hf : ∀ st a, P st → P (f st a)) : P (foldS l s f) := by
  unfold foldS
  induction l generalizing s with
  | nil => exact h
  | cons b l ih => exact ih (hf s b h)

@[simp] theorem State.core_setSlot_self (s : State) (c k : Nat) (x : Slot) :
    (s.setSlot c k x).core c = { s.core c with slots := tput k x (s.core c).slots } := by simp [State.setSlot]

theorem State.flushSlot_core (s : State) (c k : Nat) : ∃ sl, (s.flushSlot c k).core c = { s.core c with slots := sl } := by
  unfold State.flushSlot
  split
  · exact ⟨_, rfl⟩
  · rw [State.core_setSlot_self, foldS_keeps (P := fun st => st.core c = s.core c) rfl]
    · exact ⟨_, rfl⟩
    · intro st i hst
      split_ifs
      · exact hst
      · rw [State.core_addUpdate, hst]

theorem State.addPartials_core (s : State) (c k : Nat) (ev : Events) : ∃ sl, (s.addPartials c k ev).core c = { s.core c with slots := sl } := by
  unfold State.addPartials
  split
  · exact ⟨_, rfl⟩
  · simp only
    split_ifs
    · obtain ⟨sl, h⟩ := State.flushSlot_core (s.setSlot c k _) c k
      exact ⟨sl, by rw [h, State.core_setSlot_self]⟩
    · exact ⟨_, State.core_setSlot_self ..⟩

theorem State.core_sieveTile (s : State) (c ctx way tile tag : Nat) (thr : List Nat) (d : Nat) :
    (s.sieveTile c ctx way tile tag thr).core d = s.core d := by
  unfold State.sieveTile
  simp only
  split_ifs
  · rfl
  · split
    · rfl
    · split_ifs
      case pos => rfl
      all_goals simp only [State.core, State.setCtx, (State.sgRecord_aside (Aside.rfl' s) _ _ _).cores]

/-- The counts at the end of an RQ touch its core's slots and tile counters only. -/
theorem State.rqCounts_core (s : State) (c k : Nat) (x : Slot) (way tile tag : Nat) :
    ∃ sl tc, (s.rqCounts c k x way tile tag).core c = { s.core c with slots := sl, tileCnt := tc } := by
  unfold State.rqCounts
  simp only
  obtain ⟨sl, hsl⟩ := State.addPartials_core ((s.sieveTile c x.ctx way tile tag ((s.core c).tileThrOf way x)).setCore c
    (((s.sieveTile c x.ctx way tile tag ((s.core c).tileThrOf way x)).core c).clearTile way)) c k
    ((List.range 6).map fun i => ((s.sieveTile c x.ctx way tile tag ((s.core c).tileThrOf way x)).core c).tileCount way i)
  rw [State.core_setCore_self, State.core_sieveTile] at hsl
  split_ifs
  · obtain ⟨sl', hsl'⟩ := State.flushSlot_core _ c k
    exact ⟨sl', _, by rw [hsl', State.core_sieveTile, hsl]; rfl⟩
  · exact ⟨sl, _, by rw [State.core_sieveTile, hsl]; rfl⟩

/-- What the comparison at the start of an RQ leaves of its core: the scratchpad, the accumulators, and the queue but for its own
entry. -/
theorem State.rqStart_core (s : State) (core k : Nat) (x : Slot) {o : MatOp} (ho : o.slot = k) :
    ((s.rqStart core k x o).2.core core).sp = (s.core core).sp ∧ ((s.rqStart core k x o).2.core core).acc = (s.core core).acc ∧
      dropOp k ((s.rqStart core k x o).2.core core).mq = dropOp k (s.core core).mq := by
  unfold State.rqStart
  split_ifs with hc
  · exact ⟨rfl, rfl, rfl⟩
  · have hbump (st : State) (off : Nat) : (st.bumpSafe core k x off).core core = st.core core := State.core_addUpdate _ _ _
    simp only [apply_ite (fun st : State => st.core core), State.core_matrixTime, hbump, State.core_setCore_self, ite_self]
    exact ⟨trivial, trivial, dropOp_setOp (by exact ho) _⟩

theorem State.ctx?_modCtx_self (s : State) (i : Nat) (f : Context → Context) : (s.modCtx i f).ctx? i = (s.ctx? i).map f := by
  unfold State.modCtx
  split
  · simp [*]
  · simp [*]

/-- The comparison changes of its context only what is charged to it. -/
theorem State.rqStart_ctx (s : State) (core k : Nat) (x : Slot) (o : MatOp) :
    ∃ f : Context → Context, (∀ y, (f y).seed = y.seed) ∧ (s.rqStart core k x o).2.ctx? x.ctx = (s.ctx? x.ctx).map f := by
  unfold State.rqStart
  split_ifs with hc
  · exact ⟨id, fun _ => rfl, by simp⟩
  · have hbump (st : State) (off i : Nat) : (st.bumpSafe core k x off).ctx? i = st.ctx? i := by
      unfold State.bumpSafe State.addUpdate
      split_ifs <;> rfl
    have hcore (st : State) (v : Core) (i : Nat) : (st.setCore core v).ctx? i = st.ctx? i := rfl
    simp only [apply_ite (fun st : State => st.ctx? x.ctx), State.matrixTime, State.ctx?_modCtx_self, hbump, hcore, ite_self]
    split_ifs
    · exact ⟨_, by exact fun _ => rfl, rfl⟩
    · exact ⟨id, fun _ => rfl, by simp⟩

theorem Core.rqLine_congr {c d : Core} (h : d.acc = c.acc) : d.rqLine = c.rqLine := by
  unfold Core.rqLine Core.cell
  rw [h]

/-- The scratchpad after a requantization depends on the scratchpad and the accumulators alone. -/
theorem Core.rqTile_sp_congr {c d : Core} (hsp : d.sp = c.sp) (hacc : d.acc = c.acc) (x : Slot) (r : RqOut) (way : Nat) (dr : List Nat)
    (i j : Nat) : (d.rqTile x r way dr i j).1.sp = (c.rqTile x r way dr i j).1.sp := by
  unfold Core.rqTile
  rw [Core.rqLine_congr hacc]
  generalize c.rqLine = line
  generalize noEvents = ev
  induction (List.range j).drop i generalizing c d ev with
  | nil => exact hsp
  | cons n l ih =>
    simp only [List.foldl_cons]
    refine ih ?_ ?_ _
    · simp only [Core.spWrite, hsp]
    · exact hacc

theorem Core.rqTile_mq (c : Core) (x : Slot) (r : RqOut) (way : Nat) (dr : List Nat) (i j : Nat) :
    (c.rqTile x r way dr i j).1.mq = c.mq := by
  unfold Core.rqTile
  simp only
  generalize noEvents = ev
  generalize c.rqLine = line
  induction (List.range j).drop i generalizing c ev with
  | nil => rfl
  | cons n l ih => exact (ih _ _).trans rfl

theorem State.rqRows_core (s : State) (core k : Nat) (x : Slot) (o : MatOp) (j : Nat) :
    ((s.rqRows core k x o j).core core).sp = ((s.core core).rqTile x (rqOut o.w o.sa o.st x.guard) (x.accPhys o.tile)
        (if (rqOut o.w o.sa o.st x.guard).sr then draws (match s.ctx? x.ctx with | some y => y.seed.toNat | none => 0)
          ((rqOut o.w o.sa o.st x.guard).stg.toNat % 2 ^ 32) 4096 else []) o.done j).1.sp ∧
      ((s.rqRows core k x o j).core core).mq = setOp k { o with done := j } (s.core core).mq := by
  unfold State.rqRows
  constructor <;> simp only [State.core_matrixTime, State.core_setCore_self, Core.addTile, Core.rqTile_mq] <;> rfl

/-- An RQ that finds no tile missing writes the rows not yet written and leaves the queue. -/
theorem exec_rqExecute_clean {s : State} {core k : Nat} {x : Slot} {o : MatOp} (hhead : s.matHead core = some (k, x, o))
    (hop : major o.w = 0x21) (hmiss : (s.rqStart core k x o).1.missed = []) :
    exec (.rqExecute core) s = .next (((((s.rqStart core k x o).2.rqRows core k x (s.rqStart core k x o).1 64).rqLeave core k).rqCounts core k x
      (x.accPhys o.tile) o.tile (s.rqAssay core x o).tag.toNat).modSlot core k (fun y => if y.wait = .rq then { y with wait := .none } else y)) := by
  simp [exec_eq_rqExecute, execRqExecute, hhead, hop, hmiss]

theorem State.rqStart_op (s : State) (core k : Nat) (x : Slot) (o : MatOp) :
    (s.rqStart core k x o).1.w = o.w ∧ (s.rqStart core k x o).1.sa = o.sa ∧ (s.rqStart core k x o).1.st = o.st ∧
      (s.rqStart core k x o).1.tile = o.tile ∧ (s.rqStart core k x o).1.done = o.done ∧ (s.rqStart core k x o).1.slot = o.slot := by
  unfold State.rqStart
  split_ifs <;> exact ⟨rfl, rfl, rfl, rfl, rfl, rfl⟩

theorem State.modSlot_core (s : State) (c k : Nat) (f : Slot → Slot) : ∃ sl, (s.modSlot c k f).core c = { s.core c with slots := sl } := by
  unfold State.modSlot
  split
  · exact ⟨_, State.core_setSlot_self ..⟩
  · exact ⟨_, rfl⟩

/-- Settles O8: an instruction that its checks pass enters the queue; at the head MMA's tile and RQ's rows are the one thing that changes the
accumulators and the scratchpad, and the counts that follow touch neither. -/
theorem matrixInstructionsComplete : Obligations.MatrixInstructionsComplete := by
  refine ⟨fun _ _ _ _ _ _ h hok hroom => ⟨_, rfl, exec_mma_queued h hok hroom⟩, fun _ _ _ _ _ _ _ h hbad => exec_mma_faulty h hbad,
    fun _ _ _ _ _ _ h hok hroom => exec_rq_queued h hok hroom, ?mmaExecute, ?rqExecute⟩
  case mmaExecute =>
    intro s core k x o hhead hop
    exact ⟨_, by simp only [exec_eq_mmaExecute, execMmaExecute, hhead, hop, ne_eq, not_true_eq_false, if_false], s.mmaRun_end core k x o⟩
  case rqExecute =>
    intro s core k x o hhead hop hmiss
    refine ⟨_, exec_rqExecute_clean hhead hop hmiss, ?_⟩
    obtain ⟨hw, hsa, hst, htile, hdone, hslot⟩ := s.rqStart_op core k x o
    obtain ⟨hsp, hacc, hmq⟩ := s.rqStart_core core k x (State.matHead_slot hhead)
    obtain ⟨f, hseed, hctx⟩ := s.rqStart_ctx core k x o
    obtain ⟨hrows, hqueue⟩ := (s.rqStart core k x o).2.rqRows_core core k x (s.rqStart core k x o).1 64
    obtain ⟨sl, hmod⟩ := State.modSlot_core _ core k _
    obtain ⟨sl', tc, hcounts⟩ := State.rqCounts_core _ core k x (x.accPhys o.tile) o.tile (s.rqAssay core x o).tag.toNat
    rw [hmod, hcounts]
    simp only [State.rqLeave, State.core_setCore_self, hrows, hqueue]
    refine ⟨?_, ?_⟩
    · rw [dropOp_setOp (by exact hslot.trans (State.matHead_slot hhead)), hmq]
    · rw [Core.rqTile_sp_congr hsp hacc, hw, hsa, hst, htile, hdone, hctx]
      cases s.ctx? x.ctx <;> simp [hseed]

end Sys2Proof.Machine

namespace Sys2Proof.Machine

/-! ## TDMA, scripts and their waits (R215-R224) -/

section Tiles

variable {s s1 s2 : State} {core : Nat} {w : Word} {k : Nat} {x : Slot}

theorem exec_tdma_translated {map : Tbl (Option Nat)} {b : Bytes} (h : Ready s core w 0x28 k x s1)
    (halign : ((x.sr (fd w 53 5)).toNat + fd w 34 19) % 2 ^ 19 % 64 = 0) (hin : x.spIn (((x.sr (fd w 53 5)).toNat + fd w 34 19) % 2 ^ 19) 64 = true)
    (hfree : (s1.core core).spFree k x (((x.sr (fd w 53 5)).toNat + fd w 34 19) % 2 ^ 19) 64 false = true)
    (hb : b = (s1.core core).spRead x (((x.sr (fd w 53 5)).toNat + fd w 34 19) % 2 ^ 19) 64) (hok : s1.tileFault x (tileOf b) b false = none)
    (hx : s1.xlateTile core x.ctx (fun _ => (tileOf b).acc) ((tileOf b).op == 3) x.dropped (tileOf b).pages [] 0 0 = (.ok map, s2))
    (hroom : s2.burstsOf core < 64) :
    exec (.tdma core w) s =
      .next ((s2.issueTile core k x (tileOf b) (tileOf b).group 2 x.pc map).retire core k { x.advance with dropped := [] }) :=
  (issue_ready h _).trans (by
    simp only [halign, hin, hfree, ← hb, hok, hx, Nat.not_le.mpr hroom]
    simp)

/-- A burst that comes back with its data is delivered to its receivers: its own scratchpad, or those of its multicast rectangle. -/
theorem exec_burst_good {req : Nat} {q : Req} {c g l : Nat} (hq : s.req? req = some q) (hi : q.issuer = .burst c k g l) (hst : q.status = some .ok)
    (hsq : q.squashed = false) (hbad : q.bad = false) (hdest : q.dest ≠ []) :
    exec (.tileDmaBurstComplete req) s = .next (foldS (if q.rect.isNone then [(c, k)] else q.multi) ((s.dropReq req).pump c)
      (fun st d => st.deliver q.ctx d.1 d.2 q.laddr (q.rdata.take q.len))) := by
  simp [exec_eq_tileDmaBurstComplete, execTileDmaBurstComplete, hq, hi, hst, hsq, hbad, hdest]

theorem exec_slaunch_idle (h : Ready s core w 0x2A k x s1) (halign : (x.sr (fd w 47 5)).toNat % 2 ^ 19 % 64 = 0)
    (hin : x.spIn ((x.sr (fd w 47 5)).toNat % 2 ^ 19) 128 = true) (hidle : (x.lane (fd w 57 1)).walking = false)
    (hfree : (s1.core core).spFree k x ((x.sr (fd w 47 5)).toNat % 2 ^ 19) 128 false = true) :
    exec (.slaunch core w) s = .next (s1.retire core k (x.setLane (fd w 57 1)
      { walking := true, scriptVa := (x.sr (fd w 52 5)).toNat,
        bases := (List.range 16).map (fun i => fieldLe ((s1.core core).spRead x ((x.sr (fd w 47 5)).toNat % 2 ^ 19) 128) (8 * i) 8),
        depth := fd w 43 4 + 1, group := fd w 40 3, pc := x.pc }).advance) :=
  (issue_ready h _).trans (by simp only [halign, hin, hidle, hfree]; rfl)

theorem exec_scriptEntryIssue {slot lane : Nat} {h b : Bytes} (hslot : s.slot? core slot = some x) (hwalk : (x.lane lane).walking = true)
    (hfault : (x.lane lane).faulted = false) (hdepth : (x.lane lane).unreleased < (x.lane lane).depth) (hstop : s.ctxStopped x.ctx = false)
    (hclean : x.fault = none) (hwait : x.wait ≠ .halting) (hroom : s.burstsOf core < 64)
    (hhead : s.scriptRead core slot x lane (x.lane lane).scriptVa = .ok (h, s1)) (hnext : (x.lane lane).next < fieldLe h 0 4)
    (hentry : s1.scriptRead core slot x lane ((x.lane lane).scriptVa + 64 + 64 * (x.lane lane).next) = .ok (b, s2)) :
    exec (.scriptEntryIssue core slot lane) s = .next (s2.issueEntry core slot x lane (fieldLe h 0 4) (bit (fieldLe h 5 1) 0) b) := by
  simp [exec_eq_scriptEntryIssue, execScriptEntryIssue, hslot, hwalk, hfault, Nat.not_le.mpr hdepth, hstop, hclean, hwait, Nat.not_le.mpr hroom, hhead,
    Nat.not_le.mpr hnext, hentry]

end Tiles

/-- Settles O9. -/
theorem tileDmaAndScriptsComplete : Obligations.TileDmaAndScriptsComplete := by
  refine ⟨fun _ _ _ _ _ _ _ _ h halign hin hfree _ hb hok hx hroom => exec_tdma_translated h halign hin hfree hb hok hx hroom, ?own, ?multicast,
    ?dwait, fun _ _ _ _ _ _ h halign hin hidle hfree => exec_slaunch_idle h halign hin hidle hfree,
    fun _ _ _ _ _ _ _ _ _ hslot hwalk hfault hdepth hstop hclean hwait hroom hhead hnext hentry =>
      exec_scriptEntryIssue hslot hwalk hfault hdepth hstop hclean hwait hroom hhead hnext hentry,
    fun _ _ _ _ _ _ h => issue_ready h _⟩
  case own =>
    intro s req q c k g l hq hi hst hsq hbad hdest hrect
    simp [exec_burst_good hq hi hst hsq hbad hdest, hrect, foldS]
  case multicast =>
    intro s req q c k g l hq hi hst hsq hbad hdest hrect
    simp [exec_burst_good hq hi hst hsq hbad hdest, Option.isSome_iff_ne_none.mp hrect]
  case dwait =>
    intro s s1 core w k x h hgroups
    exact (issue_ready h _).trans (by simp [hgroups])

/-! ## Offers (R225-R227) -/

/-- The modulo order of R227: the distance from the word to the offer decides. -/
theorem offered_cases (o v : BitVec 32) :
    (1 ≤ (v - o).toNat ∧ (v - o).toNat < 2 ^ 31 → offered o v = (v, false)) ∧ (v = o → offered o v = (o, false)) ∧
      (2 ^ 31 ≤ (v - o).toNat → offered o v = (o, true)) := by
  unfold offered
  refine ⟨fun ⟨hpos, hlt⟩ => ?_, fun heq => by simp [heq], fun hge => ?_⟩
  · rw [if_neg (Nat.ne_of_gt hpos), if_pos hlt]
  · rw [if_neg (by omega), if_neg (by omega)]

theorem State.offerEnd_ok (s : State) (id : Nat) (o : Offer) (stale : Bool) :
    s.offerEnd id o .ok stale =
      if stale then ({ s with offers := tdel id s.offers }).addStale o.ctx else { s with offers := tdel id s.offers } := by
  simp [State.offerEnd]

theorem State.addStale_ctx {s : State} {ctx : Nat} {y : Context} (h : s.ctx? ctx = some y) :
    (s.addStale ctx).ctx? ctx = some { y with stale := min (2 ^ 32 - 1) (y.stale + 1) } := by
  simp [State.addStale, h, satAdd]

section Offers

variable {s s1 s2 : State} {core : Nat} {w : Word} {k : Nat} {x : Slot} {offer : Nat} {o : Offer}

theorem exec_fsig_translated {pa : Nat} {nc : Bool} (h : Ready s core w 0x30 k x s1) (halign : (x.sr (fd w 53 5)).toNat % 8 = 0)
    (hx : s1.xlate core k x (x.sr (fd w 53 5)).toNat 3 0 = .ok (pa, nc, s2)) :
    exec (.fsig core w) s = .next ((s2.postOffer
      { va := (x.sr (fd w 53 5)).toNat, pa, value := (x.sr (fd w 48 5)).setWidth 32, scope := fd w 46 2, ctx := x.ctx,
        folio := s2.ctxFolio x.ctx, epoch := (s2.folio (s2.ctxFolio x.ctx)).epoch, issuer := .fwait core k, qos := x.qos, groups := fd w 38 8,
        after := (s2.storesOf core k).filterMap (fun r => if unseen (fd w 46 2) r.2 then some r.1 else none), pc := x.pc }).retire core k
      x.advance) :=
  (issue_ready h _).trans (by simp [halign, hx])

theorem exec_fenceOffer_waits (ho : tget offer s.offers = some o) (hgo : s.offerGo offer o = false) :
    exec (.fenceOffer offer) s = .next s := by
  simp [exec_eq_fenceOffer, execFenceOffer, ho, hgo, stay]

theorem exec_fenceOffer_package (ho : tget offer s.offers = some o) (hgo : s.offerGo offer o = true) (hroute : s.route o.pa = .hbm) :
    exec (.fenceOffer offer) s = .next ((s.offerAt o.ctx o.folio o.epoch o.pa o.value).2.2.offerEnd offer o
      (s.offerAt o.ctx o.folio o.epoch o.pa o.value).1 (s.offerAt o.ctx o.folio o.epoch o.pa o.value).2.1) := by
  simp [exec_eq_fenceOffer, execFenceOffer, ho, hgo, hroute]

theorem exec_fenceOffer_host {a : Nat} (ho : tget offer s.offers = some o) (hgo : s.offerGo offer o = true) (hroute : s.route o.pa = .host a)
    (hsent : s.offerSent offer = false) : exec (.fenceOffer offer) s = .next (s.offerReq offer o 4 o.amo) := by
  simp [exec_eq_fenceOffer, execFenceOffer, ho, hgo, hroute, hsent]

end Offers

/-- Settles O10. -/
theorem offeredValuesFollowModuloOrder : Obligations.OfferedValuesFollowModuloOrder :=
  ⟨offered_cases,
   fun _ _ _ _ _ _ _ _ _ h halign hx => exec_fsig_translated h halign hx,
   fun _ _ _ ho hgo => exec_fenceOffer_waits ho hgo,
   fun _ _ _ ho hgo hroute => exec_fenceOffer_package ho hgo hroute,
   fun _ _ _ ho hgo ⟨_, hroute⟩ hsent => exec_fenceOffer_host ho hgo hroute hsent,
   fun s offer o stale => s.offerEnd_ok offer o stale,
   fun _ _ _ h => State.addStale_ctx h⟩

end Sys2Proof.Machine

namespace Sys2Proof.Machine

/-! ## FWAIT, FENCE and BAR (R228-R233) -/

theorem satisfies_iff (v t : BitVec 32) : satisfies v t = true ↔ (v - t).toNat < 2 ^ 31 := by
  unfold satisfies
  exact decide_eq_true_iff

section Live

variable {s : State} {core slot : Nat} {x : Slot}

theorem State.live?_eq_some_iff : s.live? core slot = some x ↔
    s.slot? core slot = some x ∧ (s.core core).running = some slot ∧ x.fault = none ∧ s.ctxStopped x.ctx = false := by
  unfold State.live?
  split
  case h_1 y hy =>
    simp only [hy, Option.some.injEq, Option.isNone_iff_eq_none, Bool.not_eq_true]
    constructor
    · intro h
      split_ifs at h with hc
      cases h
      exact ⟨rfl, hc⟩
    · rintro ⟨rfl, hc⟩
      rw [if_pos hc]
  case h_2 hy => simp [hy]

variable {f : FenceWait}

theorem State.fenceCheck_met (hlive : s.live? core slot = some x) (hwait : x.wait = .fence f) (hmet : s.fenceMet f = true) :
    s.fenceCheck core slot = s.fwaitDone core slot 0 := by
  simp [State.fenceCheck, hlive, hwait, hmet]

theorem State.fenceCheck_over (hlive : s.live? core slot = some x) (hwait : x.wait = .fence f) (hmet : s.fenceMet f = false)
    (hover : s.fenceOver f = true) : s.fenceCheck core slot = s.fwaitDone core slot 1 := by
  simp [State.fenceCheck, hlive, hwait, hmet, hover]

theorem exec_fwaitTimeout_over {t : Nat} (hlive : s.live? core slot = some x) (hwait : x.wait = .fence f) (hdl : f.deadline = some t)
    (ht : t ≤ s.hubCount) (hmet : s.fenceMet f = false) : exec (.fwaitTimeout core slot) s = .next (s.fwaitDone core slot 1) := by
  have hover : s.fenceOver f = true := by simp [State.fenceOver, hdl, ht]
  simp [exec_eq_fwaitTimeout, execFwaitTimeout, hlive, hwait, hover, State.fenceCheck_over hlive hwait hmet hover]

theorem exec_fwaitPoll_met (hlive : s.live? core slot = some x) (hwait : x.wait = .fence f) (hmet : s.fenceMet f = true) :
    exec (.fwaitPoll core slot) s = .next (s.fwaitDone core slot 0) := by
  obtain ⟨hslot, _, hclean, hstop⟩ := State.live?_eq_some_iff.mp hlive
  simp [exec_eq_fwaitPoll, execFwaitPoll, hslot, hwait, hclean, hstop, hmet, State.fenceCheck_met hlive hwait hmet]

theorem exec_fwaitPoll_read {s1 : State} {b : Bytes} (hlive : s.live? core slot = some x) (hwait : x.wait = .fence f)
    (hmet : s.fenceMet f = false) (hask : f.ask = none) (hpoll : f.poll = true) (hdue : f.last + 1000 ≤ s.hubCount)
    (hroute : s.route f.pa = .hbm) (hread : s.readLine x.ctx (s.ctxFolio x.ctx) f.pa 4 = (.ok, b, s1))
    (hno : satisfies (BitVec.ofNat 32 (unle b)) f.target = false) :
    exec (.fwaitPoll core slot) s = .next (s1.pollAgain core slot { f with last := s.hubCount }) := by
  obtain ⟨hslot, _, hclean, hstop⟩ := State.live?_eq_some_iff.mp hlive
  simp [exec_eq_fwaitPoll, execFwaitPoll, hslot, hwait, hclean, hstop, hmet, hask, hpoll, State.pollNs, hroute, Nat.not_lt.mpr hdue, hread, hno]

theorem exec_fwaitPoll_answer {r : Nat} {q : Req} (hlive : s.live? core slot = some x) (hwait : x.wait = .fence f)
    (hmet : s.fenceMet f = false) (hask : f.ask = some r) (hq : s.req? r = some q) (hst : q.status = some .ok)
    (hyes : satisfies (BitVec.ofNat 32 (unle (q.rdata.take 4))) f.target = true) :
    exec (.fwaitPoll core slot) s = .next (((s.dropReq r).pollAgain core slot { f with ask := none }).fenceHit core slot) := by
  obtain ⟨hslot, _, hclean, hstop⟩ := State.live?_eq_some_iff.mp hlive
  simp [exec_eq_fwaitPoll, execFwaitPoll, hslot, hwait, hclean, hstop, hmet, hask, hq, hst, hyes]

end Live

section Sync

variable {s s1 s2 s3 : State} {core : Nat} {w : Word} {k : Nat} {x : Slot}

theorem exec_fwait_satisfied {pa : Nat} {nc : Bool} {b : Bytes} (h : Ready s core w 0x31 k x s1) (halign : (x.sr (fd w 48 5)).toNat % 8 = 0)
    (hwait : ∀ r, x.wait ≠ .mem r) (hx : s1.xlate core k x (x.sr (fd w 48 5)).toNat 0 0 = .ok (pa, nc, s2))
    (hbusy : s2.storeBusy core k (lineOf pa) = false) (hroute : s2.route pa = .hbm)
    (hread : s2.readLine x.ctx (s2.ctxFolio x.ctx) pa 4 = (.ok, b, s3))
    (hyes : satisfies (BitVec.ofNat 32 (unle (b.take 4))) ((x.sr (fd w 43 5)).setWidth 32) = true) :
    exec (.fwait core w) s = .next (s3.retire core k (x.setSr (fd w 53 5) 0).advance) := by
  refine (issue_ready h _).trans ?_
  cases hw : x.wait
  case mem r => exact absurd hw (hwait r)
  all_goals simp [halign, hx, hbusy, hroute, hread, State.fwaitRead, hyes]

theorem exec_fence_released (h : Ready s core w 0x32 k x s1)
    (hrel : fbit w 55 = false ∨ s1.released core k (fd w 46 8) (s1.unseenStores core k (fd w 56 2)) = true) :
    exec (.fence core w) s = .next (s1.retire core k x.advance) :=
  (issue_ready h _).trans (by rcases hrel with hrel | hrel <;> simp [hrel])

theorem exec_bar_arrive (h : Ready s core w 0x33 k x s1) (hop : fd w 56 2 = 0)
    (hscope : fd w 50 2 = 2 ∨ (fd w 50 2 = 1 ∧ s1.spansPackages x = false)) :
    exec (.bar core w) s = .next ((s1.barArrive core k x (fd w 52 4) (fd w 50 2) (fd w 42 8)).retire core k
      { x with barPhase := tput (fd w 52 4) (x.phaseOf (fd w 52 4) + 1) x.barPhase }.advance) :=
  (issue_ready h _).trans (by rcases hscope with hscope | ⟨hscope, hspan⟩ <;> simp [*])

theorem exec_barrierArrival_here {msg : Nat} {m : BarMsg} (hm : tget msg s.bars = some m) (hrel : s.released m.core m.slot m.groups m.after = true)
    (hspan : ∀ x, s.slot? m.core m.slot = some x → s.spansPackages x = false) :
    exec (.barrierArrival msg) s = .next (({ s with bars := tdel msg s.bars }).arrive m.ctx m.id m.rank m.phase) := by
  cases hslot : s.slot? m.core m.slot with
  | none => simp [exec_eq_barrierArrival, execBarrierArrival, hm, hrel, hslot]
  | some x => simp [exec_eq_barrierArrival, execBarrierArrival, hm, hrel, hslot, hspan x hslot]

end Sync

/-- Settles O11. -/
theorem fenceWaitsComplete : Obligations.FenceWaitsComplete :=
  ⟨satisfies_iff,
   fun _ _ _ _ _ _ _ _ _ _ _ h halign hwait hx hbusy hroute hread hyes => exec_fwait_satisfied h halign hwait hx hbusy hroute hread hyes,
   fun _ _ _ _ _ _ hlive hwait hdl ht hmet => exec_fwaitTimeout_over hlive hwait hdl ht hmet,
   fun _ _ _ _ _ hlive hwait hmet => exec_fwaitPoll_met hlive hwait hmet,
   fun _ _ _ _ _ _ _ hlive hwait hmet hask hpoll hdue hroute hread hno => exec_fwaitPoll_read hlive hwait hmet hask hpoll hdue hroute hread hno,
   fun _ _ _ _ _ _ _ hlive hwait hmet hask hq hst hyes => exec_fwaitPoll_answer hlive hwait hmet hask hq hst hyes,
   fun _ _ _ _ _ _ h hrel => exec_fence_released h hrel,
   fun _ _ _ _ _ _ h hop hscope => exec_bar_arrive h hop hscope,
   fun _ _ _ hm hrel hspan => exec_barrierArrival_here hm hrel hspan⟩

end Sys2Proof.Machine

namespace Sys2Proof.Machine

/-! ## The system class (R236, R237) -/

section System

variable {s s1 : State} {core : Nat} {w : Word} {k : Nat} {x : Slot}

theorem exec_halt_done (h : ReadySys s core w 0 k x s1) (hdone : s1.haltDone core k x = true) :
    exec (.halt core w) s = .next (((s1.charge core).modSlot core k (fun y => { y with halted := true, wait := .none, lanes := [{}, {}] })).choose
      core (some k)) :=
  (issue_sys h _).trans (by rw [if_pos hdone])

theorem exec_gret_handler {g : Guard} (h : ReadySys s core w 3 k x s1) (hg : x.guard = some g) :
    exec (.gret core w) s = .next (((s1.promotionEnd core x.ctx g g.outcome).bumpSafe core k x 0x7C).retire core k
      { (List.zip [28, 29, 30, 31] g.saved).foldl (fun (y : Slot) p => y.setSr p.1 p.2) x with pc := g.origPc + 8, guard := none }) :=
  (issue_sys h _).trans (by simp only [hg])

theorem exec_bkpt (h : ReadySys s core w 5 k x s1) :
    exec (.bkpt core w) s = .next (if s1.bkptStops core (s1.ctxFolio x.ctx) then
      (s1.retire core k x.advance).modCtx x.ctx (fun y => { y with bkpt := true }) else s1.retire core k x.advance) :=
  issue_sys h _

end System

theorem State.cacheOp_clear {s : State} {core k : Nat} {x : Slot} (va n : Nat) (keep : Bool) (hstores : s.storesOf core k = [])
    (hwb : (s.cache (s.sliceOf core)).wb = []) :
    s.cacheOp core k x va n keep = (foldS (((s.cache (s.sliceOf core)).lines.map Prod.fst).filter (inRanges (s.physRanges core x.ctx va n))) s
      (fun st l => st.cleanLine (s.sliceOf core) l keep)).retire core k x.advance := by
  simp [State.cacheOp, hstores, hwb]

theorem exec_storeCompletion_ok {s : State} {req : Nat} {q : Req} {c k : Nat} (hq : s.req? req = some q) (hi : q.issuer = .store c k)
    (hst : q.status = some .ok) : exec (.storeCompletion req) s = .next (s.dropReq req) := by
  simp [exec_eq_storeCompletion, execStoreCompletion, hq, hi, hst]

/-- Settles O12. -/
theorem systemClassCompletes : Obligations.SystemClassCompletes := by
  refine ⟨fun _ _ _ _ _ _ h hdone => exec_halt_done h hdone, fun _ _ _ _ _ _ h => issue_sys h _, fun _ _ _ _ _ _ h => issue_sys h _, ?gret,
    fun _ _ _ _ _ _ h => issue_sys h _, fun _ _ _ _ _ _ h hstop => (exec_bkpt h).trans (by rw [if_pos hstop]),
    fun _ _ _ _ _ _ h hstop => (exec_bkpt h).trans (by simp [hstop]), fun _ _ _ _ _ _ h => issue_sys h _, fun _ _ _ _ _ _ h => issue_sys h _,
    fun _ _ _ _ va n keep hstores hwb => State.cacheOp_clear va n keep hstores hwb,
    fun _ _ _ _ _ hq hi hst => exec_storeCompletion_ok hq hi hst⟩
  case gret =>
    intro s s1 core w k x g h hg
    exact ⟨_, _, exec_gret_handler h hg, State.slot?_retire_self .., rfl, rfl⟩

/-! ## Sift requests (R259-R262) -/

section Sift

variable {s : State} {unit id : Nat} {q : SiftReq}

theorem exec_siftAccept_room (hq : tget id s.sifts = some q) (hnew : q.accepted = false) (hroom : (s.unit q.unit).queue.length < 16)
    (hway : s.wayOpen (s.coreNode q.core) (homeEdge q.unit) = true) :
    exec (.siftAccept id) s = .next (({ s with sifts := tput id { q with accepted := true, born := s.hubCount } s.sifts }).setUnit q.unit
      { s.unit q.unit with queue := (s.unit q.unit).queue ++ [id] }) := by
  simp [exec_eq_siftAccept, execSiftAccept, hq, hnew, Nat.not_le.mpr hroom, hway]

/-- The start of a request changes its unit, and besides it only the latency maxima. -/
theorem exec_siftStart_idle (hidle : (s.unit unit).running = none) (hnext : s.siftNext (s.unit unit).queue = some id) :
    ∃ t, exec (.siftStart unit) s = .next t ∧ Aside (s.setUnit unit { queue := sdel id (s.unit unit).queue, running := some id }) t := by
  simp only [exec_eq_siftStart, execSiftStart, hidle, hnext]
  refine ⟨_, rfl, ?_⟩
  split
  · exact Aside.ite (State.measure_aside (Aside.rfl' _) _ _ _ _) (Aside.rfl' _)
  · exact Aside.rfl' _

theorem exec_siftComplete_good (hrun : (s.unit unit).running = some id) (hq : tget id s.sifts = some q) (hlost : q.lost = false)
    (hgood : s.siftBad (siftOf q.desc) q = none) {o : _} (ho : o = siftResult (siftOf q.desc) q (s.siftRows (siftOf q.desc) q (siftOf q.desc).n)) :
    exec (.siftComplete unit) s = .next (s.siftEnd id q 0 (siftOf q.desc).n o.1 o.2.1 o.2.2.1 o.2.2.2 0) := by
  simp [exec_eq_siftComplete, execSiftComplete, hrun, hq, hlost, hgood, ho]

theorem exec_siftComplete_lost (hrun : (s.unit unit).running = some id) (hq : tget id s.sifts = some q) (hlost : q.lost = true) :
    exec (.siftComplete unit) s = .next (s.siftFail id q 0x11 0 0) := by
  simp [exec_eq_siftComplete, execSiftComplete, hrun, hq, hlost]

end Sift

/-- The request that a SIFT with descriptor `b` sends to the unit `u`, its pages mapped by `map`. -/
def State.siftRequest (s : State) (core k : Nat) (x : Slot) (b : Bytes) (map : Tbl (Option Nat)) (u : Nat) : SiftReq :=
  let t := siftOf b
  { core, slot := k, ctx := x.ctx, folio := s.ctxFolio x.ctx, epoch := (s.folio (s.ctxFolio x.ctx)).epoch, qos := x.qos, desc := b,
    map := baseMap (pagesOf t.ranges) map, unit := u, issued := s.hubCount, qvec := (s.core core).spRead x t.qaddr t.qBytes,
    resIn := if t.acc then (s.core core).spRead x t.res t.resBytes else [],
    fencePa := ((tget (t.fence / 2 ^ 25) map).getD none).getD 0 + t.fence % 2 ^ 25, pc := x.pc }

/-- Settles O13. -/
theorem siftRequestsComplete : Obligations.SiftRequestsComplete := by
  refine ⟨?sift, ?accept, ?start, fun _ _ _ _ _ hrun hq hlost hgood ho => exec_siftComplete_good hrun hq hlost hgood ho,
    fun _ _ _ _ hrun hq hlost => exec_siftComplete_lost hrun hq hlost⟩
  case sift =>
    intro s s1 s2 core w k x map u b t h halign hin hroom hfree hb ht hok hq hres hx hone hserver
    subst ht
    refine ⟨s2.siftRequest core k x b map u, rfl, rfl, rfl, rfl, rfl, rfl, rfl, rfl, rfl, rfl, (issue_ready h _).trans ?_⟩
    simp only [halign, hin, hfree, ← hb, hok, hq, hres, hx, hone, hserver, Nat.not_le.mpr hroom]
    simp only [ne_eq, not_true_eq_false, if_false, or_self, Option.isNone_some, Bool.false_eq_true]
    rfl
  case accept =>
    intro s sift q hq hnew hroom hway
    exact ⟨_, exec_siftAccept_room hq hnew hroom hway, by simp, by simp, by simp⟩
  case start =>
    intro s unit i hidle hnext
    obtain ⟨t, hexec, haside⟩ := exec_siftStart_idle hidle hnext
    have hunit : t.unit unit = { queue := sdel i (s.unit unit).queue, running := some i } := by simp [State.unit, haside.units, State.setUnit]
    exact ⟨t, hexec, by rw [hunit], by rw [hunit], haside.sifts⟩

end Sys2Proof.Machine

namespace Sys2Proof.Machine

/-! ## Faults, holds and the counts of the safeguard block (R131, R238-R241) -/

section Faults

variable {s s1 s2 : State} {core slot : Nat} {x : Slot} {f : SlotFault}

theorem exec_faultHoldExpiry {ctx t : Nat} {y : Context} (hctx : s.ctx? ctx = some y) (hheld : y.held = some t) :
    exec (.faultHoldExpiry ctx) s = if s.hubCount < t + 1000 * s.holdUs then .next s else .next (s.ctxResetFree ctx 0x10) := by
  simp only [exec_eq_faultHoldExpiry, execFaultHoldExpiry, hctx, Option.bind_some, hheld]
  rfl

theorem exec_safeguardUpdate_plain {upd a : Nat} {u : SgUpdate} {b : Bytes} (hu : tget upd s.updates = some u) (hoff : u.off < 0x78)
    (hkind : u.kind = none) (hpeek : ({ s with updates := tdel upd s.updates }).peek u.core u.ctx (u.base + u.off) 3 = some a)
    (hread : ({ s with updates := tdel upd s.updates }).readLine u.ctx (({ s with updates := tdel upd s.updates }).ctxFolio u.ctx) a 8 = (.ok, b, s1))
    (hwrite : s1.writeLine u.ctx (s1.ctxFolio u.ctx) a (le 8 (unle b + u.inc)) = (.ok, s2)) :
    exec (.safeguardUpdateComplete upd) s = .next s2 := by
  simp only [exec_eq_safeguardUpdateComplete, execSafeguardUpdateComplete, hu, hpeek, hoff, if_true, hread, hwrite, hkind]

end Faults

/-- Settles O14. -/
theorem contextFaultsAndSafeguardCounts : Obligations.ContextFaultsAndSafeguardCounts := by
  refine ⟨?ctxFault, fun _ _ _ _ hctx hheld ht => (exec_faultHoldExpiry hctx hheld).trans (if_neg (Nat.not_lt.mpr ht)),
    fun _ _ _ _ hctx hheld ht => (exec_faultHoldExpiry hctx hheld).trans (if_pos ht),
    fun _ _ _ _ _ _ _ hu hoff hkind hpeek hread hwrite => exec_safeguardUpdate_plain hu hoff hkind hpeek hread hwrite⟩
  case ctxFault =>
    rintro s core slot x f s2 hslot hfault hwaits rfl
    constructor
    · intro hrun
      simp only [exec_eq_ctxFault, execCtxFault, hslot, hfault, hwaits, Bool.false_eq_true, if_false, hrun] <;> rfl
    · intro hrun
      simp only [exec_eq_ctxFault, execCtxFault, hslot, hfault, hwaits, Bool.false_eq_true, if_false, hrun, if_true] <;> rfl

/-! ## Which slot a core runs (R511-R515) -/

/-- The core runs the same slot and has chosen the same next one. -/
def SameTurn (c : Nat) (s t : State) : Prop := (t.core c).running = (s.core c).running ∧ (t.core c).choice = (s.core c).choice

theorem SameTurn.trans {c : Nat} {s t u : State} (h : SameTurn c s t) (g : SameTurn c t u) : SameTurn c s u :=
  ⟨g.1.trans h.1, g.2.trans h.2⟩

theorem State.setCore_sameTurn (s : State) (c : Nat) (v : Core) (hrun : v.running = (s.core c).running) (hchoice : v.choice = (s.core c).choice) :
    SameTurn c s (s.setCore c v) := by
  simp [SameTurn, hrun, hchoice]

theorem State.setSlot_sameTurn (s : State) (c k : Nat) (x : Slot) : SameTurn c s (s.setSlot c k x) := s.setCore_sameTurn c _ rfl rfl

theorem State.modSlot_sameTurn (s : State) (c k : Nat) (f : Slot → Slot) : SameTurn c s (s.modSlot c k f) := by
  unfold State.modSlot
  split
  · exact s.setSlot_sameTurn c k _
  · exact ⟨rfl, rfl⟩

theorem State.barCheck_sameTurn (s : State) (c k : Nat) : SameTurn c s (s.barCheck c k) := by
  unfold State.barCheck
  split
  · exact s.setSlot_sameTurn c k _
  · exact ⟨rfl, rfl⟩

theorem State.dropAsk_cores (s : State) (ask : Option Nat) : (s.dropAsk ask).cores = s.cores := by
  unfold State.dropAsk
  split
  · rfl
  · split
    · rfl
    · split_ifs <;> rfl

theorem State.fwaitDone_sameTurn (s : State) (c k : Nat) (v : Word) : SameTurn c s (s.fwaitDone c k v) := by
  unfold State.fwaitDone
  split
  · exact ⟨rfl, rfl⟩
  · split
    case h_1 f _ =>
      have hask : SameTurn c s ((s.dropWatch (.fwait c k)).dropAsk f.ask) := by
        simp only [SameTurn, State.core, State.dropAsk_cores]
        exact ⟨rfl, rfl⟩
      exact (hask.trans (State.modSlot_sameTurn _ c k _)).trans (State.setCore_sameTurn _ c _ rfl rfl)
    case h_2 => exact ⟨rfl, rfl⟩

theorem State.recheck_sameTurn (s : State) (c k : Nat) : SameTurn c s (s.recheck c k) := by
  refine (s.barCheck_sameTurn c k).trans ?_
  unfold State.recheck State.fenceCheck
  split
  · split_ifs
    · exact State.fwaitDone_sameTurn _ _ _ _
    · exact State.fwaitDone_sameTurn _ _ _ _
    · exact ⟨rfl, rfl⟩
  · exact ⟨rfl, rfl⟩

section Cores

variable {s : State} {core slot k : Nat} {x : Slot}

theorem State.switchTo_turn {y : Slot} (h : (((s.stopUnits core).charge core).countPreempt core).slot? core k = some y) :
    ((s.switchTo core k).core core).running = some k ∧ ((s.switchTo core k).core core).choice = none := by
  unfold State.switchTo
  simp only [h]
  obtain ⟨hrun, hchoice⟩ := State.recheck_sameTurn _ core k
  rw [hrun, hchoice, State.core_setCore_self]
  exact ⟨rfl, rfl⟩

theorem exec_contextSwitch_other (hnext : s.nextSlot core = some k) (hother : (s.core core).running ≠ some k) :
    exec (.contextSwitch core) s = .next (s.switchTo core k) := by
  simp [exec_eq_contextSwitch, execContextSwitch, hnext, hother]

theorem exec_quantumExpiry_choice {j : Nat} {y : Slot} (hrun : (s.charge core).runningSlot core = some (k, x)) (hran : s.quantum ≤ x.ran)
    (hrt : (s.charge core).rtReady core = false) (hlow : (s.charge core).lowestVt core k = some (j, y)) (hvt : y.vt < x.vt) :
    exec (.quantumExpiry core) s = .next ((s.charge core).setCore core { (s.charge core).core core with choice := some j }) := by
  simp [exec_eq_quantumExpiry, execQuantumExpiry, hrun, hran, hrt, hlow, hvt]

theorem exec_waitSwExpiry_choose (hrun : s.runningSlot core = some (k, x)) (hready : s.ready core k x = false)
    (hdue : (s.core core).retAt + s.waitSw ≤ s.count (coreIsland core)) :
    exec (.waitSwExpiry core) s = .next (s.choose core (some k)) := by
  simp [exec_eq_waitSwExpiry, execWaitSwExpiry, hrun, hready, hdue]

theorem exec_rtContextReady_alone {d : Nat} (hslot : s.slot? core slot = some x) (hd : s.deadlineOf x.ctx = some d)
    (hready : s.ready core slot x = true) (hnone : s.runningSlot core = none) (hpick : s.pick core none = some slot) :
    exec (.rtContextReady core slot) s = .next (s.setCore core { s.core core with choice := some slot }) := by
  simp [exec_eq_rtContextReady, execRtContextReady, hslot, hd, hready, hnone, hpick]

theorem exec_rtContextReady_beats {d : Nat} {r : Slot} (hslot : s.slot? core slot = some x) (hd : s.deadlineOf x.ctx = some d)
    (hready : s.ready core slot x = true) (hrun : s.runningSlot core = some (k, r)) (hk : k ≠ slot)
    (hlater : ∀ e, s.deadlineOf r.ctx = some e → d < e) (hpick : s.pick core none = some slot) :
    exec (.rtContextReady core slot) s = .next (s.setCore core { s.core core with choice := some slot }) := by
  cases he : s.deadlineOf r.ctx with
  | none => simp [exec_eq_rtContextReady, execRtContextReady, hslot, hd, hready, hrun, hpick, hk, he]
  | some e => simp [exec_eq_rtContextReady, execRtContextReady, hslot, hd, hready, hrun, hpick, hk, he, hlater e he]

theorem exec_rtMiss_late {ctx d : Nat} {y : Context} {a : Activation} (hctx : s.ctx? ctx = some y) (hact : y.act = some a) (hdl : a.deadline = some d)
    (hd : d ≤ s.hubCount) (hnew : a.missed = false) (hrun : (s.slotsOf ctx).all (fun x => x.2.2.halted) = false) :
    ∃ t, exec (.rtMiss ctx) s = .next t ∧
      t.ctx? ctx = some { y with act := some { a with missed := true }, acct := { y.acct with rtMiss := y.acct.rtMiss + 1 } } := by
  refine ⟨_, by simp only [exec_eq_rtMiss, execRtMiss, hctx, hact, hdl, Nat.not_lt.mpr hd, hnew, hrun, Bool.false_eq_true, or_self, if_false]; rfl, ?_⟩
  rw [State.ctx?_modCtx_self]
  simp only [State.ctx?, State.useFree_ctxs, (State.ringPut_aside (Aside.rfl' s) _ _).ctxs] at hctx ⊢
  simp [hctx, hact]

end Cores

/-- Settles O15. -/
theorem coresChooseAndSwitch : Obligations.CoresChooseAndSwitch := by
  refine ⟨fun _ _ _ hnext hother _ => exec_contextSwitch_other hnext hother, fun _ _ _ _ h => State.switchTo_turn h, ?quantum,
    fun _ _ _ _ hrun hready hdue => exec_waitSwExpiry_choose hrun hready hdue, ?alone, ?beats, ?miss⟩
  case quantum =>
    intro s core k x j y hrun hran hrt hlow hvt
    exact ⟨_, exec_quantumExpiry_choice hrun hran hrt hlow hvt, by simp, by simp⟩
  case alone =>
    intro s core slot x d hslot hd hready hnone hpick
    exact ⟨_, exec_rtContextReady_alone hslot hd hready hnone hpick, by simp, by simp⟩
  case beats =>
    intro s core slot x d k r hslot hd hready hrun hk hlater hpick
    exact ⟨_, exec_rtContextReady_beats hslot hd hready hrun hk hlater hpick, by simp, by simp⟩
  case miss =>
    intro s ctx y a d hctx hact hdl hd hnew hrun
    obtain ⟨t, hexec, hz⟩ := exec_rtMiss_late hctx hact hdl hd hnew hrun
    exact ⟨t, _, _, hexec, hz, rfl, rfl, rfl⟩

end Sys2Proof.Machine

namespace Sys2Proof.Machine

/-! ## SHARE_SET, ACCT_READ, RT_ADMIT and RT_RELEASE (R513-R522) -/

theorem State.ctxArg_none {s : State} {c : Cmd} {o : Nat} {y : Context} (hid : c.arg o 2 ≤ 4095) (hctx : s.ctx? (c.arg o 2) = some y) :
    s.ctxArg c o = none := by
  simp [State.ctxArg, Nat.not_lt.mpr hid, hctx]

theorem State.ctxArg_noId {s : State} {c : Cmd} {o : Nat} (hid : c.arg o 2 ≤ 4095) (hctx : s.ctx? (c.arg o 2) = none) :
    s.ctxArg c o = some (4, 0) := by
  simp [State.ctxArg, Nat.not_lt.mpr hid, hctx]

section Scheduling

variable {s s1 s2 s3 : State} {q : Nat} {x : Queue} {c : Cmd} {y : Context}

theorem exec_shareSet_ok (h : Taken s q 0x50 x c s1) (hid : c.arg 0x28 2 ≤ 4095) (hctx : s1.ctx? (c.arg 0x28 2) = some y) :
    exec (.shareSet q) s =
      .next (((s1.chargeAll (c.arg 0x28 2)).modCtx (c.arg 0x28 2) (fun z => { z with share := c.arg 0x2C 4 })).cmdDone q 0 0) := by
  simp only [exec_eq_shareSet, execShareSet, runCmd_taken h, State.ctxArg_none hid hctx]

theorem exec_shareSet_noId (h : Taken s q 0x50 x c s1) (hid : c.arg 0x28 2 ≤ 4095) (hctx : s1.ctx? (c.arg 0x28 2) = none) :
    exec (.shareSet q) s = .next (s1.cmdDone q 4 0) := by
  simp only [exec_eq_shareSet, execShareSet, runCmd_taken h, State.ctxArg_noId hid hctx]

theorem exec_acctRead_ok (h : Taken s q 0x51 x c s1) (hown : x.type = .mgmt ∨ c.arg 0x28 2 = x.ctx) (hid : c.arg 0x28 2 ≤ 4095)
    (hctx : (s1.ctx? (c.arg 0x28 2)).isSome = true) (hcharged : (s1.chargeAll (c.arg 0x28 2)).ctx? (c.arg 0x28 2) = some y)
    (hwrite : (s1.chargeAll (c.arg 0x28 2)).hubWrite x.ctx (c.arg 0x30 8)
      (acctRecord (c.arg 0x28 2) (s1.chargeAll (c.arg 0x28 2)).hubCount y) = (true, s3)) :
    exec (.acctRead q) s = .next (s3.cmdDone q 0 0) := by
  obtain ⟨z, hz⟩ := Option.isSome_iff_exists.mp hctx
  have hmay : ¬ (x.type ≠ .mgmt ∧ c.arg 0x28 2 ≠ x.ctx) := by tauto
  simp only [exec_eq_acctRead, execAcctRead, runCmd_taken h, State.ctxArg_none hid hz, if_neg hmay, hcharged, hwrite]

theorem exec_rtRelease_ok (h : Taken s q 0x53 x c s1) (hid : c.arg 0x28 2 ≤ 4095) (hctx : s1.ctx? (c.arg 0x28 2) = some y) :
    exec (.rtRelease q) s = .next ((s1.modCtx (c.arg 0x28 2) (fun z => { z with admitted := none })).cmdDone q 0 0) := by
  simp only [exec_eq_rtRelease, execRtRelease, runCmd_taken h, State.ctxArg_none hid hctx]

theorem exec_rtRelease_noId (h : Taken s q 0x53 x c s1) (hid : c.arg 0x28 2 ≤ 4095) (hctx : s1.ctx? (c.arg 0x28 2) = none) :
    exec (.rtRelease q) s = .next (s1.cmdDone q 4 0) := by
  simp only [exec_eq_rtRelease, execRtRelease, runCmd_taken h, State.ctxArg_noId hid hctx]

theorem exec_rtAdmit_takeIn {b : Bytes} {p : Program} (h : TakenBlock s q 0x52 x c s2 b) (h3 : fieldLe b 3 1 = 0) (h12 : fieldLe b 0x0C 4 = 0)
    (h24 : fieldLe b 0x18 40 = 0) (hid : fieldLe b 0 2 ≤ 4095) (hctx : s2.ctx? (fieldLe b 0 2) = some y) (hrt : y.rt = true)
    (hprog : fieldLe b 2 1 ≤ 63) (hp : tget (fieldLe b 2 1) y.programs = some p) (hpos : 0 < fieldLe b 6 2) (hcount : fieldLe b 6 2 ≤ 4096)
    (hmin : 10 ≤ fieldLe b 8 4) (hmax : fieldLe b 8 4 ≤ 1000000) :
    exec (.rtAdmit q) s =
      .next (s2.takeIn q (fieldLe b 0 2) p (fieldLe b 4 2) (fieldLe b 6 2) (fieldLe b 8 4) (fieldLe b 0x10 8)) := by
  simp only [exec_eq_rtAdmit, execRtAdmit, runCmd_block h]
  simp [h3, h12, h24, Nat.not_lt.mpr hid, hctx, hrt, Nat.not_lt.mpr hprog, hp, Nat.ne_of_gt hpos, Nat.not_lt.mpr hcount,
    Nat.not_lt.mpr hmin, Nat.not_lt.mpr hmax]

end Scheduling

/-- Settles O16. -/
theorem schedulingCommandsComplete : Obligations.SchedulingCommandsComplete :=
  ⟨fun _ _ _ _ _ _ h hid hctx => exec_shareSet_ok h hid hctx,
   fun _ _ _ _ _ _ _ h hown hid hctx hcharged hwrite => exec_acctRead_ok h hown hid hctx hcharged hwrite,
   fun _ _ _ _ _ _ _ _ h h3 h12 h24 hid hctx hrt hprog hp hpos hcount hmin hmax =>
    exec_rtAdmit_takeIn h h3 h12 h24 hid hctx hrt hprog hp hpos hcount hmin hmax,
   fun _ _ _ _ _ _ h hid hctx => exec_rtRelease_ok h hid hctx,
   fun _ _ _ _ _ => ⟨fun h hid hctx => exec_shareSet_noId h hid hctx, fun h hid hctx => exec_rtRelease_noId h hid hctx⟩⟩

/-! ## Doorbells and fetches (R465-R480) -/

section Doorbells

variable {s s1 s2 : State} {q : Nat} {x : Queue}

theorem exec_doorbellSnoop_watched (line : Bytes) (hq : s.queue? q = some x) (hwatch : x.watched = true) (hup : s.link.up = true)
    (hcxl : s.link.cxl = true) :
    exec (.doorbellSnoop q line) s =
      .next (((s.dropLine (lineOf x.dbPa)).hostWrite x.dbPa (fit 64 line)).setQueue q { x with snooped := true }) := by
  simp [exec_eq_doorbellSnoop, execDoorbellSnoop, hq, hwatch, hup, hcxl]

theorem exec_doorbellRefetch_snooped (hq : s.queue? q = some x) (hwatch : x.watched = true) (hsn : x.snooped = true) (hup : s.link.up = true)
    (hcxl : s.link.cxl = true) : exec (.doorbellRefetch q) s = .next ((s.watchDoorbell x).seeDoorbell q x (s.curLine x.dbPa)) := by
  simp [exec_eq_doorbellRefetch, execDoorbellRefetch, hq, hwatch, hsn, hup, hcxl]

theorem exec_doorbellPoll_unwatched (hq : s.queue? q = some x) (hwatch : x.watched = false) (hlive : x.dying = false) (hup : s.link.up = true)
    (hcxl : s.link.cxl = true) : exec (.doorbellPoll q) s = .next (s.seeDoorbell q x (s.curLine x.dbPa)) := by
  simp [exec_eq_doorbellPoll, execDoorbellPoll, hq, hwatch, hlive, hup, hcxl]

/-- The queue after its doorbell line has been read: the tail and the express number are the line's, the rest of it stands. -/
theorem State.seeDoorbell_queue (s : State) (q : Nat) (x : Queue) (line : Bytes) :
    ∃ y, (s.seeDoorbell q x line).queue? q = some y ∧ y.snooped = false ∧ y.tail = fieldLe line 0 4 ∧ y.xseqNew = fieldLe line 4 1 ∧
      y.head = x.head ∧ y.cmds = x.cmds :=
  ⟨_, State.queueQ_setQueue_self .., rfl, rfl, rfl, rfl, rfl⟩

theorem exec_commandFetch_ring (hq : s.queue? q = some x) (hgo : x.stopped = false) (hlive : x.dying = false) (hup : s.link.up = true)
    (hcxl : s.link.cxl = true) (hne : x.tail ≠ x.head) (hhead : x.head < 2 ^ 32) (htail : x.tail < 2 ^ 32) (hx : x.xseqNew = x.xseq)
    (hmode : s.cyclic.mode = false ∨ q = 0) (hfit : (x.tail + 2 ^ 32 - x.head) % 2 ^ 32 ≤ 2 ^ x.log) :
    exec (.commandFetch q) s = .next (((s.setQueue q { x with head := x.tail }).headWrite x (le 4 x.tail ++ le 1 x.xseq ++ zeros 3)).enqueue q
      (s.ringCmds x ((x.tail + 2 ^ 32 - x.head) % 2 ^ 32))) := by
  have hsome : (x.tail + 2 ^ 32 - x.head) % 2 ^ 32 ≠ 0 := by omega
  have hopen : ¬ (s.cyclic.mode = true ∧ q ≠ 0) := by rcases hmode with hm | hm <;> simp [hm]
  simp only [exec_eq_commandFetch, execCommandFetch, hq, hgo, hlive, hup, hcxl, hx, hsome, hopen, Nat.not_lt.mpr hfit]
  simp [← hx]

theorem exec_commandFetch_beyond (hq : s.queue? q = some x) (hgo : x.stopped = false) (hlive : x.dying = false) (hup : s.link.up = true)
    (hcxl : s.link.cxl = true) (hmode : s.cyclic.mode = false ∨ q = 0) (hover : 2 ^ x.log < (x.tail + 2 ^ 32 - x.head) % 2 ^ 32) :
    exec (.commandFetch q) s = .next (s.queueStop q x) := by
  have hsome : (x.tail + 2 ^ 32 - x.head) % 2 ^ 32 ≠ 0 := Nat.ne_of_gt ((Nat.two_pow_pos x.log).trans hover)
  have hopen : ¬ (s.cyclic.mode = true ∧ q ≠ 0) := by rcases hmode with hm | hm <;> simp [hm]
  simp only [exec_eq_commandFetch, execCommandFetch, hq, hgo, hlive, hup, hcxl, hsome, hopen, hover]
  simp

theorem exec_commandWaitSatisfied {c : Cmd} {rest : List Cmd} {a : Nat} {nc : Bool} {b : Bytes} (hq : s.queue? q = some x)
    (hphase : x.phase = .waiting) (hcmds : x.cmds = c :: rest) (hheld : s.cmdHeld x c = false)
    (hx : s.hubXlate x.ctx (fieldLe c.bytes 8 8) 0 = (.pa a nc, s1)) (hread : s1.readLine x.ctx (s.queueFolio x) a 4 = (.ok, b, s2))
    (hyes : satisfies (BitVec.ofNat 32 (unle b)) (BitVec.ofNat 32 (fieldLe c.bytes 0x10 4)) = true) :
    exec (.commandWaitSatisfied q) s =
      .next ((s2.dropWatch (.command q)).modQueue q (fun y => { y with phase := .waitDone, qwaitFrom := s.hubCount })) := by
  simp [exec_eq_commandWaitSatisfied, execCommandWaitSatisfied, hq, hphase, hcmds, hheld, hx, hread, hyes]

theorem exec_commandComplete_done {c : Cmd} {rest : List Cmd} {st dt : Nat} (hq : s.queue? q = some x) (hphase : x.phase = .done st dt)
    (hcmds : x.cmds = c :: rest) : exec (.commandComplete q) s = .next ((s.endCmd q x c x.refs st dt).popCmd q) := by
  simp [exec_eq_commandComplete, execCommandComplete, hq, hphase, hcmds]

theorem exec_commandComplete_running {c : Cmd} {rest : List Cmd} {p : Nat} (hq : s.queue? q = some x) (hphase : x.phase = .running p)
    (hcmds : x.cmds = c :: rest) (hend : s.runningDone q x c = none) : exec (.commandComplete q) s = .next s := by
  simp [exec_eq_commandComplete, execCommandComplete, hq, hphase, hcmds, hend, stay]

end Doorbells

/-- Settles O17. -/
theorem doorbellsAndFetches : Obligations.DoorbellsAndFetches := by
  refine ⟨?snoop, ?refetch, ?poll,
    fun _ _ _ hq hgo hlive hup hcxl hne hhead htail hx hmode hfit => exec_commandFetch_ring hq hgo hlive hup hcxl hne hhead htail hx hmode hfit,
    fun _ _ _ hq hgo hlive hup hcxl hmode hover => exec_commandFetch_beyond hq hgo hlive hup hcxl hmode hover,
    fun _ _ _ _ _ _ _ _ _ _ hq hphase hcmds hheld hx hread hyes => exec_commandWaitSatisfied hq hphase hcmds hheld hx hread hyes,
    fun _ _ _ _ _ _ _ hq hphase hcmds => exec_commandComplete_done hq hphase hcmds,
    fun _ _ _ _ _ _ hq hphase hcmds hend => exec_commandComplete_running hq hphase hcmds hend⟩
  case snoop =>
    intro s q x line hq hwatch hup hcxl
    exact ⟨_, exec_doorbellSnoop_watched line hq hwatch hup hcxl, State.queueQ_setQueue_self .., rfl⟩
  case refetch =>
    intro s q x hq hwatch hsn hup hcxl
    obtain ⟨y, hy⟩ := (s.watchDoorbell x).seeDoorbell_queue q x (s.curLine x.dbPa)
    exact ⟨_, y, exec_doorbellRefetch_snooped hq hwatch hsn hup hcxl, hy⟩
  case poll =>
    intro s q x hq hwatch hlive hup hcxl
    obtain ⟨y, hqueue, -, hy⟩ := s.seeDoorbell_queue q x (s.curLine x.dbPa)
    exact ⟨_, y, exec_doorbellPoll_unwatched hq hwatch hlive hup hcxl, hqueue, hy⟩

/-! ## Reference counts (R493-R496) -/

section RefSub

variable {s : State} {sub : Nat} {r : RefSub}

/-- The RefRelease record of a subtraction, with the opcode it reports. -/
def State.refRelease (s : State) (r : RefSub) (op : Nat) : Bytes :=
  s.record tyRefRelease 0x3F 0 0xFFFF 18
    (le 8 r.count ++ s.curBytes (r.pa + 8) 8 ++ le 2 (if besideBase ≤ r.queue then 0 else r.queue) ++ le 1 op)

variable (hr : tget sub s.refSubs = some r) (hfree : (s.offers.any (fun o => o.2.issuer == .command r.queue && decide (o.1 < r.after))) = false)

include hr hfree

theorem exec_refCountSubtract_host (hup : s.link.up = true) (hcxl : s.link.cxl = true) :
    exec (.refCountSubtract sub false) s = .next (if s.countAt r.pa = 1 then
      (({ s with refSubs := tdel sub s.refSubs }).countAdd r.pa (2 ^ 64 - 1)).ringPut r.evring (s.refRelease r r.opcode)
      else ({ s with refSubs := tdel sub s.refSubs }).countAdd r.pa (2 ^ 64 - 1)) := by
  simp only [exec_eq_refCountSubtract, execRefCountSubtract, hr, hfree, hup, hcxl]
  simp [State.refRelease]

theorem exec_refCountSubtract_failed {e : Bool} (he : e = true ∨ s.link.up = false ∨ s.link.cxl = false) :
    exec (.refCountSubtract sub e) s =
      .next (({ s with refSubs := tdel sub s.refSubs }).ringPut r.evring (s.refRelease r 0xFF)) := by
  have hdown : e = true ∨ ¬ s.link.up = true ∨ ¬ s.link.cxl = true := by simpa using he
  simp only [exec_eq_refCountSubtract, execRefCountSubtract, hr, hfree, if_pos hdown]
  simp [State.refRelease]

end RefSub

theorem exec_refCountSubtract_waits {s : State} {sub : Nat} {r : RefSub} (hr : tget sub s.refSubs = some r)
    (hbusy : (s.offers.any (fun o => o.2.issuer == .command r.queue && decide (o.1 < r.after))) = true) (e : Bool) :
    exec (.refCountSubtract sub e) s = .next s := by
  simp only [exec_eq_refCountSubtract, execRefCountSubtract, hr, hbusy, if_true]
  rfl

/-- Settles O18. -/
theorem referenceCountsFall : Obligations.ReferenceCountsFall :=
  ⟨fun _ _ _ hr hfree hup hcxl hcount => (exec_refCountSubtract_host hr hfree hup hcxl).trans (by rw [if_neg hcount]),
   fun _ _ _ hr hfree hup hcxl hcount => (exec_refCountSubtract_host hr hfree hup hcxl).trans (by rw [if_pos hcount]; rfl),
   fun _ _ _ _ hr hfree he => exec_refCountSubtract_failed hr hfree he,
   fun _ _ _ hr hbusy e => exec_refCountSubtract_waits hr hbusy e⟩

end Sys2Proof.Machine

namespace Sys2Proof.Machine

/-! ## Programs and settings (R466-R472) -/

/-- What a fold of slot changes leaves of the contexts: everything. -/
theorem State.ctxQ_foldS_modSlot {β : Type} (s : State) (l : List β) (c k : β → Nat) (f : β → Slot → Slot) (i : Nat) :
    (foldS l s (fun st y => st.modSlot (c y) (k y) (f y))).ctx? i = s.ctx? i :=
  foldS_keeps (P := fun st => st.ctx? i = s.ctx? i) rfl l _ (fun st y h => by simp [h])

section Programs

variable {s s1 s2 s3 : State} {q : Nat} {x : Queue} {c : Cmd} {y : Context}

theorem State.program?_of_ctx {ctx p : Nat} (hctx : s.ctx? ctx = some y) : s.program? ctx p = tget p y.programs := by
  simp [State.program?, hctx]

theorem exec_safeSet_read {b : Bytes} (h : Taken s q 0x05 x c s1) (hne : x.ctx ≠ 0) (hctx : s1.ctx? x.ctx = some y)
    (hread : s1.hubRead x.ctx y.safeVa 64 = (some b, s2)) :
    exec (.safeSet q) s = .next ((s2.modCtx x.ctx (fun z => { z with set := settingsOf b })).cmdDone q 0 0) := by
  simp only [exec_eq_safeSet, execSafeSet, runCmd_taken h, if_neg hne, hctx, hread]

theorem exec_safeSet_zero (h : Taken s q 0x05 x c s1) (hzero : x.ctx = 0) : exec (.safeSet q) s = .next (s1.cmdDone q 0 0) := by
  simp only [exec_eq_safeSet, execSafeSet, runCmd_taken h, if_pos hzero]

theorem exec_reseed (h : Taken s q 0x06 x c s1) :
    exec (.reseed q) s = .next ((s1.modCtx x.ctx (fun y => { y with seed := BitVec.ofNat 64 (c.arg 0x28 8) })).cmdDone q 0 0) := by
  simp only [exec_eq_reseed, execReseed, runCmd_taken h]

theorem exec_progLoad_sound {hd b : Bytes} (h : Taken s q 0x07 x c s1) (hid : c.arg 0x28 2 ≤ 63) (hfree : s1.program? x.ctx (c.arg 0x28 2) = none)
    (hhead : s1.hubRead x.ctx (c.arg 0x30 8) 128 = (some hd, s2)) (hok : qHeaderOk hd s2.hubRev = true)
    (himage : s2.hubRead x.ctx (c.arg 0x30 8) (qTotal hd) = (some b, s3)) (hquire : quireOk b s3.hubRev = true)
    (hsig : s3.isConf (s1.ctxFolio x.ctx) = true → signatureOk b (s3.folio (s1.ctxFolio x.ctx)).qkeys = true) :
    exec (.progLoad q) s = .next ((s3.modCtx x.ctx
      (fun y => { y with programs := tput (c.arg 0x28 2) { va := c.arg 0x30 8, image := b } y.programs })).cmdDone q 0 0) := by
  have hgood : ¬ (¬ quireOk b s3.hubRev = true ∨
      (s3.isConf (s1.ctxFolio x.ctx) = true ∧ ¬ signatureOk b (s3.folio (s1.ctxFolio x.ctx)).qkeys = true)) := by tauto
  simp only [exec_eq_progLoad, execProgLoad, runCmd_taken h, Nat.not_lt.mpr hid, if_false, hfree, Option.isSome_none, Bool.false_eq_true, hhead, hok,
    not_true_eq_false, himage, if_neg hgood]

theorem exec_progLoad_inUse (h : Taken s q 0x07 x c s1) (hid : c.arg 0x28 2 ≤ 63) (hused : (s1.program? x.ctx (c.arg 0x28 2)).isSome = true) :
    exec (.progLoad q) s = .next (s1.cmdDone q 4 0) := by
  simp only [exec_eq_progLoad, execProgLoad, runCmd_taken h, Nat.not_lt.mpr hid, if_false, hused, if_true]

theorem exec_progUnload_idle (h : Taken s q 0x08 x c s1) (hid : c.arg 0x28 2 ≤ 63) (hctx : s1.ctx? x.ctx = some y)
    (hp : (tget (c.arg 0x28 2) y.programs).isSome = true) (hidle : ∀ a, y.act = some a → a.prog ≠ c.arg 0x28 2) :
    exec (.progUnload q) s = .next (((foldS (s1.slotsOf x.ctx) s1 (fun st z => st.modSlot z.1 z.2.1 (fun z => z.forget (c.arg 0x28 2)))).modCtx x.ctx
      (fun y => { y with programs := tdel (c.arg 0x28 2) y.programs })).cmdDone q 0 0) := by
  have hsome : (tget (c.arg 0x28 2) y.programs).isNone = false := by simpa using hp
  simp only [exec_eq_progUnload, execProgUnload, runCmd_taken h, Nat.not_lt.mpr hid, if_false, State.program?_of_ctx hctx, hsome, hctx, Option.bind_some]
  cases hact : y.act with
  | none => simp
  | some a => simp [hidle a hact]

theorem exec_progUnload_runs {a : Activation} (h : Taken s q 0x08 x c s1) (hid : c.arg 0x28 2 ≤ 63) (hctx : s1.ctx? x.ctx = some y)
    (hp : (tget (c.arg 0x28 2) y.programs).isSome = true) (hact : y.act = some a) (hprog : a.prog = c.arg 0x28 2) :
    exec (.progUnload q) s = .next (s1.cmdDone q 5 0) := by
  have hsome : (tget (c.arg 0x28 2) y.programs).isNone = false := by simpa using hp
  simp only [exec_eq_progUnload, execProgUnload, runCmd_taken h, Nat.not_lt.mpr hid, if_false, State.program?_of_ctx hctx, hsome, hctx, Option.bind_some,
    hact, hprog]
  simp

theorem exec_progUnload_noId (h : Taken s q 0x08 x c s1) (hid : c.arg 0x28 2 ≤ 63) (hp : s1.program? x.ctx (c.arg 0x28 2) = none) :
    exec (.progUnload q) s = .next (s1.cmdDone q 4 0) := by
  simp only [exec_eq_progUnload, execProgUnload, runCmd_taken h, Nat.not_lt.mpr hid, if_false, hp, Option.isNone_none, if_true]

end Programs

/-- Settles O19. -/
theorem programsAndSettingsCommands : Obligations.ProgramsAndSettingsCommands := by
  refine ⟨fun _ _ _ _ _ h => by simp only [exec_eq_nop, execNop, runCmd_taken h], fun _ _ _ _ _ h => by simp only [exec_eq_signal, execSignal, runCmd_taken h],
    fun _ _ _ _ _ h => by simp only [exec_eq_sieveFlush, execSieveFlush, runCmd_taken h],
    fun _ _ _ _ _ _ _ _ h hne hctx hread => exec_safeSet_read h hne hctx hread, ?reseed,
    fun _ _ _ _ _ _ _ _ _ h hid hfree hhead hok himage hquire hsig => exec_progLoad_sound h hid hfree hhead hok himage hquire hsig,
    fun _ _ _ _ _ h hid hused => exec_progLoad_inUse h hid hused, ?unload,
    fun _ _ _ _ _ _ _ h hid hctx hp hact hprog => exec_progUnload_runs h hid hctx hp hact hprog,
    fun _ _ _ _ _ h hzero => exec_safeSet_zero h hzero,
    fun _ _ _ _ _ h hid hp => exec_progUnload_noId h hid hp⟩
  case reseed =>
    intro s s1 q x c y h hctx
    exact ⟨_, exec_reseed h, by simp [hctx]⟩
  case unload =>
    intro s s1 q x c y h hid hctx hp hidle
    refine ⟨_, { y with programs := tdel (c.arg 0x28 2) y.programs }, exec_progUnload_idle h hid hctx hp hidle, ?_, tget_tdel_self _ _,
      fun p hne => tget_tdel_ne hne _⟩
    rw [State.cmdDone_at_ctxQ, State.ctx?_modCtx_self, State.ctxQ_foldS_modSlot, hctx]
    rfl

/-! ## Launches and copies (R497-R510) -/

section Launches

variable {s s1 : State} {q : Nat} {x : Queue} {c : Cmd}

theorem exec_launch_resolved {p : Program} {i : Nat} (hfront : s.front q 0x02 = some (x, c)) (hres : s.resolve x.ctx (c.arg 0x28 2) = .ok (p, i)) :
    exec (.launch q) s = .next ((s.makeWay x.ctx (qSpWays p.image) (qAccWays p.image)).setPhase q .held) := by
  simp only [exec_eq_launch, execLaunch, hfront, hres]

theorem exec_launch_refused {st dt : Nat} (hfront : s.front q 0x02 = some (x, c)) (hres : s.resolve x.ctx (c.arg 0x28 2) = .error (st, dt)) :
    exec (.launch q) s = .next (s.cmdDone q st dt) := by
  simp only [exec_eq_launch, execLaunch, hfront, hres]

theorem State.resolve_noId {ctx prog : Nat} (hid : prog ≤ 63) (hp : s.program? ctx prog = none) : s.resolve ctx prog = .error (4, 0) := by
  simp [State.resolve, Nat.not_lt.mpr hid, hp]

theorem State.resolve_noPlacement {ctx prog : Nat} {p : Program} (hid : prog ≤ 63) (hp : s.program? ctx prog = some p)
    (hplace : qPlacement p.image (s.rankCores (s.ctxFolio ctx)).length = none) : s.resolve ctx prog = .error (0x0C, 0) := by
  simp [State.resolve, Nat.not_lt.mpr hid, hp, hplace]

theorem exec_launchStart_able {p : Program} {i : Nat} (hwait : s.waitingLaunch q = some (x, c)) (hmode : s.cyclic.mode = false)
    (hstandby : s.standby = none) (hres : s.resolve x.ctx (c.arg 0x28 2) = .ok (p, i))
    (hs1 : s1 = s.makeWay x.ctx (qSpWays p.image) (qAccWays p.image)) (hcan : s1.canActivate x.ctx p = true) (hfirst : s1.outranked q = false) :
    exec (.launchStart q) s = .next (((s1.endQwait q x).activate
      { ctx := x.ctx, prog := c.arg 0x28 2, place := i, seg := c.arg 0x2A 2, arg := BitVec.ofNat 64 (c.arg 0x30 8), qos := c.qos } p (some q)
      none).setPhase q (.running 0)) := by
  simp [exec_eq_launchStart, execLaunchStart, hwait, hmode, hstandby, hres, ← hs1, hcan, hfirst]

theorem exec_launchStart_unable {p : Program} {i : Nat} (hwait : s.waitingLaunch q = some (x, c)) (hmode : s.cyclic.mode = false)
    (hstandby : s.standby = none) (hres : s.resolve x.ctx (c.arg 0x28 2) = .ok (p, i))
    (hs1 : s1 = s.makeWay x.ctx (qSpWays p.image) (qAccWays p.image)) (hcan : s1.canActivate x.ctx p = false) :
    exec (.launchStart q) s = .next s1 := by
  simp [exec_eq_launchStart, execLaunchStart, hwait, hmode, hstandby, hres, ← hs1, hcan]

theorem exec_activationComplete_all {ctx q : Nat} {y : Context} {a : Activation} (hctx : s.ctx? ctx = some y) (hact : y.act = some a)
    (hqueue : a.queue = some q) (hentry : a.entry = none) (hstop : s.ctxStopped ctx = false)
    (hall : (s.slotsOf ctx).all (fun x => x.2.2.halted && x.2.2.fault.isNone) = true) :
    exec (.activationComplete ctx) s =
      .next (((s.setCtx ctx { y with act := none, idleSince := s.hubCount }).cmdDone q 0 0).leaveDeparting ctx) := by
  simp only [exec_eq_activationComplete, execActivationComplete, hctx, hact, hall, hstop, hqueue, hentry]
  simp

/-- The channel as a COPY that its queue starts leaves it (R397). -/
def copyChan (ch : Chan) (list n : Nat) : Chan :=
  { ch with st := .run, list, count := n, index := 0, desc := [], status := 0, detail := 0, ending := false, far := false, failOff := none }

theorem exec_copy_idle (h : Taken s q 0x03 x c s1) (hpassed : x.passed = false) (halign : c.arg 0x28 8 % 128 = 0) (hpos : 0 < c.arg 0x30 4)
    (hmax : c.arg 0x30 4 ≤ 65536) (hidle : (s.chan x.chan).st = .idle) (hup : s.fabricUp (x.chan / 64) = true) :
    exec (.copy q) s =
      .next ((s1.setChan x.chan (copyChan (s1.chan x.chan) (c.arg 0x28 8) (c.arg 0x30 4))).setPhase q (.running 0)) := by
  obtain ⟨hfront, hs1⟩ := h
  have hcount : ¬ (c.arg 0x30 4 = 0 ∨ 65536 < c.arg 0x30 4) := by omega
  simp only [exec_eq_copy, execCopy, hfront, hs1, hpassed, halign, hcount, hidle, hup]
  simp [copyChan]

theorem exec_copy_passed (h : Taken s q 0x03 x c s1) (hpassed : x.passed = true) : exec (.copy q) s = .next (s1.cmdDone q 5 0) := by
  obtain ⟨hfront, hs1⟩ := h
  simp only [exec_eq_copy, execCopy, hfront, hs1, hpassed, if_true]

end Launches

/-- Settles O20. -/
theorem launchesRun : Obligations.LaunchesRun := by
  refine ⟨fun _ _ _ _ _ _ hfront hres => exec_launch_resolved hfront hres,
    fun _ _ _ _ hfront hid hp => exec_launch_refused hfront (State.resolve_noId hid hp),
    fun _ _ _ _ _ hfront hid hp hplace => exec_launch_refused hfront (State.resolve_noPlacement hid hp hplace),
    fun _ _ _ _ _ _ _ hwait hmode hstandby hres hs1 hcan hfirst => exec_launchStart_able hwait hmode hstandby hres hs1 hcan hfirst,
    fun _ _ _ _ _ _ _ hwait hmode hstandby hres hs1 hcan => exec_launchStart_unable hwait hmode hstandby hres hs1 hcan,
    fun _ _ _ _ _ hctx hact hqueue hentry hstop hall => exec_activationComplete_all hctx hact hqueue hentry hstop hall, ?copy,
    fun _ _ _ _ _ h hpassed => exec_copy_passed h hpassed⟩
  case copy =>
    intro s s1 q x c h hpassed halign hpos hmax hidle hup
    refine ⟨_, exec_copy_idle h hpassed halign hpos hmax hidle hup, ?_⟩
    unfold SameMemory
    simp [copyChan, State.setPhase]

end Sys2Proof.Machine

namespace Sys2Proof.Machine

/-! ## Context commands (R481-R488) -/

section Contexts

variable {s s1 s2 s3 : State} {q : Nat} {x : Queue} {c : Cmd}

theorem State.ctxArg1_none (hpos : 0 < c.arg 0x28 2) (hid : c.arg 0x28 2 ≤ 4095) (hctx : (s.ctx? (c.arg 0x28 2)).isSome = true) :
    s.ctxArg1 c = none := by
  obtain ⟨y, hy⟩ := Option.isSome_iff_exists.mp hctx
  simp [State.ctxArg1, Nat.ne_of_gt hpos, State.ctxArg_none hid hy]

theorem State.ctxArg1_zero (hzero : c.arg 0x28 2 = 0) : s.ctxArg1 c = some (2, 0x28) := by
  simp [State.ctxArg1, hzero]

theorem exec_ctxCreate_sound {b v : Bytes} {y : Context} (h : TakenBlock s q 0x10 x c s2 b) (h3 : fieldLe b 3 1 < 2) (h22 : fieldLe b 0x22 30 = 0)
    (hpos : 0 < fieldLe b 0 2) (hid : fieldLe b 0 2 ≤ 4095) (hfree : s2.ctxInUse (fieldLe b 0 2) = false) (hfolio : fieldLe b 2 1 ≤ 63)
    (husable : s2.folioUsable (fieldLe b 2 1) = true) (hroot : s2.rootOk (fieldLe b 8 8) = true) (halign : fieldLe b 0x18 8 % 64 = 0)
    (hring : s2.ringOf (fieldLe b 0x20 2) (fieldLe b 2 1) = none)
    (hy : y = { folio := fieldLe b 2 1, rt := bit (fieldLe b 3 1) 0, share := fieldLe b 4 4, root := fieldLe b 8 8,
                seed := BitVec.ofNat 64 (fieldLe b 0x10 8), safeVa := fieldLe b 0x18 8, evring := fieldLe b 0x20 2, idleSince := s2.hubCount })
    (hread : (s2.setCtx (fieldLe b 0 2) y).hubRead (fieldLe b 0 2) y.safeVa 64 = (some v, s3)) :
    exec (.ctxCreate q) s = .next ((s3.setCtx (fieldLe b 0 2) { y with set := settingsOf v }).cmdDone q 0 0) := by
  simp only [exec_eq_ctxCreate, execCtxCreate, runCmd_block h, Nat.not_le.mpr h3, h22, Nat.ne_of_gt hpos, Nat.not_lt.mpr hid, hfree, Nat.not_lt.mpr hfolio,
    husable, hroot, halign, hring, ← hy]
  simp [State.createCtx, hread]

theorem exec_ctxCreate_zero {b : Bytes} (h : TakenBlock s q 0x10 x c s2 b) (h3 : fieldLe b 3 1 < 2) (h22 : fieldLe b 0x22 30 = 0)
    (hzero : fieldLe b 0 2 = 0) : exec (.ctxCreate q) s = .next (s2.cmdDone q 2 (2 ^ 31)) := by
  simp only [exec_eq_ctxCreate, execCtxCreate, runCmd_block h, Nat.not_le.mpr h3, h22, hzero]
  simp [inBlock]

theorem exec_ctxDestroy (h : Taken s q 0x11 x c s1) (harg : s1.ctxArg1 c = none) :
    exec (.ctxDestroy q) s =
      .next (if s1.queuesOf (c.arg 0x28 2) ≠ [] ∨ ((s1.ctx? (c.arg 0x28 2)).bind (fun y => y.resident)).isSome then s1.cmdDone q 5 0
        else s1.setPhase q (.running 0)) := by
  simp only [exec_eq_ctxDestroy, execCtxDestroy, runCmd_taken h, harg]

theorem exec_ctxReset_ok (h : Taken s q 0x12 x c s1) (harg : s1.ctxArg1 c = none) :
    exec (.ctxReset q) s = .next ((s1.ctxReset (c.arg 0x28 2) 0x0F 0).cmdDone q 0 0) := by
  simp only [exec_eq_ctxReset, execCtxReset, runCmd_taken h, harg]

theorem exec_ctxDestroy_zero (h : Taken s q 0x11 x c s1) (hzero : c.arg 0x28 2 = 0) :
    exec (.ctxDestroy q) s = .next (s1.cmdDone q 2 0x28) := by
  simp only [exec_eq_ctxDestroy, execCtxDestroy, runCmd_taken h, State.ctxArg1_zero hzero]

theorem exec_ctxReset_zero (h : Taken s q 0x12 x c s1) (hzero : c.arg 0x28 2 = 0) :
    exec (.ctxReset q) s = .next (s1.cmdDone q 2 0x28) := by
  simp only [exec_eq_ctxReset, execCtxReset, runCmd_taken h, State.ctxArg1_zero hzero]

theorem exec_resume_ok (h : Taken s q 0x13 x c s1) (hid : c.arg 0x28 2 ≤ 4095) (hctx : (s1.ctx? (c.arg 0x28 2)).isSome = true)
    (hs2 : s2 = (s1.chargeAll (c.arg 0x28 2)).modCtx (c.arg 0x28 2) (fun y => y.resumed s1.hubCount)) :
    exec (.resume q) s =
      .next (((foldS (s2.slotsOf (c.arg 0x28 2)) s2 (fun st z => st.modSlot z.1 z.2.1 Slot.resumed)).recheckCtx (c.arg 0x28 2)).cmdDone q 0 0) := by
  obtain ⟨y, hy⟩ := Option.isSome_iff_exists.mp hctx
  simp only [exec_eq_resume, execResume, runCmd_taken h, State.ctxArg_none hid hy, ← hs2]

end Contexts

/-- Settles O21. -/
theorem contextCommandsComplete : Obligations.ContextCommandsComplete := by
  refine ⟨?create, ?destroy, ?resident, fun _ _ _ _ _ h hpos hid hctx => exec_ctxReset_ok h (State.ctxArg1_none hpos hid hctx),
    fun _ _ _ _ _ _ h h3 h22 hzero => exec_ctxCreate_zero h h3 h22 hzero,
    fun _ _ _ _ _ hzero => ⟨fun h => exec_ctxDestroy_zero h hzero, fun h => exec_ctxReset_zero h hzero⟩,
    fun _ _ _ _ _ _ h hid hctx hs2 => exec_resume_ok h hid hctx hs2, fun _ _ => ⟨rfl, rfl⟩⟩
  case create =>
    intro s s2 s3 q x c b v h h3 h22 hpos hid hfree hfolio husable hroot halign hring y hy hread
    exact ⟨_, exec_ctxCreate_sound h h3 h22 hpos hid hfree hfolio husable hroot halign hring hy hread, by simp, rfl⟩
  case destroy =>
    intro s s1 q x c h hpos hid hctx hqueues hres
    exact (exec_ctxDestroy h (State.ctxArg1_none hpos hid hctx)).trans (by simp [hqueues, hres])
  case resident =>
    intro s s1 q x c y e h hpos hid hctx hres
    exact (exec_ctxDestroy h (State.ctxArg1_none hpos hid (by rw [hctx]; rfl))).trans (by simp [hctx, hres])

/-! ## Queues and rings (R473-R492) -/

section Queues

variable {s s1 s2 : State} {q : Nat} {x : Queue} {c : Cmd}

/-- The queue that a QUEUE_CREATE block describes (R473). -/
def queueOf (b : Bytes) (copy : Bool) : Queue :=
  { type := if copy then .copy else .compute, ctx := fieldLe b 4 2, log := fieldLe b 6 1, qos := fieldLe b 7 1, ringPa := fieldLe b 8 8,
    dbPa := fieldLe b 0x10 8, headPa := fieldLe b 0x18 8, evring := fieldLe b 0x20 2, chan := fieldLe b 0x22 1, watched := bit (fieldLe b 3 1) 0 }

/-- The state with a new queue that a block describes: it is empty, its head word is written, its doorbell watched. -/
def State.withQueue (s : State) (b : Bytes) (copy : Bool) : State :=
  ((s.setQueue (fieldLe b 0 2) (queueOf b copy)).headWrite (queueOf b copy) (zeros 8)).watchDoorbell (queueOf b copy)

theorem exec_queueCreate_compute {b : Bytes} (h : TakenBlock s q 0x18 x c s2 b) (hok : s2.queueBad b = none) (htype : fieldLe b 2 1 = 1) :
    exec (.queueCreate q) s = .next ((s2.withQueue b false).cmdDone q 0 0) := by
  simp only [exec_eq_queueCreate, execQueueCreate, runCmd_block h, hok, htype]
  simp [State.withQueue, queueOf]

theorem exec_queueCreate_copy {b : Bytes} (h : TakenBlock s q 0x18 x c s2 b) (hok : s2.queueBad b = none) (htype : fieldLe b 2 1 = 2) :
    exec (.queueCreate q) s = .next (((s2.withQueue b true).setChan (fieldLe b 0x22 1)
      { (s2.withQueue b true).chan (fieldLe b 0x22 1) with queue := some (fieldLe b 0 2) }).cmdDone q 0 0) := by
  simp only [exec_eq_queueCreate, execQueueCreate, runCmd_block h, hok, htype]
  simp [State.withQueue, queueOf]

theorem exec_queueCreate_bad {b : Bytes} {e : Nat × Nat} (h : TakenBlock s q 0x18 x c s2 b) (hbad : s2.queueBad b = some e) :
    exec (.queueCreate q) s = .next (s2.cmdDone q e.1 e.2) := by
  simp only [exec_eq_queueCreate, execQueueCreate, runCmd_block h, hbad]

theorem exec_queueDestroy_ok (h : Taken s q 0x19 x c s1) (hpos : 0 < c.arg 0x28 2) (hid : c.arg 0x28 2 ≤ 16383)
    (hq : (s1.queue? (c.arg 0x28 2)).isSome = true) :
    exec (.queueDestroy q) s = .next (((s1.modQueue (c.arg 0x28 2)
      (fun y => { y with dying := true, watched := false, snooped := false })).abortWaiting (c.arg 0x28 2)).setPhase q (.running 0)) := by
  obtain ⟨y, hy⟩ := Option.isSome_iff_exists.mp hq
  simp only [exec_eq_queueDestroy, execQueueDestroy, runCmd_taken h, Nat.ne_of_gt hpos, Nat.not_lt.mpr hid, hy]
  simp

theorem exec_evringCreate_sound {b : Bytes} (h : TakenBlock s q 0x1A x c s2 b) (h6 : fieldLe b 6 2 = 0) (h16 : fieldLe b 0x10 48 = 0)
    (hpos : 0 < fieldLe b 0 2) (hid : fieldLe b 0 2 ≤ 1023) (hfree : tget (fieldLe b 0 2) s2.evrings = none) (hmin : 4 ≤ fieldLe b 2 1)
    (hmax : fieldLe b 2 1 ≤ 16) (hfolio : fieldLe b 3 1 ≤ 63) (hvalid : (s2.folio (fieldLe b 3 1)).valid = true)
    (hvec : fieldLe b 4 2 < (if fieldLe b 3 1 = 0 then 256 else 32)) (hhost : inHost (fieldLe b 8 8) (64 * 2 ^ fieldLe b 2 1 + 128) = true)
    (halign : fieldLe b 8 8 % 4096 = 0) :
    exec (.evringCreate q) s = .next (({ s2 with
      evrings := tput (fieldLe b 0 2) { folio := fieldLe b 3 1, vector := fieldLe b 4 2, log := fieldLe b 2 1, base := fieldLe b 8 8 } s2.evrings
        }).cmdDone q 0 0) := by
  simp only [exec_eq_evringCreate, execEvringCreate, runCmd_block h, h6, h16, Nat.ne_of_gt hpos, Nat.not_lt.mpr hid, hfree, Nat.not_lt.mpr hmin,
    Nat.not_lt.mpr hmax, Nat.not_lt.mpr hfolio, hvalid, Nat.not_le.mpr hvec, hhost, halign]
  simp

theorem exec_evringDestroy_unused (h : Taken s q 0x1B x c s1) (hpos : 0 < c.arg 0x28 2) (hid : c.arg 0x28 2 ≤ 1023)
    (hring : (tget (c.arg 0x28 2) s1.evrings).isSome = true) (hqueues : s1.queues.any (fun z => z.2.evring == c.arg 0x28 2) = false)
    (hctxs : s1.ctxs.any (fun z => z.2.evring == c.arg 0x28 2) = false) (hfolios : s1.folios.any (fun z => z.2.evring == c.arg 0x28 2) = false) :
    exec (.evringDestroy q) s = .next (({ s1 with evrings := tdel (c.arg 0x28 2) s1.evrings }).cmdDone q 0 0) := by
  obtain ⟨e, he⟩ := Option.isSome_iff_exists.mp hring
  simp only [exec_eq_evringDestroy, execEvringDestroy, runCmd_taken h, Nat.ne_of_gt hpos, Nat.not_lt.mpr hid, he, hqueues, hctxs, hfolios]
  simp

theorem exec_chanAssign_ok (h : Taken s q 0x29 x c s1) (heng : c.arg 0x28 1 ≤ 7) (hchan : c.arg 0x29 1 ≤ 15) (hfolio : c.arg 0x2A 1 ≤ 63)
    (husable : s1.folioUsable (c.arg 0x2A 1) = true) : exec (.chanAssign q) s = .next (s1.setPhase q (.running 0)) := by
  simp [exec_eq_chanAssign, execChanAssign, runCmd_taken h, Nat.not_lt.mpr heng, Nat.not_lt.mpr hchan, Nat.not_lt.mpr hfolio, husable]

theorem exec_eventRingConsumed_ring {ring : Nat} {e : EvRing} (n : Nat) (he : s.ring? ring = some e) :
    exec (.eventRingConsumed ring n) s =
      .next (({ s.hostWrite (e.base + 64 * 2 ^ e.log + 64) (le 4 n) with
        evrings := tput ring { e with consumed := n % 2 ^ 32 } (s.hostWrite (e.base + 64 * 2 ^ e.log + 64) (le 4 n)).evrings }).drainHeld ring 64) := by
  simp only [exec_eq_eventRingConsumed, execEventRingConsumed, he]

/-- The management queue as MGMTQ_ENABLE takes it up from its registers, empty (R474). -/
def State.mgmtQueue (s : State) : Queue :=
  { (s.queue? 0).getD { type := .mgmt, ctx := 0 } with
    log := s.mgmtLog, ringPa := s.fld rMgmtqRing 12 34 * 4096, dbPa := s.fld rMgmtqDb 6 40 * 64, headPa := s.fld rMgmtqHead 3 43 * 8,
    watched := true, snooped := false, head := 0, tail := 0, xseq := 0, xseqNew := 0, xslot := [], stopped := false }

theorem exec_mgmtqEnable_on (hrails : s.clasp.rails = true) (hoff : bit (s.reg rMgmtqRing) 0 = false) :
    exec (.mgmtqEnable true) s =
      .next ((((s.writeFld rMgmtqRing 0 1 1).setQueue 0 s.mgmtQueue).headWrite s.mgmtQueue (zeros 8)).watchDoorbell s.mgmtQueue) := by
  simp only [exec_eq_mgmtqEnable, execMgmtqEnable, hrails, hoff]
  simp [b2n, State.mgmtQueue]

/-- The head word and the watch of a doorbell leave every queue. -/
theorem State.queueQ_headWrite_watchDoorbell (s : State) (x : Queue) (d : Bytes) (q : Nat) :
    ((s.headWrite x d).watchDoorbell x).queue? q = s.queue? q := by
  simp only [State.queue?, (State.watchDoorbell_aside (State.headWrite_aside (Aside.rfl' s) x d) x).queues]

end Queues

/-- Settles O22. -/
theorem queueAndRingCommandsComplete : Obligations.QueueAndRingCommandsComplete := by
  refine ⟨?create, ?copy, fun _ _ _ _ _ _ _ h hbad => exec_queueCreate_bad h hbad, fun _ _ _ _ _ h hpos hid hq => exec_queueDestroy_ok h hpos hid hq,
    ?ringCreate, ?ringDestroy, fun _ _ _ _ _ h heng hchan hfolio husable => exec_chanAssign_ok h heng hchan hfolio husable,
    fun _ _ n _ he => exec_eventRingConsumed_ring n he, ?mgmt⟩
  case create =>
    rintro s s2 q x c b h hok htype y rfl
    exact exec_queueCreate_compute h hok htype
  case copy =>
    intro s s2 q x c b h hok htype
    exact ⟨_, exec_queueCreate_copy h hok htype, by simp⟩
  case ringCreate =>
    intro s s2 q x c b h h6 h16 hpos hid hfree hmin hmax hfolio hvalid hvec hhost halign
    refine ⟨_, exec_evringCreate_sound h h6 h16 hpos hid hfree hmin hmax hfolio hvalid hvec hhost halign, ?_⟩
    unfold SameMemory
    simp
  case ringDestroy =>
    intro s s1 q x c h hpos hid hring hqueues hctxs hfolios
    refine ⟨_, exec_evringDestroy_unused h hpos hid hring hqueues hctxs hfolios, ?_⟩
    simp only [State.cmdDone_evrings]
    exact ⟨tget_tdel_self _ _, fun r hr => tget_tdel_ne hr _⟩
  case mgmt =>
    intro s hrails hoff
    refine ⟨_, s.mgmtQueue, exec_mgmtqEnable_on hrails hoff, ?_, rfl, rfl, rfl, rfl, rfl, ?_⟩
    · rw [State.queueQ_headWrite_watchDoorbell, State.queueQ_setQueue_self]
    · simp only [State.mgmtQueue, State.fld, State.reg_writeFld_ne s (show rMgmtqDb ≠ rMgmtqRing by decide)]

end Sys2Proof.Machine

namespace Sys2Proof.Machine

/-! ## Translation commands (R357-R380) -/

section Translation

variable {s s1 s2 s3 : State} {q : Nat} {x : Queue} {c : Cmd}

theorem exec_invalidate (h : Taken s q 0x20 x c s1) (hok : s1.rangeBad c = none) {us : _}
    (hus : us = s1.usesOf (s1.modeCtxs (c.arg 0x34 1) (c.arg 0x36 2)) (c.arg 0x28 8) (c.arg 0x30 4 * 2 ^ 25)) :
    exec (.invalidate q) s =
      .next (if us = [] then (s1.dropRange (s1.modeCtxs (c.arg 0x34 1) (c.arg 0x36 2)) (c.arg 0x28 8) (c.arg 0x30 4 * 2 ^ 25)).cmdDone q 0 0
        else ((s1.dropRange (s1.modeCtxs (c.arg 0x34 1) (c.arg 0x36 2)) (c.arg 0x28 8) (c.arg 0x30 4 * 2 ^ 25)).modQueue q
          (fun y => { y with uses := us })).setPhase q (.running 0)) := by
  simp only [exec_eq_invalidate, execInvalidate, runCmd_taken h, hok, ← hus]

theorem exec_invalidateDrained (hrun : s.runningOp q 0x20 = some (x, c)) :
    exec (.invalidateDrained q) s = .next (if x.uses.any s.inFlight then s else s.cmdDone q 0 0) := by
  simp only [exec_eq_invalidateDrained, execInvalidateDrained, hrun]
  split_ifs <;> rfl

theorem exec_invSlow_due {u : _} (hrun : s.runningOp q 0x20 = some (x, c)) (hold : s.oldestUse x.uses = some u) (hnew : x.waitNoted = false)
    (hdue : c.fetched + s.invWarn ≤ s.hubCount) :
    exec (.invSlow q) s = .next ((s.ringPut 0 (s.record tyInvSlow (s.ctxFolio (s.useOf u).1) 0 (s.useOf u).1 18 (le 8 (c.arg 0x28 8) ++
      le 4 (c.arg 0x30 4) ++ le 1 (s.useOf u).2.1 ++ le 3 0 ++ le 4 (s.useOf u).2.2 ++ le 4 0 ++ le 8 (s.hubCount - c.fetched)))).modQueue q
      (fun y => { y with waitNoted := true })) := by
  simp only [exec_eq_invSlow, execInvSlow, hrun, hold, hnew, Nat.not_lt.mpr hdue, Bool.false_eq_true, or_self, if_false]

theorem exec_migrate_sound {hd b : Bytes} {cs : List Nat} (h : Taken s q 0x21 x c s1) (hhead : s1.hubRead 0 (c.arg 0x28 8) 16 = (some hd, s2))
    (h3 : fieldLe hd 3 1 = 0) (hid : fieldLe hd 0 2 ≤ 4095) (hctx : (s2.ctx? (fieldLe hd 0 2)).isSome = true) (hbig : fieldLe hd 2 1 ≤ 1)
    (hpos : 0 < fieldLe hd 4 4) (hmax : fieldLe hd 4 4 ≤ 4096) (halign : fieldLe hd 8 8 % migSize hd = 0)
    (hend : fieldLe hd 8 8 + fieldLe hd 4 4 * migSize hd ≤ 2 ^ 52) (hblock : s2.hubRead 0 (c.arg 0x28 8) (16 + 8 * fieldLe hd 4 4) = (some b, s3))
    (hdest : (List.range (fieldLe hd 4 4)).find? (fun i => migDest b i % migSize b != 0) = none) (hcs : cs = s3.modeCtxs 2 (fieldLe hd 0 2))
    (hok : (List.range (fieldLe hd 4 4)).all (fun i => s3.destOk (cs.map s3.ctxFolio) (migDest b i) (migSize b)) = true) :
    exec (.migrate q) s = .next (((s3.dropRange cs (fieldLe hd 8 8) (fieldLe hd 4 4 * migSize b)).modQueue q (fun z =>
      { z with uses := s3.usesOf cs (fieldLe hd 8 8) (fieldLe hd 4 4 * migSize b),
               mig := some (cs, fieldLe hd 8 8, fieldLe hd 4 4 * migSize b) })).setPhase q (.running 0)) := by
  obtain ⟨y, hy⟩ := Option.isSome_iff_exists.mp hctx
  have hcount : ¬ (fieldLe hd 4 4 = 0 ∨ 4096 < fieldLe hd 4 4) := by omega
  have hva : ¬ (fieldLe hd 8 8 % migSize hd ≠ 0 ∨ 2 ^ 52 < fieldLe hd 8 8 + fieldLe hd 4 4 * migSize hd) :=
    not_or.mpr ⟨not_not_intro halign, Nat.not_lt.mpr hend⟩
  simp only [exec_eq_migrate, execMigrate, runCmd_taken h, State.withBlock, hhead, h3, Nat.not_lt.mpr hid, hy, Nat.not_lt.mpr hbig, if_neg hcount,
    if_neg hva, hblock, hdest, ← hcs, hok]
  simp

theorem exec_migrateCopyComplete_drained {b : Bytes} {y : Context} (hrun : s.runningOp q 0x21 = some (x, c)) (hblock : s.migBlock c = some b)
    (hctx : s.ctx? (fieldLe b 0 2) = some y) (hfree : x.uses.any s.inFlight = false)
    (hs1 : s1 = (s.dropRange (s.modeCtxs 2 (fieldLe b 0 2)) (fieldLe b 8 8) (fieldLe b 4 4 * migSize b)).modQueue q
      (fun z => { z with mig := none })) :
    exec (.migrateCopyComplete q) s =
      .next ((foldS (List.range (fieldLe b 4 4)) s1 (fun st i => st.migratePage y.root b i)).cmdDone q 0 0) := by
  simp only [exec_eq_migrateCopyComplete, execMigrateCopyComplete, hrun, hblock, hctx, hfree, Bool.false_eq_true, if_false, ← hs1]

theorem exec_advise_range (h : Taken s q 0x22 x c s1) (h0 : s.walksAt 0 < 16) (h1 : s.walksAt 1 < 16) (hok : s1.rangeBad c = none) :
    exec (.advise q) s = .next ((foldS (s1.modeCtxs (c.arg 0x34 1) (c.arg 0x36 2)) s1 (fun st i =>
      if c.arg 0x35 1 = 0 then st.adviseWalk i (advisePages c) else st.adviseClean i (advisePages c) (c.arg 0x35 1 == 1))).cmdDone q 0 0) := by
  simp only [exec_eq_advise, execAdvise, Nat.not_le.mpr h0, Nat.not_le.mpr h1, or_self, if_false, runCmd_taken h, hok]

theorem bit_two_of_lt_four {m : Nat} (h : m < 4) : bit m 2 = false := by
  unfold bit
  exact Nat.testBit_lt_two_pow h

theorem exec_frameSet_plain {k : Nat} (h : Taken s q 0x28 x c s1) (hv : c.arg 0x2A 1 < 8) (hm : c.arg 0x2B 1 < 4) (hf : c.arg 0x28 2 ≤ 16383)
    (hk : s1.server (c.arg 0x28 2 / 256) = some k) :
    exec (.frameSet q) s = .next ((s1.setFrame k (c.arg 0x28 2 % 256)
      (frameBits (s1.frame k (c.arg 0x28 2 % 256)) (c.arg 0x2A 1) (c.arg 0x2B 1))).setPhase q (.running 0)) := by
  have hmask : ¬ 8 ≤ c.arg 0x2B 1 := by omega
  simp only [exec_eq_frameSet, execFrameSet, runCmd_taken h, Nat.not_le.mpr hv, hmask, Nat.not_lt.mpr hf, hk, bit_two_of_lt_four hm]
  simp

theorem exec_frameSet_bias {k : Nat} (h : Taken s q 0x28 x c s1) (hv : c.arg 0x2A 1 < 8) (hm : c.arg 0x2B 1 < 8) (hf : c.arg 0x28 2 ≤ 16383)
    (hk : s1.server (c.arg 0x28 2 / 256) = some k) (hmb : bit (c.arg 0x2B 1) 2 = true) (hvb : bit (c.arg 0x2A 1) 2 = true)
    (hbias : frBias (s1.frame k (c.arg 0x28 2 % 256)) = false) :
    exec (.frameSet q) s = .next (((s1.setFrame k (c.arg 0x28 2 % 256)
      (frameBits (s1.frame k (c.arg 0x28 2 % 256)) (c.arg 0x2A 1) (c.arg 0x2B 1 % 4))).emit (.biasTakeback (c.arg 0x28 2))).setPhase q (.running 1)) := by
  simp only [exec_eq_frameSet, execFrameSet, runCmd_taken h, Nat.not_le.mpr hv, Nat.not_le.mpr hm, Nat.not_lt.mpr hf, hk, hmb, hvb, hbias]
  simp

theorem exec_biasTakebackDone {k : Nat} (hrun : s.runningOp q 0x28 = some (x, c)) (hphase : x.phase = .running 1)
    (hk : s.server (c.arg 0x28 2 / 256) = some k) :
    exec (.biasTakebackDone q) s =
      .next ((s.setFrame k (c.arg 0x28 2 % 256) (setBits (s.frame k (c.arg 0x28 2 % 256)) 24 1 1)).setPhase q (.running 0)) := by
  simp only [exec_eq_biasTakebackDone, execBiasTakebackDone, hrun, hphase, ne_eq, not_true_eq_false, if_false, hk]

end Translation

section Walks

variable {s : State} {id : Nat} {w : Walk}

/-- The walker after a walk: a leaf fills it (R358). -/
def State.fillFrom (s : State) (die : Nat) (r : WalkOut) : State :=
  match r with
  | .leaf e ups => s.fillWalker die e ups
  | .fault _ _ => s

/-- A walk that one miss waits for ends with what it found. -/
theorem exec_walkComplete_alone {r : WalkOut} (hw : tget id s.walks = some w) (hhold : s.migHolds id w.ctx w.va = false)
    (halone : s.walks.filter (fun v => sameWalk v.2 w) = [(id, w)]) (hagain : w.again = false) (hr : s.walkAt w.die w.ctx w.va = r) :
    exec (.walkComplete id) s = .next
      ((if (r.faults w).isSome then (s.fillFrom w.die r).bumpFld (rXltWalk w.die) 24 8 1 else s.fillFrom w.die r).walkEnd id w r) := by
  simp only [exec_eq_walkComplete, execWalkComplete, hw, hhold, halone, List.any_cons, List.any_nil, hagain, hr]
  cases r <;> simp [foldS, State.fillFrom]

theorem exec_walkComplete_leaf {e : TlbEntry} {ups : _} (hw : tget id s.walks = some w) (hhold : s.migHolds id w.ctx w.va = false)
    (halone : s.walks.filter (fun v => sameWalk v.2 w) = [(id, w)]) (hagain : w.again = false) (hr : s.walkAt w.die w.ctx w.va = .leaf e ups)
    (hperm : permits e.perm w.access = true) (hpre : w.asker.prefetch = false) :
    exec (.walkComplete id) s = .next (((s.fillWalker w.die e ups).setCore w.asker.core
      { (s.fillWalker w.die e ups).core w.asker.core with tlb := tlbEnter 64 ((s.fillWalker w.die e ups).core w.asker.core).tlb e }).walkOver id
        w.asker) := by
  have hnone : WalkOut.faults (.leaf e ups) w = none := by simp [WalkOut.faults, hperm, hpre]
  simp [exec_walkComplete_alone hw hhold halone hagain hr, hnone, State.walkEnd, State.fillFrom]

theorem exec_walkComplete_fault {sub lvl : Nat} (hw : tget id s.walks = some w) (hhold : s.migHolds id w.ctx w.va = false)
    (halone : s.walks.filter (fun v => sameWalk v.2 w) = [(id, w)]) (hagain : w.again = false) (hr : s.walkAt w.die w.ctx w.va = .fault sub lvl) :
    exec (.walkComplete id) s = .next ((s.bumpFld (rXltWalk w.die) 24 8 1).walkFault id w sub lvl) := by
  simp [exec_walkComplete_alone hw hhold halone hagain hr, State.walkEnd, WalkOut.faults, State.fillFrom]

end Walks

/-- Settles O26. -/
theorem translationCommandsComplete : Obligations.TranslationCommandsComplete := by
  refine ⟨fun _ _ _ _ _ h hok huses => (exec_invalidate h hok rfl).trans (by rw [if_pos huses]),
    fun _ _ _ _ _ _ h hok hus hsome => (exec_invalidate h hok hus).trans (by rw [if_neg hsome]),
    fun _ _ _ _ hrun hfree => (exec_invalidateDrained hrun).trans (by simp [hfree]),
    fun _ _ _ _ hrun hfly => (exec_invalidateDrained hrun).trans (by simp [hfly]),
    fun _ _ _ _ _ hrun hold hnew hdue => exec_invSlow_due hrun hold hnew hdue, ?migrate,
    fun _ _ _ _ _ _ _ hrun hblock hctx hfree hs1 => exec_migrateCopyComplete_drained hrun hblock hctx hfree hs1,
    fun _ _ _ _ _ h h0 h1 hok => exec_advise_range h h0 h1 hok, fun _ _ _ _ _ _ h hv hm hf hk => exec_frameSet_plain h hv hm hf hk,
    fun _ _ _ _ _ _ h hv hm hf hk hmb hvb hbias => exec_frameSet_bias h hv hm hf hk hmb hvb hbias,
    fun _ _ _ _ _ hrun hphase hk => exec_biasTakebackDone hrun hphase hk, ?leaf,
    fun _ _ _ _ _ hw hhold halone hagain hr => exec_walkComplete_fault hw hhold halone hagain hr⟩
  case migrate =>
    rintro s s1 s2 s3 q x c h b hT hhead h3 hid hctx hbig hpos hmax halign hend hblock hdest hok cs rfl
    exact exec_migrate_sound hT hhead h3 hid hctx hbig hpos hmax halign hend hblock hdest rfl hok
  case leaf =>
    rintro s id w e ups s1 hw hhold halone hagain hr hperm hpre rfl
    exact exec_walkComplete_leaf hw hhold halone hagain hr hperm hpre

end Sys2Proof.Machine

namespace Sys2Proof.Machine

/-! ## Copy channels (R397-R430) -/

section Channels

variable {s s1 s2 : State} {ch : Nat}

section Start

variable {b : Bytes} (hst : (s.chan ch).st = .run) (hdesc : (s.chan ch).desc = []) (hmore : (s.chan ch).index < (s.chan ch).count)
  (hup : s.fabricUp (ch / 64) = true) (hready : s.cpyReady ch (s.chan ch).descVa = true)
  (hread : s.cpyRead ch (s.chan ch).descVa = .ok (b, s1))

include hst hdesc hmore hup hready hread

theorem exec_copyDescriptorStart_sound (hgood : (copyOf b).bad b = none)
    (hwait : bit (copyOf b).flags 2 = true → s1.cpyReady ch (copyOf b).waitVa = true) :
    exec (.copyDescriptorStart ch) s = .next (s1.cpyBegin ch b) := by
  have hgo : ¬ (bit (copyOf b).flags 2 = true ∧ ¬ s1.cpyReady ch (copyOf b).waitVa = true) := fun ⟨hflag, hno⟩ => hno (hwait hflag)
  simp only [exec_eq_copyDescriptorStart, execCopyDescriptorStart, hst, hdesc, Nat.not_le.mpr hmore, hup, hready, hread, hgood, if_neg hgo]
  simp

theorem exec_copyDescriptorStart_bad {st dt : Nat} (hbad : (copyOf b).bad b = some (st, dt)) :
    exec (.copyDescriptorStart ch) s =
      .next ((s1.setChan ch { s1.chan ch with desc := b, first := none, mismatches := 0 }).cpyStop ch .stopBad st dt 0) := by
  simp only [exec_eq_copyDescriptorStart, execCopyDescriptorStart, hst, hdesc, Nat.not_le.mpr hmore, hup, hready, hread, hbad]
  simp

end Start

theorem State.chan_cpyStop_self (s : State) (ch : Nat) (st : ChSt) (status detail done : Nat) :
    ((s.cpyStop ch st status detail done).chan ch).st = st ∧ ((s.cpyStop ch st status detail done).chan ch).status = status ∧
      ((s.cpyStop ch st status detail done).chan ch).detail = detail := by
  simp [State.cpyStop]

theorem State.chan_cpyBegin_noWait (s : State) (ch : Nat) {b : Bytes} (hwait : bit (copyOf b).flags 2 = false) :
    ((s.cpyBegin ch b).chan ch).desc = b ∧ ((s.cpyBegin ch b).chan ch).issued = 0 ∧ ((s.cpyBegin ch b).chan ch).done = 0 ∧
      ((s.cpyBegin ch b).chan ch).epoch = (s.folio (s.ctxFolio (s.chanCtx ch))).epoch := by
  simp [State.cpyBegin, hwait]

theorem exec_copyWaitSatisfied_yes {a : Nat} {nc : Bool} {b : Bytes} (hst : (s.chan ch).st = .wait)
    (hready : s.cpyReady ch (copyOf (s.chan ch).desc).waitVa = true) (hx : s.cpyXlate ch (copyOf (s.chan ch).desc).waitVa 0 = (.pa a nc, s1))
    (hread : s1.readLine (s1.chanCtx ch) (s1.ctxFolio (s1.chanCtx ch)) a 4 = (.ok, b, s2))
    (hyes : satisfies (BitVec.ofNat 32 (unle b)) (BitVec.ofNat 32 (copyOf (s.chan ch).desc).waitTgt) = true) :
    exec (.copyWaitSatisfied ch) s = .next ((s2.dropWatch (.copy ch)).setChan ch { s.chan ch with st := .run }) := by
  simp only [exec_eq_copyWaitSatisfied, execCopyWaitSatisfied, hst, hready, hx, hread, hyes]
  simp

theorem exec_copyBurstIssue_turn {e : Nat} (hnext : s.nextChan e = some (ch, false)) (hup : s.fabricUp (e / 4) = true) :
    exec (.copyBurstIssue e) s = .next (s.cpyIssue ch) := by
  simp [exec_eq_copyBurstIssue, execCopyBurstIssue, hnext, hup]

section Bursts

variable {i : Nat} {b : CpBurst} {qs : List Req} (hb : tget i (s.chan ch).bursts = some b) (hback : s.allBack (b.reads ++ b.writes) = some qs)

include hb hback

theorem exec_copyBurstComplete_read (hgood : firstBad qs = none) (hreads : b.writes = []) (hop : (copyOf (s.chan ch).desc).op ≠ 2) :
    exec (.copyBurstComplete ch i) s = .next (s.cpyWriteBurst ch i b (qs.flatMap (fun q => q.rdata.take q.len))) := by
  simp only [exec_eq_copyBurstComplete, execCopyBurstComplete, hb, hback, hgood]
  simp [hreads, hop]

theorem exec_copyBurstComplete_written (hgood : firstBad qs = none) (hwrites : b.writes ≠ []) :
    exec (.copyBurstComplete ch i) s = .next (s.cpyDrop ch i b) := by
  simp [exec_eq_copyBurstComplete, execCopyBurstComplete, hb, hback, hgood, hwrites]

theorem exec_copyBurstComplete_failed {q : Req} {e : Cpl} (hbad : firstBad qs = some (q, e)) :
    exec (.copyBurstComplete ch i) s = .next ((s.cpyBad ch b q e).cpyDrop ch i b) := by
  simp [exec_eq_copyBurstComplete, execCopyBurstComplete, hb, hback, hbad]

end Bursts

theorem exec_copyDescriptorEnd_all (hst : (s.chan ch).st = .run) (hdesc : (s.chan ch).desc ≠ []) (hbursts : (s.chan ch).bursts = [])
    (hend : (s.chan ch).ending = false) (hall : (copyOf (s.chan ch).desc).total ≤ (s.chan ch).issued) :
    exec (.copyDescriptorEnd ch) s = .next ((s.cpyEnd ch 0 0 (copyOf (s.chan ch).desc).total).cpyNext ch) := by
  simp [exec_eq_copyDescriptorEnd, execCopyDescriptorEnd, hst, hdesc, hbursts, hend, hall]

theorem exec_cpyRestart_resume (hst : (s.chan ch).st = .stopFault) :
    exec (.cpyRestart ch true) s = .next (s.setChan ch { s.chan ch with
      st := .run, desc := if (s.chan ch).desc = zeros 128 then [] else (s.chan ch).desc, issued := (s.chan ch).done, status := 0, detail := 0,
      failOff := none, ending := false }) := by
  simp only [exec_eq_cpyRestart, execCpyRestart, hst]
  simp

theorem exec_cpyRestart_skip (hst : (s.chan ch).st = .stopBad ∨ (s.chan ch).st = .stopFault) :
    exec (.cpyRestart ch false) s = .next (s.cpySkip ch) := by
  rcases hst with h | h <;> simp [exec_eq_cpyRestart, execCpyRestart, h]

theorem exec_cpyStream_on {m : Nat} (hch : ch ≤ 127) (hrails : s.clasp.rails = true) (hnone : (s.chan ch).stream = none)
    (hfree : ((List.range 8).map (fun k => 14 + 8 * (ch / 64) + k)).find? (fun n => !(s.streams (ch / 64)).contains n) = some m) :
    exec (.cpyStream ch true) s = .next ((s.setChan ch { s.chan ch with stream := some m }).writeFld (rChCtl ch) 6 1 1) := by
  simp only [exec_eq_cpyStream, execCpyStream, Nat.not_lt.mpr hch, hrails, hnone, hfree]
  simp

theorem exec_cpyMaxbuf (v : Nat) (hch : ch ≤ 127) (hrails : s.clasp.rails = true) :
    exec (.cpyMaxbuf ch v) s = .next (s.writeFld (rChCtl ch) 8 9 v) := by
  simp [exec_eq_cpyMaxbuf, execCpyMaxbuf, Nat.not_lt.mpr hch, hrails]

end Channels

/-- Settles O27. -/
theorem copyChannelsMove : Obligations.CopyChannelsMove := by
  refine ⟨fun _ _ _ _ hst hdesc hmore hup hready hread hgood hwait =>
      exec_copyDescriptorStart_sound hst hdesc hmore hup hready hread hgood hwait, ?bad, fun s ch _ hwait => s.chan_cpyBegin_noWait ch hwait,
    fun _ _ _ _ _ _ _ hst hready hx hread hyes => exec_copyWaitSatisfied_yes hst hready hx hread hyes,
    fun _ _ _ hnext hup => exec_copyBurstIssue_turn hnext hup,
    fun _ _ _ _ _ hb hback hgood hreads hop => exec_copyBurstComplete_read hb hback hgood hreads hop,
    fun _ _ _ _ _ hb hback hgood hwrites => exec_copyBurstComplete_written hb hback hgood hwrites,
    fun _ _ _ _ _ _ _ hb hback hbad => exec_copyBurstComplete_failed hb hback hbad,
    fun _ _ hst hdesc hbursts hend hall => exec_copyDescriptorEnd_all hst hdesc hbursts hend hall, ?resume,
    fun _ _ hst => exec_cpyRestart_skip hst, ?stream, ?maxbuf⟩
  case bad =>
    intro s ch b s1 st dt hst hdesc hmore hup hready hread hbad
    exact ⟨_, exec_copyDescriptorStart_bad hst hdesc hmore hup hready hread hbad, State.chan_cpyStop_self _ ch .stopBad st dt 0⟩
  case resume =>
    intro s ch hst
    exact ⟨_, exec_cpyRestart_resume hst, by simp, by simp, by simp, by simp, fun d hd => State.chan_setChan_ne s hd _⟩
  case stream =>
    intro s ch m hch hrails hnone hfree
    exact ⟨_, exec_cpyStream_on hch hrails hnone hfree, by simp, fun d hd => by simp [State.chan_setChan_ne s hd]⟩
  case maxbuf =>
    intro s ch v hch hrails hv
    exact ⟨_, exec_cpyMaxbuf v hch hrails, (State.fld_writeFld_self s (by decide) v).trans (Nat.mod_eq_of_lt hv), onlyRegs_writeFld ..,
      fun c hc => s.reg_writeFld_ne hc _ _ _⟩

end Sys2Proof.Machine

namespace Sys2Proof.Machine

/-! ## The power loop and the clocks of regions (R531-R545) -/

/-- The step that `fitStep` finds fits, and no higher one does. -/
theorem fitStep_spec {k avail n f : Nat} (h : fitStep k avail n = some f) :
    Config.predictedW f k ≤ avail ∧ ∀ m, m ≤ n → f < 50 * m → avail < Config.predictedW (50 * m) k := by
  induction n with
  | zero => cases h
  | succ n ih =>
    unfold fitStep at h
    split_ifs at h with hfit
    · cases h
      exact ⟨hfit, fun m hm hlt => by omega⟩
    · obtain ⟨hf, hhigher⟩ := ih h
      refine ⟨hf, fun m hm hlt => ?_⟩
      obtain hlast | hlow := Nat.eq_or_lt_of_le hm
      · subst hlast
        exact Nat.not_le.mp hfit
      · exact hhigher m (Nat.le_of_lt_succ hlow) hlt

section Power

variable {s : State}

theorem exec_powerControlTick_idle {p fixed pinned : Nat} (h : s.clasp.rails = false ∨ s.hubCount < s.power.tickAt + 1000000) :
    exec (.powerControlTick p fixed pinned) s = .next s := by
  have hwait : ¬ s.clasp.rails = true ∨ s.hubCount < s.power.tickAt + 1000000 := by simpa using h
  simp only [exec_eq_powerControlTick, execPowerControlTick, if_pos hwait]
  rfl

variable {i f : Nat}

theorem State.droopClear_of (hdroop : (s.region i).droop = false) (hsince : (s.region i).droopSince + 2000 ≤ s.hubCount) :
    s.droopClear (s.region i) = true := by
  simp [State.droopClear, hdroop, hsince]

theorem State.droopClear_false (hdroop : (s.region i).droop = true) : s.droopClear (s.region i) = false := by
  simp [State.droopClear, hdroop]

theorem exec_railRampDone (ht : (s.region i).target = some f) :
    exec (.railRampDone i) s = .next (if (s.region i).powered ∧ (s.region i).steppingUp ∧ ¬ (s.region i).railUp ∧ s.droopClear (s.region i) then
      s.setRegion i { s.region i with railUp := true, voltMv := s.setMv i f } else s) := by
  simp only [exec_eq_railRampDone, execRailRampDone, ht]
  split_ifs <;> rfl

theorem exec_clockStepDone (ht : (s.region i).target = some f) :
    exec (.clockStepDone i) s = .next (if (s.region i).powered ∧ ((s.region i).steppingUp → (s.region i).railUp) ∧ s.droopClear (s.region i) then
      s.clockAt i f else s) := by
  simp only [exec_eq_clockStepDone, execClockStepDone, ht]
  split_ifs <;> rfl

theorem State.sampleDue_regions (s : State) (reason isl : Nat) : (s.sampleDue reason isl).regions = s.regions := by
  unfold State.sampleDue
  split_ifs <;> rfl

/-- The clock of a region runs at the new frequency, its step is over, and every other region is as it was. -/
theorem State.clockAt_region (s : State) (i f : Nat) :
    ((s.clockAt i f).region i).setMhz = f ∧ ((s.clockAt i f).region i).target = none ∧ ∀ j, j ≠ i → (s.clockAt i f).region j = s.region j := by
  unfold State.clockAt
  simp only
  split_ifs with hsame
  · simp only [State.region_setRegion_self]
    exact ⟨hsame, trivial, fun j hj => s.region_setRegion_ne hj _⟩
  · have hregions (r : Region) (j : Nat) : (((s.setRegion i r).sampleDue 1 i).capChange).region j = (s.setRegion i r).region j := by
      simp only [State.region, State.capChange, State.sampleDue_regions]
    simp only [hregions, State.region_setRegion_self]
    exact ⟨trivial, trivial, fun j hj => s.region_setRegion_ne hj _⟩

end Power

/-- Settles O28. -/
theorem powerControlRuns : Obligations.PowerControlRuns := by
  refine ⟨?tick, fun _ _ _ _ h => fitStep_spec h, fun _ _ _ _ h => exec_powerControlTick_idle h, ?ramp, ?clock, ?droop⟩
  case tick =>
    rintro s p fixed pinned avg s1 hrails hdue rfl rfl avail fc ok rfl rfl rfl
    have hgo : ¬ (¬ s.clasp.rails = true ∨ s.hubCount < s.power.tickAt + 1000000) :=
      not_or.mpr ⟨not_not_intro hrails, Nat.not_lt.mpr hdue⟩
    simp only [exec_eq_powerControlTick, execPowerControlTick, if_neg hgo] <;> rfl
  case ramp =>
    intro s i f ht hpow hstep hrail hdroop hsince
    refine ⟨_, (exec_railRampDone ht).trans (by rw [if_pos ⟨hpow, hstep, by simp [hrail], State.droopClear_of hdroop hsince⟩]), ?_⟩
    simp only [State.region_setRegion_self]
    exact ⟨trivial, trivial, trivial, fun j hj => s.region_setRegion_ne hj _⟩
  case clock =>
    intro s i f ht hpow hstep hdroop hsince
    exact ⟨_, (exec_clockStepDone ht).trans (by rw [if_pos ⟨hpow, hstep, State.droopClear_of hdroop hsince⟩]), s.clockAt_region i f⟩
  case droop =>
    intro s i f ht hdroop
    have hno := State.droopClear_false hdroop
    exact ⟨(exec_clockStepDone ht).trans (by simp [hno]), (exec_railRampDone ht).trans (by simp [hno])⟩

end Sys2Proof.Machine

namespace Sys2Proof.Machine

/-! ## Droop, supply warnings, thermal caps and wear gauges (R546-R556) -/

theorem State.fld_bumpFld_self (s : State) {c lo wd : Nat} (h : lo + wd ≤ 64) (k : Nat) :
    (s.bumpFld c lo wd k).fld c lo wd = min (2 ^ wd - 1) (s.fld c lo wd + k) := by
  have hpos : 0 < 2 ^ wd := Nat.two_pow_pos wd
  unfold State.bumpFld satAdd
  rw [State.fld_setFld_self s h, Nat.mod_eq_of_lt (by omega)]

/-- A new target of a region changes neither its clock nor its limits. -/
theorem State.setTarget_region (s : State) (i f : Nat) :
    ((s.setTarget i f).region i).thermalCap = (s.region i).thermalCap ∧ ((s.setTarget i f).region i).ratedMhz = (s.region i).ratedMhz ∧
      ((s.setTarget i f).region i).setMhz = (s.region i).setMhz := by
  unfold State.setTarget
  simp only
  split_ifs
  case neg => simp only [State.region_setRegion_self]; exact ⟨trivial, trivial, trivial⟩
  case pos => simp only [State.region_setRegion_self]; exact ⟨trivial, trivial, trivial⟩
  all_goals exact ⟨rfl, rfl, rfl⟩

theorem State.setTarget_onlyRegions (s : State) (i f : Nat) : s.setTarget i f = { s with regions := (s.setTarget i f).regions } := by
  unfold State.setTarget
  simp only
  split_ifs <;> rfl

theorem State.clockAt_power (s : State) (i f : Nat) : (s.clockAt i f).power = s.power := by
  unfold State.clockAt State.capChange State.sampleDue
  simp only
  split_ifs <;> rfl

theorem State.alert_free (s : State) : s.alert.free = s.free := by
  unfold State.alert
  dsimp only
  split_ifs <;> rfl

theorem State.toTray_free (s : State) (rec : Bytes) : (s.toTray rec).free = s.free := State.alert_free _

theorem State.powerEvent_free (s : State) (kind isl before after lowest dur : Nat) :
    (s.powerEvent kind isl before after lowest dur).free = s.free :=
  (State.toTray_free _ _).trans (State.ringPut_stored (Stored.rfl' s) _ _).free

theorem five_mul_cdiv_le {need : Nat} (h : need ≤ 60) : 5 * cdiv need 5 ≤ 60 := by
  unfold cdiv
  omega

section Regions

variable {s : State} {i : Nat}

theorem exec_droopAssert_powered (hpow : (s.region i).powered = true) (hdroop : (s.region i).droop = false) :
    exec (.droopAssert i) s =
      .next (((s.setRegion i { s.region i with droop := true, droopSince := s.hubCount, droopLong := false }).bumpFld (rPwrDroop i) 0 24 1).slowed i) := by
  simp [exec_eq_droopAssert, execDroopAssert, hpow, hdroop]

theorem exec_droopClear_over (hdroop : (s.region i).droop = true) (hover : 32000 ≤ (s.hubCount - (s.region i).droopSince) * (s.region i).setMhz) :
    exec (.droopClear i) s = .next (s.setRegion i { s.region i with droop := false, droopSince := s.hubCount, droopLong := false }) := by
  simp only [exec_eq_droopClear, execDroopClear, hdroop, Nat.not_lt.mpr hover]
  simp

theorem exec_droopLong_first (hdroop : (s.region i).droop = true) (hnew : (s.region i).droopLong = false)
    (hlong : (s.region i).droopSince + 100000 < s.hubCount) {s1 : State}
    (hs1 : s1 = (s.setRegion i { s.region i with droopLong := true }).clockAt i (min (s.region i).setMhz (s.safeMhz i))) :
    exec (.droopLong i) s = .next (((s1.setFld rPwrEvent 2 1 1).bumpFld (rPwrDroop i) 24 8 1).powerEvent 3 i (s.region i).setMhz
      (s1.region i).setMhz 0 (s.hubCount - (s.region i).droopSince)) := by
  have hgo : ¬ (¬ (s.region i).droop = true ∨ (s.region i).droopLong = true ∨ s.hubCount ≤ (s.region i).droopSince + 100000) := by
    simp [hdroop, hnew, hlong]
  subst hs1
  exact if_neg hgo

/-- A supply below its warning level is noted, and the bus voltage with it. -/
theorem exec_supplyWarning_low {k mv : Nat} (hk : k ≤ 18) (hrails : s.clasp.rails = true) (hnew : tget k s.power.warns = none)
    (hlow : s.lowSupply k mv = true) :
    ∃ t, exec (.supplyWarning k mv) s = .next t ∧
      t.power = { s.power with warns := tput k s.hubCount s.power.warns, busMv := if k = 18 then mv else s.power.busMv } := by
  simp only [exec_eq_supplyWarning, execSupplyWarning, Nat.not_lt.mpr hk, hrails, hnew, hlow]
  refine ⟨_, rfl, ?_⟩
  simp only [State.bumpFld_power, State.setFld_power]
  rw [foldS_keeps (P := fun st => st.power = s.power) rfl]
  intro st j hst
  exact ((st.clockAt_power j _).trans hst :)

theorem exec_supplyRelease_over {k low h : Nat} (hw : tget k s.power.warns = some h) (hover : h + 200000 ≤ s.hubCount) :
    ∃ t, exec (.supplyRelease k low) s = .next t ∧ tget k t.power.warns = none ∧ t.free = s.free + 2 := by
  simp only [exec_eq_supplyRelease, execSupplyRelease, hw, Nat.not_lt.mpr hover, if_false]
  refine ⟨_, rfl, ?_⟩
  generalize hs2 : foldS _ _ _ = s2
  have hkept : s2.power = { s.power with warns := tdel k s.power.warns } ∧ s2.free = s.free := by
    rw [← hs2]
    refine foldS_keeps (P := fun st => st.power = { s.power with warns := tdel k s.power.warns } ∧ st.free = s.free) (by exact ⟨rfl, rfl⟩) _ _ ?_
    intro st j hst
    dsimp only
    split_ifs
    · rw [State.setTarget_onlyRegions]
      exact hst
    · exact hst
  obtain ⟨hpower, hfree⟩ := hkept
  constructor
  · simp only [State.useFree_power, (State.powerEvent_aside (Aside.rfl' s2) _ _ _ _ _ _).power, hpower]
    exact tget_tdel_self _ _
  · simp only [State.useFree, State.powerEvent_free, hfree]

theorem State.slowed_region (s : State) (i j : Nat) : (s.slowed i).region j = s.region j := rfl

theorem State.slowed_fld (s : State) (i c lo wd : Nat) : (s.slowed i).fld c lo wd = s.fld c lo wd := rfl

theorem State.powerEvent_region (s : State) (kind isl before after lowest dur j : Nat) :
    (s.powerEvent kind isl before after lowest dur).region j = s.region j := by
  simp only [State.region, (State.powerEvent_aside (Aside.rfl' s) _ _ _ _ _ _).regions]

/-- The thermal cap falls by a step; the rated frequency and the clock stand. -/
theorem exec_thermalCapFall_hot {temp : Nat} (htemp : 105 ≤ temp) (hpow : (s.region i).powered = true)
    (hdue : (s.region i).capAt + 100000 ≤ s.hubCount) :
    ∃ t, exec (.thermalCapFall i temp) s = .next t ∧ (t.region i).thermalCap = (s.region i).cap - 100 ∧
      (t.region i).ratedMhz = (s.region i).ratedMhz ∧ (t.region i).setMhz = (s.region i).setMhz := by
  have hgo : ¬ (temp < 105 ∨ ¬ (s.region i).powered = true ∨ s.hubCount < (s.region i).capAt + 100000) := by
    simp [htemp, hpow, hdue]
  refine ⟨_, if_neg hgo, ?_⟩
  generalize hs1 : (s.setRegion i { s.region i with thermalCap := (s.region i).cap - 100, capAt := s.hubCount }).setFld rPwrEvent 3 1 1 = s1
  have hr : s1.region i = { s.region i with thermalCap := (s.region i).cap - 100, capAt := s.hubCount } := by rw [← hs1]; simp
  obtain ⟨hcap, hrated, hmhz⟩ := s1.setTarget_region i (s1.wanted i (max (s.region i).setMhz ((s.region i).target.getD 0)))
  rw [hr] at hcap hrated hmhz
  simp only [apply_ite (fun st : State => st.region i), State.powerEvent_region, State.slowed_region, ite_self]
  split_ifs
  · exact ⟨hcap, hrated, hmhz⟩
  · rw [hr]
    exact ⟨rfl, rfl, rfl⟩

theorem exec_thermalCapRise_cool {temp : Nat} (htemp : temp < 103) (hpow : (s.region i).powered = true)
    (hdue : (s.region i).capAt + 1000000 ≤ s.hubCount) :
    exec (.thermalCapRise i temp) s = .next (s.setRegion i { s.region i with
      thermalCap := min (s.region i).ratedMhz ((s.region i).thermalCap + 100), capAt := s.hubCount }) := by
  have hgo : ¬ (103 ≤ temp ∨ ¬ (s.region i).powered = true ∨ s.hubCount < (s.region i).capAt + 1000000) := by
    simp [htemp, hpow, hdue]
  exact if_neg hgo

theorem State.trimEvent_region (s : State) (isl j : Nat) : (s.trimEvent isl).region j = s.region j := by
  simp only [State.region, (State.trimEvent_aside (Aside.rfl' s) _).regions]

theorem State.trimEvent_fabric (s : State) (isl d : Nat) : (s.trimEvent isl).fabric d = s.fabric d := by
  simp only [State.fabric, (State.trimEvent_aside (Aside.rfl' s) _).fabrics]

theorem exec_wearGauge_region {d need h : Nat} (hd : d < 16) (hrails : s.clasp.rails = true) (hdue : s.gaugeDue (s.region d).gauge = true)
    (hwarn : tget 18 s.power.warns = none) (hneed : need ≤ 60) :
    ∃ t, exec (.wearGaugeReading d need h) s = .next t ∧ (t.region d).shiftMv = 5 * cdiv need 5 ∧ (t.region d).marginMv = marginFor h ∧
      (t.region d).ratedMhz = (s.region d).ratedMhz := by
  have hwant := five_mul_cdiv_le hneed
  have hgo : ¬ ((tget 18 s.power.warns).isSome = true ∨ 17 < d ∨ ¬ s.clasp.rails = true ∨
      ¬ s.gaugeDue (if d < 16 then (s.region d).gauge else (s.fabric (d - 16)).gauge) = true) := by
    have h17 : ¬ 17 < d := by omega
    simp [hwarn, h17, hrails, hd, hdue]
  simp only [exec_eq_wearGaugeReading, execWearGaugeReading, if_neg hgo, if_neg (Nat.not_le.mpr hd), if_neg (Nat.not_lt.mpr hwant)]
  refine ⟨_, rfl, ?_⟩
  simp only [apply_ite (fun st : State => st.region d), State.trimEvent_region, ite_self, State.region_setRegion_self]
  exact ⟨Nat.min_eq_right hwant, trivial, trivial⟩

theorem exec_wearGauge_fabric {d need h : Nat} (hd : 16 ≤ d) (hmax : d ≤ 17) (hrails : s.clasp.rails = true)
    (hdue : s.gaugeDue (s.fabric (d - 16)).gauge = true) (hwarn : tget 18 s.power.warns = none) :
    ∃ t, exec (.wearGaugeReading d need h) s = .next t ∧ (t.fabric (d - 16)).shiftMv = min 60 (5 * cdiv need 5) ∧
      (t.fabric (d - 16)).marginMv = marginFor h := by
  have hgo : ¬ ((tget 18 s.power.warns).isSome = true ∨ 17 < d ∨ ¬ s.clasp.rails = true ∨
      ¬ s.gaugeDue (if d < 16 then (s.region d).gauge else (s.fabric (d - 16)).gauge) = true) := by
    simp [hwarn, Nat.not_lt.mpr hmax, hrails, Nat.not_lt.mpr hd, hdue]
  simp only [exec_eq_wearGaugeReading, execWearGaugeReading, if_neg hgo, if_pos hd]
  refine ⟨_, rfl, ?_⟩
  simp only [apply_ite (fun st : State => st.fabric (d - 16)), State.trimEvent_fabric, ite_self, State.fabric_setFabric_self]
  exact ⟨trivial, trivial⟩

end Regions

/-- Settles O29. -/
theorem droopWarningsAndHeat : Obligations.DroopWarningsAndHeat := by
  refine ⟨?assert, ?clear, fun _ _ hdroop hnew hlong => ⟨_, rfl, exec_droopLong_first hdroop hnew hlong rfl⟩, ?warning,
    fun _ _ _ _ hw hover => exec_supplyRelease_over hw hover, fun _ _ _ htemp hpow hdue => exec_thermalCapFall_hot htemp hpow hdue, ?rise,
    fun _ _ _ _ hd hrails hdue hwarn hneed => exec_wearGauge_region hd hrails hdue hwarn hneed,
    fun _ _ _ _ hd hmax hrails hdue hwarn => exec_wearGauge_fabric hd hmax hrails hdue hwarn⟩
  case assert =>
    intro s i hpow hdroop
    refine ⟨_, exec_droopAssert_powered hpow hdroop, ?_⟩
    simp only [State.slowed_region, State.region_bumpFld, State.region_setRegion_self, State.slowed_fld]
    refine ⟨trivial, trivial, trivial, ?_⟩
    rw [State.fld_bumpFld_self _ (by decide)]
    simp only [State.fld, State.reg_setRegion]
  case clear =>
    intro s i hdroop hover
    refine ⟨_, exec_droopClear_over hdroop hover, ?_⟩
    simp only [State.region_setRegion_self]
    exact ⟨trivial, trivial, fun j hj => s.region_setRegion_ne hj _⟩
  case warning =>
    intro s k mv hk hrails hnew hlow
    obtain ⟨t, hexec, hpower⟩ := exec_supplyWarning_low hk hrails hnew hlow
    exact ⟨t, hexec, by rw [hpower]; exact tget_tput_self _ _ _, by rw [hpower]⟩
  case rise =>
    intro s i temp htemp hpow hdue
    exact ⟨_, exec_thermalCapRise_cool htemp hpow hdue, by simp, rfl⟩

end Sys2Proof.Machine

namespace Sys2Proof.Machine

/-! ## Power limits, energy blocks and power groups (R557-R568) -/

theorem State.fld_writeFld_ne (s : State) {c lo wd a k : Nat} (hk : a + k ≤ 64) (h : a + k ≤ lo ∨ lo + wd ≤ a) (v : Nat) :
    (s.writeFld c lo wd v).fld c a k = s.fld c a k := by
  unfold State.writeFld
  rw [State.fld_voidSweep, State.fld_setFld_ne s hk h]

theorem State.fld_cmdDone (s : State) (q st d c lo wd : Nat) : (s.cmdDone q st d).fld c lo wd = s.fld c lo wd := by
  simp only [State.fld, State.cmdDone_at_reg]

/-- PWR_LIMIT after its window and its fast limit are written: the sustained limit stands. -/
theorem State.fld_pwrLimit_written (s : State) (win fast : Nat) :
    ((s.writeFld rPwrLimit 11 5 win).writeFld rPwrLimit 16 11 fast).fld rPwrLimit 0 11 = s.fld rPwrLimit 0 11 ∧
      ((s.writeFld rPwrLimit 11 5 win).writeFld rPwrLimit 16 11 fast).fld rPwrLimit 11 5 = win % 2 ^ 5 ∧
      ((s.writeFld rPwrLimit 11 5 win).writeFld rPwrLimit 16 11 fast).fld rPwrLimit 16 11 = fast % 2 ^ 11 := by
  refine ⟨?_, ?_, State.fld_writeFld_self _ (by decide) fast⟩
  · rw [State.fld_writeFld_ne _ (by decide) (by decide), State.fld_writeFld_ne _ (by decide) (by decide)]
  · rw [State.fld_writeFld_ne _ (by decide) (by decide), State.fld_writeFld_self _ (by decide)]

section Limits

variable {s s1 : State} {q : Nat} {x : Queue} {c : Cmd}

theorem exec_pwrLimitWrite (w : BitVec 32) (hrails : s.clasp.rails = true) :
    exec (.pwrLimitWrite w) s = .next (((if bit (s.reg rPwrGroup) 0 then s else s.setFld rPwrLimit 0 11 w.toNat).writeFld rPwrLimit 11 5
      (w.toNat / 2 ^ 11)).writeFld rPwrLimit 16 11 (w.toNat / 2 ^ 16)) := by
  exact if_neg (not_not_intro hrails)

theorem exec_powerSet_inRange (h : Taken s q 0x58 x c s1) (hgrp : bit (s1.reg rPwrGroup) 0 = false) (hmin : 700 ≤ c.arg 0x28 2)
    (hmax : c.arg 0x28 2 ≤ 1500) (hwmin : 1 ≤ c.arg 0x2A 1) (hwmax : c.arg 0x2A 1 ≤ 30) (hfmin : c.arg 0x28 2 ≤ c.arg 0x2C 2)
    (hfmax : c.arg 0x2C 2 ≤ 1850) :
    exec (.powerSet q) s = .next ((((s1.setFld rPwrLimit 0 11 (c.arg 0x28 2)).writeFld rPwrLimit 11 5 (c.arg 0x2A 1)).writeFld rPwrLimit 16 11
      (c.arg 0x2C 2)).cmdDone q 0 0) := by
  simp [exec_eq_powerSet, execPowerSet, runCmd_taken h, hgrp, Nat.not_lt.mpr hmin, Nat.not_lt.mpr hmax, Nat.ne_of_gt hwmin, Nat.not_lt.mpr hwmax,
    Nat.not_lt.mpr hfmin, Nat.not_lt.mpr hfmax]

theorem exec_powerSet_outOfRange (h : Taken s q 0x58 x c s1) (hgrp : bit (s1.reg rPwrGroup) 0 = false)
    (hbad : c.arg 0x28 2 < 700 ∨ 1500 < c.arg 0x28 2) : exec (.powerSet q) s = .next (s1.cmdDone q 2 0x28) := by
  simp [exec_eq_powerSet, execPowerSet, runCmd_taken h, hgrp, hbad]

theorem exec_energyWatch_mgmt (h : Taken s q 0x59 x c s1) (htype : x.type = .mgmt) (hid : c.arg 0x30 1 ≤ 63)
    (hvalid : (s1.folio (c.arg 0x30 1)).valid = true) (halign : c.arg 0x28 8 % 64 = 0) (hroute : s1.route (c.arg 0x28 8) ≠ .hole) :
    exec (.energyWatch q) s = .next ((s1.setFolio (c.arg 0x30 1) { s1.folio (c.arg 0x30 1) with
      energy := if c.arg 0x28 8 = 0 then none else some (x.ctx, c.arg 0x28 8, 0) }).cmdDone q 0 0) := by
  simp [exec_eq_energyWatch, execEnergyWatch, runCmd_taken h, htype, Nat.not_lt.mpr hid, hvalid, halign, hroute]

end Limits

/-- What an energy estimate does for one folio (R563). -/
def State.energyOf (s : State) (f : Nat) : State :=
  match (s.folio f).energy with
  | none => s
  | some (ctx, a, n) =>
    ((s.useFree.useFree.setFolio f { s.folio f with energy := some (ctx, a, n + 1) }).hubWrite ctx a
      (le 8 (n + 1) ++ s.freeBytes 8 ++ s.useFree.freeBytes 8 ++ le 8 s.hubCount ++ zeros 32)).2

section Energy

variable {s : State}

theorem exec_energyEstimate_due {s0 : State} (hrails : s.clasp.rails = true) (hdue : s.power.energyAt + 10000000 ≤ s.hubCount)
    (hs0 : s0 = { s with power := { s.power with energyAt := s.hubCount } }) :
    exec .energyEstimate s = .next (foldS (s.folios.map Prod.fst) s0 State.energyOf) := by
  have hgo : ¬ (¬ s.clasp.rails = true ∨ s.hubCount < s.power.energyAt + 10000000) := by simp [hrails, hdue]
  subst hs0
  refine (if_neg hgo).trans ?_
  rfl

theorem State.foldS_energyOf_none {s : State} (h : ∀ f, (s.folio f).energy = none) (l : List Nat) : foldS l s State.energyOf = s :=
  foldS_keeps (P := fun st => st = s) rfl l _ (by rintro _ f rfl; simp only [State.energyOf, h f])

theorem State.energyOf_some {f : Nat} {g : Folio} {ctx a n : Nat} (hf : s.folio f = g) (hg : g.energy = some (ctx, a, n)) :
    s.energyOf f = ((s.useFree.useFree.setFolio f { g with energy := some (ctx, a, n + 1) }).hubWrite ctx a
      (le 8 (n + 1) ++ s.freeBytes 8 ++ s.useFree.freeBytes 8 ++ le 8 s.hubCount ++ zeros 32)).2 := by
  simp only [State.energyOf, hf, hg]

end Energy

section Group

variable {s : State}

theorem State.applyLimit_fld (s : State) (lim : Nat) : (s.applyLimit lim).fld rPwrLimit 0 11 = lim % 2 ^ 11 :=
  State.fld_setFld_self s (by decide) lim

theorem State.applyLimit_power (s : State) (lim : Nat) : (s.applyLimit lim).power = { s.power with lastAssign := s.hubCount } := rfl

theorem exec_reportPeriod_due (hgroup : s.inGroup = true) (hdue : s.power.reportAt + 10000000 ≤ s.hubCount) :
    ∃ t, exec .reportPeriod s = .next t ∧ t.power = { s.power with
      reports := tput s.clasp.pkgId (s.limitW, s.slack) s.power.reports, reportSeq := (s.power.reportSeq + 1) % 65536, reportAt := s.hubCount,
      barBase := s.barTotal, cycBase := s.cycTotal } := by
  have hgo : ¬ (¬ s.inGroup = true ∨ s.hubCount < s.power.reportAt + 10000000) := by simp [hgroup, hdue]
  refine ⟨_, if_neg hgo, ?_⟩
  generalize hs1 : foldS _ _ _ = s1
  have hpower : s1.power = s.power := by
    rw [← hs1]
    exact (foldS_aside (Aside.rfl' s) _ _ (fun st p hst => State.groupSend_aside hst _ _ _)).power
  simp only [hpower]

theorem exec_report_up {l : Nat} {d : Bytes} (hup : (s.stitch l).up = true) (hgroup : s.inGroup = true) (hid : fieldLe d 0 2 = s.groupId) :
    exec (.report l d) s = .next { s with power := { s.power with
      reports := tput (fieldLe d 4 2) (fieldLe d 6 2, fieldLe d 0x0A 2) s.power.reports } } := by
  simp [exec_eq_report, execReport, hup, hgroup, hid]

/-- The package that is lowest in the books takes the lead. -/
theorem exec_leaderAssign_first {first : Nat × Nat × Nat} {rest : List (Nat × Nat × Nat)} (hgroup : s.inGroup = true)
    (hbooks : s.power.reports = first :: rest) (hfirst : first.1 = s.clasp.pkgId) :
    ∃ t, exec .leaderAssign s = .next t ∧ t.power.leader = true ∧ t.power.members = s.power.reports.length ∧ t.power.reports = [] ∧
      t.power.totalChanged = false := by
  have hgo : ¬ (¬ s.inGroup = true ∨ first.1 ≠ s.clasp.pkgId) := by simp [hgroup, hfirst]
  simp only [exec_eq_leaderAssign, execLeaderAssign, hbooks, List.map_cons, if_neg hgo]
  refine ⟨_, rfl, ?_⟩
  simp only [apply_ite State.power, (State.powerEvent_aside (Aside.rfl' _) _ _ _ _ _ _).power, ite_self]
  simp

theorem exec_assign_ours {l : Nat} {d : Bytes} (hup : (s.stitch l).up = true) (hgroup : s.inGroup = true) (hid : fieldLe d 0 2 = s.groupId)
    (hpkg : fieldLe d 4 2 = s.clasp.pkgId) :
    exec (.assign l d) s = .next { s.applyLimit (fieldLe d 6 2) with power := { (s.applyLimit (fieldLe d 6 2)).power with
      totalW := fieldLe d 8 2, members := fieldLe d 0x0A 2, leader := false, reports := [] } } := by
  simp [exec_eq_assign, execAssign, hup, hgroup, hid, hpkg]

/-- The limit that a package takes without an assignment (R567). -/
def State.fallbackLimit (s : State) : Nat := if s.power.members = 0 then s.limitW else min s.limitW (s.power.totalW / s.power.members)

theorem exec_assignTimeout_over (hgroup : s.inGroup = true) (hover : s.power.lastAssign + 50000000 ≤ s.hubCount) :
    ∃ t, exec .assignTimeout s = .next t ∧ t.power.lastAssign = s.hubCount ∧ t.power.reports = [] ∧
      t.fld rPwrLimit 0 11 = s.fallbackLimit % 2 ^ 11 := by
  have hgo : ¬ (¬ s.inGroup = true ∨ s.hubCount < s.power.lastAssign + 50000000) := by simp [hgroup, hover]
  refine ⟨_, if_neg hgo, ?_⟩
  simp only [(State.powerEvent_aside (Aside.rfl' _) _ _ _ _ _ _).power]
  refine ⟨by rfl, trivial, ?_⟩
  simp only [State.fld, State.reg, (State.powerEvent_noted (Noted.rfl' _) _ _ _ _ _ _).regs]
  exact (State.fld_setFld_other _ (by decide) 4 1 1 0 11).trans (s.applyLimit_fld s.fallbackLimit)

end Group

/-- Settles O30. -/
theorem powerLimitsEnergyAndGroups : Obligations.PowerLimitsEnergyAndGroups := by
  refine ⟨?alone, ?grouped, ?set, fun _ _ _ _ _ h hgrp hbad => exec_powerSet_outOfRange h hgrp hbad, ?watch, ?none, ?one, ?period, ?report,
    fun _ _ _ hgroup hbooks hfirst => exec_leaderAssign_first hgroup hbooks hfirst, ?assign, ?timeout⟩
  case alone =>
    intro s w hrails hgrp
    obtain ⟨hlim, hwin, hfast⟩ := State.fld_pwrLimit_written (s.setFld rPwrLimit 0 11 w.toNat) (w.toNat / 2 ^ 11) (w.toNat / 2 ^ 16)
    refine ⟨_, (exec_pwrLimitWrite w hrails).trans (by simp only [hgrp, Bool.false_eq_true, if_false]), ?_, ?_, hwin, hfast⟩
    · exact (onlyRegs_setReg _ _ _).trans ((onlyRegs_writeFld ..).trans (onlyRegs_writeFld ..))
    · exact hlim.trans (State.fld_setFld_self s (by decide) _)
  case grouped =>
    intro s w hrails hgrp
    obtain ⟨hlim, -, hfast⟩ := State.fld_pwrLimit_written s (w.toNat / 2 ^ 11) (w.toNat / 2 ^ 16)
    exact ⟨_, (exec_pwrLimitWrite w hrails).trans (by simp only [hgrp, if_true]), hlim, hfast⟩
  case set =>
    intro s s1 q x c h hgrp hmin hmax hwmin hwmax hfmin hfmax
    obtain ⟨hlim, hwin, hfast⟩ := State.fld_pwrLimit_written (s1.setFld rPwrLimit 0 11 (c.arg 0x28 2)) (c.arg 0x2A 1) (c.arg 0x2C 2)
    refine ⟨_, exec_powerSet_inRange h hgrp hmin hmax hwmin hwmax hfmin hfmax, ?_⟩
    simp only [State.fld_cmdDone, hlim, hwin, hfast, State.fld_setFld_self s1 (show 0 + 11 ≤ 64 by decide)]
    exact ⟨Nat.mod_eq_of_lt (by omega), Nat.mod_eq_of_lt (by omega), Nat.mod_eq_of_lt (by omega)⟩
  case watch =>
    intro s s1 q x c h htype hid hvalid halign hroute
    exact ⟨_, exec_energyWatch_mgmt h htype hid hvalid halign hroute, by simp, fun f hf => by simp [State.folio_setFolio_ne _ hf]⟩
  case none =>
    intro s hrails hdue hnone
    exact (exec_energyEstimate_due hrails hdue rfl).trans (congrArg _ (State.foldS_energyOf_none (by exact hnone) _))
  case one =>
    intro s s0 f g ctx a n hrails hdue hs0 hfolios hg
    have hexec := exec_energyEstimate_due hrails hdue hs0
    rw [hfolios] at hexec
    have hfolio : s0.folio f = g := by subst hs0; simp [State.folio, hfolios, tgetD, tget]
    refine ⟨_, _, hexec, rfl, (State.energyOf_some hfolio hg).trans ?_⟩
    subst hs0
    rfl
  case period =>
    intro s hgroup hdue
    obtain ⟨t, hexec, hpower⟩ := exec_reportPeriod_due hgroup hdue
    exact ⟨t, hexec, by rw [hpower]; exact tget_tput_self _ _ _, by rw [hpower], by rw [hpower], by rw [hpower]⟩
  case report =>
    intro s l d hup hgroup hid
    exact ⟨_, exec_report_up hup hgroup hid, tget_tput_self _ _ _, rfl⟩
  case assign =>
    intro s l d hup hgroup hid hpkg
    exact ⟨_, exec_assign_ours hup hgroup hid hpkg, s.applyLimit_fld _, rfl, rfl, rfl, rfl⟩
  case timeout =>
    intro s hgroup hover
    obtain ⟨t, hexec, hlast, hreports, hfld⟩ := exec_assignTimeout_over hgroup hover
    refine ⟨t, hexec, hlast, hreports, fun hmembers hlt => ?_⟩
    rw [hfld, State.fallbackLimit, if_neg hmembers, Nat.mod_eq_of_lt hlt]

end Sys2Proof.Machine

namespace Sys2Proof.Machine

/-! ## Composition commands (R431-R447) -/

theorem runComposition_taken {s s1 : State} {q op : Nat} {x : Queue} {c : Cmd} (h : Taken s q op x c s1) (go : State → Queue → Cmd → State) :
    s.runComposition q op go = .next (go s1 x c).overlap := by
  obtain ⟨hfront, hs1⟩ := h
  simp only [State.runComposition, hfront, hs1]

theorem runComposition_block {s s2 : State} {q op : Nat} {x : Queue} {c : Cmd} {b : Bytes} (h : TakenBlock s q op x c s2 b)
    (go : State → Queue → Cmd → State → Bytes → State) :
    s.runComposition q op (fun s1 x c => s1.withBlock q c 64 (go s1 x c)) = .next (go (s.endQwait q x) x c s2 b).overlap := by
  obtain ⟨hfront, hread⟩ := h
  simp only [State.runComposition, hfront, State.withBlock, hread]

section Folios

variable {s s1 s2 : State} {q : Nat} {x : Queue} {c : Cmd}

theorem exec_folioCreate_good {b : Bytes} (h : TakenBlock s q 0x30 x c s2 b)
    (hok : s2.createBad b (maskBits (fieldLe b 8 16) 128) (maskBits (fieldLe b 0x18 8) 64) (maskBits (fieldLe b 0x20 2) 12) = none) :
    exec (.folioCreate q) s =
      .next (s2.createFolio q b (maskBits (fieldLe b 8 16) 128) (maskBits (fieldLe b 0x18 8) 64) (maskBits (fieldLe b 0x20 2) 12)).overlap := by
  simp only [exec_eq_folioCreate, execFolioCreate, runComposition_block h, hok]

theorem exec_folioCreate_bad {b : Bytes} {e : Nat × Nat} (h : TakenBlock s q 0x30 x c s2 b)
    (hbad : s2.createBad b (maskBits (fieldLe b 8 16) 128) (maskBits (fieldLe b 0x18 8) 64) (maskBits (fieldLe b 0x20 2) 12) = some e) :
    exec (.folioCreate q) s = .next (s2.cmdDone q e.1 e.2).overlap := by
  simp only [exec_eq_folioCreate, execFolioCreate, runComposition_block h, hbad]

theorem exec_folioDestroy_zero (h : Taken s q 0x31 x c s1) (hzero : c.arg 0x28 1 = 0) :
    exec (.folioDestroy q) s = .next (s1.cmdDone q 0x0A 0).overlap := by
  simp only [exec_eq_folioDestroy, execFolioDestroy, runComposition_taken h, hzero, if_true]

/-- The state in which FOLIO_DESTROY starts the departures: the folio's sets are dissolved and its command is noted (R434). -/
def State.destroyStart (s s1 : State) (q f : Nat) : State :=
  ({ s1 with prots := s1.prots.filter (fun p => !p.members.any (fun m => m.1 == 0 && (s.memSlice m.2).owner == f)) }.setFolio f
    { s1.folio f with destroying := some q }).setPhase q (.running 0)

theorem exec_folioDestroy_good {f : Nat} (h : Taken s q 0x31 x c s1) (hf : f = c.arg 0x28 1) (hne : f ≠ 0) (hmax : f ≤ 63)
    (hvalid : (s1.folio f).valid = true)
    (hroom : s.epochRoom f ((s.folioCores f).length + (s.folioMems f).length + (s.folioLinks f).length) = true) :
    exec (.folioDestroy q) s = .next (((foldS ((List.range 12).filter (fun n => (s.linkSlice n).st == .owned && (s.linkSlice n).owner == f))
      (foldS (s.folioMems f) (foldS (s.folioCores f) (s.destroyStart s1 q f) (fun st n => st.depart 0 n 0x3F none))
        (fun st n => st.depart 1 n 0x3F none)) (fun st n => st.depart 2 n 0x3F none)).destroyCheck f).overlap) := by
  have hok : s1.folioBad f 0x28 = none := by simp [State.folioBad, Nat.not_lt.mpr hmax, hvalid]
  subst hf
  simp only [exec_eq_folioDestroy, execFolioDestroy, runComposition_taken h, if_neg hne, hok, hroom, not_true_eq_false, if_false]
  rfl

theorem exec_sliceAttach_free (h : Taken s q 0x32 x c s1)
    (harg : s1.sliceArgBad 0x32 (c.arg 0x28 1) (c.arg 0x29 1) (c.arg 0x2A 1) (c.arg 0x2B 1) = none)
    (hfree : (s1.sliceE (c.arg 0x28 1) (c.arg 0x29 1)).st = .free) (hinit : (s1.sliceE (c.arg 0x28 1) (c.arg 0x29 1)).init = false)
    (henter : s1.enterBad (c.arg 0x28 1) (c.arg 0x29 1) (c.arg 0x2B 1) = none) (hroom : s.epochRoom (c.arg 0x2B 1) 1 = true) :
    exec (.sliceAttach q) s = .next (if c.arg 0x28 1 = 1 ∧ s1.isConf (c.arg 0x2B 1) = true then
      (s1.startInit (c.arg 0x29 1) (c.arg 0x2B 1) (some q) s.hubCount).setPhase q (.running 0)
      else s1.joinDone (c.arg 0x28 1) (c.arg 0x29 1) (c.arg 0x2B 1) (some q) s.hubCount).overlap := by
  have hgo : ¬ ((s1.sliceE (c.arg 0x28 1) (c.arg 0x29 1)).st ≠ .free ∨ (s1.sliceE (c.arg 0x28 1) (c.arg 0x29 1)).init = true) := by
    simp [hfree, hinit]
  simp only [exec_eq_sliceAttach, execSliceAttach, runComposition_taken h, harg, if_neg hgo, henter, hroom, not_true_eq_false, if_false]

theorem exec_sliceDetach_good (h : Taken s q 0x33 x c s1)
    (harg : s1.sliceArgBad 0x33 (c.arg 0x28 1) (c.arg 0x29 1) (c.arg 0x2A 1) (c.arg 0x2B 1) = none)
    (hleave : s1.leaveBad (c.arg 0x28 1) (c.arg 0x29 1) (c.arg 0x2A 1) = none) (hroom : s.epochRoom (c.arg 0x2A 1) 1 = true) :
    exec (.sliceDetach q) s =
      .next ((s1.depart (c.arg 0x28 1) (c.arg 0x29 1) 0x3F (some q)).setPhase q (.running 0)).overlap := by
  simp only [exec_eq_sliceDetach, execSliceDetach, runComposition_taken h, harg, hleave, hroom, not_true_eq_false, if_false]

theorem exec_sliceTransfer_good (h : Taken s q 0x34 x c s1)
    (harg : s1.sliceArgBad 0x34 (c.arg 0x28 1) (c.arg 0x29 1) (c.arg 0x2A 1) (c.arg 0x2B 1) = none)
    (hleave : s1.leaveBad (c.arg 0x28 1) (c.arg 0x29 1) (c.arg 0x2A 1) = none)
    (henter : s1.enterBad (c.arg 0x28 1) (c.arg 0x29 1) (c.arg 0x2B 1) = none) (hfrom : s.epochRoom (c.arg 0x2A 1) 1 = true)
    (hto : s.epochRoom (c.arg 0x2B 1) 1 = true) :
    exec (.sliceTransfer q) s =
      .next ((s1.depart (c.arg 0x28 1) (c.arg 0x29 1) (c.arg 0x2B 1) (some q)).setPhase q (.running 0)).overlap := by
  simp only [exec_eq_sliceTransfer, execSliceTransfer, runComposition_taken h, harg, hleave, henter, hfrom, hto, not_true_eq_false, or_self, if_false]

theorem exec_sliceMove_good {a b : Nat} (h : Taken s q 0x35 x c s1) (ha : a = c.arg 0x28 1) (hb : b = c.arg 0x29 1) (hamax : a ≤ 63)
    (hbmax : b ≤ 63) (hown : (s1.memSlice a).st = .owned) (hfree : (s1.memSlice b).st = .free) (hinit : (s1.memSlice b).init = false)
    (hadm : s1.hasAdmitted (s1.memSlice a).owner = false) (hset : s1.inSet a = false) (hroom : s.epochRoom (s1.memSlice a).owner 1 = true) :
    exec (.sliceMove q) s = .next (((s1.setMemSlice a { s1.memSlice a with moveTo := some b, queue := some q, started := s.hubCount }).setMemSlice b
      { s1.memSlice b with st := .transit, owner := 0x3F, dest := (s1.memSlice a).owner, moveFrom := some a }).setPhase q (.running 0)).overlap := by
  subst ha hb
  simp only [exec_eq_sliceMove, execSliceMove, runComposition_taken h, Nat.not_lt.mpr hamax, Nat.not_lt.mpr hbmax, hown, hfree, hinit, hadm, hset, hroom]
  simp

end Folios

/-- Settles O31. -/
theorem folioCommandsComplete : Obligations.FolioCommandsComplete := by
  refine ⟨fun _ _ _ _ _ _ h hok => exec_folioCreate_good h hok, fun _ _ _ _ _ _ _ h hbad => exec_folioCreate_bad h hbad,
    fun _ _ _ _ _ h hzero => exec_folioDestroy_zero h hzero,
    fun s s1 q _ _ f h hf hne hmax hvalid hroom =>
      ⟨s.destroyStart s1 q f, _, _, _, exec_folioDestroy_good h hf hne hmax hvalid hroom, rfl, rfl, rfl, rfl⟩,
    fun _ _ _ _ _ h harg hfree hinit henter hroom =>
      ⟨fun hplain => (exec_sliceAttach_free h harg hfree hinit henter hroom).trans (by rw [if_neg hplain]),
       fun hconf => (exec_sliceAttach_free h harg hfree hinit henter hroom).trans (by rw [if_pos hconf])⟩,
    fun _ _ _ _ _ h harg hleave hroom => exec_sliceDetach_good h harg hleave hroom,
    fun _ _ _ _ _ h harg hleave henter hfrom hto => exec_sliceTransfer_good h harg hleave henter hfrom hto, ?move⟩
  case move =>
    intro s s1 q x c a b h ha hb hamax hbmax hown hfree hinit hadm hset hroom hab
    refine ⟨_, exec_sliceMove_good h ha hb hamax hbmax hown hfree hinit hadm hset hroom, ?_⟩
    unfold SameMemory
    simp [State.memSlice_setMemSlice_ne _ hab]

/-! ## Drains, scrubs and moves (R437-R445) -/

section Rebinding

variable {s : State} {kind n : Nat}

theorem State.epochInForce_folio (s : State) (f : Nat) :
    (foldS (s.folio f).epochPend (s.setFolio f { s.folio f with epochPend := [] }) (fun st q => st.cmdDone q 0 0)).folio f =
      { s.folio f with epochPend := [] } :=
  foldS_keeps (P := fun st => st.folio f = { s.folio f with epochPend := [] }) (State.folio_setFolio_self ..) _ _
    (fun st q h => by simpa using h)

theorem exec_drainZero_leaving (hkind : kind ≤ 2) (hn : n < sliceCount kind) (hleave : (s.sliceE kind n).leaving = true) :
    exec (.drainZero kind n) s = .next (if (s.gather kind n).drain kind n = 0 ∧
      (63 < ((s.gather kind n).sliceE kind n).dest ∨ (s.gather kind n).epochRoom ((s.gather kind n).sliceE kind n).dest 1 = true) then
        (s.gather kind n).flip kind n else s.gather kind n) := by
  have hgo : ¬ (¬ (s.sliceE kind n).leaving = true ∨ sliceCount kind ≤ n ∨ 2 < kind) := by
    simp [hleave, Nat.not_le.mpr hn, Nat.not_lt.mpr hkind]
  exact if_neg hgo

theorem State.countedOffers_link (s : State) (n : Nat) : s.countedOffers 2 n = [] := by simp [State.countedOffers]

theorem State.gather_link (s : State) (n : Nat) : s.gather 2 n = s := rfl

/-- A departing stitch link whose limit has passed loses what is on its way. -/
theorem exec_drainLimitExpiry_link (hn : n < 12) (hleave : (s.linkSlice n).leaving = true) (hdrain : s.drain 2 n ≠ 0)
    (hover : (s.linkSlice n).started + s.drainLim (s.linkSlice n).owner ≤ s.hubCount) :
    exec (.drainLimitExpiry 2 n) s = .next (((((((s.loseReqs (s.countedReqs 2 n)).setLinkSlice n
      { (s.loseReqs (s.countedReqs 2 n)).linkSlice n with st := .quarantined, dest := 0x3F, queue := none }).rebind 2 n 1 (s.linkSlice n).owner 0x3F
        (s.linkSlice n).epochOut 0 (s.countedReqs 2 n).length
        ((s.countedReqs 2 n).filterMap (fun i => (s.req? i).map (fun (q : Req) => q.ctx))).head? (s.linkSlice n).started).capChange).endFor
      (s.linkSlice n).queue 0).destroyCheck (s.linkSlice n).owner)) := by
  have hgo : ¬ (¬ (s.sliceE 2 n).leaving = true ∨ sliceCount 2 ≤ n ∨ 2 < 2 ∨ s.hubCount < (s.sliceE 2 n).started + s.drainLim (s.sliceE 2 n).owner) := by
    simp [State.sliceE, sliceCount, hleave, hn, hover]
  refine (if_neg hgo).trans ?_
  simp only [State.gather_link, if_neg hdrain, State.countedOffers_link]
  simp [State.sliceE, State.setSliceE, foldS]

theorem exec_drainLimitExpiry_before (h : s.hubCount < (s.sliceE kind n).started + s.drainLim (s.sliceE kind n).owner) :
    exec (.drainLimitExpiry kind n) s = .next s :=
  if_pos (Or.inr (Or.inr (Or.inr h)))

theorem exec_scrubComplete_pool (hst : (s.memSlice n).st = .transit) (hscrub : (s.memSlice n).scrub = true) (hdest : (s.memSlice n).dest = 0x3F) :
    exec (.scrubComplete n) s = .next ((((s.wipeSlice n).setHome n {}).setMemSlice n
      { serve := if (s.memSlice n).serve.isSome then (s.memSlice n).serve else (s.memSlice n).keep }).capChange) := by
  simp only [exec_eq_scrubComplete, execScrubComplete, hst, hscrub, hdest]
  simp

theorem exec_confSliceInit_alone (hinit : (s.memSlice n).init = true) (hq : (s.memSlice n).queue = none) :
    exec (.confSliceInitComplete n) s = .next (((s.wipeSlice n).setMemSlice n { s.memSlice n with init := false }).joinDone 1 n (s.memSlice n).dest
      none (s.memSlice n).started) := by
  simp only [exec_eq_confSliceInitComplete, execConfSliceInitComplete, hinit, hq]
  simp

end Rebinding

/-- The destination of a move with the source's contents and frames, under a new epoch of the folio (R445). -/
def State.moveCopied (s : State) (n y : Nat) : State :=
  (((s.gather 1 n).copySlice n y).setFrames y (fun i => ((s.gather 1 n).copySlice n y).frame n i)).bumpEpoch (s.memSlice n).owner

/-- The two slices of a move after it: the destination has the owner and the position, the source departs. -/
def State.moveRebound (s : State) (n y : Nat) : State :=
  (((((s.moveCopied n y).setMemSlice y { st := .owned, owner := (s.memSlice n).owner, serve := (s.memSlice n).serve }).setMemSlice n
    { s.memSlice n with st := .transit, dest := 0x3F, epochOut := ((s.moveCopied n y).folio (s.memSlice n).owner).epoch, moveTo := none, queue := none,
                        started := s.hubCount, moved := (s.memSlice n).serve,
                        serve := if (s.memSlice y).serve.isSome then (s.memSlice y).serve else (s.memSlice y).keep }).clearLat y).rebind 1 y 2 0x3F
      (s.memSlice n).owner 0 ((s.moveCopied n y).folio (s.memSlice n).owner).epoch 0 none (s.memSlice n).started).endWatches n (s.memSlice n).owner

theorem exec_sliceMoveCopyComplete_empty {s : State} {n y : Nat} (hto : (s.memSlice n).moveTo = some y) (hown : (s.memSlice n).st = .owned)
    (hfrom : (s.memSlice y).moveFrom = some n) (hroom : s.epochRoom (s.memSlice n).owner 1 = true) (htxns : ((s.gather 1 n).home n).txns = [])
    (hdir : ((s.gather 1 n).home n).dir = []) :
    exec (.sliceMoveCopyComplete n) s =
      .next (((s.moveRebound n y).awaitEpoch (s.memSlice n).owner (s.memSlice n).queue).capChange) := by
  simp only [exec_eq_sliceMoveCopyComplete, execSliceMoveCopyComplete, hto, hown, hfrom, hroom, htxns, hdir]
  simp only [ne_eq, not_true_eq_false, or_self, if_false]
  rfl

/-- Settles O32. -/
theorem rebindingCompletes : Obligations.RebindingCompletes := by
  refine ⟨?epoch, ?flip, ?waits, fun _ _ hn hleave hdrain hover => ⟨_, _, _, exec_drainLimitExpiry_link hn hleave hdrain hover, rfl, rfl, rfl⟩,
    fun _ _ _ h => exec_drainLimitExpiry_before h, ?scrub, fun _ _ hinit hq => exec_confSliceInit_alone hinit hq, ?move⟩
  case epoch =>
    intro s f
    exact ⟨_, rfl, rfl, by rw [State.epochInForce_folio], by rw [State.epochInForce_folio]⟩
  case flip =>
    intro s kind n hkind hn hleave hzero hroom
    exact (exec_drainZero_leaving hkind hn hleave).trans (by rw [if_pos ⟨hzero, hroom⟩])
  case waits =>
    intro s kind n hkind hn hleave hsome
    exact (exec_drainZero_leaving hkind hn hleave).trans (by rw [if_neg (fun h => hsome h.1)])
  case scrub =>
    intro s n hst hscrub hdest _
    refine ⟨_, exec_scrubComplete_pool hst hscrub hdest, by simp [State.capChange, State.memSlice, State.setMemSlice], fun o ho => ?_, fun a ha => ?_⟩
    · have hin : slicePa n 0 ≤ slicePa n o ∧ slicePa n o < slicePa n 0 + 2 ^ 33 := by unfold slicePa; omega
      simp only [State.capChange, State.setMemSlice_hbm, State.setHome_hbm, State.wipeSlice, mbyte_mzero, if_pos hin]
    · have hout : ¬ (slicePa n 0 ≤ a ∧ a < slicePa n 0 + 2 ^ 33) := by omega
      simp only [State.capChange, State.setMemSlice_hbm, State.setHome_hbm, State.wipeSlice, mbyte_mzero, if_neg hout]
  case move =>
    intro s n y hto hown hfrom hroom htxns hdir
    exact ⟨s.moveCopied n y, s.moveRebound n y, _, exec_sliceMoveCopyComplete_empty hto hown hfrom hroom htxns hdir, rfl, rfl, fun _ => rfl⟩

end Sys2Proof.Machine

namespace Sys2Proof.Machine

/-! ## Protection sets, lost peers and the queries of the composition (R438-R447) -/

section SetCommands

variable {s s1 s2 : State} {q : Nat} {x : Queue} {c : Cmd} {b : Bytes}

theorem exec_setProtect_form {op : Nat} (h : TakenBlock s q 0x36 x c s2 b) (hop : op = fieldLe b 0 1)
    (hkind : (op = 1 ∧ fieldLe b 1 1 = 2) ∨ (op = 2 ∧ fieldLe b 1 1 = 5))
    (hids : (List.range (fieldLe b 1 1)).any (fun i => decide (2 ^ 22 ≤ fieldLe b (8 + 8 * i) 8)) = false)
    (hok : s2.setBad op (setMembers b (fieldLe b 1 1)) = none) :
    exec (.setProtect q) s = .next ((s2.formSet op (setMembers b (fieldLe b 1 1))).cmdDone q 0 0) := by
  simp only [exec_eq_setProtect, execSetProtect, runCmd_block h, ← hop, hids, hok]
  rcases hkind with ⟨rfl, hn⟩ | ⟨rfl, hn⟩ <;> simp [hn]

theorem exec_setProtect_dissolve {p : ProtSet} (h : TakenBlock s q 0x36 x c s2 b) (hop : fieldLe b 0 1 = 0)
    (hn : fieldLe b 1 1 = 2 ∨ fieldLe b 1 1 = 5)
    (hids : (List.range (fieldLe b 1 1)).any (fun i => decide (2 ^ 22 ≤ fieldLe b (8 + 8 * i) 8)) = false)
    (hfind : s2.prots.find? (fun z => z.members == setMembers b (fieldLe b 1 1)) = some p) :
    exec (.setProtect q) s = .next ((s2.dissolve p).cmdDone q 0 0) := by
  have hcount : ¬ (fieldLe b 1 1 ≠ 2 ∧ fieldLe b 1 1 ≠ 5) := by omega
  simp only [exec_eq_setProtect, execSetProtect, runCmd_block h, hop, hids, hfind, if_neg hcount]
  rfl

theorem exec_peerSet_good (h : Taken s q 0x37 x c s1) (hi : c.arg 0x28 1 ≤ 14) (hv : c.arg 0x30 8 < 2 ^ 32) (hres : bits (c.arg 0x30 8) 28 3 = 0)
    (hlinks : (maskBits (bits (c.arg 0x30 8) 16 12 ||| s1.peerLinks (c.arg 0x28 1)) 12).any
      (fun l => ((s1.linkSlice l).st == .owned && (s1.linkSlice l).owner != 0) || (s1.linkSlice l).shared.any (fun f => f != 0)) = false)
    (hbusy : s1.peerBusy (c.arg 0x28 1) = false) :
    exec (.peerSet q) s =
      .next (({ s1.setReg (rPeer (c.arg 0x28 1)) (c.arg 0x30 8) with peerLost := tdel (c.arg 0x28 1) s1.peerLost }).capChange.cmdDone q 0 0) := by
  have hval : ¬ (2 ^ 32 ≤ c.arg 0x30 8 ∨ bits (c.arg 0x30 8) 28 3 ≠ 0) := by omega
  simp only [exec_eq_peerSet, execPeerSet, runCmd_taken h, if_neg (Nat.not_lt.mpr hi), if_neg hval, hlinks, hbusy, Bool.false_eq_true, or_self, if_false]

theorem peerSet_sets (h : Taken s q 0x37 x c s1) (hi : c.arg 0x28 1 ≤ 14) (hv : c.arg 0x30 8 < 2 ^ 32) (hres : bits (c.arg 0x30 8) 28 3 = 0)
    (hlinks : (maskBits (bits (c.arg 0x30 8) 16 12 ||| s1.peerLinks (c.arg 0x28 1)) 12).any
      (fun l => ((s1.linkSlice l).st == .owned && (s1.linkSlice l).owner != 0) || (s1.linkSlice l).shared.any (fun f => f != 0)) = false)
    (hbusy : s1.peerBusy (c.arg 0x28 1) = false) :
    ∃ t, exec (.peerSet q) s = .next t ∧ t.reg (rPeer (c.arg 0x28 1)) = c.arg 0x30 8 ∧ tget (c.arg 0x28 1) t.peerLost = none := by
  have hfit : c.arg 0x30 8 % 2 ^ 64 = c.arg 0x30 8 := Nat.mod_eq_of_lt (by omega)
  refine ⟨_, exec_peerSet_good h hi hv hres hlinks hbusy, ?_, ?_⟩
  · rw [State.cmdDone_at_reg]
    exact (State.reg_setReg_self (s := s1) _ _).trans hfit
  · rw [State.cmdDone_peerLost]
    exact tget_tdel_self ..

theorem linkShare_replaces (h : Taken s q 0x38 x c s1) (hl : c.arg 0x28 1 ≤ 11) (hst : (s1.linkSlice (c.arg 0x28 1)).st = .owned)
    (howner : (s1.linkSlice (c.arg 0x28 1)).owner = 0) (hconf : (maskBits (c.arg 0x30 8) 64).any s1.isConf = false) :
    ∃ t, exec (.linkShare q) s = .next t ∧
      t.linkSlice (c.arg 0x28 1) = { s1.linkSlice (c.arg 0x28 1) with shared := maskBits (c.arg 0x30 8) 64 } := by
  have hgo : ¬ (¬ ((s1.linkSlice (c.arg 0x28 1)).st = .owned ∧ (s1.linkSlice (c.arg 0x28 1)).owner = 0) ∨
      (maskBits (c.arg 0x30 8) 64).any s1.isConf = true) := by
    rw [hconf]
    exact fun hbad => hbad.elim (fun hnot => hnot ⟨hst, howner⟩) Bool.false_ne_true
  refine ⟨(s1.setLinkSlice (c.arg 0x28 1) { s1.linkSlice (c.arg 0x28 1) with shared := maskBits (c.arg 0x30 8) 64 }).capChange.cmdDone q 0 0, ?_, ?_⟩
  · simp only [exec_eq_linkShare, execLinkShare, runCmd_taken h, if_neg (Nat.not_lt.mpr hl), if_neg hgo]
  · rw [State.cmdDone_at_linkSlice]
    exact State.linkSlice_setLinkSlice_self (s := s1) _ _

theorem exec_folioQuery_good (h : Taken s q 0x39 x c s1) (hf : c.arg 0x28 1 ≤ 63)
    (hwrite : s1.hubWrite x.ctx (c.arg 0x30 8) (s1.folioRecord (c.arg 0x28 1)) = (true, s2)) :
    exec (.folioQuery q) s = .next (s2.cmdDone q 0 0) := by
  simp only [exec_eq_folioQuery, execFolioQuery, runCmd_taken h, if_neg (Nat.not_lt.mpr hf), hwrite]

theorem folioRing_names {e : EvRing} (h : Taken s q 0x3A x c s1) (hpos : 0 < c.arg 0x28 1) (hf : c.arg 0x28 1 ≤ 63)
    (hvalid : (s1.folio (c.arg 0x28 1)).valid = true) (hrpos : 0 < c.arg 0x2A 2) (hr : c.arg 0x2A 2 ≤ 1023)
    (hring : tget (c.arg 0x2A 2) s1.evrings = some e) (howner : e.folio = c.arg 0x28 1) :
    ∃ t, exec (.folioRing q) s = .next t ∧ t.folio (c.arg 0x28 1) = { s1.folio (c.arg 0x28 1) with evring := c.arg 0x2A 2 } := by
  have hbad : s1.folioBad (c.arg 0x28 1) 0x28 = none := by simp [State.folioBad, Nat.not_lt.mpr hf, hvalid]
  refine ⟨(s1.setFolio (c.arg 0x28 1) { s1.folio (c.arg 0x28 1) with evring := c.arg 0x2A 2 }).cmdDone q 0 0, ?_, ?_⟩
  · simp only [exec_eq_folioRing, execFolioRing, runCmd_taken h, if_neg (Nat.ne_of_gt hpos), hbad, if_neg (Nat.not_lt.mpr hr), if_neg (Nat.ne_of_gt hrpos),
      hring, if_pos howner]
  · rw [State.cmdDone_at_folio]
    exact State.folio_setFolio_self ..

end SetCommands

section Losses

variable {s : State} {p : ProtSet}

theorem exec_mirrorMemberLoss_whole {n : Nat} (h : s.wholeSet n 2 = some p) :
    exec (.mirrorMemberLoss n) s = .next ((s.abandonFor n).mirrorLoss p n) := by
  simp only [exec_eq_mirrorMemberLoss, execMirrorMemberLoss, h]

theorem exec_codedMemberLoss_whole {n : Nat} (h : s.wholeSet n 5 = some p) : exec (.codedMemberLoss n) s = .next (s.codedLoss p n) := by
  simp only [exec_eq_codedMemberLoss, execCodedMemberLoss, h]

/-- The survivor of a local pair takes over what the lost primary served (R441). -/
theorem mirrorLoss_primary {a n : Nat} (hmem : p.members = [(0, a), (0, n)]) (hne : a ≠ n) :
    s.mirrorLoss p a = ((s.putSet p { p with lost := [a] }).takeOver a n).moveSifts a n := by
  simp only [State.mirrorLoss, hmem, hne, and_false, if_false, if_true]

/-- The state of SECOND_LOSS before folio 0 is left: the local members that the set has lost, their data gone, and what the loss resets (R444). -/
def State.secondLost (s s1 : State) (p : ProtSet) (n : Nat) : State :=
  ((foldS (n :: p.lost.filter (fun k => p.members.contains (0, k))) s1 (fun st k => st.setMemSlice k { st.memSlice k with dieLost := true })).endSifts n 0x11).resetForLoss
    (s.memSlice n).owner 2 (n :: p.lost.filter (fun k => p.members.contains (0, k)))

theorem exec_secondLoss_further {n : Nat} (hset : s.setOf n = some p) (hlost : p.lost ≠ []) (hnew : p.lost.contains n = false) :
    exec (.secondLoss n) s =
      .next (let s2 := s.secondLost ((s.putSet p { p with lost := n :: p.lost, pos := none }).loseMember n (s.memSlice n).serve) p n
        if (s.memSlice n).owner = 0 then s2.folio0Left else s2) := by
  simp only [exec_eq_secondLoss, execSecondLoss, hset, hlost, hnew, Bool.false_eq_true, or_self, if_false]
  rfl

theorem stitchLinkIdle_notes {i : Nat} (hi : i ≤ 14) (hvalid : s.peerValid i = true) (hgone : s.peerGone i = false) :
    ∃ t, exec (.stitchLinkIdle i) s = .next t ∧ tget i t.peerLost = some s.hubCount := by
  have hgo : ¬ (¬ s.peerValid i = true ∨ s.peerGone i = true ∨ 14 < i) := by
    rw [hvalid, hgone]
    simpa using hi
  refine ⟨_, if_neg hgo, ?_⟩
  exact tget_tput_self ..

theorem exec_peerLossDrainExpiry_early {i f h : Nat} (hlost : tget i s.peerLost = some h) (htime : s.hubCount < h + s.drainLim f) :
    exec (.peerLossDrainExpiry i f) s = .next s := by
  simp only [exec_eq_peerLossDrainExpiry, execPeerLossDrainExpiry, hlost, if_pos htime]
  rfl

theorem exec_peerLossDrainExpiry_past {i f h : Nat} (hlost : tget i s.peerLost = some h) (htime : h + s.drainLim f ≤ s.hubCount)
    (hreqs : s.reqs = []) (hguest : (s.folio f).guest = false) :
    exec (.peerLossDrainExpiry i f) s = .next (s.partnerLoss (s.fld (rPeer i) 0 16) f) := by
  simp only [exec_eq_peerLossDrainExpiry, execPeerLossDrainExpiry, hlost, if_neg (Nat.not_lt.mpr htime), hreqs, List.filter_nil, foldS, List.foldl_nil, hguest, Bool.false_eq_true,
    false_and, if_false]

end Losses

/-- Settles O33: the commands on sets, peers, links and folios by the equation of each with its arguments in range, the losses by
the set that the member is found in. -/
theorem protectionPeersAndQueries : Obligations.ProtectionPeersAndQueries := by
  refine ⟨fun s s2 q x c b op h hop hkind hids hok => exec_setProtect_form h hop hkind hids hok,
    fun s s2 q x c b p h hop hn hids hfind => exec_setProtect_dissolve h hop hn hids hfind,
    fun s n p h => exec_mirrorMemberLoss_whole h, fun s n p h => exec_codedMemberLoss_whole h,
    fun s p a n hmem hne => mirrorLoss_primary hmem hne, ?_,
    fun s i hi hvalid hgone => stitchLinkIdle_notes hi hvalid hgone,
    fun s i f h hlost htime => exec_peerLossDrainExpiry_early hlost htime,
    fun s i f h hlost htime hreqs hguest => exec_peerLossDrainExpiry_past hlost htime hreqs hguest,
    fun s s1 q x c h hi hv hres hlinks hbusy => peerSet_sets h hi hv hres hlinks hbusy,
    fun s s1 q x c h hl hst howner hconf => linkShare_replaces h hl hst howner hconf,
    fun s s1 s2 q x c h hf hwrite => exec_folioQuery_good h hf hwrite,
    fun s s1 q x c e h hpos hf hvalid hrpos hr hring howner => folioRing_names h hpos hf hvalid hrpos hr hring howner⟩
  intro s n p hset hlost hnew
  exact ⟨_, _, exec_secondLoss_further hset hlost hnew, rfl, rfl⟩

end Sys2Proof.Machine

namespace Sys2Proof.Machine

/-! ## Packets that arrive over stitch links (R332, R434-R440), and the links themselves (R436, R648) -/

namespace State

variable (s : State)

theorem send_hbm (p : Packet) : (s.send p).hbm = s.hbm := by
  unfold State.send
  dsimp only
  split <;> rfl

theorem send_host (p : Packet) : (s.send p).host = s.host := by
  unfold State.send
  dsimp only
  split <;> rfl

theorem answerPacket_hbm (l : Nat) (h : Bytes) (status : Nat) (d : Bytes) : (s.answerPacket l h status d).hbm = s.hbm := by
  simp only [State.answerPacket, send_hbm]

theorem answerPacket_host (l : Nat) (h : Bytes) (status : Nat) (d : Bytes) : (s.answerPacket l h status d).host = s.host := by
  simp only [State.answerPacket, send_host]

/-- With no packet waiting, sending what waits leaves the link as it is. -/
theorem sendWaiting_none {l : Nat} (h : (s.stitch l).waiting = []) : s.sendWaiting l = s.setStitch l (s.stitch l) := by
  simp only [State.sendWaiting, h, foldS, List.foldl_nil]
  rw [← h]

theorem sendWaiting_setStitch {l : Nat} {v : Link} (h : v.waiting = []) :
    (s.setStitch l v).sendWaiting l = (s.setStitch l v).setStitch l v := by
  rw [sendWaiting_none _ (by rw [stitch_setStitch_self]; exact h), stitch_setStitch_self]

end State

section Packets

variable {s : State} {l : Nat} {h : Bytes}

/-- A packet of the row's type over an up link, with an entry free for a request. -/
theorem State.onPacket_taken {ty : Nat} (hup : (s.stitch l).up = true) (hty : hTy h = ty) (hl : l < 12) (hpool : ty ≤ 6 → 0 < (s.stitch l).reqPool)
    (go : State → State) : s.onPacket l ty h go = .next (go s) :=
  if_pos ⟨hup, hty, hl, hpool⟩

/-- The request that a packet of a guest folio makes. -/
def State.guestAsk (s : State) (l g : Nat) (h d : Bytes) (kind : ReqKind) (n : Nat) (atomic : Bool) : Req :=
  { kind, issuer := .stitch l (hTag h), ctx := hCtx h, folio := g, epoch := (s.folio g).epoch, qos := hQos h, pa := hAddr h, len := n,
    data := d, atomic }

theorem State.guestReq_none (hg : s.guestFor l (hFolio h) = none) (d : Bytes) (kind : ReqKind) (n : Nat) (atomic : Bool) :
    s.guestReq l h d kind n atomic = s.answerPacket l h 1 [] := by
  simp only [State.guestReq, hg]

theorem State.guestReq_some {g : Nat} (hg : s.guestFor l (hFolio h) = some g) (d : Bytes) (kind : ReqKind) (n : Nat) (atomic : Bool) :
    s.guestReq l h d kind n atomic = (s.takeEntryOf l).addReq (s.guestAsk l g h d kind n atomic) := by
  simp only [State.guestReq, hg]
  rfl

/-- A guest's request stands at the next identity, in the form that its packet gives; its link has one entry less. -/
theorem State.guestReq_adds {g : Nat} (hg : s.guestFor l (hFolio h) = some g) (d : Bytes) (kind : ReqKind) (n : Nat) (atomic : Bool) :
    (s.guestReq l h d kind n atomic).req? s.nextId = some { s.guestAsk l g h d kind n atomic with born := s.hubCount } ∧
    ((s.guestReq l h d kind n atomic).stitch l).reqPool = (s.stitch l).reqPool - 1 ∧ SameMemory s (s.guestReq l h d kind n atomic) := by
  rw [State.guestReq_some hg]
  refine ⟨tget_tput_self .., ?_, rfl, rfl, rfl, rfl⟩
  rw [State.stitch_addReq, State.takeEntryOf, State.stitch_setStitch_self]

/-- A request of a pair that has no guest folio here is answered with status 1. -/
theorem exec_stitch_refused {d : Bytes} {k : Nat} {c : Instr}
    (hc : (k, c) ∈ [(1, Instr.stitchRead l h d), (2, .stitchWrite l h d), (3, .stitchAtomic l h d), (4, .stitchFenceOffer l h d), (6, .stitchMirrorWrite l h d)])
    (hup : (s.stitch l).up = true) (hty : hTy h = k) (hl : l < 12) (hpool : 0 < (s.stitch l).reqPool) (hg : s.guestFor l (hFolio h) = none) :
    exec c s = .next (s.answerPacket l h 1 []) := by
  simp only [List.mem_cons, Prod.mk.injEq, List.not_mem_nil, or_false] at hc
  have hgo := fun go => State.onPacket_taken hup hty hl (fun _ => hpool) go
  rcases hc with ⟨rfl, rfl⟩ | ⟨rfl, rfl⟩ | ⟨rfl, rfl⟩ | ⟨rfl, rfl⟩ | ⟨rfl, rfl⟩
  case inl => simp only [exec_eq_stitchRead, execStitchRead, hgo, State.guestReq_none hg]
  case inr.inl => simp only [exec_eq_stitchWrite, execStitchWrite, hgo, State.guestReq_none hg]
  case inr.inr.inl => simp only [exec_eq_stitchAtomic, execStitchAtomic, hgo, State.guestReq_none hg]
  case inr.inr.inr.inl => simp only [exec_eq_stitchFenceOffer, execStitchFenceOffer, hgo, hg]
  case inr.inr.inr.inr => simp only [exec_eq_stitchMirrorWrite, execStitchMirrorWrite, hgo, hg]

theorem exec_stitchFenceOffer_admitted {d : Bytes} {g : Nat} (hup : (s.stitch l).up = true) (hty : hTy h = 4) (hl : l < 12)
    (hpool : 0 < (s.stitch l).reqPool) (hg : s.guestFor l (hFolio h) = some g) (hadm : s.admitsFolio g (s.folio g).epoch (hAddr h) true = true) :
    exec (.stitchFenceOffer l h d) s = .next ((s.offerWord (hAddr h) (BitVec.ofNat 32 (fieldLe d 0 4))).2.2.answerPacket l h
      (stitchStatus (s.offerWord (hAddr h) (BitVec.ofNat 32 (fieldLe d 0 4))).1) []) := by
  simp only [exec_eq_stitchFenceOffer, execStitchFenceOffer, State.onPacket_taken hup hty hl (fun _ => hpool), hg, hadm, if_true]

/-- A mirror write from the partner writes the lent slice and no other byte. -/
theorem stitchMirrorWrite_writes {d : Bytes} {g : Nat} (hup : (s.stitch l).up = true) (hty : hTy h = 6) (hl : l < 12)
    (hpool : 0 < (s.stitch l).reqPool) (hg : s.guestFor l (hFolio h) = some g) (hst : (s.memSlice (hAddr h / 2 ^ 33)).st = .owned)
    (howner : (s.memSlice (hAddr h / 2 ^ 33)).owner = g) :
    ∃ t, exec (.stitchMirrorWrite l h d) s = .next t ∧
      t.hbm = mwrite s.hbm (slicePa (hAddr h / 2 ^ 33) (hAddr h % 2 ^ 33)) d ∧ t.host = s.host ∧
      ∀ a, (a < slicePa (hAddr h / 2 ^ 33) (hAddr h % 2 ^ 33) ∨ slicePa (hAddr h / 2 ^ 33) (hAddr h % 2 ^ 33) + d.length ≤ a) →
        mbyte t.hbm a = mbyte s.hbm a := by
  refine ⟨({ s with hbm := mwrite s.hbm (slicePa (hAddr h / 2 ^ 33) (hAddr h % 2 ^ 33)) d }).answerPacket l h 0 [], ?_, ?_, ?_, ?_⟩
  · simp only [exec_eq_stitchMirrorWrite, execStitchMirrorWrite, State.onPacket_taken hup hty hl (fun _ => hpool), hg, hst, howner, and_self, if_true]
  · exact State.answerPacket_hbm ..
  · exact State.answerPacket_host ..
  · intro a ha
    rw [State.answerPacket_hbm]
    exact mbyte_mwrite_out ha

theorem stitchCreditReturn_raises {d : Bytes} (hup : (s.stitch l).up = true) (hty : hTy h = 0x0A) (hl : l < 12)
    (hlow : (s.stitch l).reqCredit < 256) (hnone : (s.stitch l).waiting = []) :
    ∃ t, exec (.stitchCreditReturn l h d) s = .next t ∧ (t.stitch l).reqCredit = (s.stitch l).reqCredit + 1 ∧
      (t.stitch l).cplCredit = (s.stitch l).cplCredit ∧ ∀ k, k ≠ l → t.stitch k = s.stitch k := by
  refine ⟨(s.setStitch l { s.stitch l with reqCredit := (s.stitch l).reqCredit + 1 }).sendWaiting l, ?_, ?_⟩
  · simp only [exec_eq_stitchCreditReturn, execStitchCreditReturn, State.onPacket_taken hup hty hl (fun hle => absurd hle (by decide)), hlow, if_true]
  · rw [State.sendWaiting_setStitch s (v := { s.stitch l with reqCredit := (s.stitch l).reqCredit + 1 }) hnone]
    refine ⟨?_, ?_, ?_⟩
    · rw [State.stitch_setStitch_self]
    · rw [State.stitch_setStitch_self]
    · intro k hk
      rw [State.stitch_setStitch_ne (h := hk), State.stitch_setStitch_ne (h := hk)]

end Packets

section Links

variable {s : State} {l : Nat}

theorem stitchDiscard_counts {h d : Bytes} (hup : (s.stitch l).up = true) (hl : l < 12) (htype : knownType (hTy h) = false) :
    ∃ t, exec (.stitchDiscard l h d) s = .next t ∧ OnlyRegs s t ∧ t.fld (rStc l) 32 16 = min (2 ^ 16 - 1) (s.fld (rStc l) 32 16 + 1) :=
  ⟨s.bumpFld (rStc l) 32 16 1, by simp [exec_eq_stitchDiscard, execStitchDiscard, hup, hl, htype], onlyRegs_setReg .., State.fld_bumpFld_self _ (by decide) _⟩

theorem stitchLinkReinit_downs (hup : (s.stitch l).up = true) (hl : l < 12) :
    ∃ t, exec (.stitchLinkReinit l) s = .next t ∧ (t.stitch l).up = false ∧ t.fld (rStc l) 8 8 = min (2 ^ 8 - 1) (s.fld (rStc l) 8 8 + 1) := by
  have hgo : ¬ (¬ (s.stitch l).up = true ∨ 12 ≤ l) := by simp [hup, hl]
  refine ⟨_, if_neg hgo, ?_, ?_⟩
  · exact congrArg Link.up (State.stitch_setStitch_self (s := s) l { s.stitch l with up := false })
  · exact State.fld_bumpFld_self (s.setStitch l { s.stitch l with up := false }) (by decide) 1

/-- A link as it stands after its training: up, with its lanes and its credits at full depth. -/
def Link.trained (x : Link) (lanes : Nat) : Link := { x with up := true, idle := false, lanes := min 8 lanes, reqCredit := 256, cplCredit := 256 }

theorem stitchLinkTrained_ups {lanes : Nat} (hl : l < 12) (hrails : s.clasp.rails = true) (hdie : (s.fabric (l / 6)).failed = false)
    (hnone : (s.stitch l).waiting = []) :
    ∃ t, exec (.stitchLinkTrained l lanes) s = .next t ∧ t.stitch l = (s.stitch l).trained lanes := by
  have hgo : ¬ (12 ≤ l ∨ ¬ s.clasp.rails = true ∨ (s.fabric (l / 6)).failed = true) := by simp [hl, hrails, hdie]
  refine ⟨_, if_neg hgo, ?_⟩
  have hlink : ((s.setStitch l ((s.stitch l).trained lanes)).sendWaiting l).stitch l = (s.stitch l).trained lanes := by
    rw [State.sendWaiting_setStitch s (v := (s.stitch l).trained lanes) hnone, State.stitch_setStitch_self]
  split
  · exact hlink
  · exact hlink

end Links

/-- Settles O34: the requests through `guestReq`, whose request stands at the next identity; the other packets and the links by
the equation of each. -/
theorem stitchPacketsAreServed : Obligations.StitchPacketsAreServed := by
  refine ⟨?read, ?write, ?atomic, fun s l h d k c hc hup hty hl hpool hg => exec_stitch_refused hc hup hty hl hpool hg,
    fun s l h d g hup hty hl hpool hg hadm => exec_stitchFenceOffer_admitted hup hty hl hpool hg hadm, ?barrier,
    fun s l h d g hup hty hl hpool hg hst howner => stitchMirrorWrite_writes hup hty hl hpool hg hst howner, ?data, ?completion,
    fun s l h d hup hty hl hlow hnone => stitchCreditReturn_raises hup hty hl hlow hnone,
    fun s l h d hup hl htype => stitchDiscard_counts hup hl htype, fun s l hup hl => stitchLinkReinit_downs hup hl, ?trained⟩
  case read =>
    intro s l h d g hup hty hl hpool hg
    obtain ⟨hreq, hentry, hmem⟩ := State.guestReq_adds hg d (if hCoh h then .glance else .rawGet) (64 * hLen h) false
    exact ⟨s.guestReq l h d (if hCoh h then .glance else .rawGet) (64 * hLen h) false, _,
      by simp only [exec_eq_stitchRead, execStitchRead, State.onPacket_taken hup hty hl (fun _ => hpool)], hreq, rfl, rfl, rfl, rfl, rfl, rfl, hentry, hmem⟩
  case write =>
    intro s l h d g hup hty hl hpool hg
    obtain ⟨hreq, -, hmem⟩ := State.guestReq_adds hg d (if hCoh h then .putHome else .rawPut) d.length false
    exact ⟨s.guestReq l h d (if hCoh h then .putHome else .rawPut) d.length false, _,
      by simp only [exec_eq_stitchWrite, execStitchWrite, State.onPacket_taken hup hty hl (fun _ => hpool)], hreq, rfl, rfl, rfl, rfl, rfl, rfl, hmem⟩
  case atomic =>
    intro s l h d g hup hty hl hpool hg
    obtain ⟨hreq, -, hmem⟩ := State.guestReq_adds hg d .putHome (fieldLe d 1 1) true
    exact ⟨s.guestReq l h d .putHome (fieldLe d 1 1) true, _,
      by simp only [exec_eq_stitchAtomic, execStitchAtomic, State.onPacket_taken hup hty hl (fun _ => hpool)], hreq, rfl, rfl, rfl, rfl, hmem⟩
  case barrier =>
    intro s l h d hup hty hl hpool
    simp only [exec_eq_stitchBarrier, execStitchBarrier, State.onPacket_taken hup hty hl (fun _ => hpool)]
  case data =>
    intro s l h d hup hty hl
    simp only [exec_eq_stitchCompletionData, execStitchCompletionData, State.onPacket_taken hup hty hl (fun hle => absurd hle (by decide))]
  case completion =>
    intro s l h d hup hty hl
    simp only [exec_eq_stitchCompletion, execStitchCompletion, State.onPacket_taken hup hty hl (fun hle => absurd hle (by decide)), List.take_zero]
  case trained =>
    intro s l k hl hrails hdie hnone
    obtain ⟨t, hexec, hlink⟩ := stitchLinkTrained_ups (lanes := k) hl hrails hdie hnone
    exact ⟨t, hexec, by rw [hlink]; rfl, by rw [hlink]; rfl, by rw [hlink]; rfl, by rw [hlink]; rfl, by rw [hlink]; rfl⟩

end Sys2Proof.Machine

namespace Sys2Proof.Machine

/-! ## A die that fails, unit errors and the books (R46-R52, R594, R605) -/

section Dies

variable {s : State} {d : Nat}

/-- A die that is not there, is dark or has failed already cannot fail. -/
theorem State.dieFail_none (h : 1 < d ∨ s.clasp.rails = false ∨ (s.fabric d).failed = true) (k : Nat) : s.dieFail d k = s := by
  have hnone : 1 < d ∨ ¬ s.clasp.rails = true ∨ (s.fabric d).failed = true := by simpa using h
  exact if_pos hnone

/-- A die that fails during a reset leaves its record and is gated, no more (R46). -/
theorem State.dieFail_inReset (hd : d ≤ 1) (hrails : s.clasp.rails = true) (hup : (s.fabric d).failed = false) (hreset : s.clasp.inReset = true)
    (k : Nat) : s.dieFail d k = (s.hwError 18 10 k d 0 0x3F 0xFFFF).gateDie d := by
  have hgo : ¬ (1 < d ∨ ¬ s.clasp.rails = true ∨ (s.fabric d).failed = true) := by simp [hd, hrails, hup]
  exact (if_neg hgo).trans (if_pos hreset)

/-- One region of a gated die goes dark. -/
def State.darken (s : State) (i : Nat) : State :=
  s.setRegion i { s.region i with powered := false, setMhz := 0, target := none, railUp := false, droop := false }

theorem State.darken_self (i : Nat) : ((s.darken i).region i).powered = false := by
  rw [State.darken, State.region_setRegion_self]

theorem State.darken_keeps {i j : Nat} (h : (s.region j).powered = false) : ((s.darken i).region j).powered = false := by
  by_cases hij : j = i
  · rw [hij]
    exact State.darken_self i
  · rw [State.darken, State.region_setRegion_ne (h := hij)]
    exact h

theorem State.darken_all (l : List Nat) (i : Nat) (h : i ∈ l ∨ (s.region i).powered = false) :
    ((foldS l s State.darken).region i).powered = false := by
  induction l generalizing s with
  | nil => exact h.resolve_left (List.not_mem_nil)
  | cons j t ih =>
    refine ih ?_
    rcases h with hmem | hdark
    · rcases List.mem_cons.mp hmem with rfl | hin
      · exact Or.inr (State.darken_self _)
      · exact Or.inl hin
    · exact Or.inr (State.darken_keeps hdark)

/-- A die whose fabric has failed and whose regions are dark. -/
def State.darkDie (s : State) (d : Nat) : State :=
  foldS (List.range 8) (s.setFabric d { s.fabric d with running := false, failed := true }) (fun st k => st.darken (8 * d + k))

theorem State.gateDie_fabrics : (s.gateDie d).fabrics = (s.darkDie d).fabrics := by
  simp only [State.gateDie, State.darkDie, State.darken]

theorem State.gateDie_regions : (s.gateDie d).regions = (s.darkDie d).regions := by
  simp only [State.gateDie, State.darkDie, State.darken]

theorem State.darkDie_fabric : (s.darkDie d).fabric d = { s.fabric d with running := false, failed := true } :=
  foldS_keeps (P := fun t => t.fabric d = { s.fabric d with running := false, failed := true }) (State.fabric_setFabric_self ..) _ _
    (fun _ _ h => h)

theorem State.darkDie_region {k : Nat} (hk : k < 8) : ((s.darkDie d).region (8 * d + k)).powered = false := by
  have hmap : s.darkDie d = foldS ((List.range 8).map (8 * d + ·)) (s.setFabric d { s.fabric d with running := false, failed := true }) State.darken := by
    simp only [State.darkDie, foldS, List.foldl_map]
  rw [hmap]
  exact State.darken_all _ _ (Or.inl (List.mem_map_of_mem (List.mem_range.mpr hk)))

/-- A gated die: its fabric has failed and stands, its regions are dark. -/
theorem State.gateDie_dark {k : Nat} (hk : k < 8) :
    ((s.gateDie d).fabric d).failed = true ∧ ((s.gateDie d).fabric d).running = false ∧ ((s.gateDie d).region (8 * d + k)).powered = false := by
  have hfabric : (s.gateDie d).fabric d = { s.fabric d with running := false, failed := true } := by
    rw [State.fabric, State.gateDie_fabrics]
    exact State.darkDie_fabric
  refine ⟨by rw [hfabric], by rw [hfabric], ?_⟩
  rw [State.region, State.gateDie_regions]
  exact State.darkDie_region hk

theorem exec_railResetTrip {k : Nat} (hk : k ≤ 17) :
    exec (.railResetTrip k) s = .next (s.useFree.dieFail (if k < 16 then k / 8 else k - 16) (s.freeNat % 256)) :=
  if_neg (Nat.not_lt.mpr hk)

end Dies

section UnitErrors

variable {s : State} {u k w a : Nat}

/-- What WHERE says of a unit other than an HBM channel is its location. -/
theorem State.errorWhere_unit (hu : u ≠ 3) : s.errorWhere u w a = w := by
  unfold State.errorWhere
  split
  · exact if_neg (fun h => hu h.1)
  · rfl

/-- The record of an error of a unit other than an HBM channel, and what a fatal one does. -/
theorem exec_unitError {fatal : Bool} (hrails : s.clasp.rails = true) (hu : u ≠ 3) :
    exec (.uncorrectableUnitError u k w a fatal) s =
      .next (let s1 := s.hwError (unitIsland u w) u k w a 0x3F 0xFFFF
        let s3 := if u = 9 ∧ fatal = true then { s1 with link := { s1.link with viral := true } } else s1
        match fatalDie u w with | some d => if fatal = true then s3.dieFail d k else s3 | none => s3) := by
  have hgo : ¬ ¬ s.clasp.rails = true := not_not_intro hrails
  simp only [exec_eq_uncorrectableUnitError, execUncorrectableUnitError, if_neg hgo, State.errorWhere_unit hu, hu, false_and, if_false] <;> rfl

theorem exec_unitError_mild (hrails : s.clasp.rails = true) (hu : u ≠ 3) :
    exec (.uncorrectableUnitError u k w a false) s = .next (s.hwError (unitIsland u w) u k w a 0x3F 0xFFFF) := by
  rw [exec_unitError hrails hu]
  cases fatalDie u w <;> simp

/-- A fatal error of the hub raises Viral (R449). -/
theorem exec_unitError_hub (hrails : s.clasp.rails = true) :
    exec (.uncorrectableUnitError 9 k w a true) s =
      .next { s.hwError 18 9 k w a 0x3F 0xFFFF with link := { (s.hwError 18 9 k w a 0x3F 0xFFFF).link with viral := true } } := by
  have hisland : unitIsland 9 w = 18 := by simp [unitIsland, fabricUnit]
  have hdie : fatalDie 9 w = none := by simp [fatalDie, fabricUnit]
  rw [exec_unitError hrails (by decide), hisland, hdie]
  rfl

/-- A fatal error in a fabric domain fails the die (R46). -/
theorem exec_unitError_fabric (hrails : s.clasp.rails = true) (hu : u ∈ [2, 4, 6, 7, 8]) :
    exec (.uncorrectableUnitError u k w a true) s = .next ((s.hwError (unitIsland u w) u k w a 0x3F 0xFFFF).dieFail (bits w 24 8) k) := by
  have hne : u ≠ 3 ∧ u ≠ 9 := by
    simp only [List.mem_cons, List.not_mem_nil, or_false] at hu
    omega
  have hunit : fabricUnit u = true := by
    simp only [List.mem_cons, List.not_mem_nil, or_false] at hu
    simp only [fabricUnit, List.contains_cons, List.contains_nil, Bool.or_false, Bool.or_eq_true, beq_iff_eq]
    omega
  have hdie : fatalDie u w = some (bits w 24 8) := if_pos hunit
  rw [exec_unitError hrails hne.1, hdie]
  simp only [hne.2, false_and, if_false, if_true]

/-- An error of an HBM channel poisons the line in error, at the channel that its address names (R349, R652). -/
theorem exec_unitError_channel {m : Nat} {x : State} (hrails : s.clasp.rails = true) (ha : a < 2 ^ 39) (hm : s.server (a / 2 ^ 33) = some m)
    (hw : k = m / 4 / 8 * 2 ^ 24 + m / 4 % 8 * 2 ^ 16 + (4 * (m % 4) + a / 256 % 4)) {code : Nat} (hx : x = s.hwError (unitIsland 3 k) 3 code k a 0x3F 0xFFFF) :
    exec (.uncorrectableUnitError 3 code w a false) s = .next { x with poison := sadd (x.physOf (lineOf a)) x.poison } := by
  have hgo : ¬ ¬ s.clasp.rails = true := not_not_intro hrails
  have hwhere : s.errorWhere 3 w a = k := by
    simp only [State.errorWhere, State.channelOf, hm, Option.map_some, ha, and_self, if_true, hw]
  simp only [exec_eq_uncorrectableUnitError, execUncorrectableUnitError, if_neg hgo, hwhere, ha, hm, Option.isSome_some, and_self, ← hx, Bool.false_eq_true, and_false, if_false]
  cases fatalDie 3 k <;> rfl

theorem exec_booksCheck_early (h : s.hubCount < s.booksAt + 1000000) : exec .booksCheck s = .next s :=
  if_pos (Or.inr h)

theorem exec_booksCheck_due (hrails : s.clasp.rails = true) (h : s.booksAt + 1000000 ≤ s.hubCount) :
    exec .booksCheck s =
      .next (if s.booksOk = true then { s with booksAt := s.hubCount } else { s with booksAt := s.hubCount }.hwError 18 9 1 0 0 0x3F 0xFFFF) := by
  have hgo : ¬ (¬ s.clasp.rails = true ∨ s.hubCount < s.booksAt + 1000000) := by simp [hrails, h]
  exact if_neg hgo

end UnitErrors

/-- Settles O35: a die's failure is `dieFail` by definition, whose early branches are stated once; unit errors by the branch of their
unit; the books by their verdict. -/
theorem dieFailuresAndUnitErrors : Obligations.DieFailuresAndUnitErrors := by
  refine ⟨fun s d k => rfl, fun s d k h => congrArg Host.Outcome.next (State.dieFail_none h k),
    fun s d k hd hrails hup hreset => congrArg Host.Outcome.next (State.dieFail_inReset hd hrails hup hreset k),
    fun s d k hk _ => State.gateDie_dark hk, ?core, ?fabric, fun s u k w a hrails hu => exec_unitError_mild hrails hu,
    fun s k w a hrails => exec_unitError_hub hrails, fun s u k w a hrails hu => exec_unitError_fabric hrails hu,
    fun s x k w a m W hrails ha hm hW hx => exec_unitError_channel hrails ha hm hW hx, ?differ, ?agree, fun s h => exec_booksCheck_early h⟩
  case core =>
    intro s k hk
    rw [exec_railResetTrip (by omega), if_pos hk]
  case fabric =>
    intro s k hk
    rw [exec_railResetTrip (by omega), if_neg (by omega)]
  case differ =>
    intro s hrails h hbad
    rw [exec_booksCheck_due hrails h, hbad]
    rfl
  case agree =>
    intro s hrails h hok
    rw [exec_booksCheck_due hrails h, hok]
    rfl

end Sys2Proof.Machine

namespace Sys2Proof.Machine

/-! ## Resets, watchdogs and package standby (R446, R595-R607) -/

section ResetCommands

variable {s s1 : State} {q : Nat} {x : Queue} {c : Cmd}

theorem exec_engineReset_good (h : Taken s q 0x68 x c s1) (hok : s1.engineBad (c.arg 0x28 1) (c.arg 0x2C 4) = none) :
    exec (.engineReset q) s =
      .next ((if c.arg 0x28 1 = 0 then s1.resetCore (engineCore (c.arg 0x2C 4)) 0 else if c.arg 0x28 1 = 1 then s1.resetCopy (c.arg 0x2C 4) 0
        else s1.resetUnit (c.arg 0x2C 4) 0).cmdDone q 0 0) := by
  simp only [exec_eq_engineReset, execEngineReset, runCmd_taken h, hok]

theorem exec_folioReset_zero (h : Taken s q 0x69 x c s1) (hzero : c.arg 0x28 1 = 0) : exec (.folioReset q) s = .next (s1.cmdDone q 0x0A 0) := by
  simp only [exec_eq_folioReset, execFolioReset, runCmd_taken h, if_pos hzero]

theorem exec_folioReset_starts (h : Taken s q 0x69 x c s1) (hne : c.arg 0x28 1 ≠ 0) (hmax : c.arg 0x28 1 ≤ 63)
    (hvalid : (s1.folio (c.arg 0x28 1)).valid = true) :
    exec (.folioReset q) s = .next ((s1.startFolioReset (c.arg 0x28 1) 0 (some q)).setPhase q (.running 0)) := by
  have hbad : s1.folioBad (c.arg 0x28 1) 0x28 = none := by simp [State.folioBad, Nat.not_lt.mpr hmax, hvalid]
  simp only [exec_eq_folioReset, execFolioReset, runCmd_taken h, if_neg hne, hbad]

theorem exec_folioResetDrainExpiry_early {f reason started : Nat} {oq : Option Nat} (hf : (s.folio f).resetting = some (reason, oq, started))
    (htime : s.hubCount < started + 1000000) : exec (.folioResetDrainExpiry f) s = .next s := by
  simp only [exec_eq_folioResetDrainExpiry, execFolioResetDrainExpiry, hf, if_pos htime]
  rfl

theorem exec_folioResetDrainExpiry_past {f reason started : Nat} {oq : Option Nat} (hf : (s.folio f).resetting = some (reason, oq, started))
    (htime : started + 1000000 ≤ s.hubCount) :
    exec (.folioResetDrainExpiry f) s =
      .next (if reason = 1 then (((s.loseFolio f).folioReset f reason started).endFor oq 0).emit (.flrDone f)
        else ((s.loseFolio f).folioReset f reason started).endFor oq 0) := by
  simp only [exec_eq_folioResetDrainExpiry, execFolioResetDrainExpiry, hf, if_neg (Nat.not_lt.mpr htime)]

theorem exec_pkgReset_taken (h : Taken s q 0x6A x c s1) : exec (.pkgReset q) s = .next (s1.pkgReset 0 false) := by
  simp only [exec_eq_pkgReset, execPkgReset, runCmd_taken h]

end ResetCommands

section Watchdogs

variable {s : State}

theorem exec_watchdogAct_past {ctx q : Nat} {y : Context} {a : Activation} (hctx : s.ctx? ctx = some y) (hact : y.act = some a) (hq : a.queue = some q)
    (hrt : y.rt = false) (hms : s.fld rWdogCtl 0 16 ≠ 0) (htime : a.release + 1000000 * s.fld rWdogCtl 0 16 ≤ s.hubCount) :
    exec (.watchdogAct ctx) s = .next ((s.watchdogRec 1 q (s.hubCount - a.release) y.folio ctx).ctxReset ctx 0x0F 2) := by
  have hgo : ¬ (y.rt = true ∨ s.fld rWdogCtl 0 16 = 0 ∨ s.hubCount < a.release + 1000000 * s.fld rWdogCtl 0 16) := by
    simp [hrt, hms, htime]
  cases a
  cases hq
  simp only [exec_eq_watchdogAct, execWatchdogAct, hctx, hact]
  exact if_neg hgo

theorem exec_watchdogCmdwait_past {q : Nat} {x : Queue} (hx : s.queue? q = some x) (hphase : x.phase = .waiting) (hnew : x.waitNoted = false)
    (hms : s.fld rWdogCtl 16 12 ≠ 0) (htime : x.started + 1000000 * s.fld rWdogCtl 16 12 ≤ s.hubCount) :
    exec (.watchdogCmdwait q) s =
      .next ((s.watchdogRec 2 q (s.hubCount - x.started) (s.queueFolio x) x.ctx).setQueue q { x with waitNoted := true }) := by
  have hgo : ¬ (x.phase ≠ .waiting ∨ x.waitNoted = true ∨ s.fld rWdogCtl 16 12 = 0 ∨ s.hubCount < x.started + 1000000 * s.fld rWdogCtl 16 12) := by
    simp [hphase, hnew, hms, htime]
  simp only [exec_eq_watchdogCmdwait, execWatchdogCmdwait, hx]
  exact if_neg hgo

theorem exec_watchdogCore_past {core k : Nat} {x : Slot} (hslot : (k, x) ∈ (s.core core).slots) (hready : s.ready core k x = true)
    (htime : (s.core core).lastRet + 1000 * s.coreUs ≤ s.hubCount) :
    exec (.watchdogCore core) s =
      .next ((s.watchdogRec 3 (engineWord core) (s.hubCount - (s.core core).lastRet) 0x3F 0xFFFF).resetCore core 4) := by
  have hany : (s.core core).slots.any (fun x => s.ready core x.1 x.2) = true := List.any_eq_true.mpr ⟨(k, x), hslot, hready⟩
  have hgo : ¬ (¬ (s.core core).slots.any (fun x => s.ready core x.1 x.2) = true ∨ s.hubCount < (s.core core).lastRet + 1000 * s.coreUs) := by
    simp only [hany, not_true_eq_false, false_or]
    omega
  exact if_neg hgo

theorem exec_watchdogReq_past {id c k : Nat} {q : Req} (hreq : s.req? id = some q) (hst : q.status = none) (hissuer : q.issuer = .scalar c k)
    (hleave : s.toLeaving q = false) (htime : q.born + 1000000 * s.reqMs ≤ s.hubCount) :
    exec (.watchdogReq id) s =
      .next (let s2 := (s.watchdogRec 4 (engineWord c) (s.hubCount - q.born) q.folio q.ctx).finish id q .lost []
        (s2.hwError 18 (s2.freeNat % 11) (s2.useFree.freeNat % 256) (engineWord c) q.pa q.folio q.ctx).useFree.useFree) := by
  have hgo : ¬ (q.status.isSome = true ∨ s.toLeaving q = true ∨ s.hubCount < q.born + 1000000 * s.reqMs) := by
    simp [hst, hleave, htime]
  simp only [exec_eq_watchdogReq, execWatchdogReq, hreq, if_neg hgo, hissuer, issuerTarget]

theorem exec_watchdogMgmt_running (hrails : s.clasp.rails = true) (hboot : s.clasp.boot = .running) :
    exec .watchdogMgmt s = .next ((s.watchdogRec 5 0 100000000 0x3F 0xFFFF).pkgReset 6 false) := by
  have hgo : ¬ (¬ s.clasp.rails = true ∨ s.clasp.boot ≠ .running) := by simp [hrails, hboot]
  exact if_neg hgo

/-- A call for a power cycle stands in the Clasp. -/
theorem State.powerCycle_calls : s.powerCycle.clasp.cycleReq = true := by
  simp [State.powerCycle, State.alert]

theorem watchdogClasp_calls (haux : s.clasp.aux = true) : ∃ t, exec .watchdogClasp s = .next t ∧ t.clasp.cycleReq = true :=
  ⟨_, if_neg (not_not_intro haux), State.powerCycle_calls⟩

theorem exec_watchdogStep (hrails : s.clasp.rails = true) (step n : Nat) :
    exec (.watchdogStep step n) s = .next (((s.watchdogRec 7 (n % 2 ^ 32) s.freeNat 0x3F 0xFFFF).useFree).escalate step n) :=
  if_neg (not_not_intro hrails)

end Watchdogs

section Standby

variable {s : State}

theorem State.allOff_region (i : Nat) : (s.allOff.region i).powered = false := by
  unfold State.region tgetD
  rw [show s.allOff.regions = tmap (fun _ (r : Region) => { r with powered := false, target := none, railUp := false, droop := false }) s.regions from rfl,
    tget_tmap]
  cases tget i s.regions <;> rfl

/-- With no context resident and no other command waiting the package enters standby, dark. -/
theorem pkgStandby_darkens {s1 : State} {q : Nat} {x : Queue} {c : Cmd} (h : Taken s q 0x6B x c s1) (hres : s1.residents = [])
    (hqueues : ∀ z, z ∈ s1.queues → z.1 = 0 ∨ z.2.cmds = []) :
    ∃ t, exec (.pkgStandby q) s = .next t ∧ t.standby.isSome = true ∧ t.cores = [] ∧ ∀ i, (t.region i).powered = false := by
  have hidle : s1.queues.any (fun q => q.1 != 0 && q.2.cmds != []) = false := by
    rw [List.any_eq_false]
    intro z hz
    rcases hqueues z hz with h0 | h0 <;> simp [h0]
  have hgo : ¬ (s1.residents ≠ [] ∨ s1.queues.any (fun q => q.1 != 0 && q.2.cmds != []) = true) := by simp [hres, hidle]
  refine ⟨_, by simp only [exec_eq_pkgStandby, execPkgStandby, runCmd_taken h, if_neg hgo]; rfl, ?_⟩
  refine ⟨?_, ?_, ?_⟩
  · rw [State.cmdDone_standby]
    rfl
  · rw [State.cmdDone_cores]
  · intro i
    rw [State.cmdDone_at_region]
    exact State.allOff_region i

/-- The package is out of standby, its wake message taken. -/
def Awake (s : State) : Prop := s.standby = none ∧ s.clasp.wake = false

theorem Awake.sampleDue (h : Awake s) (reason isl : Nat) : Awake (s.sampleDue reason isl) := by
  unfold State.sampleDue
  split <;> exact h

theorem Awake.setTarget (h : Awake s) (i f : Nat) : Awake (s.setTarget i f) := by
  rw [State.setTarget_onlyRegions]
  exact h

theorem Awake.regionBack (h : Awake s) (i : Nat) : Awake (s.regionBack i) := by
  unfold State.regionBack
  split
  · exact h
  · exact (Awake.sampleDue (s := s.setRegion i _) h 2 i).setTarget ..

theorem Awake.startFabric (h : Awake s) (d : Nat) : Awake (s.startFabric d) :=
  Awake.sampleDue (s := s.setFabric d _) h _ _

theorem Awake.startUnfailed (h : Awake s) (d : Nat) : Awake (if (s.fabric d).failed then s else s.startFabric d) := by
  split
  · exact h
  · exact h.startFabric d

theorem exec_standbyExit_asleep {saved : Tbl Word} (hstandby : s.standby = some saved) (hwoken : s.woken = false) :
    exec .standbyExit s = .next s := by
  simp only [exec_eq_standbyExit, execStandbyExit, hstandby, hwoken, Bool.false_eq_true, not_false_eq_true, if_true]
  rfl

theorem standbyExit_wakes {saved : Tbl Word} (hstandby : s.standby = some saved) (hwoken : s.woken = true) :
    ∃ t, exec .standbyExit s = .next t ∧ t.standby = none ∧ t.clasp.wake = false := by
  have hstart : Awake ({ s with standby := none, regs := s.regs ++ saved, clasp := { s.clasp with wake := false } }.voidSweep) := by
    unfold State.voidSweep
    split <;> exact ⟨rfl, rfl⟩
  refine ⟨_, by simp only [exec_eq_standbyExit, execStandbyExit, hstandby, if_neg (not_not_intro hwoken)]; rfl, ?_⟩
  have hregions := foldS_keeps hstart (List.range 16) State.regionBack (fun st i h => h.regionBack i)
  generalize foldS (List.range 16) _ State.regionBack = s1 at hregions ⊢
  exact foldS_keeps hregions [0, 1] (fun st d => if (st.fabric d).failed then st else st.startFabric d) (fun st d h => h.startUnfailed d)

end Standby

/-- Settles O36: each row by the branch that its clause names; standby by what `allOff` leaves and what powering up keeps. -/
theorem resetsWatchdogsAndStandby : Obligations.ResetsWatchdogsAndStandby := by
  refine ⟨fun s s1 q x c h hok => exec_engineReset_good h hok,
    fun s s1 q x c h hne hmax hvalid => exec_folioReset_starts h hne hmax hvalid, fun s s1 q x c h hzero => exec_folioReset_zero h hzero, ?_, ?_,
    fun s f reason q h hf htime => exec_folioResetDrainExpiry_early hf htime, fun s s1 q x c h => exec_pkgReset_taken h,
    fun s ctx y a q hctx hact hq hrt hms htime => exec_watchdogAct_past hctx hact hq hrt hms htime,
    fun s q x hx hphase hnew hms htime => exec_watchdogCmdwait_past hx hphase hnew hms htime,
    fun s core k x hslot hready htime => exec_watchdogCore_past hslot hready htime,
    fun s id q c k hreq hst hissuer hleave htime => ⟨_, exec_watchdogReq_past hreq hst hissuer hleave htime, rfl⟩,
    fun s hrails hboot => exec_watchdogMgmt_running hrails hboot, fun s haux => watchdogClasp_calls haux,
    fun s step n hrails => exec_watchdogStep hrails step n, fun s s1 q x c h hres hqueues => pkgStandby_darkens h hres hqueues,
    fun s saved hstandby hwoken => standbyExit_wakes hstandby hwoken, fun s saved hstandby hwoken => exec_standbyExit_asleep hstandby hwoken⟩
  · intro s f reason q h hf htime hreason
    rw [exec_folioResetDrainExpiry_past hf htime, if_neg hreason]
  · intro s f q h hf htime
    rw [exec_folioResetDrainExpiry_past hf htime, if_pos rfl]

end Sys2Proof.Machine

namespace Sys2Proof.Machine

/-! ## Start-up (R645, R646): the frequency at which the regions start -/

section RailsUp

variable {s : State}

theorem State.powerRegion_clasp (i : Nat) : (s.powerRegion i).clasp = s.clasp := by
  unfold State.powerRegion State.sampleDue
  dsimp only
  split <;> rfl

theorem State.powerRegion_self (i : Nat) : ((s.powerRegion i).region i).setMhz = s.safeMhz i := by
  simp only [State.powerRegion, State.region, State.sampleDue_regions]
  exact congrArg Region.setMhz (State.region_setRegion_self (s := s) i _)

theorem State.powerRegion_ne {i j : Nat} (h : j ≠ i) : (s.powerRegion i).region j = s.region j := by
  simp only [State.powerRegion, State.region, State.sampleDue_regions]
  exact State.region_setRegion_ne (s := s) (h := h) _

theorem State.startFabric_region (d i : Nat) : (s.startFabric d).region i = s.region i := by
  simp only [State.startFabric, State.region, State.sampleDue_regions]
  rfl

/-- The rails come up with the calibration page read. -/
def State.railsRead (s : State) : State :=
  { s with clasp := { s.clasp with rails := true, inReset := true, stitchWait := true, calState := s.calCheck } }

theorem exec_railsUp (hpower : s.clasp.pwrgood = true) (hrails : s.clasp.rails = false) :
    exec .railsUp s = .next (foldS [0, 1] (foldS (List.range 16) s.railsRead State.powerRegion) State.startFabric) := by
  have hgo : ¬ (¬ s.clasp.pwrgood = true ∨ s.clasp.rails = true) := by simp [hpower, hrails]
  exact if_neg hgo

theorem State.powerRegion_keeps_first {f : Nat} (l : List Nat) (h : 0 ∉ l) (hs : (s.region 0).setMhz = f) :
    ((foldS l s State.powerRegion).region 0).setMhz = f := by
  induction l generalizing s with
  | nil => exact hs
  | cons i l ih =>
    obtain ⟨hi, hl⟩ := List.ne_and_not_mem_of_not_mem_cons h
    exact ih hl (by rw [State.powerRegion_ne hi]; exact hs)

/-- Region 0 starts at the safe frequency of the tables as the page that has just been read has them. -/
theorem railsUp_first {t : State} (hpower : s.clasp.pwrgood = true) (hrails : s.clasp.rails = false) (ht : exec .railsUp s = .next t) :
    (t.region 0).setMhz = s.railsRead.safeMhz 0 := by
  rw [exec_railsUp hpower hrails] at ht
  cases ht
  have hsplit : List.range 16 = 0 :: (List.range 15).map Nat.succ := List.range_succ_eq_map
  have hregion : ((foldS (List.range 16) s.railsRead State.powerRegion).region 0).setMhz = s.railsRead.safeMhz 0 := by
    rw [hsplit]
    exact State.powerRegion_keeps_first (s := s.railsRead.powerRegion 0) _ (by simp) (State.powerRegion_self 0)
  generalize foldS (List.range 16) s.railsRead State.powerRegion = s1 at hregion
  exact (congrArg Region.setMhz ((State.startFabric_region 1 0).trans (State.startFabric_region 0 0))).trans hregion

end RailsUp

/-! ### A calibration page that cannot be used -/

/-- A powered part whose calibration page has lost its mark, and whose first table begins at `f` MHz (below 256). -/
def badPage (f : Byte) : State :=
  { State.reset with clasp := { State.reset.clasp with
      aux := true, boot := .running, pwrgood := true,
      cal := [(0, 0), (1, 0), (2, 0), (3, 0), (0x440, f), (0x441, 0)] } }

theorem badPage_calCheck (f : Byte) : (badPage f).calCheck = 2 := by
  have hmark : fieldLe ((badPage f).calBytes 0 8) 0 4 = 0 := rfl
  have hwritten : (badPage f).clasp.cal ≠ [] := by simp [badPage]
  have hbad : fieldLe ((badPage f).calBytes 0 8) 0 4 ≠ 0x4C414347 := by
    rw [hmark]
    decide
  exact (if_neg hwritten).trans (if_pos (Or.inl hbad))

/-- Before the page is read the part takes its first table for good: it begins at `f` MHz. -/
theorem badPage_safeMhz {f : Byte} (hf : f ≠ 0) : (badPage f).safeMhz 0 = f.toNat := by
  have hstate : (badPage f).clasp.calState ≠ 2 := by simp [badPage, State.reset]
  have hlow : fieldLe ((badPage f).calBytes 0x440 4) 0 2 = f.toNat := by
    simp [fieldLe, State.calBytes, State.calByte, badPage, tget, List.range_succ, slice, fit, unle, zeros]
  have hpoint : f.toNat ≠ 0 := fun h => hf (BitVec.eq_of_toNat_eq h)
  have hsplit : List.range 64 = 0 :: (List.range 63).map Nat.succ := List.range_succ_eq_map
  simp only [State.safeMhz, State.vfPoints, if_neg hstate, hsplit, List.map_cons, List.filter_cons]
  simp [hlow, hpoint]

/-- Once it is read the fused table holds, whatever the page's first table begins with. -/
theorem badPage_railsRead_safeMhz (f g : Byte) : (badPage f).railsRead.safeMhz 0 = (badPage g).railsRead.safeMhz 0 := by
  have hread : ∀ s : State, s.railsRead.clasp.calState = s.calCheck := fun _ => rfl
  have hstate : ∀ h, (badPage h).railsRead.clasp.calState = 2 := fun h => (hread _).trans (badPage_calCheck h)
  have hfused : ∀ h, (badPage h).railsRead.vfPoints 0 = Config.fusedTable := fun h => if_pos (hstate h)
  simp only [State.safeMhz, hfused]

/-- Refutes O37: RAILS_UP reads the calibration page, and the regions start at the safe frequency of the tables that this reading puts in
force (R645); the clause takes that of the state before. With a page that has lost its mark the fused table comes into force,
while the state before goes by the page's own first table: of two such pages, whose tables begin at 1 and at 2 MHz, the clause
would have region 0 start at both. -/
theorem not_powerOnAndStartUp : ¬ Obligations.PowerOnAndStartUp := by
  intro h
  obtain ⟨-, -, -, -, -, -, -, hrails, -⟩ := h
  have hstart : ∀ f : Byte, f ≠ 0 → (badPage 1).railsRead.safeMhz 0 = f.toNat := by
    intro f hf
    obtain ⟨t, hexec, -, -, -, -, hmhz, -⟩ := hrails (badPage f) rfl rfl
    calc (badPage 1).railsRead.safeMhz 0 = (badPage f).railsRead.safeMhz 0 := badPage_railsRead_safeMhz 1 f
      _ = (t.region 0).setMhz := (railsUp_first rfl rfl hexec).symm
      _ = (badPage f).safeMhz 0 := hmhz 0 (by decide)
      _ = f.toNat := badPage_safeMhz hf
  have hone : (badPage 1).railsRead.safeMhz 0 = 1 := hstart 1 (by decide)
  have htwo : (badPage 1).railsRead.safeMhz 0 = 2 := hstart 2 (by decide)
  omega

end Sys2Proof.Machine

namespace Sys2Proof.Machine

/-! ## The cyclic schedule (R526-R528) -/

section CyclicCommands

variable {s s1 s2 : State} {q : Nat} {x : Queue} {c : Cmd}

theorem cyclicLoad_keeps {b : Bytes} (h : Taken s q 0x54 x c s1) (hpos : 0 < c.arg 0x30 2) (hmax : c.arg 0x30 2 ≤ 256)
    (hread : s1.hubRead 0 (c.arg 0x28 8) (16 * c.arg 0x30 2) = (some b, s2)) (hok : s2.entryBad (entriesOf b) = none) :
    ∃ t, exec (.cyclicLoad q) s = .next t ∧ t.cyclic = { s2.cyclic with newTable := some (b, c.arg 0x30 2) } := by
  have hcount : ¬ (c.arg 0x30 2 = 0 ∨ 256 < c.arg 0x30 2) := by omega
  refine ⟨_, by simp only [exec_eq_cyclicLoad, execCyclicLoad, runCmd_taken h, if_neg hcount, State.withBlock, hread, hok]; rfl, ?_⟩
  rw [State.cmdDone_cyclic]

theorem exec_cyclicEnter_taken (h : Taken s q 0x55 x c s1) :
    exec (.cyclicEnter q) s = .next (({ s1 with cyclic := { s1.cyclic with enterQ := some q } }).setPhase q (.running 0)) := by
  simp only [exec_eq_cyclicEnter, execCyclicEnter, runCmd_taken h]

theorem exec_cyclicExit_taken (h : Taken s q 0x56 x c s1) :
    exec (.cyclicExit q) s = .next (({ s1 with cyclic := { s1.cyclic with exitQ := some q } }).setPhase q (.running 0)) := by
  simp only [exec_eq_cyclicExit, execCyclicExit, runCmd_taken h]

end CyclicCommands

section Frames

variable {s : State}

theorem State.endFor_cyclic (o : Option Nat) (st : Nat) : (s.endFor o st).cyclic = s.cyclic := by
  cases o with
  | none => rfl
  | some q => exact State.cmdDone_cyclic ..

/-- Making a minor frame's entries due changes the table, and nothing else of the schedule. -/
theorem State.minorFrame_cyclic : s.minorFrame.cyclic = { s.cyclic with table := s.minorFrame.cyclic.table } := rfl

/-- The schedule when the next minor frame has begun, before its entries are due. -/
def State.nextMinor (s : State) : State :=
  { s with cyclic := { s.cyclic with minor := (s.cyclic.minor + 1) % 16, frameStart := s.cyclic.frameStart + 62500 } }

theorem exec_minorFrameBoundary (hrails : s.clasp.rails = true) (htime : s.cyclic.frameStart + 62500 ≤ s.hubCount) :
    exec .minorFrameBoundary s =
      .next (let s2 := if (s.cyclic.minor + 1) % 16 = 0 then s.nextMinor.majorFrame else s.nextMinor
        if s2.cyclic.mode then s2.minorFrame else s2) := by
  have hgo : ¬ (¬ s.clasp.rails = true ∨ s.hubCount < s.cyclic.frameStart + 62500) := by simp [hrails, htime]
  exact if_neg hgo

/-- What the boundary leaves of the schedule, but for the table whose entries may be due. -/
theorem minorFrameBoundary_leaves (hrails : s.clasp.rails = true) (htime : s.cyclic.frameStart + 62500 ≤ s.hubCount) {s2 : State}
    (hs2 : s2 = if (s.cyclic.minor + 1) % 16 = 0 then s.nextMinor.majorFrame else s.nextMinor) :
    ∃ t, exec .minorFrameBoundary s = .next t ∧ t.cyclic = { s2.cyclic with table := t.cyclic.table } := by
  refine ⟨_, exec_minorFrameBoundary hrails htime, ?_⟩
  rw [← hs2]
  dsimp only
  split
  · exact State.minorFrame_cyclic
  · rfl

/-- The schedule of a new major frame: the mode is entered for a waiting CYCLIC_ENTER, and left for a waiting CYCLIC_EXIT. -/
theorem State.majorFrame_enters {q : Nat} (hq : s.cyclic.enterQ = some q) :
    s.majorFrame.cyclic.mode = true ∧ s.majorFrame.cyclic.major = 0 ∧ s.majorFrame.cyclic.minor = s.cyclic.minor ∧
      s.majorFrame.cyclic.enterQ = none := by
  simp only [State.majorFrame, State.endFor_cyclic]
  cases s.cyclic.newTable <;> simp [hq]

theorem State.majorFrame_exits {q : Nat} (hnone : s.cyclic.enterQ = none) (hq : s.cyclic.exitQ = some q) :
    s.majorFrame.cyclic.mode = false ∧ s.majorFrame.cyclic.exitQ = none := by
  simp only [State.majorFrame, State.endFor_cyclic]
  cases s.cyclic.newTable <;> simp [hnone, hq]

theorem minorFrameBoundary_within (hrails : s.clasp.rails = true) (htime : s.cyclic.frameStart + 62500 ≤ s.hubCount)
    (hminor : (s.cyclic.minor + 1) % 16 ≠ 0) :
    ∃ t, exec .minorFrameBoundary s = .next t ∧ t.cyclic.minor = (s.cyclic.minor + 1) % 16 ∧
      t.cyclic.frameStart = s.cyclic.frameStart + 62500 ∧ t.cyclic.mode = s.cyclic.mode := by
  obtain ⟨t, hexec, hcyclic⟩ := minorFrameBoundary_leaves hrails htime (if_neg hminor).symm
  exact ⟨t, hexec, by rw [hcyclic]; rfl, by rw [hcyclic]; rfl, by rw [hcyclic]; rfl⟩

theorem minorFrameBoundary_major (hrails : s.clasp.rails = true) (htime : s.cyclic.frameStart + 62500 ≤ s.hubCount) (hminor : s.cyclic.minor = 15) :
    ∃ t, exec .minorFrameBoundary s = .next t ∧ t.cyclic = { s.nextMinor.majorFrame.cyclic with table := t.cyclic.table } := by
  have hwrap : (s.cyclic.minor + 1) % 16 = 0 := by rw [hminor]
  exact minorFrameBoundary_leaves hrails htime (if_pos hwrap).symm

end Frames

section Entries

variable {s : State} {i p k u : Nat} {e : CycEntry}

theorem exec_cyclicEntryStart_due {pass : Bool} (he : s.cyclic.table[i]? = some e) (hdue : e.due = true) (hmode : s.cyclic.mode = true)
    (hafter : e.after = false) :
    exec (.cyclicEntryStart i pass k u) s =
      (let over_ := s.setEntry i { e with due := false, ended := true, began := s.hubCount }
       if e.kind = 1 then .next (s.launchEntry i e) else if e.kind = 2 then .next (over_.signalEntry e)
       else if e.kind = 3 then .next (over_.selfTestEntry e pass k u) else .next over_) := by
  have hgo : ¬ (¬ e.due = true ∨ ¬ s.cyclic.mode = true ∨ (e.after = true ∧ ¬ s.predEnded i e = true)) := by simp [hdue, hmode, hafter]
  simp only [exec_eq_cyclicEntryStart, execCyclicEntryStart, he]
  exact if_neg hgo

theorem exec_cyclicOverrun_spent (he : s.cyclic.table[i]? = some e) (hrun : e.running = true) (hspent : s.budgetSpent e = true) :
    exec (.cyclicOverrun i) s =
      .next (let s1 := (s.ctxResetFree e.ctx 0x0F).entryEnded i
        (s1.ringPut 0 (s1.record tyCyclicOverrun 0 0 e.ctx 18 (le 1 i ++ le 1 e.minor))).bumpFld rCyclicStat 32 16 1) := by
  have hgo : ¬ (¬ e.running = true ∨ ¬ s.budgetSpent e = true) := by simp [hrun, hspent]
  simp only [exec_eq_cyclicOverrun, execCyclicOverrun, he]
  exact if_neg hgo

end Entries

/-- Settles O38: the commands by their equations; the boundary by what a major frame leaves of the schedule, of which a minor frame
changes the table alone; entries by their kind. -/
theorem cyclicScheduleRuns : Obligations.CyclicScheduleRuns := by
  refine ⟨fun s s1 s2 q x c b h hpos hmax hread hok => cyclicLoad_keeps h hpos hmax hread hok, fun s s1 q x c h => exec_cyclicEnter_taken h,
    fun s s1 q x c h => exec_cyclicExit_taken h, fun s hrails htime hminor => minorFrameBoundary_within hrails htime hminor, ?enter, ?exit, ?launch,
    ?signal, ?test, fun s i e he hrun hspent => ⟨_, rfl, exec_cyclicOverrun_spent he hrun hspent⟩⟩
  case enter =>
    intro s q hrails htime hminor hq
    obtain ⟨t, hexec, hcyclic⟩ := minorFrameBoundary_major hrails htime hminor
    obtain ⟨hmode, hmajor, hzero, hnone⟩ := State.majorFrame_enters (s := s.nextMinor) hq
    refine ⟨t, hexec, by rw [hcyclic]; exact hmode, by rw [hcyclic]; exact hmajor, ?_, by rw [hcyclic]; exact hnone⟩
    rw [hcyclic]
    exact hzero.trans (by simp only [State.nextMinor, hminor])
  case exit =>
    intro s q hrails htime hminor hnone hq
    obtain ⟨t, hexec, hcyclic⟩ := minorFrameBoundary_major hrails htime hminor
    obtain ⟨hmode, hleft⟩ := State.majorFrame_exits (s := s.nextMinor) hnone hq
    exact ⟨t, hexec, by rw [hcyclic]; exact hmode, by rw [hcyclic]; exact hleft⟩
  case launch =>
    intro s i e p k u he hdue hmode hafter hkind
    simp only [exec_cyclicEntryStart_due he hdue hmode hafter, hkind, if_true]
  case signal =>
    intro s i e p k u he hdue hmode hafter hkind
    rw [exec_cyclicEntryStart_due he hdue hmode hafter, hkind]
    rfl
  case test =>
    intro s i e p k u he hdue hmode hafter hkind
    rw [exec_cyclicEntryStart_due he hdue hmode hafter, hkind]
    rfl

end Sys2Proof.Machine

namespace Sys2Proof.Machine

/-! ## The host link: training, CXL.mem, interrupts and function-level resets (R446-R464) -/

section Link

variable {s : State} {w v : Nat} {x : Bool}

/-- A link may train: rails up, PERST_N high, the link down, the hub good. -/
def State.mayTrain (s : State) : Prop := s.clasp.rails = true ∧ s.link.perstN = true ∧ s.link.up = false ∧ s.clasp.hubBad = false

theorem exec_linkTraining (h : s.mayTrain) :
    exec (.linkTraining w v x) s =
      (if (w = 8 ∨ w = 16) ∧ (v = 4 ∨ v = 5) then .next ({ s with link := { s.link with up := true, cxl := x, width := w, speed := v } }).capChange
       else .next (s.emit (.linkOutcome w v))) := by
  obtain ⟨hrails, hperst, hdown, hhub⟩ := h
  have hgo : ¬ (¬ s.clasp.rails = true ∨ ¬ s.link.perstN = true ∨ s.link.up = true ∨ s.clasp.hubBad = true) := by
    simp [hrails, hperst, hdown, hhub]
  exact if_neg hgo

theorem linkTraining_trains (h : s.mayTrain) (hw : w = 8 ∨ w = 16) (hv : v = 4 ∨ v = 5) :
    ∃ t, exec (.linkTraining w v x) s = .next t ∧ t.link.up = true ∧ t.link.cxl = x ∧ t.link.width = w ∧ t.link.speed = v :=
  ⟨_, (exec_linkTraining h).trans (if_pos ⟨hw, hv⟩), rfl, rfl, rfl, rfl⟩

theorem exec_linkTraining_other (h : s.mayTrain) (hother : (w ≠ 8 ∧ w ≠ 16) ∨ (v ≠ 4 ∧ v ≠ 5)) :
    exec (.linkTraining w v x) s = .next (s.emit (.linkOutcome w v)) := by
  have hnot : ¬ ((w = 8 ∨ w = 16) ∧ (v = 4 ∨ v = 5)) := by omega
  exact (exec_linkTraining h).trans (if_neg hnot)

theorem exec_linkTraining_hubBad (h : s.clasp.hubBad = true) : exec (.linkTraining w v x) s = .next s :=
  if_pos (Or.inr (Or.inr (Or.inr h)))

theorem hostLinkDown_downs (h : s.link.up = true) : ∃ t, exec .hostLinkDown s = .next t ∧ t.link.up = false ∧ t.link.cxl = false :=
  ⟨_, if_pos h, rfl, rfl⟩

theorem perstNAssert_holds : ∃ t, exec .perstNAssert s = .next t ∧ t.link.perstN = false ∧ t.link.up = false := by
  refine ⟨_, rfl, rfl, ?_⟩
  by_cases h : s.link.up = true
  · rw [if_pos h]
    rfl
  · rw [if_neg h]
    exact Bool.eq_false_iff.mpr h

end Link

section Memory

variable {s : State} {h a r : Nat} {d : Bytes}

/-- A read that the frame table lets pass. -/
theorem exec_cxlMemRead_passes (ha : s.hdmAddr h = some a) (hreset : s.clasp.inReset = false) (hidle : s.lineIdle a = true)
    (hpass : s.hdmRefused a false = none) :
    exec (.cxlMemRead h) s =
      (let bad := fun (st : State) => (st.emit (.memRead h true (st.freeBytes 64))).useFree
       if (s.heldLine (lineOf a)).isSome then .next (s.emit (.memRead h false (s.curLine (lineOf a))))
       else (match s.rawRead (lineOf a) 64 with
         | (.ok, d) => .next (s.emit (.memRead h false d))
         | (.integrity, _) => .next (bad (s.integFail a 4))
         | _ => .next (bad s))) := by
  simp only [exec_eq_cxlMemRead, execCxlMemRead, ha, hreset, hidle, hpass, Bool.false_eq_true, not_true_eq_false, if_false] <;> rfl

theorem exec_cxlMemRead_memory (ha : s.hdmAddr h = some a) (hreset : s.clasp.inReset = false) (hidle : s.lineIdle a = true)
    (hpass : s.hdmRefused a false = none) (hheld : s.heldLine (lineOf a) = none) (hread : s.rawRead (lineOf a) 64 = (.ok, d)) :
    exec (.cxlMemRead h) s = .next (s.emit (.memRead h false d)) := by
  rw [exec_cxlMemRead_passes ha hreset hidle hpass]
  simp only [hheld, Option.isSome_none, Bool.false_eq_true, if_false, hread]

theorem exec_cxlMemRead_held (ha : s.hdmAddr h = some a) (hreset : s.clasp.inReset = false) (hidle : s.lineIdle a = true)
    (hpass : s.hdmRefused a false = none) (hheld : (s.heldLine (lineOf a)).isSome = true) :
    exec (.cxlMemRead h) s = .next (s.emit (.memRead h false (s.curLine (lineOf a)))) := by
  rw [exec_cxlMemRead_passes ha hreset hidle hpass]
  exact if_pos hheld

theorem exec_cxlMemRead_refused (ha : s.hdmAddr h = some a) (hreset : s.clasp.inReset = false) (hidle : s.lineIdle a = true)
    (href : s.hdmRefused a false = some r) :
    exec (.cxlMemRead h) s =
      .next (((s.hostRefused a r false).emit (.memRead h true ((s.hostRefused a r false).freeBytes 64))).useFree) := by
  simp only [exec_eq_cxlMemRead, execCxlMemRead, ha, hreset, hidle, href, Bool.false_eq_true, not_true_eq_false, if_false]

theorem exec_cxlMemWrite_passes {o : Nat} (ha : s.hdmAddr h = some a) (hreset : s.clasp.inReset = false) (hidle : s.lineIdle a = true)
    (hpass : s.hdmRefused a true = none) (hd : d.take (64 - o) ≠ []) :
    exec (.cxlMemWrite h o d) s = .next (((s.putLine (lineOf a + o) (d.take (64 - o))).2).wake (lineOf a)) := by
  simp only [exec_eq_cxlMemWrite, execCxlMemWrite, ha, hreset, hidle, hpass, hd, Bool.false_eq_true, not_true_eq_false, or_self, if_false]

theorem exec_cxlMemWrite_refused {o : Nat} (ha : s.hdmAddr h = some a) (hreset : s.clasp.inReset = false) (hidle : s.lineIdle a = true)
    (href : s.hdmRefused a true = some r) (hd : d.take (64 - o) ≠ []) : exec (.cxlMemWrite h o d) s = .next (s.hostRefused a r true) := by
  simp only [exec_eq_cxlMemWrite, execCxlMemWrite, ha, hreset, hidle, href, hd, Bool.false_eq_true, not_true_eq_false, or_self, if_false]

end Memory

section Functions

variable {s : State} {f v : Nat}

/-- The vector unmasked, no longer pending. -/
def State.unmask (s : State) (f v : Nat) : State :=
  { s with link := { s.link with unmasked := (f, v) :: s.link.unmasked, msixPend := s.link.msixPend.filter (fun x => x != (f, v)) } }

theorem State.unmask_link :
    (s.unmask f v).link.unmasked.contains (f, v) = true ∧ (s.unmask f v).link.msixPend.contains (f, v) = false := by
  simp [State.unmask]

theorem msixUnmask_unmasks (hv : v < (if f = 0 then 256 else 32)) (hmasked : s.link.unmasked.contains (f, v) = false) :
    ∃ t, exec (.msixUnmask f v) s = .next t ∧ t.link.unmasked.contains (f, v) = true ∧ t.link.msixPend.contains (f, v) = false ∧
      (s.link.msixPend.contains (f, v) = true → s.vectorDue f v = true → t.out = s.out ++ [.msix f v]) := by
  have hgo : ¬ ((if f = 0 then 256 else 32) ≤ v ∨ s.link.unmasked.contains (f, v) = true) := by
    rw [hmasked]
    exact fun hbad => hbad.elim (Nat.not_le.mpr hv) Bool.false_ne_true
  refine ⟨if s.link.msixPend.contains (f, v) ∧ s.vectorDue f v then (s.unmask f v).emit (.msix f v) else s.unmask f v, if_neg hgo, ?_⟩
  split
  next => exact ⟨State.unmask_link.1, State.unmask_link.2, fun _ _ => rfl⟩
  next hnone => exact ⟨State.unmask_link.1, State.unmask_link.2, fun hpend hdue => absurd ⟨hpend, hdue⟩ hnone⟩

/-- A function-level reset of a virtual function that the link carries. -/
theorem exec_vfFlr (hne : f ≠ 0) (hf : f ≤ 63) (hup : s.link.up = true) (hcxl : s.link.cxl = true) :
    exec (.vfFlr f) s = (if (s.folio f).valid = true then .next (s.startFolioReset f 1 none) else .next (s.emit (.flrDone f))) := by
  have hgo : ¬ (f = 0 ∨ 63 < f ∨ ¬ s.link.up = true ∨ ¬ s.link.cxl = true) := by simp [hne, hf, hup, hcxl]
  exact if_neg hgo

theorem exec_pfFlr (hup : s.link.up = true) (hreset : s.clasp.inReset = false) : exec .pfFlr s = .next (s.pkgReset 1 false) := by
  have hgo : ¬ (¬ s.link.up = true ∨ s.clasp.inReset = true) := by simp [hup, hreset]
  exact if_neg hgo

end Functions

/-- Settles O39: each row by the branch that its clause names. -/
theorem hostLinkEvents : Obligations.HostLinkEvents := by
  refine ⟨fun s w v x hrails hperst hdown hhub hw hv => linkTraining_trains ⟨hrails, hperst, hdown, hhub⟩ hw hv,
    fun s w v x hrails hperst hdown hhub hother => exec_linkTraining_other ⟨hrails, hperst, hdown, hhub⟩ hother,
    fun s w v x h => exec_linkTraining_hubBad h, fun s h => hostLinkDown_downs h, fun s => perstNAssert_holds, fun s => rfl,
    fun s b hup hcxl => if_pos ⟨hup, hcxl⟩,
    fun s h a d ha hreset hidle hpass hheld hread => exec_cxlMemRead_memory ha hreset hidle hpass hheld hread,
    fun s h a ha hreset hidle hpass hheld => exec_cxlMemRead_held ha hreset hidle hpass hheld, ?refused,
    fun s h a o d ha hreset hidle hpass hd => exec_cxlMemWrite_passes ha hreset hidle hpass hd,
    fun s h a o d r ha hreset hidle href hd => exec_cxlMemWrite_refused ha hreset hidle href hd,
    fun s f v hv hmasked => msixUnmask_unmasks hv hmasked, ?valid, ?noFolio, fun s hup hreset => exec_pfFlr hup hreset⟩
  case refused =>
    intro s s1 h a r ha hreset hidle href hs1
    rw [hs1]
    exact exec_cxlMemRead_refused ha hreset hidle href
  case valid =>
    intro s f hne hf hup hcxl hvalid
    rw [exec_vfFlr hne hf hup hcxl, if_pos hvalid]
  case noFolio =>
    intro s f hne hf hup hcxl hvalid
    rw [exec_vfFlr hne hf hup hcxl, hvalid]
    rfl

end Sys2Proof.Machine

namespace Sys2Proof.Machine

/-! ## Answers and snoops of the host (R454-R458, R229) -/

section HostAnswers

variable {s : State} {id : Nat} {q : Req}

theorem exec_cxlCacheCompletion (hreq : s.req? id = some q) (hhost : q.atHost = true) (hup : s.link.up = true) (hcxl : s.link.cxl = true)
    (err : Bool) (d : Bytes) :
    exec (.cxlCacheCompletion id err d) s =
      (if err = true then .next (s.finish id q .hostErr []).atsSettle
       else if q.bias = 1 then .next (s.setReq id { q with bias := 2 }) else .next (s.hostAnswer id q d).atsSettle) := by
  have hgo : ¬ (¬ q.atHost = true ∨ ¬ s.link.up = true ∨ ¬ s.link.cxl = true) := by simp [hhost, hup, hcxl]
  simp only [exec_eq_cxlCacheCompletion, execCxlCacheCompletion, hreq]
  exact if_neg hgo

theorem exec_hostTimeout_early (hreq : s.req? id = some q) (htime : s.hubCount < q.sentAt + 1000000 * s.ctoMs) : exec (.hostTimeout id) s = .next s := by
  simp only [exec_eq_hostTimeout, execHostTimeout, hreq]
  exact if_pos (Or.inr htime)

theorem exec_hostTimeout_past (hreq : s.req? id = some q) (hhost : q.atHost = true) (htime : q.sentAt + 1000000 * s.ctoMs ≤ s.hubCount) :
    exec (.hostTimeout id) s = .next ((s.ringPut 0 (s.record tyHostTimeout q.folio 0 0xFFFF 18
      (le 8 q.pa ++ le 1 0 ++ le 1 q.folio ++ zeros 6 ++ le 8 (s.hubCount - q.sentAt)))).finish id q .hostErr []).atsSettle := by
  have hgo : ¬ (¬ q.atHost = true ∨ s.hubCount < q.sentAt + 1000000 * s.ctoMs) := by simp [hhost, htime]
  simp only [exec_eq_hostTimeout, execHostTimeout, hreq]
  exact if_neg hgo

end HostAnswers

section Snoops

variable {s : State} {a : Nat}

/-- A snoop of a host line over a running link, with no transaction on the line. -/
theorem State.snoop_taken (hlo : hostBase ≤ a) (hhi : a < 2 ^ 46) (hup : s.link.up = true) (hcxl : s.link.cxl = true)
    (htxn : tget (lineOf a) s.hostHome.txns = none) (go : State → Nat → State) : s.snoop a go = .next (go s (lineOf a)) := by
  have hgo : ¬ (a < hostBase ∨ 2 ^ 46 ≤ a ∨ ¬ s.link.up = true ∨ ¬ s.link.cxl = true ∨ (tget (lineOf a) s.hostHome.txns).isSome = true) := by
    rw [hup, hcxl, htxn]
    simp only [not_true_eq_false, Option.isSome_none, Bool.false_eq_true, or_false]
    omega
  exact if_neg hgo

/-- A cache with its copy of a line shared and clean, its waiting writeback clean. -/
def Cache.shareLine (c : Cache) (line : Nat) (d : Bytes) : Cache :=
  match tget line c.lines with
  | some _ => { c with lines := tput line { st := .s, data := d } c.lines }
  | none => { c with wb := match tget line c.wb with | some w => tput line { w with dirty := false } c.wb | none => c.wb }

theorem Cache.shareLine_line {c : Cache} {line : Nat} {d : Bytes} {l : CLine} (h : tget line (c.shareLine line d).lines = some l) :
    l.st = .s ∧ l.data = d := by
  unfold Cache.shareLine at h
  cases hline : tget line c.lines with
  | some x =>
    rw [hline] at h
    rw [tget_tput_self] at h
    cases h
    exact ⟨rfl, rfl⟩
  | none =>
    rw [hline] at h
    exact absurd (hline.symm.trans h) (by simp)

/-- The state of SNP_DATA before the directory: every copy of the line in the part is shared and clean. -/
def State.sharedOut (s : State) (line : Nat) (d : Bytes) : State :=
  { s with
    caches := tmap (fun _ (c : Cache) => c.shareLine line d) s.caches
    hostLines := if (tget line s.hostLines).isSome then tput line { st := .s, data := d } s.hostLines else s.hostLines }

theorem State.sharedOut_cache (line : Nat) (d : Bytes) (n : Nat) {l : CLine} (h : tget line ((s.sharedOut line d).cache n).lines = some l) :
    l.st = .s ∧ l.data = d := by
  have hcaches : (s.sharedOut line d).cache n = ((tget n s.caches).map (fun c => c.shareLine line d)).getD {} := by
    unfold State.cache tgetD
    exact congrArg (fun o => o.getD {}) (tget_tmap (fun _ (c : Cache) => c.shareLine line d) n s.caches)
  rw [hcaches] at h
  cases hc : tget n s.caches with
  | some c =>
    rw [hc] at h
    exact Cache.shareLine_line h
  | none =>
    rw [hc] at h
    cases h

theorem State.giveHost_hostHome (line : Nat) : (s.giveHost line).hostHome = s.hostHome := by
  unfold State.giveHost
  split <;> rfl

theorem exec_snpData_outside (hlo : hostBase ≤ a) (hhi : a < 2 ^ 46) (hup : s.link.up = true) (hcxl : s.link.cxl = true)
    (htxn : tget (lineOf a) s.hostHome.txns = none) (hdir : tget (lineOf a) s.hostHome.dir = none) :
    exec (.snpData a) s = .next (((s.snoopAnswer (lineOf a)).giveHost (lineOf a)).sharedOut (lineOf a) (s.curLine (lineOf a))) := by
  have hhome : tget (lineOf a) ((s.snoopAnswer (lineOf a)).giveHost (lineOf a)).hostHome.dir = none := by
    rw [State.giveHost_hostHome]
    exact hdir
  simp only [exec_eq_snpData, execSnpData, State.snoop_taken hlo hhi hup hcxl htxn, hhome]
  rfl

theorem exec_hostFenceWordSnoop_watched (hlo : hostBase ≤ a) (hwatch : s.hubWatch.any (fun e => lineOf e.pa == lineOf a) = true) (v : Word) :
    exec (.hostFenceWordSnoop a v) s =
      .next (let s2 := (s.giveHost (lineOf a)).dropLine (lineOf a)
        (({ s2 with host := mwrite s2.host (a - hostBase) (le 8 v.toNat) }).watchLine (lineOf a)).wake (lineOf a)) := by
  have hgo : ¬ (a < hostBase ∨ ¬ s.hubWatch.any (fun e => lineOf e.pa == lineOf a) = true) := by
    rw [hwatch]
    simpa using hlo
  exact if_neg hgo

end Snoops

section Invalidations

variable {s : State}

/-- Does an invalidation still wait for a request? -/
def State.atsBusy (s : State) (w : Nat × Nat × List Nat) : Bool :=
  w.2.2.any (fun i => match s.req? i with | some q => q.status.isNone | none => false)

/-- One invalidation answered. -/
def State.atsAnswer (s : State) (w : Nat × Nat × List Nat) : State := (s.bumpFld rHostStat 16 16 1).emit (.atsDone w.1 w.2.1)

/-- The invalidations that still wait. -/
def State.atsKeep (s : State) : State := { s with link := { s.link with atsWait := s.link.atsWait.filter s.atsBusy } }

theorem State.atsSettle_eq : s.atsSettle = foldS (s.link.atsWait.filter (fun w => !s.atsBusy w)) s.atsKeep State.atsAnswer := rfl

theorem State.atsAnswer_link (w : Nat × Nat × List Nat) : (s.atsAnswer w).link = s.link := by
  rw [State.atsAnswer, State.emit_link, State.bumpFld_link]

theorem State.atsAnswer_out (w : Nat × Nat × List Nat) : (s.atsAnswer w).out = s.out ++ [.atsDone w.1 w.2.1] := by
  have hout : ∀ (t : State) (o : Out), (t.emit o).out = t.out ++ [o] := fun _ _ => rfl
  rw [State.atsAnswer, hout, State.bumpFld_out]

/-- Answering the invalidations whose requests have completed takes no translation back. -/
theorem State.atsSettle_ats : s.atsSettle.link.ats = s.link.ats := by
  have hkeep : s.atsKeep.link.ats = s.link.ats := rfl
  rw [State.atsSettle_eq]
  exact foldS_keeps (P := fun t => t.link.ats = s.link.ats) hkeep _ State.atsAnswer (fun st w h => by rw [State.atsAnswer_link]; exact h)

/-- An invalidation that waits for no request is answered. -/
theorem State.atsSettle_one {f a : Nat} (h : s.link.atsWait = [(f, a, [])]) : s.atsSettle.out = s.out ++ [.atsDone f a] := by
  have hdone : s.atsBusy (f, a, []) = false := rfl
  rw [State.atsSettle_eq, h, List.filter_cons_of_pos (by rw [hdone]; rfl), List.filter_nil]
  exact State.atsAnswer_out (s := s.atsKeep) (f, a, [])

/-- The translations of a function outside a range of pages. -/
def atsOutside (f lo hi : Nat) (l : List (Nat × Nat × Nat)) : List (Nat × Nat × Nat) :=
  l.filter (fun t => !(t.1 == f && decide (lo ≤ t.2.1 ∧ t.2.1 < hi)))

theorem not_mem_atsOutside {f lo hi p g : Nat} {l : List (Nat × Nat × Nat)} (h : (f, p, g) ∈ atsOutside f lo hi l) : ¬ (lo ≤ p ∧ p < hi) := by
  have hkeep := (List.mem_filter.mp h).2
  simp only [beq_self_eq_true, Bool.true_and, Bool.not_eq_eq_eq_not, Bool.not_true, decide_eq_false_iff_not] at hkeep
  exact hkeep

theorem atsInvalidation_drops {f a n : Nat} (hup : s.link.up = true) :
    ∃ t, exec (.atsInvalidation f a n) s = .next t ∧ ∀ p g, (f, p, g) ∈ t.link.ats → ¬ (a / 4096 ≤ p ∧ p < cdiv (a + n) 4096) := by
  refine ⟨_, if_neg (not_not_intro hup), ?_⟩
  intro p g hmem
  rw [State.atsSettle_ats] at hmem
  exact not_mem_atsOutside hmem

theorem atsInvalidation_answers {f a n : Nat} (hup : s.link.up = true) (hreqs : s.reqs = []) (hwait : s.link.atsWait = []) :
    ∃ t, exec (.atsInvalidation f a n) s = .next t ∧ t.out = s.out ++ [.atsDone f a] := by
  refine ⟨_, if_neg (not_not_intro hup), ?_⟩
  refine State.atsSettle_one ?_
  simp only [hwait, hreqs, List.filter_nil, List.map_nil, List.nil_append]

end Invalidations

/-- Settles O40: answers and timeouts by the equation of the request at the host; snoops by what each does to the part's copies; an
invalidation by the translations it keeps. -/
theorem hostAnswersAndSnoops : Obligations.HostAnswersAndSnoops := by
  refine ⟨?completion, fun s id q hreq hhost htime => exec_hostTimeout_past hreq hhost htime,
    fun s id q hreq htime => exec_hostTimeout_early hreq htime, ?current, ?data, fun s f a n hup => atsInvalidation_drops hup,
    fun s f a n hup hreqs hwait => atsInvalidation_answers hup hreqs hwait,
    fun s a v hlo hwatch => ⟨_, rfl, exec_hostFenceWordSnoop_watched hlo hwatch v⟩⟩
  case completion =>
    intro s id q d hreq hhost hup hcxl
    refine ⟨?_, fun hbias => ?_, fun hbias => ?_⟩
    · exact exec_cxlCacheCompletion hreq hhost hup hcxl true d
    · exact (exec_cxlCacheCompletion hreq hhost hup hcxl false d).trans (if_pos hbias)
    · exact (exec_cxlCacheCompletion hreq hhost hup hcxl false d).trans (if_neg hbias)
  case current =>
    intro s a hlo hhi hup hcxl htxn
    constructor
    · simp only [exec_eq_snpCur, execSnpCur, State.snoop_taken hlo hhi hup hcxl htxn]
    · simp only [exec_eq_snpInv, execSnpInv, State.snoop_taken hlo hhi hup hcxl htxn]
  case data =>
    intro s a hlo hhi hup hcxl htxn hdir
    exact ⟨_, exec_snpData_outside hlo hhi hup hcxl htxn hdir, rfl, fun n l h => State.sharedOut_cache _ _ n h⟩

/-! ## The mailbox (R463, R568, R569) -/

section Mailbox

variable {s : State}

theorem State.doe_answers (hup : s.link.up = true) (hretry : s.link.retry = false) (go : State → State) : s.doe go = .next (go s) :=
  if_pos ⟨hup, by rw [hretry]; exact Bool.false_ne_true⟩

theorem State.doe_silent (h : s.link.up = false ∨ s.link.retry = true) (go : State → State) : s.doe go = .next s := by
  have hno : ¬ (s.link.up = true ∧ ¬ s.link.retry = true) := by
    rcases h with h | h <;> simp [h]
  exact if_neg hno

/-- What discovery answers at an index. -/
def doeEntry (index : Nat) : Bytes :=
  match doeTypes[index]? with
  | some (v, t) => le 2 v ++ le 1 t ++ le 1 (if index + 1 < doeTypes.length then index + 1 else 0)
  | none => le 2 0xFFFF ++ le 2 0

theorem length_doeEntry (index : Nat) : (doeEntry index).length = 4 := by
  unfold doeEntry
  split <;> rfl

theorem exec_doeDiscovery (hup : s.link.up = true) (hretry : s.link.retry = false) (index : Nat) :
    exec (.doeDiscovery index) s = .next (s.emit (.doe (doeEntry index))) := by
  simp only [exec_eq_doeDiscovery, execDoeDiscovery, State.doe_answers hup hretry, doeEntry]
  cases doeTypes[index]? with
  | none => rfl
  | some e => rfl

end Mailbox

/-- Settles O41: each request through the mailbox, which answers or is silent. -/
theorem mailboxAnswers : Obligations.MailboxAnswers := by
  refine ⟨?discovery, ?cdat, ?free, ?signed, ?unsupported, ?silent⟩
  case discovery =>
    intro s c hc hup hretry
    simp only [List.mem_cons, List.not_mem_nil, or_false] at hc
    rcases hc with rfl | rfl | rfl | rfl
    all_goals exact ⟨_, _, exec_doeDiscovery hup hretry _, rfl, length_doeEntry _⟩
  case cdat =>
    intro s h hup hretry
    simp only [exec_eq_cdatAccess, execCdatAccess, State.doe_answers hup hretry]
  case free =>
    intro s r c hc hup hretry
    simp only [List.mem_cons, List.not_mem_nil, or_false] at hc
    rcases hc with rfl | rfl | rfl
    all_goals exact State.doe_answers hup hretry State.spdmFree
  case signed =>
    intro s r hup hretry
    have hgo := State.doe_answers hup hretry
    refine ⟨?_, ?_, ?_, ?_⟩
    · simp only [exec_eq_getDigests, execGetDigests, hgo]
    · simp only [exec_eq_getCertificate, execGetCertificate, hgo]
    · simp only [exec_eq_challenge, execChallenge, hgo]
    · simp only [exec_eq_getMeasurements, execGetMeasurements, hgo]
  case unsupported =>
    intro s r hup hretry
    exact ⟨s.emit (.doe ([0x12, 0x7F, 0x07] ++ r.drop 1 |>.take 4)), _,
      by simp only [exec_eq_spdmUnsupported, execSpdmUnsupported, State.doe_answers hup hretry], rfl, rfl⟩
  case silent =>
    intro s r c hc hno
    simp only [List.mem_cons, List.not_mem_nil, or_false] at hc
    rcases hc with rfl | rfl | rfl | rfl | rfl | rfl | rfl | rfl | rfl | rfl
    all_goals simp only [exec_eq_getVersion, execGetVersion, exec_eq_getCapabilities,
      execGetCapabilities, exec_eq_negotiateAlgorithms, execNegotiateAlgorithms, exec_eq_getDigests,
      execGetDigests, exec_eq_getCertificate, execGetCertificate, exec_eq_challenge, execChallenge,
      exec_eq_getMeasurements, execGetMeasurements, exec_eq_spdmUnsupported, execSpdmUnsupported,
      exec_eq_cdatAccess, execCdatAccess, exec_eq_doeDiscovery, execDoeDiscovery, State.doe_silent hno]

end Sys2Proof.Machine

namespace Sys2Proof.Machine

/-! ## Quire keys, key rotation, attestation (R569-R572, R582, R583) -/

section Keys

variable {s s1 s2 s3 : State} {q : Nat} {x : Queue} {c : Cmd}

theorem confKeys_reads {b : Bytes} (h : Taken s q 0x60 x c s1) (hconf : s1.confArg (c.arg 0x28 1) = none) (hslot : c.arg 0x29 1 ≤ 3)
    (haddr : c.arg 0x30 8 ≠ 0) (hread : s1.hubRead 0 (c.arg 0x30 8) 2592 = (some b, s2)) :
    ∃ t, exec (.confKeys q) s = .next t ∧
      t.folio (c.arg 0x28 1) = { s2.folio (c.arg 0x28 1) with qkeys := tput (c.arg 0x29 1) b (s2.folio (c.arg 0x28 1)).qkeys } := by
  refine ⟨_, by simp only [exec_eq_confKeys, execConfKeys, runCmd_taken h, hconf, if_neg (Nat.not_lt.mpr hslot), if_neg haddr, hread]; rfl, ?_⟩
  rw [State.cmdDone_at_folio, State.folio_setFolio_self]

theorem confKeys_empties (h : Taken s q 0x60 x c s1) (hconf : s1.confArg (c.arg 0x28 1) = none) (hslot : c.arg 0x29 1 ≤ 3)
    (haddr : c.arg 0x30 8 = 0) :
    ∃ t, exec (.confKeys q) s = .next t ∧ tget (c.arg 0x29 1) (t.folio (c.arg 0x28 1)).qkeys = none ∧
      ∀ k, k ≠ c.arg 0x29 1 → tget k (t.folio (c.arg 0x28 1)).qkeys = tget k (s1.folio (c.arg 0x28 1)).qkeys := by
  refine ⟨_, by simp only [exec_eq_confKeys, execConfKeys, runCmd_taken h, hconf, if_neg (Nat.not_lt.mpr hslot), if_pos haddr]; rfl, ?_⟩
  rw [State.cmdDone_at_folio, State.folio_setFolio_self]
  exact ⟨tget_tdel_self .., fun k hk => tget_tdel_ne hk _⟩

/-- Memory slices may change, folios and memories do not. -/
def SameFolios (s t : State) : Prop := t.folios = s.folios ∧ SameMemory s t

theorem SameFolios.startRotation (s : State) (l : List Nat) :
    SameFolios s (foldS l s (fun st m => st.setMemSlice m { st.memSlice m with rotAt := some 0 })) :=
  foldS_keeps (P := SameFolios s) ⟨rfl, rfl, rfl, rfl, rfl⟩ l (fun st m => st.setMemSlice m { st.memSlice m with rotAt := some 0 }) (fun _ _ h => h)

/-- The folio of a rotation that starts: the next key epoch, the old keys kept, the command noted. -/
def Folio.rotating (x : Folio) (q : Nat) (keys : Keys) : Folio :=
  { x with keys, oldKeys := x.keys, prevKeys := true, keyEpoch := (x.keyEpoch + 1) % 256, rotQueue := some q }

theorem keyRotate_starts (h : Taken s q 0x61 x c s1) (hconf : s1.confArg (c.arg 0x28 1) = none)
    (hidle : (s1.folio (c.arg 0x28 1)).prevKeys = false) :
    ∃ t, exec (.keyRotate q) s = .next t ∧ t.folio (c.arg 0x28 1) = (s1.folio (c.arg 0x28 1)).rotating q s1.freeKeys ∧ SameMemory s1 t := by
  have hgo : ¬ (s1.folio (c.arg 0x28 1)).prevKeys = true := by simp [hidle]
  refine ⟨_, by simp only [exec_eq_keyRotate, execKeyRotate, runCmd_taken h, hconf, if_neg hgo]; rfl, ?_⟩
  obtain ⟨hfolios, hhbm, hhost, hpoison, htags⟩ := SameFolios.startRotation
    (s1.useFree.useFree.useFree.setFolio (c.arg 0x28 1) ((s1.folio (c.arg 0x28 1)).rotating q s1.freeKeys)) (s1.folioMems (c.arg 0x28 1))
  simp only [SameMemory, State.setPhase_at_folio, State.setPhase_hbm, State.setPhase_host, State.setPhase_poison, State.setPhase_tags]
  refine ⟨?_, hhbm, hhost, hpoison, htags⟩
  exact (congrArg (tgetD ({} : Folio) (c.arg 0x28 1)) hfolios).trans (State.folio_setFolio_self (s := s1.useFree.useFree.useFree) _ _)

theorem exec_keyRotate_busy (h : Taken s q 0x61 x c s1) (hconf : s1.confArg (c.arg 0x28 1) = none)
    (hbusy : (s1.folio (c.arg 0x28 1)).prevKeys = true) : exec (.keyRotate q) s = .next (s1.cmdDone q 5 0) := by
  simp only [exec_eq_keyRotate, execKeyRotate, runCmd_taken h, hconf, if_pos hbusy]

theorem exec_keyRotateDone_drained {f : Nat} (hq : (s.folio f).rotQueue = some q) (hnone : s.oldInflight f = 0) :
    exec (.keyRotateDone f) s =
      .next (((foldS (s.folioMems f) s (fun st m =>
        let st1 := if (st.memSlice m).rotAt.isSome then st.rotateUnits m rotEnd else st
        st1.setMemSlice m { st1.memSlice m with rotAt := none })).setFolio f
          { s.folio f with prevKeys := false, oldKeys := {}, rotQueue := none }).cmdDone q 0 0) := by
  simp only [exec_eq_keyRotateDone, execKeyRotateDone, hq, if_neg (not_not_intro hnone)]

theorem exec_keyRotateDone_inFlight {f : Nat} (hq : (s.folio f).rotQueue = some q) (hsome : s.oldInflight f ≠ 0) :
    exec (.keyRotateDone f) s = .next s := by
  simp only [exec_eq_keyRotateDone, execKeyRotateDone, hq, if_pos hsome]
  rfl

theorem exec_attest_mgmt {n : Bytes} (h : Taken s q 0x62 x c s1) (htype : x.type = .mgmt) (hok : s1.folioBad (c.arg 0x28 1) 0x28 = none)
    (haddr : c.arg 0x38 8 ≠ 0) (hindex : c.index.isSome = true) (hread : s1.hubRead x.ctx (c.arg 0x30 8) 32 = (some n, s2))
    (hwrite : s2.hubWrite x.ctx (c.arg 0x38 8) (s2.attestReport (c.arg 0x28 1) n) = (true, s3)) :
    exec (.attest q) s = .next (s3.cmdDone q 0 0) := by
  have hgo : ¬ (c.arg 0x38 8 = 0 ∨ c.index.isNone = true) := by
    rw [← Option.not_isSome, hindex]
    simpa using haddr
  simp only [exec_eq_attest, execAttest, runCmd_taken h, htype, if_true, hok, if_neg hgo, hread, hwrite]

end Keys

/-- Settles O42: each command by the branch of its clause; a rotation that starts moves the folio on and leaves the memories. -/
theorem keysAndAttestation : Obligations.KeysAndAttestation := by
  refine ⟨fun s s1 s2 q x c b h hconf hslot haddr hread => confKeys_reads h hconf hslot haddr hread,
    fun s s1 q x c h hconf hslot haddr => confKeys_empties h hconf hslot haddr, ?rotate,
    fun s s1 q x c h hconf hbusy => exec_keyRotate_busy h hconf hbusy, fun s f q hq hnone => ⟨_, rfl, exec_keyRotateDone_drained hq hnone⟩,
    fun s f q hq hsome => exec_keyRotateDone_inFlight hq hsome,
    fun s s1 s2 s3 q x c n h htype hok haddr hindex hread hwrite => exec_attest_mgmt h htype hok haddr hindex hread hwrite⟩
  case rotate =>
    intro s s1 q x c h hconf hidle
    obtain ⟨t, hexec, hfolio, hmem⟩ := keyRotate_starts h hconf hidle
    exact ⟨t, hexec, by rw [hfolio]; rfl, by rw [hfolio]; rfl, by rw [hfolio]; rfl, hmem⟩

/-! ## Urgency and the spine (R275, R282, R289-R293) -/

section Urgency

variable {s : State} {m : Nat}

/-- A master's level after its measurement, and since when it has been level 2. -/
def State.atUrgency (s : State) (m n : Nat) : State :=
  { s with
    urgency := tputD 0 m n s.urgency
    urgSince := if n = 2 then (if s.urgLevel m = 2 then s.urgSince else tput m s.hubCount s.urgSince) else tdel m s.urgSince
    urgNoted := if n = 2 then s.urgNoted else sdel m s.urgNoted }

theorem exec_urgencyLevelChange (hm : s.isMaster m = true) (fill : Nat) :
    exec (.urgencyLevelChange m fill) s = .next (s.atUrgency m (urgNext (s.urgThr m) (s.urgLevel m) (s.urgFill m fill))) :=
  if_neg (not_not_intro hm)

theorem urgNext_cases (thr : Nat × Nat × Nat) (level fill : Nat) :
    (thr.2.1 ≤ fill → urgNext thr level fill = 2) ∧ (fill < thr.2.1 → level < 2 → thr.1 ≤ fill → urgNext thr level fill = 1) ∧
      (fill < thr.1 → fill < thr.2.1 → level = 0 → urgNext thr level fill = 0) := by
  unfold urgNext
  refine ⟨fun h => if_pos h, fun hlow hlevel hmid => ?_, fun hlow1 hlow2 hzero => ?_⟩
  · rw [if_neg (Nat.not_le.mpr hlow), if_neg (fun h => Nat.ne_of_lt hlevel h.1), if_pos hmid]
  · rw [if_neg (Nat.not_le.mpr hlow2), if_neg (by omega), if_neg (Nat.not_le.mpr hlow1), if_neg (by omega)]

theorem contains_sadd (k : Nat) (l : List Nat) : (sadd k l).contains k = true := by
  unfold sadd
  split
  next h => exact h
  next => simp

/-- A master at level 2 for 100 us is noted, once. -/
theorem urgencyHeld_notes {k a o since : Nat} (hsince : tget m s.urgSince = some since) (hlevel : s.urgLevel m = 2)
    (htime : since + 100000 ≤ s.hubCount) (hnew : s.urgNoted.contains m = false) :
    ∃ t, exec (.urgencyHeld m k a o) s = .next t ∧ t.urgNoted.contains m = true ∧ t.urgency = s.urgency ∧
      exec (.urgencyHeld m k a o) t = .next t := by
  have hgo : ¬ (s.urgLevel m ≠ 2 ∨ s.hubCount < since + 100000 ∨ s.urgNoted.contains m = true) := by
    rw [hnew, hlevel]
    simpa using htime
  refine ⟨_, by simp only [exec_eq_urgencyHeld, execUrgencyHeld, hsince, if_neg hgo]; rfl, contains_sadd .., ?_, ?_⟩
  · exact (State.ringPut_aside (Aside.rfl' s) ..).urgency
  · generalize hrec : s.record tyUrgencyHeld 0x3F 0 0xFFFF 18 _ = rec
    have hkept : tget m (s.ringPut 0 rec).urgSince = some since := by
      rw [(State.ringPut_aside (Aside.rfl' s) 0 rec).urgSince]
      exact hsince
    simp only [exec_eq_urgencyHeld, execUrgencyHeld, hkept, contains_sadd, or_true, if_true]
    rfl

theorem exec_fabQosWtWrite {d : Nat} (hd : d ≤ 1) (hrails : s.clasp.rails = true) (w : BitVec 32) :
    exec (.fabQosWtWrite d w) s = .next (s.writeFld (rQosWt d) 0 32 w.toNat) := by
  have hgo : ¬ (1 < d ∨ ¬ s.clasp.rails = true) := by simp [hd, hrails]
  exact if_neg hgo

end Urgency

section Spine

variable {s : State} {l : Nat}

@[simp] theorem State.lane_setLane_self (v : Lane3) : (s.setLane l v).lane l = v := tgetD_tputD_self _ _ _ _

theorem State.lane_setLane_ne {j : Nat} (h : j ≠ l) (v : Lane3) : (s.setLane l v).lane j = s.lane j := tgetD_tputD_ne h _ _ _

theorem State.lane_bumpFld (c lo wd k j : Nat) : (s.bumpFld c lo wd k).lane j = s.lane j := rfl

theorem State.lane_laneReinit : (s.laneReinit l).lane l = { s.lane l with up := false } := by
  rw [State.laneReinit, State.lane_bumpFld, State.lane_bumpFld, State.lane_setLane_self]

theorem State.lane_laneReinit_ne {j : Nat} (h : j ≠ l) : (s.laneReinit l).lane j = s.lane j := by
  rw [State.laneReinit, State.lane_bumpFld, State.lane_bumpFld, State.lane_setLane_ne h]

/-- The replays of a lane in the window of 1 ms that stands now, this one counted. -/
def State.replaysNow (s : State) (l : Nat) : Nat := if (s.lane l).window = s.hubCount / 1000000 then (s.lane l).replays + 1 else 1

/-- A replay counted on a lane. -/
def State.countReplay (s : State) (d l : Nat) : State :=
  (s.bumpFld (rSpine d) 0 16 1).setLane l
    { s.lane l with replays := s.replaysNow l, window := s.hubCount / 1000000 }

theorem exec_spineReplay {d : Nat} (hd : d ≤ 1) (hl : l ≤ 2) (hup : (s.lane l).up = true) (hon : s.spineOn = true) :
    exec (.spineReplay d l) s =
      .next (if 16 < s.replaysNow l then (s.countReplay d l).laneReinit l else s.countReplay d l) := by
  have hgo : ¬ (1 < d ∨ 2 < l ∨ ¬ (s.lane l).up = true ∨ ¬ s.spineOn = true) := by simp [hd, hl, hup, hon]
  exact if_neg hgo

theorem State.spineFailed_countReplay (d : Nat) : (s.countReplay d l).spineFailed = s.spineFailed := rfl

theorem State.spineFailed_laneReinit : (s.laneReinit l).spineFailed = s.spineFailed := by
  rw [State.laneReinit, State.bumpFld_spineFailed, State.bumpFld_spineFailed]
  rfl

/-- The seventeenth replay in a window takes the lane down, and no other does. -/
theorem spineReplay_counts {d : Nat} (hd : d ≤ 1) (hl : l ≤ 2) (hup : (s.lane l).up = true) (hon : s.spineOn = true) :
    ∃ t, exec (.spineReplay d l) s = .next t ∧
      ((t.lane l).up = false ↔ (s.lane l).window = s.hubCount / 1000000 ∧ 16 ≤ (s.lane l).replays) ∧
      (∀ j, j ≠ l → t.lane j = s.lane j) ∧ t.spineFailed = false := by
  have hgood : s.spineFailed = false := by
    unfold State.spineOn at hon
    simp only [Bool.and_eq_true, Bool.not_eq_true'] at hon
    exact hon.2
  have hcount : 16 < s.replaysNow l ↔ (s.lane l).window = s.hubCount / 1000000 ∧ 16 ≤ (s.lane l).replays := by
    unfold State.replaysNow
    split <;> omega
  have hothers : ∀ j, j ≠ l → (s.countReplay d l).lane j = s.lane j := by
    intro j hj
    rw [State.countReplay, State.lane_setLane_ne hj, State.lane_bumpFld]
  refine ⟨_, exec_spineReplay hd hl hup hon, ?_⟩
  split
  next hmany =>
    refine ⟨?_, fun j hj => (State.lane_laneReinit_ne hj).trans (hothers j hj),
      (State.spineFailed_laneReinit.trans (State.spineFailed_countReplay d)).trans hgood⟩
    rw [State.lane_laneReinit]
    exact ⟨fun _ => hcount.mp hmany, fun _ => rfl⟩
  next hfew =>
    refine ⟨?_, hothers, (State.spineFailed_countReplay d).trans hgood⟩
    rw [State.countReplay, State.lane_setLane_self]
    exact ⟨fun hdown => absurd (hup.symm.trans hdown) (by decide), fun h => absurd (hcount.mpr h) hfew⟩

theorem spineLaneReinit_downs (hl : l ≤ 2) (hup : (s.lane l).up = true) (hon : s.spineOn = true) :
    ∃ t, exec (.spineLaneReinit l) s = .next t ∧ t.lane l = { s.lane l with up := false } ∧ ∀ j, j ≠ l → t.lane j = s.lane j := by
  have hgo : ¬ (2 < l ∨ ¬ (s.lane l).up = true ∨ ¬ s.spineOn = true) := by simp [hl, hup, hon]
  exact ⟨_, if_neg hgo, State.lane_laneReinit, fun j hj => State.lane_laneReinit_ne hj⟩

theorem exec_spineReinitDone (hl : l ≤ 2) (hdown : (s.lane l).up = false) (hon : s.spineOn = true) (ok : Bool) :
    exec (.spineReinitDone l ok) s =
      (if ok = true then .next { s.setLane l { s.lane l with up := true, replays := 0, fails := 0 } with net := s.net.renewLane l }
       else if (s.lane l).fails < 2 then .next (s.setLane l { s.lane l with fails := (s.lane l).fails + 1 })
       else .next (({ s with spineFailed := true, spine := [] }).useFree.dieFail s.spineLoser (s.freeNat % 256))) := by
  have hgo : ¬ (2 < l ∨ (s.lane l).up = true ∨ ¬ s.spineOn = true) := by simp [hl, hdown, hon]
  exact if_neg hgo

end Spine

/-- Settles O43: a measurement by `urgNext`, the record by its note, the spine by what counting and re-initialising leave of each lane. -/
theorem urgencyAndSpine : Obligations.UrgencyAndSpine := by
  refine ⟨?level, fun thr level fill => urgNext_cases thr level fill, ?since,
    fun s m k a o since hsince hlevel htime hnew => urgencyHeld_notes hsince hlevel htime hnew,
    fun s d w hd hrails => exec_fabQosWtWrite hd hrails w, fun s d l hd hl hup hon => spineReplay_counts hd hl hup hon,
    fun s l hl hup hon => spineLaneReinit_downs hl hup hon, fun s l hl hdown hon => (exec_spineReinitDone hl hdown hon true).trans (if_pos rfl),
    ?again, ?third⟩
  case level =>
    intro s m fill hm
    exact ⟨_, exec_urgencyLevelChange hm fill, tgetD_tputD_self .., fun j hj => tgetD_tputD_ne hj .., rfl, rfl, rfl, rfl, rfl, rfl⟩
  case since =>
    intro s m fill hm hbelow hnow
    refine ⟨_, exec_urgencyLevelChange hm fill, ?_⟩
    rw [hnow]
    simp only [State.atUrgency, if_true, if_neg hbelow]
    exact tget_tput_self ..
  case again =>
    intro s l hl hdown hon hfew
    exact (exec_spineReinitDone hl hdown hon false).trans (if_pos hfew)
  case third =>
    intro s l hl hdown hon hmany
    exact ⟨_, rfl, (exec_spineReinitDone hl hdown hon false).trans (if_neg (Nat.not_lt.mpr hmany))⟩

end Sys2Proof.Machine

namespace Sys2Proof.Machine

/-! ## Correlation samples and the forerunner window (R38-R43, R502) -/

section Samples

variable {s : State}

theorem exec_corrEventSample {i : Nat} {d : Nat × Nat} (hd : s.corrDue.find? (fun d => d.2 == i) = some d) :
    exec (.corrEventSample i) s =
      .next (if bit (s.reg rCorrCtl) 0 ∧ bit (s.reg rCorrCtl) 14 then ({ s with corrDue := dropDue i s.corrDue }).postSample d.1 i
        else { s with corrDue := dropDue i s.corrDue }) := by
  simp only [exec_eq_corrEventSample, execCorrEventSample, hd]

theorem exec_corrPeriodicSample_due (hrails : s.clasp.rails = true) (hen : bit (s.reg rCorrCtl) 0 = true)
    (htime : s.corrFrom + 100000 * s.corrPeriod ≤ s.hubCount) :
    exec .corrPeriodicSample s = .next (({ s with corrFrom := s.corrFrom + 100000 * s.corrPeriod }).postSample 0 0x1F) := by
  have hgo : ¬ (¬ s.clasp.rails = true ∨ ¬ bit (s.reg rCorrCtl) 0 = true ∨ s.hubCount < s.corrFrom + 100000 * s.corrPeriod) := by
    simp [hrails, hen, htime]
  exact if_neg hgo

/-- A captured count stands within 2 of the count and its delivery delay; the hub's own is exact (R39). -/
theorem State.captured_near (n i : Nat) : s.captured n 18 = s.hubCount ∧
    (i ≠ 18 → s.count i + Config.captureDelay i ≤ s.captured n i + 2 ∧ s.captured n i ≤ s.count i + Config.captureDelay i + 2) := by
  refine ⟨if_pos rfl, fun hi => ?_⟩
  have hopen : n / 5 ^ i % 5 < 5 := Nat.mod_lt _ (by decide)
  rw [State.captured, if_neg hi]
  omega

theorem State.length_sample (q r c n : Nat) (see : Nat → Bool) : (s.sample q r c n see).length = 256 := by
  simp only [State.sample, List.length_append, length_le, List.length_flatMap, zeros, List.length_replicate, List.map_const', List.length_range,
    List.sum_replicate]
  rfl

theorem State.take_sample (q r c n : Nat) (see : Nat → Bool) : (s.sample q r c n see).take 8 = le 8 q := by
  simp only [State.sample, List.append_assoc]
  exact List.take_left' (length_le 8 q)

/-- The sequence number of the next sample. -/
def State.nextSeq (s : State) : State := { s with corrSeq := (s.corrSeq + 1) % 2 ^ 64 }

/-- Posting a sample raises the sequence number, and beside it writes to the rings' memory alone. -/
theorem State.postSample_noted (reason cause : Nat) : Noted s.nextSeq (s.postSample reason cause) := by
  have hstart : Noted s.nextSeq s.nextSeq.useFree := State.useFree_noted (Noted.rfl' _)
  unfold State.postSample
  refine foldS_noted ?_ _ _ (fun st f h => State.hostWrite_noted h _ _)
  exact Noted.ite hstart (State.hostWrite_noted hstart _ _)

/-- With no ring enabled nothing is written. -/
theorem State.postSample_host {reason cause : Nat} (hbase : s.fld rCorrBase 12 34 = 0) (hfolios : s.folios = []) :
    (s.postSample reason cause).host = s.host := by
  simp only [State.postSample, hbase, hfolios, Nat.zero_mul, if_true, List.filter_nil, List.map_nil, foldS, List.foldl_nil]
  rfl

theorem bit_eq_testBit_bits (n i : Nat) : bit n i = (bits n i 1).testBit 0 := by
  rw [testBit_bits]
  simp [bit]

/-- Two numbers that agree in a field of one bit agree in that bit. -/
theorem bit_eq_of_bits_eq {m n i : Nat} (h : bits m i 1 = bits n i 1) : bit m i = bit n i := by
  rw [bit_eq_testBit_bits, bit_eq_testBit_bits, h]

/-- The fields of HUB_CORR_CTL as a write leaves them. -/
def State.corrFields (s : State) (v : Nat) : State :=
  ((s.writeFld rCorrCtl 0 1 v).setFld rCorrCtl 4 10 (v / 2 ^ 4)).setFld rCorrCtl 14 1 (v / 2 ^ 14)

theorem State.corrFields_en (v : Nat) : (s.corrFields v).fld rCorrCtl 0 1 = bits v 0 1 := by
  rw [State.corrFields, State.fld_setFld_ne _ (by decide) (by decide), State.fld_setFld_ne _ (by decide) (by decide),
    State.fld_writeFld_self _ (by decide), bits_eq, pow_zero, Nat.div_one]

theorem State.corrFields_period (v : Nat) : (s.corrFields v).fld rCorrCtl 4 10 = bits v 4 10 := by
  rw [State.corrFields, State.fld_setFld_ne _ (by decide) (by decide), State.fld_setFld_self _ (by decide), bits_eq]

theorem State.corrFields_fchg (v : Nat) : (s.corrFields v).fld rCorrCtl 14 1 = bits v 14 1 := by
  rw [State.corrFields, State.fld_setFld_self _ (by decide), bits_eq]

theorem State.corrFields_onlyRegs (v : Nat) : OnlyRegs s (s.corrFields v) :=
  OnlyRegs.trans (OnlyRegs.trans (onlyRegs_writeFld ..) (onlyRegs_setReg ..)) (onlyRegs_setReg ..)

/-- The state of a write of HUB_CORR_CTL before the sample that REQ asks for. -/
def State.corrSet (s : State) (v : Nat) : State :=
  if bits v 4 10 ≠ bits (s.reg rCorrCtl) 4 10 ∨ (bit v 0 ∧ ¬ bit (s.reg rCorrCtl) 0) then { s.corrFields v with corrFrom := (s.corrFields v).hubCount }
  else s.corrFields v

theorem State.corrSet_regs (v : Nat) : (s.corrSet v).regs = (s.corrFields v).regs := by
  unfold State.corrSet
  split <;> rfl

theorem State.corrSet_corrSeq (v : Nat) : (s.corrSet v).corrSeq = s.corrSeq := by
  have hseq : (s.corrFields v).corrSeq = s.corrSeq := by rw [State.corrFields_onlyRegs v]
  unfold State.corrSet
  split <;> exact hseq

theorem State.corrSet_corrFrom {v : Nat} (h : bits v 4 10 ≠ s.fld rCorrCtl 4 10) : (s.corrSet v).corrFrom = s.hubCount := by
  have hcount : (s.corrFields v).hubCount = s.hubCount := by rw [State.corrFields_onlyRegs v]
  have hperiod : bits v 4 10 ≠ bits (s.reg rCorrCtl) 4 10 := h
  rw [State.corrSet, if_pos (Or.inl hperiod)]
  exact hcount

theorem exec_corrPeriodRestart (hrails : s.clasp.rails = true) (w : Word) :
    exec (.corrPeriodRestart w) s =
      .next (if bit w.toNat 1 then (s.corrSet w.toNat).postSample 3 0x1F else s.corrSet w.toNat) :=
  if_pos hrails

/-- What a write of HUB_CORR_CTL leaves: its fields, the period's start where the period changed, a sample more where REQ is set. -/
theorem corrPeriodRestart_writes (hrails : s.clasp.rails = true) (w : Word) :
    ∃ t, exec (.corrPeriodRestart w) s = .next t ∧ t.regs = (s.corrFields w.toNat).regs ∧ t.corrFrom = (s.corrSet w.toNat).corrFrom ∧
      t.corrSeq = if bit w.toNat 1 then (s.corrSeq + 1) % 2 ^ 64 else s.corrSeq := by
  refine ⟨_, exec_corrPeriodRestart hrails w, ?_⟩
  have hposted := State.postSample_noted (s := s.corrSet w.toNat) 3 0x1F
  split
  · refine ⟨hposted.regs.trans (State.corrSet_regs _), hposted.corrFrom, hposted.corrSeq.trans ?_⟩
    rw [State.nextSeq, State.corrSet_corrSeq]
  · exact ⟨State.corrSet_regs _, rfl, State.corrSet_corrSeq _⟩

theorem exec_forerunnerRefresh_due (hrails : s.clasp.rails = true) (htime : s.foreAt + 10000000 ≤ s.hubCount) :
    exec .forerunnerRefresh s = .next
      ({ s with foreAt := s.hubCount, fore := tmap (fun i (c : Context) => s.foreEntry (s.freeNat / 2 ^ (32 * i)) c) s.ctxs }).useFree := by
  have hgo : ¬ (¬ s.clasp.rails = true ∨ s.hubCount < s.foreAt + 10000000) := by simp [hrails, htime]
  exact if_neg hgo

end Samples

/-- Settles O44: the samples by what posting one leaves; HUB_CORR_CTL by its three fields. -/
theorem correlationSamplesAreTaken : Obligations.CorrelationSamplesAreTaken := by
  refine ⟨?posted, ?dropped, fun s hrails hen htime => exec_corrPeriodicSample_due hrails hen htime, fun s hrails => if_pos hrails,
    fun s n i => State.captured_near n i, fun s q r c n see => ⟨State.length_sample q r c n see, State.take_sample q r c n see⟩, ?kept,
    fun s r c hbase hfolios => State.postSample_host hbase hfolios, ?restart,
    fun s hrails htime => exec_forerunnerRefresh_due hrails htime⟩
  case posted =>
    intro s i d hd hen hfchg
    rw [exec_corrEventSample hd, if_pos ⟨hen, hfchg⟩]
  case dropped =>
    intro s i d hd hoff
    have hnot : ¬ (bit (s.reg rCorrCtl) 0 = true ∧ bit (s.reg rCorrCtl) 14 = true) := by
      rcases hoff with hoff | hoff <;> simp [hoff]
    rw [exec_corrEventSample hd, if_neg hnot]
  case kept =>
    intro s r c
    have hposted := State.postSample_noted (s := s) r c
    exact ⟨hposted.corrSeq, hposted.pending, hposted.regs, hposted.cores⟩
  case restart =>
    intro s w hrails
    obtain ⟨t, hexec, hregs, hfrom, hseq⟩ := corrPeriodRestart_writes hrails w
    have hreg : t.reg rCorrCtl = (s.corrFields w.toNat).reg rCorrCtl := by simp only [State.reg, hregs]
    refine ⟨t, hexec, ?_, ?_, ?_, fun hperiod => hfrom.trans (State.corrSet_corrFrom hperiod), fun hreq => ?_, fun hreq => ?_⟩
    · rw [hreg]
      exact State.corrFields_period _
    · rw [hreg]
      exact bit_eq_of_bits_eq (State.corrFields_en _)
    · rw [hreg]
      exact bit_eq_of_bits_eq (State.corrFields_fchg _)
    · rw [hseq, if_pos hreq]
    · rw [hseq, hreq]
      rfl

end Sys2Proof.Machine

namespace Sys2Proof.Machine

/-! ## BAR0 accesses, the debug window, latency maxima, the sticky log (R296, R609-R628) -/

section Accesses

variable {s : State} {off z c : Nat}

/-- An access in the range of BAR0 while the rails are up. -/
theorem bar0_open (hrails : s.clasp.rails = true) (hoff : off < 0x4000000) : ¬ (¬ s.clasp.rails = true ∨ 0x4000000 ≤ off) := by
  simp [hrails, hoff]

theorem exec_registerWrite_hole (hslot : s.slotAt off = none) (v : Word) : exec (.registerWrite off z v) s = .next s := by
  simp only [exec_eq_registerWrite, execRegisterWrite, hslot, stay, ite_self]

theorem exec_registerWrite_slot (hrails : s.clasp.rails = true) (hoff : off < 0x4000000) (hslot : s.slotAt off = some c) (v : Word) :
    exec (.registerWrite off z v) s =
      (if badAccess c off z true = true then .next (s.hwError 18 9 4 off 0 0x3F 0xFFFF)
       else if s.dark (regIsland c) = true then .next (s.darkRecord (regIsland c) off) else .next (s.slotWrite c off z v)) := by
  simp only [exec_eq_registerWrite, execRegisterWrite, if_neg (bar0_open hrails hoff), hslot]

theorem exec_registerWrite_good (hrails : s.clasp.rails = true) (hoff : off < 0x4000000) (hslot : s.slotAt off = some c)
    (hgood : badAccess c off z true = false) (hrun : s.dark (regIsland c) = false) (v : Word) :
    exec (.registerWrite off z v) s = .next (s.slotWrite c off z v) := by
  rw [exec_registerWrite_slot hrails hoff hslot, hgood, hrun]
  rfl

theorem exec_readClear_hole (hrails : s.clasp.rails = true) (hoff : off < 0x4000000) (hslot : s.slotAt off = none) :
    exec (.readClear off z) s = .next (s.emit (.regRead off 0)) := by
  simp only [exec_eq_readClear, execReadClear, if_neg (bar0_open hrails hoff), hslot]

theorem exec_readClear_slot (hrails : s.clasp.rails = true) (hoff : off < 0x4000000) (hslot : s.slotAt off = some c)
    (hgood : badAccess c off z false = false) :
    exec (.readClear off z) s =
      (if s.dark (regIsland c) = true then .next ((s.darkRecord (regIsland c) off).emit (.regReadAll1 off z))
       else .next ((s.slotRead c off z).2.emit (.regRead off (BitVec.ofNat 64 (accDown off z (s.slotRead c off z).1))))) := by
  simp only [exec_eq_readClear, execReadClear, if_neg (bar0_open hrails hoff), hslot, hgood, Bool.false_eq_true, if_false]

theorem exec_readClear_running (hrails : s.clasp.rails = true) (hoff : off < 0x4000000) (hslot : s.slotAt off = some c)
    (hgood : badAccess c off z false = false) (hrun : s.dark (regIsland c) = false) :
    exec (.readClear off z) s = .next ((s.slotRead c off z).2.emit (.regRead off (BitVec.ofNat 64 (accDown off z (s.slotRead c off z).1)))) := by
  rw [exec_readClear_slot hrails hoff hslot hgood, hrun]
  rfl

/-- Outside the core pages a read answers the slot and clears what clears. -/
theorem State.slotRead_plain (hplain : coreSlot c = none) : s.slotRead c off z = (s.readReg c, s.clearRc c (accMask off z)) := by
  simp only [State.slotRead, hplain]

theorem exec_registerAccessTimeout (hrails : s.clasp.rails = true) (hoff : off < 0x4000000) (hslot : s.slotAt off = some c) {w : Option Word}
    (hgood : badAccess c off z w.isSome = false) (hrun : s.dark (regIsland c) = false) :
    exec (.registerAccessTimeout off z w) s =
      (match w with
       | none => .next ((s.hwError 18 9 3 off 0 0x3F 0xFFFF).emit (.regReadAll1 off z))
       | some v => .next ((if s.freeNat % 2 = 1 then s.useFree.slotWrite c off z v else s.useFree).hwError 18 9 3 off 0 0x3F 0xFFFF)) := by
  simp only [exec_eq_registerAccessTimeout, execRegisterAccessTimeout, if_neg (bar0_open hrails hoff), hslot, hgood, hrun, Bool.false_eq_true, or_self, if_false] <;>
    (cases w <;> rfl)

end Accesses

section DebugWindow

variable {s : State} {k : Nat}

theorem badAccess_dbgData (w : Bool) : badAccess (rDbgData k) (rDbgData k) 8 w = false := by
  have haligned : rDbgData k % 8 = 0 := by
    unfold rDbgData corePage
    omega
  simp [badAccess, haligned]

theorem lt_of_coreSlot {c : Nat} (h : coreSlot c = some k) : c < 0x4000000 := by
  unfold coreSlot at h
  split at h
  next hpage => omega
  next => cases h

theorem State.slotRead_dbgData {c : Nat} (hc : c = rDbgData k) (hcore : coreSlot c = some k) (off z : Nat) :
    s.slotRead c off z = s.dbgAccess k none := by
  simp only [State.slotRead, hcore]
  exact if_pos hc

theorem State.slotWrite_dbgData {c : Nat} (hc : c = rDbgData k) (hcore : coreSlot c = some k) (off z : Nat) (v : Word) :
    s.slotWrite c off z v = (s.dbgAccess k (some v)).2 := by
  simp only [State.slotWrite, hcore]
  exact if_pos hc

/-- An 8-byte access at CMP_DBG_DATA moves one word, one way or the other. -/
theorem exec_cmpDbgDataAccess (hk : k ≤ 575) (hrails : s.clasp.rails = true) (hslot : s.slotAt (rDbgData k) = some (rDbgData k))
    (hcore : coreSlot (rDbgData k) = some k) (hrun : s.dark (regIsland (rDbgData k)) = false) :
    exec (.cmpDbgDataAccess k none) s = .next ((s.dbgAccess k none).2.emit (.regRead (rDbgData k) (BitVec.ofNat 64 (s.dbgAccess k none).1))) ∧
      ∀ v, exec (.cmpDbgDataAccess k (some v)) s = .next (s.dbgAccess k (some v)).2 := by
  have hread := exec_readClear_running hrails (lt_of_coreSlot hcore) hslot (badAccess_dbgData false) hrun
  have hwrite := exec_registerWrite_good hrails (lt_of_coreSlot hcore) hslot (badAccess_dbgData true) hrun
  rw [State.slotRead_dbgData rfl hcore] at hread
  simp only [State.slotWrite_dbgData rfl hcore] at hwrite
  exact ⟨(if_neg (Nat.not_lt.mpr hk)).trans hread, fun v => (if_neg (Nat.not_lt.mpr hk)).trans (hwrite v)⟩

theorem State.reg_dbgStore (acc : Bool) (word : Nat) (v : Word) (c : Nat) : (s.dbgStore k acc word v).reg c = s.reg c := by
  unfold State.dbgStore
  dsimp only
  split_ifs <;> rfl

theorem rDbgAddr_ne_rSecStat : rDbgAddr k ≠ rSecStat := by
  unfold rDbgAddr corePage rSecStat
  omega

/-- An access advances WORD, whatever it finds. -/
theorem State.dbgAccess_word (w : Option Word) :
    (s.dbgAccess k w).2.fld (rDbgAddr k) 3 16 = (bits (s.reg (rDbgAddr k)) 3 16 + 1) % 2 ^ 16 := by
  have hnext : (s.setFld (rDbgAddr k) 3 16 (bits (s.reg (rDbgAddr k)) 3 16 + 1)).fld (rDbgAddr k) 3 16 =
      (bits (s.reg (rDbgAddr k)) 3 16 + 1) % 2 ^ 16 := State.fld_setFld_self _ (by decide) _
  unfold State.dbgAccess
  dsimp only
  split
  · exact (State.fld_setFld_other _ rDbgAddr_ne_rSecStat ..).trans hnext
  · cases w with
    | none => exact hnext
    | some v => exact (congrArg (bits · 3 16) (State.reg_dbgStore ..)).trans hnext

end DebugWindow

section Clearing

variable {s : State}

theorem State.reg_setReg_zero {c r : Nat} (h : s.reg r = 0) : (s.setReg c 0).reg r = 0 := by
  by_cases hr : r = c
  · rw [hr, State.reg_setReg_self]
    rfl
  · rw [State.reg_setReg_ne s hr, h]

/-- Registers written 0 one after the other read 0. -/
theorem State.reg_clearAll {f : Nat → Nat} (l : List Nat) {r : Nat} (h : r ∈ l.map f ∨ s.reg r = 0) :
    (foldS l s (fun st k => st.setReg (f k) 0)).reg r = 0 := by
  induction l generalizing s with
  | nil => exact h.resolve_left (List.not_mem_nil)
  | cons k t ih =>
    refine ih ?_
    rcases h with hmem | hzero
    · rcases List.mem_cons.mp hmem with rfl | hin
      · exact Or.inr (by rw [State.reg_setReg_self]; rfl)
      · exact Or.inl hin
    · exact Or.inr (State.reg_setReg_zero hzero)

/-- And no other register changes. -/
theorem State.reg_clearAll_other {f : Nat → Nat} (l : List Nat) {r : Nat} (h : r ∉ l.map f) :
    (foldS l s (fun st k => st.setReg (f k) 0)).reg r = s.reg r := by
  induction l generalizing s with
  | nil => rfl
  | cons k t ih =>
    rw [List.map_cons] at h
    obtain ⟨hne, hout⟩ := List.ne_and_not_mem_of_not_mem_cons h
    exact (ih hout).trans (State.reg_setReg_ne s hne 0)

/-- The maxima of a home's own folio and of the others are different registers. -/
theorem rLatOwn_ne_rLatOth {h j k : Nat} (hj : j < 4) : rLatOwn h j ≠ rLatOth h k := by
  unfold rLatOwn rLatOth
  omega

theorem rLatOth_not_mem_own {h k : Nat} : rLatOth h k ∉ (List.range 4).map (rLatOwn h) := by
  intro hmem
  obtain ⟨j, hj, heq⟩ := List.mem_map.mp hmem
  exact rLatOwn_ne_rLatOth (List.mem_range.mp hj) heq

theorem rLatOwn_not_mem_oth {h k : Nat} (hk : k < 4) : rLatOwn h k ∉ (List.range 4).map (rLatOth h) := by
  intro hmem
  obtain ⟨j, -, heq⟩ := List.mem_map.mp hmem
  exact rLatOwn_ne_rLatOth hk heq.symm

theorem homClr_open {h : Nat} (hh : h ≤ 63) (hrails : s.clasp.rails = true) : ¬ (63 < h ∨ ¬ s.clasp.rails = true) := by
  simp [hh, hrails]

theorem homClrOwn_clears {h : Nat} (hh : h ≤ 63) (hrails : s.clasp.rails = true) :
    ∃ t, exec (.homClrOwn h) s = .next t ∧ (∀ k, k < 4 → t.reg (rLatOwn h k) = 0) ∧ (∀ k, k < 4 → t.reg (rLatOth h k) = s.reg (rLatOth h k)) :=
  ⟨_, if_neg (homClr_open hh hrails),
    fun _ hk => State.reg_clearAll (f := rLatOwn h) _ (Or.inl (List.mem_map_of_mem (List.mem_range.mpr hk))),
    fun _ _ => State.reg_clearAll_other (f := rLatOwn h) _ rLatOth_not_mem_own⟩

theorem homClrOth_clears {h : Nat} (hh : h ≤ 63) (hrails : s.clasp.rails = true) :
    ∃ t, exec (.homClrOth h) s = .next t ∧ (∀ k, k < 4 → t.reg (rLatOth h k) = 0) ∧ (∀ k, k < 4 → t.reg (rLatOwn h k) = s.reg (rLatOwn h k)) :=
  ⟨_, if_neg (homClr_open hh hrails),
    fun _ hk => State.reg_clearAll (f := rLatOth h) _ (Or.inl (List.mem_map_of_mem (List.mem_range.mpr hk))),
    fun _ hk => State.reg_clearAll_other (f := rLatOth h) _ (rLatOwn_not_mem_oth hk)⟩

theorem State.errClear_log {k : Nat} (hk : k < 128) : s.errClear.reg (0x30100 + 8 * k) = 0 := by
  have hne : 0x30100 + 8 * k ≠ rErrStat := by
    unfold rErrStat
    omega
  rw [State.errClear, State.reg_setFld_ne _ hne, State.reg_setFld_ne _ hne]
  exact State.reg_clearAll (f := fun k => 0x30100 + 8 * k) _ (Or.inl (List.mem_map_of_mem (List.mem_range.mpr hk)))

theorem errLogClear_clears (hrails : s.clasp.rails = true) :
    ∃ t, exec .errLogClear s = .next t ∧ t.fld rErrStat 0 6 = 0 ∧ t.fld rErrStat 16 16 = 0 ∧ (∀ k, k < 128 → t.reg (0x30100 + 8 * k) = 0) := by
  refine ⟨_, if_pos hrails, ?_, ?_, fun k hk => State.errClear_log hk⟩
  · rw [State.errClear, State.fld_setFld_ne _ (by decide) (by decide), State.fld_setFld_self _ (by decide)]
    rfl
  · rw [State.errClear, State.fld_setFld_self _ (by decide)]
    rfl

end Clearing

/-- Settles O45: an access by its slot, its size and its island; the debug window by `dbgAccess`; the clears by the registers that they
write 0. -/
theorem registersAreReadAndWritten : Obligations.RegistersAreReadAndWritten := by
  refine ⟨fun s off z v c hrails hoff hslot hgood hrun => exec_registerWrite_good hrails hoff hslot hgood hrun v,
    fun s off z v hslot => exec_registerWrite_hole hslot v, ?bad, ?dark, ?read, fun s off z hrails hoff hslot => exec_readClear_hole hrails hoff hslot,
    ?readDark, ?lateRead, ?lateWrite, fun s k hk hrails hslot hcore hrun => exec_cmpDbgDataAccess hk hrails hslot hcore hrun,
    fun s k w => State.dbgAccess_word w, fun s h hh hrails => homClrOwn_clears hh hrails, fun s h hh hrails => homClrOth_clears hh hrails,
    fun s hrails => errLogClear_clears hrails⟩
  case bad =>
    intro s off z v c hrails hoff hslot hbad
    rw [exec_registerWrite_slot hrails hoff hslot, if_pos hbad]
  case dark =>
    intro s off z v c hrails hoff hslot hgood hdark
    rw [exec_registerWrite_slot hrails hoff hslot, hgood, hdark]
    rfl
  case read =>
    intro s off z c hrails hoff hslot hplain hgood hrun
    rw [exec_readClear_running hrails hoff hslot hgood hrun, State.slotRead_plain hplain]
  case readDark =>
    intro s off z c hrails hoff hslot hgood hdark
    rw [exec_readClear_slot hrails hoff hslot hgood, if_pos hdark]
  case lateRead =>
    intro s off z c hrails hoff hslot hgood hrun
    exact exec_registerAccessTimeout (w := none) hrails hoff hslot hgood hrun
  case lateWrite =>
    intro s off z v c hrails hoff hslot hgood hrun
    exact ⟨_, ite_eq_or_eq .., exec_registerAccessTimeout (w := some v) hrails hoff hslot hgood hrun⟩

end Sys2Proof.Machine

namespace Sys2Proof.Machine

/-! ## The configuration check and region power (R607, R621-R625) -/

section LogWrites

variable {s : State}

theorem rErrLog_ge (n : Nat) : 0x30000 < rErrLog n := by
  unfold rErrLog
  omega

/-- The sticky log takes a record in registers of its own, from 0x30000 up. -/
theorem State.reg_errLog {c : Nat} (hc : c < 0x30000) (ty code isl wher : Nat) : (s.errLog ty code isl wher).reg c = s.reg c := by
  have hlog := rErrLog_ge (s.fld rErrStat 0 6)
  have hstat : c ≠ rErrStat := by
    unfold rErrStat
    omega
  unfold State.errLog State.bumpFld
  rw [State.reg_setFld_ne _ hstat, State.reg_setFld_ne _ hstat, State.reg_setReg_ne _ (by omega), State.reg_setReg_ne _ (by omega)]

theorem State.reg_toTray (rec : Bytes) (c : Nat) : (s.toTray rec).reg c = s.reg c := by
  unfold State.toTray State.alert
  dsimp only
  split_ifs <;> rfl

theorem State.reg_ringPut (r : Nat) (rec : Bytes) (c : Nat) : (s.ringPut r rec).reg c = s.reg c := by
  simp only [State.reg, (State.ringPut_noted (Noted.rfl' s) r rec).regs]

/-- An error record leaves the registers below the sticky log. -/
theorem State.reg_hwError {c : Nat} (hc : c < 0x30000) (isl unit code wher addr folio ctx : Nat) :
    (s.hwError isl unit code wher addr folio ctx).reg c = s.reg c := by
  unfold State.hwError
  rw [State.reg_toTray, State.reg_errLog hc, State.reg_ringPut]

end LogWrites

section Sweeps

variable {s : State}

/-- A sweep's own state, beside the references that a commit takes. -/
def State.sweepBegun (s s1 : State) : State :=
  { s1 with cfg := { s1.cfg with sweeping := true, void := false, commitPend := false, capSweep := s.cfg.capSweep || s.cfg.capArmed, capArmed := false } }

theorem State.fld_sweepBegun (s1 : State) (c lo wd : Nat) : (s.sweepBegun s1).fld c lo wd = s1.fld c lo wd := rfl

/-- A sweep is due: the rails are up, none runs, and the count stands at a multiple. -/
theorem sweep_due (hrails : s.clasp.rails = true) (hidle : s.cfg.sweeping = false) (hcount : s.hubCount % 2 ^ 21 = 0) :
    ¬ (¬ s.clasp.rails = true ∨ s.cfg.sweeping = true ∨ s.hubCount % 2 ^ 21 ≠ 0) := by
  rintro (hdown | hbusy | hother)
  · exact hdown hrails
  · exact Bool.false_ne_true (hidle.symm.trans hbusy)
  · exact hother hcount

theorem exec_cfgSweepStart_due (hdue : ¬ (¬ s.clasp.rails = true ∨ s.cfg.sweeping = true ∨ s.hubCount % 2 ^ 21 ≠ 0)) :
    exec .cfgSweepStart s = .next (s.sweepBegun (if s.cfg.commitPend then s.setFld rCfgCur 32 32 (s.fld rCfgRef 0 32) else s)) :=
  if_neg hdue

theorem cfgSweepStart_starts (hrails : s.clasp.rails = true) (hidle : s.cfg.sweeping = false) (hcount : s.hubCount % 2 ^ 21 = 0) :
    ∃ t, exec .cfgSweepStart s = .next t ∧ t.cfg.sweeping = true ∧ t.cfg.void = false ∧ t.cfg.commitPend = false ∧ t.cfg.capArmed = false ∧
      (s.cfg.commitPend = true → t.fld rCfgCur 32 32 = s.fld rCfgRef 0 32) ∧ (s.cfg.commitPend = false → t.regs = s.regs) := by
  refine ⟨_, exec_cfgSweepStart_due (sweep_due hrails hidle hcount), rfl, rfl, rfl, rfl, fun hpend => ?_, fun hnone => ?_⟩
  · have hlt : s.fld rCfgRef 0 32 < 2 ^ 32 := bits_lt _ 0 32
    rw [if_pos hpend, State.fld_sweepBegun, State.fld_setFld_self _ (by decide), Nat.mod_eq_of_lt hlt]
  · rw [hnone]
    rfl

/-- The state in which a sweep has ended. -/
def State.sweepOver (s : State) : State := { s with cfg := { s.cfg with sweeping := false, void := false } }

theorem exec_cfgSweepEnd (hsweep : s.cfg.sweeping = true) :
    exec .cfgSweepEnd s =
      (let s1 := s.sweepOver.setFld rCfgCur 0 32 s.sweepCrc
       if s.cfg.void = true then .next s.sweepOver
       else if s.cfg.capSweep = true then
         .next (({ s1 with cfg := { s1.cfg with capSweep := false } }.setFld rCfgRef 0 32 s.sweepCrc).setFld rCfgCur 32 32 s.sweepCrc)
       else if ¬ bit (s.reg rCfgCtl) 0 = true then .next s1
       else if s.sweepCrc = s.fld rCfgCur 32 32 then .next { s1 with cfg := { s1.cfg with differed := false } }
       else .next (s1.cfgDiffers s.sweepCrc)) :=
  if_neg (not_not_intro hsweep)

theorem exec_cfgSweepEnd_void (hsweep : s.cfg.sweeping = true) (hvoid : s.cfg.void = true) : exec .cfgSweepEnd s = .next s.sweepOver :=
  (exec_cfgSweepEnd hsweep).trans (if_pos hvoid)

theorem rCfgCur_ne_rCfgRef : rCfgCur ≠ rCfgRef := by decide

theorem rCfgCtl_ne_rCfgCur : rCfgCtl ≠ rCfgCur := by decide

/-- The CRC that a sweep that was not void has found stands in CUR. -/
theorem State.fld_sweepCrc : (s.sweepOver.setFld rCfgCur 0 32 s.sweepCrc).fld rCfgCur 0 32 = s.sweepCrc % 2 ^ 32 :=
  State.fld_setFld_self _ (by decide) _

theorem cfgSweepEnd_captures (hsweep : s.cfg.sweeping = true) (hvoid : s.cfg.void = false) (hcap : s.cfg.capSweep = true) :
    ∃ t, exec .cfgSweepEnd s = .next t ∧ t.fld rCfgCur 0 32 = s.sweepCrc % 2 ^ 32 ∧ t.fld rCfgRef 0 32 = s.sweepCrc % 2 ^ 32 ∧
      t.fld rCfgCur 32 32 = s.sweepCrc % 2 ^ 32 ∧ t.cfg.capSweep = false := by
  have hnot : ¬ s.cfg.void = true := by simp [hvoid]
  refine ⟨_, (exec_cfgSweepEnd hsweep).trans ((if_neg hnot).trans (if_pos hcap)), ?_, ?_, ?_, rfl⟩
  · rw [State.fld_setFld_ne _ (by decide) (by decide), State.fld_setFld_other _ rCfgCur_ne_rCfgRef]
    exact State.fld_sweepCrc
  · rw [State.fld_setFld_other _ rCfgCur_ne_rCfgRef.symm, State.fld_setFld_self _ (by decide)]
  · exact State.fld_setFld_self _ (by decide) _

theorem State.fld_withCfg (k : CfgChk) (c lo wd : Nat) : ({ s with cfg := k } : State).fld c lo wd = s.fld c lo wd := rfl

theorem cfgSweepEnd_agrees (hsweep : s.cfg.sweeping = true) (hvoid : s.cfg.void = false) (hcap : s.cfg.capSweep = false)
    (hsame : s.sweepCrc = s.fld rCfgCur 32 32) :
    ∃ t, exec .cfgSweepEnd s = .next t ∧ t.fld rCfgCur 0 32 = s.sweepCrc % 2 ^ 32 ∧ t.fld rCfgCtl 3 1 = s.fld rCfgCtl 3 1 ∧
      (bit (s.reg rCfgCtl) 0 = true → t.cfg.differed = false) := by
  have hnot : ¬ s.cfg.void = true := by simp [hvoid]
  have hnocap : ¬ s.cfg.capSweep = true := by simp [hcap]
  have hkept : (s.sweepOver.setFld rCfgCur 0 32 s.sweepCrc).fld rCfgCtl 3 1 = s.fld rCfgCtl 3 1 := State.fld_setFld_other _ rCfgCtl_ne_rCfgCur ..
  have hexec := (exec_cfgSweepEnd hsweep).trans ((if_neg hnot).trans (if_neg hnocap))
  by_cases hen : bit (s.reg rCfgCtl) 0 = true
  · refine ⟨_, hexec.trans ((if_neg (not_not_intro hen)).trans (if_pos hsame)), ?_, ?_, fun _ => rfl⟩
    · rw [State.fld_withCfg]
      exact State.fld_sweepCrc
    · rw [State.fld_withCfg]
      exact hkept
  · exact ⟨_, hexec.trans (if_pos hen), State.fld_sweepCrc, hkept, fun h => absurd h hen⟩

/-- The registers of a compared sweep that differs: FAIL is set and counted. -/
theorem State.cfgDiffers_fields (crc : Nat) :
    (s.cfgDiffers crc).cfg.differed = true ∧ (s.cfgDiffers crc).fld rCfgCtl 3 1 = 1 ∧
      (s.cfgDiffers crc).fld rCfgCtl 8 16 = min (2 ^ 16 - 1) (s.fld rCfgCtl 8 16 + 1) := by
  have hreg : (s.cfgDiffers crc).reg rCfgCtl = ((s.setFld rCfgCtl 3 1 1).bumpFld rCfgCtl 8 16 1).reg rCfgCtl := by
    unfold State.cfgDiffers
    dsimp only
    split
    · rfl
    · exact State.reg_hwError (s := (s.setFld rCfgCtl 3 1 1).bumpFld rCfgCtl 8 16 1) (by decide) ..
  refine ⟨rfl, ?_, ?_⟩
  · rw [State.fld, hreg]
    exact (State.fld_setFld_ne _ (by decide) (by decide) _).trans (State.fld_setFld_self _ (by decide) _)
  · rw [State.fld, hreg]
    refine (State.fld_bumpFld_self _ (by decide) _).trans ?_
    rw [State.fld_setFld_ne _ (by decide) (by decide)]

theorem cfgSweepEnd_differs (hsweep : s.cfg.sweeping = true) (hvoid : s.cfg.void = false) (hcap : s.cfg.capSweep = false)
    (hen : bit (s.reg rCfgCtl) 0 = true) (hdiff : s.sweepCrc ≠ s.fld rCfgCur 32 32) :
    ∃ t, exec .cfgSweepEnd s = .next t ∧ t.cfg.differed = true ∧ t.fld rCfgCtl 3 1 = 1 ∧
      t.fld rCfgCtl 8 16 = min (2 ^ 16 - 1) (s.fld rCfgCtl 8 16 + 1) := by
  have hnot : ¬ s.cfg.void = true := by simp [hvoid]
  have hnocap : ¬ s.cfg.capSweep = true := by simp [hcap]
  have hexec := (exec_cfgSweepEnd hsweep).trans ((if_neg hnot).trans ((if_neg hnocap).trans ((if_neg (not_not_intro hen)).trans (if_neg hdiff))))
  obtain ⟨hdiffered, hfail, hcount⟩ := State.cfgDiffers_fields (s := s.sweepOver.setFld rCfgCur 0 32 s.sweepCrc) s.sweepCrc
  refine ⟨_, hexec, hdiffered, hfail, ?_⟩
  rw [hcount, State.fld_setFld_other _ rCfgCtl_ne_rCfgCur]
  rfl

theorem cfgchkEn_sets (hrails : s.clasp.rails = true) (v : Bool) :
    ∃ t, exec (.cfgchkEn v) s = .next t ∧ t.fld rCfgCtl 0 1 = b2n v ∧ (∀ r, r ≠ rCfgCtl → t.reg r = s.reg r) := by
  refine ⟨_, if_pos hrails, ?_, fun r hr => State.reg_setFld_ne _ hr ..⟩
  rw [State.fld_setFld_self _ (by decide)]
  cases v <;> rfl

end Sweeps

section RegionPower

variable {s : State} {i : Nat}

/-- A region without power: dark, its cores' memories and its CMP_ registers lost. -/
def State.regionDark (s : State) (i : Nat) : State :=
  let s2 := s.setRegion i { s.region i with powered := false, target := none, railUp := false, droop := false }
  { s2 with
    cores := tmap (fun c (k : Core) => if coreIsland c = i then k.dark else k) s2.cores
    regs := s2.regs.filter (fun e => decide (e.1 < 0x2000000) || regIsland e.1 != i) }

theorem exec_regionPowerDown (hi : i ≤ 15) (hup : (s.region i).powered = true) (hbit : bit (s.fld rRgnPwr 0 16) i = true)
    (hfree : s.wayOwned i = false) :
    exec (.regionPowerDown i) s = .next ((foldS (List.range 8) s (fun st k => st.offCache (8 * i + k))).regionDark i).capChange := by
  have hgo : ¬ (15 < i ∨ ¬ (s.region i).powered = true ∨ ¬ bit (s.fld rRgnPwr 0 16) i = true ∨ s.wayOwned i = true) := by
    simp [hi, hup, hbit, hfree]
  simp only [exec_eq_regionPowerDown, execRegionPowerDown, if_neg hgo, State.regionDark]

theorem State.regionDark_powered : ((s.regionDark i).region i).powered = false :=
  congrArg Region.powered (State.region_setRegion_self (s := s) i { s.region i with powered := false, target := none, railUp := false, droop := false })

theorem State.regionDark_core {c : Nat} {k : Core} (hc : coreIsland c = i) (hk : tget c (s.regionDark i).cores = some k) :
    k.sp = [] ∧ k.acc = [] ∧ k.tlb = [] := by
  simp only [State.regionDark, tget_tmap, Option.map_eq_some_iff, if_pos hc] at hk
  obtain ⟨k0, -, rfl⟩ := hk
  exact ⟨rfl, rfl, rfl⟩

theorem State.regionDark_reg {r : Nat} (hpage : 0x2000000 ≤ r) (hr : regIsland r = i) : (s.regionDark i).reg r = resetOf r % 2 ^ 64 := by
  have hlost : ∀ v : Word, (fun e : Nat × Word => decide (e.1 < 0x2000000) || regIsland e.1 != i) (r, v) = false := by
    intro v
    simp [hr, hpage]
  rw [State.reg, tgetD]
  simp only [State.regionDark]
  rw [tget_filter_none hlost]
  exact BitVec.toNat_ofNat ..

theorem exec_regionPowerUp (hi : i ≤ 15) (hrails : s.clasp.rails = true) (hstandby : s.standby = none) (hdark : (s.region i).powered = false)
    (hdie : (s.fabric (i / 8)).failed = false) (hbit : bit (s.fld rRgnPwr 0 16) i = false) :
    exec (.regionPowerUp i) s = .next (s.regionUp i).voidSweep.capChange := by
  have hgo : ¬ (15 < i ∨ ¬ s.clasp.rails = true ∨ s.standby.isSome = true ∨ (s.region i).powered = true ∨ (s.fabric (i / 8)).failed = true ∨
      bit (s.fld rRgnPwr 0 16) i = true) := by
    simp [hi, hrails, hstandby, hdark, hdie, hbit]
  exact if_neg hgo

end RegionPower

/-- Settles O46: a sweep by the branch that it ends in, the power of a region by what darkness leaves of its cores and registers. -/
theorem configurationIsChecked : Obligations.ConfigurationIsChecked := by
  refine ⟨fun s hrails hidle hcount => cfgSweepStart_starts hrails hidle hcount, fun s hsweep hvoid => exec_cfgSweepEnd_void hsweep hvoid,
    fun s hsweep hvoid hcap => cfgSweepEnd_captures hsweep hvoid hcap, fun s hsweep hvoid hcap hsame => cfgSweepEnd_agrees hsweep hvoid hcap hsame,
    fun s hsweep hvoid hcap hen hdiff => cfgSweepEnd_differs hsweep hvoid hcap hen hdiff, fun s hrails => if_pos hrails, fun s hrails => if_pos hrails,
    fun s v hrails => cfgchkEn_sets hrails v, fun s v hrails => if_pos hrails, ?down,
    fun s i hi hrails hstandby hdark hdie hbit => exec_regionPowerUp hi hrails hstandby hdark hdie hbit⟩
  case down =>
    intro s i hi hup hbit hfree
    refine ⟨_, exec_regionPowerDown hi hup hbit hfree, ?_⟩
    generalize foldS (List.range 8) s _ = s1
    exact ⟨State.regionDark_powered (s := s1), fun c k hc hk => State.regionDark_core (s := s1) hc hk,
      fun r hpage hr => State.regionDark_reg (s := s1) hpage hr⟩

end Sys2Proof.Machine

namespace Sys2Proof.Machine

/-! ## The messages of the management bus (R609, R640-R644) -/

section Messages

variable {s : State} {op : Nat} {p : Bytes} {c : BitVec 32} {allowed argOk : Bool} {go : State → Bytes × State}

theorem State.message_badCrc (haux : s.clasp.aux = true) (hcrc : c.toNat ≠ msgCrc op p) :
    s.message op p c allowed argOk go = .next (s.emit (.mgmt op 1 [])) :=
  (if_neg (not_not_intro haux)).trans (if_pos hcrc)

theorem State.message_refused (haux : s.clasp.aux = true) (hcrc : c.toNat = msgCrc op p) (hno : allowed = false) :
    s.message op p c allowed argOk go = .next (s.emit (.mgmt op 2 [])) := by
  have hnot : ¬ allowed = true := by simp [hno]
  exact (if_neg (not_not_intro haux)).trans ((if_neg (not_not_intro hcrc)).trans (if_pos hnot))

/-- A message that is allowed, with arguments in range, acts. -/
theorem State.message_acts (haux : s.clasp.aux = true) (hcrc : c.toNat = msgCrc op p) (hallowed : allowed = true) (harg : argOk = true)
    (hlen : p.length ≤ 256) : s.message op p c allowed argOk go = .next ((go s).2.emit (.mgmt op 0 (go s).1)) := by
  have hgood : ¬ (¬ argOk = true ∨ 256 < p.length) := by simp [harg, hlen]
  exact (if_neg (not_not_intro haux)).trans ((if_neg (not_not_intro hcrc)).trans ((if_neg (not_not_intro hallowed)).trans (if_neg hgood)))

end Messages

section Calibration

/-- The bytes of the calibration page under a write: its own where it reaches, but for HOURS; the others as they were. -/
theorem Clasp.tget_putCal (k : Clasp) (o : Nat) (b : Bytes) (a : Nat) :
    (o ≤ a → a < o + b.length → ¬ (0x10 ≤ a ∧ a < 0x18) → tget a (k.putCal o b).cal = b[a - o]?) ∧
      (¬ (o ≤ a ∧ a < o + b.length) → tget a (k.putCal o b).cal = tget a k.cal) := by
  induction b generalizing k o with
  | nil => exact ⟨fun hlo hhi => absurd hhi (Nat.not_lt.mpr hlo), fun _ => rfl⟩
  | cons v t ih =>
    obtain ⟨hin, hout⟩ := ih (if 0x10 ≤ o ∧ o < 0x18 then { k with hours := setBits k.hours (8 * (o - 0x10)) 8 v.toNat }
      else { k with cal := tput o v k.cal }) (o + 1)
    rw [List.length_cons]
    refine ⟨fun hlo hhi hhours => ?_, fun hno => ?_⟩
    · rcases Nat.eq_or_lt_of_le hlo with rfl | hlt
      · refine (hout (by omega)).trans ?_
        rw [if_neg hhours, tget_tput_self, Nat.sub_self, List.getElem?_cons_zero]
      · have hnext : a - o = (a - (o + 1)) + 1 := by omega
        rw [hnext, List.getElem?_cons_succ]
        exact hin hlt (by omega) hhours
    · refine (hout (by omega)).trans ?_
      split
      · rfl
      · exact tget_tput_ne (by omega) _ _

theorem chunkOk_length {p : Bytes} {top : Nat} (h : chunkOk p top = true) : 5 ≤ p.length ∧ p.length ≤ 256 := by
  simp only [chunkOk, decide_eq_true_eq] at h
  omega

theorem calWrite_writes {s : State} {p : Bytes} {c : BitVec 32} (haux : s.clasp.aux = true) (hoff : s.clasp.pwrgood = false)
    (hchunk : chunkOk p 65536 = true) (hcrc : c.toNat = msgCrc 0x09 p) :
    ∃ t, exec (.calWrite p c) s = .next t ∧
      (∀ a, fieldLe p 0 4 ≤ a → a < fieldLe p 0 4 + (p.length - 4) → ¬ (0x10 ≤ a ∧ a < 0x18) → tget a t.clasp.cal = p[4 + (a - fieldLe p 0 4)]?) ∧
      (∀ a, ¬ (fieldLe p 0 4 ≤ a ∧ a < fieldLe p 0 4 + (p.length - 4)) → tget a t.clasp.cal = tget a s.clasp.cal) := by
  have hlen : (p.drop 4).length = p.length - 4 := List.length_drop
  have hcal := fun a => Clasp.tget_putCal s.clasp (fieldLe p 0 4) (p.drop 4) a
  simp only [hlen, List.getElem?_drop] at hcal
  have hallowed : (!s.clasp.pwrgood || decide (s.clasp.boot = .recovery)) = true := by simp [hoff]
  exact ⟨_, (show execCalWrite p c s = _ from State.message_acts haux hcrc hallowed hchunk (chunkOk_length hchunk).2), fun a => (hcal a).1, fun a => (hcal a).2⟩

end Calibration

section Recovery

variable {s : State} {p : Bytes} {c : BitVec 32}

theorem imgData_writes (haux : s.clasp.aux = true) (hboot : s.clasp.boot = .recovery) (hchunk : chunkOk p s.clasp.imgSize = true)
    (hcrc : c.toNat = msgCrc 0x11 p) :
    ∃ t, exec (.imgData p c) s = .next t ∧
      ∀ a, mbyte t.clasp.img a = if fieldLe p 0 4 ≤ a ∧ a < fieldLe p 0 4 + (p.length - 4) then p.getD (4 + (a - fieldLe p 0 4)) 0
        else mbyte s.clasp.img a := by
  refine ⟨_, (show execImgData p c s = _ from State.message_acts haux hcrc (decide_eq_true hboot) hchunk (chunkOk_length hchunk).2), fun a => ?_⟩
  have hlen : (p.drop 4).length = p.length - 4 := List.length_drop
  split
  next hin =>
    have hat : a = fieldLe p 0 4 + (a - fieldLe p 0 4) := by omega
    have hlt : a - fieldLe p 0 4 < (p.drop 4).length := by omega
    have hread : mbyte (mwrite s.clasp.img (fieldLe p 0 4) (p.drop 4)) (fieldLe p 0 4 + (a - fieldLe p 0 4)) = (p.drop 4)[a - fieldLe p 0 4] :=
      mbyte_mwrite_in hlt
    rw [← hat, List.getElem_drop] at hread
    rw [List.getD_eq_getElem _ _ (by omega)]
    exact hread
  next hout => exact mbyte_mwrite_out (by omega)

theorem imgEnd_answers (haux : s.clasp.aux = true) (hboot : s.clasp.boot = .recovery) (hcrc : c.toNat = msgCrc 0x12 []) :
    ∃ t, exec (.imgEnd [] c) s = .next t ∧ (t.clasp.boot = .flashing ↔ s.imgFail s.recvImage = 0) ∧ t.clasp.flash = s.clasp.flash ∧
      t.out = s.out ++ [.mgmt 0x12 0 (le 1 (s.imgFail s.recvImage))] := by
  refine ⟨_, (show execImgEnd [] c s = _ from State.message_acts haux hcrc (decide_eq_true hboot) rfl (by decide)), ?_, rfl, rfl⟩
  by_cases hpass : s.imgFail s.recvImage = 0 <;> simp [State.emit, hpass]

end Recovery

/-- Settles O47: each message through `message`, which acts when its CRC, its state and its arguments let it. -/
theorem managementBusAnswers : Obligations.ManagementBusAnswers := by
  refine ⟨fun s op p c a g f haux hcrc => State.message_badCrc haux hcrc, ?status, ?event, ?log, ?setId, ?refused, ?total, ?wake, ?read,
    fun s p c haux hoff hchunk hcrc => calWrite_writes haux hoff hchunk hcrc, ?begins,
    fun s p c haux hboot hchunk hcrc => imgData_writes haux hboot hchunk hcrc, fun s c haux hboot hcrc => imgEnd_answers haux hboot hcrc⟩
  case status =>
    intro s c haux hcrc
    exact ⟨_, _, (show execStatus [] c s = _ from State.message_acts haux hcrc rfl rfl (by decide)), rfl, rfl⟩
  case event =>
    intro s c haux hboot hcrc
    refine ⟨fun hnone => ?_, fun b r hsome => ?_⟩
    · refine (show execEventRead [] c s = _ from State.message_acts haux hcrc (decide_eq_true hboot) rfl (by decide)).trans ?_
      rw [hnone]
    · refine (show execEventRead [] c s = _ from State.message_acts haux hcrc (decide_eq_true hboot) rfl (by decide)).trans ?_
      rw [hsome]
  case log =>
    intro s p c haux hlen hi hcrc
    exact ⟨_, (show execLogRead p c s = _ from State.message_acts haux hcrc rfl (decide_eq_true ⟨hlen, hi⟩) (by omega)), rfl⟩
  case setId =>
    intro s p c haux hlen hcrc hnone
    exact (show execSetPkgId p c s = _ from State.message_acts haux hcrc (by simp [hnone]) (decide_eq_true hlen) (by omega))
  case refused =>
    intro s p c haux hcrc hreset htable hother
    exact (show execSetPkgId p c s = _ from State.message_refused haux hcrc (by simp [hreset, htable, hother]))
  case total =>
    intro s p c haux hboot hlen hcrc
    exact (show execGroupTotal p c s = _ from State.message_acts haux hcrc (decide_eq_true hboot) (decide_eq_true hlen) (by omega))
  case wake =>
    intro s c haux hstandby hcrc
    exact (show execWake [] c s = _ from State.message_acts haux hcrc hstandby rfl (by decide))
  case read =>
    intro s p c haux hlen halign hrange hcrc
    exact (show execCalRead p c s = _ from State.message_acts haux hcrc rfl (decide_eq_true ⟨hlen, halign, hrange⟩) (by omega))
  case begins =>
    intro s p c haux hboot hlen hsize hcrc
    exact (show execImgBegin p c s = _ from State.message_acts haux hcrc (decide_eq_true hboot) (decide_eq_true ⟨hlen, hsize⟩) (by omega))

end Sys2Proof.Machine

namespace Sys2Proof.Machine

/-! ## One hub cycle with no command waiting (R34, R36, log 1) -/

section Cycle

variable {s t u : State}

/-- A request but for the stamp of its arrival. -/
def Req.unstamped (q : Req) : Req := { q with arr := none }

/-- From `s` to `t` the networks have moved: requests may have had their arrival stamped, and nothing else of the part has changed. -/
def Travelled (s t : State) : Prop :=
  t = { s with net := t.net, reqs := t.reqs } ∧ ∀ r, (t.req? r).map Req.unstamped = (s.req? r).map Req.unstamped

theorem Travelled.trans (h : Travelled s t) (g : Travelled t u) : Travelled s u := by
  obtain ⟨hst, hreq⟩ := h
  obtain ⟨htu, hreq'⟩ := g
  refine ⟨?_, fun r => (hreq' r).trans (hreq r)⟩
  rw [hst] at htu
  exact htu

theorem Req.unstamped_arrive (q : Req) (n : Nat) : (q.arrive n).unstamped = q.unstamped := by
  unfold Req.arrive
  split <;> rfl

/-- A request that arrives is stamped. -/
theorem Travelled.setReq {i : Nat} {q q' : Req} (h : Travelled s t) (hq : t.req? i = some q) (hsame : q'.unstamped = q.unstamped) :
    Travelled s (t.setReq i q') := by
  obtain ⟨hst, hreq⟩ := h
  refine ⟨?_, fun r => Eq.trans ?_ (hreq r)⟩
  · rw [hst]
    rfl
  · by_cases hr : r = i
    · rw [hr, hq, State.reqQ_setReq_self]
      exact congrArg some hsame
    · rw [State.reqQ_setReq_ne _ hr]

/-- The request of a message whose last flit has come stands at its home. -/
def State.arriveReq (s : State) (i : Nat) : State :=
  match s.req? i with
  | some q => (match s.homeOf q.pa with | some h => s.setReq i (q.arrive (s.homeClock h)) | none => s)
  | none => s

theorem State.fabricCycle_eq :
    s.fabricCycle = foldS (Net.cycle s.netEnv s.inject).2 { s with net := (Net.cycle s.netEnv s.inject).1 } State.arriveReq := rfl

theorem Travelled.arriveReq (h : Travelled s t) (i : Nat) : Travelled s (t.arriveReq i) := by
  unfold State.arriveReq
  cases hq : t.req? i with
  | none => exact h
  | some q =>
    dsimp only
    split
    · exact h.setReq hq (Req.unstamped_arrive ..)
    · exact h

theorem State.fabricCycle_travelled (s : State) : Travelled s s.fabricCycle := by
  have hmoved : Travelled s { s with net := (Net.cycle s.netEnv s.inject).1 } := ⟨rfl, fun _ => rfl⟩
  rw [State.fabricCycle_eq]
  exact foldS_keeps hmoved _ State.arriveReq (fun _ i h => h.arriveReq i)

theorem State.atsSettle_none (h : s.link.atsWait = []) : s.atsSettle = s := by
  have hlink : { s.link with atsWait := ([] : List (Nat × Nat × List Nat)) } = s.link := by rw [← h]
  simp only [State.atsSettle, h, List.filter_nil, foldS, List.foldl_nil, hlink]

theorem State.rotation_none (h : ∀ m, (s.memSlice m).rotAt = none) : s.rotation = s := by
  unfold State.rotation
  split
  · rfl
  · refine foldS_keeps (P := fun t => t = s) rfl _ _ (fun st m hst => ?_)
    subst hst
    rw [h m]

/-- With no invalidation and no rotation under way a tick counts, lets the networks move and looks at the cores' watchdogs. -/
theorem State.tick_quiet (hrails : s.clasp.rails = true) (hats : s.link.atsWait = []) (hrot : ∀ m, (s.memSlice m).rotAt = none) :
    ∃ s2, Travelled s.counts s2 ∧ s.tick = s2.watchCores := by
  have htravel : Travelled s.counts s.counts.fabricCycle.fabricCycle := (State.fabricCycle_travelled _).trans (State.fabricCycle_travelled _)
  refine ⟨_, htravel, ?_⟩
  have hlink : s.counts.fabricCycle.fabricCycle.link.atsWait = [] := by
    rw [htravel.1]
    exact hats
  have hslices : ∀ m, (s.counts.fabricCycle.fabricCycle.memSlice m).rotAt = none := by
    rw [htravel.1]
    exact hrot
  rw [State.tick, if_pos hrails, State.atsSettle_none hlink, State.rotation_none hslices]

/-- The watchdogs change nothing of a core but when it last retired. -/
theorem State.watchCores_core (c : Nat) : { s.watchCores.core c with lastRet := 0 } = { s.core c with lastRet := 0 } := by
  simp only [State.watchCores, State.core, tgetD, tget_tmap]
  cases tget c s.cores with
  | none => rfl
  | some k =>
    simp only [Option.map_some, Option.getD_some]
    split <;> rfl

theorem State.counts_fabric {d : Nat} (h : (s.fabric d).running = true) : (s.counts.fabric d).count = (s.fabric d).count + 2 := by
  simp only [State.counts, State.fabric, tgetD, tget_tmap] at h ⊢
  cases hd : tget d s.fabrics with
  | none => simp [hd] at h
  | some f =>
    simp only [hd, Option.getD_some] at h
    simp only [Option.map_some, Option.getD_some, if_pos h]

/-- A region's tick adds its frequency to its count in cycles per 1,000 ns. -/
theorem Region.tick_count {r : Region} (hup : r.powered = true) (hdroop : r.droop = false) :
    1000 * r.tick.count + r.tick.frac = 1000 * r.count + r.frac + r.setMhz := by
  simp only [Region.tick, hup, hdroop, Bool.false_eq_true, if_true, if_false]
  omega

theorem State.counts_region {i : Nat} (hup : (s.region i).powered = true) : s.counts.region i = (s.region i).tick := by
  simp only [State.counts, State.region, tgetD, tget_tmap] at hup ⊢
  cases hi : tget i s.regions with
  | none => simp [hi] at hup
  | some r => rfl

end Cycle

/-- Settles O2: a quiet tick is a count, two moves of the networks and a look at the watchdogs, each of which changes its own fields alone. -/
theorem emptyQueueLetsOneHubCyclePass : Obligations.EmptyQueueLetsOneHubCyclePass := by
  intro s hpending hrails hats hrot
  obtain ⟨s2, ⟨hrest, hreqs⟩, htick⟩ := State.tick_quiet hrails hats hrot
  have hstep : step s = .next s.tick := by
    unfold step
    rw [hpending]
  refine ⟨s2.watchCores, hstep.trans (congrArg Host.Outcome.next htick), ?_, ?_, hreqs, fun c => ?_, fun d hd => ?_, fun i hup hdroop => ?_⟩
  · rw [hrest]
    rfl
  · rw [hrest]
    rfl
  · rw [State.watchCores_core, hrest]
    rfl
  · rw [hrest]
    exact State.counts_fabric hd
  · rw [hrest]
    exact (congrArg (fun r => 1000 * r.count + r.frac) (State.counts_region hup)).trans (Region.tick_count hup hdroop)

end Sys2Proof.Machine
